-- ==== Sys2Proof/Word.lean ====
section
/-! DEFINITION. The word of the register space: 16 bits (R9). -/
namespace Sys2Proof

/-- R9: a register word. -/
abbrev Word := BitVec 16

/-- A byte of a frame, of the NVM or of the pack's bus. -/
abbrev Byte := BitVec 8

end Sys2Proof
end

