-- ==== Sys2Proof/Syntax.lean ====
section
/-! DEFINITION. The commands of the YH6410: one constructor for each row of the table of operations and events, with its operands. Levels are numbers in the unit that the docstring names. -/
namespace Sys2Proof

/-- R165: the pins as an engine samples them at the start of a step time. -/
structure PinSample where
  pbLow  : Bool
  wake1  : Bool
  wake2  : Bool
  stroke : Bool
  syncIn : Bool
  /-- R146: the sample opens a step time of its own, whichever engines have executed before. -/
  fresh  : Bool
deriving DecidableEq, Repr

/-- R22 to R27: the voltages at the strap balls ROLE, HSEL, ADDRH and ADDRL in mV, with the device's 20 µA in their resistors. -/
structure Straps where
  role  : Nat
  hsel  : Nat
  addrH : Nat
  addrL : Nat
deriving DecidableEq, Repr

/-- A host frame (R110 to R121): `body` is what the host sent after the opcode byte, in whole bytes; a byte cut off in its middle is not among them. -/
structure Frame where
  /-- R112: the 7-bit address of an I2C frame; SPI has none. -/
  target  : Nat
  /-- R119: the frame ended before the last bit of its opcode byte. -/
  opCut   : Bool
  body    : List Byte
  /-- R40: in SPI the first HSCK edge came less than 15 µs after HCS_N fell. -/
  tooSoon : Bool
  /-- Bytes of reply data and reply CRC that the host transferred. -/
  taken   : Nat
  /-- R117: in I2C the command ended with a STOP and no read part followed. -/
  noRead  : Bool
deriving DecidableEq, Repr

/-- R239, R554: what the power switches have done up to an event on the monitors: the domains of which a high side has turned on since the command before (1 for a phase of DRIVE), and whether the
LOCK switch conducts. -/
structure Switching where
  turnOns : List Nat
  lockOn  : Bool
deriving DecidableEq, Repr

/-- R45, R203: what PFW_HOLD runs for. -/
inductive HoldFor where
  | warn | noBattery
deriving DecidableEq, Repr

/-- R474: an answer of a milestone: kind, address, data. -/
structure Answer where
  kind : Nat
  addr : Nat
  data : Nat
deriving DecidableEq, Repr

/-- One constructor per row of the table. -/
inductive Instr where
  -- Supplies, clocks, BOOT, power states
  /-- The higher of LINE (0.1 V) and BATT (mV) passes the start threshold. -/
  | preregStart (lineDv battMv : Nat)
  /-- AO is ready: the voltages at the straps, and whether a battery is present (R396). -/
  | aoReady (straps : Straps) (pack : Bool)
  | preregStop (lineDv battMv : Nat)
  /-- VBKUP in mV. -/
  | vbkupLevelChange (mv : Nat)
  /-- The bytes of copies A and B as read, and the voltages at the straps, which a reset and a wake read before the image loads (R23). -/
  | imageReadDone (copyA copyB : List Byte) (straps : Straps)
  /-- The 2,048 bytes of each slot. -/
  | learnedReadDone (slotA slotB : List Byte)
  /-- The 256 bytes of the ring. -/
  | fflogReadDone (ring : List Byte)
  | sysReset (w : Word)
  | sysShip (w : Word)
  /-- Hold time in ms. -/
  | pbRelease (ms : Nat)
  /-- WAKE1 or WAKE2 (1 or 2) and the direction of the edge. -/
  | wakePinEdge (pin : Nat) (rising : Bool)
  | pfwHoldExpiry (cause : HoldFor)
  /-- The region, 0 to 7. -/
  | thermalShutdown (k : Nat)
  | shutdownRelease (k : Nat)
  -- Host frames
  | nop (f : Frame)
  | rd (f : Frame)
  | wr (f : Frame)
  | rdb (f : Frame)
  | rd32 (f : Frame)
  | qpop (f : Frame)
  | qpopReread (f : Frame)
  | ack (f : Frame)
  | rly (f : Frame)
  | hello (f : Frame)
  | select (f : Frame)
  | reservedOpcode (op : Byte) (f : Frame)
  /-- The I2C address, and the bytes read. -/
  | statusPoll (target taken : Nat)
  | i2cBusTimeout
  | registerWrite (addr value : Word)
  | hifAck (w : Word)
  | hifErrRead
  -- Learned data and the NVM
  | ldErase (w : Word)
  | fflogErase (w : Word)
  | writebackRequest (w : Word)
  /-- The bytes of the slot as read back. -/
  | verifyReadDone (bytes : List Byte)
  /-- The bytes of the chunk. -/
  | copyBChunkDone (bytes : List Byte)
  -- Engines: k is the engine, 0 to 11
  | engineStart (k : Nat)
  | engEnd (k : Nat)
  | enableDomain (k : Nat)
  | enableSequence (k : Nat)
  | enableResetRelease (k : Nat)
  | enableMonitor (k : Nat)
  | enableShedSet (k : Nat)
  | disableDomain (k : Nat)
  | disableSequence (k : Nat)
  | disableReset (k : Nat)
  | disableMonitor (k : Nat)
  | disableShedSet (k : Nat)
  | set (k : Nat)
  | wait (k : Nat)
  | waitExpiry (k : Nat)
  | waitc (k : Nat) (pins : PinSample)
  | waitcConditionMet (k : Nat) (pins : PinSample)
  | waitcTimeout (k : Nat)
  | check (k : Nat) (pins : PinSample)
  | jump (k : Nat) (pins : PinSample)
  | signalSetFlags (k : Nat)
  | signalClearFlags (k : Nat)
  | signalDrivePin (k : Nat)
  | signalRaiseSource (k : Nat)
  | signalPostReport (k : Nat)
  | signalStartTimer (k : Nat)
  | signalRequestState (k : Nat)
  | sync (k : Nat)
  | syncRelease (k : Nat)
  | loop (k : Nat)
  | engStall (k : Nat)
  /-- The timer, 0 to 3. -/
  | timerExpiry (t : Nat)
  | hkTick
  | aliveToggle
  | aliveMiss
  | engTrig (w : Word)
  | engDbgHalt (w : Word)
  | engDbgStep (w : Word) (pins : PinSample)
  | engDbgResume (w : Word)
  /-- The gauge controller's watchdog, or the link controller's. -/
  | controllerWatchdog (gauge : Bool)
  -- Domains, monitors, regulators: n is the domain, k the monitor, levels in mV
  | softStartEnd (n : Nat)
  | powerGood (n : Nat)
  | comparatorChange (k mv : Nat) (sw : Switching)
  | underVoltageReport (n : Nat)
  /-- The reset output, 0 RSTA_N to 2 RSTC_N. -/
  | resetOutputRelease (out : Nat)
  | blankingEnd (k mv : Nat) (sw : Switching)
  /-- The sampled monitors with their inputs. -/
  | supervisionTick (inputs : List (Nat × Nat)) (sw : Switching)
  | generalTimerExpiry
  | inputLockoutChange (n mv : Nat)
  | dischargeEnd (n : Nat)
  | currentLimitActs (n : Nat)
  | dvsSetpointWrite (n : Nat) (w : Word)
  | dvsTargetReached (n : Nat)
  | dvsSlewDone (n : Nat)
  /-- VDRV in mV. -/
  | lockPullinEnd (vdrv : Nat)
  /-- Whether the period before it ended in the same way. -/
  | lockShortCircuit (consecutive : Bool)
  | lockDemagEnd
  | domCntclr (n : Nat) (w : Word)
  | pumaxExpiry
  | pdmaxExpiry
  -- Line, sluice and weir: LINE in 0.1 V, VDRV and BATT in mV
  | linePresent (dv : Nat)
  | lineNotPresent (dv : Nat)
  /-- The voltage at SRCID in mV. -/
  | srcidReadDone (mv : Nat)
  | lineWindowChange (dv : Nat)
  | lineQualified
  | lineLoss (dv : Nat)
  | lineOvOpening (dv : Nat)
  | lineShortCircuit
  | staggerEnd
  | soaExpiry
  | sluiceFullyOn (vdrv : Nat)
  | retryDelayEnd
  | retryCountClear
  | lineImplausible
  | chgokSet
  | linLatchClear (w : Word)
  | linCounterClear (w : Word)
  | weirTurnOn (vdrv batt : Nat)
  | weirReverseBlock (vdrv batt : Nat)
  | weirTakeoverDone (vdrv batt : Nat)
  | weirTakeoverFail
  | weirShortCircuit
  | weirHandback
  -- DRIVE
  /-- VDRV in mV, the voltages on the DRIVE shunt and on the line shunt in µV, V(LSRC) in mV, whether the sum of the phase currents is within 25 % of iout (R309), and whether the 1 ms measurements are taken at this edge. -/
  | driveFrame (vdrv : Nat) (dcs lsense : Int) (vlsrc : Nat) (sumAgrees sample : Bool)
  /-- The means of the voltages on CS1 to CS6 and the voltage on the DRIVE shunt, in µV. -/
  | balanceUpdate (cs : List Int) (dcs : Int)
  /-- The phase error in 0.01° and the period in ns. -/
  | syncInEdge (err : Int) (period : Nat)
  | syncLoss
  /-- The phase, 1 to 6, and the voltage on its sense pair in µV; of a phase in duty mirror, that on the DRIVE shunt. -/
  | driveFastLimit (k : Nat) (cs : Int)
  /-- The phase. -/
  | hiccupEntry (k : Nat)
  | hiccupEnd
  | driveOverload
  /-- The voltage on the DRIVE shunt in µV. -/
  | phaseShed (dcs : Int)
  | phaseReadd (dcs : Int)
  | sheddingResume
  /-- The phase and iout in 0.1 A. -/
  | openPhaseDetect (k iout : Nat)
  /-- The phase, the test (1 common mode, 2 ripple, 3 sum) and iout in 0.1 A. -/
  | senseFailDetect (k test iout : Nat)
  | senseSumFail
  | phaseRetire (ks : List Nat)
  | driveSoftStartEnd
  | driveSetpointWrite (w : Word)
  /-- VDRV was not within 2 % of the target, and TMAX passed. -/
  | driveTargetReached (tmax : Bool)
  | driveSlewDone
  | phaseReinstate (w : Word)
  | drvCntclr (w : Word)
  -- Strokes
  /-- The width in 0.1 µs. -/
  | strokePinHint (width : Nat)
  | stkHint (w : Word)
  | stkGo (w : Word)
  | stkEnd (w : Word)
  | stkCancel (w : Word)
  | prearmTimeout
  /-- BATT in mV. -/
  | strokeSample (battMv : Nat)
  | strokeStartDetect
  | strokeEndDetect
  /-- t_s + 1, 10 or 100 ms (k 0, 1, 2), BATT in mV and the current into the battery in mA. -/
  | provingSample (k battMv : Nat) (ib : Int)
  | batteryPhaseEnd
  /-- The stream, and capture ticks since the latest 1 ms sample. -/
  | streamInterval (k late : Nat)
  | recorderTimeExtension
  | stkRefctl (w : Word)
  | stkCntclr (w : Word)
  -- Charger and battery
  | batteryInserted (battMv : Nat)
  | batteryRemoved
  | presenceProbe
  | chargePhaseChange (battMv : Nat)
  | chargeTermination
  | topoffEnd
  | rechargeStart
  | prechargeTimerExpiry
  | safetyTimerExpiry
  | chgBatOv
  | chgBatOvRecover
  | chgStageOc
  | chgStageRestart
  | chgVinLow
  | chgVinLowRecover
  | chgWatchdogExpiry
  | chgWdKick (w : Word)
  | chgFaultRetry (w : Word)
  | chgCntClear (w : Word)
  /-- The charge current in mA, BATT and V(LSRC) in mV, iin and the voltage loop's output in mA. -/
  | chargerAllowanceUpdate (cs : Int) (battMv vlsrc : Nat) (lsense vloop : Int)
  -- Gauge and pack
  /-- The signed result. -/
  | coulombResult (raw : Int)
  | ccRange
  | gauAccRead
  | gaugeSecond (battMv : Nat)
  | voltageSaysEmpty
  | restPoint (battMv : Nat)
  /-- 100 ms or 1 s (k 2, 3), BATT in mV and the current into the battery in mA. -/
  | chargerStepSample (k battMv : Nat) (ib : Int)
  | authRequest (w : Word)
  | relearnSet (w : Word)
  | authPeriodic
  /-- The 32 bytes of the response and the 8 of the serial. -/
  | authResponseRead (resp : List Byte)
  /-- Whether the 100 ms after the challenge have passed. -/
  | authReadRetry (expired : Bool)
  | authBusHeld
  | authAttemptRetry
  -- Wayline: a is the address whose slot or window brought the frame
  | turnOrigin
  /-- TURN, FRAC with VER, SECH and the two answers. -/
  | milestoneReceived (turn fracver sech : Nat) (a0 a1 : Answer)
  | workerSlotSend
  | joinSend
  | joinRetry
  | statusFrameReceived (a payload : Nat)
  | requestFrameReceived (a payload : Nat)
  | releaseFrameReceived (a payload : Nat)
  | leaveFrameReceived (a : Nat)
  /-- Address, nonce, and for a W2 join the identity bits. -/
  | joinFrameReceived (a nonce : Nat) (ident : Option Nat)
  | waylineFrameError
  | workerAbsent (a : Nat)
  | wayOrphan
  | foreignMilestone
  | managerSilenceEnd
  | leaseEnd
  | leaseRenewalDue
  | relayWindow
  /-- The word address and the number of words. -/
  | relayRequestReceived (addr : Word) (count : Nat)
  | relayReplyReceived (a : Nat) (words : List Word)
  | wayRstcmd (w : Word)
  | wayCntclr (w : Word)
  -- Measurement converter
  | adcRoundStart (w : Word)
  | adcInj (w : Word)
  | injFlush (w : Word)
  /-- Whether the readback selection or the selected code changed within the latest 20 µs, and the stroke recorder's stream whose conversion is due. -/
  | adcConversionStart (recent : Bool) (stream : Option Nat)
  /-- The slice, its code, and capture ticks since the latest 1 ms sample. -/
  | adcConversionDone (slice code late : Nat)
  /-- The channel, 0 to 63. -/
  | adcResLoRead (c : Nat)
  | adcResHiRead (c : Nat)
  | calZero (w : Word)
  | calFull (w : Word)
  | calStepStart
  /-- The sums of the 64 codes of A and of B. -/
  | calStepEnd (sumA sumB : Nat)
  | bgCalStart
  /-- The sum of the 64 codes of the ground channel. -/
  | bgCalDone (sum : Nat)
  -- Thermal
  | throttleEnforce
  | throttleRelease
  | thmCntclr (w : Word)
  -- RTC
  | rtcTick
  | rtcSet (w : Word)
  | rtcStep (w : Word)
  | rtcCancel (w : Word)
  | rtcPendingApply
  | rtcSec0Read
  | rtcFracRead
  -- Collector and queue
  /-- The bank word, 0 to 7, and what is written to it. -/
  | fltFrc (k : Nat) (w : Word)
  | fltTest (w : Word)
  | fltCntclr (w : Word)
  | queueFlush (w : Word)
  | mrqCounterClear (w : Word)
  -- Events on the supplies, the clocks, the resets, the requests and the NVM that carry no operand
  | aoBrownout
  | viohLoss
  | viohReturn
  | crystalStable
  | lfXtalFail
  | fastOscStart
  | fastOscIdleStop
  | fastOscFail
  | pinReset
  | resetShutdownEnd
  | mrNRelease
  | sysCtrlReqRun
  | sysCtrlReqWatch
  | sysCtrlReqHibernate
  | minOffExpiry
  | pbPress
  | pbLongWarning
  | pbForceOff
  | pbShipHold
  | thermalRestart
  | thrstWindowExpiry
  | ldPeriodExpiry
  | writeBackRetry
  | nvmAccessStart
  | vnvmReady
  | vnvmOff
  | pageProgramDone
  | nvmPollTimeout
deriving DecidableEq, Repr

end Sys2Proof
end

