-- ==== Sys2Proof/Config.lean ====
section
/-! DEFINITION. What the model leaves open: free values (opaque constants with no body) and what one part carries in its fuses. Nothing in Lean can evaluate or prove a value of these. -/
namespace Sys2Proof.Config

/-- A free value: the n-th value the spec leaves open in a run, as a natural number that its user narrows to the field. The counter `State.freeCtr` names n. -/
opaque freeNat : Nat → Nat

/-- A choice the spec leaves open (which neighbour a value rounds to, which slice takes a conversion): the n-th in a run. -/
opaque freeBit : Nat → Bool

/-- Where the spec says "to the nearest" and a value lies exactly between two: whether the upper one is taken, by the doubled value and the divisor. -/
opaque tieUp : Int → Nat → Bool

/-- R24, R27: a strap voltage in mV that stands at the edge of two decision bands: whether it counts to the upper one. The spec gives the edge to neither. -/
opaque bandUp : Nat → Bool

/-- R139, R140: the identity fuses: 0 to 2 the lot number, 3 the wafer, 4 and 5 the die column and row, 6 the checksum of the unique identity. Set at manufacture; the spec gives no value. -/
opaque idFuse : Nat → BitVec 16

/-- R571: the factory trim of die sensor k, in 0.125 °C. The spec gives no value. -/
opaque tsTrim : Nat → Int

/-- R460: the fuse GAU_AUTHSTAT.KEY: a pack key is provisioned. -/
opaque packKeyFuse : Bool

/-- R450: byte k of the 128-bit pack key in OTP, which is never readable. -/
opaque keyByte : Nat → BitVec 8

end Sys2Proof.Config
end

