-- ==== Sys2Proof/Machine/RegMap.lean ====
section
/-! DEFINITION. The register map of the YH6410 (R141, R697 and the register descriptions of every chapter of spec/): for each word address the bits that exist, the bits a host
write sets, clears or stores, the survival class (R15) and the reset word (R14, R696). Written from the spec's register descriptions. -/
namespace Sys2Proof.Machine

/-- R15: the survival class of a register. `rtc` marks what is held with the RTC counters (R55, R611, R614, R615), `fuse` what is fixed at manufacture (R139). -/
inductive Survival where
  | volatile | config | kept | learned | rtc | fuse
deriving DecidableEq, Repr

/-- A run of words with one description: `impl` the bits that exist (R10), `rw` the bits a host write stores, `w1c` and `w1s` those it clears and sets, `resets` the reset words
(one for every word of the run, or one each). -/
structure RegGroup where
  base   : Nat
  count  : Nat
  impl   : Nat
  rw     : Nat
  w1c    : Nat
  w1s    : Nat
  surv   : Survival
  resets : List Nat
deriving DecidableEq, Repr

/-- The map as a search tree over the runs' base addresses. -/
inductive RegTree where
  | leaf
  | node (l : RegTree) (g : RegGroup) (r : RegTree)
deriving Repr

/-- The run that holds address `a`. -/
def RegTree.find (t : RegTree) (a : Nat) : Option RegGroup :=
  match t with
  | .leaf => none
  | .node l g r => if a < g.base then l.find a else if a < g.base + g.count then some g else r.find a

/-- The reset word of address `a` within its run. -/
def RegGroup.resetAt (g : RegGroup) (a : Nat) : Nat :=
  match g.resets with
  | [v] => v
  | vs => vs.getD (a - g.base) 0

/-- ID, R139. -/
def gID_1 : RegGroup := ⟨0x0000, 4, 0xFFFF, 0x0000, 0x0000, 0x0000, .fuse, [0x6410, 0x0101, 0x0000, 0x0000]⟩
/-- ID, R139. -/
def gID_2 : RegGroup := ⟨0x0004, 1, 0x000F, 0x0000, 0x0000, 0x0000, .fuse, [0x0000]⟩
/-- ID, R139. -/
def gID_3 : RegGroup := ⟨0x0005, 7, 0xFFFF, 0x0000, 0x0000, 0x0000, .fuse, [0x0000]⟩
/-- HIF_VER, R133. -/
def gHIF_VER : RegGroup := ⟨0x0010, 1, 0x0003, 0x0000, 0x0000, 0x0000, .volatile, [0x0001]⟩
/-- HIF_ERR, R134. -/
def gHIF_ERR : RegGroup := ⟨0x0011, 1, 0xFF0F, 0x0000, 0x0000, 0x0000, .volatile, [0x0000]⟩
/-- HIF_ACK, R135. -/
def gHIF_ACK : RegGroup := ⟨0x0012, 1, 0xFFFF, 0x0000, 0x0000, 0x0000, .volatile, [0x0000]⟩
/-- HIF_RLYSTAT, R136. -/
def gHIF_RLYSTAT : RegGroup := ⟨0x0014, 1, 0xF3FF, 0x0000, 0x0000, 0x0000, .volatile, [0x0000]⟩
/-- HIF_RLYADDR, R137. -/
def gHIF_RLYADDR : RegGroup := ⟨0x0015, 1, 0xFFFF, 0x0000, 0x0000, 0x0000, .volatile, [0x0000]⟩
/-- HIF_RLYBUF, R138. -/
def gHIF_RLYBUF : RegGroup := ⟨0x0020, 16, 0xFFFF, 0x0000, 0x0000, 0x0000, .volatile, [0x0000]⟩
/-- SYS_STATE, R56. -/
def gSYS_STATE : RegGroup := ⟨0x0100, 1, 0x0FFF, 0x0000, 0x0000, 0x0000, .volatile, [0x0021]⟩
/-- SYS_RSTCAUSE, R57. -/
def gSYS_RSTCAUSE : RegGroup := ⟨0x0101, 1, 0xFF0F, 0x0000, 0xBF00, 0x0000, .kept, [0x8201]⟩
/-- SYS_WAKECAUSE, R58. -/
def gSYS_WAKECAUSE : RegGroup := ⟨0x0102, 1, 0xFF0F, 0x0000, 0xFF00, 0x0000, .kept, [0x0000]⟩
/-- SYS_CTRL, R59. -/
def gSYS_CTRL : RegGroup := ⟨0x0103, 1, 0x0003, 0x0000, 0x0000, 0x0000, .volatile, [0x0000]⟩
/-- SYS_RESET, R60. -/
def gSYS_RESET : RegGroup := ⟨0x0104, 1, 0xFFFF, 0x0000, 0x0000, 0x0000, .volatile, [0x0000]⟩
/-- SYS_SHIP, R61. -/
def gSYS_SHIP : RegGroup := ⟨0x0105, 1, 0xFFFF, 0x0000, 0x0000, 0x0000, .volatile, [0x0000]⟩
/-- SYS_WAKECFG, R62. -/
def gSYS_WAKECFG : RegGroup := ⟨0x0106, 1, 0x03FF, 0x03FF, 0x0000, 0x0000, .config, [0x00C0]⟩
/-- SYS_PBCFG, R63. -/
def gSYS_PBCFG : RegGroup := ⟨0x0107, 1, 0x00FF, 0x0000, 0x0000, 0x0000, .config, [0x0043]⟩
/-- SYS_CFG, R64. -/
def gSYS_CFG : RegGroup := ⟨0x0108, 1, 0x003C, 0x0000, 0x0000, 0x0000, .config, [0x0024]⟩
/-- SYS_CLK, R41. -/
def gSYS_CLK : RegGroup := ⟨0x0109, 1, 0x000F, 0x0000, 0x0000, 0x0000, .volatile, [0x0000]⟩
/-- SYS_STRAP, R28. -/
def gSYS_STRAP : RegGroup := ⟨0x0110, 1, 0x3FFF, 0x0000, 0x0000, 0x0000, .volatile, [0x0000]⟩
/-- SYS_SCRATCH, R65. -/
def gSYS_SCRATCH : RegGroup := ⟨0x0120, 16, 0xFFFF, 0xFFFF, 0x0000, 0x0000, .kept, [0x0000]⟩
/-- SYS_IMGSTAT, R100. -/
def gSYS_IMGSTAT : RegGroup := ⟨0x0130, 1, 0x3FC0, 0x0000, 0x2000, 0x0000, .volatile, [0x0000]⟩
/-- SYS_IMGVER, R101. -/
def gSYS_IMGVER : RegGroup := ⟨0x0131, 1, 0xFFFF, 0x0000, 0x0000, 0x0000, .volatile, [0x0000]⟩
/-- SYS_IMGCRC, R102. -/
def gSYS_IMGCRC : RegGroup := ⟨0x0132, 2, 0xFFFF, 0x0000, 0x0000, 0x0000, .volatile, [0x0000]⟩
/-- SYS_NVMCFG, R103. -/
def gSYS_NVMCFG : RegGroup := ⟨0x0134, 1, 0x003F, 0x0000, 0x0000, 0x0000, .config, [0x0014]⟩
/-- SYS_LDCFG, R104. -/
def gSYS_LDCFG : RegGroup := ⟨0x0135, 1, 0xF07F, 0x0000, 0x0000, 0x0000, .config, [0x3008]⟩
/-- SYS_LDSTAT, R105. -/
def gSYS_LDSTAT : RegGroup := ⟨0x0136, 1, 0xF3FC, 0x0000, 0x0000, 0x0000, .volatile, [0x0000]⟩
/-- SYS_LDSEQ, R106. -/
def gSYS_LDSEQ : RegGroup := ⟨0x0137, 2, 0xFFFF, 0x0000, 0x0000, 0x0000, .volatile, [0x0000]⟩
/-- SYS_LDCTRL, R107. -/
def gSYS_LDCTRL : RegGroup := ⟨0x0139, 1, 0xFFFF, 0x0000, 0x0000, 0x0000, .volatile, [0x0000]⟩
/-- SYS_FFSTAT, R108. -/
def gSYS_FFSTAT : RegGroup := ⟨0x013A, 1, 0x3FFF, 0x0000, 0x0000, 0x0000, .volatile, [0x0000]⟩
/-- SYS_SHEDMASK, R172. -/
def gSYS_SHEDMASK : RegGroup := ⟨0x0140, 1, 0x03FF, 0x0000, 0x0000, 0x0000, .config, [0x0200]⟩
/-- SYS_HKPER, R173. -/
def gSYS_HKPER : RegGroup := ⟨0x0141, 1, 0xFFFF, 0x0000, 0x0000, 0x0000, .config, [0x0A0A]⟩
/-- SYS_EVAR, R174. -/
def gSYS_EVAR : RegGroup := ⟨0x0150, 16, 0xFFFF, 0xFFFF, 0x0000, 0x0000, .volatile, [0x0000]⟩
/-- SYS_FFLOG, R109. -/
def gSYS_FFLOG : RegGroup := ⟨0x0180, 128, 0xFFFF, 0x0000, 0x0000, 0x0000, .volatile, [0x0000]⟩
/-- DOM1_CFG, R211. -/
def gDOM1_CFG : RegGroup := ⟨0x0200, 1, 0xFFC0, 0x0000, 0x0000, 0x0000, .config, [0x8340]⟩
/-- DOM1_STAT, R212. -/
def gDOM1_STAT : RegGroup := ⟨0x0201, 1, 0xFC0F, 0x0000, 0x0000, 0x0000, .volatile, [0x2000]⟩
/-- DOM1_CNT, R213. -/
def gDOM1_CNT : RegGroup := ⟨0x0202, 6, 0xFFFF, 0x0000, 0x0000, 0x0000, .kept, [0x0000]⟩
/-- DOM1_CNTCLR, R215. -/
def gDOM1_CNTCLR : RegGroup := ⟨0x0208, 1, 0xFFFF, 0x0000, 0x0000, 0x0000, .volatile, [0x0000]⟩
/-- DOM_PGSUM, R216. -/
def gDOM_PGSUM : RegGroup := ⟨0x020D, 1, 0x03FF, 0x0000, 0x0000, 0x0000, .volatile, [0x0000]⟩
/-- DOM_SEQCFG, R217. -/
def gDOM_SEQCFG : RegGroup := ⟨0x020E, 1, 0xFFFF, 0x0000, 0x0000, 0x0000, .config, [0x5505]⟩
/-- DOM_SEQSTAT, R218. -/
def gDOM_SEQSTAT : RegGroup := ⟨0x020F, 1, 0xFF03, 0x0000, 0x0000, 0x0000, .volatile, [0x0000]⟩
/-- DOM2_CFG, R211. -/
def gDOM2_CFG : RegGroup := ⟨0x0220, 1, 0xFFC0, 0x0000, 0x0000, 0x0000, .config, [0x8340]⟩
/-- DOM2_STAT, R212. -/
def gDOM2_STAT : RegGroup := ⟨0x0221, 1, 0xFC0F, 0x0000, 0x0000, 0x0000, .volatile, [0x2000]⟩
/-- DOM2_CNT, R213. -/
def gDOM2_CNT : RegGroup := ⟨0x0222, 6, 0xFFFF, 0x0000, 0x0000, 0x0000, .kept, [0x0000]⟩
/-- DOM2_CNTCLR, R215. -/
def gDOM2_CNTCLR : RegGroup := ⟨0x0228, 1, 0xFFFF, 0x0000, 0x0000, 0x0000, .volatile, [0x0000]⟩
/-- DOM2_VSET, R241. -/
def gDOM2_VSET : RegGroup := ⟨0x0230, 1, 0x01FF, 0x01FF, 0x0000, 0x0000, .config, [0x0028]⟩
/-- DOM2_ILIM, R242. -/
def gDOM2_ILIM : RegGroup := ⟨0x0231, 1, 0x000F, 0x000F, 0x0000, 0x0000, .config, [0x000E]⟩
/-- DOM2_RCFG, R243. -/
def gDOM2_RCFG : RegGroup := ⟨0x0232, 1, 0xFFC0, 0x0000, 0x0000, 0x0000, .config, [0x0C80]⟩
/-- DOM2_RSTAT, R245. -/
def gDOM2_RSTAT : RegGroup := ⟨0x0234, 1, 0xFFF8, 0x0000, 0x8000, 0x0000, .volatile, [0x0000]⟩
/-- DOM2_VACT, R246. -/
def gDOM2_VACT : RegGroup := ⟨0x0235, 1, 0x01FF, 0x0000, 0x0000, 0x0000, .volatile, [0x0000]⟩
/-- DOM3_CFG, R211. -/
def gDOM3_CFG : RegGroup := ⟨0x0240, 1, 0xFFC0, 0x0000, 0x0000, 0x0000, .config, [0x8340]⟩
/-- DOM3_STAT, R212. -/
def gDOM3_STAT : RegGroup := ⟨0x0241, 1, 0xFC0F, 0x0000, 0x0000, 0x0000, .volatile, [0x2000]⟩
/-- DOM3_CNT, R213. -/
def gDOM3_CNT : RegGroup := ⟨0x0242, 6, 0xFFFF, 0x0000, 0x0000, 0x0000, .kept, [0x0000]⟩
/-- DOM3_CNTCLR, R215. -/
def gDOM3_CNTCLR : RegGroup := ⟨0x0248, 1, 0xFFFF, 0x0000, 0x0000, 0x0000, .volatile, [0x0000]⟩
/-- DOM3_VSET, R241. -/
def gDOM3_VSET : RegGroup := ⟨0x0250, 1, 0x01FF, 0x01FF, 0x0000, 0x0000, .config, [0x0096]⟩
/-- DOM3_ILIM, R242. -/
def gDOM3_ILIM : RegGroup := ⟨0x0251, 1, 0x000F, 0x000F, 0x0000, 0x0000, .config, [0x0009]⟩
/-- DOM3_RCFG, R243. -/
def gDOM3_RCFG : RegGroup := ⟨0x0252, 1, 0xFFC0, 0x0000, 0x0000, 0x0000, .config, [0x0080]⟩
/-- DOM3_RSTAT, R245. -/
def gDOM3_RSTAT : RegGroup := ⟨0x0254, 1, 0xFFF8, 0x0000, 0x8000, 0x0000, .volatile, [0x0000]⟩
/-- DOM3_VACT, R246. -/
def gDOM3_VACT : RegGroup := ⟨0x0255, 1, 0x01FF, 0x0000, 0x0000, 0x0000, .volatile, [0x0000]⟩
/-- DOM4_CFG, R211. -/
def gDOM4_CFG : RegGroup := ⟨0x0260, 1, 0xFFC0, 0x0000, 0x0000, 0x0000, .config, [0x8340]⟩
/-- DOM4_STAT, R212. -/
def gDOM4_STAT : RegGroup := ⟨0x0261, 1, 0xFC0F, 0x0000, 0x0000, 0x0000, .volatile, [0x2000]⟩
/-- DOM4_CNT, R213. -/
def gDOM4_CNT : RegGroup := ⟨0x0262, 6, 0xFFFF, 0x0000, 0x0000, 0x0000, .kept, [0x0000]⟩
/-- DOM4_CNTCLR, R215. -/
def gDOM4_CNTCLR : RegGroup := ⟨0x0268, 1, 0xFFFF, 0x0000, 0x0000, 0x0000, .volatile, [0x0000]⟩
/-- DOM4_VSET, R241. -/
def gDOM4_VSET : RegGroup := ⟨0x0270, 1, 0x01FF, 0x01FF, 0x0000, 0x0000, .config, [0x003C]⟩
/-- DOM4_ILIM, R242. -/
def gDOM4_ILIM : RegGroup := ⟨0x0271, 1, 0x000F, 0x000F, 0x0000, 0x0000, .config, [0x0009]⟩
/-- DOM4_RCFG, R243. -/
def gDOM4_RCFG : RegGroup := ⟨0x0272, 1, 0xFFC0, 0x0000, 0x0000, 0x0000, .config, [0x0080]⟩
/-- DOM4_SLEW, R244. -/
def gDOM4_SLEW : RegGroup := ⟨0x0273, 1, 0xF307, 0x0000, 0x0000, 0x0000, .config, [0x5102]⟩
/-- DOM4_RSTAT, R245. -/
def gDOM4_RSTAT : RegGroup := ⟨0x0274, 1, 0xFFF8, 0x0000, 0x8000, 0x0000, .volatile, [0x0000]⟩
/-- DOM4_VACT, R246. -/
def gDOM4_VACT : RegGroup := ⟨0x0275, 1, 0x01FF, 0x0000, 0x0000, 0x0000, .volatile, [0x0000]⟩
/-- DOM5_CFG, R211. -/
def gDOM5_CFG : RegGroup := ⟨0x0280, 1, 0xFFC0, 0x0000, 0x0000, 0x0000, .config, [0x8340]⟩
/-- DOM5_STAT, R212. -/
def gDOM5_STAT : RegGroup := ⟨0x0281, 1, 0xFC0F, 0x0000, 0x0000, 0x0000, .volatile, [0x2000]⟩
/-- DOM5_CNT, R213. -/
def gDOM5_CNT : RegGroup := ⟨0x0282, 6, 0xFFFF, 0x0000, 0x0000, 0x0000, .kept, [0x0000]⟩
/-- DOM5_CNTCLR, R215. -/
def gDOM5_CNTCLR : RegGroup := ⟨0x0288, 1, 0xFFFF, 0x0000, 0x0000, 0x0000, .volatile, [0x0000]⟩
/-- DOM5_VSET, R241. -/
def gDOM5_VSET : RegGroup := ⟨0x0290, 1, 0x01FF, 0x01FF, 0x0000, 0x0000, .config, [0x003C]⟩
/-- DOM5_ILIM, R242. -/
def gDOM5_ILIM : RegGroup := ⟨0x0291, 1, 0x000F, 0x000F, 0x0000, 0x0000, .config, [0x0009]⟩
/-- DOM5_RCFG, R243. -/
def gDOM5_RCFG : RegGroup := ⟨0x0292, 1, 0xFFC0, 0x0000, 0x0000, 0x0000, .config, [0x0080]⟩
/-- DOM5_SLEW, R244. -/
def gDOM5_SLEW : RegGroup := ⟨0x0293, 1, 0xF307, 0x0000, 0x0000, 0x0000, .config, [0x5102]⟩
/-- DOM5_RSTAT, R245. -/
def gDOM5_RSTAT : RegGroup := ⟨0x0294, 1, 0xFFF8, 0x0000, 0x8000, 0x0000, .volatile, [0x0000]⟩
/-- DOM5_VACT, R246. -/
def gDOM5_VACT : RegGroup := ⟨0x0295, 1, 0x01FF, 0x0000, 0x0000, 0x0000, .volatile, [0x0000]⟩
/-- DOM6_CFG, R211. -/
def gDOM6_CFG : RegGroup := ⟨0x02A0, 1, 0xFFC0, 0x0000, 0x0000, 0x0000, .config, [0x8340]⟩
/-- DOM6_STAT, R212. -/
def gDOM6_STAT : RegGroup := ⟨0x02A1, 1, 0xFC0F, 0x0000, 0x0000, 0x0000, .volatile, [0x2000]⟩
/-- DOM6_CNT, R213. -/
def gDOM6_CNT : RegGroup := ⟨0x02A2, 6, 0xFFFF, 0x0000, 0x0000, 0x0000, .kept, [0x0000]⟩
/-- DOM6_CNTCLR, R215. -/
def gDOM6_CNTCLR : RegGroup := ⟨0x02A8, 1, 0xFFFF, 0x0000, 0x0000, 0x0000, .volatile, [0x0000]⟩
/-- DOM6_VSET, R241. -/
def gDOM6_VSET : RegGroup := ⟨0x02B0, 1, 0x01FF, 0x01FF, 0x0000, 0x0000, .config, [0x003C]⟩
/-- DOM6_ILIM, R242. -/
def gDOM6_ILIM : RegGroup := ⟨0x02B1, 1, 0x000F, 0x000F, 0x0000, 0x0000, .config, [0x0009]⟩
/-- DOM6_RCFG, R243. -/
def gDOM6_RCFG : RegGroup := ⟨0x02B2, 1, 0xFFC0, 0x0000, 0x0000, 0x0000, .config, [0x0080]⟩
/-- DOM6_RSTAT, R245. -/
def gDOM6_RSTAT : RegGroup := ⟨0x02B4, 1, 0xFFF8, 0x0000, 0x8000, 0x0000, .volatile, [0x0000]⟩
/-- DOM6_VACT, R246. -/
def gDOM6_VACT : RegGroup := ⟨0x02B5, 1, 0x01FF, 0x0000, 0x0000, 0x0000, .volatile, [0x0000]⟩
/-- DOM7_CFG, R211. -/
def gDOM7_CFG : RegGroup := ⟨0x02C0, 1, 0xFFC0, 0x0000, 0x0000, 0x0000, .config, [0x8340]⟩
/-- DOM7_STAT, R212. -/
def gDOM7_STAT : RegGroup := ⟨0x02C1, 1, 0xFC0F, 0x0000, 0x0000, 0x0000, .volatile, [0x2000]⟩
/-- DOM7_CNT, R213. -/
def gDOM7_CNT : RegGroup := ⟨0x02C2, 6, 0xFFFF, 0x0000, 0x0000, 0x0000, .kept, [0x0000]⟩
/-- DOM7_CNTCLR, R215. -/
def gDOM7_CNTCLR : RegGroup := ⟨0x02C8, 1, 0xFFFF, 0x0000, 0x0000, 0x0000, .volatile, [0x0000]⟩
/-- DOM7_VSET, R241. -/
def gDOM7_VSET : RegGroup := ⟨0x02D0, 1, 0x01FF, 0x01FF, 0x0000, 0x0000, .config, [0x0028]⟩
/-- DOM7_ILIM, R242. -/
def gDOM7_ILIM : RegGroup := ⟨0x02D1, 1, 0x000F, 0x000F, 0x0000, 0x0000, .config, [0x0009]⟩
/-- DOM7_RCFG, R243. -/
def gDOM7_RCFG : RegGroup := ⟨0x02D2, 1, 0xFFC0, 0x0000, 0x0000, 0x0000, .config, [0x04C0]⟩
/-- DOM7_RSTAT, R245. -/
def gDOM7_RSTAT : RegGroup := ⟨0x02D4, 1, 0xFFF8, 0x0000, 0x8000, 0x0000, .volatile, [0x0000]⟩
/-- DOM7_VACT, R246. -/
def gDOM7_VACT : RegGroup := ⟨0x02D5, 1, 0x01FF, 0x0000, 0x0000, 0x0000, .volatile, [0x0000]⟩
/-- DOM8_CFG, R211. -/
def gDOM8_CFG : RegGroup := ⟨0x02E0, 1, 0xFFC0, 0x0000, 0x0000, 0x0000, .config, [0x8340]⟩
/-- DOM8_STAT, R212. -/
def gDOM8_STAT : RegGroup := ⟨0x02E1, 1, 0xFC0F, 0x0000, 0x0000, 0x0000, .volatile, [0x2000]⟩
/-- DOM8_CNT, R213. -/
def gDOM8_CNT : RegGroup := ⟨0x02E2, 6, 0xFFFF, 0x0000, 0x0000, 0x0000, .kept, [0x0000]⟩
/-- DOM8_CNTCLR, R215. -/
def gDOM8_CNTCLR : RegGroup := ⟨0x02E8, 1, 0xFFFF, 0x0000, 0x0000, 0x0000, .volatile, [0x0000]⟩
/-- DOM8_VSET, R241. -/
def gDOM8_VSET : RegGroup := ⟨0x02F0, 1, 0x01FF, 0x01FF, 0x0000, 0x0000, .config, [0x0020]⟩
/-- DOM8_ILIM, R242. -/
def gDOM8_ILIM : RegGroup := ⟨0x02F1, 1, 0x000F, 0x000F, 0x0000, 0x0000, .config, [0x0007]⟩
/-- DOM8_RCFG, R243. -/
def gDOM8_RCFG : RegGroup := ⟨0x02F2, 1, 0xFFC0, 0x0000, 0x0000, 0x0000, .config, [0x0080]⟩
/-- DOM8_RSTAT, R245. -/
def gDOM8_RSTAT : RegGroup := ⟨0x02F4, 1, 0xFFF8, 0x0000, 0x8000, 0x0000, .volatile, [0x0000]⟩
/-- DOM8_VACT, R246. -/
def gDOM8_VACT : RegGroup := ⟨0x02F5, 1, 0x01FF, 0x0000, 0x0000, 0x0000, .volatile, [0x0000]⟩
/-- DOM9_CFG, R211. -/
def gDOM9_CFG : RegGroup := ⟨0x0300, 1, 0xFFC0, 0x0000, 0x0000, 0x0000, .config, [0x8340]⟩
/-- DOM9_STAT, R212. -/
def gDOM9_STAT : RegGroup := ⟨0x0301, 1, 0xFC0F, 0x0000, 0x0000, 0x0000, .volatile, [0x2000]⟩
/-- DOM9_CNT, R213. -/
def gDOM9_CNT : RegGroup := ⟨0x0302, 6, 0xFFFF, 0x0000, 0x0000, 0x0000, .kept, [0x0000]⟩
/-- DOM9_CNTCLR, R215. -/
def gDOM9_CNTCLR : RegGroup := ⟨0x0308, 1, 0xFFFF, 0x0000, 0x0000, 0x0000, .volatile, [0x0000]⟩
/-- DOM9_HOLD, R247. -/
def gDOM9_HOLD : RegGroup := ⟨0x0310, 1, 0x007F, 0x007F, 0x0000, 0x0000, .config, [0x0028]⟩
/-- DOM9_ILIM, R242. -/
def gDOM9_ILIM : RegGroup := ⟨0x0311, 1, 0x000F, 0x000F, 0x0000, 0x0000, .config, [0x000E]⟩
/-- DOM9_LCFG, R248. -/
def gDOM9_LCFG : RegGroup := ⟨0x0312, 1, 0xFFF0, 0x0000, 0x0000, 0x0000, .config, [0x53B0]⟩
/-- DOM9_LSTAT, R249. -/
def gDOM9_LSTAT : RegGroup := ⟨0x0314, 1, 0xFC0F, 0x0000, 0x4000, 0x0000, .volatile, [0x0000]⟩
/-- DOM10_CFG, R211. -/
def gDOM10_CFG : RegGroup := ⟨0x0320, 1, 0xFFC0, 0x0000, 0x0000, 0x0000, .config, [0x8340]⟩
/-- DOM10_STAT, R212. -/
def gDOM10_STAT : RegGroup := ⟨0x0321, 1, 0xFC0F, 0x0000, 0x0000, 0x0000, .volatile, [0x2000]⟩
/-- DOM10_CNT, R213. -/
def gDOM10_CNT : RegGroup := ⟨0x0322, 6, 0xFFFF, 0x0000, 0x0000, 0x0000, .kept, [0x0000]⟩
/-- DOM10_CNTCLR, R215. -/
def gDOM10_CNTCLR : RegGroup := ⟨0x0328, 1, 0xFFFF, 0x0000, 0x0000, 0x0000, .volatile, [0x0000]⟩
/-- DOM10_VSET, R241. -/
def gDOM10_VSET : RegGroup := ⟨0x0330, 1, 0x01FF, 0x01FF, 0x0000, 0x0000, .config, [0x00F0]⟩
/-- DOM10_ILIM, R242. -/
def gDOM10_ILIM : RegGroup := ⟨0x0331, 1, 0x000F, 0x000F, 0x0000, 0x0000, .config, [0x000E]⟩
/-- DOM10_RCFG, R243. -/
def gDOM10_RCFG : RegGroup := ⟨0x0332, 1, 0xFFC0, 0x0000, 0x0000, 0x0000, .config, [0x0CC0]⟩
/-- DOM10_RSTAT, R245. -/
def gDOM10_RSTAT : RegGroup := ⟨0x0334, 1, 0xFFF8, 0x0000, 0x8000, 0x0000, .volatile, [0x0000]⟩
/-- DOM10_VACT, R246. -/
def gDOM10_VACT : RegGroup := ⟨0x0335, 1, 0x01FF, 0x0000, 0x0000, 0x0000, .volatile, [0x0000]⟩
/-- DRV_STAT, R315. -/
def gDRV_STAT : RegGroup := ⟨0x0400, 1, 0xFFC0, 0x0000, 0x0200, 0x0000, .volatile, [0x0000]⟩
/-- DRV_VSET, R316. -/
def gDRV_VSET : RegGroup := ⟨0x0401, 1, 0x0FFF, 0x0FFF, 0x0000, 0x0000, .config, [0x0708]⟩
/-- DRV_VACT, R317. -/
def gDRV_VACT : RegGroup := ⟨0x0402, 1, 0xCFFF, 0x0000, 0x0000, 0x0000, .volatile, [0x0000]⟩
/-- DRV_VMAX, R318. -/
def gDRV_VMAX : RegGroup := ⟨0x0403, 1, 0x0FFF, 0x0000, 0x0000, 0x0000, .config, [0x0960]⟩
/-- DRV_SLEW, R319. -/
def gDRV_SLEW : RegGroup := ⟨0x0404, 1, 0xFF78, 0x0000, 0x0000, 0x0000, .config, [0x3530]⟩
/-- DRV_FSW, R320. -/
def gDRV_FSW : RegGroup := ⟨0x0408, 1, 0x03FF, 0x0000, 0x0000, 0x0000, .config, [0x0180]⟩
/-- DRV_SYNC, R321. -/
def gDRV_SYNC : RegGroup := ⟨0x0409, 1, 0xFE1F, 0x0000, 0x0000, 0x0000, .config, [0x1200]⟩
/-- DRV_SYNCSTAT, R322. -/
def gDRV_SYNCSTAT : RegGroup := ⟨0x040A, 1, 0xC3FF, 0x0000, 0x4000, 0x0000, .volatile, [0x0000]⟩
/-- DRV_PHCFG, R323. -/
def gDRV_PHCFG : RegGroup := ⟨0x0410, 1, 0xF03F, 0x0000, 0x0000, 0x0000, .config, [0x1001]⟩
/-- DRV_PHEN, R324. -/
def gDRV_PHEN : RegGroup := ⟨0x0411, 1, 0x003F, 0x003F, 0x0000, 0x0000, .config, [0x003F]⟩
/-- DRV_PHSTAT, R325. -/
def gDRV_PHSTAT : RegGroup := ⟨0x0412, 1, 0x7FFF, 0x0000, 0x0000, 0x0000, .volatile, [0x0000]⟩
/-- DRV_RETCAUSE, R326. -/
def gDRV_RETCAUSE : RegGroup := ⟨0x0413, 1, 0x0FFF, 0x0000, 0x0000, 0x0000, .volatile, [0x0000]⟩
/-- DRV_PHCTL, R327. -/
def gDRV_PHCTL : RegGroup := ⟨0x0414, 1, 0xFFFF, 0x0000, 0x0000, 0x0000, .volatile, [0x0000]⟩
/-- DRV_SHED, R328. -/
def gDRV_SHED : RegGroup := ⟨0x0415, 1, 0xFFFF, 0x0000, 0x0000, 0x0000, .config, [0x1832]⟩
/-- DRV_OCCFG, R329. -/
def gDRV_OCCFG : RegGroup := ⟨0x0418, 1, 0xFFC0, 0x0000, 0x0000, 0x0000, .config, [0xA680]⟩
/-- DRV_ITOT, R330. -/
def gDRV_ITOT : RegGroup := ⟨0x0419, 1, 0x0FFF, 0x0FFF, 0x0000, 0x0000, .config, [0x0190]⟩
/-- DRV_IPHOVL, R331. -/
def gDRV_IPHOVL : RegGroup := ⟨0x041A, 1, 0x01FF, 0x0000, 0x0000, 0x0000, .config, [0x00C8]⟩
/-- DRV_IPHSC, R332. -/
def gDRV_IPHSC : RegGroup := ⟨0x041B, 1, 0x03FF, 0x0000, 0x0000, 0x0000, .config, [0x012C]⟩
/-- DRV_CSCFG, R333. -/
def gDRV_CSCFG : RegGroup := ⟨0x041C, 1, 0xFFFF, 0x0000, 0x0000, 0x0000, .config, [0x3232]⟩
/-- DRV_FF, R334. -/
def gDRV_FF : RegGroup := ⟨0x041D, 1, 0x8C00, 0x0000, 0x0000, 0x0000, .config, [0x8400]⟩
/-- DRV_VOUT, R335. -/
def gDRV_VOUT : RegGroup := ⟨0x0420, 1, 0xFFFF, 0x0000, 0x0000, 0x0000, .volatile, [0x0000]⟩
/-- DRV_IOUT, R335. -/
def gDRV_IOUT : RegGroup := ⟨0x0421, 1, 0xFFFF, 0x0000, 0x0000, 0x0000, .volatile, [0x0000]⟩
/-- DRV_IIN, R335. -/
def gDRV_IIN : RegGroup := ⟨0x0422, 1, 0xFFFF, 0x0000, 0x0000, 0x0000, .volatile, [0x0000]⟩
/-- DRV_ICEIL, R336. -/
def gDRV_ICEIL : RegGroup := ⟨0x0423, 1, 0xCFFF, 0x0000, 0x0000, 0x0000, .volatile, [0x0000]⟩
/-- DRV_IPH, R337. -/
def gDRV_IPH : RegGroup := ⟨0x0424, 6, 0xFFFF, 0x0000, 0x0000, 0x0000, .volatile, [0x0000]⟩
/-- DRV_TRIM, R337. -/
def gDRV_TRIM : RegGroup := ⟨0x042A, 6, 0xFFFF, 0x0000, 0x0000, 0x0000, .volatile, [0x0000]⟩
/-- DRV_DUTY, R338. -/
def gDRV_DUTY : RegGroup := ⟨0x0430, 1, 0xFFFF, 0x0000, 0x0000, 0x0000, .volatile, [0x0000]⟩
/-- DRV_DTACT, R339. -/
def gDRV_DTACT : RegGroup := ⟨0x0431, 1, 0xFFFF, 0x0000, 0x0000, 0x0000, .volatile, [0x0000]⟩
/-- DRV_CNTRET, R340. -/
def gDRV_CNTRET : RegGroup := ⟨0x0438, 1, 0xFFFF, 0x0000, 0x0000, 0x0000, .kept, [0x0000]⟩
/-- DRV_CNTHIC, R340. -/
def gDRV_CNTHIC : RegGroup := ⟨0x0439, 1, 0xFFFF, 0x0000, 0x0000, 0x0000, .kept, [0x0000]⟩
/-- DRV_CNTSYNC, R340. -/
def gDRV_CNTSYNC : RegGroup := ⟨0x043A, 1, 0xFFFF, 0x0000, 0x0000, 0x0000, .kept, [0x0000]⟩
/-- DRV_CNTCLR, R341. -/
def gDRV_CNTCLR : RegGroup := ⟨0x043B, 1, 0xFFFF, 0x0000, 0x0000, 0x0000, .volatile, [0x0000]⟩
/-- DRV_COEF, R342. -/
def gDRV_COEF : RegGroup := ⟨0x0440, 8, 0xFFFF, 0x0000, 0x0000, 0x0000, .config, [0x0800, 0x0100, 0x0000, 0x4000, 0x0200, 0x0040, 0x0100, 0x0080]⟩
/-- LIN_STAT, R270. -/
def gLIN_STAT : RegGroup := ⟨0x0500, 1, 0xFFFF, 0x0000, 0x0000, 0x0000, .volatile, [0x0000]⟩
/-- LIN_CFG0, R271. -/
def gLIN_CFG0 : RegGroup := ⟨0x0501, 1, 0xFFFE, 0x0000, 0x0000, 0x0000, .config, [0x6DA2]⟩
/-- LIN_CFG1, R272. -/
def gLIN_CFG1 : RegGroup := ⟨0x0502, 1, 0x0FFF, 0x0000, 0x0000, 0x0000, .config, [0x0522]⟩
/-- LIN_IHOST, R273. -/
def gLIN_IHOST : RegGroup := ⟨0x0503, 1, 0xFFFF, 0xFFFF, 0x0000, 0x0000, .config, [0xFFFF]⟩
/-- LIN_IEFF, R274. -/
def gLIN_IEFF : RegGroup := ⟨0x0504, 1, 0xFFFF, 0x0000, 0x0000, 0x0000, .volatile, [0x0000]⟩
/-- LIN_CTRL, R275. -/
def gLIN_CTRL : RegGroup := ⟨0x0506, 1, 0xFFFF, 0x0000, 0x0000, 0x0000, .volatile, [0x0000]⟩
/-- LIN_CNTLOSS, R276. -/
def gLIN_CNTLOSS : RegGroup := ⟨0x0508, 1, 0xFFFF, 0x0000, 0x0000, 0x0000, .kept, [0x0000]⟩
/-- LIN_CNTOV, R276. -/
def gLIN_CNTOV : RegGroup := ⟨0x0509, 1, 0xFFFF, 0x0000, 0x0000, 0x0000, .kept, [0x0000]⟩
/-- LIN_CNTTRIP, R276. -/
def gLIN_CNTTRIP : RegGroup := ⟨0x050A, 1, 0xFFFF, 0x0000, 0x0000, 0x0000, .kept, [0x0000]⟩
/-- LIN_SRCTAB, R277. -/
def gLIN_SRCTAB : RegGroup := ⟨0x0510, 64, 0xFFFF, 0x0000, 0x0000, 0x0000, .config, [0x1903, 0x00A8, 0x0018, 0x0640, 0x06A4, 0x0032, 0x0000, 0x0000, 0x1903, 0x00A8, 0x0018, 0x0640, 0x06A4, 0x0032, 0x0000, 0x0000] ++ [0x1903, 0x00A8, 0x0018, 0x0640, 0x06A4, 0x0032, 0x0000, 0x0000, 0x1903, 0x00A8, 0x0018, 0x0640, 0x06A4, 0x0032, 0x0000, 0x0000] ++ [0x1903, 0x00A8, 0x0018, 0x0640, 0x06A4, 0x0032, 0x0000, 0x0000, 0x1903, 0x00A8, 0x0018, 0x0640, 0x06A4, 0x0032, 0x0000, 0x0000] ++ [0x1903, 0x00A8, 0x0018, 0x0640, 0x06A4, 0x0032, 0x0000, 0x0000, 0x1903, 0x00A8, 0x0018, 0x0640, 0x06A4, 0x0032, 0x0000, 0x0000]⟩
/-- WEIR_CFG, R278. -/
def gWEIR_CFG : RegGroup := ⟨0x0560, 1, 0xFFFE, 0x0000, 0x0000, 0x0000, .config, [0xFF92]⟩
/-- WEIR_STAT, R279. -/
def gWEIR_STAT : RegGroup := ⟨0x0561, 1, 0xFFE0, 0x0000, 0x03E0, 0x0000, .volatile, [0x0000]⟩
/-- WEIR_CNTTK, R280. -/
def gWEIR_CNTTK : RegGroup := ⟨0x0562, 1, 0xFFFF, 0x0000, 0x0000, 0x0000, .kept, [0x0000]⟩
/-- STK_STAT, R373. -/
def gSTK_STAT : RegGroup := ⟨0x0580, 1, 0xFDC0, 0x0000, 0x01C0, 0x0000, .volatile, [0x0000]⟩
/-- STK_CMD, R374. -/
def gSTK_CMD : RegGroup := ⟨0x0581, 1, 0xF31F, 0x0000, 0x0000, 0x0000, .volatile, [0x0000]⟩
/-- STK_CFG, R375. -/
def gSTK_CFG : RegGroup := ⟨0x0582, 1, 0xF000, 0x0000, 0x0000, 0x0000, .config, [0xD000]⟩
/-- STK_PRECFG, R376. -/
def gSTK_PRECFG : RegGroup := ⟨0x0583, 1, 0xFFC0, 0x0000, 0x0000, 0x0000, .config, [0x5140]⟩
/-- STK_TOLLCFG, R377. -/
def gSTK_TOLLCFG : RegGroup := ⟨0x0584, 1, 0xFFFF, 0x0000, 0x0000, 0x0000, .config, [0x50B4]⟩
/-- STK_DETCFG, R378. -/
def gSTK_DETCFG : RegGroup := ⟨0x0585, 1, 0x83FF, 0x0000, 0x0000, 0x0000, .config, [0x801E]⟩
/-- STK_PRVCFG, R379. -/
def gSTK_PRVCFG : RegGroup := ⟨0x0586, 1, 0xFFFF, 0x0000, 0x0000, 0x0000, .config, [0x0033]⟩
/-- STK_PRVSTAT, R380. -/
def gSTK_PRVSTAT : RegGroup := ⟨0x0587, 1, 0x0FFF, 0x0000, 0x0800, 0x0000, .volatile, [0x0000]⟩
/-- STK_REFCFG, R381. -/
def gSTK_REFCFG : RegGroup := ⟨0x0588, 1, 0x8FFF, 0x0000, 0x0000, 0x0000, .config, [0x0240]⟩
/-- STK_DEVCFG, R382. -/
def gSTK_DEVCFG : RegGroup := ⟨0x0589, 1, 0xFFFF, 0x0000, 0x0000, 0x0000, .config, [0x6561]⟩
/-- STK_REFCTL, R383. -/
def gSTK_REFCTL : RegGroup := ⟨0x058A, 1, 0xFFFF, 0x0000, 0x0000, 0x0000, .volatile, [0x0000]⟩
/-- STK_REFCNT, R384. -/
def gSTK_REFCNT : RegGroup := ⟨0x058B, 2, 0xFFFF, 0x0000, 0x0000, 0x0000, .learned, [0x0000]⟩
/-- STK_RECCFG, R385. -/
def gSTK_RECCFG : RegGroup := ⟨0x0590, 1, 0xFF7F, 0x0000, 0x0000, 0x0000, .config, [0x531F]⟩
/-- STK_RECSTAT, R386. -/
def gSTK_RECSTAT : RegGroup := ⟨0x0591, 1, 0xFE00, 0x0000, 0x0000, 0x0000, .volatile, [0x0000]⟩
/-- STK_RECCNT, R387. -/
def gSTK_RECCNT : RegGroup := ⟨0x0592, 2, 0x3FFF, 0x0000, 0x0000, 0x0000, .volatile, [0x0000]⟩
/-- STK_CAP, R388. -/
def gSTK_CAP : RegGroup := ⟨0x0594, 8, 0xFC7F, 0x0000, 0x0000, 0x0000, .config, [0x0000]⟩
/-- STK_SUMFLG, R389. -/
def gSTK_SUMFLG : RegGroup := ⟨0x05A0, 1, 0xFFFF, 0x0000, 0x0000, 0x0000, .volatile, [0x0000]⟩
/-- STK_SUM, R390. -/
def gSTK_SUM : RegGroup := ⟨0x05A1, 7, 0xFFFF, 0x0000, 0x0000, 0x0000, .volatile, [0x0000]⟩
/-- STK_CNT, R391. -/
def gSTK_CNT : RegGroup := ⟨0x05B0, 7, 0xFFFF, 0x0000, 0x0000, 0x0000, .kept, [0x0000]⟩
/-- STK_CNTCLR, R392. -/
def gSTK_CNTCLR : RegGroup := ⟨0x05B7, 1, 0xFFFF, 0x0000, 0x0000, 0x0000, .volatile, [0x0000]⟩
/-- CHG_STAT, R414. -/
def gCHG_STAT : RegGroup := ⟨0x0600, 1, 0xFFFE, 0x0000, 0x0000, 0x0000, .volatile, [0x1000]⟩
/-- CHG_FLT, R415. -/
def gCHG_FLT : RegGroup := ⟨0x0601, 1, 0x00FF, 0x0000, 0x00FF, 0x0000, .volatile, [0x0000]⟩
/-- CHG_CTRL, R416. -/
def gCHG_CTRL : RegGroup := ⟨0x0602, 1, 0x0001, 0x0001, 0x0000, 0x0000, .config, [0x0001]⟩
/-- CHG_ICHG, R417. -/
def gCHG_ICHG : RegGroup := ⟨0x0603, 1, 0x01FF, 0x01FF, 0x0000, 0x0000, .config, [0x0014]⟩
/-- CHG_VREG, R418. -/
def gCHG_VREG : RegGroup := ⟨0x0604, 1, 0x01FF, 0x01FF, 0x0000, 0x0000, .config, [0x00DC]⟩
/-- CHG_KEY, R419. -/
def gCHG_KEY : RegGroup := ⟨0x0605, 1, 0xFFFF, 0x0000, 0x0000, 0x0000, .volatile, [0x0000]⟩
/-- CHG_CFG, R420. -/
def gCHG_CFG : RegGroup := ⟨0x0606, 1, 0xFFC0, 0x0000, 0x0000, 0x0000, .config, [0xF540]⟩
/-- CHG_PRECFG, R421. -/
def gCHG_PRECFG : RegGroup := ⟨0x0607, 1, 0xFFFF, 0x0000, 0x0000, 0x0000, .config, [0x528A]⟩
/-- CHG_TERMCFG, R422. -/
def gCHG_TERMCFG : RegGroup := ⟨0x0608, 1, 0xFFF8, 0x0000, 0x0000, 0x0000, .config, [0x2140]⟩
/-- CHG_TMRCFG, R423. -/
def gCHG_TMRCFG : RegGroup := ⟨0x0609, 1, 0xFF00, 0x0000, 0x0000, 0x0000, .config, [0x4300]⟩
/-- CHG_TMR, R424. -/
def gCHG_TMR : RegGroup := ⟨0x060A, 1, 0xFFFF, 0x0000, 0x0000, 0x0000, .volatile, [0x0000]⟩
/-- CHG_IMEAS, R425. -/
def gCHG_IMEAS : RegGroup := ⟨0x060B, 1, 0xFFFF, 0x0000, 0x0000, 0x0000, .volatile, [0x0000]⟩
/-- CHG_VBAT, R425. -/
def gCHG_VBAT : RegGroup := ⟨0x060C, 1, 0xFFFF, 0x0000, 0x0000, 0x0000, .volatile, [0x0000]⟩
/-- CHG_TBAT, R425. -/
def gCHG_TBAT : RegGroup := ⟨0x060D, 1, 0xFFFF, 0x0000, 0x0000, 0x0000, .volatile, [0x0000]⟩
/-- CHG_ALLOW, R426. -/
def gCHG_ALLOW : RegGroup := ⟨0x060E, 1, 0xBFFF, 0x0000, 0x0000, 0x0000, .volatile, [0x0000]⟩
/-- CHG_ZTAB, R427. -/
def gCHG_ZTAB : RegGroup := ⟨0x0610, 22, 0xFFFF, 0x0000, 0x0000, 0x0000, .config, [0x0000, 0x0050, 0x0168, 0x01B8, 0x0010, 0x0000, 0x0000, 0x0032, 0x0000, 0x0064, 0x0000, 0x0064, 0xFF9C, 0x0000, 0x0000, 0x0014] ++ [0xFFFF, 0x0001, 0x0000, 0xFFFF, 0x0000, 0x0000]⟩
/-- CHG_CNTCYC, R428. -/
def gCHG_CNTCYC : RegGroup := ⟨0x0628, 1, 0xFFFF, 0x0000, 0x0000, 0x0000, .kept, [0x0000]⟩
/-- CHG_CNTREM, R428. -/
def gCHG_CNTREM : RegGroup := ⟨0x0629, 1, 0xFFFF, 0x0000, 0x0000, 0x0000, .kept, [0x0000]⟩
/-- GAU_STAT, R456. -/
def gGAU_STAT : RegGroup := ⟨0x0700, 1, 0xFFF8, 0x0000, 0x0000, 0x0000, .volatile, [0x0018]⟩
/-- GAU_SOC, R457. -/
def gGAU_SOC : RegGroup := ⟨0x0701, 1, 0xFFFF, 0x0000, 0x0000, 0x0000, .volatile, [0x0000]⟩
/-- GAU_SOCCC, R457. -/
def gGAU_SOCCC : RegGroup := ⟨0x0702, 1, 0xFFFF, 0x0000, 0x0000, 0x0000, .volatile, [0x0000]⟩
/-- GAU_SOCV, R457. -/
def gGAU_SOCV : RegGroup := ⟨0x0703, 1, 0xFFFF, 0x0000, 0x0000, 0x0000, .volatile, [0x0000]⟩
/-- GAU_QREM, R457. -/
def gGAU_QREM : RegGroup := ⟨0x0704, 1, 0xFFFF, 0x0000, 0x0000, 0x0000, .volatile, [0x0000]⟩
/-- GAU_FCC, R457. -/
def gGAU_FCC : RegGroup := ⟨0x0705, 1, 0xFFFF, 0x0000, 0x0000, 0x0000, .learned, [0x0000]⟩
/-- GAU_RESERVE, R458. -/
def gGAU_RESERVE : RegGroup := ⟨0x0706, 1, 0xFFFF, 0x0000, 0x0000, 0x0000, .volatile, [0x06FF]⟩
/-- GAU_IEM, R457. -/
def gGAU_IEM : RegGroup := ⟨0x0707, 1, 0xFFFF, 0x0000, 0x0000, 0x0000, .volatile, [0x0000]⟩
/-- GAU_QEM, R457. -/
def gGAU_QEM : RegGroup := ⟨0x0708, 1, 0xFFFF, 0x0000, 0x0000, 0x0000, .volatile, [0x0000]⟩
/-- GAU_IBAT, R457. -/
def gGAU_IBAT : RegGroup := ⟨0x0709, 1, 0xFFFF, 0x0000, 0x0000, 0x0000, .volatile, [0x0000]⟩
/-- GAU_VCELL, R457. -/
def gGAU_VCELL : RegGroup := ⟨0x070A, 1, 0xFFFF, 0x0000, 0x0000, 0x0000, .volatile, [0x0000]⟩
/-- GAU_CTRL, R459. -/
def gGAU_CTRL : RegGroup := ⟨0x070B, 1, 0xFFFF, 0x0000, 0x0000, 0x0000, .volatile, [0x0000]⟩
/-- GAU_AUTHSTAT, R460. -/
def gGAU_AUTHSTAT : RegGroup := ⟨0x070C, 1, 0xFFFF, 0x0000, 0x0000, 0x0000, .volatile, [0x0000]⟩
/-- GAU_CYC, R457. -/
def gGAU_CYC : RegGroup := ⟨0x070D, 2, 0xFFFF, 0x0000, 0x0000, 0x0000, .learned, [0x0000]⟩
/-- GAU_Z, R457. -/
def gGAU_Z : RegGroup := ⟨0x0710, 4, 0xFFFF, 0x0000, 0x0000, 0x0000, .volatile, [0x0000]⟩
/-- GAU_ZPOS, R457. -/
def gGAU_ZPOS : RegGroup := ⟨0x0714, 1, 0xFFFF, 0x0000, 0x0000, 0x0000, .volatile, [0x0000]⟩
/-- GAU_ACC0, R457. -/
def gGAU_ACC0 : RegGroup := ⟨0x0718, 1, 0xFFFF, 0x0000, 0x0000, 0x0000, .volatile, [0x0000]⟩
/-- GAU_ACC1, R457. -/
def gGAU_ACC1 : RegGroup := ⟨0x0719, 1, 0xFFFF, 0x0000, 0x0000, 0x0000, .volatile, [0x0000]⟩
/-- GAU_ACC2, R457. -/
def gGAU_ACC2 : RegGroup := ⟨0x071A, 1, 0xFFFF, 0x0000, 0x0000, 0x0000, .volatile, [0x0000]⟩
/-- GAU_CFG, R461. -/
def gGAU_CFG : RegGroup := ⟨0x0720, 1, 0xFE00, 0x0000, 0x0000, 0x0000, .config, [0x2600]⟩
/-- GAU_SN, R462. -/
def gGAU_SN : RegGroup := ⟨0x0728, 4, 0xFFFF, 0x0000, 0x0000, 0x0000, .learned, [0x0000]⟩
/-- GAU_PSN, R462. -/
def gGAU_PSN : RegGroup := ⟨0x072C, 4, 0xFFFF, 0x0000, 0x0000, 0x0000, .learned, [0x0000]⟩
/-- GAU_PFCC, R462. -/
def gGAU_PFCC : RegGroup := ⟨0x0730, 1, 0xFFFF, 0x0000, 0x0000, 0x0000, .learned, [0x0000]⟩
/-- GAU_PFLG, R462. -/
def gGAU_PFLG : RegGroup := ⟨0x0731, 1, 0xFFFF, 0x0000, 0x0000, 0x0000, .learned, [0x0000]⟩
/-- GAU_MODEL, R463. -/
def gGAU_MODEL : RegGroup := ⟨0x0740, 40, 0xFFFF, 0x0000, 0x0000, 0x0000, .config, [0x0600, 0x2710, 0x09C4, 0x0BB8, 0x0C4E, 0x0C80, 0x0C99, 0x0CAD, 0x0CBC, 0x0CC6, 0x0CD0, 0x0CD5, 0x0CDA, 0x0CDF, 0x0CE4, 0x0CE9] ++ [0x0CF3, 0x0CFD, 0x0D07, 0x0D11, 0x0D20, 0x0D3E, 0x0DAC, 0x1903, 0x1E14, 0x3228, 0x4060, 0x1C28, 0x1014, 0x1010, 0x1412, 0x0168] ++ [0x00C8, 0x00C8, 0x1E05, 0x461E, 0x0000, 0x0000, 0x0000, 0x0000]⟩
/-- ADC_STAT, R534. -/
def gADC_STAT : RegGroup := ⟨0x0800, 1, 0xFFBF, 0x0000, 0x0180, 0x0000, .volatile, [0x0000]⟩
/-- ADC_CFG, R535. -/
def gADC_CFG : RegGroup := ⟨0x0801, 1, 0x803F, 0x0000, 0x0000, 0x0000, .config, [0x000C]⟩
/-- ADC_CMD, R536. -/
def gADC_CMD : RegGroup := ⟨0x0802, 1, 0xFFFF, 0x0000, 0x0000, 0x0000, .volatile, [0x0000]⟩
/-- ADC_INJ, R537. -/
def gADC_INJ : RegGroup := ⟨0x0803, 1, 0xF73F, 0x0000, 0x0000, 0x0000, .volatile, [0x0000]⟩
/-- ADC_INJSTAT, R538. -/
def gADC_INJSTAT : RegGroup := ⟨0x0804, 1, 0xFC3F, 0x0000, 0x0000, 0x0000, .volatile, [0x0000]⟩
/-- ADC_CALCFG, R539. -/
def gADC_CALCFG : RegGroup := ⟨0x0805, 1, 0x033F, 0x033F, 0x0000, 0x0000, .config, [0x0000]⟩
/-- ADC_CALREF, R540. -/
def gADC_CALREF : RegGroup := ⟨0x0806, 1, 0xFFFF, 0xFFFF, 0x0000, 0x0000, .config, [0xE8BA]⟩
/-- ADC_CALSTAT, R541. -/
def gADC_CALSTAT : RegGroup := ⟨0x0807, 1, 0xFE00, 0x0000, 0x8800, 0x0000, .volatile, [0x0000]⟩
/-- ADC_SKEW, R542. -/
def gADC_SKEW : RegGroup := ⟨0x0808, 1, 0x007F, 0x0000, 0x0000, 0x0000, .config, [0x0000]⟩
/-- ADC_COEF, R543. -/
def gADC_COEF : RegGroup := ⟨0x080A, 6, 0xFFFF, 0xFFFF, 0x0000, 0x0000, .config, [0x0000, 0x8000, 0x0000, 0x8000, 0x0000, 0x8000]⟩
/-- ADC_SEQ, R544. -/
def gADC_SEQ : RegGroup := ⟨0x0810, 32, 0xFF3F, 0x0000, 0x0000, 0x0000, .config, [0x8A22, 0x8A23, 0x8A24, 0x8A25, 0x8A26, 0x8A27, 0x8A28, 0x8A29, 0x922A, 0x922B, 0x922C, 0x922D, 0x0000, 0x0000, 0x0000, 0x0000] ++ [0x0000, 0x0000, 0x0000, 0x0000, 0x0000, 0x0000, 0x0000, 0x0000, 0x0000, 0x0000, 0x0000, 0x0000, 0x0000, 0x0000, 0x0000, 0x0000]⟩
/-- ADC_WIN0CFG, R545. -/
def gADC_WIN0CFG : RegGroup := ⟨0x0840, 1, 0xF03F, 0xF03F, 0x0000, 0x0000, .config, [0x0000]⟩
/-- ADC_WIN0LO, R545. -/
def gADC_WIN0LO : RegGroup := ⟨0x0841, 1, 0xFFFF, 0xFFFF, 0x0000, 0x0000, .config, [0x0000]⟩
/-- ADC_WIN0HI, R545. -/
def gADC_WIN0HI : RegGroup := ⟨0x0842, 1, 0xFFFF, 0xFFFF, 0x0000, 0x0000, .config, [0xFFFF]⟩
/-- ADC_WIN1CFG, R545. -/
def gADC_WIN1CFG : RegGroup := ⟨0x0844, 1, 0xF03F, 0xF03F, 0x0000, 0x0000, .config, [0x0000]⟩
/-- ADC_WIN1LO, R545. -/
def gADC_WIN1LO : RegGroup := ⟨0x0845, 1, 0xFFFF, 0xFFFF, 0x0000, 0x0000, .config, [0x0000]⟩
/-- ADC_WIN1HI, R545. -/
def gADC_WIN1HI : RegGroup := ⟨0x0846, 1, 0xFFFF, 0xFFFF, 0x0000, 0x0000, .config, [0xFFFF]⟩
/-- ADC_WIN2CFG, R545. -/
def gADC_WIN2CFG : RegGroup := ⟨0x0848, 1, 0xF03F, 0xF03F, 0x0000, 0x0000, .config, [0x0000]⟩
/-- ADC_WIN2LO, R545. -/
def gADC_WIN2LO : RegGroup := ⟨0x0849, 1, 0xFFFF, 0xFFFF, 0x0000, 0x0000, .config, [0x0000]⟩
/-- ADC_WIN2HI, R545. -/
def gADC_WIN2HI : RegGroup := ⟨0x084A, 1, 0xFFFF, 0xFFFF, 0x0000, 0x0000, .config, [0xFFFF]⟩
/-- ADC_WIN3CFG, R545. -/
def gADC_WIN3CFG : RegGroup := ⟨0x084C, 1, 0xF03F, 0xF03F, 0x0000, 0x0000, .config, [0x0000]⟩
/-- ADC_WIN3LO, R545. -/
def gADC_WIN3LO : RegGroup := ⟨0x084D, 1, 0xFFFF, 0xFFFF, 0x0000, 0x0000, .config, [0x0000]⟩
/-- ADC_WIN3HI, R545. -/
def gADC_WIN3HI : RegGroup := ⟨0x084E, 1, 0xFFFF, 0xFFFF, 0x0000, 0x0000, .config, [0xFFFF]⟩
/-- ADC_WIN4CFG, R545. -/
def gADC_WIN4CFG : RegGroup := ⟨0x0850, 1, 0xF03F, 0xF03F, 0x0000, 0x0000, .config, [0x0000]⟩
/-- ADC_WIN4LO, R545. -/
def gADC_WIN4LO : RegGroup := ⟨0x0851, 1, 0xFFFF, 0xFFFF, 0x0000, 0x0000, .config, [0x0000]⟩
/-- ADC_WIN4HI, R545. -/
def gADC_WIN4HI : RegGroup := ⟨0x0852, 1, 0xFFFF, 0xFFFF, 0x0000, 0x0000, .config, [0xFFFF]⟩
/-- ADC_WIN5CFG, R545. -/
def gADC_WIN5CFG : RegGroup := ⟨0x0854, 1, 0xF03F, 0xF03F, 0x0000, 0x0000, .config, [0x0000]⟩
/-- ADC_WIN5LO, R545. -/
def gADC_WIN5LO : RegGroup := ⟨0x0855, 1, 0xFFFF, 0xFFFF, 0x0000, 0x0000, .config, [0x0000]⟩
/-- ADC_WIN5HI, R545. -/
def gADC_WIN5HI : RegGroup := ⟨0x0856, 1, 0xFFFF, 0xFFFF, 0x0000, 0x0000, .config, [0xFFFF]⟩
/-- ADC_WIN6CFG, R545. -/
def gADC_WIN6CFG : RegGroup := ⟨0x0858, 1, 0xF03F, 0xF03F, 0x0000, 0x0000, .config, [0x0000]⟩
/-- ADC_WIN6LO, R545. -/
def gADC_WIN6LO : RegGroup := ⟨0x0859, 1, 0xFFFF, 0xFFFF, 0x0000, 0x0000, .config, [0x0000]⟩
/-- ADC_WIN6HI, R545. -/
def gADC_WIN6HI : RegGroup := ⟨0x085A, 1, 0xFFFF, 0xFFFF, 0x0000, 0x0000, .config, [0xFFFF]⟩
/-- ADC_WIN7CFG, R545. -/
def gADC_WIN7CFG : RegGroup := ⟨0x085C, 1, 0xF03F, 0xF03F, 0x0000, 0x0000, .config, [0x0000]⟩
/-- ADC_WIN7LO, R545. -/
def gADC_WIN7LO : RegGroup := ⟨0x085D, 1, 0xFFFF, 0xFFFF, 0x0000, 0x0000, .config, [0x0000]⟩
/-- ADC_WIN7HI, R545. -/
def gADC_WIN7HI : RegGroup := ⟨0x085E, 1, 0xFFFF, 0xFFFF, 0x0000, 0x0000, .config, [0xFFFF]⟩
/-- ADC_WINSTAT, R546. -/
def gADC_WINSTAT : RegGroup := ⟨0x0860, 1, 0xFFFF, 0x0000, 0xFF00, 0x0000, .volatile, [0x0000]⟩
/-- ADC_RES, R547. -/
def gADC_RES : RegGroup := ⟨0x0880, 128, 0xFFFF, 0x0000, 0x0000, 0x0000, .volatile, [0x0000]⟩
/-- CMP_CFG, R558. -/
def gCMP_CFG : RegGroup := ⟨0x0900, 16, 0xFFEF, 0x0000, 0x0000, 0x0000, .config, [0x5A41, 0x5A42, 0x5A43, 0x5A44, 0x5A45, 0x5A46, 0x5A47, 0x5A48, 0x5A49, 0x5A4A, 0x5800, 0x5800, 0x5800, 0x5800, 0x5800, 0x5800]⟩
/-- CMP_SRC, R559. -/
def gCMP_SRC : RegGroup := ⟨0x0910, 6, 0x003F, 0x0000, 0x0000, 0x0000, .config, [0x001F]⟩
/-- CMP_LO, R560. -/
def gCMP_LO : RegGroup := ⟨0x0920, 16, 0x03FF, 0x03FF, 0x0000, 0x0000, .config, [0x0000]⟩
/-- CMP_HI, R560. -/
def gCMP_HI : RegGroup := ⟨0x0930, 16, 0x03FF, 0x03FF, 0x0000, 0x0000, .config, [0x03FF]⟩
/-- CMP_PWR, R561. -/
def gCMP_PWR : RegGroup := ⟨0x0940, 1, 0xFFFF, 0xFFFF, 0x0000, 0x0000, .config, [0x0000]⟩
/-- CMP_ACT, R562. -/
def gCMP_ACT : RegGroup := ⟨0x0941, 1, 0xFFFF, 0x0000, 0x0000, 0x0000, .volatile, [0x0000]⟩
/-- CMP_UNDER, R562. -/
def gCMP_UNDER : RegGroup := ⟨0x0942, 1, 0xFFFF, 0x0000, 0x0000, 0x0000, .volatile, [0xFFFF]⟩
/-- CMP_OVER, R562. -/
def gCMP_OVER : RegGroup := ⟨0x0943, 1, 0xFFFF, 0x0000, 0x0000, 0x0000, .volatile, [0x0000]⟩
/-- CMP_UEVT, R563. -/
def gCMP_UEVT : RegGroup := ⟨0x0944, 1, 0xFFFF, 0x0000, 0xFFFF, 0x0000, .volatile, [0x0000]⟩
/-- CMP_OEVT, R563. -/
def gCMP_OEVT : RegGroup := ⟨0x0945, 1, 0xFFFF, 0x0000, 0xFFFF, 0x0000, .volatile, [0x0000]⟩
/-- CMP_RBSEL, R564. -/
def gCMP_RBSEL : RegGroup := ⟨0x0948, 1, 0xC01F, 0xC01F, 0x0000, 0x0000, .volatile, [0x0000]⟩
/-- CMP_RBSTAT, R565. -/
def gCMP_RBSTAT : RegGroup := ⟨0x0949, 1, 0xC01F, 0x0000, 0xC000, 0x0000, .volatile, [0x0000]⟩
/-- CMP_RBMEAS, R566. -/
def gCMP_RBMEAS : RegGroup := ⟨0x094A, 1, 0x03FF, 0x0000, 0x0000, 0x0000, .volatile, [0x0000]⟩
/-- CMP_SCCFG, R567. -/
def gCMP_SCCFG : RegGroup := ⟨0x094B, 1, 0x000F, 0x0000, 0x0000, 0x0000, .config, [0x0004]⟩
/-- CMP_GTIM, R568. -/
def gCMP_GTIM : RegGroup := ⟨0x094C, 1, 0xFFFF, 0x0000, 0x0000, 0x0000, .config, [0x03E8]⟩
/-- CMP_TICK, R569. -/
def gCMP_TICK : RegGroup := ⟨0x094D, 1, 0x000F, 0x0000, 0x0000, 0x0000, .volatile, [0x0000]⟩
/-- THM_STAT, R585. -/
def gTHM_STAT : RegGroup := ⟨0x0A00, 1, 0xFFE0, 0x0000, 0x0000, 0x0000, .volatile, [0x0200]⟩
/-- THM_HOT, R586. -/
def gTHM_HOT : RegGroup := ⟨0x0A01, 1, 0xFFFF, 0x0000, 0x0000, 0x0000, .volatile, [0x0000]⟩
/-- THM_SFAIL, R587. -/
def gTHM_SFAIL : RegGroup := ⟨0x0A02, 1, 0xFFFF, 0x0000, 0xFF00, 0x0000, .volatile, [0x0000]⟩
/-- THM_SCAUSE, R588. -/
def gTHM_SCAUSE : RegGroup := ⟨0x0A03, 1, 0xFFFF, 0x0000, 0x0000, 0x0000, .volatile, [0x0000]⟩
/-- THM_SDSTAT, R589. -/
def gTHM_SDSTAT : RegGroup := ⟨0x0A04, 1, 0xFFFF, 0x0000, 0xFF00, 0x0000, .kept, [0x0000]⟩
/-- THM_NTCSTAT, R590. -/
def gTHM_NTCSTAT : RegGroup := ⟨0x0A05, 1, 0x00FF, 0x0000, 0x0000, 0x0000, .volatile, [0x00FF]⟩
/-- THM_TS, R586. -/
def gTHM_TS : RegGroup := ⟨0x0A08, 8, 0xFFFF, 0x0000, 0x0000, 0x0000, .volatile, [0x0000]⟩
/-- THM_NTC, R591. -/
def gTHM_NTC : RegGroup := ⟨0x0A10, 4, 0xFFFF, 0x0000, 0x0000, 0x0000, .volatile, [0x8000]⟩
/-- THM_THRCFG, R592. -/
def gTHM_THRCFG : RegGroup := ⟨0x0A18, 1, 0xFFFE, 0x0000, 0x0000, 0x0000, .config, [0x7D94]⟩
/-- THM_THRLIM0, R593. -/
def gTHM_THRLIM0 : RegGroup := ⟨0x0A19, 1, 0xFFFF, 0xFFFF, 0x0000, 0x0000, .config, [0x0064]⟩
/-- THM_THRLIM1, R594. -/
def gTHM_THRLIM1 : RegGroup := ⟨0x0A1A, 1, 0xF1FF, 0xF1FF, 0x0000, 0x0000, .config, [0x4014]⟩
/-- THM_PTHR, R595. -/
def gTHM_PTHR : RegGroup := ⟨0x0A1B, 1, 0xFFFF, 0x0000, 0x0000, 0x0000, .config, [0x0320]⟩
/-- THM_NTCCFG, R596. -/
def gTHM_NTCCFG : RegGroup := ⟨0x0A1C, 1, 0xE0FF, 0x0000, 0x0000, 0x0000, .config, [0xE057]⟩
/-- THM_CNTSD, R597. -/
def gTHM_CNTSD : RegGroup := ⟨0x0A20, 1, 0xFFFF, 0x0000, 0x0000, 0x0000, .kept, [0x0000]⟩
/-- THM_CNTTHR, R597. -/
def gTHM_CNTTHR : RegGroup := ⟨0x0A21, 1, 0xFFFF, 0x0000, 0x0000, 0x0000, .kept, [0x0000]⟩
/-- THM_CNTCLR, R598. -/
def gTHM_CNTCLR : RegGroup := ⟨0x0A22, 1, 0xFFFF, 0x0000, 0x0000, 0x0000, .volatile, [0x0000]⟩
/-- THM_BT, R599. -/
def gTHM_BT : RegGroup := ⟨0x0A40, 96, 0xFFFF, 0x0000, 0x0000, 0x0000, .config, [0x0000, 0x0000, 0x0000, 0x0400, 0x0F0F, 0x0F0F, 0x0F0F, 0x0F0F, 0x000F, 0x170F, 0x0000, 0x0000, 0x0000, 0x0000, 0x0000, 0x0000] ++ [0x0000, 0x0000, 0x0000, 0x0300, 0x0F0F, 0x0F0F, 0x0F0F, 0x0F0F, 0x020F, 0x170F, 0x0000, 0x0000, 0x0000, 0x0000, 0x0000, 0x0000] ++ [0x0000, 0x0000, 0x0000, 0x0300, 0x0F0F, 0x0F0F, 0x0F0F, 0x0F0F, 0x050F, 0x170F, 0x0000, 0x0000, 0x0000, 0x0000, 0x0000, 0x0000] ++ [0x0000, 0x0000, 0x0000, 0x0200, 0x0F0F, 0x0F0F, 0x0F0F, 0x0F0F, 0x070F, 0x170F, 0x0000, 0x0000, 0x0000, 0x0000, 0x0000, 0x0000] ++ [0x0505, 0x0505, 0x0505, 0x0105, 0x0F0F, 0x0F0F, 0x0F0F, 0x0F0F, 0x090F, 0x170F, 0x0000, 0x0000, 0x0000, 0x0000, 0x0000, 0x0000] ++ [0x0707, 0x0707, 0x0707, 0x0007, 0x060A, 0x0606, 0x0606, 0x0A05, 0x0906, 0x170F, 0x0000, 0x0000, 0x0000, 0x0000, 0x0000, 0x0000]⟩
/-- RTC_SEC, R611. -/
def gRTC_SEC : RegGroup := ⟨0x0B00, 3, 0xFFFF, 0x0000, 0x0000, 0x0000, .rtc, [0x0000]⟩
/-- RTC_FRAC, R611. -/
def gRTC_FRAC : RegGroup := ⟨0x0B03, 1, 0xFFFF, 0x0000, 0x0000, 0x0000, .rtc, [0x0000]⟩
/-- RTC_STG, R612. -/
def gRTC_STG_1 : RegGroup := ⟨0x0B04, 2, 0xFFFF, 0xFFFF, 0x0000, 0x0000, .volatile, [0x0000]⟩
/-- RTC_STG, R612. -/
def gRTC_STG_2 : RegGroup := ⟨0x0B06, 1, 0x00FF, 0x00FF, 0x0000, 0x0000, .volatile, [0x0000]⟩
/-- RTC_STG, R612. -/
def gRTC_STG_3 : RegGroup := ⟨0x0B07, 1, 0xFFFF, 0xFFFF, 0x0000, 0x0000, .volatile, [0x0000]⟩
/-- RTC_SETGO, R613. -/
def gRTC_SETGO : RegGroup := ⟨0x0B08, 1, 0xFFFF, 0x0000, 0x0000, 0x0000, .volatile, [0x0000]⟩
/-- RTC_TRIM, R614. -/
def gRTC_TRIM : RegGroup := ⟨0x0B09, 1, 0x01FF, 0x01FF, 0x0000, 0x0000, .rtc, [0x0000]⟩
/-- RTC_STAT, R615. -/
def gRTC_STAT : RegGroup := ⟨0x0B0A, 1, 0xE000, 0x0000, 0x2000, 0x0000, .rtc, [0x0000]⟩
/-- RTC_CFG, R616. -/
def gRTC_CFG : RegGroup := ⟨0x0B0B, 1, 0x01FF, 0x0000, 0x0000, 0x0000, .config, [0x0000]⟩
/-- RTC_A0, R617. -/
def gRTC_A0_1 : RegGroup := ⟨0x0B10, 2, 0xFFFF, 0xFFFF, 0x0000, 0x0000, .kept, [0x0000]⟩
/-- RTC_A0, R617. -/
def gRTC_A0_2 : RegGroup := ⟨0x0B12, 1, 0x00FF, 0x00FF, 0x0000, 0x0000, .kept, [0x0000]⟩
/-- RTC_A0, R617. -/
def gRTC_A0_3 : RegGroup := ⟨0x0B13, 1, 0xFFFC, 0xFFFC, 0x0000, 0x0000, .kept, [0x0000]⟩
/-- RTC_A0, R617. -/
def gRTC_A0_4 : RegGroup := ⟨0x0B14, 2, 0xFFFF, 0xFFFF, 0x0000, 0x0000, .kept, [0x0000]⟩
/-- RTC_A0, R617. -/
def gRTC_A0_5 : RegGroup := ⟨0x0B16, 1, 0x00FF, 0x00FF, 0x0000, 0x0000, .kept, [0x0000]⟩
/-- RTC_A0, R617. -/
def gRTC_A0_6 : RegGroup := ⟨0x0B17, 1, 0xFFFC, 0xFFFC, 0x0000, 0x0000, .kept, [0x0000]⟩
/-- RTC_A1, R617. -/
def gRTC_A1_1 : RegGroup := ⟨0x0B18, 2, 0xFFFF, 0xFFFF, 0x0000, 0x0000, .kept, [0x0000]⟩
/-- RTC_A1, R617. -/
def gRTC_A1_2 : RegGroup := ⟨0x0B1A, 1, 0x00FF, 0x00FF, 0x0000, 0x0000, .kept, [0x0000]⟩
/-- RTC_A1, R617. -/
def gRTC_A1_3 : RegGroup := ⟨0x0B1B, 1, 0xFFFC, 0xFFFC, 0x0000, 0x0000, .kept, [0x0000]⟩
/-- RTC_A1, R617. -/
def gRTC_A1_4 : RegGroup := ⟨0x0B1C, 2, 0xFFFF, 0xFFFF, 0x0000, 0x0000, .kept, [0x0000]⟩
/-- RTC_A1, R617. -/
def gRTC_A1_5 : RegGroup := ⟨0x0B1E, 1, 0x00FF, 0x00FF, 0x0000, 0x0000, .kept, [0x0000]⟩
/-- RTC_A1, R617. -/
def gRTC_A1_6 : RegGroup := ⟨0x0B1F, 1, 0xFFFC, 0xFFFC, 0x0000, 0x0000, .kept, [0x0000]⟩
/-- RTC_ALMCFG, R618. -/
def gRTC_ALMCFG : RegGroup := ⟨0x0B20, 1, 0x000F, 0x000F, 0x0000, 0x0000, .kept, [0x0000]⟩
/-- RTC_ALMSTAT, R619. -/
def gRTC_ALMSTAT : RegGroup := ⟨0x0B21, 1, 0x000F, 0x0000, 0x000F, 0x0000, .kept, [0x0000]⟩
/-- RTC_BKTS, R620. -/
def gRTC_BKTS_1 : RegGroup := ⟨0x0B24, 2, 0xFFFF, 0x0000, 0x0000, 0x0000, .kept, [0x0000]⟩
/-- RTC_BKTS, R620. -/
def gRTC_BKTS_2 : RegGroup := ⟨0x0B26, 1, 0x80FF, 0x0000, 0x8000, 0x0000, .kept, [0x0000]⟩
/-- RTC_BKTS, R620. -/
def gRTC_BKTS_3 : RegGroup := ⟨0x0B27, 1, 0xFFFF, 0x0000, 0x0000, 0x0000, .kept, [0x0000]⟩
/-- FLT_STAT, R642. -/
def gFLT_STAT : RegGroup := ⟨0x0C00, 1, 0xFCFF, 0x0000, 0x0000, 0x0000, .volatile, [0x0000]⟩
/-- FLT_CFG, R643. -/
def gFLT_CFG : RegGroup := ⟨0x0C01, 1, 0xF1FF, 0x0000, 0x0000, 0x0000, .config, [0x5114]⟩
/-- FLT_TEST, R644. -/
def gFLT_TEST : RegGroup := ⟨0x0C02, 1, 0x0007, 0x0003, 0x0004, 0x0000, .volatile, [0x0000]⟩
/-- FLT_FIRST, R645. -/
def gFLT_FIRST : RegGroup := ⟨0x0C03, 1, 0xE07F, 0x0000, 0x0000, 0x0000, .volatile, [0x0000]⟩
/-- FLT_CNTCLR, R646. -/
def gFLT_CNTCLR : RegGroup := ⟨0x0C04, 1, 0xFFFF, 0x0000, 0x0000, 0x0000, .volatile, [0x0000]⟩
/-- FLT_EN, R647. -/
def gFLT_EN : RegGroup := ⟨0x0C08, 8, 0xFFFF, 0x0000, 0x0000, 0x0000, .config, [0xFFFF]⟩
/-- FLT_STK, R647. -/
def gFLT_STK : RegGroup := ⟨0x0C10, 8, 0xFFFF, 0x0000, 0xFFFF, 0x0000, .volatile, [0x0000]⟩
/-- FLT_FRC, R647. -/
def gFLT_FRC : RegGroup := ⟨0x0C18, 8, 0xFFFF, 0x0000, 0x0000, 0x0000, .volatile, [0x0000]⟩
/-- FLT_CLS, R648. -/
def gFLT_CLS : RegGroup := ⟨0x0C20, 16, 0xFFFF, 0x0000, 0x0000, 0x0000, .config, [0xFFFF, 0xAAA5, 0xFF5A, 0xFFFF, 0x5555, 0x5555, 0x55A9, 0x5555, 0x5555, 0x5555, 0x5551, 0x5555, 0x5D17, 0x5557, 0x5155, 0x5545]⟩
/-- FLT_SNAP, R649. -/
def gFLT_SNAP : RegGroup := ⟨0x0C30, 8, 0xFFFF, 0x0000, 0x0000, 0x0000, .kept, [0x0000]⟩
/-- FLT_SNAPINF, R649. -/
def gFLT_SNAPINF : RegGroup := ⟨0x0C38, 1, 0xFF00, 0x0000, 0x8000, 0x0000, .kept, [0x0000]⟩
/-- FLT_CNT, R650. -/
def gFLT_CNT : RegGroup := ⟨0x0C80, 128, 0xFFFF, 0x0000, 0x0000, 0x0000, .volatile, [0x0000]⟩
/-- MRQ_STAT, R664. -/
def gMRQ_STAT : RegGroup := ⟨0x0D00, 1, 0xBEFF, 0x0000, 0x0600, 0x0000, .volatile, [0x0000]⟩
/-- MRQ_FREE, R665. -/
def gMRQ_FREE : RegGroup := ⟨0x0D01, 1, 0x1FFF, 0x0000, 0x0000, 0x0000, .volatile, [0x1000]⟩
/-- MRQ_WORDS, R666. -/
def gMRQ_WORDS : RegGroup := ⟨0x0D02, 4, 0x1FFF, 0x0000, 0x0000, 0x0000, .volatile, [0x0000]⟩
/-- MRQ_PKTS, R666. -/
def gMRQ_PKTS : RegGroup := ⟨0x0D06, 4, 0x1FFF, 0x0000, 0x0000, 0x0000, .volatile, [0x0000]⟩
/-- MRQ_DROP, R667. -/
def gMRQ_DROP : RegGroup := ⟨0x0D0A, 4, 0xFFFF, 0x0000, 0x0000, 0x0000, .volatile, [0x0000]⟩
/-- MRQ_HEAD, R668. -/
def gMRQ_HEAD : RegGroup := ⟨0x0D0E, 2, 0xFFFF, 0x0000, 0x0000, 0x0000, .volatile, [0x0000]⟩
/-- MRQ_CNTRST, R669. -/
def gMRQ_CNTRST : RegGroup := ⟨0x0D10, 1, 0xFFFF, 0x0000, 0x0000, 0x0000, .kept, [0x0000]⟩
/-- MRQ_CTL, R670. -/
def gMRQ_CTL : RegGroup := ⟨0x0D11, 1, 0xFFFF, 0x0000, 0x0000, 0x0000, .volatile, [0x0000]⟩
/-- WAY_STAT, R499. -/
def gWAY_STAT : RegGroup := ⟨0x0E00, 1, 0xFFE0, 0x0000, 0x03C0, 0x0000, .volatile, [0x0000]⟩
/-- WAY_CFG, R500. -/
def gWAY_CFG : RegGroup := ⟨0x0E01, 1, 0xD81F, 0x0000, 0x0000, 0x0000, .config, [0x9800]⟩
/-- WAY_TOLLCFG, R501. -/
def gWAY_TOLLCFG : RegGroup := ⟨0x0E02, 1, 0xFFFF, 0x0000, 0x0000, 0x0000, .config, [0x1414]⟩
/-- WAY_GRANT, R502. -/
def gWAY_GRANT : RegGroup := ⟨0x0E03, 1, 0xFFFF, 0x0000, 0x0000, 0x0000, .volatile, [0x0000]⟩
/-- WAY_LEASE, R503. -/
def gWAY_LEASE : RegGroup := ⟨0x0E04, 1, 0xFFFF, 0x0000, 0x0000, 0x0000, .volatile, [0x0000]⟩
/-- WAY_ADDR, R504. -/
def gWAY_ADDR : RegGroup := ⟨0x0E05, 1, 0xC01F, 0x0000, 0x0000, 0x0000, .volatile, [0x0000]⟩
/-- WAY_ILIM, R505. -/
def gWAY_ILIM : RegGroup := ⟨0x0E06, 1, 0xBFFF, 0x0000, 0x0000, 0x0000, .volatile, [0x8000]⟩
/-- WAY_CNTCRC, R506. -/
def gWAY_CNTCRC : RegGroup := ⟨0x0E08, 1, 0xFFFF, 0x0000, 0x0000, 0x0000, .kept, [0x0000]⟩
/-- WAY_CNTORPH, R506. -/
def gWAY_CNTORPH : RegGroup := ⟨0x0E09, 1, 0xFFFF, 0x0000, 0x0000, 0x0000, .kept, [0x0000]⟩
/-- WAY_CNTCLR, R507. -/
def gWAY_CNTCLR : RegGroup := ⟨0x0E0A, 1, 0xFFFF, 0x0000, 0x0000, 0x0000, .volatile, [0x0000]⟩
/-- WAY_MCFG, R508. -/
def gWAY_MCFG : RegGroup := ⟨0x0E10, 1, 0xC000, 0x0000, 0x0000, 0x0000, .config, [0xC000]⟩
/-- WAY_MBUDGET, R509. -/
def gWAY_MBUDGET : RegGroup := ⟨0x0E11, 1, 0x0FFF, 0x0FFF, 0x0000, 0x0000, .config, [0x0FFF]⟩
/-- WAY_MCOMMIT, R510. -/
def gWAY_MCOMMIT : RegGroup := ⟨0x0E12, 1, 0x1FFF, 0x0000, 0x0000, 0x0000, .volatile, [0x0000]⟩
/-- WAY_MPEND, R511. -/
def gWAY_MPEND : RegGroup := ⟨0x0E13, 1, 0x3F3F, 0x0000, 0x0000, 0x0000, .volatile, [0x0000]⟩
/-- WAY_MPRES, R512. -/
def gWAY_MPRES : RegGroup := ⟨0x0E14, 2, 0xFFFF, 0x0000, 0x0000, 0x0000, .volatile, [0x0000]⟩
/-- WAY_MCHG, R513. -/
def gWAY_MCHG : RegGroup := ⟨0x0E16, 2, 0xFFFF, 0x0000, 0xFFFF, 0x0000, .volatile, [0x0000]⟩
/-- WAY_RSTCMD, R514. -/
def gWAY_RSTCMD : RegGroup := ⟨0x0E18, 1, 0xFF1F, 0x0000, 0x0000, 0x0000, .volatile, [0x0000]⟩
/-- WAY_MSTAT, R515. -/
def gWAY_MSTAT : RegGroup := ⟨0x0E19, 1, 0xC01F, 0x0000, 0x4000, 0x0000, .volatile, [0x0000]⟩
/-- WAY_W, R516. -/
def gWAY_W : RegGroup := ⟨0x0E40, 124, 0xFFFF, 0x0000, 0x0000, 0x0000, .volatile, [0x0000]⟩
/-- ENG_STAT, R175. -/
def gENG_STAT : RegGroup := ⟨0x0F00, 1, 0xEFFF, 0x0000, 0xC000, 0x0000, .volatile, [0x0000]⟩
/-- ENG_FSET, R176. -/
def gENG_FSET : RegGroup := ⟨0x0F02, 2, 0xFFFF, 0x0000, 0x0000, 0xFFFF, .volatile, [0x0000]⟩
/-- ENG_FCLR, R176. -/
def gENG_FCLR : RegGroup := ⟨0x0F04, 2, 0xFFFF, 0x0000, 0xFFFF, 0x0000, .volatile, [0x0000]⟩
/-- ENG_TRIG, R177. -/
def gENG_TRIG : RegGroup := ⟨0x0F06, 1, 0xFF0F, 0x0000, 0x0000, 0x0000, .volatile, [0x0000]⟩
/-- ENG_DBG, R178. -/
def gENG_DBG : RegGroup := ⟨0x0F07, 1, 0x001F, 0x000F, 0x0000, 0x0000, .volatile, [0x0000]⟩
/-- ENG_DBGSTEP, R179. -/
def gENG_DBGSTEP : RegGroup := ⟨0x0F08, 2, 0xFFFF, 0x0000, 0x0000, 0x0000, .volatile, [0x0000]⟩
/-- ENG_TIM, R180. -/
def gENG_TIM : RegGroup := ⟨0x0F0A, 4, 0xFFFF, 0x0000, 0x0000, 0x0000, .volatile, [0x0000]⟩
/-- ENG_FWVER, R181. -/
def gENG_FWVER : RegGroup := ⟨0x0F0E, 1, 0xFFFF, 0x0000, 0x0000, 0x0000, .volatile, [0x0101]⟩
/-- ENG_PC, R182. -/
def gENG_PC : RegGroup := ⟨0x0F10, 12, 0xEFFF, 0x0000, 0x0000, 0x0000, .volatile, [0x8000]⟩
/-- ENG_BASE, R183. -/
def gENG_BASE : RegGroup := ⟨0x0F20, 12, 0x0FFF, 0x0000, 0x0000, 0x0000, .config, [0x0000]⟩
/-- ENG_LEN, R184. -/
def gENG_LEN : RegGroup := ⟨0x0F30, 12, 0x1FFF, 0x0000, 0x0000, 0x0000, .config, [0x0000]⟩
/-- ENG_STEP, R697. -/
def gENG_STEP : RegGroup := ⟨0x1000, 8192, 0xFFFF, 0x0000, 0x0000, 0x0000, .config, [0x0000]⟩
/-- STK_REC, R697. -/
def gSTK_REC : RegGroup := ⟨0x4000, 32768, 0xFFFF, 0xFFFF, 0x0000, 0x0000, .volatile, [0x0000]⟩
/-- GAU_ZCUR, R697. -/
def gGAU_ZCUR : RegGroup := ⟨0xC000, 240, 0xFFFF, 0x0000, 0x0000, 0x0000, .learned, [0x0000]⟩
/-- GAU_ZPRV, R697. -/
def gGAU_ZPRV : RegGroup := ⟨0xC0F0, 240, 0xFFFF, 0x0000, 0x0000, 0x0000, .learned, [0x0000]⟩
/-- GAU_OCV, R697. -/
def gGAU_OCV : RegGroup := ⟨0xC1E0, 21, 0xFFFF, 0x0000, 0x0000, 0x0000, .config, [0x09C4, 0x0BB8, 0x0C4E, 0x0C80, 0x0C99, 0x0CAD, 0x0CBC, 0x0CC6, 0x0CD0, 0x0CD5, 0x0CDA, 0x0CDF, 0x0CE4, 0x0CE9, 0x0CF3, 0x0CFD] ++ [0x0D07, 0x0D11, 0x0D20, 0x0D3E, 0x0DAC]⟩
/-- STK_REFO, R697. -/
def gSTK_REFO : RegGroup := ⟨0xC200, 256, 0xFFFF, 0x0000, 0x0000, 0x0000, .learned, [0x0000]⟩
/-- STK_REFC, R697. -/
def gSTK_REFC : RegGroup := ⟨0xC300, 256, 0xFFFF, 0x0000, 0x0000, 0x0000, .learned, [0x0000]⟩
/-- Part 0 of the map. -/
def regTree0 : RegTree := (.node (.node (.node (.node (.node .leaf gID_1 .leaf) gID_2 .leaf) gID_3 (.node .leaf gHIF_VER .leaf)) gHIF_ERR (.node (.node .leaf gHIF_ACK .leaf) gHIF_RLYSTAT (.node .leaf gHIF_RLYADDR .leaf))) gHIF_RLYBUF (.node (.node (.node .leaf gSYS_STATE .leaf) gSYS_RSTCAUSE (.node .leaf gSYS_WAKECAUSE .leaf)) gSYS_CTRL (.node (.node .leaf gSYS_RESET .leaf) gSYS_SHIP (.node .leaf gSYS_WAKECFG .leaf))))
/-- Part 1 of the map. -/
def regTree1 : RegTree := (.node (.node (.node (.node (.node .leaf gSYS_PBCFG .leaf) gSYS_CFG .leaf) gSYS_CLK (.node .leaf gSYS_STRAP .leaf)) gSYS_SCRATCH (.node (.node .leaf gSYS_IMGSTAT .leaf) gSYS_IMGVER (.node .leaf gSYS_IMGCRC .leaf))) gSYS_NVMCFG (.node (.node (.node .leaf gSYS_LDCFG .leaf) gSYS_LDSTAT (.node .leaf gSYS_LDSEQ .leaf)) gSYS_LDCTRL (.node (.node .leaf gSYS_FFSTAT .leaf) gSYS_SHEDMASK (.node .leaf gSYS_HKPER .leaf))))
/-- Part 2 of the map. -/
def regTree2 : RegTree := (.node (.node (.node (.node (.node .leaf gSYS_EVAR .leaf) gSYS_FFLOG .leaf) gDOM1_CFG (.node .leaf gDOM1_STAT .leaf)) gDOM1_CNT (.node (.node .leaf gDOM1_CNTCLR .leaf) gDOM_PGSUM (.node .leaf gDOM_SEQCFG .leaf))) gDOM_SEQSTAT (.node (.node (.node .leaf gDOM2_CFG .leaf) gDOM2_STAT (.node .leaf gDOM2_CNT .leaf)) gDOM2_CNTCLR (.node (.node .leaf gDOM2_VSET .leaf) gDOM2_ILIM (.node .leaf gDOM2_RCFG .leaf))))
/-- Part 3 of the map. -/
def regTree3 : RegTree := (.node (.node (.node (.node (.node .leaf gDOM2_RSTAT .leaf) gDOM2_VACT .leaf) gDOM3_CFG (.node .leaf gDOM3_STAT .leaf)) gDOM3_CNT (.node (.node .leaf gDOM3_CNTCLR .leaf) gDOM3_VSET (.node .leaf gDOM3_ILIM .leaf))) gDOM3_RCFG (.node (.node (.node .leaf gDOM3_RSTAT .leaf) gDOM3_VACT (.node .leaf gDOM4_CFG .leaf)) gDOM4_STAT (.node (.node .leaf gDOM4_CNT .leaf) gDOM4_CNTCLR (.node .leaf gDOM4_VSET .leaf))))
/-- Part 4 of the map. -/
def regTree4 : RegTree := (.node (.node (.node (.node (.node .leaf gDOM4_ILIM .leaf) gDOM4_RCFG .leaf) gDOM4_SLEW (.node .leaf gDOM4_RSTAT .leaf)) gDOM4_VACT (.node (.node .leaf gDOM5_CFG .leaf) gDOM5_STAT (.node .leaf gDOM5_CNT .leaf))) gDOM5_CNTCLR (.node (.node (.node .leaf gDOM5_VSET .leaf) gDOM5_ILIM (.node .leaf gDOM5_RCFG .leaf)) gDOM5_SLEW (.node (.node .leaf gDOM5_RSTAT .leaf) gDOM5_VACT (.node .leaf gDOM6_CFG .leaf))))
/-- Part 5 of the map. -/
def regTree5 : RegTree := (.node (.node (.node (.node (.node .leaf gDOM6_STAT .leaf) gDOM6_CNT .leaf) gDOM6_CNTCLR (.node .leaf gDOM6_VSET .leaf)) gDOM6_ILIM (.node (.node .leaf gDOM6_RCFG .leaf) gDOM6_RSTAT (.node .leaf gDOM6_VACT .leaf))) gDOM7_CFG (.node (.node (.node .leaf gDOM7_STAT .leaf) gDOM7_CNT (.node .leaf gDOM7_CNTCLR .leaf)) gDOM7_VSET (.node (.node .leaf gDOM7_ILIM .leaf) gDOM7_RCFG (.node .leaf gDOM7_RSTAT .leaf))))
/-- Part 6 of the map. -/
def regTree6 : RegTree := (.node (.node (.node (.node (.node .leaf gDOM7_VACT .leaf) gDOM8_CFG .leaf) gDOM8_STAT (.node .leaf gDOM8_CNT .leaf)) gDOM8_CNTCLR (.node (.node .leaf gDOM8_VSET .leaf) gDOM8_ILIM (.node .leaf gDOM8_RCFG .leaf))) gDOM8_RSTAT (.node (.node (.node .leaf gDOM8_VACT .leaf) gDOM9_CFG (.node .leaf gDOM9_STAT .leaf)) gDOM9_CNT (.node (.node .leaf gDOM9_CNTCLR .leaf) gDOM9_HOLD (.node .leaf gDOM9_ILIM .leaf))))
/-- Part 7 of the map. -/
def regTree7 : RegTree := (.node (.node (.node (.node (.node .leaf gDOM9_LCFG .leaf) gDOM9_LSTAT .leaf) gDOM10_CFG (.node .leaf gDOM10_STAT .leaf)) gDOM10_CNT (.node (.node .leaf gDOM10_CNTCLR .leaf) gDOM10_VSET (.node .leaf gDOM10_ILIM .leaf))) gDOM10_RCFG (.node (.node (.node .leaf gDOM10_RSTAT .leaf) gDOM10_VACT (.node .leaf gDRV_STAT .leaf)) gDRV_VSET (.node (.node .leaf gDRV_VACT .leaf) gDRV_VMAX (.node .leaf gDRV_SLEW .leaf))))
/-- Part 8 of the map. -/
def regTree8 : RegTree := (.node (.node (.node (.node (.node .leaf gDRV_FSW .leaf) gDRV_SYNC .leaf) gDRV_SYNCSTAT (.node .leaf gDRV_PHCFG .leaf)) gDRV_PHEN (.node (.node .leaf gDRV_PHSTAT .leaf) gDRV_RETCAUSE (.node .leaf gDRV_PHCTL .leaf))) gDRV_SHED (.node (.node (.node .leaf gDRV_OCCFG .leaf) gDRV_ITOT (.node .leaf gDRV_IPHOVL .leaf)) gDRV_IPHSC (.node (.node .leaf gDRV_CSCFG .leaf) gDRV_FF (.node .leaf gDRV_VOUT .leaf))))
/-- Part 9 of the map. -/
def regTree9 : RegTree := (.node (.node (.node (.node (.node .leaf gDRV_IOUT .leaf) gDRV_IIN .leaf) gDRV_ICEIL (.node .leaf gDRV_IPH .leaf)) gDRV_TRIM (.node (.node .leaf gDRV_DUTY .leaf) gDRV_DTACT (.node .leaf gDRV_CNTRET .leaf))) gDRV_CNTHIC (.node (.node (.node .leaf gDRV_CNTSYNC .leaf) gDRV_CNTCLR (.node .leaf gDRV_COEF .leaf)) gLIN_STAT (.node (.node .leaf gLIN_CFG0 .leaf) gLIN_CFG1 (.node .leaf gLIN_IHOST .leaf))))
/-- Part 10 of the map. -/
def regTree10 : RegTree := (.node (.node (.node (.node (.node .leaf gLIN_IEFF .leaf) gLIN_CTRL .leaf) gLIN_CNTLOSS (.node .leaf gLIN_CNTOV .leaf)) gLIN_CNTTRIP (.node (.node .leaf gLIN_SRCTAB .leaf) gWEIR_CFG (.node .leaf gWEIR_STAT .leaf))) gWEIR_CNTTK (.node (.node (.node .leaf gSTK_STAT .leaf) gSTK_CMD (.node .leaf gSTK_CFG .leaf)) gSTK_PRECFG (.node (.node .leaf gSTK_TOLLCFG .leaf) gSTK_DETCFG (.node .leaf gSTK_PRVCFG .leaf))))
/-- Part 11 of the map. -/
def regTree11 : RegTree := (.node (.node (.node (.node (.node .leaf gSTK_PRVSTAT .leaf) gSTK_REFCFG .leaf) gSTK_DEVCFG (.node .leaf gSTK_REFCTL .leaf)) gSTK_REFCNT (.node (.node .leaf gSTK_RECCFG .leaf) gSTK_RECSTAT (.node .leaf gSTK_RECCNT .leaf))) gSTK_CAP (.node (.node (.node .leaf gSTK_SUMFLG .leaf) gSTK_SUM (.node .leaf gSTK_CNT .leaf)) gSTK_CNTCLR (.node (.node .leaf gCHG_STAT .leaf) gCHG_FLT (.node .leaf gCHG_CTRL .leaf))))
/-- Part 12 of the map. -/
def regTree12 : RegTree := (.node (.node (.node (.node (.node .leaf gCHG_ICHG .leaf) gCHG_VREG .leaf) gCHG_KEY (.node .leaf gCHG_CFG .leaf)) gCHG_PRECFG (.node (.node .leaf gCHG_TERMCFG .leaf) gCHG_TMRCFG (.node .leaf gCHG_TMR .leaf))) gCHG_IMEAS (.node (.node (.node .leaf gCHG_VBAT .leaf) gCHG_TBAT (.node .leaf gCHG_ALLOW .leaf)) gCHG_ZTAB (.node (.node .leaf gCHG_CNTCYC .leaf) gCHG_CNTREM (.node .leaf gGAU_STAT .leaf))))
/-- Part 13 of the map. -/
def regTree13 : RegTree := (.node (.node (.node (.node (.node .leaf gGAU_SOC .leaf) gGAU_SOCCC .leaf) gGAU_SOCV (.node .leaf gGAU_QREM .leaf)) gGAU_FCC (.node (.node .leaf gGAU_RESERVE .leaf) gGAU_IEM (.node .leaf gGAU_QEM .leaf))) gGAU_IBAT (.node (.node (.node .leaf gGAU_VCELL .leaf) gGAU_CTRL (.node .leaf gGAU_AUTHSTAT .leaf)) gGAU_CYC (.node (.node .leaf gGAU_Z .leaf) gGAU_ZPOS (.node .leaf gGAU_ACC0 .leaf))))
/-- Part 14 of the map. -/
def regTree14 : RegTree := (.node (.node (.node (.node (.node .leaf gGAU_ACC1 .leaf) gGAU_ACC2 .leaf) gGAU_CFG (.node .leaf gGAU_SN .leaf)) gGAU_PSN (.node (.node .leaf gGAU_PFCC .leaf) gGAU_PFLG (.node .leaf gGAU_MODEL .leaf))) gADC_STAT (.node (.node (.node .leaf gADC_CFG .leaf) gADC_CMD (.node .leaf gADC_INJ .leaf)) gADC_INJSTAT (.node (.node .leaf gADC_CALCFG .leaf) gADC_CALREF (.node .leaf gADC_CALSTAT .leaf))))
/-- Part 15 of the map. -/
def regTree15 : RegTree := (.node (.node (.node (.node (.node .leaf gADC_SKEW .leaf) gADC_COEF .leaf) gADC_SEQ (.node .leaf gADC_WIN0CFG .leaf)) gADC_WIN0LO (.node (.node .leaf gADC_WIN0HI .leaf) gADC_WIN1CFG (.node .leaf gADC_WIN1LO .leaf))) gADC_WIN1HI (.node (.node (.node .leaf gADC_WIN2CFG .leaf) gADC_WIN2LO (.node .leaf gADC_WIN2HI .leaf)) gADC_WIN3CFG (.node (.node .leaf gADC_WIN3LO .leaf) gADC_WIN3HI (.node .leaf gADC_WIN4CFG .leaf))))
/-- Part 16 of the map. -/
def regTree16 : RegTree := (.node (.node (.node (.node (.node .leaf gADC_WIN4LO .leaf) gADC_WIN4HI .leaf) gADC_WIN5CFG (.node .leaf gADC_WIN5LO .leaf)) gADC_WIN5HI (.node (.node .leaf gADC_WIN6CFG .leaf) gADC_WIN6LO (.node .leaf gADC_WIN6HI .leaf))) gADC_WIN7CFG (.node (.node (.node .leaf gADC_WIN7LO .leaf) gADC_WIN7HI (.node .leaf gADC_WINSTAT .leaf)) gADC_RES (.node (.node .leaf gCMP_CFG .leaf) gCMP_SRC (.node .leaf gCMP_LO .leaf))))
/-- Part 17 of the map. -/
def regTree17 : RegTree := (.node (.node (.node (.node (.node .leaf gCMP_HI .leaf) gCMP_PWR .leaf) gCMP_ACT (.node .leaf gCMP_UNDER .leaf)) gCMP_OVER (.node (.node .leaf gCMP_UEVT .leaf) gCMP_OEVT (.node .leaf gCMP_RBSEL .leaf))) gCMP_RBSTAT (.node (.node (.node .leaf gCMP_RBMEAS .leaf) gCMP_SCCFG (.node .leaf gCMP_GTIM .leaf)) gCMP_TICK (.node (.node .leaf gTHM_STAT .leaf) gTHM_HOT (.node .leaf gTHM_SFAIL .leaf))))
/-- Part 18 of the map. -/
def regTree18 : RegTree := (.node (.node (.node (.node (.node .leaf gTHM_SCAUSE .leaf) gTHM_SDSTAT .leaf) gTHM_NTCSTAT (.node .leaf gTHM_TS .leaf)) gTHM_NTC (.node (.node .leaf gTHM_THRCFG .leaf) gTHM_THRLIM0 (.node .leaf gTHM_THRLIM1 .leaf))) gTHM_PTHR (.node (.node (.node .leaf gTHM_NTCCFG .leaf) gTHM_CNTSD (.node .leaf gTHM_CNTTHR .leaf)) gTHM_CNTCLR (.node (.node .leaf gTHM_BT .leaf) gRTC_SEC (.node .leaf gRTC_FRAC .leaf))))
/-- Part 19 of the map. -/
def regTree19 : RegTree := (.node (.node (.node (.node (.node .leaf gRTC_STG_1 .leaf) gRTC_STG_2 .leaf) gRTC_STG_3 (.node .leaf gRTC_SETGO .leaf)) gRTC_TRIM (.node (.node .leaf gRTC_STAT .leaf) gRTC_CFG (.node .leaf gRTC_A0_1 .leaf))) gRTC_A0_2 (.node (.node (.node .leaf gRTC_A0_3 .leaf) gRTC_A0_4 (.node .leaf gRTC_A0_5 .leaf)) gRTC_A0_6 (.node (.node .leaf gRTC_A1_1 .leaf) gRTC_A1_2 (.node .leaf gRTC_A1_3 .leaf))))
/-- Part 20 of the map. -/
def regTree20 : RegTree := (.node (.node (.node (.node (.node .leaf gRTC_A1_4 .leaf) gRTC_A1_5 .leaf) gRTC_A1_6 (.node .leaf gRTC_ALMCFG .leaf)) gRTC_ALMSTAT (.node (.node .leaf gRTC_BKTS_1 .leaf) gRTC_BKTS_2 (.node .leaf gRTC_BKTS_3 .leaf))) gFLT_STAT (.node (.node (.node .leaf gFLT_CFG .leaf) gFLT_TEST (.node .leaf gFLT_FIRST .leaf)) gFLT_CNTCLR (.node (.node .leaf gFLT_EN .leaf) gFLT_STK (.node .leaf gFLT_FRC .leaf))))
/-- Part 21 of the map. -/
def regTree21 : RegTree := (.node (.node (.node (.node (.node .leaf gFLT_CLS .leaf) gFLT_SNAP .leaf) gFLT_SNAPINF (.node .leaf gFLT_CNT .leaf)) gMRQ_STAT (.node (.node .leaf gMRQ_FREE .leaf) gMRQ_WORDS (.node .leaf gMRQ_PKTS .leaf))) gMRQ_DROP (.node (.node (.node .leaf gMRQ_HEAD .leaf) gMRQ_CNTRST (.node .leaf gMRQ_CTL .leaf)) gWAY_STAT (.node (.node .leaf gWAY_CFG .leaf) gWAY_TOLLCFG (.node .leaf gWAY_GRANT .leaf))))
/-- Part 22 of the map. -/
def regTree22 : RegTree := (.node (.node (.node (.node (.node .leaf gWAY_LEASE .leaf) gWAY_ADDR .leaf) gWAY_ILIM (.node .leaf gWAY_CNTCRC .leaf)) gWAY_CNTORPH (.node (.node .leaf gWAY_CNTCLR .leaf) gWAY_MCFG (.node .leaf gWAY_MBUDGET .leaf))) gWAY_MCOMMIT (.node (.node (.node .leaf gWAY_MPEND .leaf) gWAY_MPRES (.node .leaf gWAY_MCHG .leaf)) gWAY_RSTCMD (.node (.node .leaf gWAY_MSTAT .leaf) gWAY_W (.node .leaf gENG_STAT .leaf))))
/-- Part 23 of the map. -/
def regTree23 : RegTree := (.node (.node (.node (.node (.node .leaf gENG_FSET .leaf) gENG_FCLR .leaf) gENG_TRIG (.node .leaf gENG_DBG .leaf)) gENG_DBGSTEP (.node (.node .leaf gENG_TIM .leaf) gENG_FWVER (.node .leaf gENG_PC .leaf))) gENG_BASE (.node (.node (.node .leaf gENG_LEN .leaf) gENG_STEP (.node .leaf gSTK_REC .leaf)) gGAU_ZCUR (.node (.node .leaf gGAU_ZPRV .leaf) gGAU_OCV (.node .leaf gSTK_REFO .leaf))))
/-- Part 24 of the map. -/
def regTree24 : RegTree := (.node .leaf gSTK_REFC .leaf)
/-- The part of the map that holds address `a`. -/
def regTreeOf (a : Nat) : RegTree :=
  (if a < 0x0603 then (if a < 0x02D5 then (if a < 0x0234 then (if a < 0x0107 then regTree0 else (if a < 0x0150 then regTree1 else regTree2)) else (if a < 0x0271 then regTree3 else (if a < 0x02A1 then regTree4 else regTree5))) else (if a < 0x0421 then (if a < 0x0312 then regTree6 else (if a < 0x0408 then regTree7 else regTree8)) else (if a < 0x0504 then regTree9 else (if a < 0x0587 then regTree10 else regTree11)))) else (if a < 0x0A03 then (if a < 0x0808 then (if a < 0x0701 then regTree12 else (if a < 0x0719 then regTree13 else regTree14)) else (if a < 0x0851 then regTree15 else (if a < 0x0930 then regTree16 else regTree17))) else (if a < 0x0C20 then (if a < 0x0B04 then regTree18 else (if a < 0x0B1C then regTree19 else regTree20)) else (if a < 0x0F02 then (if a < 0x0E04 then regTree21 else regTree22) else (if a < 0xC300 then regTree23 else regTree24)))))
/-- The run that holds address `a`, if the spec maps it (R141, R142). -/
def regGroup (a : Nat) : Option RegGroup := (regTreeOf a).find a

/-- R141, R142: the chapter that lists the block maps this address. -/
def mapped (a : Nat) : Bool := (regGroup a).isSome

/-- The word an address reads as while nothing has been stored at it: the reset word of its description (R14, R696), and zero outside the map. -/
def resetWord (a : Nat) : Word :=
  match regGroup a with
  | some g => BitVec.ofNat 16 (g.resetAt a)
  | none => 0

/-- R15: the survival class of the word at `a`. -/
def survivalOf (a : Nat) : Survival := ((regGroup a).map RegGroup.surv).getD .volatile

/-- R10: the words of the image's tables whose bytes R250, R447 and R579 show as reserved: bytes 12 to 15 of a source entry, 72 to 79 of the battery model, 22 to 31 of a band entry. -/
def tableReserved (a : Nat) : Bool :=
  (decide (0x0510 ≤ a) && decide (a < 0x0550) && decide (6 ≤ (a - 0x0510) % 8)) || (decide (0x0764 ≤ a) && decide (a < 0x0768)) ||
  (decide (0x0A40 ≤ a) && decide (a < 0x0AA0) && decide (11 ≤ (a - 0x0A40) % 16))

/-- The bits of the word at `a` that exist (R10: the others read as zero). -/
def implMask (a : Nat) : Nat := if tableReserved a then 0 else ((regGroup a).map RegGroup.impl).getD 0

/-- The bits of the word at `a` that a host write stores (RW, R14). -/
def rwMask (a : Nat) : Nat := ((regGroup a).map RegGroup.rw).getD 0

/-- The bits of the word at `a` that a host write of 1 clears (W1C, R14). -/
def w1cMask (a : Nat) : Nat := ((regGroup a).map RegGroup.w1c).getD 0

/-- The bits of the word at `a` that a host write of 1 sets (W1S, R14). -/
def w1sMask (a : Nat) : Nat := ((regGroup a).map RegGroup.w1s).getD 0

end Sys2Proof.Machine
end

