-- ==== Sys2Proof/Machine/Fields.lean ====
section
/-! DEFINITION. Names of the registers (`A.`) and of their fields (`F.`), as the register descriptions of spec/ give them: word address, least significant bit, width. -/
namespace Sys2Proof.Machine

/-- A field of a register (R9): its word address, its least significant bit and its width. -/
structure Fld where
  addr  : Nat
  lsb   : Nat
  width : Nat
deriving DecidableEq, Repr

/-- R141: the base of domain n's block, n from 1 to 10. -/
def domBase (n : Nat) : Nat := 0x0200 + (n - 1) * 0x20

/-- R139, word k of 12. -/
abbrev A.ID (k : Nat) : Nat := 0x0000 + k
/-- R133. -/
abbrev A.HIF_VER : Nat := 0x0010
abbrev F.HIF_VER_VER : Fld := ⟨0x0010, 0, 2⟩
/-- R134. -/
abbrev A.HIF_ERR : Nat := 0x0011
abbrev F.HIF_ERR_REJCNT : Fld := ⟨0x0011, 8, 8⟩
abbrev F.HIF_ERR_CODE : Fld := ⟨0x0011, 0, 4⟩
/-- R135. -/
abbrev A.HIF_ACK : Nat := 0x0012
/-- R136. -/
abbrev A.HIF_RLYSTAT : Nat := 0x0014
abbrev F.HIF_RLYSTAT_BUSY : Fld := ⟨0x0014, 15, 1⟩
abbrev F.HIF_RLYSTAT_RESULT : Fld := ⟨0x0014, 12, 3⟩
abbrev F.HIF_RLYSTAT_WORKER : Fld := ⟨0x0014, 5, 5⟩
abbrev F.HIF_RLYSTAT_COUNT : Fld := ⟨0x0014, 0, 5⟩
/-- R137. -/
abbrev A.HIF_RLYADDR : Nat := 0x0015
/-- R138, word k of 16. -/
abbrev A.HIF_RLYBUF (k : Nat) : Nat := 0x0020 + k
/-- R56. -/
abbrev A.SYS_STATE : Nat := 0x0100
abbrev F.SYS_STATE_THRST : Fld := ⟨0x0100, 10, 2⟩
abbrev F.SYS_STATE_OFFPEND : Fld := ⟨0x0100, 9, 1⟩
abbrev F.SYS_STATE_ONPEND : Fld := ⟨0x0100, 8, 1⟩
abbrev F.SYS_STATE_VBKOK : Fld := ⟨0x0100, 7, 1⟩
abbrev F.SYS_STATE_AOSRC : Fld := ⟨0x0100, 6, 1⟩
abbrev F.SYS_STATE_FASTON : Fld := ⟨0x0100, 5, 1⟩
abbrev F.SYS_STATE_FOFF : Fld := ⟨0x0100, 4, 1⟩
abbrev F.SYS_STATE_STATE : Fld := ⟨0x0100, 0, 4⟩
/-- R57. -/
abbrev A.SYS_RSTCAUSE : Nat := 0x0101
abbrev F.SYS_RSTCAUSE_RTCLOST : Fld := ⟨0x0101, 15, 1⟩
abbrev F.SYS_RSTCAUSE_INFAULT : Fld := ⟨0x0101, 14, 1⟩
abbrev F.SYS_RSTCAUSE_MGR : Fld := ⟨0x0101, 13, 1⟩
abbrev F.SYS_RSTCAUSE_HOST : Fld := ⟨0x0101, 12, 1⟩
abbrev F.SYS_RSTCAUSE_PIN : Fld := ⟨0x0101, 11, 1⟩
abbrev F.SYS_RSTCAUSE_BOR : Fld := ⟨0x0101, 10, 1⟩
abbrev F.SYS_RSTCAUSE_COLD : Fld := ⟨0x0101, 9, 1⟩
abbrev F.SYS_RSTCAUSE_PBOFF : Fld := ⟨0x0101, 8, 1⟩
abbrev F.SYS_RSTCAUSE_LAST : Fld := ⟨0x0101, 0, 4⟩
/-- R58. -/
abbrev A.SYS_WAKECAUSE : Nat := 0x0102
abbrev F.SYS_WAKECAUSE_ALM1 : Fld := ⟨0x0102, 15, 1⟩
abbrev F.SYS_WAKECAUSE_ALM0 : Fld := ⟨0x0102, 14, 1⟩
abbrev F.SYS_WAKECAUSE_SRC : Fld := ⟨0x0102, 13, 1⟩
abbrev F.SYS_WAKECAUSE_WAKE2 : Fld := ⟨0x0102, 12, 1⟩
abbrev F.SYS_WAKECAUSE_WAKE1 : Fld := ⟨0x0102, 11, 1⟩
abbrev F.SYS_WAKECAUSE_PBSHIP : Fld := ⟨0x0102, 10, 1⟩
abbrev F.SYS_WAKECAUSE_PB : Fld := ⟨0x0102, 9, 1⟩
abbrev F.SYS_WAKECAUSE_HOST : Fld := ⟨0x0102, 8, 1⟩
abbrev F.SYS_WAKECAUSE_LAST : Fld := ⟨0x0102, 0, 4⟩
/-- R59. -/
abbrev A.SYS_CTRL : Nat := 0x0103
abbrev F.SYS_CTRL_REQ : Fld := ⟨0x0103, 0, 2⟩
/-- R60. -/
abbrev A.SYS_RESET : Nat := 0x0104
/-- R61. -/
abbrev A.SYS_SHIP : Nat := 0x0105
/-- R62. -/
abbrev A.SYS_WAKECFG : Nat := 0x0106
abbrev F.SYS_WAKECFG_ALM1_EN : Fld := ⟨0x0106, 9, 1⟩
abbrev F.SYS_WAKECFG_ALM0_EN : Fld := ⟨0x0106, 8, 1⟩
abbrev F.SYS_WAKECFG_SRC_EN : Fld := ⟨0x0106, 7, 1⟩
abbrev F.SYS_WAKECFG_PB_EN : Fld := ⟨0x0106, 6, 1⟩
abbrev F.SYS_WAKECFG_WAKE2_MODE : Fld := ⟨0x0106, 4, 2⟩
abbrev F.SYS_WAKECFG_WAKE1_MODE : Fld := ⟨0x0106, 2, 2⟩
abbrev F.SYS_WAKECFG_WDEB : Fld := ⟨0x0106, 0, 2⟩
/-- R63. -/
abbrev A.SYS_PBCFG : Nat := 0x0107
abbrev F.SYS_PBCFG_PB_LONG : Fld := ⟨0x0107, 4, 4⟩
abbrev F.SYS_PBCFG_PB_SHIP : Fld := ⟨0x0107, 1, 3⟩
abbrev F.SYS_PBCFG_PB_LONG_EN : Fld := ⟨0x0107, 0, 1⟩
/-- R64. -/
abbrev A.SYS_CFG : Nat := 0x0108
abbrev F.SYS_CFG_LFXTAL : Fld := ⟨0x0108, 5, 1⟩
abbrev F.SYS_CFG_START_STATE : Fld := ⟨0x0108, 4, 1⟩
abbrev F.SYS_CFG_START_ON_BATT : Fld := ⟨0x0108, 3, 1⟩
abbrev F.SYS_CFG_START_ON_LINE : Fld := ⟨0x0108, 2, 1⟩
/-- R41. -/
abbrev A.SYS_CLK : Nat := 0x0109
abbrev F.SYS_CLK_LFFAIL : Fld := ⟨0x0109, 3, 1⟩
abbrev F.SYS_CLK_LFSRC : Fld := ⟨0x0109, 2, 1⟩
abbrev F.SYS_CLK_FLOCK : Fld := ⟨0x0109, 0, 2⟩
/-- R28. -/
abbrev A.SYS_STRAP : Nat := 0x0110
abbrev F.SYS_STRAP_SRCID : Fld := ⟨0x0110, 11, 3⟩
abbrev F.SYS_STRAP_ROLE : Fld := ⟨0x0110, 9, 2⟩
abbrev F.SYS_STRAP_HSEL : Fld := ⟨0x0110, 6, 3⟩
abbrev F.SYS_STRAP_ADDRH : Fld := ⟨0x0110, 3, 3⟩
abbrev F.SYS_STRAP_ADDRL : Fld := ⟨0x0110, 0, 3⟩
/-- R65, word k of 16. -/
abbrev A.SYS_SCRATCH (k : Nat) : Nat := 0x0120 + k
/-- R100. -/
abbrev A.SYS_IMGSTAT : Nat := 0x0130
abbrev F.SYS_IMGSTAT_CLAMP : Fld := ⟨0x0130, 13, 1⟩
abbrev F.SYS_IMGSTAT_FMT2 : Fld := ⟨0x0130, 12, 1⟩
abbrev F.SYS_IMGSTAT_COPY : Fld := ⟨0x0130, 10, 2⟩
abbrev F.SYS_IMGSTAT_ST_B : Fld := ⟨0x0130, 8, 2⟩
abbrev F.SYS_IMGSTAT_ST_A : Fld := ⟨0x0130, 6, 2⟩
/-- R101. -/
abbrev A.SYS_IMGVER : Nat := 0x0131
/-- R102, word k of 2. -/
abbrev A.SYS_IMGCRC (k : Nat) : Nat := 0x0132 + k
/-- R103. -/
abbrev A.SYS_NVMCFG : Nat := 0x0134
abbrev F.SYS_NVMCFG_TWR : Fld := ⟨0x0134, 4, 2⟩
abbrev F.SYS_NVMCFG_PAGE : Fld := ⟨0x0134, 2, 2⟩
abbrev F.SYS_NVMCFG_KIND : Fld := ⟨0x0134, 0, 2⟩
/-- R104. -/
abbrev A.SYS_LDCFG : Nat := 0x0135
abbrev F.SYS_LDCFG_LD_PERIOD : Fld := ⟨0x0135, 12, 4⟩
abbrev F.SYS_LDCFG_NVM_WRITE_MIN : Fld := ⟨0x0135, 0, 7⟩
/-- R105. -/
abbrev A.SYS_LDSTAT : Nat := 0x0136
abbrev F.SYS_LDSTAT_WBBUSY : Fld := ⟨0x0136, 15, 1⟩
abbrev F.SYS_LDSTAT_DIRTY : Fld := ⟨0x0136, 14, 1⟩
abbrev F.SYS_LDSTAT_NOWB : Fld := ⟨0x0136, 13, 1⟩
abbrev F.SYS_LDSTAT_UNSAVED : Fld := ⟨0x0136, 12, 1⟩
abbrev F.SYS_LDSTAT_SLOT : Fld := ⟨0x0136, 8, 2⟩
abbrev F.SYS_LDSTAT_ST_B : Fld := ⟨0x0136, 6, 2⟩
abbrev F.SYS_LDSTAT_ST_A : Fld := ⟨0x0136, 4, 2⟩
abbrev F.SYS_LDSTAT_LOST : Fld := ⟨0x0136, 3, 1⟩
abbrev F.SYS_LDSTAT_WFAIL : Fld := ⟨0x0136, 2, 1⟩
/-- R106, word k of 2. -/
abbrev A.SYS_LDSEQ (k : Nat) : Nat := 0x0137 + k
/-- R107. -/
abbrev A.SYS_LDCTRL : Nat := 0x0139
/-- R108. -/
abbrev A.SYS_FFSTAT : Nat := 0x013A
abbrev F.SYS_FFSTAT_FULL : Fld := ⟨0x013A, 13, 1⟩
abbrev F.SYS_FFSTAT_COUNT : Fld := ⟨0x013A, 8, 5⟩
abbrev F.SYS_FFSTAT_NEWEST : Fld := ⟨0x013A, 4, 4⟩
abbrev F.SYS_FFSTAT_NEXT : Fld := ⟨0x013A, 0, 4⟩
/-- R172. -/
abbrev A.SYS_SHEDMASK : Nat := 0x0140
abbrev F.SYS_SHEDMASK_SHED : Fld := ⟨0x0140, 0, 10⟩
/-- R173. -/
abbrev A.SYS_HKPER : Nat := 0x0141
abbrev F.SYS_HKPER_WATCHPER : Fld := ⟨0x0141, 8, 8⟩
abbrev F.SYS_HKPER_RUNPER : Fld := ⟨0x0141, 0, 8⟩
/-- R174, word k of 16. -/
abbrev A.SYS_EVAR (k : Nat) : Nat := 0x0150 + k
/-- R109, word k of 128. -/
abbrev A.SYS_FFLOG (k : Nat) : Nat := 0x0180 + k
/-- R211. -/
abbrev A.DOM_CFG (n : Nat) : Nat := domBase n + 0x0000
abbrev F.DOM_CFG_USED (n : Nat) : Fld := ⟨domBase n + 0x0000, 15, 1⟩
abbrev F.DOM_CFG_RST_C (n : Nat) : Fld := ⟨domBase n + 0x0000, 14, 1⟩
abbrev F.DOM_CFG_RST_B (n : Nat) : Fld := ⟨domBase n + 0x0000, 13, 1⟩
abbrev F.DOM_CFG_RST_A (n : Nat) : Fld := ⟨domBase n + 0x0000, 12, 1⟩
abbrev F.DOM_CFG_PGDLY (n : Nat) : Fld := ⟨domBase n + 0x0000, 8, 4⟩
abbrev F.DOM_CFG_UVFILT (n : Nat) : Fld := ⟨domBase n + 0x0000, 6, 2⟩
/-- R212. -/
abbrev A.DOM_STAT (n : Nat) : Nat := domBase n + 0x0001
abbrev F.DOM_STAT_CMDON (n : Nat) : Fld := ⟨domBase n + 0x0001, 15, 1⟩
abbrev F.DOM_STAT_PG (n : Nat) : Fld := ⟨domBase n + 0x0001, 14, 1⟩
abbrev F.DOM_STAT_UV (n : Nat) : Fld := ⟨domBase n + 0x0001, 13, 1⟩
abbrev F.DOM_STAT_OV (n : Nat) : Fld := ⟨domBase n + 0x0001, 12, 1⟩
abbrev F.DOM_STAT_MASKED (n : Nat) : Fld := ⟨domBase n + 0x0001, 11, 1⟩
abbrev F.DOM_STAT_SHED (n : Nat) : Fld := ⟨domBase n + 0x0001, 10, 1⟩
abbrev F.DOM_STAT_RANK (n : Nat) : Fld := ⟨domBase n + 0x0001, 0, 4⟩
/-- R213. -/
abbrev A.DOM_CNT (n k : Nat) : Nat := domBase n + 0x0002 + k
/-- R215. -/
abbrev A.DOM_CNTCLR (n : Nat) : Nat := domBase n + 0x0008
/-- R216. -/
abbrev A.DOM_PGSUM : Nat := 0x020D
abbrev F.DOM_PGSUM_PG : Fld := ⟨0x020D, 0, 10⟩
/-- R217. -/
abbrev A.DOM_SEQCFG : Nat := 0x020E
abbrev F.DOM_SEQCFG_PUMAX : Fld := ⟨0x020E, 12, 4⟩
abbrev F.DOM_SEQCFG_PDMAX : Fld := ⟨0x020E, 8, 4⟩
abbrev F.DOM_SEQCFG_MIN_OFF : Fld := ⟨0x020E, 0, 8⟩
/-- R218. -/
abbrev A.DOM_SEQSTAT : Nat := 0x020F
abbrev F.DOM_SEQSTAT_ONSRC : Fld := ⟨0x020F, 12, 4⟩
abbrev F.DOM_SEQSTAT_OFFSRC : Fld := ⟨0x020F, 8, 4⟩
abbrev F.DOM_SEQSTAT_HALTSD : Fld := ⟨0x020F, 1, 1⟩
abbrev F.DOM_SEQSTAT_PUCUT : Fld := ⟨0x020F, 0, 1⟩
/-- R241. -/
abbrev A.DOM_VSET (n : Nat) : Nat := domBase n + 0x0010
abbrev F.DOM_VSET_CODE (n : Nat) : Fld := ⟨domBase n + 0x0010, 0, 9⟩
/-- R242. -/
abbrev A.DOM_ILIM (n : Nat) : Nat := domBase n + 0x0011
abbrev F.DOM_ILIM_CODE (n : Nat) : Fld := ⟨domBase n + 0x0011, 0, 4⟩
/-- R243. -/
abbrev A.DOM_RCFG (n : Nat) : Nat := domBase n + 0x0012
abbrev F.DOM_RCFG_SSC (n : Nat) : Fld := ⟨domBase n + 0x0012, 15, 1⟩
abbrev F.DOM_RCFG_FPWM (n : Nat) : Fld := ⟨domBase n + 0x0012, 14, 1⟩
abbrev F.DOM_RCFG_FMODE (n : Nat) : Fld := ⟨domBase n + 0x0012, 12, 2⟩
abbrev F.DOM_RCFG_FSW (n : Nat) : Fld := ⟨domBase n + 0x0012, 9, 3⟩
abbrev F.DOM_RCFG_TSS (n : Nat) : Fld := ⟨domBase n + 0x0012, 6, 3⟩
/-- R245. -/
abbrev A.DOM_RSTAT (n : Nat) : Nat := domBase n + 0x0014
abbrev F.DOM_RSTAT_SLEWDONE (n : Nat) : Fld := ⟨domBase n + 0x0014, 15, 1⟩
abbrev F.DOM_RSTAT_ILIMACT (n : Nat) : Fld := ⟨domBase n + 0x0014, 14, 1⟩
abbrev F.DOM_RSTAT_UVLO (n : Nat) : Fld := ⟨domBase n + 0x0014, 13, 1⟩
abbrev F.DOM_RSTAT_DISCH (n : Nat) : Fld := ⟨domBase n + 0x0014, 12, 1⟩
abbrev F.DOM_RSTAT_FMODEACT (n : Nat) : Fld := ⟨domBase n + 0x0014, 10, 2⟩
abbrev F.DOM_RSTAT_FSWACT (n : Nat) : Fld := ⟨domBase n + 0x0014, 7, 3⟩
abbrev F.DOM_RSTAT_ILIMEFF (n : Nat) : Fld := ⟨domBase n + 0x0014, 3, 4⟩
/-- R246. -/
abbrev A.DOM_VACT (n : Nat) : Nat := domBase n + 0x0015
abbrev F.DOM_VACT_CODE (n : Nat) : Fld := ⟨domBase n + 0x0015, 0, 9⟩
/-- R244. -/
abbrev A.DOM_SLEW (n : Nat) : Nat := domBase n + 0x0013
abbrev F.DOM_SLEW_PKT (n : Nat) : Fld := ⟨domBase n + 0x0013, 15, 1⟩
abbrev F.DOM_SLEW_TRACK (n : Nat) : Fld := ⟨domBase n + 0x0013, 14, 1⟩
abbrev F.DOM_SLEW_WIN (n : Nat) : Fld := ⟨domBase n + 0x0013, 12, 2⟩
abbrev F.DOM_SLEW_SETTLE (n : Nat) : Fld := ⟨domBase n + 0x0013, 8, 2⟩
abbrev F.DOM_SLEW_SLOPE (n : Nat) : Fld := ⟨domBase n + 0x0013, 0, 3⟩
/-- R247. -/
abbrev A.DOM9_HOLD : Nat := 0x0310
abbrev F.DOM9_HOLD_DUTY : Fld := ⟨0x0310, 0, 7⟩
/-- R248. -/
abbrev A.DOM9_LCFG : Nat := 0x0312
abbrev F.DOM9_LCFG_PULLIN : Fld := ⟨0x0312, 10, 6⟩
abbrev F.DOM9_LCFG_IPULL : Fld := ⟨0x0312, 6, 4⟩
abbrev F.DOM9_LCFG_CLAMP : Fld := ⟨0x0312, 5, 1⟩
abbrev F.DOM9_LCFG_HOLDCOMP : Fld := ⟨0x0312, 4, 1⟩
/-- R249. -/
abbrev A.DOM9_LSTAT : Nat := 0x0314
abbrev F.DOM9_LSTAT_SCLATCH : Fld := ⟨0x0314, 15, 1⟩
abbrev F.DOM9_LSTAT_SCEVT : Fld := ⟨0x0314, 14, 1⟩
abbrev F.DOM9_LSTAT_PHASE : Fld := ⟨0x0314, 12, 2⟩
abbrev F.DOM9_LSTAT_ILIMACT : Fld := ⟨0x0314, 11, 1⟩
abbrev F.DOM9_LSTAT_UVLO : Fld := ⟨0x0314, 10, 1⟩
abbrev F.DOM9_LSTAT_ILIMEFF : Fld := ⟨0x0314, 0, 4⟩
/-- R315. -/
abbrev A.DRV_STAT : Nat := 0x0400
abbrev F.DRV_STAT_MODE : Fld := ⟨0x0400, 13, 3⟩
abbrev F.DRV_STAT_LIMBY : Fld := ⟨0x0400, 11, 2⟩
abbrev F.DRV_STAT_SETTLED : Fld := ⟨0x0400, 10, 1⟩
abbrev F.DRV_STAT_SLEWDONE : Fld := ⟨0x0400, 9, 1⟩
abbrev F.DRV_STAT_NEG : Fld := ⟨0x0400, 8, 1⟩
abbrev F.DRV_STAT_FASTLIM : Fld := ⟨0x0400, 7, 1⟩
abbrev F.DRV_STAT_MINOK : Fld := ⟨0x0400, 6, 1⟩
/-- R316. -/
abbrev A.DRV_VSET : Nat := 0x0401
abbrev F.DRV_VSET_CODE : Fld := ⟨0x0401, 0, 12⟩
/-- R317. -/
abbrev A.DRV_VACT : Nat := 0x0402
abbrev F.DRV_VACT_OVR : Fld := ⟨0x0402, 14, 2⟩
abbrev F.DRV_VACT_CODE : Fld := ⟨0x0402, 0, 12⟩
/-- R318. -/
abbrev A.DRV_VMAX : Nat := 0x0403
abbrev F.DRV_VMAX_CODE : Fld := ⟨0x0403, 0, 12⟩
/-- R319. -/
abbrev A.DRV_SLEW : Nat := 0x0404
abbrev F.DRV_SLEW_PKT : Fld := ⟨0x0404, 15, 1⟩
abbrev F.DRV_SLEW_SLOPE : Fld := ⟨0x0404, 12, 3⟩
abbrev F.DRV_SLEW_SETTLE : Fld := ⟨0x0404, 10, 2⟩
abbrev F.DRV_SLEW_TMAX : Fld := ⟨0x0404, 8, 2⟩
abbrev F.DRV_SLEW_SSSLOPE : Fld := ⟨0x0404, 4, 3⟩
abbrev F.DRV_SLEW_NEGI : Fld := ⟨0x0404, 3, 1⟩
/-- R320. -/
abbrev A.DRV_FSW : Nat := 0x0408
abbrev F.DRV_FSW_DIV : Fld := ⟨0x0408, 0, 10⟩
/-- R321. -/
abbrev A.DRV_SYNC : Nat := 0x0409
abbrev F.DRV_SYNC_MODE : Fld := ⟨0x0409, 14, 2⟩
abbrev F.DRV_SYNC_OSCLK : Fld := ⟨0x0409, 12, 2⟩
abbrev F.DRV_SYNC_OUTSEL : Fld := ⟨0x0409, 10, 2⟩
abbrev F.DRV_SYNC_AUTOOFS : Fld := ⟨0x0409, 9, 1⟩
abbrev F.DRV_SYNC_OFS : Fld := ⟨0x0409, 0, 5⟩
/-- R322. -/
abbrev A.DRV_SYNCSTAT : Nat := 0x040A
abbrev F.DRV_SYNCSTAT_LOCK : Fld := ⟨0x040A, 15, 1⟩
abbrev F.DRV_SYNCSTAT_LOST : Fld := ⟨0x040A, 14, 1⟩
abbrev F.DRV_SYNCSTAT_PERIOD : Fld := ⟨0x040A, 0, 10⟩
/-- R323. -/
abbrev A.DRV_PHCFG : Nat := 0x0410
abbrev F.DRV_PHCFG_MIRROR : Fld := ⟨0x0410, 15, 1⟩
abbrev F.DRV_PHCFG_MIN_PHASES : Fld := ⟨0x0410, 12, 3⟩
abbrev F.DRV_PHCFG_FITTED : Fld := ⟨0x0410, 0, 6⟩
/-- R324. -/
abbrev A.DRV_PHEN : Nat := 0x0411
abbrev F.DRV_PHEN_EN : Fld := ⟨0x0411, 0, 6⟩
/-- R325. -/
abbrev A.DRV_PHSTAT : Nat := 0x0412
abbrev F.DRV_PHSTAT_INSVC : Fld := ⟨0x0412, 12, 3⟩
abbrev F.DRV_PHSTAT_RETIRED : Fld := ⟨0x0412, 6, 6⟩
abbrev F.DRV_PHSTAT_SHED : Fld := ⟨0x0412, 0, 6⟩
/-- R326. -/
abbrev A.DRV_RETCAUSE : Nat := 0x0413
abbrev F.DRV_RETCAUSE_CAUSE : Fld := ⟨0x0413, 0, 12⟩
/-- R327. -/
abbrev A.DRV_PHCTL : Nat := 0x0414
/-- R328. -/
abbrev A.DRV_SHED : Nat := 0x0415
abbrev F.DRV_SHED_EN : Fld := ⟨0x0415, 15, 1⟩
abbrev F.DRV_SHED_MINACT : Fld := ⟨0x0415, 12, 3⟩
abbrev F.DRV_SHED_SHEDT : Fld := ⟨0x0415, 10, 2⟩
abbrev F.DRV_SHED_ISHED : Fld := ⟨0x0415, 0, 10⟩
/-- R329. -/
abbrev A.DRV_OCCFG : Nat := 0x0418
abbrev F.DRV_OCCFG_OCMODE : Fld := ⟨0x0418, 14, 2⟩
abbrev F.DRV_OCCFG_KNEE : Fld := ⟨0x0418, 12, 2⟩
abbrev F.DRV_OCCFG_FBMIN : Fld := ⟨0x0418, 10, 2⟩
abbrev F.DRV_OCCFG_HICCUP : Fld := ⟨0x0418, 8, 2⟩
abbrev F.DRV_OCCFG_OVLT : Fld := ⟨0x0418, 6, 2⟩
/-- R330. -/
abbrev A.DRV_ITOT : Nat := 0x0419
abbrev F.DRV_ITOT_ILIM : Fld := ⟨0x0419, 0, 12⟩
/-- R331. -/
abbrev A.DRV_IPHOVL : Nat := 0x041A
abbrev F.DRV_IPHOVL_ILIM : Fld := ⟨0x041A, 0, 9⟩
/-- R332. -/
abbrev A.DRV_IPHSC : Nat := 0x041B
abbrev F.DRV_IPHSC_ILIM : Fld := ⟨0x041B, 0, 10⟩
/-- R333. -/
abbrev A.DRV_CSCFG : Nat := 0x041C
abbrev F.DRV_CSCFG_GPH : Fld := ⟨0x041C, 8, 8⟩
abbrev F.DRV_CSCFG_RTOT : Fld := ⟨0x041C, 0, 8⟩
/-- R334. -/
abbrev A.DRV_FF : Nat := 0x041D
abbrev F.DRV_FF_LINEFF : Fld := ⟨0x041D, 15, 1⟩
abbrev F.DRV_FF_FFSTK : Fld := ⟨0x041D, 10, 2⟩
/-- R335. -/
abbrev A.DRV_VOUT : Nat := 0x0420
abbrev F.DRV_VOUT_VALUE : Fld := ⟨0x0420, 0, 16⟩
/-- R335. -/
abbrev A.DRV_IOUT : Nat := 0x0421
abbrev F.DRV_IOUT_VALUE : Fld := ⟨0x0421, 0, 16⟩
/-- R335. -/
abbrev A.DRV_IIN : Nat := 0x0422
abbrev F.DRV_IIN_VALUE : Fld := ⟨0x0422, 0, 16⟩
/-- R336. -/
abbrev A.DRV_ICEIL : Nat := 0x0423
abbrev F.DRV_ICEIL_ORIGIN : Fld := ⟨0x0423, 14, 2⟩
abbrev F.DRV_ICEIL_ILIM : Fld := ⟨0x0423, 0, 12⟩
/-- R337, word k of 6. -/
abbrev A.DRV_IPH (k : Nat) : Nat := 0x0424 + k
abbrev F.DRV_IPH_VALUE (k : Nat) : Fld := ⟨0x0424 + k, 0, 16⟩
/-- R337, word k of 6. -/
abbrev A.DRV_TRIM (k : Nat) : Nat := 0x042A + k
abbrev F.DRV_TRIM_VALUE (k : Nat) : Fld := ⟨0x042A + k, 0, 16⟩
/-- R338. -/
abbrev A.DRV_DUTY : Nat := 0x0430
abbrev F.DRV_DUTY_DUTY : Fld := ⟨0x0430, 0, 16⟩
/-- R339. -/
abbrev A.DRV_DTACT : Nat := 0x0431
abbrev F.DRV_DTACT_DT_LH : Fld := ⟨0x0431, 8, 8⟩
abbrev F.DRV_DTACT_DT_HL : Fld := ⟨0x0431, 0, 8⟩
/-- R340. -/
abbrev A.DRV_CNTRET : Nat := 0x0438
abbrev F.DRV_CNTRET_COUNT : Fld := ⟨0x0438, 0, 16⟩
/-- R340. -/
abbrev A.DRV_CNTHIC : Nat := 0x0439
abbrev F.DRV_CNTHIC_COUNT : Fld := ⟨0x0439, 0, 16⟩
/-- R340. -/
abbrev A.DRV_CNTSYNC : Nat := 0x043A
abbrev F.DRV_CNTSYNC_COUNT : Fld := ⟨0x043A, 0, 16⟩
/-- R341. -/
abbrev A.DRV_CNTCLR : Nat := 0x043B
/-- R342, word k of 8. -/
abbrev A.DRV_COEF (k : Nat) : Nat := 0x0440 + k
abbrev F.DRV_COEF_COEF (k : Nat) : Fld := ⟨0x0440 + k, 0, 16⟩
/-- R270. -/
abbrev A.LIN_STAT : Nat := 0x0500
abbrev F.LIN_STAT_QUAL : Fld := ⟨0x0500, 15, 1⟩
abbrev F.LIN_STAT_FULLON : Fld := ⟨0x0500, 14, 1⟩
abbrev F.LIN_STAT_PRESENT : Fld := ⟨0x0500, 13, 1⟩
abbrev F.LIN_STAT_INWIN : Fld := ⟨0x0500, 12, 1⟩
abbrev F.LIN_STAT_INRUSH : Fld := ⟨0x0500, 11, 1⟩
abbrev F.LIN_STAT_LATCH : Fld := ⟨0x0500, 10, 1⟩
abbrev F.LIN_STAT_OV : Fld := ⟨0x0500, 9, 1⟩
abbrev F.LIN_STAT_CHGOK : Fld := ⟨0x0500, 8, 1⟩
abbrev F.LIN_STAT_SRCID : Fld := ⟨0x0500, 5, 3⟩
abbrev F.LIN_STAT_LASTOPEN : Fld := ⟨0x0500, 2, 3⟩
abbrev F.LIN_STAT_RETRYCNT : Fld := ⟨0x0500, 0, 2⟩
/-- R271. -/
abbrev A.LIN_CFG0 : Nat := 0x0501
abbrev F.LIN_CFG0_DVDT : Fld := ⟨0x0501, 13, 3⟩
abbrev F.LIN_CFG0_SOA_T : Fld := ⟨0x0501, 10, 3⟩
abbrev F.LIN_CFG0_RETRIES : Fld := ⟨0x0501, 7, 3⟩
abbrev F.LIN_CFG0_RETRY_DLY : Fld := ⟨0x0501, 5, 2⟩
abbrev F.LIN_CFG0_STAGGER : Fld := ⟨0x0501, 3, 2⟩
abbrev F.LIN_CFG0_LOSSFLT : Fld := ⟨0x0501, 1, 2⟩
/-- R272. -/
abbrev A.LIN_CFG1 : Nat := 0x0502
abbrev F.LIN_CFG1_VSC : Fld := ⟨0x0502, 8, 4⟩
abbrev F.LIN_CFG1_VINR : Fld := ⟨0x0502, 4, 4⟩
abbrev F.LIN_CFG1_RSH : Fld := ⟨0x0502, 0, 4⟩
/-- R273. -/
abbrev A.LIN_IHOST : Nat := 0x0503
abbrev F.LIN_IHOST_ILIM : Fld := ⟨0x0503, 0, 16⟩
/-- R274. -/
abbrev A.LIN_IEFF : Nat := 0x0504
abbrev F.LIN_IEFF_LIMBY : Fld := ⟨0x0504, 14, 2⟩
abbrev F.LIN_IEFF_ILIM : Fld := ⟨0x0504, 0, 14⟩
/-- R275. -/
abbrev A.LIN_CTRL : Nat := 0x0506
/-- R276. -/
abbrev A.LIN_CNTLOSS : Nat := 0x0508
abbrev F.LIN_CNTLOSS_COUNT : Fld := ⟨0x0508, 0, 16⟩
/-- R276. -/
abbrev A.LIN_CNTOV : Nat := 0x0509
abbrev F.LIN_CNTOV_COUNT : Fld := ⟨0x0509, 0, 16⟩
/-- R276. -/
abbrev A.LIN_CNTTRIP : Nat := 0x050A
abbrev F.LIN_CNTTRIP_COUNT : Fld := ⟨0x050A, 0, 16⟩
/-- R277, word k of 64. -/
abbrev A.LIN_SRCTAB (k : Nat) : Nat := 0x0510 + k
/-- R278. -/
abbrev A.WEIR_CFG : Nat := 0x0560
abbrev F.WEIR_CFG_TKO : Fld := ⟨0x0560, 8, 8⟩
abbrev F.WEIR_CFG_TKILIM : Fld := ⟨0x0560, 5, 3⟩
abbrev F.WEIR_CFG_WSC : Fld := ⟨0x0560, 3, 2⟩
abbrev F.WEIR_CFG_HBDLY : Fld := ⟨0x0560, 1, 2⟩
/-- R279. -/
abbrev A.WEIR_STAT : Nat := 0x0561
abbrev F.WEIR_STAT_COND : Fld := ⟨0x0561, 15, 1⟩
abbrev F.WEIR_STAT_MODE : Fld := ⟨0x0561, 13, 2⟩
abbrev F.WEIR_STAT_OFFCAUSE : Fld := ⟨0x0561, 11, 2⟩
abbrev F.WEIR_STAT_TKLIM : Fld := ⟨0x0561, 10, 1⟩
abbrev F.WEIR_STAT_ASSIST : Fld := ⟨0x0561, 9, 1⟩
abbrev F.WEIR_STAT_REVBLK : Fld := ⟨0x0561, 8, 1⟩
abbrev F.WEIR_STAT_SCEVT : Fld := ⟨0x0561, 7, 1⟩
abbrev F.WEIR_STAT_TKFAIL : Fld := ⟨0x0561, 6, 1⟩
abbrev F.WEIR_STAT_HBACK : Fld := ⟨0x0561, 5, 1⟩
/-- R280. -/
abbrev A.WEIR_CNTTK : Nat := 0x0562
abbrev F.WEIR_CNTTK_COUNT : Fld := ⟨0x0562, 0, 16⟩
/-- R373. -/
abbrev A.STK_STAT : Nat := 0x0580
abbrev F.STK_STAT_PREARM : Fld := ⟨0x0580, 15, 1⟩
abbrev F.STK_STAT_RUNNING : Fld := ⟨0x0580, 14, 1⟩
abbrev F.STK_STAT_PROVING : Fld := ⟨0x0580, 13, 1⟩
abbrev F.STK_STAT_BATTPH : Fld := ⟨0x0580, 12, 1⟩
abbrev F.STK_STAT_EMERG : Fld := ⟨0x0580, 11, 1⟩
abbrev F.STK_STAT_DIR : Fld := ⟨0x0580, 10, 1⟩
abbrev F.STK_STAT_PKTLOST : Fld := ⟨0x0580, 8, 1⟩
abbrev F.STK_STAT_PINBAD : Fld := ⟨0x0580, 7, 1⟩
abbrev F.STK_STAT_IGN : Fld := ⟨0x0580, 6, 1⟩
/-- R374. -/
abbrev A.STK_CMD : Nat := 0x0581
abbrev F.STK_CMD_KEY : Fld := ⟨0x0581, 12, 4⟩
abbrev F.STK_CMD_KIND : Fld := ⟨0x0581, 8, 2⟩
abbrev F.STK_CMD_DIR : Fld := ⟨0x0581, 4, 1⟩
abbrev F.STK_CMD_OP : Fld := ⟨0x0581, 0, 4⟩
/-- R375. -/
abbrev A.STK_CFG : Nat := 0x0582
abbrev F.STK_CFG_EMWEIR : Fld := ⟨0x0582, 15, 1⟩
abbrev F.STK_CFG_PKTCLS : Fld := ⟨0x0582, 13, 2⟩
abbrev F.STK_CFG_PINEN : Fld := ⟨0x0582, 12, 1⟩
/-- R376. -/
abbrev A.STK_PRECFG : Nat := 0x0583
abbrev F.STK_PRECFG_BOOST : Fld := ⟨0x0583, 10, 6⟩
abbrev F.STK_PRECFG_TMO : Fld := ⟨0x0583, 8, 2⟩
abbrev F.STK_PRECFG_TMARG : Fld := ⟨0x0583, 6, 2⟩
/-- R377. -/
abbrev A.STK_TOLLCFG : Nat := 0x0584
abbrev F.STK_TOLLCFG_LDEF : Fld := ⟨0x0584, 12, 4⟩
abbrev F.STK_TOLLCFG_TDEF : Fld := ⟨0x0584, 0, 12⟩
/-- R378. -/
abbrev A.STK_DETCFG : Nat := 0x0585
abbrev F.STK_DETCFG_AUTO : Fld := ⟨0x0585, 15, 1⟩
abbrev F.STK_DETCFG_ISTART : Fld := ⟨0x0585, 0, 10⟩
/-- R379. -/
abbrev A.STK_PRVCFG : Nat := 0x0586
abbrev F.STK_PRVCFG_N : Fld := ⟨0x0586, 8, 8⟩
abbrev F.STK_PRVCFG_TPROVE : Fld := ⟨0x0586, 4, 4⟩
abbrev F.STK_PRVCFG_PMARGIN : Fld := ⟨0x0586, 0, 4⟩
/-- R380. -/
abbrev A.STK_PRVSTAT : Nat := 0x0587
abbrev F.STK_PRVSTAT_GUARD : Fld := ⟨0x0587, 11, 1⟩
abbrev F.STK_PRVSTAT_LASTRES : Fld := ⟨0x0587, 8, 3⟩
abbrev F.STK_PRVSTAT_PCNT : Fld := ⟨0x0587, 0, 8⟩
/-- R381. -/
abbrev A.STK_REFCFG : Nat := 0x0588
abbrev F.STK_REFCFG_TRACK : Fld := ⟨0x0588, 15, 1⟩
abbrev F.STK_REFCFG_PTIME : Fld := ⟨0x0588, 8, 4⟩
abbrev F.STK_REFCFG_K : Fld := ⟨0x0588, 0, 8⟩
/-- R382. -/
abbrev A.STK_DEVCFG : Nat := 0x0589
abbrev F.STK_DEVCFG_DEVPT : Fld := ⟨0x0589, 10, 6⟩
abbrev F.STK_DEVCFG_DEVQT : Fld := ⟨0x0589, 6, 4⟩
abbrev F.STK_DEVCFG_DEVDT : Fld := ⟨0x0589, 2, 4⟩
abbrev F.STK_DEVCFG_DEVN : Fld := ⟨0x0589, 0, 2⟩
/-- R383. -/
abbrev A.STK_REFCTL : Nat := 0x058A
/-- R384, word k of 2. -/
abbrev A.STK_REFCNT (k : Nat) : Nat := 0x058B + k
abbrev F.STK_REFCNT_COUNT (k : Nat) : Fld := ⟨0x058B + k, 0, 16⟩
/-- R385. -/
abbrev A.STK_RECCFG : Nat := 0x0590
abbrev F.STK_RECCFG_TICK : Fld := ⟨0x0590, 14, 2⟩
abbrev F.STK_RECCFG_BURSTLEN : Fld := ⟨0x0590, 11, 3⟩
abbrev F.STK_RECCFG_BURSTTRG : Fld := ⟨0x0590, 8, 3⟩
abbrev F.STK_RECCFG_BURSTCH : Fld := ⟨0x0590, 0, 7⟩
/-- R386. -/
abbrev A.STK_RECSTAT : Nat := 0x0591
abbrev F.STK_RECSTAT_CAPT : Fld := ⟨0x0591, 15, 1⟩
abbrev F.STK_RECSTAT_CAPBANK : Fld := ⟨0x0591, 14, 1⟩
abbrev F.STK_RECSTAT_LATEST : Fld := ⟨0x0591, 13, 1⟩
abbrev F.STK_RECSTAT_LATVALID : Fld := ⟨0x0591, 12, 1⟩
abbrev F.STK_RECSTAT_PREVVALID : Fld := ⟨0x0591, 11, 1⟩
abbrev F.STK_RECSTAT_FULL : Fld := ⟨0x0591, 10, 1⟩
abbrev F.STK_RECSTAT_ABAND : Fld := ⟨0x0591, 9, 1⟩
/-- R387, word k of 2. -/
abbrev A.STK_RECCNT (k : Nat) : Nat := 0x0592 + k
abbrev F.STK_RECCNT_COUNT (k : Nat) : Fld := ⟨0x0592 + k, 0, 14⟩
/-- R388, word k of 8. -/
abbrev A.STK_CAP (k : Nat) : Nat := 0x0594 + k
abbrev F.STK_CAP_EN (k : Nat) : Fld := ⟨0x0594 + k, 15, 1⟩
abbrev F.STK_CAP_STAT (k : Nat) : Fld := ⟨0x0594 + k, 13, 2⟩
abbrev F.STK_CAP_RATE (k : Nat) : Fld := ⟨0x0594 + k, 10, 3⟩
abbrev F.STK_CAP_SRC (k : Nat) : Fld := ⟨0x0594 + k, 0, 7⟩
/-- R389. -/
abbrev A.STK_SUMFLG : Nat := 0x05A0
abbrev F.STK_SUMFLG_KIND : Fld := ⟨0x05A0, 14, 2⟩
abbrev F.STK_SUMFLG_DIR : Fld := ⟨0x05A0, 13, 1⟩
abbrev F.STK_SUMFLG_LEARNED : Fld := ⟨0x05A0, 12, 1⟩
abbrev F.STK_SUMFLG_COMPARED : Fld := ⟨0x05A0, 11, 1⟩
abbrev F.STK_SUMFLG_DEVIATES : Fld := ⟨0x05A0, 10, 1⟩
abbrev F.STK_SUMFLG_LIMITED : Fld := ⟨0x05A0, 9, 1⟩
abbrev F.STK_SUMFLG_LINELOSS : Fld := ⟨0x05A0, 8, 1⟩
abbrev F.STK_SUMFLG_SUPERSEDED : Fld := ⟨0x05A0, 7, 1⟩
abbrev F.STK_SUMFLG_SHORT : Fld := ⟨0x05A0, 6, 1⟩
abbrev F.STK_SUMFLG_LONG : Fld := ⟨0x05A0, 5, 1⟩
abbrev F.STK_SUMFLG_RETIRE : Fld := ⟨0x05A0, 4, 1⟩
abbrev F.STK_SUMFLG_FULL : Fld := ⟨0x05A0, 3, 1⟩
abbrev F.STK_SUMFLG_PRV : Fld := ⟨0x05A0, 0, 3⟩
/-- R390, word k of 7. -/
abbrev A.STK_SUM (k : Nat) : Nat := 0x05A1 + k
/-- R391, word k of 7. -/
abbrev A.STK_CNT (k : Nat) : Nat := 0x05B0 + k
abbrev F.STK_CNT_COUNT (k : Nat) : Fld := ⟨0x05B0 + k, 0, 16⟩
/-- R392. -/
abbrev A.STK_CNTCLR : Nat := 0x05B7
/-- R414. -/
abbrev A.CHG_STAT : Nat := 0x0600
abbrev F.CHG_STAT_STATE : Fld := ⟨0x0600, 12, 4⟩
abbrev F.CHG_STAT_ZONE : Fld := ⟨0x0600, 9, 3⟩
abbrev F.CHG_STAT_PRES : Fld := ⟨0x0600, 8, 1⟩
abbrev F.CHG_STAT_PREC : Fld := ⟨0x0600, 7, 1⟩
abbrev F.CHG_STAT_YIELD : Fld := ⟨0x0600, 6, 1⟩
abbrev F.CHG_STAT_HALF : Fld := ⟨0x0600, 5, 1⟩
abbrev F.CHG_STAT_UNAUTH : Fld := ⟨0x0600, 4, 1⟩
abbrev F.CHG_STAT_WCAUSE : Fld := ⟨0x0600, 1, 3⟩
/-- R415. -/
abbrev A.CHG_FLT : Nat := 0x0601
abbrev F.CHG_FLT_VINLOW : Fld := ⟨0x0601, 7, 1⟩
abbrev F.CHG_FLT_REMOVED : Fld := ⟨0x0601, 6, 1⟩
abbrev F.CHG_FLT_WDT : Fld := ⟨0x0601, 5, 1⟩
abbrev F.CHG_FLT_NTCFLT : Fld := ⟨0x0601, 4, 1⟩
abbrev F.CHG_FLT_STAGEOC : Fld := ⟨0x0601, 3, 1⟩
abbrev F.CHG_FLT_PRETMR : Fld := ⟨0x0601, 2, 1⟩
abbrev F.CHG_FLT_SAFETMR : Fld := ⟨0x0601, 1, 1⟩
abbrev F.CHG_FLT_BATOV : Fld := ⟨0x0601, 0, 1⟩
/-- R416. -/
abbrev A.CHG_CTRL : Nat := 0x0602
abbrev F.CHG_CTRL_EN : Fld := ⟨0x0602, 0, 1⟩
/-- R417. -/
abbrev A.CHG_ICHG : Nat := 0x0603
abbrev F.CHG_ICHG_CODE : Fld := ⟨0x0603, 0, 9⟩
/-- R418. -/
abbrev A.CHG_VREG : Nat := 0x0604
abbrev F.CHG_VREG_CODE : Fld := ⟨0x0604, 0, 9⟩
/-- R419. -/
abbrev A.CHG_KEY : Nat := 0x0605
/-- R420. -/
abbrev A.CHG_CFG : Nat := 0x0606
abbrev F.CHG_CFG_CELLS : Fld := ⟨0x0606, 12, 4⟩
abbrev F.CHG_CFG_FSW : Fld := ⟨0x0606, 10, 2⟩
abbrev F.CHG_CFG_RSH : Fld := ⟨0x0606, 7, 3⟩
abbrev F.CHG_CFG_NTCEN : Fld := ⟨0x0606, 6, 1⟩
/-- R421. -/
abbrev A.CHG_PRECFG : Nat := 0x0607
abbrev F.CHG_PRECFG_VTRK : Fld := ⟨0x0607, 11, 5⟩
abbrev F.CHG_PRECFG_VPRE : Fld := ⟨0x0607, 6, 5⟩
abbrev F.CHG_PRECFG_IPRE : Fld := ⟨0x0607, 0, 6⟩
/-- R422. -/
abbrev A.CHG_TERMCFG : Nat := 0x0608
abbrev F.CHG_TERMCFG_ITERM : Fld := ⟨0x0608, 10, 6⟩
abbrev F.CHG_TERMCFG_TTERM : Fld := ⟨0x0608, 8, 2⟩
abbrev F.CHG_TERMCFG_VRECH : Fld := ⟨0x0608, 5, 3⟩
abbrev F.CHG_TERMCFG_TOPT : Fld := ⟨0x0608, 3, 2⟩
/-- R423. -/
abbrev A.CHG_TMRCFG : Nat := 0x0609
abbrev F.CHG_TMRCFG_TSAFE : Fld := ⟨0x0609, 11, 5⟩
abbrev F.CHG_TMRCFG_WDTO : Fld := ⟨0x0609, 8, 3⟩
/-- R424. -/
abbrev A.CHG_TMR : Nat := 0x060A
abbrev F.CHG_TMR_MIN : Fld := ⟨0x060A, 0, 16⟩
/-- R425. -/
abbrev A.CHG_IMEAS : Nat := 0x060B
abbrev F.CHG_IMEAS_VALUE : Fld := ⟨0x060B, 0, 16⟩
/-- R425. -/
abbrev A.CHG_VBAT : Nat := 0x060C
abbrev F.CHG_VBAT_VALUE : Fld := ⟨0x060C, 0, 16⟩
/-- R425. -/
abbrev A.CHG_TBAT : Nat := 0x060D
abbrev F.CHG_TBAT_VALUE : Fld := ⟨0x060D, 0, 16⟩
/-- R426. -/
abbrev A.CHG_ALLOW : Nat := 0x060E
abbrev F.CHG_ALLOW_PREC : Fld := ⟨0x060E, 15, 1⟩
abbrev F.CHG_ALLOW_ILINE : Fld := ⟨0x060E, 0, 14⟩
/-- R427, word k of 22. -/
abbrev A.CHG_ZTAB (k : Nat) : Nat := 0x0610 + k
/-- R428. -/
abbrev A.CHG_CNTCYC : Nat := 0x0628
abbrev F.CHG_CNTCYC_COUNT : Fld := ⟨0x0628, 0, 16⟩
/-- R428. -/
abbrev A.CHG_CNTREM : Nat := 0x0629
abbrev F.CHG_CNTREM_COUNT : Fld := ⟨0x0629, 0, 16⟩
/-- R456. -/
abbrev A.GAU_STAT : Nat := 0x0700
abbrev F.GAU_STAT_FROZEN : Fld := ⟨0x0700, 15, 1⟩
abbrev F.GAU_STAT_DIS : Fld := ⟨0x0700, 13, 2⟩
abbrev F.GAU_STAT_FLOW : Fld := ⟨0x0700, 11, 2⟩
abbrev F.GAU_STAT_REST : Fld := ⟨0x0700, 10, 1⟩
abbrev F.GAU_STAT_ESTIM : Fld := ⟨0x0700, 9, 1⟩
abbrev F.GAU_STAT_RELEARN : Fld := ⟨0x0700, 8, 1⟩
abbrev F.GAU_STAT_CAPLRN : Fld := ⟨0x0700, 7, 1⟩
abbrev F.GAU_STAT_AUTH : Fld := ⟨0x0700, 5, 2⟩
abbrev F.GAU_STAT_DEFAULTS : Fld := ⟨0x0700, 4, 1⟩
abbrev F.GAU_STAT_LOW : Fld := ⟨0x0700, 3, 1⟩
/-- R457. -/
abbrev A.GAU_SOC : Nat := 0x0701
/-- R457. -/
abbrev A.GAU_SOCCC : Nat := 0x0702
/-- R457. -/
abbrev A.GAU_SOCV : Nat := 0x0703
/-- R457. -/
abbrev A.GAU_QREM : Nat := 0x0704
/-- R457. -/
abbrev A.GAU_FCC : Nat := 0x0705
/-- R458. -/
abbrev A.GAU_RESERVE : Nat := 0x0706
abbrev F.GAU_RESERVE_FLOOR : Fld := ⟨0x0706, 8, 8⟩
abbrev F.GAU_RESERVE_STROKES : Fld := ⟨0x0706, 0, 8⟩
/-- R457. -/
abbrev A.GAU_IEM : Nat := 0x0707
/-- R457. -/
abbrev A.GAU_QEM : Nat := 0x0708
/-- R457. -/
abbrev A.GAU_IBAT : Nat := 0x0709
/-- R457. -/
abbrev A.GAU_VCELL : Nat := 0x070A
/-- R459. -/
abbrev A.GAU_CTRL : Nat := 0x070B
/-- R460. -/
abbrev A.GAU_AUTHSTAT : Nat := 0x070C
abbrev F.GAU_AUTHSTAT_KEY : Fld := ⟨0x070C, 15, 1⟩
abbrev F.GAU_AUTHSTAT_BUSY : Fld := ⟨0x070C, 14, 1⟩
abbrev F.GAU_AUTHSTAT_CAUSE : Fld := ⟨0x070C, 11, 3⟩
abbrev F.GAU_AUTHSTAT_TRY : Fld := ⟨0x070C, 8, 3⟩
abbrev F.GAU_AUTHSTAT_AGE : Fld := ⟨0x070C, 0, 8⟩
/-- R457, word k of 2. -/
abbrev A.GAU_CYC (k : Nat) : Nat := 0x070D + k
/-- R457, word k of 4. -/
abbrev A.GAU_Z (k : Nat) : Nat := 0x0710 + k
/-- R457. -/
abbrev A.GAU_ZPOS : Nat := 0x0714
/-- R457. -/
abbrev A.GAU_ACC0 : Nat := 0x0718
/-- R457. -/
abbrev A.GAU_ACC1 : Nat := 0x0719
/-- R457. -/
abbrev A.GAU_ACC2 : Nat := 0x071A
/-- R461. -/
abbrev A.GAU_CFG : Nat := 0x0720
abbrev F.GAU_CFG_RSH : Fld := ⟨0x0720, 13, 3⟩
abbrev F.GAU_CFG_DEADBAND : Fld := ⟨0x0720, 10, 3⟩
abbrev F.GAU_CFG_AUTHEN : Fld := ⟨0x0720, 9, 1⟩
/-- R462, word k of 4. -/
abbrev A.GAU_SN (k : Nat) : Nat := 0x0728 + k
/-- R462, word k of 4. -/
abbrev A.GAU_PSN (k : Nat) : Nat := 0x072C + k
/-- R462. -/
abbrev A.GAU_PFCC : Nat := 0x0730
/-- R462. -/
abbrev A.GAU_PFLG : Nat := 0x0731
/-- R463, word k of 40. -/
abbrev A.GAU_MODEL (k : Nat) : Nat := 0x0740 + k
/-- R534. -/
abbrev A.ADC_STAT : Nat := 0x0800
abbrev F.ADC_STAT_RNDBUSY : Fld := ⟨0x0800, 15, 1⟩
abbrev F.ADC_STAT_CALBUSY : Fld := ⟨0x0800, 14, 1⟩
abbrev F.ADC_STAT_BURST : Fld := ⟨0x0800, 13, 1⟩
abbrev F.ADC_STAT_BG : Fld := ⟨0x0800, 12, 1⟩
abbrev F.ADC_STAT_INJPEND : Fld := ⟨0x0800, 9, 3⟩
abbrev F.ADC_STAT_RNDOVR : Fld := ⟨0x0800, 8, 1⟩
abbrev F.ADC_STAT_INJOVF : Fld := ⟨0x0800, 7, 1⟩
abbrev F.ADC_STAT_BGSLICE : Fld := ⟨0x0800, 4, 2⟩
abbrev F.ADC_STAT_RNDCNT : Fld := ⟨0x0800, 0, 4⟩
/-- R535. -/
abbrev A.ADC_CFG : Nat := 0x0801
abbrev F.ADC_CFG_BGCAL : Fld := ⟨0x0801, 15, 1⟩
abbrev F.ADC_CFG_SEQLEN : Fld := ⟨0x0801, 0, 6⟩
/-- R536. -/
abbrev A.ADC_CMD : Nat := 0x0802
/-- R537. -/
abbrev A.ADC_INJ : Nat := 0x0803
abbrev F.ADC_INJ_KEY : Fld := ⟨0x0803, 12, 4⟩
abbrev F.ADC_INJ_NAVG : Fld := ⟨0x0803, 8, 3⟩
abbrev F.ADC_INJ_CH : Fld := ⟨0x0803, 0, 6⟩
/-- R538. -/
abbrev A.ADC_INJSTAT : Nat := 0x0804
abbrev F.ADC_INJSTAT_VALID : Fld := ⟨0x0804, 15, 1⟩
abbrev F.ADC_INJSTAT_NAVG : Fld := ⟨0x0804, 12, 3⟩
abbrev F.ADC_INJSTAT_ORIGIN : Fld := ⟨0x0804, 10, 2⟩
abbrev F.ADC_INJSTAT_CH : Fld := ⟨0x0804, 0, 6⟩
/-- R539. -/
abbrev A.ADC_CALCFG : Nat := 0x0805
abbrev F.ADC_CALCFG_SMP : Fld := ⟨0x0805, 8, 2⟩
abbrev F.ADC_CALCFG_CH : Fld := ⟨0x0805, 0, 6⟩
/-- R540. -/
abbrev A.ADC_CALREF : Nat := 0x0806
/-- R541. -/
abbrev A.ADC_CALSTAT : Nat := 0x0807
abbrev F.ADC_CALSTAT_CALDONE : Fld := ⟨0x0807, 15, 1⟩
abbrev F.ADC_CALSTAT_ZDONE : Fld := ⟨0x0807, 14, 1⟩
abbrev F.ADC_CALSTAT_PEND : Fld := ⟨0x0807, 13, 1⟩
abbrev F.ADC_CALSTAT_RUN : Fld := ⟨0x0807, 12, 1⟩
abbrev F.ADC_CALSTAT_IGN : Fld := ⟨0x0807, 11, 1⟩
abbrev F.ADC_CALSTAT_LAST : Fld := ⟨0x0807, 9, 2⟩
/-- R542. -/
abbrev A.ADC_SKEW : Nat := 0x0808
abbrev F.ADC_SKEW_SKEW : Fld := ⟨0x0808, 0, 7⟩
/-- R543, word k of 6. -/
abbrev A.ADC_COEF (k : Nat) : Nat := 0x080A + k
abbrev F.ADC_COEF_COEF (k : Nat) : Fld := ⟨0x080A + k, 0, 16⟩
/-- R544, word k of 32. -/
abbrev A.ADC_SEQ (k : Nat) : Nat := 0x0810 + k
abbrev F.ADC_SEQ_WATCH (k : Nat) : Fld := ⟨0x0810 + k, 15, 1⟩
abbrev F.ADC_SEQ_DIV (k : Nat) : Fld := ⟨0x0810 + k, 13, 2⟩
abbrev F.ADC_SEQ_SMP (k : Nat) : Fld := ⟨0x0810 + k, 11, 2⟩
abbrev F.ADC_SEQ_NAVG (k : Nat) : Fld := ⟨0x0810 + k, 8, 3⟩
abbrev F.ADC_SEQ_CH (k : Nat) : Fld := ⟨0x0810 + k, 0, 6⟩
/-- R545. -/
abbrev A.ADC_WINCFG (k : Nat) : Nat := 0x0840 + 4 * k
abbrev F.ADC_WINCFG_EN (k : Nat) : Fld := ⟨0x0840 + 4 * k, 15, 1⟩
abbrev F.ADC_WINCFG_CNT (k : Nat) : Fld := ⟨0x0840 + 4 * k, 12, 3⟩
abbrev F.ADC_WINCFG_CH (k : Nat) : Fld := ⟨0x0840 + 4 * k, 0, 6⟩
/-- R545. -/
abbrev A.ADC_WINLO (k : Nat) : Nat := 0x0841 + 4 * k
/-- R545. -/
abbrev A.ADC_WINHI (k : Nat) : Nat := 0x0842 + 4 * k
/-- R546. -/
abbrev A.ADC_WINSTAT : Nat := 0x0860
abbrev F.ADC_WINSTAT_STICKY : Fld := ⟨0x0860, 8, 8⟩
abbrev F.ADC_WINSTAT_OUT : Fld := ⟨0x0860, 0, 8⟩
/-- R547, word k of 128. -/
abbrev A.ADC_RES (k : Nat) : Nat := 0x0880 + k
/-- R558, word k of 16. -/
abbrev A.CMP_CFG (k : Nat) : Nat := 0x0900 + k
abbrev F.CMP_CFG_MODE (k : Nat) : Fld := ⟨0x0900 + k, 14, 2⟩
abbrev F.CMP_CFG_HYS (k : Nat) : Fld := ⟨0x0900 + k, 11, 3⟩
abbrev F.CMP_CFG_BSRC (k : Nat) : Fld := ⟨0x0900 + k, 8, 3⟩
abbrev F.CMP_CFG_BWIN (k : Nat) : Fld := ⟨0x0900 + k, 5, 3⟩
abbrev F.CMP_CFG_BDOM (k : Nat) : Fld := ⟨0x0900 + k, 0, 4⟩
/-- R559, word k of 6. -/
abbrev A.CMP_SRC (k : Nat) : Nat := 0x0910 + k
abbrev F.CMP_SRC_ATT (k : Nat) : Fld := ⟨0x0910 + k, 5, 1⟩
abbrev F.CMP_SRC_SRC (k : Nat) : Fld := ⟨0x0910 + k, 0, 5⟩
/-- R560, word k of 16. -/
abbrev A.CMP_LO (k : Nat) : Nat := 0x0920 + k
abbrev F.CMP_LO_CODE (k : Nat) : Fld := ⟨0x0920 + k, 0, 10⟩
/-- R560, word k of 16. -/
abbrev A.CMP_HI (k : Nat) : Nat := 0x0930 + k
abbrev F.CMP_HI_CODE (k : Nat) : Fld := ⟨0x0930 + k, 0, 10⟩
/-- R561. -/
abbrev A.CMP_PWR : Nat := 0x0940
abbrev F.CMP_PWR_REQ : Fld := ⟨0x0940, 0, 16⟩
/-- R562. -/
abbrev A.CMP_ACT : Nat := 0x0941
abbrev F.CMP_ACT_MAP : Fld := ⟨0x0941, 0, 16⟩
/-- R562. -/
abbrev A.CMP_UNDER : Nat := 0x0942
abbrev F.CMP_UNDER_MAP : Fld := ⟨0x0942, 0, 16⟩
/-- R562. -/
abbrev A.CMP_OVER : Nat := 0x0943
abbrev F.CMP_OVER_MAP : Fld := ⟨0x0943, 0, 16⟩
/-- R563. -/
abbrev A.CMP_UEVT : Nat := 0x0944
abbrev F.CMP_UEVT_MAP : Fld := ⟨0x0944, 0, 16⟩
/-- R563. -/
abbrev A.CMP_OEVT : Nat := 0x0945
abbrev F.CMP_OEVT_MAP : Fld := ⟨0x0945, 0, 16⟩
/-- R564. -/
abbrev A.CMP_RBSEL : Nat := 0x0948
abbrev F.CMP_RBSEL_EN : Fld := ⟨0x0948, 15, 1⟩
abbrev F.CMP_RBSEL_AUTO : Fld := ⟨0x0948, 14, 1⟩
abbrev F.CMP_RBSEL_UPPER : Fld := ⟨0x0948, 4, 1⟩
abbrev F.CMP_RBSEL_MON : Fld := ⟨0x0948, 0, 4⟩
/-- R565. -/
abbrev A.CMP_RBSTAT : Nat := 0x0949
abbrev F.CMP_RBSTAT_FAIL : Fld := ⟨0x0949, 15, 1⟩
abbrev F.CMP_RBSTAT_SKIP : Fld := ⟨0x0949, 14, 1⟩
abbrev F.CMP_RBSTAT_FAILSEL : Fld := ⟨0x0949, 0, 5⟩
/-- R566. -/
abbrev A.CMP_RBMEAS : Nat := 0x094A
abbrev F.CMP_RBMEAS_CODE : Fld := ⟨0x094A, 0, 10⟩
/-- R567. -/
abbrev A.CMP_SCCFG : Nat := 0x094B
abbrev F.CMP_SCCFG_TOL : Fld := ⟨0x094B, 0, 4⟩
/-- R568. -/
abbrev A.CMP_GTIM : Nat := 0x094C
abbrev F.CMP_GTIM_PERIOD : Fld := ⟨0x094C, 0, 16⟩
/-- R569. -/
abbrev A.CMP_TICK : Nat := 0x094D
abbrev F.CMP_TICK_CODE : Fld := ⟨0x094D, 0, 4⟩
/-- R585. -/
abbrev A.THM_STAT : Nat := 0x0A00
abbrev F.THM_STAT_THRREQ : Fld := ⟨0x0A00, 15, 1⟩
abbrev F.THM_STAT_THRENF : Fld := ⟨0x0A00, 14, 1⟩
abbrev F.THM_STAT_GRACE : Fld := ⟨0x0A00, 13, 1⟩
abbrev F.THM_STAT_HOLD : Fld := ⟨0x0A00, 12, 1⟩
abbrev F.THM_STAT_RELAX : Fld := ⟨0x0A00, 11, 1⟩
abbrev F.THM_STAT_BAND : Fld := ⟨0x0A00, 8, 3⟩
abbrev F.THM_STAT_HOTSEL : Fld := ⟨0x0A00, 5, 3⟩
/-- R586. -/
abbrev A.THM_HOT : Nat := 0x0A01
abbrev F.THM_HOT_TEMP : Fld := ⟨0x0A01, 0, 16⟩
/-- R587. -/
abbrev A.THM_SFAIL : Nat := 0x0A02
abbrev F.THM_SFAIL_STICKY : Fld := ⟨0x0A02, 8, 8⟩
abbrev F.THM_SFAIL_SUBST : Fld := ⟨0x0A02, 0, 8⟩
/-- R588. -/
abbrev A.THM_SCAUSE : Nat := 0x0A03
abbrev F.THM_SCAUSE_CAUSE : Fld := ⟨0x0A03, 0, 16⟩
/-- R589. -/
abbrev A.THM_SDSTAT : Nat := 0x0A04
abbrev F.THM_SDSTAT_TRIPPED : Fld := ⟨0x0A04, 8, 8⟩
abbrev F.THM_SDSTAT_HOT : Fld := ⟨0x0A04, 0, 8⟩
/-- R590. -/
abbrev A.THM_NTCSTAT : Nat := 0x0A05
abbrev F.THM_NTCSTAT_STATE : Fld := ⟨0x0A05, 0, 8⟩
/-- R586, word k of 8. -/
abbrev A.THM_TS (k : Nat) : Nat := 0x0A08 + k
abbrev F.THM_TS_TEMP (k : Nat) : Fld := ⟨0x0A08 + k, 0, 16⟩
/-- R591, word k of 4. -/
abbrev A.THM_NTC (k : Nat) : Nat := 0x0A10 + k
abbrev F.THM_NTC_TEMP (k : Nat) : Fld := ⟨0x0A10 + k, 0, 16⟩
/-- R592. -/
abbrev A.THM_THRCFG : Nat := 0x0A18
abbrev F.THM_THRCFG_TTHR : Fld := ⟨0x0A18, 8, 8⟩
abbrev F.THM_THRCFG_GRACE : Fld := ⟨0x0A18, 6, 2⟩
abbrev F.THM_THRCFG_RELT : Fld := ⟨0x0A18, 4, 2⟩
abbrev F.THM_THRCFG_THRHYS : Fld := ⟨0x0A18, 2, 2⟩
abbrev F.THM_THRCFG_PEN : Fld := ⟨0x0A18, 1, 1⟩
/-- R593. -/
abbrev A.THM_THRLIM0 : Nat := 0x0A19
abbrev F.THM_THRLIM0_ILIM : Fld := ⟨0x0A19, 0, 16⟩
/-- R594. -/
abbrev A.THM_THRLIM1 : Nat := 0x0A1A
abbrev F.THM_THRLIM1_FIELD : Fld := ⟨0x0A1A, 12, 4⟩
abbrev F.THM_THRLIM1_CHG : Fld := ⟨0x0A1A, 0, 9⟩
/-- R595. -/
abbrev A.THM_PTHR : Nat := 0x0A1B
abbrev F.THM_PTHR_TEMP : Fld := ⟨0x0A1B, 0, 16⟩
/-- R596. -/
abbrev A.THM_NTCCFG : Nat := 0x0A1C
abbrev F.THM_NTCCFG_P1EN : Fld := ⟨0x0A1C, 15, 1⟩
abbrev F.THM_NTCCFG_P2EN : Fld := ⟨0x0A1C, 14, 1⟩
abbrev F.THM_NTCCFG_AMBEN : Fld := ⟨0x0A1C, 13, 1⟩
abbrev F.THM_NTCCFG_BETA : Fld := ⟨0x0A1C, 0, 8⟩
/-- R597. -/
abbrev A.THM_CNTSD : Nat := 0x0A20
abbrev F.THM_CNTSD_COUNT : Fld := ⟨0x0A20, 0, 16⟩
/-- R597. -/
abbrev A.THM_CNTTHR : Nat := 0x0A21
abbrev F.THM_CNTTHR_COUNT : Fld := ⟨0x0A21, 0, 16⟩
/-- R598. -/
abbrev A.THM_CNTCLR : Nat := 0x0A22
/-- R599, word k of 96. -/
abbrev A.THM_BT (k : Nat) : Nat := 0x0A40 + k
/-- R611, word k of 3. -/
abbrev A.RTC_SEC (k : Nat) : Nat := 0x0B00 + k
/-- R611. -/
abbrev A.RTC_FRAC : Nat := 0x0B03
/-- R612, word k of 4. -/
abbrev A.RTC_STG (k : Nat) : Nat := 0x0B04 + k
/-- R613. -/
abbrev A.RTC_SETGO : Nat := 0x0B08
/-- R614. -/
abbrev A.RTC_TRIM : Nat := 0x0B09
abbrev F.RTC_TRIM_PPM : Fld := ⟨0x0B09, 0, 9⟩
/-- R615. -/
abbrev A.RTC_STAT : Nat := 0x0B0A
abbrev F.RTC_STAT_TSET : Fld := ⟨0x0B0A, 15, 1⟩
abbrev F.RTC_STAT_PEND : Fld := ⟨0x0B0A, 14, 1⟩
abbrev F.RTC_STAT_STEPD : Fld := ⟨0x0B0A, 13, 1⟩
/-- R616. -/
abbrev A.RTC_CFG : Nat := 0x0B0B
abbrev F.RTC_CFG_TRIMDEF : Fld := ⟨0x0B0B, 0, 9⟩
/-- R617, word k of 8. -/
abbrev A.RTC_A0 (k : Nat) : Nat := 0x0B10 + k
/-- R617, word k of 8. -/
abbrev A.RTC_A1 (k : Nat) : Nat := 0x0B18 + k
/-- R618. -/
abbrev A.RTC_ALMCFG : Nat := 0x0B20
abbrev F.RTC_ALMCFG_PKT1 : Fld := ⟨0x0B20, 3, 1⟩
abbrev F.RTC_ALMCFG_PKT0 : Fld := ⟨0x0B20, 2, 1⟩
abbrev F.RTC_ALMCFG_EN1 : Fld := ⟨0x0B20, 1, 1⟩
abbrev F.RTC_ALMCFG_EN0 : Fld := ⟨0x0B20, 0, 1⟩
/-- R619. -/
abbrev A.RTC_ALMSTAT : Nat := 0x0B21
abbrev F.RTC_ALMSTAT_LATE1 : Fld := ⟨0x0B21, 3, 1⟩
abbrev F.RTC_ALMSTAT_LATE0 : Fld := ⟨0x0B21, 2, 1⟩
abbrev F.RTC_ALMSTAT_ALM1 : Fld := ⟨0x0B21, 1, 1⟩
abbrev F.RTC_ALMSTAT_ALM0 : Fld := ⟨0x0B21, 0, 1⟩
/-- R620, word k of 4. -/
abbrev A.RTC_BKTS (k : Nat) : Nat := 0x0B24 + k
/-- R642. -/
abbrev A.FLT_STAT : Nat := 0x0C00
abbrev F.FLT_STAT_FAULT : Fld := ⟨0x0C00, 15, 1⟩
abbrev F.FLT_STAT_ALIVE : Fld := ⟨0x0C00, 14, 1⟩
abbrev F.FLT_STAT_ALVSTOP : Fld := ⟨0x0C00, 11, 3⟩
abbrev F.FLT_STAT_WARNPEND : Fld := ⟨0x0C00, 10, 1⟩
abbrev F.FLT_STAT_PFWBY : Fld := ⟨0x0C00, 4, 4⟩
abbrev F.FLT_STAT_BANKS : Fld := ⟨0x0C00, 0, 4⟩
/-- R643. -/
abbrev A.FLT_CFG : Nat := 0x0C01
abbrev F.FLT_CFG_PFWHOLD : Fld := ⟨0x0C01, 12, 4⟩
abbrev F.FLT_CFG_ALVEN : Fld := ⟨0x0C01, 8, 1⟩
abbrev F.FLT_CFG_ALVPER : Fld := ⟨0x0C01, 0, 8⟩
/-- R644. -/
abbrev A.FLT_TEST : Nat := 0x0C02
abbrev F.FLT_TEST_KEY : Fld := ⟨0x0C02, 8, 8⟩
abbrev F.FLT_TEST_DRYHIT : Fld := ⟨0x0C02, 2, 1⟩
abbrev F.FLT_TEST_DRY : Fld := ⟨0x0C02, 1, 1⟩
abbrev F.FLT_TEST_ARM : Fld := ⟨0x0C02, 0, 1⟩
/-- R645. -/
abbrev A.FLT_FIRST : Nat := 0x0C03
abbrev F.FLT_FIRST_VALID : Fld := ⟨0x0C03, 15, 1⟩
abbrev F.FLT_FIRST_CLASS : Fld := ⟨0x0C03, 13, 2⟩
abbrev F.FLT_FIRST_SOURCE : Fld := ⟨0x0C03, 0, 7⟩
/-- R646. -/
abbrev A.FLT_CNTCLR : Nat := 0x0C04
/-- R647, word k of 8. -/
abbrev A.FLT_EN (k : Nat) : Nat := 0x0C08 + k
/-- R647, word k of 8. -/
abbrev A.FLT_STK (k : Nat) : Nat := 0x0C10 + k
/-- R647, word k of 8. -/
abbrev A.FLT_FRC (k : Nat) : Nat := 0x0C18 + k
/-- R648, word k of 16. -/
abbrev A.FLT_CLS (k : Nat) : Nat := 0x0C20 + k
abbrev F.FLT_CLS_CLASS (k : Nat) : Fld := ⟨0x0C20 + k, 0, 16⟩
/-- R649, word k of 8. -/
abbrev A.FLT_SNAP (k : Nat) : Nat := 0x0C30 + k
/-- R649. -/
abbrev A.FLT_SNAPINF : Nat := 0x0C38
abbrev F.FLT_SNAPINF_VALID : Fld := ⟨0x0C38, 15, 1⟩
abbrev F.FLT_SNAPINF_EVENT : Fld := ⟨0x0C38, 12, 3⟩
abbrev F.FLT_SNAPINF_STATE : Fld := ⟨0x0C38, 8, 4⟩
/-- R650, word k of 128. -/
abbrev A.FLT_CNT (k : Nat) : Nat := 0x0C80 + k
abbrev F.FLT_CNT_COUNT (k : Nat) : Fld := ⟨0x0C80 + k, 0, 16⟩
/-- R664. -/
abbrev A.MRQ_STAT : Nat := 0x0D00
abbrev F.MRQ_STAT_QNE : Fld := ⟨0x0D00, 15, 1⟩
abbrev F.MRQ_STAT_QPRI : Fld := ⟨0x0D00, 12, 2⟩
abbrev F.MRQ_STAT_OPEN : Fld := ⟨0x0D00, 11, 1⟩
abbrev F.MRQ_STAT_RST : Fld := ⟨0x0D00, 10, 1⟩
abbrev F.MRQ_STAT_DROP : Fld := ⟨0x0D00, 9, 1⟩
abbrev F.MRQ_STAT_SEQ : Fld := ⟨0x0D00, 0, 8⟩
/-- R665. -/
abbrev A.MRQ_FREE : Nat := 0x0D01
abbrev F.MRQ_FREE_WORDS : Fld := ⟨0x0D01, 0, 13⟩
/-- R666, word k of 4. -/
abbrev A.MRQ_WORDS (k : Nat) : Nat := 0x0D02 + k
abbrev F.MRQ_WORDS_COUNT (k : Nat) : Fld := ⟨0x0D02 + k, 0, 13⟩
/-- R666, word k of 4. -/
abbrev A.MRQ_PKTS (k : Nat) : Nat := 0x0D06 + k
abbrev F.MRQ_PKTS_COUNT (k : Nat) : Fld := ⟨0x0D06 + k, 0, 13⟩
/-- R667, word k of 4. -/
abbrev A.MRQ_DROP (k : Nat) : Nat := 0x0D0A + k
abbrev F.MRQ_DROP_COUNT (k : Nat) : Fld := ⟨0x0D0A + k, 0, 16⟩
/-- R668, word k of 2. -/
abbrev A.MRQ_HEAD (k : Nat) : Nat := 0x0D0E + k
abbrev F.MRQ_HEAD_HDR (k : Nat) : Fld := ⟨0x0D0E + k, 0, 16⟩
/-- R669. -/
abbrev A.MRQ_CNTRST : Nat := 0x0D10
abbrev F.MRQ_CNTRST_COUNT : Fld := ⟨0x0D10, 0, 16⟩
/-- R670. -/
abbrev A.MRQ_CTL : Nat := 0x0D11
/-- R499. -/
abbrev A.WAY_STAT : Nat := 0x0E00
abbrev F.WAY_STAT_ADMIT : Fld := ⟨0x0E00, 15, 1⟩
abbrev F.WAY_STAT_ORPHAN : Fld := ⟨0x0E00, 14, 1⟩
abbrev F.WAY_STAT_GRANT : Fld := ⟨0x0E00, 13, 1⟩
abbrev F.WAY_STAT_REQ : Fld := ⟨0x0E00, 12, 1⟩
abbrev F.WAY_STAT_VER : Fld := ⟨0x0E00, 11, 1⟩
abbrev F.WAY_STAT_FOLLOW : Fld := ⟨0x0E00, 10, 1⟩
abbrev F.WAY_STAT_CLASH : Fld := ⟨0x0E00, 9, 1⟩
abbrev F.WAY_STAT_DISMISS : Fld := ⟨0x0E00, 8, 1⟩
abbrev F.WAY_STAT_MGRCONF : Fld := ⟨0x0E00, 7, 1⟩
abbrev F.WAY_STAT_STEP : Fld := ⟨0x0E00, 6, 1⟩
abbrev F.WAY_STAT_NOADDR : Fld := ⟨0x0E00, 5, 1⟩
/-- R500. -/
abbrev A.WAY_CFG : Nat := 0x0E01
abbrev F.WAY_CFG_RATE : Fld := ⟨0x0E01, 14, 2⟩
abbrev F.WAY_CFG_WMAX : Fld := ⟨0x0E01, 12, 1⟩
abbrev F.WAY_CFG_FOLLOW : Fld := ⟨0x0E01, 11, 1⟩
abbrev F.WAY_CFG_ADDR : Fld := ⟨0x0E01, 0, 5⟩
/-- R501. -/
abbrev A.WAY_TOLLCFG : Nat := 0x0E02
abbrev F.WAY_TOLLCFG_BASE : Fld := ⟨0x0E02, 8, 8⟩
abbrev F.WAY_TOLLCFG_ORPH : Fld := ⟨0x0E02, 0, 8⟩
/-- R502. -/
abbrev A.WAY_GRANT : Nat := 0x0E03
abbrev F.WAY_GRANT_RSEQ : Fld := ⟨0x0E03, 12, 4⟩
abbrev F.WAY_GRANT_TOLLS : Fld := ⟨0x0E03, 0, 12⟩
/-- R503. -/
abbrev A.WAY_LEASE : Nat := 0x0E04
abbrev F.WAY_LEASE_MS : Fld := ⟨0x0E04, 0, 16⟩
/-- R504. -/
abbrev A.WAY_ADDR : Nat := 0x0E05
abbrev F.WAY_ADDR_ORIGIN : Fld := ⟨0x0E05, 14, 2⟩
abbrev F.WAY_ADDR_ADDR : Fld := ⟨0x0E05, 0, 5⟩
/-- R505. -/
abbrev A.WAY_ILIM : Nat := 0x0E06
abbrev F.WAY_ILIM_NONE : Fld := ⟨0x0E06, 15, 1⟩
abbrev F.WAY_ILIM_ILIM : Fld := ⟨0x0E06, 0, 14⟩
/-- R506. -/
abbrev A.WAY_CNTCRC : Nat := 0x0E08
abbrev F.WAY_CNTCRC_COUNT : Fld := ⟨0x0E08, 0, 16⟩
/-- R506. -/
abbrev A.WAY_CNTORPH : Nat := 0x0E09
abbrev F.WAY_CNTORPH_COUNT : Fld := ⟨0x0E09, 0, 16⟩
/-- R507. -/
abbrev A.WAY_CNTCLR : Nat := 0x0E0A
/-- R508. -/
abbrev A.WAY_MCFG : Nat := 0x0E10
abbrev F.WAY_MCFG_EMOVER : Fld := ⟨0x0E10, 15, 1⟩
abbrev F.WAY_MCFG_JOINEN : Fld := ⟨0x0E10, 14, 1⟩
/-- R509. -/
abbrev A.WAY_MBUDGET : Nat := 0x0E11
abbrev F.WAY_MBUDGET_BUDGET : Fld := ⟨0x0E11, 0, 12⟩
/-- R510. -/
abbrev A.WAY_MCOMMIT : Nat := 0x0E12
abbrev F.WAY_MCOMMIT_TOLLS : Fld := ⟨0x0E12, 0, 13⟩
/-- R511. -/
abbrev A.WAY_MPEND : Nat := 0x0E13
abbrev F.WAY_MPEND_EMPEND : Fld := ⟨0x0E13, 8, 6⟩
abbrev F.WAY_MPEND_PEND : Fld := ⟨0x0E13, 0, 6⟩
/-- R512, word k of 2. -/
abbrev A.WAY_MPRES (k : Nat) : Nat := 0x0E14 + k
abbrev F.WAY_MPRES_MAP (k : Nat) : Fld := ⟨0x0E14 + k, 0, 16⟩
/-- R513, word k of 2. -/
abbrev A.WAY_MCHG (k : Nat) : Nat := 0x0E16 + k
abbrev F.WAY_MCHG_MAP (k : Nat) : Fld := ⟨0x0E16 + k, 0, 16⟩
/-- R514. -/
abbrev A.WAY_RSTCMD : Nat := 0x0E18
abbrev F.WAY_RSTCMD_KEY : Fld := ⟨0x0E18, 8, 8⟩
abbrev F.WAY_RSTCMD_ADDR : Fld := ⟨0x0E18, 0, 5⟩
/-- R515. -/
abbrev A.WAY_MSTAT : Nat := 0x0E19
abbrev F.WAY_MSTAT_RSTBUSY : Fld := ⟨0x0E19, 15, 1⟩
abbrev F.WAY_MSTAT_RSTREF : Fld := ⟨0x0E19, 14, 1⟩
abbrev F.WAY_MSTAT_TURN : Fld := ⟨0x0E19, 0, 5⟩
/-- R516, word k of 124. -/
abbrev A.WAY_W (k : Nat) : Nat := 0x0E40 + k
/-- R175. -/
abbrev A.ENG_STAT : Nat := 0x0F00
abbrev F.ENG_STAT_PKTLOST : Fld := ⟨0x0F00, 15, 1⟩
abbrev F.ENG_STAT_HKOVR : Fld := ⟨0x0F00, 14, 1⟩
abbrev F.ENG_STAT_DBG : Fld := ⟨0x0F00, 13, 1⟩
abbrev F.ENG_STAT_BUSY : Fld := ⟨0x0F00, 0, 12⟩
/-- R176, word k of 2. -/
abbrev A.ENG_FSET (k : Nat) : Nat := 0x0F02 + k
/-- R176, word k of 2. -/
abbrev A.ENG_FCLR (k : Nat) : Nat := 0x0F04 + k
/-- R177. -/
abbrev A.ENG_TRIG : Nat := 0x0F06
abbrev F.ENG_TRIG_KEY : Fld := ⟨0x0F06, 8, 8⟩
abbrev F.ENG_TRIG_ENGINE : Fld := ⟨0x0F06, 0, 4⟩
/-- R178. -/
abbrev A.ENG_DBG : Nat := 0x0F07
abbrev F.ENG_DBG_KEY : Fld := ⟨0x0F07, 12, 4⟩
abbrev F.ENG_DBG_RESUME : Fld := ⟨0x0F07, 7, 1⟩
abbrev F.ENG_DBG_STEP : Fld := ⟨0x0F07, 6, 1⟩
abbrev F.ENG_DBG_HALT : Fld := ⟨0x0F07, 5, 1⟩
abbrev F.ENG_DBG_HALTED : Fld := ⟨0x0F07, 4, 1⟩
abbrev F.ENG_DBG_SEL : Fld := ⟨0x0F07, 0, 4⟩
/-- R179, word k of 2. -/
abbrev A.ENG_DBGSTEP (k : Nat) : Nat := 0x0F08 + k
/-- R180, word k of 4. -/
abbrev A.ENG_TIM (k : Nat) : Nat := 0x0F0A + k
/-- R181. -/
abbrev A.ENG_FWVER : Nat := 0x0F0E
abbrev F.ENG_FWVER_GAU : Fld := ⟨0x0F0E, 8, 8⟩
abbrev F.ENG_FWVER_WAY : Fld := ⟨0x0F0E, 0, 8⟩
/-- R182, word k of 12. -/
abbrev A.ENG_PC (k : Nat) : Nat := 0x0F10 + k
abbrev F.ENG_PC_STATE (k : Nat) : Fld := ⟨0x0F10 + k, 13, 3⟩
abbrev F.ENG_PC_PC (k : Nat) : Fld := ⟨0x0F10 + k, 0, 12⟩
/-- R183, word k of 12. -/
abbrev A.ENG_BASE (k : Nat) : Nat := 0x0F20 + k
abbrev F.ENG_BASE_BASE (k : Nat) : Fld := ⟨0x0F20 + k, 0, 12⟩
/-- R184, word k of 12. -/
abbrev A.ENG_LEN (k : Nat) : Nat := 0x0F30 + k
abbrev F.ENG_LEN_LEN (k : Nat) : Fld := ⟨0x0F30 + k, 0, 13⟩
/-- R697, word k of 8192. -/
abbrev A.ENG_STEP (k : Nat) : Nat := 0x1000 + k
/-- R697, word k of 32768. -/
abbrev A.STK_REC (k : Nat) : Nat := 0x4000 + k
/-- R697, word k of 240. -/
abbrev A.GAU_ZCUR (k : Nat) : Nat := 0xC000 + k
/-- R697, word k of 240. -/
abbrev A.GAU_ZPRV (k : Nat) : Nat := 0xC0F0 + k
/-- R697, word k of 21. -/
abbrev A.GAU_OCV (k : Nat) : Nat := 0xC1E0 + k
/-- R697, word k of 256. -/
abbrev A.STK_REFO (k : Nat) : Nat := 0xC200 + k
/-- R697, word k of 256. -/
abbrev A.STK_REFC (k : Nat) : Nat := 0xC300 + k

end Sys2Proof.Machine
end

