-- ==== Sys2Proof/Machine/State.lean ====
section
/-! DEFINITION. The state of the YH6410: the register file of spec/ and every piece of state its rules name that no register holds. Plain data throughout. -/
namespace Sys2Proof.Machine

/-- Why a command has no next state. Every one of these is safe: the model stops where the spec promises no outcome. -/
inductive Fault where
  /-- R142: raised by a host write to an address no chapter maps, which "gives an undefined result" (log entry 8). Safe. -/
  | unmappedAddress (a : Nat)
  /-- R78, R640: raised by an image entry outside the C-class registers, and by other image contents whose result the spec calls undefined. Safe. -/
  | undefinedImage (why : String)
  /-- R313, R498, R640: raised by a host write of a reserved code, of DRV_PHEN while DRIVE is commanded on, or of a manager's command register on another device. Safe. -/
  | undefinedWrite (a : Nat)
  /-- R153 to R164, R171: raised by an engine step whose result the spec calls undefined. Safe. -/
  | undefinedStep (why : String)
deriving DecidableEq, Repr

/-- A command the model does not run. -/
inductive Refusal where
  /-- Raised by an arm of exec that has no meaning yet. Safe. -/
  | notModelled (mnemonic : String)
deriving DecidableEq, Repr

/-- R42: the power states. DEAD, VBKUP ONLY and SHIP have no code. -/
inductive Power where
  | dead | vbkupOnly | ship | boot | hibernate | powerUp | watch | run | powerDown | thermalOff | fault
deriving DecidableEq, Repr

/-- R42: the code read in SYS_STATE.STATE; 0 stands where the spec gives none. -/
def Power.code : Power → Nat
  | .dead => 0 | .vbkupOnly => 0 | .ship => 0
  | .boot => 1 | .hibernate => 2 | .powerUp => 3 | .watch => 4 | .run => 5 | .powerDown => 6 | .thermalOff => 7 | .fault => 8

/-- The register file: (address, word) pairs, addresses strictly rising, no pair whose word is the reset word of its address. -/
abbrev RegFile := List (Nat × Word)

/-- What feeds the device and its islands (R33 to R39). -/
structure Supply where
  /-- LINE in 0.1 V as the latest command that carried it said. -/
  lineDv    : Nat
  /-- BATT in mV, likewise. -/
  battMv    : Nat
  /-- R34: VBKUP stands at or above 1.75 V (SYS_STATE.VBKOK). -/
  vbk175    : Bool
  /-- R34: VBKUP stands at or above 1.50 V. -/
  vbk150    : Bool
  /-- R34: the retention island lost its contents while AO was without a supply. -/
  retLost   : Bool
  /-- R34: the RTC island lost its counts while AO was without a supply. -/
  rtcLost   : Bool
  /-- R33: the pre-regulator has started (or AO33 has only dipped), and AO ready is awaited. -/
  starting   : Bool
  /-- R396: a battery is present. -/
  pack      : Bool
  /-- R412: LINE feeds AO in SHIP. -/
  shipAo    : Bool
  /-- R36: VIOH is within its range. -/
  vioh      : Bool
  /-- R39: the fast oscillator runs. -/
  fastOn    : Bool
  /-- R38: the crystal has failed and is not tried again until the next reset. -/
  xtalGiven : Bool
deriving DecidableEq, Repr

/-- R54: how far a press of PB_N has come. -/
inductive PbStage where
  | up          -- PB_N is high
  | held        -- accepted at 50 ms
  | woke        -- accepted at 50 ms, and it woke the device
  | warned      -- PB_LONG − 2 s passed: PFW_N is asserted
  | done        -- PB_LONG passed
deriving DecidableEq, Repr

/-- R52: the resets taken with AO running. -/
inductive ResetKind where
  | pin | host | manager
deriving DecidableEq, Repr

/-- R43, R44: how BOOT was entered, for the start rule. -/
inductive BootFrom where
  | cold | brownOut | wake | reset
  /-- R49, R58: the cold start with which SHIP ends. -/
  | shipExit
deriving DecidableEq, Repr

/-- R146: the external conditions as sampled at the start of a step time: the comparators of the monitors (bit k for monitor k), the line, the sluice, the weir, the battery, VBKUP and VIOH. -/
structure Sampled where
  below  : Nat
  above  : Nat
  qual   : Bool
  fullOn : Bool
  weir   : Bool
  pack   : Bool
  vbk175 : Bool
  vioh   : Bool
deriving DecidableEq, Repr

/-- R43, R59: a requested running state. -/
inductive Target where
  | run | watch
deriving DecidableEq, Repr

/-- R95, R210: what a first-fail record is written for: FAULT, THERMAL-OFF, a domain that failed to come up. -/
inductive FailKind where
  | fault | thermalOff | noStart
deriving DecidableEq, Repr

/-- R210: an incident as it stood when it began. -/
structure Incident where
  source : Nat
  cls    : Nat
  state  : Nat
  band   : Nat
  pg     : Nat
  hot    : Int
deriving DecidableEq, Repr

/-- The state controller (R42 to R59, R194 to R200). -/
structure Control where
  /-- R43, R59: the latest request for RUN or WATCH. -/
  request    : Option Target
  /-- R44, R56: start conditions are suppressed after a force-off. -/
  foff       : Bool
  /-- R54, R200: a push-button force-off has been taken since the latest power-up. -/
  forced     : Bool
  /-- R44: a press or a newly qualified line has already ended the suppression that the force-off in progress brings. -/
  forceEnded : Bool
  /-- R44: PB_N has returned high since the force-off. -/
  pbFreed    : Bool
  /-- R54: how far the press of PB_N in progress has come. -/
  pb         : PbStage
  /-- R52, R53: MR_N is low. -/
  mrLow      : Bool
  /-- R53: the reset shutdown in progress. -/
  resetting  : Option ResetKind
  /-- R43, R44: how BOOT was entered, for the start rule. -/
  bootFrom   : BootFrom
  /-- R44: the reset that led to BOOT was taken in POWER-UP, RUN or WATCH. -/
  bootRunning : Bool
  /-- R23: the straps are still to be read for the reset or the wake that led to BOOT. -/
  strapDue   : Bool
  /-- R47: start conditions that held for the BOOT a thermal shutdown interrupted. -/
  startHeld  : Bool
  /-- R46: restarts from THERMAL-OFF in the current 10-minute window. -/
  thRestarts : Nat
  /-- R47: the state THERMAL-OFF was entered from. -/
  thFrom     : Power
  /-- R47: wake sources that became true in THERMAL-OFF, by wake code. -/
  thWakes    : List Nat
  /-- R198, R218: the remembered on request, by wake code. -/
  onReq      : Option Nat
  /-- R51: the LF tick of the latest wake, and SYS_WAKECFG as it stood then. -/
  wakeTick   : Option Nat
  wakeCfg    : Word
  /-- R49: the power-down program in progress leads to SHIP. -/
  shipping   : Bool
  /-- R45: the power-down in progress, or PFW_HOLD, follows a line loss with no battery. -/
  noBattSeq  : Bool
  /-- R203, R205: the incident that the end of the power-down program latches as FAULT. -/
  latched    : Option Incident
  /-- R45, R203: PFW_HOLD runs after a WARN, and after a line loss with no battery. -/
  holdWarn   : Bool
  holdSup    : Bool
  /-- R45: PFW_N is asserted for a line loss with the reserve below its floor. -/
  lowReserve : Bool
  /-- R19, R162: requests that hold PFW_N: a WARN, the push-button, the engines. -/
  pfwWarn    : Bool
  pfwPb      : Bool
  pfwEng     : Bool
  /-- R195: source 30 has been raised in this POWER-UP. -/
  puRaised   : Bool
  /-- R208: the engines hold a reset output low (RSTA_N, RSTB_N, RSTC_N). -/
  rstEng     : List Bool
  /-- R146: the engine that the present command executes, the one that the command before executed in the step time in progress, and that step time's sample. -/
  stepNow    : Option Nat
  stepEng    : Option Nat
  samp       : Sampled
  /-- R194: domains still to be switched off by the shutdown in progress, in order. -/
  seqOff     : List Nat
  /-- R56, R57: the power state when AO33 was lost. -/
  lostIn     : Power
  /-- R87: the state entry that waits for a write-back. -/
  entryWaits : Option Power
  /-- R635: the ALIVE monitor has tripped or a cause of R634 holds ALIVE low until the next POWER-UP. -/
  aliveHeld  : Bool
  /-- R633: the level of ALIVE. -/
  alive      : Bool
  /-- R634: ALVSTOP. -/
  alvStop    : Nat
deriving DecidableEq, Repr

/-- What the host port keeps (R110 to R138). -/
structure Reply where
  status : Word
  words  : List Word
  crc    : Option Byte
  rejected : Option Nat
deriving DecidableEq, Repr

/-- R125, R129 to R131: the host interface. -/
structure Hif where
  attn     : Bool
  chg      : Bool
  link     : Bool
  perr     : Bool
  /-- R130: the status bits whose changes set ATTN, as last seen. -/
  seen     : Nat
  /-- R627: the latest second in which a frame was rejected, and the frames rejected in it. -/
  rejSec   : Nat
  rejCnt   : Nat
  /-- The reply to the latest frame, and the bytes that the device sent in it (R116, R117; the model's own output). -/
  reply    : Reply
  out      : List Byte
  /-- R124: the packet most recently popped. -/
  popped   : List (BitVec 32)
deriving DecidableEq, Repr

/-- What an engine waits for (R158, R159, R163). -/
inductive Waiting where
  | time | cond | flag
deriving DecidableEq, Repr

/-- R182: the modes of an engine. -/
inductive EngMode where
  | idle | run | wait (w : Waiting) | stopped
deriving DecidableEq, Repr

/-- One waymark engine (R143 to R149, R164, R169). -/
structure Engine where
  mode    : EngMode
  /-- Offset of the current or last step. -/
  pc      : Nat
  /-- R149: pending triggers, rising. -/
  pend    : List Nat
  /-- R164: the loop counters. -/
  l0      : Nat
  l1      : Nat
  /-- R169: halted for debug. -/
  halted  : Bool
  /-- R169: a STEP is executing a wait. -/
  stepping : Bool
  /-- R149: trigger 1 has pre-empted the running entry: the engine starts at offset 1 next. -/
  pre     : Bool
deriving DecidableEq, Repr

/-- R167: a timer. -/
structure EngTimer where
  running : Bool
  expired : Bool
  /-- Duration in ms. -/
  ms      : Nat
  /-- LF ticks counted when it started (the model's clock for ENG_TIM). -/
  start   : Nat
deriving DecidableEq, Repr

/-- R232, R298: the slew of a setpoint. -/
inductive Slew where
  | none | slewing | settling
deriving DecidableEq, Repr

/-- What a domain keeps beside its registers (R187 to R193, R224, R232). -/
structure Domain where
  /-- R224: soft-start runs. -/
  ss       : Bool
  /-- R188: soft-start has ended since the domain was switched on. -/
  ssEnded  : Bool
  /-- R189: the domain has been power-good since it was switched on. -/
  wasGood  : Bool
  /-- R202: an under-voltage report stands. -/
  uvRep    : Bool
  /-- R202: an over-voltage report stands. -/
  ovRep    : Bool
  /-- R232: the slew in progress. -/
  slew     : Slew
  /-- R208: power-good returned less than 1 ms ago. -/
  fresh    : Bool
  /-- R230, R249: the LF tick at which the current limit last acted (for ILIMACT, the latest 1 ms). -/
  limTick  : Option Nat
deriving DecidableEq, Repr

/-- R555, R556: the window monitors beside their registers, one bit for each monitor. -/
structure Mon where
  /-- A blanking window is in progress that an event with a row of its own has started. -/
  blank : Nat
  /-- A supervision tick has fallen into a blanking window; the sampled monitor judges at its end. -/
  due   : Nat
deriving DecidableEq, Repr

/-- R256: where the sluice stands between open and fully on. -/
inductive Inrush where
  | none | stagger | charging
deriving DecidableEq, Repr

/-- The line, the sluice and the weir (R252 to R269). LIN_STAT is read from here: the line keeps its qualification through states in which V registers return to their reset values (R255). -/
structure Line where
  /-- R252: the line is present. -/
  present  : Bool
  /-- R252: a qualification is in progress (SRCID read or window and debounce). -/
  reading  : Bool
  /-- R252: the window's 20 ms run. -/
  qualifying : Bool
  /-- R253: LINE stands within its window. -/
  inWin    : Bool
  /-- R252: the line is qualified. -/
  qual     : Bool
  /-- R256: how far the inrush has come. -/
  inrush   : Inrush
  /-- R256: the sluice is fully on. -/
  fullOn   : Bool
  /-- R258, R259: latched off after too many failed admissions. -/
  latch    : Bool
  /-- R257: LINE stands above VOV. -/
  ov       : Bool
  /-- R269: CHGOK. -/
  chgOk    : Bool
  /-- R250, R252: the SRCID code as last read. -/
  srcId    : Nat
  /-- R254, R255: LASTOPEN. -/
  lastOpen : Nat
  /-- R258: consecutive failed admissions, 0 to 7. -/
  fails    : Nat
  /-- R258: RETRY_DLY runs. -/
  retry    : Bool
  /-- R260: source 48 has raised in this presence. -/
  implaus  : Bool
  /-- R268, R269: a loss of a fully-on line has not yet been followed by a fully-on sluice. -/
  lost     : Bool
  /-- R268: trigger 4 is due when the weir turns on. -/
  t4Due    : Bool
  /-- R269: the hand-back delay runs. -/
  handback : Bool
  /-- R269: the hand-back waits for the stroke to end, or for the weir to be in AUTO. -/
  hbWait   : Bool
  /-- R268: a worker makes no toll request between a line loss and the sluice fully on. -/
  noToll   : Bool
  /-- R265: the weir is forced off until the sluice is fully on or a reset. -/
  weirHeld : Bool
  /-- R266: reverse blocking has turned the forced-on weir off. -/
  weirBlocked : Bool
deriving DecidableEq, Repr

/-- R308 to R310: a phase that has been detected and waits for its frame edge. -/
structure Detected where
  phase  : Nat
  /-- 1 open, 2 sense, 3 mirrored (DRV_RETCAUSE). -/
  cause  : Nat
  /-- 0 none, 1 common mode, 2 ripple, 3 sum. -/
  test   : Nat
  /-- iout at detection, 0.1 A. -/
  iout   : Nat
deriving DecidableEq, Repr

/-- The DRIVE converter beside its registers (R284 to R313). Control quantities are exact. -/
structure Drive where
  /-- VDRV in mV, as the latest command that carried it said. -/
  vdrv   : Nat
  /-- V(LSRC) in mV, likewise. -/
  vlsrc  : Nat
  /-- R298: the reference of the voltage loop, in V. -/
  vref   : Rat
  /-- R298: the slew runs at the maximum slope. -/
  fast   : Bool
  /-- R303: the slew in progress is upward. -/
  up     : Bool
  /-- R298: a setpoint has retargeted the running soft-start. -/
  ssRet  : Bool
  /-- R291: the integrators and what the next frame needs of this one. -/
  i      : Rat
  d      : Rat
  dc     : Rat
  cin    : Rat
  ePrev  : Rat
  /-- R291: the demand was held at iceil or ifloor in the previous frame. -/
  heldPrev : Bool
  /-- R291: the common duty. -/
  duty   : Rat
  /-- R296: the trims of phases 1 to 6, in duty. -/
  trims  : List Rat
  /-- R285: the phases whose angles are in force (bit k − 1). -/
  angles : Nat
  /-- R296: the balanced phases that the trims belong to. -/
  bal    : Nat
  /-- R306: the phases that are shed from the next frame edge on. -/
  shedNext : Nat
  /-- R285: the device offset in force, in units of 360°/32. -/
  ofs    : Nat
  /-- R308 to R310: the phases that have been detected and wait for their frame edge. -/
  det    : List Detected
  /-- R309, R305: sources 55 and 53 have raised and not been re-armed. -/
  sumRaised : Bool
  ovlRaised : Bool
  /-- R309: consecutive frames in which the sum of the phase currents has agreed with iout. -/
  sumOk : Nat
  /-- R307: shedding is suspended. -/
  shedHold : Bool
  /-- R287: consecutive frames with the phase error below 2°. -/
  lockCnt : Nat
  /-- R288: the sync is lost, and no edge has returned. -/
  syncGone : Bool
  /-- R287: the correction of the frame towards SYNC_IN, in 0.01°. -/
  pull   : Int
  /-- R301: the discharge path is asked for. -/
  disch  : Bool
deriving DecidableEq, Repr

/-- R238: the demagnetisation of LOCK's coil: slow, through the freewheel switch, or by the active clamp at −24 V or −48 V. -/
inductive Demag where
  | freewheel | clamp24 | clamp48
deriving DecidableEq, Repr

/-- LOCK beside its registers (R236, R237). -/
structure Lock where
  /-- V_PI in mV, sampled at the end of the pull-in. -/
  vpi : Nat
  /-- Consecutive periods ended by the short-circuit threshold. -/
  scCount : Nat
  /-- R237, R239: the switch is off within a pull-in or hold period. -/
  idle    : Bool
  /-- R238: how the coil demagnetises, or demagnetised last. -/
  demag   : Demag
deriving DecidableEq, Repr

/-- R622: what raised a source: its detector, an engine step, its force bit. -/
inductive Origin where
  | detector | engine | force
deriving DecidableEq, Repr

/-- R622: a raise waiting for the collector, with the power state at the raise (R662). -/
structure Raise where
  source : Nat
  origin : Origin
  state  : Nat
deriving DecidableEq, Repr

/-- The fault collector (R621 to R650). -/
structure Flt where
  /-- Raised in this command and not yet judged. -/
  raised : List Raise
  /-- R629: raised in BOOT. -/
  held   : List Raise
  /-- R210: the incident in progress. -/
  incident : Option Incident
deriving DecidableEq, Repr

/-- R659, R661: what a packet is made of before its payload is filled in at commit (R655). -/
inductive PktBody where
  | bootReport
  | queueReset (words : Nat) (pkts : List Nat) (lastSeq : Nat)
  | fault (applied configured : Nat) (origin : Origin) (state source cnt band : Nat)
  | engReport (eng off value cls : Nat)
  | pushButton (ms state : Nat)
  | lineEvent (ev lastOpen : Nat)
  | slewDone (dom code : Nat)
  | retirement (phase cause test insvc iout : Nat)
  | charger (prev : Nat)
  | gauge (ev detail cls : Nat)
  | worker (ev addr cls : Nat) (status : BitVec 32)
  | linkEvent (before : Word)
  | thermal (cls : Nat)
  | alarm (n : Nat) (late : Bool) (sec : Nat)
  /-- R654, R662: a stroke summary at its commit, with its class and its payload of the stroke's end. -/
  | stroke (cls : Nat) (words : List (BitVec 32))
deriving DecidableEq, Repr

/-- A committed packet. -/
structure Packet where
  cls   : Nat
  words : List (BitVec 32)
deriving DecidableEq, Repr

/-- R651, R655: a packet opened in this step time: it holds its words, `len` with the header, and commits at the step time's end. -/
structure OpenPkt where
  body : PktBody
  cls  : Nat
  len  : Nat
deriving DecidableEq, Repr

/-- The millrace queue (R651 to R670). -/
structure Mrq where
  /-- Committed packets, in order of commit. -/
  pkts  : List Packet
  /-- R654: the class of the open stroke summary packet. -/
  openCls : Option Nat
  /-- R654: the classes of the stroke summary packets that ended in this step time; their words are held until they commit. -/
  closing : List Nat
  /-- R655: the packets opened in this step time. -/
  opened  : List OpenPkt
  /-- R655: packets committed since the start of the latest BOOT. -/
  seq   : Nat
  /-- R663: read and write pointers of the four classes, in words, and their second copies. -/
  rp    : List Nat
  wp    : List Nat
  rp2   : List Nat
  wp2   : List Nat
  /-- Posted in this command and not yet opened. -/
  outbox : List PktBody
deriving DecidableEq, Repr

/-- R99: what uses the NVM bus, in order of precedence. -/
inductive NvmUse where
  | record | eraseLog | eraseLearned | writeBack | copyB
deriving DecidableEq, Repr

/-- R89: the stages of a write-back. -/
inductive WbStage where
  | none | data (next : Nat) | commit | verify
deriving DecidableEq, Repr

/-- The NVM bus and what the device does on it (R66 to R99). -/
structure Nvm where
  /-- R71: what BOOT awaits: 0 the image, 1 the learned slots, 2 the first-fail log, 3 nothing. -/
  bootStep : Nat
  /-- R67: VNVM is on, and ready for commands. -/
  vnvm     : Bool
  ready    : Bool
  /-- The access in progress. -/
  cur      : Option NvmUse
  /-- Accesses that wait. -/
  waiting  : List NvmUse
  /-- First-fail records queued for programming, oldest first: the 16 bytes of each. -/
  records  : List (List Byte)
  /-- R89: the slot being written (false A, true B) with its contents, and the stage. -/
  wbSlotB  : Bool
  wbSeq    : Nat
  wbData   : List Byte
  wbStage  : WbStage
  /-- R89: the learned set has changed since the write-back in progress began. -/
  wbStale  : Bool
  /-- R90: a condition of R88 has failed since the page program in progress began. -/
  wbCut    : Bool
  /-- R89: the slots as the device knows them: valid, and their SEQ. -/
  slotAok  : Bool
  slotBok  : Bool
  seqA     : Nat
  seqB     : Nat
  /-- R92: AO retention: the set was dirty at a reset or an entry to HIBERNATE or SHIP. -/
  wasDirty : Bool
  /-- R98, R94: programs or erases left of a log erase and of a learned-data erase. -/
  logLeft  : Nat
  ldLeft   : Nat
  /-- R72: image copy B is in use, from the BOOT that chose it until a BOOT uses copy A. -/
  degr     : Bool
  /-- R72: background check of copy B: not started, bytes read so far with the header seen, or done. -/
  cbState  : Nat
  cbBytes  : List Byte
  /-- R84: the runtime windows in force: address, lsb, width, signed, min, max. -/
  windows  : List (Nat × Nat × Nat × Bool × Nat × Nat)
  /-- R87: a write-back waits for the conditions of R88 (retried each second). -/
  wbWanted : Bool
  /-- R87: an occurrence of this command asks for a write-back. -/
  wbDue    : Bool
  /-- R97: the first-fail log as the latest BOOT read it and later records changed it: 128 words. -/
  ring     : List Nat
deriving DecidableEq, Repr

/-- R343, R363: a 1 ms sample: its RTC time, IS in 10 mA, VDRV in 10 mV, the battery current in mA (positive into the battery), BATT in mV, and DRV_STAT.LIMBY at 1. -/
structure Sample where
  rtc  : Nat
  cur  : Int
  vdrv : Nat
  ib   : Rat
  batt : Nat
  lim  : Bool
deriving DecidableEq, Repr

/-- R350: a toll request: tolls, lease in 0.1 s, emergency mark. -/
structure TollReq where
  tolls : Nat
  lease : Nat
  emerg : Bool
deriving DecidableEq, Repr

/-- The stroke logic beside its registers (R343 to R371). -/
structure Stroke where
  /-- The kind as SUMFLG.KIND codes it: 0 normal, 1 emergency, 2 proving, 3 unhinted. -/
  kind    : Nat
  /-- R366: a proving candidate whose guards have held so far. -/
  cand    : Bool
  /-- R349: the boost in force, in codes of 20 mV. -/
  boost   : Nat
  /-- R367: the proving target of the battery phase, as a code of DRV_VSET. -/
  proveTarget : Option Nat
  /-- R352: ts, in RTC units. -/
  ts      : Nat
  /-- Milliseconds from ts to the latest sample. -/
  ms      : Nat
  /-- R353: consecutive samples below ISTART, and what the summary held at the first of them: its ms and the energy. -/
  below   : Nat
  msBelow : Nat
  enBelow : Int
  /-- R352: consecutive samples at or above ISTART while no stroke runs. -/
  above   : Nat
  /-- R362: the energy so far in units of 0.1 uJ (10 mV x 10 mA x 1 ms). -/
  energy  : Int
  /-- R362: the peak sample of the stroke, where it has had one. -/
  peak    : Option Int
  /-- R444: the charge of IS so far, in 10 mA x ms. -/
  charge  : Int
  /-- R363: the points formed so far, latest first, and the samples of the point in progress. -/
  pts     : List Rat
  ptSum   : Int
  ptCnt   : Nat
  /-- R363: what the summary's flags LIMITED, LINELOSS and RETIRE will say. -/
  limited : Bool
  lineLoss : Bool
  retire  : Bool
  /-- R370: the result of the battery phase, as SUMFLG.PRV codes it. -/
  prv     : Nat
  /-- R370: sums of the battery's share and of IS over the battery phase, in 10 mA. -/
  batSum  : Rat
  isSum   : Rat
  /-- The latest three samples, latest first. -/
  hist    : List Sample
  /-- R347: a request for WATCH is held. -/
  heldWatch : Bool
  /-- R350, R353: what the next Wayline turn is to carry. -/
  tollReq : Option TollReq
  tollRel : Bool
  /-- R365: consecutive deviating compared strokes, opening and closing. -/
  devRun  : List Nat
  /-- R357: capture ticks since the previous entry. -/
  since   : Int
  /-- R358: the samples that each stream has taken in its output interval, earliest first. -/
  smp     : List (List Int)
  /-- R359: burst samples still to be written, and whether the next is the first. -/
  burstLeft : Nat
  burstFirst : Bool
  /-- R367: the pre-step sample: BATT in mV and the discharge current in mA, with the impedance column and SOC point at t_s. -/
  pre     : Option (Nat × Rat)
  zCol    : Nat
  zPt     : Nat
deriving DecidableEq, Repr

/-- The charger beside its registers (R394 to R411). -/
structure Charger where
  /-- R411: latched FAULT. -/
  fault    : Bool
  /-- R401: the next start of charging begins a cycle. -/
  cycleDue : Bool
  /-- R401: the charge phase (STATE 3 to 8) when nothing of higher precedence holds. -/
  phase    : Nat
  /-- R406: the timers in half-seconds. -/
  preT     : Nat
  safeT    : Nat
  /-- R410: the LF ticks of the latest stage over-currents, and the stop of 1 s after one. -/
  ocTimes  : List Nat
  ocStop   : Bool
  /-- The stage switches. -/
  sw       : Bool
  /-- R408: the line current it holds from DRIVE, in A. -/
  held     : Rat
  /-- R410: stopped for battery over-voltage. -/
  batOv    : Bool
  /-- R410: V(LSRC) too low, and raised in this qualification. -/
  vinLow   : Bool
  vinRaised : Bool
  /-- R394: the current target's ramp in mA, from each start of switching. -/
  ramp     : Nat
  /-- R409: the watchdog counts; WDF of the status word. -/
  wdRun    : Bool
  wdf      : Bool
  /-- R403: a zone has been chosen since the reset. -/
  zoned    : Bool
  /-- R403: source 76 stands. -/
  ntcShort : Bool
  /-- R401: which loop is in control: the allowance, the throttle or the peak limit; the voltage loop. -/
  loopAllow : Bool
  loopSlow  : Bool
  loopVolt  : Bool
  /-- The charge current last measured, in mA. -/
  ima      : Rat
  /-- R405: CHG_VREG as the image load left it. -/
  vregLoad : Nat
deriving DecidableEq, Repr

/-- R450: where an authentication stands. -/
inductive AuthStage where
  | idle
  /-- The challenge has been written; the response is awaited. -/
  | challenged
  /-- An attempt has failed; the next follows 100 ms later. -/
  | failed
deriving DecidableEq, Repr

/-- R439: the anchor a learning pair began with: its SOC in %, the accumulator there in mA·s, and whether the pair may yield a candidate. -/
structure Anchor where
  soc  : Rat
  acc  : Rat
  good : Bool
deriving DecidableEq, Repr

/-- R443: the charger step in flight: BATT in mV and the discharge current in mA before the stop, whether the first millisecond has passed, the impedance at 100 ms in mΩ, and the
column and SOC point at the stop. -/
structure ChgStep where
  batt : Nat
  cur  : Rat
  past : Bool
  z100 : Option Rat
  col  : Nat
  pt   : Nat
deriving DecidableEq, Repr

/-- The gauge controller beside its registers (R429 to R455). Quantities are exact. -/
structure Gauge where
  /-- R430: the accumulator in mA·s, and its upper words latched by a read of GAU_ACC0 in GAU_ACC1 and GAU_ACC2. -/
  acc     : Rat
  /-- The accumulator at the latest second. -/
  accSec  : Rat
  /-- R431: sum and number of the results of the running second. -/
  secSum  : Rat
  secN    : Nat
  /-- R429: the latest result in mA, and whether it stood at full scale. -/
  last    : Rat
  full    : Bool
  /-- R430: source 87 has raised and the input has not returned within range. -/
  ranged  : Bool
  /-- R432, R435: QREM in mAh, GAU_SOC and SOC_v in %. -/
  qrem    : Rat
  soc     : Rat
  socv    : Rat
  /-- R438: an estimate is due at the next second. -/
  estDue  : Bool
  /-- R446: a value of RESERVE_STROKES has been computed since the controller started. -/
  ran     : Bool
  /-- R451, R453: the gauge was frozen while it used model defaults in the place of the pack's record. -/
  heldDef : Bool
  /-- R439: the anchor that the learning pair in progress began with. -/
  anchor  : Option Anchor
  /-- R440: the partial discharge sum in mAh. -/
  partSum : Rat
  /-- R441: the impedance column in force. -/
  col     : Nat
  /-- R444: peak in A and charge in mAh of the emergency strokes since BOOT. -/
  emPeak  : Rat
  emChg   : Option Rat
  /-- R445: a stroke has ended, and RESERVE_STROKES is due. -/
  resDue  : Bool
  /-- R446: condition 0x85 as last judged. -/
  ok85    : Bool
  /-- R449, R450: an authentication is due at the next state with the gauge controller; the one in progress; its challenge; the attempts made. -/
  authDue : Bool
  stage   : AuthStage
  chal    : List Byte
  /-- R449: RTC seconds of the latest completed authentication and of the latest pass. -/
  authAt  : Option Nat
  passAt  : Option Nat
  /-- R443: the charger step in flight. -/
  chgStep : Option ChgStep
  /-- R86: the cycle count of the previous pack's record. -/
  prevCyc : Nat
deriving DecidableEq, Repr

/-- R604: what waits for the next LF edge: a set or a step with its captured 56 bits, or the cancel of one. -/
inductive RtcAct where
  | set (v : Nat) | step (v : Nat) | cancel
deriving DecidableEq, Repr

/-- The RTC beside its count and its registers (R601 to R606). -/
structure RtcX where
  /-- R602: the trim accumulator. -/
  acc     : Nat
  /-- R604: the action that waits. -/
  pend    : Option RtcAct
  /-- R601: the counters were lost, and RTC_TRIM takes its default at the end of BOOT. -/
  trimDue : Bool
  /-- R603: the read shadows of the host port and of the relay port. -/
  hostSh  : Option Nat
  relaySh : Option Nat
  /-- R606: the match of each alarm at the edge before. -/
  was     : List Bool
deriving DecidableEq, Repr

/-- R522, R523: where an average comes from. -/
inductive AdcSrc where
  | round | engine | host
deriving DecidableEq, Repr

/-- R523, R528: an average: its channel, averaging code, conversions still to be started, and what its conversions gave: the slice and the corrected value. -/
structure AdcAvg where
  key  : Nat
  src  : AdcSrc
  ch   : Nat
  navg : Nat
  left : Nat
  vals : List (Nat × Rat)
  /-- R557: a conversion of channel 46 began within 20 us of a change of the selection or of the selected code. -/
  fresh : Bool
deriving DecidableEq, Repr

/-- What a slice converts: a conversion of an average or of a stream, with the coefficients at its start (R525); a burst, whose second sample of each pair is B's; a calibration step; a
background calibration. -/
inductive SliceJob where
  | conv (key : Nat) (ofs : Int) (gain cb : Int)
  | stream (k : Nat) (ofs : Int) (gain cb : Int)
  | burst (second : Bool)
  /-- R521: a conversion of a burst whose capture has ended meanwhile: it completes, and its result goes nowhere. -/
  | spent
  | cal
  | bg
deriving DecidableEq, Repr

/-- The measurement converter beside its registers (R517 to R533). -/
structure Adc where
  /-- The jobs of slices A, B and S. -/
  slices : List (Option SliceJob)
  /-- R523, R528: the averages in progress. -/
  avgs   : List AdcAvg
  /-- The number that the next average takes, which its conversions carry. -/
  key    : Nat
  /-- R523: queued injected requests, oldest first: channel, averaging code, from the host; and those held behind a calibration key. -/
  inj    : List (Nat × Nat × Bool)
  held   : List (Nat × Nat × Bool)
  /-- R522: the entries of the round in progress still to be issued, and the channels it has converted; the round count to 8 bits. -/
  round  : Option (List Nat)
  conv   : List Nat
  rounds : Nat
  /-- R531: the step that is pending or running is CAL_FULL; the latest means of CAL_ZERO for A and B. -/
  calFull : Bool
  zero   : Option (Rat × Rat)
  /-- R533: the slice whose turn comes next, 0 A to 2 S. -/
  bgNext : Nat
  /-- R519: the next sample of the burst is the second of its pair. -/
  pairB  : Bool
  /-- R529: consecutive results towards a change, per digital window. -/
  winCnt : List Nat
  /-- R527: the read shadows of the two ports: channel and high half. -/
  hostSh  : Option (Nat × Word)
  relaySh : Option (Nat × Word)
deriving DecidableEq, Repr

/-- What thermal management keeps beside its registers (R573 to R581). -/
structure Thm where
  /-- R573: RES_LO of channels 34 to 45 as the regular round converted them last. -/
  res    : List Nat
  /-- R575: each die sensor's own latest reading since BOOT, and its latest valid one, in 0.125 °C. -/
  read   : List (Option Int)
  valid  : List (Option Int)
  /-- R574: consecutive rounds open, short and implausible, and good. -/
  open_  : List Nat
  short  : List Nat
  impl   : List Nat
  good   : List Nat
  /-- R577: a round has converted all eight die sensors since BOOT. -/
  banded : Bool
  /-- R576: source 83 stands, for NTC_P1, NTC_P2 and NTC_AMB. -/
  ntcRaised : List Bool
  /-- R580, R581: RELT has passed while a substitution held THR_ENF. -/
  relaxed : Bool
  /-- R577: the band and the throttle state are held, from THERMAL-OFF on to the first round after the power-up program that follows it. -/
  held : Bool
deriving DecidableEq, Repr

/-- R492, R516: the manager's record of a worker: its state (0 unknown, 1 present, 2 absent, 3 left), its version, its identity, its latest STATUS payload, the consecutive turns without a
valid frame, and whether the running turn has brought one. -/
structure WRec where
  st     : Nat
  w2     : Bool
  ident  : Nat
  status : Nat
  missed : Nat
  heard  : Bool
deriving DecidableEq, Repr

/-- R486, R487: a pending request: size, lease in 0.1 s, emergency mark, and the number of the turn in which it was first received. -/
structure WPend where
  addr  : Nat
  rseq  : Nat
  tolls : Nat
  lease : Nat
  emerg : Bool
  turn  : Nat
deriving DecidableEq, Repr

/-- R486, R488: a ledger entry: the lease in ms, whether it runs (the milestone that carries the GRANT has been sent), and the LF tick of that milestone's origin. -/
structure WGrant where
  addr  : Nat
  rseq  : Nat
  tolls : Nat
  lease : Nat
  runs  : Bool
  since : Nat
deriving DecidableEq, Repr

/-- R476: how far a worker's join has come. -/
inductive JoinPhase where
  /-- Consecutive valid milestones received so far, 0 or 1. -/
  | listen (seen : Nat)
  /-- The turns that still pass before the turn of the JOIN. -/
  | ready (turns : Nat)
  /-- A JOIN was sent: its nonce, whether it offered W2, and the milestones in which the answer may still come. -/
  | sent (nonce : Nat) (w2 : Bool) (left : Nat)
  /-- The random wait. -/
  | waiting
  /-- The second after a refusal. -/
  | refused
deriving DecidableEq, Repr

/-- R490: the even-TURN milestone of a pair: its TURN, seconds 15:0, fraction, and the own RTC at its edge. -/
structure WHalf where
  turn : Nat
  sec  : Nat
  frac : Nat
  own  : Nat
deriving DecidableEq, Repr

/-- R493: a relay in progress: worker, word address, words, and the windows used. -/
structure WRelay where
  addr  : Nat
  word  : Nat
  count : Nat
  used  : Nat
deriving DecidableEq, Repr

/-- The Wayline beside its registers (R464 to R494). -/
structure Way where
  /-- The manager's turns, counted; TURN is this modulo 32. -/
  turns   : Nat
  /-- R492, R516: the manager's records of workers 1 to 31. -/
  recs    : List WRec
  /-- R486: the requests that wait for a grant. -/
  pend    : List WPend
  /-- R486, R488: the ledger of grants. -/
  grants  : List WGrant
  /-- R486: the RELEASE frames of the running turn (address, RSEQ). -/
  rels    : List (Nat × Nat)
  /-- R477: the JOIN frames of the running turn (address, nonce, and the identity of a W2 JOIN). -/
  joins   : List (Nat × Nat × Option Nat)
  /-- R474: answers that wait. -/
  answers : List Answer
  /-- R494: RESET answers: address, identity byte, milestones left. -/
  resets  : List (Nat × Nat × Nat)
  /-- R482: the manager is silent. -/
  silent  : Bool
  /-- R473: seconds at the previous turn's origin. -/
  prevSec : Nat
  /-- The bytes of the latest frame sent (the model's own output). -/
  sent    : List Byte
  /-- R471: consecutive valid milestones, to 2; the TURN of the latest, and the LF tick at which it came; and whether its turn's frame is still to be sent. -/
  consec  : Nat
  lastTurn : Option Nat
  heardAt : Nat
  fresh   : Bool
  /-- R473: VER of the latest milestone. -/
  mgrW2   : Bool
  /-- R488: the latest RSEQ used, the request outstanding, and the lease asked for with each RSEQ, in 0.1 s (0 none). -/
  rseq    : Nat
  out     : Option TollReq
  leases  : List Nat
  /-- R488: the lease of the grant in force in ms, and the LF tick at which it began. -/
  leaseMs : Nat
  leaseAt : Nat
  /-- R483: the grant in force was an admitted worker's when its link controller restarted, and goes on applying. -/
  kept    : Bool
  /-- R475: LEAVE is due in this worker's slot. -/
  leaveDue : Bool
  /-- R476: how far this worker's join has come. -/
  join    : JoinPhase
  /-- R490: the first milestone of a pair. -/
  half    : Option WHalf
  /-- R491: the RTC follows; consecutive pairs more than 1 s off; pairs counted towards 128, with the offset and the manager's time of the first. -/
  following : Bool
  overs    : Nat
  pairs   : Nat
  firstOfs : Int
  firstAt : Nat
  /-- R493: the relay in progress at the manager. -/
  relay   : Option WRelay
  /-- R467: frames rejected in the running second. -/
  errSec  : Nat
  errCnt  : Nat
deriving DecidableEq, Repr

/-! ### The record of each block after a cold start -/

/-- R33 to R39: the supplies right after AO ready in a cold start from LINE at 6.0 V with no battery, VBKUP absent and VIOH present (log entry 2). -/
def Supply.init : Supply :=
  { lineDv := 60, battMv := 0, vbk175 := false, vbk150 := false, retLost := false, rtcLost := false, starting := false, pack := false, shipAo := false, vioh := true,
    fastOn := true, xtalGiven := false }

/-- The state controller in BOOT after a cold start. -/
def Control.init : Control :=
  { request := none, foff := false, forced := false, forceEnded := false, pbFreed := true, pb := .up, mrLow := false, resetting := none, bootFrom := .cold, bootRunning := false, strapDue := false, startHeld := false, thRestarts := 0,
    thFrom := .boot, thWakes := [], onReq := none, wakeTick := none, wakeCfg := 0x00C0#16, shipping := false, noBattSeq := false, latched := none, holdWarn := false, holdSup := false,
    lowReserve := false, pfwWarn := false, pfwPb := false, pfwEng := false, puRaised := false, rstEng := [true, true, true], stepNow := none, stepEng := none, samp := ⟨0, 0, false, false, false, false, false, false⟩, seqOff := [], lostIn := .dead, entryWaits := none,
    aliveHeld := false, alive := false, alvStop := 0 }

/-- R133: P1 selected, nothing to report. -/
def Hif.init : Hif :=
  { attn := false, chg := false, link := false, perr := false, seen := 0, rejSec := 0, rejCnt := 0, reply := ⟨0, [], none, none⟩, out := [], popped := [] }

/-- R182: a stopped engine. -/
def Engine.init : Engine := ⟨.stopped, 0, [], 0, 0, false, false, false⟩

/-- A domain that is off. -/
def Domain.init : Domain := ⟨false, false, false, false, false, .none, false, none⟩

/-- An empty collector. -/
def Flt.init : Flt := ⟨[], [], none⟩

/-- R651, R658: an empty queue. -/
def Mrq.init : Mrq := ⟨[], none, [], [], 0, [0, 0, 0, 0], [0, 0, 0, 0], [0, 0, 0, 0], [0, 0, 0, 0], []⟩

/-- R71: BOOT awaits the image; VNVM is on. -/
def Nvm.init : Nvm :=
  { bootStep := 0, vnvm := true, ready := false, cur := none, waiting := [], records := [], wbSlotB := false, wbSeq := 0, wbData := [], wbStage := .none, wbStale := false, wbCut := false,
    slotAok := false, slotBok := false, seqA := 0, seqB := 0, wasDirty := false, logLeft := 0, ldLeft := 0, degr := false, cbState := 0, cbBytes := [], windows := [], wbWanted := false, wbDue := false, ring := List.replicate 128 0xFFFF }

/-- No line. -/
def Line.init : Line :=
  { present := false, reading := false, qualifying := false, inWin := false, qual := false, inrush := .none, fullOn := false, latch := false, ov := false, chgOk := false, srcId := 0,
    lastOpen := 0, fails := 0, retry := false, implaus := false, lost := false, t4Due := false, handback := false, hbWait := false, noToll := false, weirHeld := false, weirBlocked := false }

/-- LOCK at rest. -/
def Lock.init : Lock := ⟨0, 0, true, .freewheel⟩

/-- DRIVE at rest, with its bus and its line node at 0 V. -/
def Drive.init : Drive :=
  { vdrv := 0, vlsrc := 0, vref := 0, fast := false, up := false, ssRet := false, i := 0, d := 0, dc := 0, cin := 0, ePrev := 0, heldPrev := false, duty := 0, trims := [0, 0, 0, 0, 0, 0], angles := 0, bal := 0, shedNext := 0, ofs := 0, det := [],
    sumRaised := false, ovlRaised := false, sumOk := 0, shedHold := false, lockCnt := 0, syncGone := false, pull := 0, disch := false }

/-- R344: IDLE. -/
def Stroke.init : Stroke :=
  { kind := 0, cand := false, boost := 0, proveTarget := none, ts := 0, ms := 0, below := 0, msBelow := 0, enBelow := 0, above := 0, energy := 0, peak := none, charge := 0, pts := [],
    ptSum := 0, ptCnt := 0, limited := false, lineLoss := false, retire := false, prv := 0, batSum := 0, isSum := 0, hist := [], heldWatch := false, tollReq := none, tollRel := false,
    devRun := [0, 0], since := 0, smp := List.replicate 8 [], burstLeft := 0, burstFirst := false, pre := none, zCol := 0, zPt := 0 }

/-- R401, R411: the charger as BOOT finds it: no FAULT, a cycle due. -/
def Charger.init : Charger :=
  { fault := false, cycleDue := true, phase := 3, preT := 0, safeT := 0, ocTimes := [], ocStop := false, sw := false, held := 0, batOv := false, vinLow := false, vinRaised := false,
    ramp := 0, wdRun := false, wdf := false, zoned := false, ntcShort := false, loopAllow := false, loopSlow := false, loopVolt := false, ima := 0, vregLoad := 0 }

/-- The gauge as BOOT finds it: an estimate and an authentication are due with a battery present (R438, R449). -/
def Gauge.init : Gauge :=
  { acc := 0, accSec := 0, secSum := 0, secN := 0, last := 0, full := false, ranged := false, qrem := 0, soc := 0, socv := 0, estDue := true, ran := false, heldDef := false, anchor := none, partSum := 0,
    col := 0, emPeak := 0, emChg := none, resDue := false, ok85 := false, authDue := true, stage := .idle, chal := [], authAt := none, passAt := none, chgStep := none, prevCyc := 0 }

/-- R601: nothing pending, no shadow; the counters were lost before the latest cold start (log entry 2). -/
def RtcX.init : RtcX := ⟨0, none, true, none, none, [false, false]⟩

/-- An idle converter. -/
def Adc.init : Adc :=
  { slices := [none, none, none], avgs := [], key := 0, inj := [], held := [], round := none, conv := [], rounds := 0, calFull := false, zero := none, bgNext := 0, pairB := false,
    winCnt := [0, 0, 0, 0, 0, 0, 0, 0], hostSh := none, relaySh := none }

/-- R575, R577: no reading since BOOT. -/
def Thm.init : Thm :=
  { res := List.replicate 12 0, read := List.replicate 8 none, valid := List.replicate 8 none, open_ := List.replicate 8 0, short := List.replicate 8 0, impl := List.replicate 8 0, good := List.replicate 8 0,
    banded := false, ntcRaised := [false, false, false], relaxed := false, held := false }

/-- R489: an empty ledger; not admitted, nothing heard. -/
def Way.init : Way :=
  { turns := 0, recs := List.replicate 31 ⟨0, false, 0, 0, 0, false⟩, pend := [], grants := [], rels := [], joins := [], answers := [], resets := [], silent := false, prevSec := 0,
    sent := [], consec := 0, lastTurn := none, heardAt := 0, fresh := false, mgrW2 := false, rseq := 0, out := none, leases := List.replicate 16 0, leaseMs := 0, leaseAt := 0, kept := false, leaveDue := false,
    join := .listen 0, half := none, following := false, overs := 0, pairs := 0, firstOfs := 0, firstAt := 0, relay := none, errSec := 0, errCnt := 0 }

/-- The whole machine. -/
structure State where
  /-- The commands that wait, first in, first out. -/
  pending : List Instr
  /-- The pins as the latest command that carried them said (R165). -/
  pins    : PinSample
  regs    : RegFile
  power   : Power
  sup     : Supply
  ctl     : Control
  hif     : Hif
  eng     : List Engine
  tim     : List EngTimer
  dom     : List Domain
  mon     : Mon
  flt     : Flt
  mrq     : Mrq
  nvm     : Nvm
  line    : Line
  lock    : Lock
  drv     : Drive
  stk     : Stroke
  chg     : Charger
  gau     : Gauge
  /-- R600: the RTC count in units of 1/65,536 s. -/
  rtc     : Nat
  rtcx    : RtcX
  adc     : Adc
  thm     : Thm
  way     : Way
  /-- LF ticks counted by the model since reset, for read-outs of elapsed time. -/
  ticks   : Nat
  /-- How many free values the run has used (the model's own field). -/
  freeCtr : Nat
deriving DecidableEq, Repr

/-- The machine right after reset: in BOOT after a cold start that lost the RTC counters (R42, R55 to R57, R71), every register at its reset word, no command waiting. -/
def State.reset : State :=
  { pending := [], pins := ⟨false, false, false, false, false, false⟩, regs := [], power := .boot, sup := .init, ctl := .init, hif := .init, eng := List.replicate 12 .init, tim := List.replicate 4 ⟨false, false, 0, 0⟩,
    dom := List.replicate 10 .init, mon := ⟨0, 0⟩, flt := .init, mrq := .init, nvm := .init, line := .init, lock := .init, drv := .init, stk := .init, chg := .init, gau := .init, rtc := 0,
    rtcx := .init, adc := .init, thm := .init, way := .init, ticks := 0, freeCtr := 0 }

end Sys2Proof.Machine
end

