-- ==== Sys2Proof/Machine/Ops.lean ====
section
/-! DEFINITION. The named operations over the machine's state: the register file, fields of registers, free values, counters, raises, packets, triggers and CRCs. Every meaning is
written over these. -/
namespace Sys2Proof.Machine

/-! ### The register file -/

/-- Read one word: the listed word, else the reset word of the address. -/
def RegFile.get (m : RegFile) (a : Nat) : Word :=
  match m with
  | [] => resetWord a
  | (b, w) :: r => if a = b then w else RegFile.get r a

/-- Take an address off the list. -/
def RegFile.erase (m : RegFile) (a : Nat) : RegFile := m.filter (fun e => e.1 != a)

/-- Put a pair on the list at its place. -/
def RegFile.insert (m : RegFile) (a : Nat) (v : Word) : RegFile :=
  match m with
  | [] => [(a, v)]
  | (b, w) :: r => if a = b then (a, v) :: r else if a < b then (a, v) :: (b, w) :: r else (b, w) :: RegFile.insert r a v

/-- Write one word, in the canonical form: a word equal to the address's reset word is not listed. -/
def RegFile.set (m : RegFile) (a : Nat) (v : Word) : RegFile :=
  if v = resetWord a then m.erase a else m.insert a v

/-- The canonical form: addresses strictly rising from `lo` on, no word equal to its address's reset word. -/
def RegFile.okFrom (lo : Nat) (m : RegFile) : Bool :=
  match m with
  | [] => true
  | (b, w) :: r => decide (lo ≤ b) && decide (w ≠ resetWord b) && RegFile.okFrom (b + 1) r

/-- The canonical form of a register file. -/
def RegFile.wf (m : RegFile) : Bool := RegFile.okFrom 0 m

/-- Keep only the words whose address `keep` names: every other word returns to its reset word. -/
def RegFile.keep (m : RegFile) (keep : Nat → Bool) : RegFile := m.filter (fun e => keep e.1)

/-- The word stored at `a`. -/
def State.rd (s : State) (a : Nat) : Word := s.regs.get a

/-- Store a word at `a`. -/
def State.wr (s : State) (a : Nat) (w : Word) : State := { s with regs := s.regs.set a w }

/-- The value a word holds in a field. -/
def Fld.get (f : Fld) (w : Word) : Nat := w.toNat / 2 ^ f.lsb % 2 ^ f.width

/-- A word with a field replaced by a value (narrowed to the field). -/
def Fld.put (f : Fld) (w : Word) (v : Nat) : Word :=
  BitVec.ofNat 16 (w.toNat % 2 ^ f.lsb + 2 ^ f.lsb * (v % 2 ^ f.width) + 2 ^ (f.lsb + f.width) * (w.toNat / 2 ^ (f.lsb + f.width)))

/-- Read a field. -/
def State.g (s : State) (f : Fld) : Nat := f.get (s.rd f.addr)

/-- Read a field as a truth value: not zero. -/
def State.b (s : State) (f : Fld) : Bool := s.g f != 0

/-- Write a field. -/
def State.p (s : State) (f : Fld) (v : Nat) : State := s.wr f.addr (f.put (s.rd f.addr) v)

/-- Write a one-bit field. -/
def State.pb (s : State) (f : Fld) (v : Bool) : State := s.p f v.toNat

/-- Read a word as a natural number. -/
def State.rn (s : State) (a : Nat) : Nat := (s.rd a).toNat

/-- Store a natural number, narrowed to the word. -/
def State.wn (s : State) (a v : Nat) : State := s.wr a (BitVec.ofNat 16 v)

/-- Read a word as a two's complement number (R11). -/
def State.ri (s : State) (a : Nat) : Int := (s.rd a).toInt

/-- Store an integer as a two's complement word. -/
def State.wi (s : State) (a : Nat) (v : Int) : State := s.wr a (BitVec.ofInt 16 v)

/-- Bit k of the word at a. -/
def State.bit (s : State) (a k : Nat) : Bool := (s.rn a).testBit k

/-- Set or clear bit k of the word at a. -/
def State.pbit (s : State) (a k : Nat) (v : Bool) : State := s.pb ⟨a, k, 1⟩ v

/-- A count word that saturates at 65,535 and never wraps (R209, R340, R650 and their like). -/
def State.inc (s : State) (a : Nat) : State := if s.rn a < 65535 then s.wn a (s.rn a + 1) else s

/-- Put a run of words from `a` on. -/
def State.wrs (s : State) (a : Nat) (ws : List Word) : State :=
  match ws with
  | [] => s
  | w :: r => (s.wr a w).wrs (a + 1) r

/-- A 32-bit quantity: low half at `a`, high half at `a + 1` (R121). -/
def State.r32 (s : State) (a : Nat) : Nat := s.rn a + 65536 * s.rn (a + 1)

/-- Store a 32-bit quantity likewise. -/
def State.w32 (s : State) (a v : Nat) : State := (s.wn a (v % 65536)).wn (a + 1) (v / 65536)

/-- Apply a change where a condition holds. -/
def State.when (s : State) (c : Bool) (f : State → State) : State := if c then f s else s

/-- Apply a change for each member of a list, in order. -/
def State.each {α : Type} (s : State) (l : List α) (f : State → α → State) : State := l.foldl f s

/-! ### Free values -/

/-- The next free value, below `n`, and the state with the counter advanced. -/
def State.free (s : State) (n : Nat) : Nat × State := (Config.freeNat s.freeCtr % n, { s with freeCtr := s.freeCtr + 1 })

/-- The next open choice. -/
def State.choice (s : State) : Bool × State := (Config.freeBit s.freeCtr, { s with freeCtr := s.freeCtr + 1 })

/-! ### Arithmetic the rules share -/

/-- A value limited to a range. -/
def clamp (lo hi v : Int) : Int := if v < lo then lo else if hi < v then hi else v

/-- Saturation of a natural number. -/
def sat (hi v : Nat) : Nat := if hi < v then hi else v

/-- Division rounded to the nearest whole number, halves upward (a divisor of zero gives zero). -/
def divNear (a b : Int) : Int := (2 * a + b) / (2 * b)

/-- `a / b` rounded to the nearest whole number; of two equally near ones the spec names neither, and Config.tieUp takes one. -/
def divTie (a : Int) (b : Nat) : Int :=
  let q := (2 * a + b) / (2 * b)
  if (2 * a + b) % (2 * b) = 0 then (if Config.tieUp a b then q else q - 1) else q

/-- Fields packed into a 32-bit word: (lsb, width, value). -/
def pack32 (fs : List (Nat × Nat × Nat)) : BitVec 32 :=
  BitVec.ofNat 32 (fs.foldl (fun acc f => acc + 2 ^ f.1 * (f.2.2 % 2 ^ f.2.1)) 0)

/-- The four bytes of an SPI transfer of a word, high byte first (R114). -/
def wordBytes (w : Word) : List Byte := [BitVec.ofNat 8 (w.toNat / 256), BitVec.ofNat 8 w.toNat]

/-- One bit of the CRC-8 of R118: polynomial 0x2F. -/
def crc8Bit (c : Nat) : Nat := if c < 128 then 2 * c else (2 * c % 256).xor 0x2F

/-- One byte of it, most significant bit first. -/
def crc8Byte (c b : Nat) : Nat := crc8Bit (crc8Bit (crc8Bit (crc8Bit (crc8Bit (crc8Bit (crc8Bit (crc8Bit (c.xor b))))))))

/-- R118: the CRC-8 of a run of bytes: polynomial 0x2F, initial value 0xFF. -/
def crc8 (bs : List Byte) : Byte := BitVec.ofNat 8 (bs.foldl (fun c b => crc8Byte c b.toNat) 0xFF)

/-- One bit of the CRC-32 of R75: the reflected polynomial of 0x04C1_1DB7. -/
def crc32Bit (c : Nat) : Nat := if c % 2 = 1 then (c / 2).xor 0xEDB88320 else c / 2

/-- One byte of it. -/
def crc32Byte (c b : Nat) : Nat := crc32Bit (crc32Bit (crc32Bit (crc32Bit (crc32Bit (crc32Bit (crc32Bit (crc32Bit (c.xor b))))))))

/-- R75: the IEEE 802.3 CRC-32 of a run of bytes. -/
def crc32 (bs : List Byte) : Nat := (bs.foldl (fun c b => crc32Byte c b.toNat) 0xFFFFFFFF).xor 0xFFFFFFFF

/-- A little-endian number of bytes (R74). -/
def leNat (bs : List Byte) : Nat := bs.foldr (fun b acc => b.toNat + 256 * acc) 0

/-- The n little-endian bytes of a number. -/
def leBytes (n v : Nat) : List Byte :=
  match n with
  | 0 => []
  | k + 1 => BitVec.ofNat 8 v :: leBytes k (v / 256)

/-! ### States and their groups -/

/-- R144: the states in which engines run. -/
def State.running (s : State) : Bool := s.power = .powerUp || s.power = .run || s.power = .watch || s.power = .powerDown

/-- R33, R42: AO has a supply, so registers exist. -/
def State.aoOn (s : State) : Bool := !(s.power = .dead || s.power = .vbkupOnly || s.power = .ship)

/-- R36, R42: the host interface is alive. -/
def State.hostAlive (s : State) : Bool := s.aoOn && s.sup.vioh

/-! ### Domains -/

/-- Domain n's record (1 to 10). -/
def State.domAt (s : State) (n : Nat) : Domain := s.dom.getD (n - 1) ⟨false, false, false, false, false, .none, false, none⟩

/-- Change domain n's record. -/
def State.setDom (s : State) (n : Nat) (f : Domain → Domain) : State := { s with dom := s.dom.modify (n - 1) f }

/-- Domain n is commanded on. -/
def State.cmdOn (s : State) (n : Nat) : Bool := s.b (F.DOM_STAT_CMDON n)

/-- Domain n is power-good (R188); an unused domain never is (R186). -/
def State.pg (s : State) (n : Nat) : Bool := s.b (F.DOM_STAT_PG n)

/-- The ten domain numbers. -/
def domains : List Nat := [1, 2, 3, 4, 5, 6, 7, 8, 9, 10]

/-- R216: the power-good of every domain in one word. -/
def State.pgSum (s : State) : Nat := domains.foldl (fun acc n => acc + 2 ^ (n - 1) * (s.pg n).toNat) 0

/-- R191: the weir conducts (WEIR_STAT.COND). -/
def State.weirOn (s : State) : Bool := s.b F.WEIR_STAT_COND

/-! ### Engines -/

/-- Engine k. -/
def State.engAt (s : State) (k : Nat) : Engine := s.eng.getD k ⟨.stopped, 0, [], 0, 0, false, false, false⟩

/-- Change engine k. -/
def State.setEng (s : State) (k : Nat) (f : Engine → Engine) : State := { s with eng := s.eng.modify k f }

/-- Put a number into a rising list without repeating it. -/
def insertOnce (t : Nat) (l : List Nat) : List Nat :=
  match l with
  | [] => [t]
  | u :: r => if t = u then u :: r else if t < u then t :: u :: r else u :: insertOnce t r

/-- R149: trigger t reaches an engine, which in the step time in progress has its step yet to execute where `due`. Trigger 1 pre-empts a running entry: a pending trigger 0 is discarded, a
step in progress completes, a wait is abandoned at once, and the engine starts at offset 1 next. A halted engine keeps it pending (R169). Any other trigger becomes pending; a repeat is
discarded. Until it starts, a pre-empted engine shows IDLE and the offset it had come to (DESIGN CHOICE, log entry 33). -/
def trigEngine (t : Nat) (due : Bool) (e : Engine) : Engine :=
  let pend := { e with pend := insertOnce t e.pend }
  let pre := { e with pend := insertOnce 1 (e.pend.filter (· != 0)), pre := true }
  match e.mode with
  | .stopped => e
  | .idle => pend
  | .run => if t = 1 && !e.halted then (if due then pre else { pre with mode := .idle }) else pend
  | .wait _ => if t = 1 && !e.halted then { pre with mode := .idle, stepping := false } else pend

/-- R146, R149: engine k has its step yet to execute in the step time in progress: an engine of a lower number executes. -/
def State.stepDue (s : State) (k : Nat) : Bool := match s.ctl.stepNow with | some j => decide (j < k) | none => false

/-- R147 to R149: issue trigger t to engine k. -/
def State.trig (s : State) (k t : Nat) : State := s.setEng k (trigEngine t (s.stepDue k))

/-- R43, R148: RUN is entered from WATCH; SYS receives trigger 3. -/
def State.goRun (s : State) : State := ({ s with power := .run } : State).trig 0 3

/-- R43, R148: WATCH is entered; SYS receives trigger 2. -/
def State.goWatch (s : State) : State := ({ s with power := .watch } : State).trig 0 2

/-! ### Raises and packets -/

/-- R622: a source is raised; the collector judges it when the command's own effects are done. -/
def State.raiseBy (s : State) (o : Origin) (n : Nat) : State :=
  { s with flt := { s.flt with raised := s.flt.raised ++ [⟨n, o, s.power.code⟩] } }

/-- R622: a detector raises its source. -/
def State.raise (s : State) (n : Nat) : State := s.raiseBy .detector n

/-- R655: a packet to be committed within this step time. -/
def State.post (s : State) (b : PktBody) : State := { s with mrq := { s.mrq with outbox := s.mrq.outbox ++ [b] } }

/-- R130: CHG sets, and ATTN with it. -/
def State.setChg (s : State) : State := { s with hif := { s.hif with chg := true, attn := true } }

/-- R130: LINK sets, and ATTN with it. -/
def State.setLink (s : State) : State := { s with hif := { s.hif with link := true, attn := true } }

/-- R621: the enable bit of source n. -/
def State.srcEn (s : State) (n : Nat) : Bool := s.bit (A.FLT_EN (n / 16)) (n % 16)

/-- R621: the class of source n. -/
def State.srcCls (s : State) (n : Nat) : Nat := s.g ⟨A.FLT_CLS (n / 8), 2 * (n % 8), 2⟩

/-! ### Time -/

/-- R600, R611: the whole seconds of the RTC. -/
def State.rtcSec (s : State) : Nat := s.rtc / 65536

/-- The fraction of the RTC. -/
def State.rtcFrac (s : State) : Nat := s.rtc % 65536

/-- Milliseconds of LF ticks (32.768 to the millisecond, R167). -/
def ticksMs (t : Nat) : Nat := t * 1000 / 32768

end Sys2Proof.Machine
end

