-- ==== Sys2Proof/Machine/Rtc.lean ====
section
/-! DEFINITION. The real-time clock (17_rtc.md): the count and its trim, the read shadows, set and step, the alarms, and the time stamp of the switch to VBKUP. -/
namespace Sys2Proof.Machine

/-- Change the RTC's record. -/
def State.setRtc (s : State) (f : RtcX → RtcX) : State := { s with rtcx := f s.rtcx }

/-- R600: the count's modulus. -/
def rtcMod : Nat := 72057594037927936

/-- R614: the trim in ppm, signed. -/
def State.trim (s : State) : Int :=
  let v := s.rn A.RTC_TRIM % 512
  if v < 256 then v else (v : Int) - 512

/-- R602: one edge: the increment of the count, and the accumulator. A trim code outside ±250 is reserved, and what it adds is open. -/
def State.trimEdge (s : State) : Nat × State :=
  let t := s.trim
  if 250 < t.natAbs then let (f, s) := s.free 3; (2 * f, s)
  else
    let acc := s.rtcx.acc + t.natAbs
    if 1000000 ≤ acc then (if 0 < t then 4 else 0, s.setRtc (fun r => { r with acc := acc - 1000000 })) else (2, s.setRtc (fun r => { r with acc := acc }))

/-! ### Alarms (R606 to R608) -/

/-- R606: the compare value of alarm a over the 54 compared bits: seconds, then fraction bits 15:2. -/
def State.almCmp (s : State) (a : Nat) : Nat :=
  let b := A.RTC_A0 (8 * a)
  ((s.rn b + 65536 * s.rn (b + 1) + 4294967296 * (s.rn (b + 2) % 256)) * 65536 + s.rn (b + 3)) / 4

/-- R606: its mask: 1 ignores a bit. -/
def State.almMsk (s : State) (a : Nat) : Nat :=
  let b := A.RTC_A0 (8 * a)
  ((s.rn (b + 4) + 65536 * s.rn (b + 5) + 4294967296 * (s.rn (b + 6) % 256)) * 65536 + s.rn (b + 7)) / 4

/-- The 54 bits that alarms compare. -/
def almAll : Nat := 18014398509481983

/-- R606: the match over the compared bits; an alarm with every bit masked never matches. -/
def almMatches (cmp msk x : Nat) : Bool := msk ≠ almAll && (x.xor cmp).land (almAll.xor msk) = 0

/-- R606: alarm a matches a count. -/
def State.almMatch (s : State) (a count : Nat) : Bool := almMatches (s.almCmp a) (s.almMsk a) (count / 4)

/-- R618: alarm a is judged. -/
def State.almEn (s : State) (a : Nat) : Bool := s.bit A.RTC_ALMCFG a

/-- R606: the present match becomes the starting state of alarm a. -/
def State.almArm (s : State) (a : Nat) : State := s.setRtc (fun r => { r with was := r.was.set a (s.almMatch a s.rtc) })

/-- The smallest number at or above x that matches: x itself, or the one that keeps the bits of x above i, raises bit i, and takes the pattern with masked bits 0 below. -/
def nextMatch (cmp msk x : Nat) : Option Nat :=
  if almMatches cmp msk x then some x
  else
    (List.range 54).foldl (fun found i =>
      match found with
      | some y => some y
      | none =>
        let hi := x / 2 ^ (i + 1) * 2 ^ (i + 1)
        let y := hi + 2 ^ i + (cmp % 2 ^ i).land (almAll.xor msk)
        if !x.testBit i && almMatches cmp msk y then some y else none) none

/-- How many low bits of a mask are ones in a row. -/
def lowOnes (m fuel : Nat) : Nat :=
  match fuel with
  | 0 => 0
  | f + 1 => if m % 2 = 1 then 1 + lowOnes (m / 2) f else 0

/-- R607: the first count after c0 at which the match becomes true, on a line without the wrap: a match whose low masked bits are all 0. -/
def nextStart (cmp msk c0 : Nat) : Option Nat :=
  let g := 2 ^ lowOnes msk 54
  (nextMatch cmp msk ((c0 / 4 / g + 1) * g)).map (4 * ·)

/-- R607: what a jump from c0 forward by d does to an alarm: none, some false (fires), some true (fires late). -/
def jumpFires (cmp msk : Nat) (was : Bool) (c0 d : Nat) : Option Bool :=
  let c1 := c0 + d
  if almMatches cmp msk (c0 / 4) && !was then some (d ≠ 0)
  else
    let first := match nextStart cmp msk c0 with
      | some y => if y < rtcMod then some y else none
      | none => none
    -- Past the wrap the line begins again at zero.
    let first := match first with
      | some y => some y
      | none => if c1 < rtcMod then none else if almMatches cmp msk 0 then some rtcMod else (nextStart cmp msk 0).map (· + rtcMod)
    match first with
    | some y => if y < c1 then some true else if y = c1 then some false else none
    | none => none

/-- R608: alarm a fires: its flags, and its packet in the states of the rule. -/
def State.almFire (s : State) (a : Nat) (late : Bool) : State :=
  let s := s.pbit A.RTC_ALMSTAT a true
  let s := s.when late (·.pbit A.RTC_ALMSTAT (2 + a) true)
  if s.bit A.RTC_ALMCFG (2 + a) && (s.running || s.power = .fault) then s.post (.alarm a late s.rtcSec) else s

/-- R606: the alarms that fire at an edge at which the count moved on by its increment. -/
def State.almEdge (s : State) : List Nat × State :=
  [0, 1].foldl (fun (l, s) a =>
    if s.aoOn && s.almEn a then
      let m := s.almMatch a s.rtc
      let fire := m && !(s.rtcx.was.getD a false)
      let s := s.setRtc (fun r => { r with was := r.was.set a m })
      if fire then (l ++ [a], s.almFire a false) else (l, s)
    else (l, s)) ([], s)

/-- R607: the alarms that fire at a jump from c0 to the present count; `fwd` is the distance where the count went forward. -/
def State.almJump (s : State) (c0 : Nat) (fwd : Option Nat) : List Nat × State :=
  [0, 1].foldl (fun (l, s) a =>
    if s.aoOn && s.almEn a then
      let m := s.almMatch a s.rtc
      let f := match fwd with
        | some d => jumpFires (s.almCmp a) (s.almMsk a) (s.rtcx.was.getD a false) c0 d
        | none => if m && !s.almMatch a c0 then some false else none
      let s := s.setRtc (fun r => { r with was := r.was.set a m })
      match f with
      | some late => (l ++ [a], s.almFire a late)
      | none => (l, s)
    else (l, s)) ([], s)

/-! ### The edge (R600, R602, R604) -/

/-- R604, R605: the pending action is discarded. -/
def State.rtcDiscard (s : State) : State := (s.setRtc (fun r => { r with pend := none })).p F.RTC_STAT_PEND 0

/-- R604: the pending set or step is applied at this edge. -/
def State.rtcApply (s : State) (step : Bool) (v : Nat) : List Nat × State :=
  let done (s : State) : State := ((s.p F.RTC_STAT_PEND 0).p F.RTC_STAT_TSET 1).p F.RTC_STAT_STEPD 1
  let acc0 := s.rtcx.acc
  let (inc, s) := s.trimEdge
  let c0 := (s.rtc + inc) % rtcMod
  let s := s.setRtc (fun r => { r with pend := none })
  if step then
    let c1 := (c0 + v) % rtcMod
    let s := done { s with rtc := c1 }
    s.almJump c0 (if v < rtcMod / 2 then some v else none)
  else
    let c1 := v % rtcMod
    let s := done { s.setRtc (fun r => { r with acc := acc0 }) with rtc := c1 }
    s.almJump c0 (if c0 ≤ c1 then some (c1 - c0) else none)

/-- R600, R602, R604: one rising LF edge; the alarms that fire at it. The model's count of LF ticks advances. -/
def State.lfEdge (s : State) : List Nat × State :=
  let s := { s with ticks := s.ticks + 1 }
  match s.rtcx.pend with
  | some (.step v) => s.rtcApply true v
  | some (.set v) => s.rtcApply false v
  | _ =>
    let s := s.when s.rtcx.pend.isSome State.rtcDiscard
    let (inc, s) := s.trimEdge
    ({ s with rtc := (s.rtc + inc) % rtcMod } : State).almEdge

/-- R604, R612: the captured staging words as one 56-bit number, fraction bit 0 taken as 0. -/
def State.staged (s : State) : Nat :=
  (s.rn (A.RTC_STG 0) + 65536 * s.rn (A.RTC_STG 1) + 4294967296 * (s.rn (A.RTC_STG 2) % 256)) * 65536 + s.rn (A.RTC_STG 3) / 2 * 2

/-- R604, R605: a set or a step key: it replaces what waits. -/
def State.rtcCapture (s : State) (step : Bool) : State :=
  (s.setRtc (fun r => { r with pend := some (if step then .step s.staged else .set s.staged) })).p F.RTC_STAT_PEND 1

/-- R604: the cancel key: what waits is discarded at the next LF edge; with nothing waiting it does nothing. -/
def State.rtcCancel (s : State) : State := s.when s.rtcx.pend.isSome (·.setRtc (fun r => { r with pend := some .cancel }))

/-- R491, R605: a milestone step by a signed offset in RTC units; discarded while a key's action is pending. -/
def State.rtcMilestone (s : State) (off : Int) : State :=
  match s.rtcx.pend with
  | some _ => s
  | none => (s.setRtc (fun r => { r with pend := some (.step ((off / 2 * 2) % (rtcMod : Int)).toNat) })).p F.RTC_STAT_PEND 1

/-! ### Reading (R603) -/

/-- R603: which of the two ports reads. -/
inductive Port where
  | host | relay
deriving DecidableEq, Repr

/-- The port's shadow. -/
def State.shadow (s : State) (p : Port) : Option Nat := match p with | .host => s.rtcx.hostSh | .relay => s.rtcx.relaySh

/-- Set it. -/
def State.setShadow (s : State) (p : Port) (v : Option Nat) : State :=
  match p with
  | .host => s.setRtc (fun r => { r with hostSh := v })
  | .relay => s.setRtc (fun r => { r with relaySh := v })

/-- R611: word k of a count: seconds 15:0, 31:16, 39:32, then the fraction. -/
def rtcWord (c k : Nat) : Nat :=
  match k with
  | 0 => c / 65536 % 65536
  | 1 => c / 4294967296 % 65536
  | 2 => c / 281474976710656 % 256
  | _ => c % 65536

/-- R603: a read of word k through a port. -/
def State.rtcRead (s : State) (p : Port) (k : Nat) : Nat × State :=
  match k with
  | 0 => (rtcWord s.rtc 0, s.setShadow p (some s.rtc))
  | 3 => (rtcWord ((s.shadow p).getD s.rtc) 3, s.setShadow p none)
  | k => (rtcWord ((s.shadow p).getD s.rtc) k, s)

/-! ### Loss and the time stamp (R601, R610) -/

/-- R601, R614, R615, R696: the counters are lost: the count restarts from zero once the island is powered again, and RTC_TRIM reads its default until the end of the BOOT that follows. -/
def State.rtcLose (s : State) : State :=
  let s := { s with rtc := 0, rtcx := { s.rtcx with acc := 0, pend := none, trimDue := true } }
  (s.wn A.RTC_STAT 0).wn A.RTC_TRIM 0

/-- R610: the first switch-over to VBKUP is stamped. -/
def State.bktsCapture (s : State) : State :=
  if s.bit (A.RTC_BKTS 2) 15 then s
  else
    let c := s.rtc
    (((s.wn (A.RTC_BKTS 0) (rtcWord c 0)).wn (A.RTC_BKTS 1) (rtcWord c 1)).wn (A.RTC_BKTS 2) (32768 + rtcWord c 2)).wn (A.RTC_BKTS 3) (rtcWord c 3)

end Sys2Proof.Machine
end

