-- ==== Sys2Proof/Machine/Sha.lean ====
section
/-! DEFINITION. HMAC-SHA-256 (R450), the function with which the device judges a pack's response. The spec names it and does not print it: SHA-256 and HMAC are written here from what they are known to be (PRESUMED, log
entry 93), the constants as the roots of primes that they stand for, and a block as 64 turns of a window of sixteen schedule words. -/
namespace Sys2Proof.Machine

/-- The first 64 primes. -/
def hashPrimes : List Nat := (List.range 312).filter (fun n => decide (2 ≤ n) && (List.range n).all (fun d => decide (d < 2) || decide (n % d ≠ 0)))

/-- The first 32 bits of the fraction of the k-th root of n, for a root below 16: bit by bit, the largest x with x ^ k at most n × 2 ^ (32 k). -/
def rootFraction (k n : Nat) : BitVec 32 :=
  BitVec.ofNat 32 ((List.range 36).foldl (fun x i => if (x + 2 ^ (35 - i)) ^ k ≤ n * 2 ^ (32 * k) then x + 2 ^ (35 - i) else x) 0)

/-- The constant of each turn: from the cube roots of the primes. -/
def turnConstants : List (BitVec 32) := hashPrimes.map (rootFraction 3)

/-- The eight words that a hash carries from block to block. -/
structure Chain where
  a : BitVec 32
  b : BitVec 32
  c : BitVec 32
  d : BitVec 32
  e : BitVec 32
  f : BitVec 32
  g : BitVec 32
  h : BitVec 32
deriving DecidableEq, Repr

/-- Eight numbers as a chain; a missing one is 0. -/
def Chain.ofList (l : List (BitVec 32)) : Chain := ⟨l.getD 0 0, l.getD 1 0, l.getD 2 0, l.getD 3 0, l.getD 4 0, l.getD 5 0, l.getD 6 0, l.getD 7 0⟩

/-- The words of a chain. -/
def Chain.toList (x : Chain) : List (BitVec 32) := [x.a, x.b, x.c, x.d, x.e, x.f, x.g, x.h]

/-- What a hash starts from: the square roots of the first eight primes. -/
def chainStart : Chain := Chain.ofList ((hashPrimes.take 8).map (rootFraction 2))

/-- A word rotated right by each of three amounts, the three combined. -/
def spin3 (x : BitVec 32) (i j k : Nat) : BitVec 32 := x.rotateRight i ^^^ (x.rotateRight j ^^^ x.rotateRight k)

/-- A word rotated right by two amounts and shifted right by a third, the three combined. -/
def spin2 (x : BitVec 32) (i j k : Nat) : BitVec 32 := x.rotateRight i ^^^ (x.rotateRight j ^^^ (x >>> k))

/-- One turn: the chain takes its constant and the word at the head of the window, and the window moves on by one word. -/
def hashTurn (x : Chain × List (BitVec 32)) (k : BitVec 32) : Chain × List (BitVec 32) :=
  let (v, win) := x
  let word (i : Nat) : BitVec 32 := win.getD i 0
  let pick := v.g ^^^ (v.e &&& (v.f ^^^ v.g))
  let most := (v.a &&& v.b) ||| (v.c &&& (v.a ||| v.b))
  let x := v.h + k + word 0 + pick + spin3 v.e 6 11 25
  let y := most + spin3 v.a 2 13 22
  (⟨x + y, v.a, v.b, v.c, v.d + x, v.e, v.f, v.g⟩, win.drop 1 ++ [spin2 (word 14) 17 19 10 + word 9 + spin2 (word 1) 7 18 3 + word 0])

/-- The 32-bit words of a run of bytes, each with its high byte first. -/
def words32 (bs : List Byte) : List (BitVec 32) :=
  match bs with
  | p :: q :: r :: t :: rest => (p ++ q ++ r ++ t) :: words32 rest
  | _ => []

/-- The blocks of sixteen words, one after another, enter the chain. -/
def hashBlocks (v : Chain) (n : Nat) (ws : List (BitVec 32)) : Chain :=
  match n with
  | 0 => v
  | m + 1 =>
    let t := (turnConstants.foldl hashTurn (v, ws.take 16)).1
    hashBlocks (Chain.ofList ((v.toList.zip t.toList).map (fun p => p.1 + p.2))) m (ws.drop 16)

/-- A number in n bytes, the highest first. -/
def highFirst (n v : Nat) : List Byte := (leBytes n v).reverse

/-- SHA-256 of a message: it is closed by a one bit, zeros and its length in bits, in whole blocks of 64 bytes. -/
def sha256 (m : List Byte) : List Byte :=
  let blocks := (m.length + 72) / 64
  let filled := m ++ 0x80#8 :: List.replicate (64 * blocks - m.length - 9) 0#8
  (hashBlocks chainStart blocks (words32 (filled ++ highFirst 8 (8 * m.length)))).toList.flatMap (fun w => highFirst 4 w.toNat)

/-- A key of at most 64 bytes as a block, each byte combined with a pad byte. -/
def padded (key : List Byte) (pad : Byte) : List Byte := (List.range 64).map (fun i => key.getD i 0 ^^^ pad)

/-- HMAC-SHA-256 of a message with a key of at most 64 bytes. -/
def hmacSha256 (key m : List Byte) : List Byte := sha256 (padded key 0x5C#8 ++ sha256 (padded key 0x36#8 ++ m))

/-- R450: the fused key K, byte 0 first. -/
def packKey : List Byte := (List.range 16).map Config.keyByte

end Sys2Proof.Machine
end

