-- ==== Sys2Proof/Machine/Views.lean ====
section
/-! DEFINITION. Words that are read from the device's condition and that no register stores: PFW_N and DEGR, the gauge's status, and the Wayline's status, limit, ledger and records. -/
namespace Sys2Proof.Machine

/-! ### Levels of the status word (R19, R129) -/

/-- R19, R45, R54, R162, R203: PFW_N is asserted: in FAULT, or in a state with engines while a request stands. -/
def State.pfw (s : State) : Bool :=
  s.power = .fault || (s.running && (s.ctl.pfwWarn || s.ctl.pfwPb || s.ctl.pfwEng || s.ctl.lowReserve || s.ctl.noBattSeq))

/-- R129: DEGR: a phase retired or mirrored, a sensor substituted, or image copy B in use (R72). -/
def State.degr (s : State) : Bool := s.rn A.DRV_RETCAUSE ≠ 0 || s.g F.THM_SFAIL_SUBST ≠ 0 || s.nvm.degr

/-- R130: the live status bits whose changes set ATTN: FAULT, PFW, THR_REQ, THR_ENF, WDF, DEGR, at their places in the status word. -/
def State.liveBits (s : State) : Nat :=
  16384 * (s.power = .fault : Bool).toNat + 8192 * s.pfw.toNat + 4096 * s.g F.THM_STAT_THRREQ + 2048 * s.g F.THM_STAT_THRENF + 4 * s.chg.wdf.toNat + 2 * s.degr.toNat

/-- R130: a change of a live status bit sets ATTN. -/
def State.statusFollow (s : State) : State :=
  if s.liveBits = s.hif.seen then s else let v := s.liveBits; { s with hif := { s.hif with seen := v, attn := true } }

/-! ### Identity (R139, R140) -/

/-- R139: the lot number, 36 bits. -/
def idLot : Nat := (Config.idFuse 0).toNat + 65536 * (Config.idFuse 1).toNat + 4294967296 * ((Config.idFuse 2).toNat % 16)

/-- R139: the wafer, 1 to 25. -/
def idWafer : Nat := (Config.idFuse 3).toNat % 25 + 1

/-- R140: the unique identity: lot, wafer, die column, die row and the fuse checksum. -/
def uid : Nat :=
  268435456 * idLot + 8388608 * idWafer + 32768 * ((Config.idFuse 4).toNat % 256) + 128 * ((Config.idFuse 5).toNat % 256) + (Config.idFuse 6).toNat % 128

/-- R139: word a of the fused identity registers, 2 to 11. -/
def idWord (a : Nat) : Nat :=
  match a with
  | 2 => idLot % 65536
  | 3 => idLot / 65536 % 65536
  | 4 => idLot / 4294967296
  | 5 => idWafer
  | 6 => (Config.idFuse 4).toNat % 256
  | 7 => (Config.idFuse 5).toNat % 256
  | _ => uid / 65536 ^ (a - 8) % 65536

/-! ### The gauge's status (R455) -/

/-- R451, R453: the gauge uses model defaults in the place of the pack's record: the pack has failed authentication; a frozen gauge holds what it used. -/
def State.onDefaults (s : State) : Bool := if s.b F.GAU_STAT_FROZEN then s.gau.heldDef else s.g F.GAU_STAT_AUTH = 3

/-- R447: the two-byte field at an even offset of the battery model. -/
def State.modelWord (s : State) (off : Nat) : Nat := s.rn (A.GAU_MODEL (off / 2))

/-- R432, R451, R457: the capacity of the pack in use, in mAh. -/
def State.fcc (s : State) : Nat := if s.onDefaults then s.modelWord 2 else s.rn A.GAU_FCC

/-- R448, R456: model defaults are in use: in the place of the record, or because the current record is not valid. -/
def State.defaultsUsed (s : State) : Bool := s.onDefaults || !s.bit A.GAU_PFLG 0

/-- R15, R696: the power states in which V contents have left their reset words and stand: those with engines, FAULT and THERMAL-OFF. -/
def State.standing (s : State) : Bool := s.running || s.power = .fault || s.power = .thermalOff

/-- R456: GAU_STAT as it reads: CAPLRN and DEFAULTS are live. -/
def State.gauStat (s : State) : Nat :=
  let w := s.rn A.GAU_STAT
  if !s.standing then w else w / 256 * 256 + 128 * (s.bit A.GAU_PFLG 2).toNat + w % 128 / 32 * 32 + 16 * s.defaultsUsed.toNat + w % 16

/-! ### The Wayline (R464, R484, R499 to R516) -/

/-- Change the Wayline's record. -/
def State.setWay (s : State) (f : Way → Way) : State := { s with way := f s.way }

/-- R25: the device is a manager. -/
def State.isManager (s : State) : Bool := s.g F.SYS_STRAP_ROLE = 1

/-- R25: the device is a worker. -/
def State.isWorker (s : State) : Bool := s.g F.SYS_STRAP_ROLE = 2

/-- R26: the worker address code of the straps, 0 where the image gives the address. -/
def State.strapAddr (s : State) : Nat :=
  let c := 6 * s.g F.SYS_STRAP_ADDRH + s.g F.SYS_STRAP_ADDRL
  if c ≤ 31 then c else 0

/-- R464: the effective address; 0 for a manager, a standalone device, and a worker without one. -/
def State.wayAddr (s : State) : Nat := if s.isWorker then (if s.strapAddr ≠ 0 then s.strapAddr else s.g F.WAY_CFG_ADDR) else 0

/-- R504: WAY_ADDR as it reads. -/
def State.wayAddrWord (s : State) : Nat := (if s.isWorker && s.strapAddr ≠ 0 then 16384 else if s.wayAddr ≠ 0 then 32768 else 0) + s.wayAddr

/-- R464: the power states with the Wayline. -/
def State.wayOn (s : State) : Bool := s.running || s.power = .fault

/-- R477: this worker is admitted. -/
def State.admitted (s : State) : Bool := s.b F.WAY_STAT_ADMIT

/-- R484: G, the tolls of the grant in force. -/
def State.grantTolls (s : State) : Nat := s.g F.WAY_GRANT_TOLLS

/-- R499: WAY_STAT as it reads. The version in use is a worker's from its ACCEPT, and a manager's from WMAX (R478). -/
def State.wayStat (s : State) : Nat :=
  let w := s.rn A.WAY_STAT
  w / 16384 * 16384 + 8192 * (s.grantTolls ≠ 0 : Bool).toNat + 4096 * (s.way.out.isSome || s.stk.tollReq.isSome).toNat + 2048 * (if s.isManager then s.b F.WAY_CFG_WMAX else s.b F.WAY_STAT_VER).toNat
    + 1024 * (s.isWorker && s.b F.WAY_CFG_FOLLOW && s.way.following).toNat + w % 1024 / 64 * 64 + 32 * (s.isWorker && s.wayAddr = 0 : Bool).toNat

/-- R483, R484: the allowance in tolls: BASE and the grant, or ORPH for a worker that is not admitted and for a silent manager (R482). A worker that the restart of its link controller took out
of admission goes on with the grant it held. -/
def State.allowance (s : State) : Nat :=
  if (s.isManager && !s.way.silent) || (s.isWorker && (s.admitted || (s.way.kept && s.grantTolls ≠ 0))) then s.g F.WAY_TOLLCFG_BASE + s.grantTolls else s.g F.WAY_TOLLCFG_ORPH

/-- R484: the toll limit in 0.1 A where one is imposed: the allowance × 10 W ÷ V(LINE), rounded down, saturating at 16,383. -/
def State.tollLimit (s : State) : Option Nat :=
  if s.isManager || s.isWorker then some (if s.sup.lineDv = 0 then 16383 else sat 16383 (s.allowance * 1000 / s.sup.lineDv)) else none

/-- R505: WAY_ILIM as it reads. -/
def State.wayIlim (s : State) : Nat := match s.tollLimit with | some v => v | none => 32768

/-- R503: WAY_LEASE as it reads: the ms left of the grant in force. -/
def State.leaseLeft (s : State) : Nat := if s.grantTolls = 0 then 0 else sat 65535 (s.way.leaseMs - ticksMs (s.ticks - s.way.leaseAt))

/-- The record of worker a, 1 to 31. -/
def State.wrec (s : State) (a : Nat) : WRec := if a = 0 then ⟨0, false, 0, 0, 0, false⟩ else s.way.recs.getD (a - 1) ⟨0, false, 0, 0, 0, false⟩

/-- Change it. -/
def State.setRec (s : State) (a : Nat) (f : WRec → WRec) : State := if a = 0 then s else s.setWay (fun w => { w with recs := w.recs.modify (a - 1) f })

/-- R486: the ledger entry of address a. -/
def State.grantOf (s : State) (a : Nat) : Option WGrant := s.way.grants.find? (·.addr = a)

/-- R486: the pending request of address a. -/
def State.pendOf (s : State) (a : Nat) : Option WPend := s.way.pend.find? (·.addr = a)

/-- R510: the committed tolls. -/
def State.committed (s : State) : Nat := s.way.grants.foldl (fun n g => n + g.tolls) 0

/-- R511: WAY_MPEND as it reads. -/
def State.wayMpend (s : State) : Nat := 256 * (s.way.pend.filter (·.emerg)).length + s.way.pend.length

/-- R512: half k of the presence map. -/
def State.wayMpres (s : State) (k : Nat) : Nat := (List.range 16).foldl (fun n i => if (s.wrec (16 * k + i)).st = 1 then n + 2 ^ i else n) 0

/-- R515: WAY_MSTAT as it reads. -/
def State.wayMstat (s : State) : Nat := 32768 * (!s.way.resets.isEmpty : Bool).toNat + s.rn A.WAY_MSTAT % 32768

/-- R488: the ms left of a ledger entry's lease, in time from the origin of the milestone that carried the GRANT. -/
def State.leaseOf (s : State) (g : WGrant) : Nat := if g.runs then g.lease - ticksMs (s.ticks - g.since) else g.lease

/-- R516: the lease left in 0.1 s; a part of 0.1 s counts as Config.tieUp takes it, since the rule states no rounding. -/
def State.leaseDs (s : State) (g : WGrant) : Nat := let n := s.leaseOf g; n / 100 + (if n % 100 ≠ 0 && Config.tieUp n 100 then 1 else 0)

/-- R516: word k of the record of worker a as it reads. -/
def State.wrecWord (s : State) (a k : Nat) : Nat :=
  let r := s.wrec a
  let g := s.grantOf a
  match k with
  | 0 => 16384 * r.st + 8192 * r.w2.toNat + 4096 * (s.pendOf a).isSome.toNat + ((g.map (·.tolls)).getD 0) % 4096
  | 1 => 256 * sat 255 ((g.map s.leaseDs).getD 0) + (if r.w2 then r.ident % 256 else 0)
  | 2 => r.status % 65536
  | _ => r.status / 65536

end Sys2Proof.Machine
end

