-- ==== Sys2Proof/Machine/Line.lean ====
section
/-! DEFINITION. The line input, the sluice and the weir (08_line_sluice_and_weir.md): source-type entries, qualification, admission, the input limit and the weir's mode. -/
namespace Sys2Proof.Machine

/-- Change the line's record. -/
def State.setLine (s : State) (f : Line → Line) : State := { s with line := f s.line }

/-- R250, R277: word k of the source-type entry in use. -/
def State.srcWord (s : State) (k : Nat) : Nat := s.rn (A.LIN_SRCTAB (8 * s.line.srcId + k))

/-- R250: KIND of the entry in use; 0 disables the code. -/
def State.srcKind (s : State) : Nat := s.srcWord 0 % 256
/-- R250: CSHARE, in %. -/
def State.srcShare (s : State) : Nat := s.srcWord 0 / 256
/-- R250: VLO, 0.1 V. -/
def State.srcVlo (s : State) : Nat := s.srcWord 1
/-- R250: HYS, 0.1 V. -/
def State.srcHys (s : State) : Nat := s.srcWord 2
/-- R250: VHI, 0.1 V. -/
def State.srcVhi (s : State) : Nat := s.srcWord 3
/-- R250: VOV, 0.1 V. -/
def State.srcVov (s : State) : Nat := s.srcWord 4
/-- R250: ILIM, 0.1 A. -/
def State.srcIlim (s : State) : Nat := s.srcWord 5

/-- R253: LINE stands in its window. -/
def State.inWindow (s : State) : Bool :=
  s.line.present && !s.line.reading && !s.line.ov && decide (s.srcVlo ≤ s.sup.lineDv) && decide (s.sup.lineDv ≤ s.srcVhi)

/-- R255: the sluice may conduct only in the states with engines. -/
def State.sluiceAllowed (s : State) : Bool := s.running

/-- R256, R269: the sluice opens; `cause` is the code of LASTOPEN. CHGOK goes with the end of qualification, not here. -/
def State.openSluice (s : State) (cause : Nat) : State :=
  s.setLine (fun l => if l.fullOn || l.inrush ≠ .none then { l with fullOn := false, inrush := .none, handback := false, hbWait := false, lastOpen := cause } else l)

/-- R256: a qualified line in a state of R255 with the sluice open is admitted: the stagger begins. -/
def State.startAdmission (s : State) : State :=
  if s.sluiceAllowed && s.line.qual && !s.line.fullOn && s.line.inrush = .none then s.setLine (fun l => { l with inrush := .stagger }) else s

/-- R42, R412: AO runs: in every state with AO, and in SHIP while LINE feeds it. -/
def State.aoFed (s : State) : Bool := s.aoOn || (s.power = .ship && (s.line.present || s.sup.shipAo))

/-- R252: a qualification begins with the SRCID read, outside a latch-off and a running RETRY_DLY, while the line is present. -/
def State.beginQualification (s : State) : State :=
  if s.aoFed then
    if s.line.present && !s.line.latch && !s.line.retry then
      s.setLine (fun l => { l with reading := true, qualifying := true, inWin := false })
    else s
  else s

/-- R253, R257: LINE enters or leaves its window as the latest level says; the LINE_OV comparator leaves "over" below VOV less 2 %. -/
def State.followWindow (s : State) : State :=
  let s := s.setLine (fun l => { l with ov := l.ov && !decide (100 * s.sup.lineDv < 98 * s.srcVov) })
  s.setLine (fun l => { l with inWin := s.inWindow })

/-- R258: a failed admission: counted; the sluice latches off above RETRIES (7 never latches), else RETRY_DLY runs. -/
def State.failedAdmission (s : State) : State :=
  let n := sat 7 (s.line.fails + 1)
  let s := s.setLine (fun l => { l with fails := n })
  if s.g F.LIN_CFG0_RETRIES ≠ 7 && decide (s.g F.LIN_CFG0_RETRIES < n) then
    ((s.setLine (fun l => { l with latch := true, qualifying := false, retry := false })).raise 47).post (.lineEvent 3 0)
  else s.setLine (fun l => { l with retry := true, qualifying := false })

/-- R259: the latch-off ends, with the count of failed admissions cleared; a qualification then begins if the line is present. -/
def State.endLatch (s : State) : State :=
  if s.line.latch then (s.setLine (fun l => { l with latch := false, fails := 0 })).beginQualification else s

/-- R259, R662: likewise, with its packet. -/
def State.clearLatch (s : State) : State := (s.when s.line.latch (·.post (.lineEvent 4 0))).endLatch

/-! ### The input limit (R263, R274) -/

/-- R263: the origins of the effective limit with their values, in the order of LIMBY. -/
def State.limitOrigins (s : State) : List (Nat × Nat) :=
  [(0, s.srcIlim), (1, s.rn A.LIN_IHOST)] ++ (match s.tollLimit with | some v => [(2, v)] | none => []) ++
    (if s.b F.THM_STAT_THRENF then [(3, s.rn A.THM_THRLIM0)] else [])

/-- The smallest of a list of origins; the earlier of two equal ones. -/
def smallestOrigin (l : List (Nat × Nat)) : Nat × Nat :=
  match l with
  | [] => (0, 65535)
  | x :: r => r.foldl (fun b c => if c.2 < b.2 then c else b) x

/-- R263: the effective input limit in 0.1 A. -/
def State.ieff (s : State) : Nat := (smallestOrigin s.limitOrigins).2

/-- R274: LIN_IEFF as it reads: the origin, and the limit, which is 0 while the line is not qualified. -/
def State.linIeff (s : State) : Nat := 16384 * (smallestOrigin s.limitOrigins).1 + (if s.line.qual then sat 16383 s.ieff else 0)

/-- R274, R55, R696: LIN_IEFF as it reads in every state: without the states that form a limit it stands at its reset word, and in THERMAL-OFF as it stood at the entry. -/
def State.ieffWord (s : State) : Nat :=
  if s.wayOn then s.linIeff else if s.line.qual then s.rn A.LIN_IEFF else s.rn A.LIN_IEFF / 16384 * 16384

/-- R270: LIN_STAT as it reads. -/
def State.linStat (s : State) : Nat :=
  let l := s.line
  32768 * l.qual.toNat + 16384 * l.fullOn.toNat + 8192 * l.present.toNat + 4096 * l.inWin.toNat + 2048 * (decide (l.inrush ≠ .none)).toNat + 1024 * l.latch.toNat
    + 512 * l.ov.toNat + 256 * l.chgOk.toNat + 32 * (l.srcId % 8) + 4 * (l.lastOpen % 8) + sat 3 l.fails

/-! ### The weir (R264 to R269) -/

/-- R266: the modes of the weir. -/
inductive WeirMode where
  | auto | forcedOn | forcedOff
deriving DecidableEq, Repr

/-- R266, R279: why the weir is forced off: 1 no battery, 2 the power state, 3 the turn-off of R265; 0 nothing. -/
def State.weirOffCause (s : State) : Nat :=
  if !s.sup.pack then 1 else if !s.running then 2 else if s.line.weirHeld then 3 else 0

/-- R266, R367, R371: a battery phase or an emergency operation forces the weir on (STK_CFG.EMWEIR for the latter). -/
def State.weirForcedOn (s : State) : Bool := s.b F.STK_STAT_BATTPH || (s.b F.STK_STAT_EMERG && s.b F.STK_CFG_EMWEIR)

/-- R266: the weir's mode. -/
def State.weirMode (s : State) : WeirMode :=
  if s.weirOffCause ≠ 0 then .forcedOff else if s.weirForcedOn then .forcedOn else .auto

/-- R279: WEIR_STAT as it reads: MODE and OFFCAUSE are live. -/
def State.weirStat (s : State) : Nat :=
  let w := s.rn A.WEIR_STAT
  let m := match s.weirMode with | .auto => 0 | .forcedOn => 1 | .forcedOff => 2
  w / 32768 * 32768 + 8192 * m + 2048 * s.weirOffCause + w % 2048

/-- The weir stops conducting. -/
def State.weirOff (s : State) : State := (s.p F.WEIR_STAT_COND 0).p F.WEIR_STAT_TKLIM 0


/-- R264: the takeover level in mV; none at code 255. -/
def State.tkoMv (s : State) : Option Nat := if s.g F.WEIR_CFG_TKO = 255 then none else some (12000 + 200 * s.g F.WEIR_CFG_TKO)

/-- R264, R266: the weir turns on for these levels: at least 20 mV below BATT and below the takeover level in AUTO; forced on and turned off by reverse blocking, when current would flow
forward. -/
def State.weirTurnsOn (s : State) (vdrv batt : Nat) : Bool :=
  match s.weirMode with
  | .forcedOff => false
  | .forcedOn => decide (vdrv < batt)
  | .auto => decide (vdrv + 20 ≤ batt) && (match s.tkoMv with | none => true | some t => decide (vdrv < t))

end Sys2Proof.Machine
end

