-- ==== Sys2Proof/Machine/Queue.lean ====
section
/-! DEFINITION. The millrace queue (19_millrace_queue.md): room, packets, their headers and payloads, opening, commit, rewind, pop, flush and the pointer check. -/
namespace Sys2Proof.Machine

/-- R651: the queue's words. -/
def queueWords : Nat := 4096

/-- R661: the stroke summary packet's length in words, header included. -/
def strokePktLen : Nat := 8

/-- The words of the packets of class c among those opened in this step time. -/
def openWords (l : List OpenPkt) (c : Nat) : Nat := (l.filter (·.cls = c)).foldl (fun n o => n + o.len) 0

/-- R652: the words that packets of class c hold, open or committed. -/
def Mrq.words (q : Mrq) (c : Nat) : Nat :=
  (q.pkts.filter (·.cls = c)).foldl (fun n p => n + p.words.length) 0 + (if q.openCls = some c then strokePktLen else 0) + strokePktLen * q.closing.count c + openWords q.opened c

/-- R665: the free words, before the class-0 reserve. -/
def Mrq.free (q : Mrq) : Nat := queueWords - (q.words 0 + q.words 1 + q.words 2 + q.words 3)

/-- R666: the committed packets of class c. -/
def Mrq.count (q : Mrq) (c : Nat) : Nat := (q.pkts.filter (·.cls = c)).length

/-- R652: room for a packet of class c and L words. -/
def Mrq.room (q : Mrq) (c L : Nat) : Bool :=
  if c = 0 then decide (L ≤ q.free) else decide (L + (256 - q.words 0) ≤ q.free)

/-- R657: the head packet: of the lowest class number that holds one, the one committed earliest. -/
def Mrq.head (q : Mrq) : Option Packet :=
  match q.pkts.find? (·.cls = 0) with
  | some p => some p
  | none =>
    match q.pkts.find? (·.cls = 1) with
    | some p => some p
    | none =>
      match q.pkts.find? (·.cls = 2) with
      | some p => some p
      | none => q.pkts.find? (·.cls = 3)

/-- Take the head packet off. -/
def Mrq.dropHead (q : Mrq) : Mrq :=
  match q.head with
  | none => q
  | some p => { q with pkts := q.pkts.eraseP (·.cls = p.cls) }

/-- R663: the two copies of class c's pointers agree. -/
def Mrq.ptrsAgree (q : Mrq) (c : Nat) : Bool :=
  decide (q.rp.getD c 0 = q.rp2.getD c 0) && decide (q.wp.getD c 0 = q.wp2.getD c 0)

/-- Advance both copies of class c's write pointer. -/
def Mrq.advWp (q : Mrq) (c L : Nat) : Mrq :=
  { q with wp := q.wp.modify c (fun x => (x + L) % queueWords), wp2 := q.wp2.modify c (fun x => (x + L) % queueWords) }

/-- Advance both copies of class c's read pointer. -/
def Mrq.advRp (q : Mrq) (c L : Nat) : Mrq :=
  { q with rp := q.rp.modify c (fun x => (x + L) % queueWords), rp2 := q.rp2.modify c (fun x => (x + L) % queueWords) }

/-! ### What the packets carry (R661, R662) -/

/-- R661: class, type and producer of a packet. -/
def PktBody.kind (b : PktBody) : Nat × Nat × Nat :=
  match b with
  | .bootReport => (1, 0x01, 12)
  | .queueReset _ _ _ => (0, 0x02, 23)
  | .fault applied _ _ _ _ _ _ => (if 2 ≤ applied then 0 else 1, 0x03, 13)
  | .engReport eng _ _ cls => (cls, 0x04, eng)
  | .pushButton _ _ => (2, 0x05, 12)
  | .lineEvent ev _ => (if ev = 2 then 1 else 2, 0x06, 16)
  | .slewDone dom _ => (2, 0x07, if dom = 1 then 15 else 14)
  | .retirement _ _ _ _ _ => (1, 0x08, 15)
  | .charger _ => (1, 0x0A, 18)
  | .gauge _ _ cls => (cls, 0x0B, 19)
  | .worker _ _ cls _ => (cls, 0x0C, 20)
  | .linkEvent _ => (2, 0x0D, 20)
  | .thermal cls => (cls, 0x0E, 21)
  | .alarm _ _ _ => (2, 0x0F, 22)
  | .stroke cls _ => (cls, 0x09, 17)

/-- R655: the place of a packet among those of one step time: the producer, then for faults the source. -/
def PktBody.order (b : PktBody) : Nat := 128 * b.kind.2.2 + (match b with | .fault _ _ _ _ source _ _ => source % 128 | _ => 0)

/-- R662: the origin code of a fault packet. -/
def Origin.code : Origin → Nat
  | .detector => 0 | .engine => 1 | .force => 2

/-- R661: the class of a charger event: 1 for NO_BATTERY or FAULT, 2 otherwise. The codes of CHG_STAT.STATE are those of R400. -/
def chargerPktCls (s : State) : Nat := if s.g F.CHG_STAT_STATE = 1 || s.g F.CHG_STAT_STATE = 9 then 1 else 2

/-- R662: the payload words, from the registers as they stand in this step time (R655). -/
def PktBody.payload (s : State) (b : PktBody) : List (BitVec 32) :=
  match b with
  | .bootReport =>
    [pack32 [(16, 16, s.rn A.SYS_IMGSTAT), (0, 16, s.rn A.SYS_LDSTAT)], pack32 [(16, 16, s.rn A.SYS_FFSTAT), (0, 16, s.rn A.SYS_RSTCAUSE)],
     pack32 [(16, 16, s.rn A.SYS_WAKECAUSE), (0, 16, s.rn A.SYS_IMGVER)], pack32 [(16, 16, s.rn A.FLT_SNAPINF)]]
  | .queueReset words pkts lastSeq =>
    [pack32 [(16, 16, words), (8, 8, sat 255 (pkts.foldl (· + ·) 0)), (0, 8, lastSeq)],
     pack32 [(24, 8, sat 255 (pkts.getD 0 0)), (16, 8, sat 255 (pkts.getD 1 0)), (8, 8, sat 255 (pkts.getD 2 0)), (0, 8, sat 255 (pkts.getD 3 0))]]
  | .fault applied configured o state source cnt band =>
    [pack32 [(30, 2, applied), (28, 2, configured), (26, 2, o.code), (22, 4, state), (0, 7, source)], pack32 [(16, 16, cnt), (13, 3, band)]]
  | .engReport eng off value _ => [pack32 [(28, 4, eng), (16, 12, off), (0, 16, value)]]
  | .pushButton ms state => [pack32 [(16, 16, sat 65535 ms), (12, 4, state)]]
  | .lineEvent ev lastOpen =>
    [pack32 [(28, 4, ev), (25, 3, lastOpen), (22, 3, s.line.srcId), (20, 2, s.srcKind),
             (18, 2, sat 3 s.line.fails), (0, 12, sat 4095 s.sup.lineDv)],
     pack32 [(16, 16, s.rn A.LIN_CNTLOSS), (0, 16, s.ieffWord)]]
  | .slewDone dom code => [pack32 [(28, 4, dom), (0, 12, code)]]
  | .retirement phase cause test insvc iout => [pack32 [(28, 4, phase), (26, 2, cause), (23, 3, test), (20, 3, insvc), (0, 12, sat 4095 iout)]]
  | .charger prev => [pack32 [(16, 16, s.rn A.CHG_STAT), (12, 4, prev), (0, 8, s.rn A.CHG_FLT)]]
  | .gauge ev detail _ =>
    [pack32 [(28, 4, ev), (20, 8, s.rn (A.GAU_MODEL 0)), (17, 3, detail), (0, 16, s.gauStat)],
     pack32 [(24, 8, s.g F.GAU_RESERVE_STROKES), (16, 8, s.g F.GAU_RESERVE_FLOOR), (0, 16, s.fcc)]]
  | .worker ev addr _ status =>
    [pack32 [(28, 4, ev), (16, 5, addr), (0, 16, s.wrecWord addr 0)], status,
     pack32 [(16, 16, s.wrecWord addr 1), (0, 16, sat 8191 s.committed)]]
  | .linkEvent before => [pack32 [(16, 16, s.wayStat), (0, 16, before.toNat)]]
  | .thermal _ => [pack32 [(16, 16, s.rn A.THM_STAT), (0, 16, s.rn A.THM_HOT)], pack32 [(16, 16, s.rn A.THM_SDSTAT), (0, 16, s.rn A.THM_SFAIL)]]
  | .alarm n late sec => [pack32 [(31, 1, n), (30, 1, late.toNat), (0, 24, sec / 65536)]]
  | .stroke _ words => words

/-- The class of a packet as it stands at commit. -/
def PktBody.cls (s : State) (b : PktBody) : Nat :=
  match b with
  | .charger _ => chargerPktCls s
  | b => b.kind.1

/-- R659, R660: the two header words. -/
def header (s : State) (cls type len producer : Nat) : List (BitVec 32) :=
  [pack32 [(30, 2, cls), (24, 6, type), (18, 6, len), (10, 8, s.mrq.seq), (5, 5, producer)], pack32 [(16, 16, s.rtcSec), (0, 16, s.rtcFrac)]]

/-! ### Commit, drop, reset -/

/-- R655: a packet is committed: its header completes, SEQ advances and ATTN sets. -/
def State.commitPacket (s : State) (cls type producer : Nat) (payload : List (BitVec 32)) : State :=
  { s with
      mrq := { s.mrq with pkts := s.mrq.pkts ++ [⟨cls, header s cls type payload.length producer ++ payload⟩], seq := s.mrq.seq + 1 },
      hif := { s.hif with attn := true } }

/-- R653: a packet that finds no room: its class's count, DROP and source 122; a drop of source 122's own fault packet does not raise it again. An engine's report sets PKTLOST (R162). -/
def State.dropPacket (s : State) (cls : Nat) (b : PktBody) : State :=
  let s := (s.inc (A.MRQ_DROP cls)).p F.MRQ_STAT_DROP 1
  let s := match b with
    | .engReport _ _ _ _ => s.p F.ENG_STAT_PKTLOST 1
    | _ => s
  match b with
  | .fault _ _ _ _ 122 _ _ => s
  | _ => s.raise 122

/-- R654: a stroke summary, which is open before the step time in which it commits. -/
def OpenPkt.isStroke (o : OpenPkt) : Bool := match o.body with | .stroke _ _ => true | _ => false

/-- R663: the queue is reset: every packet goes, the count and RST, the report as the first packet, and source 121. A stroke summary that was open is lost (PKTLOST). What this step time has opened counts as opened
after the reset (the rule says so of fault packets; of the others DESIGN CHOICE, log entry 38). -/
def State.queueReset (s : State) : State :=
  let q := s.mrq
  let lost := q.opened.filter OpenPkt.isStroke
  let kept := q.opened.filter (fun o => !o.isStroke)
  let words := queueWords - q.free - (openWords kept 0 + openWords kept 1 + openWords kept 2 + openWords kept 3)
  let cnt c := q.count c + (if q.openCls = some c then 1 else 0) + q.closing.count c + (lost.filter (·.cls = c)).length
  let s := s.when (q.openCls.isSome || !q.closing.isEmpty || !lost.isEmpty) (·.p F.STK_STAT_PKTLOST 1)
  let s := (s.inc A.MRQ_CNTRST).p F.MRQ_STAT_RST 1
  let b := PktBody.queueReset words [cnt 0, cnt 1, cnt 2, cnt 3] ((q.seq + 255) % 256)
  let fresh : Mrq := { q with pkts := [], openCls := none, closing := [], opened := kept, rp := [0, 0, 0, 0], wp := [4, 0, 0, 0], rp2 := [0, 0, 0, 0], wp2 := [4, 0, 0, 0] }
  let s := { s with mrq := kept.foldl (fun (q : Mrq) (o : OpenPkt) => q.advWp o.cls o.len) fresh }
  (s.commitPacket 0 0x02 23 (b.payload s)).raise 121

/-- R663: compare the pointers of the class used, and class 0's for the reserve; reset the queue where the copies differ. -/
def State.checkPtrs (s : State) (cls : Nat) : State :=
  if s.mrq.ptrsAgree cls && s.mrq.ptrsAgree 0 then s else s.queueReset

/-- A packet of class c and `len` words is opened: it holds its words. -/
def State.addOpen (s : State) (o : OpenPkt) : State := { s with mrq := { s.mrq with opened := s.mrq.opened ++ [o] } }

/-- R654, R663: a stroke summary, which has held its words since it was opened, is to commit; a queue reset that finds its pointers in disagreement has taken it away. -/
def State.openClosing (s : State) (cls : Nat) (b : PktBody) : State :=
  let s := s.checkPtrs cls
  if s.mrq.closing.contains cls then ({ s with mrq := { s.mrq with closing := s.mrq.closing.erase cls } } : State).addOpen ⟨b, cls, strokePktLen⟩ else s

/-- R652, R653: one packet of this step time is opened, or dropped. -/
def State.openPacket (s : State) (b : PktBody) : State :=
  match b with
  | .stroke cls _ => s.openClosing cls b
  | b =>
    let cls := b.cls s
    let s := s.checkPtrs cls
    let len := (b.payload s).length + 2
    if s.mrq.room cls len then ({ s with mrq := s.mrq.advWp cls len } : State).addOpen ⟨b, cls, len⟩ else s.dropPacket cls b

/-- R652, R663: every packet posted so far is opened, in the order of the events. The pointers of every class that they use are compared before the first of them opens, so that each is opened after a reset of the
queue in this step time (DESIGN CHOICE, log entry 38). -/
def State.openPosted (s : State) : State :=
  let l := s.mrq.outbox
  let s := ({ s with mrq := { s.mrq with outbox := [] } } : State).each l (fun s b => s.checkPtrs (b.cls s))
  s.each l State.openPacket

/-- R655: packets of one step time commit in ascending producer code, and within one producer in ascending source number or in the order of their events: put one at its place. -/
def insertByProducer (o : OpenPkt) (l : List OpenPkt) : List OpenPkt :=
  match l with
  | [] => [o]
  | c :: r => if o.body.order < c.body.order then o :: c :: r else c :: insertByProducer o r

/-- Put the packets of one step time into their order of commit. -/
def byProducer (l : List OpenPkt) : List OpenPkt := l.foldl (fun acc o => insertByProducer o acc) []

/-- R655: every packet opened in this step time commits, with the registers as they stand. -/
def State.commitOpened (s : State) : State :=
  let l := byProducer s.mrq.opened
  ({ s with mrq := { s.mrq with opened := [] } } : State).each l (fun s o => s.commitPacket o.cls o.body.kind.2.1 o.body.kind.2.2 (o.body.payload s))

/-- R655: every packet of this step time that is still posted or open commits. -/
def State.commitPosted (s : State) : State := s.openPosted.commitOpened

/-- R654, R349: open the stroke summary packet. `false` where it finds no room. -/
def State.openStroke (s : State) : Bool × State :=
  let cls := s.g F.STK_CFG_PKTCLS
  let s := s.checkPtrs cls
  if s.mrq.room cls strokePktLen then
    (true, { s with mrq := { s.mrq.advWp cls strokePktLen with openCls := some cls } })
  else
    (false, (((s.inc (A.MRQ_DROP cls)).p F.MRQ_STAT_DROP 1).raise 122))

/-- R654, R655: the open stroke summary packet is to commit with its payload, among the packets of this step time; none where it was lost. -/
def State.commitStroke (s : State) (payload : List (BitVec 32)) : State :=
  match s.mrq.openCls with
  | none => s
  | some cls => ({ s with mrq := { s.mrq with openCls := none, closing := s.mrq.closing ++ [cls] } } : State).post (.stroke cls payload)

/-- R656: rewind the open stroke summary packet. -/
def State.rewindStroke (s : State) : State :=
  match s.mrq.openCls with
  | none => s
  | some cls =>
    let s := s.checkPtrs cls
    match s.mrq.openCls with
    | none => s
    | some cls => { s with mrq := { s.mrq.advWp cls (queueWords - strokePktLen) with openCls := none } }

/-- R657, R123: the packet sent is removed; the next QPOP re-read returns it. -/
def State.popHead (s : State) : State :=
  match s.mrq.head with
  | none => s
  | some p =>
    let s := { s with hif := { s.hif with popped := p.words } }
    if s.mrq.ptrsAgree p.cls then { s with mrq := s.mrq.dropHead.advRp p.cls p.words.length } else s.queueReset

/-- R670: the flush: every committed packet goes, open packets remain, nothing is reported. -/
def State.flushQueue (s : State) : State :=
  if s.mrq.ptrsAgree 0 && s.mrq.ptrsAgree 1 && s.mrq.ptrsAgree 2 && s.mrq.ptrsAgree 3 then
    let q := s.mrq
    let adv (q : Mrq) (c : Nat) : Mrq := q.advRp c ((q.pkts.filter (·.cls = c)).foldl (fun n p => n + p.words.length) 0)
    { s with mrq := { adv (adv (adv (adv q 0) 1) 2) 3 with pkts := [] } }
  else s.queueReset

/-! ### Views (R664 to R668) -/

/-- R129: QNE. -/
def State.qne (s : State) : Bool := s.mrq.head.isSome

/-- R129: QPRI, 0 while QNE is 0. -/
def State.qpri (s : State) : Nat := (s.mrq.head.map Packet.cls).getD 0

/-- R668: header word 0 of the head packet, zero while QNE is 0. -/
def State.headWord (s : State) : Nat := (s.mrq.head.map (fun p => (p.words.getD 0 0).toNat)).getD 0

end Sys2Proof.Machine
end

