-- ==== Sys2Proof/Machine/Monitors.lean ====
section
/-! DEFINITION. The window monitors (15_window_monitors.md) and what their reports do to a domain (R187 to R192, R202, R205): comparator states, judgements, blanking, thresholds. -/
namespace Sys2Proof.Machine

/-- R553: monitor k is powered. -/
def State.monPowered (s : State) (k : Nat) : Bool :=
  s.running && (s.bit A.CMP_PWR k || (decide (k < 10) && s.cmdOn (k + 1) && s.b (F.DOM_CFG_USED (k + 1))))

/-- R562: the powered monitors in one word. -/
def State.monAct (s : State) : Nat := (List.range 16).foldl (fun acc k => acc + 2 ^ k * (s.monPowered k).toNat) 0

/-- R187, R551: the comparators of monitor k start afresh: "under" and not "over", outside any window. -/
def State.monRestart (s : State) (k : Nat) : State :=
  let s : State := { s with mon := ⟨s.mon.blank.land (65535 - 2 ^ k % 65536), s.mon.due.land (65535 - 2 ^ k % 65536)⟩ }
  (s.pbit A.CMP_UNDER k true).pbit A.CMP_OVER k false

/-- R551: monitor k's lower comparator is "under" (condition 0x40 + k). -/
def State.under (s : State) (k : Nat) : Bool := s.bit A.CMP_UNDER k

/-- R551: monitor k's upper comparator is "over" (condition 0x30 + k). -/
def State.over (s : State) (k : Nat) : Bool := s.bit A.CMP_OVER k

/-- R553: set or clear power requests; a monitor that gains its power starts afresh, and one that loses it reads the start states. -/
def State.setMonPower (s : State) (mask : Nat) (on : Bool) : State :=
  let old := s.rn A.CMP_PWR
  let new := if on then old.lor mask else old.land (65535 - mask % 65536)
  let s' := s.wn A.CMP_PWR new
  s'.each (List.range 16) (fun t k => if s.monPowered k = s'.monPowered k then t else t.monRestart k)

/-- R551: the hysteresis in codes; HYS 7 is reserved. -/
def hysCodes (hys : Nat) : Nat := [0, 1, 2, 4, 8, 16, 32, 32].getD hys 0

/-- R548: the step of monitor 0 to 9 at its node, in mV. -/
def monStep (k : Nat) : Nat := [80, 8, 4, 2, 2, 4, 20, 8, 80, 40].getD k 1

/-- R550: a voltage as a threshold code: nearest, ties upward, saturated to 1,023. The voltage is `num / den` mV. -/
def thrCode (num den step : Nat) : Nat := sat 1023 ((2 * num + den * step) / (2 * den * step))

/-- R548, R552: what an input level (in mV at the node) does to the lower comparator of monitor k, from the state it is in. -/
def State.judgeUnder (s : State) (k step mv : Nat) : Bool :=
  let lo := s.rn (A.CMP_LO k)
  if s.under k then decide (mv ≤ lo * step) else decide (mv < (lo - hysCodes (s.g (F.CMP_CFG_HYS k))) * step)

/-- R548, R552: likewise the upper comparator. -/
def State.judgeOver (s : State) (k step mv : Nat) : Bool :=
  let hi := s.rn (A.CMP_HI k)
  if s.over k then decide ((hi - hysCodes (s.g (F.CMP_CFG_HYS k))) * step ≤ mv) else decide (hi * step < mv)

/-- R549: the step of a free monitor's input, in mV; SRC 26 to 30 are reserved, and no image with one is accepted (R640). -/
def freeStep (src att : Nat) : Nat :=
  if src ≤ 17 then (if att = 1 then 4 else 1)
  else if src = 18 || src = 20 then 80
  else if src = 19 then 200
  else if decide (21 ≤ src) && decide (src ≤ 24) then 4
  else if src = 25 then 2 else 1

/-- R548, R549: monitor k's step in mV. -/
def State.stepOf (s : State) (k : Nat) : Nat := if k < 10 then monStep k else freeStep (s.g (F.CMP_SRC_SRC (k - 10))) (s.g (F.CMP_SRC_ATT (k - 10)))

/-- R549: the level a monitor sees: 0 V where a free monitor selects no input. -/
def State.monInput (s : State) (k mv : Nat) : Nat := if 10 ≤ k && s.g (F.CMP_SRC_SRC (k - 10)) = 31 then 0 else mv

/-- The band, power-good and hottest temperature of an incident as it begins (R210). -/
def State.incidentOf (s : State) (source cls state : Nat) : Incident :=
  ⟨source, cls, state, s.g F.THM_STAT_BAND, s.pgSum, s.ri A.THM_HOT⟩

/-- R188: power-good of domain n falls; a reset output that the domain holds follows at once (R208). -/
def State.pgFall (s : State) (n : Nat) : State := (s.p (F.DOM_STAT_PG n) 0).setDom n (fun d => { d with fresh := false })

/-- R190: while a slew masks domain n, neither report is made. -/
def State.maskedDom (s : State) (n : Nat) : Bool := s.b (F.DOM_STAT_MASKED n)

/-- A domain that reports: commanded on, fitted, not masked, in a state with engines (R186, R189, R190). -/
def State.reports (s : State) (n : Nat) : Bool :=
  s.running && s.cmdOn n && s.b (F.DOM_CFG_USED n) && !s.maskedDom n

/-- R555: a blanking window of monitor k is in progress. -/
def State.blanked (s : State) (k : Nat) : Bool := s.mon.blank.testBit k

/-- R188, R189, R191, R555: an under-voltage of domain n is reported now: outside blanking, it has been power-good since it was switched on, no report stands, and for DRIVE the weir does not
conduct. -/
def State.uvDue (s : State) (n : Nat) : Bool :=
  s.reports n && s.under (n - 1) && !s.blanked (n - 1) && (s.domAt n).wasGood && !(s.domAt n).uvRep && !(n = 1 && s.weirOn)

/-- R188, R189, R555: an over-voltage of domain n is reported now, outside blanking. -/
def State.ovDue (s : State) (n : Nat) : Bool := s.reports n && s.over (n - 1) && !s.blanked (n - 1) && !(s.domAt n).ovRep

/-- R202 outside POWER-DOWN: power-good falls, the counter increments, the domain's engine receives trigger 2 and the source raises. `off` is the switch-off that R205 makes in POWER-DOWN,
with active discharge. -/
def State.reportDom (s : State) (off : State → Nat → State) (n : Nat) (ov : Bool) : State :=
  let src := if ov then 19 + n else 9 + n
  let s := s.pgFall n
  let s := if ov then (s.inc (A.DOM_CNT n 1)).setDom n (fun d => { d with ovRep := true })
           else (s.inc (A.DOM_CNT n 0)).setDom n (fun d => { d with uvRep := true })
  if s.power = .powerDown then
    let s := (off s n).inc (A.DOM_CNT n 3)
    let s := if ov && s.ctl.latched.isNone then { s with ctl := { s.ctl with latched := some (s.incidentOf src (s.srcCls src) 6) } } else s
    s.raise src
  else (s.trig n 2).raise src

/-- R555: monitor k judges now: both comparators take the states the input puts them in. An entry after the monitor was powered is recorded (R563). -/
def State.takeStates (s : State) (k : Nat) (u o : Bool) : State :=
  let s := s.when (u && !s.under k) (·.pbit A.CMP_UEVT k true)
  let s := s.when (o && !s.over k) (·.pbit A.CMP_OEVT k true)
  let s := (s.pbit A.CMP_UNDER k u).pbit A.CMP_OVER k o
  if k < 10 then s.setDom (k + 1) (fun d => { d with uvRep := d.uvRep && u, ovRep := d.ovRep && o }) else s

/-- R556: monitor k is sampled in the present state. -/
def State.sampled (s : State) (k : Nat) : Bool :=
  let m := s.g (F.CMP_CFG_MODE k)
  m = 2 || (m = 1 && s.power = .watch)

/-- R236: LOCK is in pull-in or hold. -/
def State.lockHolds (s : State) : Bool := s.g F.DOM9_LSTAT_PHASE = 1 || s.g F.DOM9_LSTAT_PHASE = 2

/-- R237, R239: WM8's comparators keep their state while the LOCK switch is off within a pull-in or hold period. Every other monitor, and WM8 outside those phases, may judge. -/
def State.mayJudge (s : State) (k : Nat) : Bool := s.monPowered k && !(k = 8 && s.lockHolds && s.lock.idle)

/-- R202, R188: after a judgement a domain's over-voltage is reported at once; an under-voltage at once only by a sampled monitor, to which UVFILT is not applied (R192). -/
def State.afterJudge (s : State) (off : State → Nat → State) (k : Nat) : State :=
  if k < 10 then
    let s := s.when (s.ovDue (k + 1)) (fun s => s.reportDom off (k + 1) true)
    s.when (s.sampled k && s.uvDue (k + 1)) (fun s => s.reportDom off (k + 1) false)
  else s

/-- R551, R555: monitor k judges an input of `mv` at its node. -/
def State.judge (s : State) (off : State → Nat → State) (k mv : Nat) : State :=
  if s.mayJudge k then
    let lvl := s.monInput k mv
    (s.takeStates k (s.judgeUnder k (s.stepOf k) lvl) (s.judgeOver k (s.stepOf k) lvl)).afterJudge off k
  else s

/-! ### Blanking (R554 to R556) -/

/-- R554: an edge starts a blanking window of every powered monitor that `hit` selects by its BSRC and BDOM. -/
def State.blankEdge (s : State) (hit : Nat → Nat → Bool) : State :=
  let m := (List.range 16).foldl (fun m k => if s.monPowered k && hit (s.g (F.CMP_CFG_BSRC k)) (s.g (F.CMP_CFG_BDOM k)) then m + 2 ^ k else m) 0
  if m = 0 then s else { s with mon := { s.mon with blank := s.mon.blank.lor m } }

/-- R554: the BSRC and BDOM that a high-side turn-on of domain n starts a window of. -/
def onHits (n b d : Nat) : Bool := (b = 2 && d = n) || (b = 1 && n = 1) || (b = 3 && n = 9)

/-- R554: a high-side turn-on of domain n: for DRIVE the rising PWM edge of one of its active phases, for LOCK the turn-on of its switch. -/
def State.turnOn (s : State) (n : Nat) : State := s.blankEdge (onHits n)

/-- R554: the LOCK switch turns off, or a pull-in ends. -/
def State.lockEdge (s : State) : State := s.blankEdge (fun b _ => b = 3)

/-- R237, R239, R554: from now on the LOCK switch conducts, or does not; within a pull-in or hold period a change of it is an edge. -/
def State.lockSwitch (s : State) (on : Bool) : State :=
  let changed := s.lock.idle = on && s.lockHolds
  let s : State := { s with lock := { s.lock with idle := !on } }
  s.when changed (fun s => if on then s.turnOn 9 else s.lockEdge)

/-- R554: a high-side turn-on that a command reports. Where LOCK's switch conducted already, it has been off in between. -/
def State.highSideOn (s : State) (n : Nat) : State := if n = 9 then (s.lockSwitch false).lockSwitch true else s.turnOn n

/-- R188, R555, R556: the window of monitor k ends, and it judges; a sampled monitor only where a supervision tick fell into the window. A report that the window held back is due. -/
def State.blankEnd (s : State) (off : State → Nat → State) (k mv : Nat) : State :=
  let judges := !s.sampled k || s.mon.due.testBit k
  let s : State := { s with mon := ⟨s.mon.blank.land (65535 - 2 ^ k % 65536), s.mon.due.land (65535 - 2 ^ k % 65536)⟩ }
  (if judges then s.judge off k mv else s).afterJudge off k

/-- R556: a supervision tick: each powered sampled monitor outside a window judges its input; one in a window, or one that the tick brings no input for, judges at the end of its window. -/
def State.supervise (s : State) (off : State → Nat → State) (inputs : List (Nat × Nat)) : State :=
  (List.range 16).foldl (fun s k =>
    if s.monPowered k && s.sampled k then
      match inputs.find? (fun e => e.1 = k) with
      | some (_, mv) => if s.blanked k then { s with mon := { s.mon with due := s.mon.due.lor (2 ^ k) } } else s.judge off k mv
      | none => { s with mon := { s.mon with due := s.mon.due.lor (2 ^ k) } }
    else s) s

/-- R551, R555: the input of a continuous monitor crosses a threshold; within a window its comparators hold. -/
def State.comparator (s : State) (off : State → Nat → State) (k mv : Nat) : State :=
  if s.sampled k || s.blanked k then s else s.judge off k mv

/-- R569: the tick code of the present band (byte 7 of its entry, R579). -/
def State.tickCode (s : State) : Nat := s.rn (A.THM_BT (16 * s.g F.THM_STAT_BAND + 3)) / 256

/-- R556: the tick code of the present band is in force from now on. -/
def State.takeTick (s : State) : State := s.wn A.CMP_TICK (s.tickCode % 16)

end Sys2Proof.Machine
end

