-- ==== Sys2Proof/Machine/Regulators.lean ====
section
/-! DEFINITION. The integrated regulators and the lock switch (07_house_regulators.md), domains 2 to 10: switch-on, soft-start, discharge, lockout, limits, voltage scaling, the LOCK phases. -/
namespace Sys2Proof.Machine

/-- R219: the domains with a setpoint register and a switching or linear regulator. -/
def isReg (n : Nat) : Bool := (2 ≤ n && n ≤ 8) || n = 10

/-- R231: the domains with dynamic voltage scaling. -/
def isDvs (n : Nat) : Bool := n = 4 || n = 5

/-- R222: the input lockout comparator of domain n is "under" (home: RSTAT.UVLO, LSTAT.UVLO for LOCK). -/
def State.lockedOut (s : State) (n : Nat) : Bool := if n = 9 then s.b F.DOM9_LSTAT_UVLO else s.b (F.DOM_RSTAT_UVLO n)

/-- Set the lockout comparator of domain n. -/
def State.setLockout (s : State) (n : Nat) (v : Bool) : State := if n = 9 then s.pb F.DOM9_LSTAT_UVLO v else s.pb (F.DOM_RSTAT_UVLO n) v

/-- R222: the rising and falling thresholds of domain n's lockout comparator, typical, in mV. -/
def lockoutLevels (n : Nat) : Nat × Nat := if n = 2 || n = 9 || n = 10 then (7000, 6500) else (4600, 4300)

/-- R579: byte i of the present band's entry. -/
def State.bandByte (s : State) (i : Nat) : Nat :=
  let w := s.rn (A.THM_BT (16 * s.g F.THM_STAT_BAND + i / 2))
  if i % 2 = 0 then w % 256 else w / 256

/-- R226: the highest frequency code marked for domain n. -/
def topFsw (n : Nat) : Nat := if n = 3 || n = 4 || n = 5 || n = 6 then 2 else if n = 7 then 6 else 7

/-- R227: the effective frequency code of domain n (SENSE has none). The band's entries stand in the order HOUSE, IO, CORE_A, CORE_B, AUX18, GATE12, FIELD. -/
def State.fswEff (s : State) (n : Nat) : Nat :=
  if n = 8 || n = 9 then 0
  else
    let band := s.bandByte (if n = 10 then 6 else n - 2) % 8
    min (topFsw n) (max (s.g (F.DOM_RCFG_FSW n)) band)

/-- R227, R582: the effective limit code of domain n: the smaller of DOMn_ILIM and the band's code, and for FIELD the throttle's limit while THR_ENF is set. -/
def State.ilimEff (s : State) (n : Nat) : Nat :=
  let lim := min (s.g (F.DOM_ILIM_CODE n)) (s.bandByte (n + 6) % 16)
  if n = 10 && s.b F.THM_STAT_THRENF then min lim (s.g F.THM_THRLIM1_FIELD) else lim

/-- R230: the limit acted within the latest 1 ms (33 LF periods). -/
def State.limActive (s : State) (n : Nat) : Bool :=
  match (s.domAt n).limTick with
  | none => false
  | some t => decide (s.ticks < t + 33)

/-- R220: the target of domain n in mV for a setpoint code. -/
def targetMv (n code : Nat) : Nat :=
  if n = 2 then 5000 + 10 * code
  else if n = 3 then 1800 + 10 * code
  else if isDvs n then 600 + 5 * code
  else if n = 6 then 1200 + 10 * code
  else if n = 7 then 10000 + 50 * code
  else if n = 8 then 2500 + 25 * code
  else 12000 + 50 * code

/-- R235: FIELD's operating mode for a VDRV and a target in mV, from the mode it is in (1 buck, 2 buck-boost, 3 boost; 0 off), with 3 % hysteresis on each boundary: entering is at the
boundary, leaving 3 % beyond it (DESIGN CHOICE, log entry 96: the rule names no side). -/
def fieldMode (fmode old vdrv target : Nat) : Nat :=
  if fmode = 1 then 1
  else
    let up := if old = 1 then 125 * 97 * target else 125 * 100 * target      -- buck holds down to 97 % of the boundary
    let dn := if old = 3 then 80 * 103 * target else 80 * 100 * target       -- boost holds up to 103 % of it
    if up ≤ vdrv * 10000 then 1 else if vdrv * 10000 ≤ dn then 3 else 2

/-- R233, R550: the tracking thresholds of a DVS domain: the final target minus and plus the margin, as threshold codes. -/
def trackCodes (code win : Nat) : Nat × Nat :=
  let mv := targetMv 4 code
  let w := [3, 5, 8, 10].getD win 5
  (thrCode (mv * (100 - w)) 100 2, thrCode (mv * (100 + w)) 100 2)

/-- R233: rewrite the thresholds of the domain's monitor where TRACK is 1. -/
def State.track (s : State) (n : Nat) : State :=
  if isDvs n && s.b (F.DOM_SLEW_TRACK n) then
    let c := trackCodes (s.g (F.DOM_VACT_CODE n)) (s.g (F.DOM_SLEW_WIN n))
    (s.wn (A.CMP_LO (n - 1)) c.1).wn (A.CMP_HI (n - 1)) c.2
  else s

/-- R236, R554: the phase LOCK enters when its switch begins to conduct: pull-in, or hold where PULLIN is 0. Its turn-on is a blanking edge. -/
def State.lockStart (s : State) : State :=
  (({ s with lock := { s.lock with idle := false } } : State).p F.DOM9_LSTAT_PHASE (if s.g F.DOM9_LCFG_PULLIN = 0 then 2 else 1)).turnOn 9

/-- R237, R554: the LOCK switch stops for good: a blanking edge where it conducted, or where a pull-in ends with it. -/
def State.lockHalt (s : State) (phase : Nat) : State :=
  let edge := s.lockHolds && (!s.lock.idle || s.g F.DOM9_LSTAT_PHASE = 1)
  (s.p F.DOM9_LSTAT_PHASE phase).when edge State.lockEdge

/-- R238: LOCK demagnetises, by the clamp or through the freewheel switch. -/
def State.lockDemag (s : State) (clamp : Bool) : State :=
  let d : Demag := if !clamp then .freewheel else if s.b F.DOM9_LCFG_CLAMP then .clamp48 else .clamp24
  ({ s with lock := { s.lock with demag := d } } : State).lockHalt 3

/-- R222, R224, R225, R236: the regulator of domain n starts: an open discharge path, and a soft-start unless its input is locked out. An ENABLE of LOCK that finds it demagnetising with its input
locked out leaves it demagnetising (DESIGN CHOICE, log entry 89: R238 ends the demagnetisation with a full pull-in, which R222 bars). -/
def State.regStart (s : State) (n : Nat) : State :=
  let s := s.setDom n (fun d => { d with ssEnded := false, wasGood := false, uvRep := false, ovRep := false, slew := .none, ss := false })
  if n = 9 then
    let s := s.p F.DOM9_LSTAT_SCLATCH 0
    let s := { s with lock := { s.lock with scCount := 0 } }
    if s.lockedOut 9 then s else s.lockStart.setDom 9 (fun d => { d with ss := true })
  else
    let s := (s.p (F.DOM_RSTAT_DISCH n) 0).wn (A.DOM_VACT n) (s.g (F.DOM_VSET_CODE n))
    if s.lockedOut n then s else s.setDom n (fun d => { d with ss := true })

/-- R225, R232, R238: the regulator of domain n stops, with active discharge where `disch`; a slew is abandoned; LOCK demagnetises. -/
def State.regStop (s : State) (n : Nat) (disch : Bool) : State :=
  let s := s.setDom n (fun d => { d with ss := false, ssEnded := false, wasGood := false, uvRep := false, ovRep := false, slew := .none, fresh := false })
  let s := s.p (F.DOM_STAT_MASKED n) 0
  if n = 9 then
    if s.lockHolds then s.lockDemag disch else s
  else (s.pb (F.DOM_RSTAT_DISCH n) disch).when (n = 10) (·.p (F.DOM_RSTAT_FMODEACT 10) 0)

/-- R190, R192: MASKED clears and the comparators are judged afresh, whatever was reported before the slew: an over-voltage that is still present is reported at that moment, and so is an
under-voltage by a sampled monitor, which has no UVFILT. -/
def State.unmask (s : State) (off : State → Nat → State) (n : Nat) : State :=
  ((s.p (F.DOM_STAT_MASKED n) 0).setDom n (fun d => { d with slew := .none, uvRep := false, ovRep := false })).afterJudge off (n - 1)

/-- R222: the lockout comparator of domain n judges its input, in mV; R187 gives its first state. -/
def lockoutJudge (n : Nat) (under : Bool) (mv : Nat) : Bool :=
  let (r, f) := lockoutLevels n
  if under then decide (mv ≤ r) else decide (mv < f)

/-- R222, R232: what a change of the lockout does to a domain that is on. A locked-out LOCK shows phase 0 at once and demagnetises nothing (DESIGN CHOICE, log entry 89: the spec names no
phase for it). -/
def State.lockoutChange (s : State) (off : State → Nat → State) (n : Nat) (under : Bool) : State :=
  let s := s.setLockout n under
  if s.cmdOn n then
    if under then
      let s := s.setDom n (fun d => { d with ss := false, ssEnded := false })
      let s := s.when (n = 9 && s.lockHolds) (·.lockHalt 0)
      s.when (s.maskedDom n) (fun s => s.unmask off n)
    else if n = 9 && s.b F.DOM9_LSTAT_SCLATCH then s
    else (s.setDom n (fun d => { d with ss := true })).when (n = 9) State.lockStart
  else s

/-- R221, R232: a setpoint code of domain n (2 to 8, 10) is stored; CORE_A and CORE_B, while on, take it as their target: a slew starts or is retargeted, or a running soft-start is.
A domain whose input is locked out only takes the new target (DESIGN CHOICE, log entry 90). -/
def State.setVset (s : State) (n code : Nat) : State :=
  let s := s.p (F.DOM_VSET_CODE n) code
  if isDvs n && s.cmdOn n then
    if s.g (F.DOM_VACT_CODE n) = code % 512 then s
    else if (s.domAt n).ssEnded then
      ((s.p (F.DOM_VACT_CODE n) code).p (F.DOM_STAT_MASKED n) 1).setDom n (fun d => { d with slew := .slewing })
    else s.p (F.DOM_VACT_CODE n) code
  else s

/-- R236: the duty of a hold period in units of 1/1,000: DOM9_HOLD, or with HOLDCOMP that duty × V_PI ÷ VDRV, capped at 100 %. The compensated duty is rounded down, and a LOCK that skips its
pull-in uses the V_PI of an earlier one (DESIGN CHOICE, log entry 91: the spec names neither). -/
def State.lockDuty (s : State) (vdrvMv : Nat) : Nat :=
  let d := 10 * s.g F.DOM9_HOLD_DUTY
  if s.b F.DOM9_LCFG_HOLDCOMP then (if vdrvMv = 0 then 1000 else min 1000 (d * s.lock.vpi / vdrvMv)) else min 1000 d

/-- R235: FIELD's mode follows VDRV while it is on. -/
def State.fieldFollow (s : State) (vdrvMv : Nat) : State :=
  if s.cmdOn 10 && ((s.domAt 10).ss || (s.domAt 10).ssEnded) then
    s.p (F.DOM_RSTAT_FMODEACT 10)
      (fieldMode (s.g (F.DOM_RCFG_FMODE 10)) (s.g (F.DOM_RSTAT_FMODEACT 10)) vdrvMv (targetMv 10 (s.g (F.DOM_VACT_CODE 10))))
  else s.p (F.DOM_RSTAT_FMODEACT 10) 0

/-- R222: each lockout comparator starts afresh at the entry to POWER-UP: "under"; outside the states with engines it reads 0. -/
def State.lockoutsFresh (s : State) (v : Bool) : State := s.each [2, 3, 4, 5, 6, 7, 8, 9, 10] (fun s n => s.setLockout n v)

end Sys2Proof.Machine
end

