-- ==== Sys2Proof/Machine/Drive.lean ====
section
/-! DEFINITION. The DRIVE multiphase converter (09_drive_converter.md): phases, frame, synchronisation, control law, balance, target, start and stop, limits, retirement. -/
namespace Sys2Proof.Machine

/-- Change DRIVE's record. -/
def State.setDrv (s : State) (f : Drive → Drive) : State := { s with drv := f s.drv }

/-- A whole number next to an exact value: the value itself where it is whole; else one of its two neighbours, which the spec leaves open. -/
def State.roundOpen (s : State) (x : Rat) : Int × State :=
  if x.den = 1 then (x.num, s) else
    let (up, s) := s.choice
    (if up then x.floor + 1 else x.floor, s)

/-! ### Phases (R281, R306, R310) -/

/-- Count the ones of a mask of six. -/
def ones6 (m : Nat) : Nat := (List.range 6).foldl (fun n k => n + (m.testBit k).toNat) 0

/-- R281: the available phases: fitted and enabled. -/
def State.phAvail (s : State) : Nat := (s.g F.DRV_PHCFG_FITTED).land (s.g F.DRV_PHEN_EN)

/-- R281: the phases in service: available and not retired. -/
def State.phSvc (s : State) : Nat := s.phAvail.land (63 - s.g F.DRV_PHSTAT_RETIRED)

/-- R281: the active phases: in service and not shed. -/
def State.phActive (s : State) : Nat := s.phSvc.land (63 - s.g F.DRV_PHSTAT_SHED)

/-- Phase k (1 to 6) is in a mask. -/
def inMask (m k : Nat) : Bool := m.testBit (k - 1)

/-- R326: the cause recorded for phase k. -/
def State.retCause (s : State) (k : Nat) : Nat := s.g ⟨A.DRV_RETCAUSE, 2 * k - 2, 2⟩

/-- R310, R312: what the detection of phase k asks for, while its frame edge has not come. -/
def State.detCause (s : State) (k : Nat) : Nat := match s.drv.det.find? (fun d => d.phase = k) with | some d => d.cause | none => 0

/-- R310, R311: the active phases that remain: those that no detection is about to take out of service. -/
def State.phRemain (s : State) : Nat :=
  (List.range 6).foldl (fun m k => if s.phActive.testBit k && s.detCause (k + 1) ≠ 1 && s.detCause (k + 1) ≠ 2 then m + 2 ^ k else m) 0

/-- R312: phase k is in duty mirror: from the start of cycle k + 1 on. -/
def State.mirrored (s : State) (k : Nat) : Bool := s.retCause k = 3 || s.detCause k = 3

/-- R296: the balanced phases: active and not in duty mirror. -/
def State.phBalanced (s : State) : Nat :=
  (List.range 6).foldl (fun m k => if s.phActive.testBit k && !s.mirrored (k + 1) then m + 2 ^ k else m) 0

/-- R312: DRV_MIN_PHASES. -/
def State.minPhases (s : State) : Nat := s.g F.DRV_PHCFG_MIN_PHASES

/-- R285, R286: the device offset in units of 360°/32. -/
def State.drvOffset (s : State) : Nat := if s.b F.DRV_SYNC_AUTOOFS then s.wayAddr else s.g F.DRV_SYNC_OFS

/-! ### Currents (R333, R272): what the shunts and the phase senses show, in A -/

/-- R333: the total output current, for the voltage on the DRIVE shunt in µV. -/
def State.ioutOf (s : State) (dcs : Int) : Rat := (dcs : Rat) / (10 * s.g F.DRV_CSCFG_RTOT : Nat)

/-- R333: the current of a phase, for the voltage on its sense pair in µV. -/
def State.iphOf (s : State) (cs : Int) : Rat := (cs : Rat) / (100 * s.g F.DRV_CSCFG_GPH : Nat)

/-- R272: the line current, for the voltage on the line shunt in µV. -/
def State.iinOf (s : State) (lsense : Int) : Rat := (lsense : Rat) / (([500, 1000, 2000, 3000, 5000, 10000, 20000].getD (s.g F.LIN_CFG1_RSH) 2000 : Nat))

/-- R285: the angle of phase k in degrees, where it is among the phases whose angles are in force. -/
def State.phaseAngle (s : State) (k : Nat) : Option Rat :=
  if inMask s.drv.angles k then
    let j := ones6 (s.drv.angles % 2 ^ (k - 1))
    let a : Rat := (s.drv.ofs : Rat) * 360 / 32 + (j : Rat) * 360 / (ones6 s.drv.angles : Rat)
    some (a - 360 * (a / 360).floor)
  else none

/-! ### Target (R297) -/

/-- R349, R375: the pre-arm boost applies while a stroke is pre-armed or running. -/
def State.boosted (s : State) : Bool := s.b F.STK_STAT_PREARM || s.b F.STK_STAT_RUNNING

/-- The boost in codes of 20 mV (STK_PRECFG.BOOST in steps of 100 mV is five codes each; see `boostCodes` in the stroke file for the emergency rule). -/
def State.boostNow (s : State) : Nat := if s.boosted then s.stk.boost else 0

/-- R297: the target in effect as a code of DRV_VSET, and the override that shapes it (OVR of R317). OVR reads 2 throughout a proving override, whether or not its target is the smaller value, and 1
while a boost is added, though DRV_VMAX may hide it (DESIGN CHOICE, log entry 94: R297 names neither case). -/
def State.drvTarget (s : State) : Nat × Nat :=
  let base := s.g F.DRV_VSET_CODE + s.boostNow
  let vmax := s.g F.DRV_VMAX_CODE
  match s.stk.proveTarget with
  | some p => if s.b F.STK_STAT_BATTPH then (min (min base p) vmax, 2) else (min base vmax, if s.boostNow = 0 then 0 else 1)
  | none => (min base vmax, if s.boostNow = 0 then 0 else 1)

/-- R316: a code of DRV_VSET in V. -/
def codeV (code : Nat) : Rat := 12 + (code : Rat) / 50

/-- R317: the final target in effect, in V. -/
def State.vTarget (s : State) : Rat := codeV (s.g F.DRV_VACT_CODE)

/-- DRIVE is commanded on. -/
def State.drvOn (s : State) : Bool := s.cmdOn 1

/-- R298, R299: the target in effect is formed anew: stored while DRIVE is off; the soft-start is retargeted while it runs, and keeps its slope; else a slew starts or is retargeted, at the maximum slope where
`fast`. A code equal to the target in effect starts nothing. Off, DRV_VACT keeps what it showed last (DESIGN CHOICE, log entry 99: R317 gives it a
value only before the first switch-on). -/
def State.retarget (s : State) (fast : Bool) : State :=
  let (c, ovr) := s.drvTarget
  if !s.drvOn then s
  else
    let old := s.g F.DRV_VACT_CODE
    let s := (s.p F.DRV_VACT_CODE c).p F.DRV_VACT_OVR ovr
    if c = old then s
    else if (s.domAt 1).ssEnded then
      ((s.p (F.DOM_STAT_MASKED 1) 1).setDom 1 (fun d => { d with slew := .slewing })).setDrv (fun d => { d with fast := fast, up := decide (d.vref < codeV c) })
    else s.setDrv (fun d => { d with fast := false, ssRet := true })

/-! ### Trims (R296) -/

/-- R296: every trim to zero, the averages restart. -/
def State.resetTrims (s : State) : State :=
  let b := s.phBalanced
  (s.setDrv (fun d => { d with trims := [0, 0, 0, 0, 0, 0], bal := b })).each (List.range 6) (fun s k => s.wn (A.DRV_TRIM k) 0)

/-- R296: where the set of balanced phases has changed, the trims are reset. -/
def State.trimFollow (s : State) : State := s.when (decide (s.drv.bal ≠ s.phBalanced)) State.resetTrims

/-! ### Start, stop, line loss (R299 to R301) -/

/-- The integrators cleared (R300). The error of the frame before counts as 0 in the first frame (DESIGN CHOICE, log entry 94: R291 names no value). -/
def Drive.clear (d : Drive) : Drive := { d with i := 0, d := 0, dc := 0, cin := 0, ePrev := 0, heldPrev := false, duty := 0, ovlRaised := false }

/-- R303: the effective total limit in A: DRV_ITOT × S ÷ F. -/
def State.itotEff (s : State) : Rat :=
  let f := ones6 s.phAvail
  if f = 0 then 0 else (s.g F.DRV_ITOT_ILIM : Rat) / 10 * (ones6 s.phSvc : Rat) / (f : Rat)

/-- R329: KNEE and FBMIN as fractions. -/
def State.knee (s : State) : Rat := ([60, 70, 80, 90].getD (s.g F.DRV_OCCFG_KNEE) 80 : Nat) / 100
/-- R329. -/
def State.fbMin (s : State) : Rat := ([10, 25, 40, 60].getD (s.g F.DRV_OCCFG_FBMIN) 25 : Nat) / 100

/-- R303: the fold-back limit at V, in A. -/
def State.ifb (s : State) (v : Rat) : Rat :=
  let kt := s.knee * s.vTarget
  if kt ≤ v then s.itotEff else s.itotEff * (s.fbMin + (1 - s.fbMin) * v / kt)

/-- R303: fold-back is left out during a soft-start and during an upward slew. -/
def State.noFold (s : State) : Bool :=
  (s.domAt 1).ss || ((s.domAt 1).slew = .slewing && s.drv.up)

/-- R303: the current-limit ceiling ioc in A and its origin (R336: 0 ITOT_eff, 1 fold-back, 2 per-phase overload). Of two equal ceilings the one of the lower code is the origin (DESIGN CHOICE, log entry 99). -/
def State.ioc (s : State) : Rat × Nat :=
  let fb := if s.noFold then s.itotEff else s.ifb ((s.drv.vdrv : Rat) / 1000)
  let fbO := if fb < s.itotEff then 1 else 0
  let ph := (ones6 s.phSvc : Rat) * (s.g F.DRV_IPHOVL_ILIM : Rat) / 10
  match s.g F.DRV_OCCFG_OCMODE with
  | 0 => (fb, fbO)
  | 1 => if ph < s.itotEff then (ph, 2) else (s.itotEff, 0)
  | _ => if ph < fb then (ph, 2) else (fb, fbO)

/-- R299: the case of a switch-on, or of a change of the sluice or the weir before power-good: soft-start from VDRV, waiting for the takeover, or waiting for the sluice. -/
def State.drvDecide (s : State) : State :=
  if s.line.fullOn then
    let s := s.p F.DRV_STAT_MODE 2
    let s := (s.setDom 1 (fun d => { d with ss := true, ssEnded := false })).setDrv (fun d => { d.clear with vref := (d.vdrv : Rat) / 1000, fast := false, ssRet := false })
    let c := s.ioc.1
    s.setDrv (fun d => { d with cin := c })
  else if s.weirOn then (s.p F.DRV_STAT_MODE 4).setDom 1 (fun d => { d with ss := true, ssEnded := false })
  else (s.p F.DRV_STAT_MODE 1).setDom 1 (fun d => { d with ss := true, ssEnded := false })

/-- R299: DRIVE starts: the target in effect is taken, the discharge path opens, and the case is decided. -/
def State.drvStart (s : State) : State :=
  let s := s.setDom 1 (fun d => { d with ssEnded := false, wasGood := false, uvRep := false, ovRep := false, slew := .none, ss := true })
  let (c, ovr) := s.drvTarget
  let s := ((s.p F.DRV_VACT_CODE c).p F.DRV_VACT_OVR ovr).setDrv (fun d => { d with disch := false })
  (s.setDrv (fun d => { d with angles := s.phActive, ofs := s.drvOffset })).trimFollow.drvDecide

/-- R300: regulation resumes: vref at the smaller of VDRV and the target, moving to the target, cin at ioc. -/
def State.drvResume (s : State) : State :=
  let v : Rat := (s.drv.vdrv : Rat) / 1000
  let start := if v < s.vTarget then v else s.vTarget
  let s := (s.p F.DRV_STAT_MODE 3).setDom 1 (fun d => { d with ss := false, ssEnded := true })
  let s := s.setDrv (fun d => { d.clear with vref := start, fast := false, up := true, ssRet := false })
  let s := if start = s.vTarget then s else (s.p (F.DOM_STAT_MASKED 1) 1).setDom 1 (fun d => { d with slew := .slewing })
  let c := s.ioc.1
  s.setDrv (fun d => { d with cin := c })

/-- R301: DRIVE stops, with the discharge path where `disch`. -/
def State.drvStop (s : State) (disch : Bool) : State :=
  let s := s.setDom 1 (fun d => { d with ss := false, ssEnded := false, wasGood := false, uvRep := false, ovRep := false, slew := .none, fresh := false })
  let s := ((s.p (F.DOM_STAT_MASKED 1) 0).p F.DRV_STAT_MODE 0).p F.DRV_STAT_LIMBY 0
  let s := (s.p F.DRV_STAT_NEG 0).wn A.DRV_DUTY 0
  let s := s.p F.DRV_SYNCSTAT_LOCK 0
  s.setDrv (fun d => { d.clear with disch := disch, lockCnt := 0, syncGone := false, pull := 0 })

/-- R299, R300: DRIVE goes to MODE 1 or 4; before power-good the case is decided anew, and the soft-start waits. -/
def State.drvWait (s : State) (mode : Nat) : State :=
  (s.p F.DRV_STAT_MODE mode).setDom 1 (fun d => if d.wasGood then d else { d with ss := true, ssEnded := false })

/-- R300, R268: switching stops on a line loss; DRIVE stays commanded on, on battery while the weir conducts. -/
def State.drvLineLost (s : State) : State :=
  if s.drvOn then
    let s := (s.drvWait (if s.weirOn then 4 else 1)).p F.DRV_STAT_LIMBY 0
    ((s.p F.DRV_STAT_NEG 0).wn A.DRV_DUTY 0).setDrv Drive.clear
  else s

/-- R299: a change of the weir, while DRIVE is on and the sluice is not fully on, changes between waiting and on battery. -/
def State.drvWeirChange (s : State) : State :=
  if s.drvOn && !s.line.fullOn && s.g F.DRV_STAT_MODE = (if s.weirOn then 1 else 4) then s.drvWait (if s.weirOn then 4 else 1) else s

/-- R299, R691: the soft-start that has waited in the third case begins, from the smaller of VDRV and the target (R300), at DRV_SLEW.SSSLOPE (DEDUCED, log entry 53: R299 starts it "as a resume",
and R691 has it take the time of a soft-start). -/
def State.drvWaited (s : State) : State :=
  s.drvDecide.setDrv (fun d => { d with vref := if d.vref < s.vTarget then d.vref else s.vTarget })

/-- R299, R300: the sluice has become fully on while DRIVE is on and not regulating. -/
def State.drvSluiceOn (s : State) : State :=
  if s.drvOn && s.g F.DRV_STAT_MODE = 1 && (s.domAt 1).ss then s.drvWaited
  else if s.drvOn && (s.g F.DRV_STAT_MODE = 1 || s.g F.DRV_STAT_MODE = 4) then s.drvResume else s

/-! ### The frame (R283, R285, R291 to R294, R298) -/

/-- What a frame edge measures. -/
def coefS (w : Word) (sh : Nat) : Rat := (w.toInt : Rat) / (2 ^ sh : Nat)
/-- An unsigned coefficient of R295. -/
def coefU (w : Word) (sh : Nat) : Rat := (w.toNat : Rat) / (2 ^ sh : Nat)

/-- A value limited to a range. -/
def clampR (lo hi v : Rat) : Rat := if v < lo then lo else if hi < v then hi else v

/-- R319: a slope code in V/ms. -/
def slopeOf (code : Nat) : Rat := ([1, 2, 5, 10, 20, 50, 100, 100].getD code 100 : Nat) / 10

/-- R298, R299: how far vref may move in one frame, in V: the slope in force × DIV ÷ 96 MHz. -/
def State.vrefStep (s : State) : Rat :=
  let sl := if s.drv.fast then 20 else if (s.domAt 1).ss then slopeOf (s.g F.DRV_SLEW_SSSLOPE) else slopeOf (s.g F.DRV_SLEW_SLOPE)
  sl * (s.g F.DRV_FSW_DIV : Rat) / 96000

/-- A value moved toward another by at most a step. -/
def toward (v goal step : Rat) : Rat :=
  if v < goal then (if goal ≤ v + step then goal else v + step) else (if v - step ≤ goal then goal else v - step)

/-- R298: the reference moves each frame while DRIVE is on and a slew or a soft-start on the line runs. -/
def State.moveVref (s : State) : State :=
  if s.drvOn && ((s.domAt 1).slew = .slewing || s.g F.DRV_STAT_MODE = 2) then
    s.setDrv (fun d => { d with vref := toward d.vref s.vTarget s.vrefStep })
  else s

/-- DRIVE regulates: soft-start on the line, or regulating. -/
def State.regulates (s : State) : Bool := s.drvOn && (s.g F.DRV_STAT_MODE = 2 || s.g F.DRV_STAT_MODE = 3)

/-- R292: the floor of the demand in A. -/
def State.ifloor (s : State) : Rat :=
  if s.b F.DRV_SLEW_NEGI && s.line.fullOn && !s.weirOn && !(s.domAt 1).ss then
    -((1 : Rat) / 4) * ((s.g F.DRV_IPHOVL_ILIM : Rat) / 10) * (ones6 s.phSvc : Rat)
  else 0

/-- R294: the line current that DRIVE may take, in A: the effective limit, less what the charger holds when it takes precedence (R408). -/
def State.ilimIn (s : State) : Rat :=
  (s.ieff : Rat) / 10 - s.chg.held

/-- R335, R337, R338: a measured value rounded to a word that holds `lo` to `hi`. One beyond them is a free word, since the spec names no saturation (DESIGN CHOICE, log entry 100). -/
def State.wordOpen (s : State) (lo hi : Int) (x : Rat) : Int × State :=
  let (v, s) := s.roundOpen x
  if lo ≤ v && v ≤ hi then (v, s)
  else
    let (f, s) := s.free 65536
    ((f : Int), s)

/-- R291 to R294, R338: one frame of the control law, for the currents iout and iin in A. -/
def State.controlLaw (s : State) (iout iin : Rat) : State :=
  let ioc := s.ioc
  let cin := clampR 0 ioc.1 (s.drv.cin + coefU (s.rd (A.DRV_COEF 6)) 12 * (s.ilimIn - iin))
  let iceil := if cin < ioc.1 then cin else ioc.1
  let origin := if cin < ioc.1 then 3 else ioc.2
  let ifl := s.ifloor
  let e := s.drv.vref - (s.drv.vdrv : Rat) / 1000
  let p := coefS (s.rd (A.DRV_COEF 0)) 8 * e
  let i := if s.drv.heldPrev then s.drv.i else s.drv.i + coefS (s.rd (A.DRV_COEF 1)) 16 * e
  let al := coefU (s.rd (A.DRV_COEF 3)) 16
  let d := (1 - al) * s.drv.d + al * coefS (s.rd (A.DRV_COEF 2)) 8 * (e - s.drv.ePrev)
  let raw := p + i + d
  let id := clampR ifl iceil raw
  let ec := id - iout
  let dc := s.drv.dc + coefS (s.rd (A.DRV_COEF 5)) 20 * ec
  let ff := if s.b F.DRV_FF_LINEFF && s.drv.vlsrc ≠ 0 then s.drv.vref / ((s.drv.vlsrc : Rat) / 1000) else 0
  let duty := ff + coefS (s.rd (A.DRV_COEF 4)) 16 * ec + dc
  let limby := if iceil ≤ raw then 1 else if raw ≤ ifl then 2 else 0
  let s := s.setDrv (fun x => { x with i := i, d := d, dc := dc, cin := cin, ePrev := e, heldPrev := limby ≠ 0, duty := duty,
                                       ovlRaised := x.ovlRaised && limby = 1 })
  let s := (s.p F.DRV_STAT_LIMBY limby).pb F.DRV_STAT_NEG (decide (iout < 0))
  let s := s.p F.DRV_ICEIL_ORIGIN origin
  let (c, s) := s.roundOpen (clampR 0 4095 (10 * iceil))
  let s := s.p F.DRV_ICEIL_ILIM c.toNat
  let (w, s) := s.wordOpen 0 65535 (65536 * duty)
  s.wi A.DRV_DUTY w

/-- R281, R310: PWMk switches: DRIVE regulates, the phase is active, and no detection holds it at high impedance. -/
def State.switches (s : State) (k : Nat) : Bool := s.regulates && inMask s.phActive k && s.detCause k ≠ 1 && s.detCause k ≠ 2

/-- R338: DRV_DUTY as it reads: 0 while no phase switches. -/
def State.dutyWord (s : State) : Nat := if [1, 2, 3, 4, 5, 6].any s.switches then s.rn A.DRV_DUTY else 0

/-- R291: the duty of phase k: the common duty and the phase's trim, from 0 to 95 %; in duty mirror the mean duty of the balanced phases, without a trim (R312). A phase that is about to be
retired is at high impedance (R310). -/
def State.phaseDuty (s : State) (k : Nat) : Rat :=
  if s.switches k then
    let own (k : Nat) : Rat := clampR 0 (95 / 100) (s.drv.duty + s.drv.trims.getD (k - 1) 0)
    if s.mirrored k then
      let bal := (List.range 6).filter (fun j => s.phBalanced.testBit j && s.detCause (j + 1) = 0)
      if bal.isEmpty then clampR 0 (95 / 100) s.drv.duty else (bal.foldl (fun a j => a + own (j + 1)) 0) / (bal.length : Rat)
    else own k
  else 0

/-- R283: PWMk goes high in a frame: the on-time that its duty gives of the period DIV ÷ 96 MHz (DEDUCED, log entry 45) is no pulse shorter than 60 ns, which is omitted. -/
def State.pulses (s : State) (k : Nat) : Bool := decide (576 ≤ 100 * s.phaseDuty k * (s.g F.DRV_FSW_DIV : Rat))

/-- R283, R291, R554: the PWM of some active phase rises in a frame. -/
def State.pwmRises (s : State) : Bool := (List.range 6).any (fun k => s.pulses (k + 1))

/-- R289: SYNC_OUT: low, or the angle after the frame edge in degrees at which its square wave rises; one that follows phase 1 rises only where that phase turns on. -/
def State.syncOut (s : State) : Option Rat :=
  match s.g F.DRV_SYNC_OUTSEL with
  | 1 => if s.drvOn then some 0 else none
  | 2 => if s.pulses 1 then s.phaseAngle 1 else none
  | _ => none

/-- R308: a phase may be found open with iout in 0.1 A: its duty is above zero, and iout exceeds 20 % of ITOT_eff. -/
def State.mayBeOpen (s : State) (k iout : Nat) : Bool := decide (0 < s.phaseDuty k) && decide (s.itotEff * 2 < (iout : Rat))

/-- R309: a test of a phase's sense may fail: that of the ripple only while the phase switches. -/
def State.maySenseFail (s : State) (k test : Nat) : Bool := test ≠ 2 || s.switches k

/-- R335: the three measurements held for the host and for IS, updated every 1 ms at one frame edge: VDRV in 10 mV, iout and iin in 10 mA. -/
def State.holdMeasures (s : State) (vdrvMv : Nat) (iout iin : Rat) : State :=
  let (v, s) := s.wordOpen 0 65535 ((vdrvMv : Rat) / 10)
  let (o, s) := s.wordOpen (-32768) 32767 (100 * iout)
  let (i, s) := s.wordOpen (-32768) 32767 (100 * iin)
  ((s.wi A.DRV_VOUT v).wi A.DRV_IOUT o).wi A.DRV_IIN i

/-! ### Balance (R296) -/

/-- R296, R337: one balance update for the mean phase currents and iout in A. DRV_IPHk of an active phase in duty mirror holds its own mean too (DESIGN CHOICE, log entry 99: R296 forms none of it). -/
def State.balance (s : State) (ibars : List Rat) (iout : Rat) : State :=
  let act := s.phActive
  let s := s.each (List.range 6) (fun s k =>
    let (v, s) := s.wordOpen (-32768) 32767 (if act.testBit k then 100 * ibars.getD k 0 else 0)
    s.wi (A.DRV_IPH k) v)
  let bal := (List.range 6).filter (fun k => s.phBalanced.testBit k)
  if bal.length < 2 || decide (iout < s.itotEff / 10) then s
  else
    let n : Rat := (bal.length : Rat)
    let m := (bal.foldl (fun a k => a + ibars.getD k 0) 0) / n
    let kb := coefU (s.rd (A.DRV_COEF 7)) 20
    let t1 := (List.range 6).map (fun k => if bal.contains k then s.drv.trims.getD k 0 - kb * (ibars.getD k 0 - m) else 0)
    let mean := (bal.foldl (fun a k => a + t1.getD k 0) 0) / n
    let t2 := (List.range 6).map (fun k => if bal.contains k then clampR (-1 / 20) (1 / 20) (t1.getD k 0 - mean) else 0)
    let s := s.setDrv (fun d => { d with trims := t2 })
    s.each (List.range 6) (fun s k =>
      let (v, s) := s.roundOpen (65536 * t2.getD k 0)
      s.wi (A.DRV_TRIM k) v)

/-! ### Retirement (R308 to R313) -/

/-- R306, R325: the shed phases, from now on and from the next frame edge on. -/
def State.setShed (s : State) (m : Nat) : State := (s.p F.DRV_PHSTAT_SHED m).setDrv (fun d => { d with shedNext := m })

/-- R310, R312: at its frame edge a detected phase leaves service, or enters duty mirror. A shed or re-add that waited for the same edge is dropped: at most one phase changes there (DESIGN CHOICE, log
entry 94: R306 does not say which change yields). -/
def State.retireOne (s : State) (d : Detected) : State :=
  let s := s.p ⟨A.DRV_RETCAUSE, 2 * d.phase - 2, 2⟩ d.cause
  let s := if d.cause = 3 then s else (s.p F.DRV_PHSTAT_RETIRED ((s.g F.DRV_PHSTAT_RETIRED).lor (2 ^ (d.phase - 1)))).setShed ((s.g F.DRV_PHSTAT_SHED).land (63 - 2 ^ (d.phase - 1)))
  s.inc A.DRV_CNTRET

/-- R311: where fewer phases would be active than MINACT, shed phases become active again, the lowest-numbered first. -/
def State.keepMinAct (s : State) : State :=
  s.each (List.range 6) (fun s k =>
    if s.phSvc.testBit k && (s.g F.DRV_PHSTAT_SHED).testBit k && decide (ones6 s.phActive < s.g F.DRV_SHED_MINACT) then s.setShed (s.g F.DRV_PHSTAT_SHED - 2 ^ k) else s)

/-- R310: the phases named leave together, with one recomputation; each raises its source and posts its packet. -/
def State.retirePhases (s : State) (ks : List Nat) : State :=
  let ds := s.drv.det.filter (fun d => ks.contains d.phase)
  if ds.isEmpty then s
  else
    let before := ones6 s.phSvc
    let s := (s.each ds State.retireOne).keepMinAct
    let s := s.setDrv (fun x => { x with det := x.det.filter (fun d => !ks.contains d.phase), angles := s.phActive })
    let s := s.resetTrims
    let after := ones6 s.phSvc
    let s := s.each ds (fun s d => (s.raise ((if d.cause = 1 then 31 else 37) + d.phase)).post (.retirement d.phase d.cause d.test after d.iout))
    s.when (decide (s.minPhases ≤ before) && decide (after < s.minPhases)) (·.raise 51)

/-- R309, R310, R312: a phase is detected at the end of its cycle k; a sense failure is mirrored where its retirement would take the phases in service below DRV_MIN_PHASES. Of a shed phase only the common mode of its sense is tested (R306). -/
def State.detectPhase (s : State) (k cause test iout : Nat) : State :=
  if s.drvOn && (inMask s.phActive k || (inMask s.phSvc k && cause = 2 && test = 1)) && !(s.drv.det.any (fun d => d.phase = k)) && s.retCause k = 0 then
    let leaving := (s.drv.det.filter (fun d => d.cause ≠ 3)).length
    let mirror := cause = 2 && s.b F.DRV_PHCFG_MIRROR && decide (ones6 s.phSvc < s.minPhases + leaving + 1)
    (s.setDrv (fun x => { x with det := x.det ++ [⟨k, if mirror then 3 else cause, test, iout⟩] })).trimFollow
  else s

/-! ### Views -/

/-- R315: the condition 0x8A. -/
def State.minOk (s : State) : Bool := decide (s.minPhases ≤ ones6 s.phSvc)

/-- R315: DRV_STAT as it reads: MODE 6 while the discharge path is connected; SETTLED, FASTLIM and MINOK are live. -/
def State.drvStat (s : State) : Nat :=
  let w := s.rn A.DRV_STAT
  let m := w / 8192
  let m := if m = 0 && s.drv.disch && !s.weirOn then 6 else m
  let fl := match (s.domAt 1).limTick with | none => false | some t => decide (s.ticks < t + 33)
  8192 * m + w % 8192 / 2048 * 2048 + 1024 * (m = 3 && !s.b (F.DOM_STAT_MASKED 1)).toNat + w % 1024 / 256 * 256 + 128 * fl.toNat + 64 * s.minOk.toNat

/-- R325: DRV_PHSTAT as it reads. -/
def State.phStat (s : State) : Nat := 4096 * ones6 s.phSvc + s.rn A.DRV_PHSTAT % 4096

/-- R287: DRIVE is locked (condition 0x88, DRV_SYNCSTAT.LOCK). -/
def State.synced (s : State) : Bool := s.drvOn && s.g F.DRV_SYNC_MODE = 1 && s.b F.DRV_SYNCSTAT_LOCK

/-- R322: DRV_SYNCSTAT as it reads: in MODE 0 neither locked nor with a period. -/
def State.syncStat (s : State) : Nat :=
  32768 * s.synced.toNat + 16384 * s.g F.DRV_SYNCSTAT_LOST + (if s.g F.DRV_SYNC_MODE = 1 then s.g F.DRV_SYNCSTAT_PERIOD else 0)

/-- R41, R290: the lock of the fast oscillator in force. -/
def State.flock (s : State) : Nat :=
  match s.g F.DRV_SYNC_OSCLK with
  | 1 => 1
  | 2 => if s.synced then 2 else 1
  | _ => 0

end Sys2Proof.Machine
end

