-- ==== Sys2Proof/Machine/Battery.lean ====
section
/-! DEFINITION. What the rules of the battery share (11_backup_charger.md, 12_gauge_and_pack.md): the model of the pack, its OCV curve and impedance table, and the conditions 0x83 to 0x85. -/
namespace Sys2Proof.Machine

/-- Change the charger's record. -/
def State.setChgR (s : State) (f : Charger → Charger) : State := { s with chg := f s.chg }

/-- Change the gauge's record. -/
def State.setGau (s : State) (f : Gauge → Gauge) : State := { s with gau := f s.gau }

/-- R420: the cells in series. -/
def State.cells (s : State) : Nat := s.g F.CHG_CFG_CELLS + 1

/-- R463: byte i of the battery model. -/
def State.modelByte (s : State) (i : Nat) : Nat :=
  let w := s.rn (A.GAU_MODEL (i / 2))
  if i % 2 = 0 then w % 256 else w / 256

/-- R427: the signed word k of the charger zones. -/
def State.ztab (s : State) (k : Nat) : Int := s.ri (A.CHG_ZTAB k)

/-- R405: byte i of the charger zones. -/
def State.ztabByte (s : State) (i : Nat) : Nat :=
  let w := s.rn (A.CHG_ZTAB (i / 2))
  if i % 2 = 0 then w % 256 else w / 256

/-! ### Conditions -/

/-- R396: condition 0x83. -/
def State.present (s : State) : Bool := s.sup.pack

/-- R452, R456: condition 0x84: authentication has passed, or none is used. -/
def State.authOk (s : State) : Bool := s.g F.GAU_STAT_AUTH = 2 || !s.b F.GAU_CFG_AUTHEN

/-- R446: condition 0x85: RESERVE_STROKES is available and at or above its floor. -/
def State.reserveOk (s : State) : Bool :=
  decide (s.g F.GAU_RESERVE_STROKES ≤ 254) && decide (s.g F.GAU_RESERVE_FLOOR ≤ s.g F.GAU_RESERVE_STROKES)

/-- R400: the charger charges: STATE 3 to 7 (condition 0x86). -/
def State.charging (s : State) : Bool := decide (3 ≤ s.g F.CHG_STAT_STATE) && decide (s.g F.CHG_STAT_STATE ≤ 7)

/-! ### The OCV curve (R433, R434) -/

/-- R447: per-cell OCV point i, in mV. -/
def State.ocvPt (s : State) (i : Nat) : Nat := s.modelWord (4 + 2 * i)

/-- The per-cell voltage in mV at an SOC in %, interpolated (R445), the SOC taken from 0 to 100. -/
def State.ocvAt (s : State) (soc : Rat) : Rat :=
  let soc := clampR 0 100 soc
  let i := min 19 (soc / 5).floor.toNat
  let a : Rat := s.ocvPt i
  let b : Rat := s.ocvPt (i + 1)
  a + (b - a) * (soc - 5 * (i : Rat)) / 5

/-- The first interval of the curve whose upper end lies above a voltage; the last where none does. -/
def ocvInterval (pt : Nat → Nat) (v : Rat) (i fuel : Nat) : Nat :=
  match fuel with
  | 0 => i
  | k + 1 => if v < (pt (i + 1) : Rat) then i else ocvInterval pt v (i + 1) k

/-- The SOC in % of a per-cell voltage in mV, from 0 to 100, and whether the two points around it differ by at least 10 mV (R433). -/
def State.socOf (s : State) (v : Rat) : Rat × Bool :=
  let i := ocvInterval s.ocvPt v 0 19
  let a : Rat := s.ocvPt i
  let b : Rat := s.ocvPt (i + 1)
  let soc := if a = b then 5 * (i : Rat) else 5 * (i : Rat) + 5 * (v - a) / (b - a)
  (clampR 0 100 soc, decide (10 ≤ b - a))

/-! ### The impedance table (R441, R448) -/

/-- R441: the SOC points in %. -/
def socPoints : List Nat := [0, 5, 10, 20, 30, 40, 50, 60, 70, 80, 90, 100]

/-- Distance of two exact values. -/
def distR (a b : Rat) : Rat := if a < b then b - a else a - b

/-- R441: the SOC point nearest an SOC in %; of two equally near ones the spec names neither. -/
def socPoint (soc : Rat) : Nat :=
  (List.range 12).foldl (fun b i =>
    let di := distR soc (socPoints.getD i 0 : Nat)
    let db := distR soc (socPoints.getD b 0 : Nat)
    if di < db || (di = db && b < i && Config.tieUp b i) then i else b) 0

/-- R441: the lower edges of columns 1 to 9, in 0.125 °C. -/
def colEdges : List Int := [-160, -80, 0, 80, 160, 240, 320, 400, 480]

/-- R441, R579: the column: by TBAT with 1 °C hysteresis, or the present band's ZCOL while NTCEN is 0. -/
def State.column (s : State) : Nat :=
  if s.b F.CHG_CFG_NTCEN then
    let t := s.ri A.CHG_TBAT
    let up := (colEdges.filter (fun e => decide (e ≤ t))).length
    let dn := (colEdges.filter (fun e => decide (e - 8 ≤ t))).length
    if s.gau.col < up then up else if dn < s.gau.col then dn else s.gau.col
  else s.bandByte 17 % 16

/-- R441: the byte of entry (c, p, k) of the current pack's table. -/
def State.zEntry (s : State) (c p k : Nat) : Nat :=
  let o := 48 * c + 4 * p + k
  let w := s.rn (A.GAU_ZCUR (o / 2))
  if o % 2 = 0 then w % 256 else w / 256

/-- Store it. -/
def State.setZEntry (s : State) (c p k v : Nat) : State :=
  let o := 48 * c + 4 * p + k
  s.p ⟨A.GAU_ZCUR (o / 2), 8 * (o % 2), 8⟩ v

/-- R448: the model default of an entry. -/
def State.zDefault (s : State) (c k : Nat) : Nat := sat 255 (divTie (s.modelByte (48 + k) * s.modelByte (52 + c) : Nat) 16).toNat

/-- R434, R445: the code of an entry, its model default while it is 0, or while the gauge uses model defaults (R451). -/
def State.zCode (s : State) (c p k : Nat) : Nat := if s.zEntry c p k = 0 || s.onDefaults then s.zDefault c k else s.zEntry c p k

/-- R447: ZLSB in units of 1/4 mΩ. -/
def State.zlsb4 (s : State) : Nat := [1, 2, 4, 8, 20].getD (s.modelByte 46) 20

/-- R432: SOC_cc in %. -/
def State.socCc (s : State) : Rat := if s.fcc = 0 then 0 else s.gau.qrem * 100 / (s.fcc : Rat)

/-- An impedance code in mΩ. -/
def State.zMohm (s : State) (code : Nat) : Rat := (code * s.zlsb4 : Nat) / 4

/-! ### Charger settings (R399, R403) -/

/-- R399: the unauthenticated profile is in use. -/
def State.unauth (s : State) : Bool := s.b F.GAU_CFG_AUTHEN && s.g F.GAU_STAT_AUTH = 3

/-- R399: EN_eff. -/
def State.enEff (s : State) : Bool := if s.unauth then s.ztabByte 40 ≠ 0 else s.b F.CHG_CTRL_EN

/-- R399: ICHG_eff in mA. -/
def State.ichgEff (s : State) : Nat := 50 * (if s.unauth then s.rn (A.CHG_ZTAB 18) else s.g F.CHG_ICHG_CODE)

/-- R404: the zone. -/
def State.zone (s : State) : Nat := s.g F.CHG_STAT_ZONE

/-- R404: FRAC of the zone, in %. -/
def State.zoneFrac (s : State) : Nat := s.ztabByte (10 + 4 * s.zone)

/-- R404: OFS of the zone, in mV per cell. -/
def State.zoneOfs (s : State) : Int := s.ztab (6 + 2 * s.zone)

/-- R399, R405: the per-cell regulation code in use. -/
def State.vregCode (s : State) : Nat :=
  if s.unauth then (if s.rn (A.CHG_ZTAB 19) = 0xFFFF then s.chg.vregLoad else s.rn (A.CHG_ZTAB 19)) else s.g F.CHG_VREG_CODE

/-- R399: VREG_eff in mV, capped at 60.0 V. -/
def State.vregEff (s : State) : Int := min 60000 ((2500 + 5 * (s.vregCode : Int) + s.zoneOfs) * (s.cells : Int))

end Sys2Proof.Machine
end

