-- ==== Sys2Proof/Machine/Stroke.lean ====
section
/-! DEFINITION. The stroke logic (10_stroke_operation.md): hints and commands, pre-arm, start and end, the recorder, summaries, references, proving strokes and emergency operation. -/
namespace Sys2Proof.Machine

/-- Change the stroke logic's record. -/
def State.setStk (s : State) (f : Stroke → Stroke) : State := { s with stk := f s.stk }

/-- R344: PRE-ARMED. -/
def State.preArmed (s : State) : Bool := s.b F.STK_STAT_PREARM

/-- R344: RUNNING. -/
def State.strokeRuns (s : State) : Bool := s.b F.STK_STAT_RUNNING

/-- R344: pre-armed or running. -/
def State.strokeActive (s : State) : Bool := s.preArmed || s.strokeRuns

/-- R374: the direction of the active stroke. -/
def State.dir (s : State) : Nat := s.g F.STK_STAT_DIR

/-- R378: ISTART in 10 mA. ISTART 0 is reserved, and which threshold then holds is open. -/
def State.istart (s : State) : Int := 10 * (s.g F.STK_DETCFG_ISTART : Int)

/-! ### References (R363, R364) -/

/-- R363: point i of the reference of a direction, in 10 mA. -/
def State.ref (s : State) (dir i : Nat) : Int := s.ri (if dir = 0 then A.STK_REFO i else A.STK_REFC i)

/-- The 256 points. -/
def State.refs (s : State) (dir : Nat) : List Int := (List.range 256).map (s.ref dir)

/-- R364: learning of a direction is complete. -/
def State.learned (s : State) (dir : Nat) : Bool := decide (s.g F.STK_REFCFG_K ≤ s.rn (A.STK_REFCNT dir))

/-- The largest member of a list of integers. -/
def maxInt (l : List Int) : Int :=
  match l with
  | [] => 0
  | x :: r => r.foldl max x

/-- The sum of a list of exact values. -/
def sumR (l : List Rat) : Rat := l.foldl (· + ·) 0

/-- R363: Mref: one plus the index of the last point at or above ISTART, or 0. -/
def State.mref (s : State) (dir : Nat) : Nat := (List.range 256).foldl (fun m i => if s.istart ≤ s.ref dir i then i + 1 else m) 0

/-- R381: PTIME in ms. -/
def State.ptimeMs (s : State) : Nat := 4 * (s.g F.STK_REFCFG_PTIME + 1)

/-- R87: the learned set has changed: it is dirty, and a write-back in progress will leave it so. -/
def State.dirty (s : State) : State :=
  let s := s.p F.SYS_LDSTAT_DIRTY 1
  { s with nvm := { s.nvm with wbStale := true } }

/-- R87: the same, where the registers at one of these addresses hold another word than they held in `old`. -/
def State.dirtySince (s old : State) (as : List Nat) : State := s.when (as.any (fun a => s.rd a ≠ old.rd a)) State.dirty

/-- The addresses of a direction's reference: its count and its points. -/
def refAddrs (dir : Nat) : List Nat := A.STK_REFCNT dir :: (List.range 256).map (fun i => if dir = 0 then A.STK_REFO i else A.STK_REFC i)

/-- R87: a write-back is called for. -/
def State.wantWriteBack (s : State) : State := { s with nvm := { s.nvm with wbDue := true } }

/-- R364, R383: learning of a direction restarts: n and every point at 0, and the set becomes dirty. -/
def State.restartRef (s : State) (dir : Nat) : State := (s.each (refAddrs dir) (fun s a => s.wn a 0)).dirty

/-! ### The recorder (R356 to R361) -/

/-- R385: capture ticks in a millisecond. -/
def State.ticksPerMs (s : State) : Nat := [2000, 100, 10, 1].getD (s.g F.STK_RECCFG_TICK) 1

/-- R356, R357: write one entry into the bank being captured; a bank that fills ends its capture. -/
def State.recPut (s : State) (delta tag value : Nat) : State :=
  if s.b F.STK_RECSTAT_CAPT then
    let b := s.g F.STK_RECSTAT_CAPBANK
    let n := s.g (F.STK_RECCNT_COUNT b)
    let a := A.STK_REC (16384 * b + 2 * n)
    let s := ((s.wn a value).wn (a + 1) (16 * delta + tag)).p (F.STK_RECCNT_COUNT b) (n + 1)
    if n = 8191 then (s.p F.STK_RECSTAT_CAPT 0).p F.STK_RECSTAT_FULL 1 else s
  else s

/-- R357: write one entry `late` capture ticks after the latest 1 ms sample, with the time extension entries that are due before it. An entry stands at no earlier tick than the one before it (DESIGN CHOICE, log
entry 57), so that the tick counts of a bank add up to the time passed. -/
def State.recAdd (s : State) (tag value late : Nat) : State :=
  let first := s.g (F.STK_RECCNT_COUNT (s.g F.STK_RECSTAT_CAPBANK)) = 0
  let tick : Int := if first then late else max (late : Int) (-s.stk.since)
  let d := if first then 0 else (s.stk.since + tick).toNat
  let s := (List.range (min (d / 4095) 8192)).foldl (fun s _ => s.recPut 4095 15 0) s
  (s.recPut (d % 4095) tag value).setStk (fun k => { k with since := -tick })

/-- R360: an event marker. -/
def State.marker (s : State) (code : Nat) : State := s.recAdd 14 code 0

/-- R359, R521: no burst sample is taken any more; the conversions of a burst that have started complete. -/
def State.burstStop (s : State) : State :=
  { s with
    stk := { s.stk with burstLeft := 0 }
    adc := { s.adc with slices := s.adc.slices.map (fun j => if j = some (.burst false) || j = some (.burst true) then some .spent else j) } }

/-- R356: a new capture takes the bank that does not hold the latest completed stroke; before any stroke has completed, either. -/
def State.recOpen (s : State) : State :=
  let (b, s) := if s.b F.STK_RECSTAT_LATVALID then (1 - s.g F.STK_RECSTAT_LATEST, s) else
    let (c, s) := s.choice
    (c.toNat, s)
  let s := ((s.p F.STK_RECSTAT_CAPT 1).p F.STK_RECSTAT_CAPBANK b).p F.STK_RECSTAT_FULL 0
  let s := ((s.p F.STK_RECSTAT_ABAND 0).p F.STK_RECSTAT_PREVVALID 0).wn (A.STK_RECCNT b) 0
  s.burstStop.setStk (fun k => { k with since := 0, smp := List.replicate 8 [] })

/-- R356: the stroke has completed: its bank becomes the latest. -/
def State.recComplete (s : State) : State :=
  let s := s.p F.STK_RECSTAT_CAPT 0
  let s := s.pb F.STK_RECSTAT_PREVVALID (s.b F.STK_RECSTAT_LATVALID)
  ((s.p F.STK_RECSTAT_LATEST (s.g F.STK_RECSTAT_CAPBANK)).p F.STK_RECSTAT_LATVALID 1).burstStop

/-- R359: a burst trigger: bit 0 stroke start, 1 battery phase begins, 2 battery phase ends. One that arrives during a burst is dropped. The length of a reserved BURSTLEN is open. -/
def State.burst (s : State) (bit : Nat) : State :=
  if s.b F.STK_RECSTAT_CAPT && (s.g F.STK_RECCFG_BURSTTRG).testBit bit && s.stk.burstLeft = 0 then
    let c := s.g F.STK_RECCFG_BURSTLEN
    let (n, s) := if c ≤ 4 then (64 * 2 ^ c, s) else s.free 8192
    (s.marker 11).setStk (fun k => { k with burstLeft := n, burstFirst := true })
  else s

/-- R359: a conversion of the burst, `late` capture ticks after the latest sample: the first carries its DELTA, each later one DELTA 0. -/
def State.burstSample (s : State) (value late : Nat) : State :=
  if s.stk.burstLeft = 0 then s
  else
    let s := if s.stk.burstFirst then s.recAdd 8 value late else s.recPut 0 8 value
    s.setStk (fun k => { k with burstLeft := k.burstLeft - 1, burstFirst := false })

/-- R358: stream k is enabled and captures. -/
def State.streams (s : State) (k : Nat) : Bool := s.b (F.STK_CAP_EN k) && s.b F.STK_RECSTAT_CAPT

/-- R358: a sample of stream k in its output interval. -/
def State.streamTake (s : State) (k : Nat) (v : Int) : State :=
  s.when (s.streams k) (·.setStk (fun x => { x with smp := x.smp.set k (x.smp.getD k [] ++ [v]) }))

/-- R343: IS: the DRIVE shunt current plus the discharge current of the battery, in 10 mA. -/
def State.strokeCurrent (s : State) : Int × State :=
  let ib := s.gau.last
  let (dis, s) := s.roundOpen (if ib < 0 then -ib / 10 else 0)
  (clamp (-32768) 32767 (s.ri A.DRV_IOUT + dis), s)

/-- R358: each frame of DRIVE gives the streams of IS (source 64) and of VDRV (source 65, in 10 mV as DRV_VOUT) a sample; IS changes each millisecond (R343), VDRV with the frame. -/
def State.streamFrame (s : State) : State :=
  if s.b F.STK_RECSTAT_CAPT then
    let (cur, s) := s.strokeCurrent
    let (v, s) := s.roundOpen ((s.drv.vdrv : Rat) / 10)
    s.each (List.range 8) (fun s k =>
      match s.g (F.STK_CAP_SRC k) with
      | 64 => s.streamTake k cur
      | 65 => s.streamTake k v
      | _ => s)
  else s

/-- R358: a stream's output interval ends: the mean, minimum or maximum of its samples; none for an interval without a sample. A mean between two codes is open between them, and so is
what the reserved STAT 3 writes. -/
def State.streamOut (s : State) (k late : Nat) : State :=
  let samples := s.stk.smp.getD k []
  let s := s.setStk (fun x => { x with smp := x.smp.set k [] })
  match samples with
  | [] => s
  | x :: r =>
    if s.streams k then
      let (v, s) := match s.g (F.STK_CAP_STAT k) with
        | 0 => s.roundOpen ((samples.foldl (· + ·) 0 : Int) / (samples.length : Rat))
        | 1 => (r.foldl min x, s)
        | 2 => (r.foldl max x, s)
        | _ => let (f, s) := s.free 65536; ((f : Int), s)
      s.recAdd k (v % 65536).toNat late
    else s

/-! ### Tolls (R350) -/

/-- R350, R488: the toll request for the active stroke, of whose time `gone` ms have passed. TDEF 0 is reserved: what is then asked for is open. -/
def State.tollFor (s : State) (gone : Nat) : TollReq × State :=
  let em := s.stk.kind = 1
  if s.learned s.dir then
    let vt := codeV (min (s.g F.DRV_VSET_CODE + s.stk.boost) (s.g F.DRV_VMAX_CODE))
    let ipk : Rat := (maxInt (s.refs s.dir) : Rat) / 100
    let marg : Rat := ([100, 110, 125, 150].getD (s.g F.STK_PRECFG_TMARG) 100 : Nat) / 100
    let t := (ipk * vt * marg / 10).ceil.toNat
    let ms := s.mref s.dir * s.ptimeMs + [500, 1000, 2000, 5000].getD (s.g F.STK_PRECFG_TMO) 0
    (⟨t, min 100 ((ms - gone + 99) / 100), em⟩, s)
  else
    let (t, s) := if s.g F.STK_TOLLCFG_TDEF = 0 then s.free 4096 else (s.g F.STK_TOLLCFG_TDEF, s)
    (⟨t, (500 * (s.g F.STK_TOLLCFG_LDEF + 1) - gone + 99) / 100, em⟩, s)

/-- R268, R489: the worker and manager roles request tolls; a worker makes no request between a line loss and the sluice fully on. -/
def State.mayRequest (s : State) : Bool := s.isManager || (s.isWorker && !s.line.noToll)

/-- R349, R350: a request goes in the next turn. -/
def State.requestToll (s : State) : State :=
  if s.mayRequest then
    let (t, s) := s.tollFor 0
    s.setStk (fun k => { k with tollReq := some t })
  else s

/-- R353, R354: the release goes in the next turn. -/
def State.releaseToll (s : State) : State :=
  if s.isManager || s.isWorker then s.setStk (fun k => { k with tollReq := none, tollRel := true }) else s

/-! ### Proving (R366 to R370) -/

/-- R366: every guard of a proving stroke holds. -/
def State.guardsHold (s : State) : Bool :=
  s.stk.kind ≠ 1 && s.line.fullOn && s.present && s.authOk && s.reserveOk && s.zone ≠ 0 && s.minOk &&
    decide (75 * (12000 + 20 * (s.g F.DRV_VSET_CODE : Int)) ≤ 100 * ((s.sup.battMv : Int) - 500 * ((s.g F.STK_PRVCFG_PMARGIN : Int) + 1)))

/-- R366: judge a candidate: with a guard failed it runs as a normal stroke and GUARD sets. -/
def State.judgeGuards (s : State) : State :=
  if s.stk.cand && !s.guardsHold then (s.setStk (fun k => { k with cand := false })).p F.STK_PRVSTAT_GUARD 1 else s

/-- R367: the proving target: BATT less PMARGIN, rounded down to a code of 20 mV. -/
def State.proveCode (s : State) : Nat := (s.sup.battMv - 500 * (s.g F.STK_PRVCFG_PMARGIN + 1) - 12000) / 20

/-- R367: the battery phase begins, with the pre-step sample of the gauge. -/
def State.beginBattPhase (s : State) (pre : Option Sample) : State :=
  let col := s.column
  let pt := socPoint s.socCc
  let tgt := s.proveCode
  let s := (s.p F.STK_STAT_BATTPH 1).setStk (fun k => { k with proveTarget := some tgt, batSum := 0, isSum := 0, prv := 0, zCol := col, zPt := pt,
                                                                 pre := pre.map (fun x => (x.batt, -x.ib)) })
  ((s.retarget false).marker 3).burst 1

/-- R368: the weir has left forced on, unless something else still forces it: with the sluice fully on it turns off once where it conducts, and the voltage loop takes over the battery
current as measured last. -/
def State.handOff (s : State) : State :=
  if s.weirForcedOn then s
  else if s.line.fullOn && s.weirOn then
    let ib : Rat := -s.gau.last / 1000
    let ceil := if s.drv.cin < s.ioc.1 then s.drv.cin else s.ioc.1
    s.weirOff.setDrv (fun d => { d with i := if ceil < ib then ceil else if ib < 0 then 0 else ib })
  else s

/-- R368 to R370: the battery phase ends: complete, with its result, or aborted for a cause of SUMFLG.PRV. -/
def State.endBattPhase (s : State) (cause : Option Nat) : State :=
  if s.b F.STK_STAT_BATTPH then
    let s := s.p F.STK_STAT_BATTPH 0
    let s := s.setStk (fun k => { k with proveTarget := none, pre := none })
    let s := match cause with
      | none =>
        let res := if 2 * s.stk.batSum < s.stk.isSum then 2 else 1
        let s := ((s.inc (A.STK_CNT 4)).p F.STK_PRVSTAT_PCNT 0).p F.STK_PRVSTAT_LASTRES res
        let s := (s.setStk (fun k => { k with prv := res })).retarget false
        s.when (res = 2) (·.raise 89)
      | some c =>
        let s := (s.p F.STK_PRVSTAT_LASTRES c).setStk (fun k => { k with prv := c })
        (s.retarget true).marker 5
    ((s.marker 4).burst 2).handOff
  else s

/-- R368, R371: emergency operation ends; where it forced the weir on, the weir is handed off. -/
def State.endEmergency (s : State) : State :=
  let forced := s.weirForcedOn
  (s.p F.STK_STAT_EMERG 0).when forced State.handOff

/-! ### Hints (R346 to R349) -/

/-- The stroke logic's record for a new stroke: what it measures starts afresh. -/
def Stroke.fresh (k : Stroke) (kind : Nat) (cand : Bool) (boost : Nat) : Stroke :=
  { k with kind := kind, cand := cand, boost := boost, proveTarget := none, ms := 0, below := 0, msBelow := 0, enBelow := 0, energy := 0, peak := none, charge := 0, pts := [], ptSum := 0,
           ptCnt := 0, limited := false, lineLoss := false, retire := false, prv := 0, batSum := 0, isSum := 0, pre := none }

/-- R349, R352: the pre-arm, in its order; the samples that start the stroke are counted from here. -/
def State.prearm (s : State) (emerg : Bool) (dir : Nat) (proving : Bool) : State :=
  let n := s.g F.STK_PRVCFG_N
  let cand := proving || (n ≠ 0 && decide (n ≤ s.g F.STK_PRVSTAT_PCNT))
  let s := s.setStk (fun k => { k.fresh (if emerg then 1 else 0) cand (5 * s.g F.STK_PRECFG_BOOST) with above := 0 })
  let s := ((s.p F.STK_STAT_PREARM 1).p F.STK_STAT_DIR dir).retarget false
  let s := (s.setDrv (fun d => { d with shedHold := true })).trig 1 4
  let s := s.when emerg (·.p F.STK_STAT_EMERG 1)
  let s := (s.judgeGuards.recOpen).marker 1
  let (ok, s) := s.openStroke
  (s.when (!ok) (·.p F.STK_STAT_PKTLOST 1)).requestToll

/-- R148, R348: a hint meets a pre-armed stroke: the new direction, the stronger kind; the toll is re-sized. DRIVE receives trigger 4, as by every accepted hint. -/
def State.mergeHint (s : State) (emerg : Bool) (dir : Nat) (proving : Bool) : State :=
  let em := emerg || s.stk.kind = 1
  let s := (s.setStk (fun k => { k with kind := if em then 1 else k.kind, cand := !em && (k.cand || proving) })).p F.STK_STAT_DIR dir
  let s := (s.when emerg (·.p F.STK_STAT_EMERG 1)).trig 1 4
  (s.judgeGuards.marker 1).requestToll

/-! ### Start (R352) -/

/-- R363: a sample enters the points. -/
def Stroke.addPoint (k : Stroke) (perPoint : Nat) (cur : Int) : Stroke :=
  let sum := k.ptSum + cur
  let cnt := k.ptCnt + 1
  -- The point ends where the next sample would open the next interval.
  if (k.ms + 1) % perPoint = 0 then { k with pts := ((sum : Rat) / (cnt : Rat)) :: k.pts, ptSum := 0, ptCnt := 0 } else { k with ptSum := sum, ptCnt := cnt }

/-- R353, R362, R363: a sample of the running stroke, `ms` after ts; `ph`: it was taken in the battery phase. -/
def State.strokeTakes (s : State) (x : Sample) (ph : Bool) : State :=
  let ist := s.istart
  let pp := s.ptimeMs
  s.setStk (fun k =>
    let k := k.addPoint pp x.cur
    let e := k.energy + (x.vdrv : Int) * x.cur
    let k := { k with energy := e, charge := k.charge + x.cur, limited := k.limited || x.lim,
                      peak := some (match k.peak with | none => x.cur | some p => max p x.cur) }
    let k := if ph then { k with batSum := k.batSum + (if x.ib < 0 then -x.ib / 10 else 0), isSum := k.isSum + (x.cur : Rat) } else k
    if ist ≤ x.cur then { k with below := 0 }
    else if k.below = 0 then { k with below := 1, msBelow := k.ms, enBelow := e }
    else { k with below := k.below + 1 })

/-- R352: the stroke starts at `ts`; the samples of the detection, earliest first, are its first two. `pre` is the sample 1 ms before ts. -/
def State.startStroke (s : State) (ts : Nat) (seed : List Sample) (pre : Option Sample) : State :=
  let hinted := s.stk.kind ≠ 3
  let s := ((s.p F.STK_STAT_PREARM 0).p F.STK_STAT_RUNNING 1).setStk (fun k => { k with ts := ts, above := 0 })
  let iff : Rat := if hinted && s.learned s.dir then (s.ref s.dir 0 : Rat) / 100 else 0
  let share : Rat := ([0, 25, 50, 100].getD (s.g F.DRV_FF_FFSTK) 0 : Nat) / 100
  let ceil := if s.drv.cin < s.ioc.1 then s.drv.cin else s.ioc.1
  let s := s.setDrv (fun d => { d with i := if ceil < d.i + share * iff then (if ceil < d.i then d.i else ceil) else d.i + share * iff })
  let s := s.judgeGuards
  let s := s.when s.stk.cand (fun s => ((s.p F.STK_STAT_PROVING 1).setStk (fun k => { k with kind := 2 })).beginBattPhase pre)
  let s := ((s.marker 2).burst 0).blankEdge (fun b _ => b = 4)
  match seed with
  | [] => s
  | x :: r => r.foldl (fun s y => (s.setStk (fun k => { k with ms := k.ms + 1 })).strokeTakes y false) (s.strokeTakes x false)

/-! ### End (R353, R362 to R365) -/

/-- R363: the 256 points of the stroke, those after the end of capture 0. -/
def Stroke.points (k : Stroke) : List Rat :=
  let l := (if k.ptCnt = 0 then k.pts else ((k.ptSum : Rat) / (k.ptCnt : Rat)) :: k.pts).reverse
  (List.range 256).map (fun i => l.getD i 0)

/-- The smaller of two exact values. -/
def minR (a b : Rat) : Rat := if b < a then b else a

/-- The larger. -/
def maxR (a b : Rat) : Rat := if a < b then b else a

/-- R365: DEVP: the largest value that four consecutive relative deviations all reach, in %. -/
def devp (dev : List Rat) : Rat :=
  match dev with
  | a :: b :: c :: d :: r => maxR (minR (minR a b) (minR c d)) (devp (b :: c :: d :: r))
  | _ => 0

/-- R364: fold a stroke into the reference of its direction. A point between two codes is open between them. -/
def State.learn (s : State) (dir : Nat) (xs : List Rat) (den : Nat) : State :=
  let s := (List.range 256).foldl (fun s i =>
    let r : Rat := s.ref dir i
    let (v, s) := s.roundOpen (r + (xs.getD i 0 - r) / (den : Rat))
    s.wi (if dir = 0 then A.STK_REFO i else A.STK_REFC i) v) s
  let n := s.rn (A.STK_REFCNT dir)
  let s := (s.inc (A.STK_REFCNT dir)).dirty
  s.when (n + 1 = s.g F.STK_REFCFG_K) State.wantWriteBack

/-- What a comparison of R365 gives: DEVP and DEVQ in %, DEVD in points. -/
structure Deviation where
  devp : Rat
  devq : Rat
  devd : Int

/-- R365: compare with the reference. Where the reference's peak or charge is 0 the spec states no measure, and the value is free. -/
def State.compareRef (s : State) (dir : Nat) (xs : List Rat) (m : Nat) : Deviation × State :=
  let rpk := maxInt (s.refs dir)
  let (p, s) := if rpk = 0 then let (f, s) := s.free 256; ((f : Rat), s) else
    (devp ((List.range 256).map (fun i => distR (xs.getD i 0) (s.ref dir i : Rat) / (rpk : Rat) * 100)), s)
  let sr : Rat := sumR ((s.refs dir).map (fun (x : Int) => (x : Rat)))
  let (q, s) := if sr = 0 then let (f, s) := s.free 6553; ((f : Rat) - 3276, s) else ((sumR xs - sr) / sr * 100, s)
  (⟨p, q, (m : Int) - (s.mref dir : Int)⟩, s)

/-- The magnitude of an exact value. -/
def absR (a : Rat) : Rat := if a < 0 then -a else a

/-- R365: a compared stroke deviates by its measures. -/
def State.deviates (s : State) (d : Deviation) : Bool :=
    (s.g F.STK_DEVCFG_DEVPT ≠ 0 && decide ((s.g F.STK_DEVCFG_DEVPT : Rat) < d.devp)) ||
    (s.g F.STK_DEVCFG_DEVQT ≠ 0 && decide ((2 * s.g F.STK_DEVCFG_DEVQT : Nat) < absR d.devq)) ||
    (s.g F.STK_DEVCFG_DEVDT ≠ 0 && decide (s.g F.STK_DEVCFG_DEVDT < d.devd.natAbs))

/-- R391: a 32-bit count that saturates. -/
def State.inc32 (s : State) (a : Nat) : State := if s.r32 a < 4294967295 then s.w32 a (s.r32 a + 1) else s

/-- R269: the hand-back: with the sluice fully on and the weir in AUTO the weir is turned off once, and AUTO governs again; a weir in another mode makes the hand-back wait for AUTO. -/
def State.handBack (s : State) : State :=
  let auto := s.weirMode = .auto
  let on := s.line.fullOn
  let s := s.setLine (fun l => { l with handback := false, hbWait := on && !auto })
  if on && auto then s.weirOff.p F.WEIR_STAT_HBACK 1 else s

/-- R269, R347: the logic is IDLE again: a hand-back that waited proceeds, and a held request for WATCH acts. -/
def State.strokeIdle (s : State) : State :=
  let s := ((s.p F.STK_STAT_PREARM 0).p F.STK_STAT_RUNNING 0).p F.STK_STAT_PROVING 0
  let s := s.setStk (fun k => { k with above := 0, cand := false })
  let s := s.when s.line.hbWait State.handBack
  if s.stk.heldWatch then
    let s := s.setStk (fun k => { k with heldWatch := false })
    if s.power = .run then s.goWatch else s
  else s

/-- R444: the charge of an emergency stroke reaches the gauge, with its peak. -/
def State.emergencySummary (s : State) (pk chg : Int) : State :=
  s.setGau (fun g => { g with emPeak := maxR g.emPeak ((pk : Rat) / 100), emChg := some (match g.emChg with | some c => maxR c ((chg : Rat) / 360000) | none => (chg : Rat) / 360000) })

/-- R353, R445: the end of a running stroke, up to the point at which a new stroke could follow it. -/
def State.finishStroke (s : State) (superseded : Bool) : State :=
  let s := (s.endBattPhase none).setGau (fun g => { g with resDue := true })
  let k := s.stk
  let dir := s.dir
  let unh := k.kind = 3
  let dms := if 200 ≤ k.below then k.msBelow else k.ms
  let en := if 200 ≤ k.below then k.enBelow else k.energy
  let s := s.when superseded (·.marker 9)
  let s := (s.marker 10)
  let full := s.b F.STK_RECSTAT_FULL
  let s := s.recComplete
  let pt := s.ptimeMs
  let m := min 256 ((dms + pt - 1) / pt)
  let short := decide (m < 16)
  let long := decide (256 * pt < dms)
  let xs := k.points
  let compared := (k.kind = 0 || k.kind = 2) && s.learned dir && !short && !k.limited && !superseded
  let (d, s) := if compared then s.compareRef dir xs m else (⟨0, 0, 0⟩, s)
  let dev := long || (compared && s.deviates d)
  let n := s.rn (A.STK_REFCNT dir)
  let kk := s.g F.STK_REFCFG_K
  let clean := k.kind = 0 && !short && !long && !k.limited && !k.lineLoss && !superseded
  let first := clean && decide (n < kk)
  let track := clean && decide (kk ≤ n) && s.b F.STK_REFCFG_TRACK && compared && !dev
  -- The summary (R362): eight words that change together.
  let flg := 16384 * k.kind + (if unh then 0 else 8192 * dir) + 4096 * (first || track).toNat + 2048 * compared.toNat + 1024 * dev.toNat + 512 * k.limited.toNat
    + 256 * k.lineLoss.toNat + 128 * superseded.toNat + 64 * short.toNat + 32 * long.toNat + 16 * k.retire.toNat + 8 * full.toNat + k.prv
  let (pk, s) := match k.peak with
    | some p => (p, s)
    | none => let (f, s) := s.free 65536; ((f : Int) - 32768, s)
  let (e, s) := s.roundOpen ((if en < 0 then 0 else en : Int) / (1000000 : Rat))
  let (vp, s) := s.roundOpen d.devp
  let (vq, s) := s.roundOpen (10 * d.devq)
  let pkw := (clamp (-32768) 32767 pk)
  let devw := 256 * sat 255 vp.toNat + (clamp (-128) 127 d.devd % 256).toNat
  let sec := k.ts / 65536
  let s := ((s.wn A.STK_SUMFLG flg).wn (A.STK_SUM 0) (sec % 65536)).wn (A.STK_SUM 1) (sec / 65536)
  let s := ((s.wn (A.STK_SUM 2) (k.ts % 65536)).wn (A.STK_SUM 3) (sat 65535 dms)).wn (A.STK_SUM 4) (sat 65535 e.toNat)
  let s := (s.wi (A.STK_SUM 5) pkw).wn (A.STK_SUM 6) devw
  -- Counters (R353 step 4, R391), ahead of the packet that carries one of them.
  let s := s.when (!unh) (·.inc32 (A.STK_CNT (2 * dir)))
  let s := s.when (k.kind = 1) (fun s => (s.inc (A.STK_CNT 5)).emergencySummary pk k.charge)
  let s := s.when (k.kind = 0) (fun s => s.p F.STK_PRVSTAT_PCNT (sat 255 (s.g F.STK_PRVSTAT_PCNT + 1)))
  let s := s.commitStroke
    [pack32 [(16, 16, flg), (0, 16, sat 65535 dms)], pack32 [(0, 32, sec)], pack32 [(16, 16, k.ts % 65536), (0, 16, sat 65535 e.toNat)],
     pack32 [(16, 16, (pkw % 65536).toNat), (0, 16, devw)],
     pack32 [(16, 16, (clamp (-32768) 32767 vq % 65536).toNat), (8, 8, s.g F.GAU_RESERVE_STROKES), (0, 1, s.g F.STK_RECSTAT_LATEST)],
     pack32 [(0, 32, if unh then 0 else s.r32 (A.STK_CNT (2 * dir)))]]
  -- Learning and deviation (R364, R365).
  let s := s.when first (fun s => s.learn dir xs (n + 1))
  let s := s.when track (fun s => s.learn dir xs 1024)
  let run := if dev then s.stk.devRun.getD dir 0 + 1 else 0
  let s := s.when compared (·.setStk (fun k => { k with devRun := k.devRun.set dir run }))
  let s := s.when dev (·.inc (A.STK_CNT 6))
  s.when (compared && dev && decide (s.g F.STK_DEVCFG_DEVN + 1 ≤ run)) (·.raise 88)

/-- R353: a running stroke ends. -/
def State.endStroke (s : State) : State :=
  let s := s.finishStroke false
  let s := (s.setStk (fun k => { k with boost := 0 })).retarget false
  ((s.endEmergency.releaseToll).trig 1 5).strokeIdle

/-- R348, R353: a hint supersedes the running stroke: it ends, a hand-back that waited for it proceeds unless an emergency now forces the weir on (R266), and a new one is pre-armed and started in the same step. -/
def State.supersede (s : State) (emerg : Bool) (dir : Nat) (proving : Bool) : State :=
  let s := s.when emerg (·.p F.STK_STAT_EMERG 1)
  let s := s.endBattPhase (some (if emerg then 3 else 6))
  let s := s.finishStroke true
  let s := (((s.when (!emerg) State.endEmergency).releaseToll).trig 1 5).p F.STK_STAT_PROVING 0
  let s := (s.when s.line.hbWait State.handBack).prearm emerg dir proving
  s.startStroke s.rtc [] s.stk.hist.head?

/-- R354: a pre-armed stroke is cancelled; `aband` gives the exception of R355 for the recorder, and `fast` the slope at which the target returns. -/
def State.cancelStroke (s : State) (aband fast : Bool) : State :=
  let s := (s.p F.STK_RECSTAT_CAPT 0).pb F.STK_RECSTAT_ABAND aband
  let s := s.burstStop.rewindStroke
  let s := (s.setStk (fun k => { k with boost := 0 })).retarget fast
  ((s.endEmergency.releaseToll).trig 1 5).strokeIdle

/-- R298, R355, R369: an active stroke is abandoned; a battery phase in progress is aborted with cause 7, and the target then returns at the maximum slope. -/
def State.abandonStroke (s : State) : State :=
  let phase := s.b F.STK_STAT_BATTPH
  if s.strokeActive then (s.endBattPhase (some 7)).cancelStroke true phase else s

/-- R347: a hint or command is accepted: DRIVE is commanded on and the state is RUN or WATCH. -/
def State.strokeAccepts (s : State) : Bool := s.cmdOn 1 && (s.power = .run || s.power = .watch)

/-- R346: IGN sets. -/
def State.ignoreHint (s : State) : State := s.p F.STK_STAT_IGN 1

/-- R346 to R348: a hint or a GO. In WATCH the device goes to RUN, and the pre-arm follows. -/
def State.takeHint (s : State) (go emerg : Bool) (dir : Nat) (proving : Bool) : State :=
  if !s.strokeAccepts || (go && s.strokeRuns) then s.ignoreHint
  else
    let s := if s.power = .watch then s.goRun else s
    let s := if s.strokeRuns then s.supersede emerg dir proving
      else if s.preArmed then s.mergeHint emerg dir proving
      else s.prearm emerg dir proving
    if go then s.startStroke s.rtc [] s.stk.hist.head? else s

/-- R346: the END command. -/
def State.cmdEnd (s : State) : State :=
  if !s.strokeAccepts then s.ignoreHint
  else if s.strokeRuns then s.endStroke
  else if s.preArmed then s.cancelStroke false false
  else s.ignoreHint

/-- R346: the CANCEL command. -/
def State.cmdCancel (s : State) : State := if s.strokeAccepts && s.preArmed then s.cancelStroke false false else s.ignoreHint

/-- R374: a write of STK_CMD: the wrong key, the reserved kind and the reserved operations are ignored. -/
def State.strokeCommand (s : State) (w : Word) : State :=
  let kind := F.STK_CMD_KIND.get w
  let dir := F.STK_CMD_DIR.get w
  if F.STK_CMD_KEY.get w ≠ 5 || kind = 3 then s
  else match F.STK_CMD_OP.get w with
    | 1 => s.takeHint false (kind = 1) dir (kind = 2)
    | 2 => s.takeHint true (kind = 1) dir (kind = 2)
    | 3 => s.cmdEnd
    | 4 => s.cmdCancel
    | _ => s

/-- R345: the class of a STROKE pulse, its width in 0.1 µs: emergency and direction, or none; `edge` is the side taken by a pulse within 2 µs of a band edge. -/
def pulseBand (w : Nat) (edge : Bool) : Option (Bool × Nat) :=
  let bands : List (Nat × Nat × Bool × Nat) := [(100, 1000, false, 0), (2000, 5000, false, 1), (10000, 20000, true, 0), (30000, 50000, true, 1)]
  let near (a : Nat) : Bool := decide (a ≤ w + 20) && decide (w ≤ a + 20)
  match bands.find? (fun b => near b.1 || near b.2.1) with
  | some b => if edge then some b.2.2 else none
  | none => (bands.find? (fun b => decide (b.1 ≤ w) && decide (w ≤ b.2.1))).map (·.2.2)

/-- R19, R345, R683: a STROKE pulse has ended, `width` in 0.1 µs; one of up to 1 µs is ignored, and so is the ball outside the states with engines. -/
def State.pinHint (s : State) (width : Nat) : State :=
  if s.running && s.b F.STK_CFG_PINEN && s.sup.vioh && decide (10 < width) then
    let (edge, s) := s.choice
    match pulseBand width edge with
    | some (em, dir) => s.takeHint false em dir false
    | none => s.p F.STK_STAT_PINBAD 1
  else s

/-! ### Samples (R343, R352, R353) -/

/-- R343: the 1 ms sample: IS is iout plus the battery's discharge current, in 10 mA. -/
def State.strokeSample (s : State) (battMv : Nat) : State :=
  let (cur, s) := s.strokeCurrent
  let x : Sample := ⟨s.rtc, cur, s.rn A.DRV_VOUT, s.gau.last, battMv, s.g F.DRV_STAT_LIMBY = 1⟩
  let s := { s with sup := { s.sup with battMv := battMv } }
  let s := s.wn A.CHG_VBAT (sat 65535 (battMv / 10))
  let s := s.setStk (fun k => { k with hist := (x :: k.hist).take 3, since := k.since + (s.ticksPerMs : Int) })
  if s.strokeRuns then (s.setStk (fun k => { k with ms := k.ms + 1 })).strokeTakes x (s.b F.STK_STAT_BATTPH)
  else s.setStk (fun k => { k with above := if s.istart ≤ x.cur then k.above + 1 else 0 })

/-- R352: two consecutive samples at or above ISTART start a pre-armed stroke, or an unhinted one with AUTO. -/
def State.startDetect (s : State) : State :=
  match s.stk.hist with
  | y :: x :: r =>
    if s.strokeRuns || s.stk.above < 2 || !s.running then s
    else if s.preArmed then s.startStroke x.rtc [x, y] r.head?
    else if s.b F.STK_DETCFG_AUTO then
      let s := (s.setStk (fun k => k.fresh 3 false 0)).p F.STK_STAT_DIR 0
      let (ok, s) := s.recOpen.openStroke
      (s.when (!ok) (·.p F.STK_STAT_PKTLOST 1)).startStroke x.rtc [x, y] r.head?
    else s
  | _ => s

/-- R353: 200 consecutive samples below ISTART end the stroke. -/
def State.endDetect (s : State) : State := if s.strokeRuns && decide (200 ≤ s.stk.below) then s.endStroke else s

/-- R369: a battery phase is aborted where condition 0x85 is false or the battery is not present. -/
def State.phaseGuard (s : State) : State :=
  if s.b F.STK_STAT_BATTPH then
    if !s.present then s.endBattPhase (some 5) else if !s.reserveOk then s.endBattPhase (some 4) else s
  else s

end Sys2Proof.Machine
end

