-- ==== Sys2Proof/Machine/Gauge.lean ====
section
/-! DEFINITION. The gauge controller (12_gauge_and_pack.md): the coulomb counter, the second, rest points and anchors, capacity, impedance, reserve strokes, authentication and pack changes. -/
namespace Sys2Proof.Machine

/-- R170: the gauge controller runs. -/
def State.gaugeRuns (s : State) : Bool := s.running

/-- R453: the gauge is frozen. -/
def State.frozen (s : State) : Bool := s.b F.GAU_STAT_FROZEN

/-- An exact value to the nearest whole number where the spec does not say which neighbour: see State.roundOpen. The register keeps an unsigned word. -/
def State.putR (s : State) (a : Nat) (x : Rat) : State :=
  let (v, s) := s.roundOpen x
  s.wn a (clamp 0 65535 v).toNat

/-- R455: a gauge event: CHG sets and the packet is posted. -/
def State.gaugeEvent (s : State) (ev detail cls : Nat) : State := s.setChg.post (.gauge ev detail cls)

/-- R439: what spoils the learning pair in progress. -/
def State.spoilPair (s : State) : State := s.setGau (fun g => { g with anchor := g.anchor.map (fun a => { a with good := false }) })

/-- R436, R437, R455: DIS changes. -/
def State.setDis (s : State) (d : Nat) : State :=
  if s.g F.GAU_STAT_DIS = d then s else (s.p F.GAU_STAT_DIS d).gaugeEvent 3 0 2

/-! ### The coulomb counter (R429, R430) -/

/-- R461: the battery shunt in units of 1/4 mΩ; none for the reserved codes. -/
def shuntQ (code : Nat) : Option Nat := [1, 2, 4, 8, 20][code]?

/-- R461: the dead band in µV; the reserved codes give no value. -/
def deadband (code : Nat) : Option Nat := [0, 5, 10, 20, 50][code]?

/-- R429: the current of a result in mA: 3.052 µV per LSB. With a reserved shunt code the result is open. -/
def State.coulombMa (s : State) (raw : Int) : Rat × State :=
  match shuntQ (s.g F.GAU_CFG_RSH) with
  | some q => ((raw : Rat) * 3052 / 1000 * 4 / (q : Rat), s)
  | none => let (f, s) := s.free 65536; ((f : Rat) - 32768, s)

/-- R430: a result below the dead band counts as zero. -/
def State.inDeadband (s : State) (raw : Int) : Bool × State :=
  match deadband (s.g F.GAU_CFG_DEADBAND) with
  | some d => (decide ((raw.natAbs : Rat) * 3052 / 1000 < (d : Rat)), s)
  | none => s.choice

/-- R430: the accumulator's range, 48 bits signed. -/
def accSat (x : Rat) : Rat := clampR (-140737488355328) 140737488355327 x

/-- R443: a charger step is spoilt by a current that is not quiet, or a weir that conducts, after its first millisecond. -/
def ChgStep.result (c : ChgStep) (quiet : Bool) : Option ChgStep := if c.past then (if quiet then some c else none) else some { c with past := true }

/-- R429, R430: one result of the counter. -/
def State.coulombResult (s : State) (raw : Int) : State :=
  let (ma, s) := s.coulombMa raw
  let (dead, s) := s.inDeadband raw
  let quiet := decide (absR ma ≤ 10 * (s.modelByte 68 : Rat))
  let full := decide (raw ≤ -32768) || decide (32767 ≤ raw)
  let weir := s.weirOn
  s.setGau (fun g => { g with
    acc := if dead then g.acc else accSat (g.acc + ma / 1000)
    secSum := g.secSum + ma
    secN := g.secN + 1
    last := ma
    full := full
    ranged := g.ranged && full
    chgStep := g.chgStep.bind (fun c => c.result (quiet && !weir)) })

/-- R430: the accumulator as it reads: 48 bits; a fraction of a mA·s is open. -/
def State.accWords (s : State) : Nat × State :=
  let (v, s) := s.roundOpen s.gau.acc
  ((v % 281474976710656).toNat, s)

/-- R430: a read of GAU_ACC0: the upper words enter the shadow. -/
def State.latchAcc (s : State) : State :=
  let (v, s) := s.accWords
  ((s.wn A.GAU_ACC0 (v % 65536)).wn A.GAU_ACC1 (v / 65536 % 65536)).wn A.GAU_ACC2 (v / 4294967296)

/-! ### Reserve strokes (R444 to R446) -/

/-- R448, R451: the reference of a direction counts for the gauge: it is complete, and model defaults do not stand in its place. -/
def State.refKnown (s : State) (d : Nat) : Bool := s.learned d && !s.onDefaults

/-- R444: Iem in A. -/
def State.iem (s : State) : Rat :=
  let pk (d : Nat) : Rat := if s.refKnown d then (maxInt (s.refs d) : Rat) / 100 else 0
  maxR (maxR ((s.modelWord 64 : Rat) / 10) s.gau.emPeak) (maxR (pk 0) (pk 1))

/-- R444: Σ ri × PTIME of a direction in mAh. -/
def State.refCharge (s : State) (d : Nat) : Rat := sumR ((s.refs d).map (fun (x : Int) => (x : Rat))) / 100 * (s.ptimeMs : Rat) / 3600

/-- R444: Qem in mAh. -/
def State.qem (s : State) : Rat :=
  let known := s.gau.emChg.toList ++ (([0, 1] : List Nat).filter s.refKnown).map s.refCharge
  let big := match known with
    | [] => (s.modelWord 66 : Rat) / 10
    | x :: r => r.foldl maxR x
  (1 + (s.modelByte 47 : Rat) / 100) * big

/-- R445: stroke k is still possible, from the reported Iem and Qem. -/
def State.strokePossible (s : State) (s0 : Rat) (k : Nat) : Bool :=
  if s.fcc = 0 then false
  else
    let sk := s0 - (k : Rat) * (s.rn A.GAU_QEM : Rat) / 10 / (s.fcc : Rat) * 100
    if sk < 0 then false
    else
      let c := s.column
      let p := socPoint sk
      let z := s.zMohm (max (s.zCode c p 0) (max (s.zCode c p 1) (s.zCode c p 2)))
      let v := (s.cells : Rat) * s.ocvAt sk / 1000 - (s.rn A.GAU_IEM : Rat) / 10 * z / 1000 - 1 / 10
      decide ((s.modelWord 62 : Rat) / 10 ≤ v)

/-- R445: the largest n such that strokes 1 to n are possible. -/
def State.countStrokes (s : State) (s0 : Rat) (n fuel : Nat) : Nat :=
  match fuel with
  | 0 => n
  | f + 1 => if s.strokePossible s0 (n + 1) then s.countStrokes s0 (n + 1) f else n

/-- R446: a value of RESERVE_STROKES is available. -/
def State.reserveAvailable (s : State) : Bool := s.present && !s.frozen && s.authOk && s.gau.ran && !s.gau.estDue

/-- R446, R455: condition 0x85 as judged: its change posts an event, and a fall with a battery present raises source 86. -/
def State.judgeReserve (s : State) : State :=
  let ok := s.reserveOk
  let s := s.pb F.GAU_STAT_LOW (!ok)
  if ok = s.gau.ok85 then s
  else
    let s := (s.setGau (fun g => { g with ok85 := ok })).gaugeEvent 4 0 (if ok then 2 else 1)
    s.when (!ok && s.present) (·.raise 86)

/-- R444 to R446: RESERVE_STROKES is formed from the reported Iem and Qem. -/
def State.updateReserve (s : State) : State :=
  let s := (s.putR A.GAU_IEM (10 * s.iem)).putR A.GAU_QEM (10 * s.qem)
  let n := if s.reserveAvailable then s.countStrokes (minR s.gau.soc s.socCc) 0 254 else 255
  ((s.p F.GAU_RESERVE_FLOOR (s.modelByte 1)).p F.GAU_RESERVE_STROKES n).judgeReserve

/-- R445: the end of a stroke forms RESERVE_STROKES anew. -/
def State.reserveFollow (s : State) : State :=
  if s.gau.resDue then
    let computes := s.gaugeRuns && s.present && !s.frozen
    let s := s.setGau (fun g => { g with resDue := false, ran := g.ran || computes })
    s.when s.gaugeRuns State.updateReserve
  else s

/-- R446: without a battery, frozen or without a pass the reserve reads 255, at once. -/
def State.reserveLost (s : State) : State := if s.reserveAvailable then s else (s.p F.GAU_RESERVE_STROKES 255).judgeReserve

/-! ### Anchors and capacity (R432, R439) -/

/-- R439: an accepted capacity candidate in mAh. -/
def State.acceptCapacity (s : State) (cand : Rat) : State :=
  let old := s
  let fcc : Rat := s.rn A.GAU_FCC
  let new := if s.b F.GAU_STAT_RELEARN || !s.bit A.GAU_PFLG 2 then cand else fcc + (cand - fcc) / 4
  let s := (s.putR A.GAU_FCC new).pbit A.GAU_PFLG 2 true
  let s := (((s.p F.GAU_STAT_RELEARN 0).dirtySince old [A.GAU_FCC, A.GAU_PFLG]).wantWriteBack).gaugeEvent 5 0 2
  s.when (decide (s.rn A.GAU_FCC * 100 < s.modelByte 71 * s.modelWord 2)) (·.raise 85)

/-- R432, R439: an anchor at an SOC in %: the learning pair ends with its candidate, QREM is set, and a new pair begins. A pack that has failed authentication learns nothing (R451). -/
def State.takeAnchor (s : State) (soc : Rat) : State :=
  let est := s.b F.GAU_STAT_ESTIM
  let s := match s.gau.anchor with
    | some a =>
      let ds := soc - a.soc
      if a.good && decide ((s.modelByte 70 : Rat) ≤ absR ds) && ds ≠ 0 && s.g F.GAU_STAT_AUTH ≠ 3 then
        let cand := (s.gau.acc - a.acc) / 3600 / (ds / 100)
        let nom : Rat := s.modelWord 2
        if nom / 2 ≤ cand && cand ≤ nom * 6 / 5 then s.acceptCapacity cand else s
      else s
    | none => s
  let s := s.p F.GAU_STAT_ESTIM 0
  let fcc : Rat := s.fcc
  let s := s.setGau (fun g => { g with qrem := soc * fcc / 100, anchor := some ⟨soc, g.acc, !est⟩ })
  (s.putR A.GAU_SOCCC (10 * s.socCc)).putR A.GAU_QREM s.gau.qrem

/-! ### The second (R431 to R440) -/

/-- R431: FLOW of a mean current in mA. -/
def State.flowOf (s : State) (ma : Rat) : Nat :=
  let r : Rat := 10 * (s.modelByte 68 : Rat)
  if r < ma then 1 else if ma < -r then 2 else 0

/-- R435, R436, R437: the reported SOC after one second, from the one before, the change of SOC_cc counted and SOC_cc. -/
def nextSoc (prev delta cc : Rat) (flow dis : Nat) : Rat :=
  if dis = 2 then maxR 0 (prev - 1 / 10)
  else
    let a := prev + delta
    let b := if a < cc then minR cc (a + 1 / 60) else if cc < a then maxR cc (a - 1 / 10) else a
    let c := if flow = 2 then minR b prev else b
    let d := clampR 0 100 c
    if dis = 1 then maxR d (minR prev 1) else d

/-- R434: Vcomp in mV. -/
def State.vcomp (s : State) (vcell ibat : Rat) : Rat :=
  vcell - ibat * s.zMohm (s.zCode s.column (socPoint s.socCc) 3) / 1000 / (s.cells : Rat)

/-- R440, R451: the discharge sum grows by mAh; each FCC of it is a cycle. A pack that has failed authentication leaves its record as it is. -/
def State.countCycles (s : State) (dis : Rat) : State :=
  let sum := s.gau.partSum + dis
  let fcc : Rat := s.fcc
  if s.g F.GAU_STAT_AUTH = 3 then s
  else if 0 < fcc && fcc ≤ sum then
    let n := (sum / fcc).floor.toNat
    ((s.setGau (fun g => { g with partSum := sum - (n : Rat) * fcc })).w32 (A.GAU_CYC 0) (sat 4294967295 (s.r32 (A.GAU_CYC 0) + n))).dirtySince s [A.GAU_CYC 0, A.GAU_CYC 1]
  else s.setGau (fun g => { g with partSum := sum })

/-- R438: the estimate of the first second. -/
def State.estimate (s : State) (socv : Rat) : State :=
  let fcc : Rat := s.fcc
  (s.setGau (fun g => { g with estDue := false, qrem := socv * fcc / 100, soc := socv, anchor := none })).p F.GAU_STAT_ESTIM 1

/-- R460: hours since the latest pass. -/
def State.authAge (s : State) : Nat := match s.gau.passAt with | some t => sat 255 ((s.rtcSec - t) / 3600) | none => 0

/-- R431 to R446: the gauge's second, for BATT in mV. -/
def State.gaugeSecond (s : State) (battMv : Nat) : State :=
  let ibat : Rat := if s.gau.secN = 0 then 0 else s.gau.secSum / (s.gau.secN : Rat)
  let dq := (s.gau.acc - s.gau.accSec) / 3600
  let s := { s with sup := { s.sup with battMv := battMv } }
  let s := s.setGau (fun g => { g with secSum := 0, secN := 0, accSec := g.acc })
  if s.gaugeRuns then
    let s := s.setGau (fun g => { g with col := s.column })
    let vcell : Rat := (battMv : Rat) / (s.cells : Rat)
    let (ib, s) := s.roundOpen (ibat / 10)
    let s := ((s.wi A.GAU_IBAT ib).putR A.GAU_VCELL vcell).p F.GAU_STAT_FLOW (s.flowOf ibat)
    let s := s.p F.GAU_AUTHSTAT_AGE s.authAge
    let s := if s.present && !s.frozen then
        let (sv, _) := s.socOf (s.vcomp vcell ibat)
        let s := s.setGau (fun g => { g with socv := sv, ran := true })
        let s := s.when (decide (dq < 0)) (·.countCycles (-dq))
        let s := if s.gau.estDue then s.estimate sv
          else
            let cc0 := s.socCc
            let fcc : Rat := s.fcc
            let s := s.setGau (fun g => { g with qrem := clampR 0 fcc (g.qrem + dq) })
            let cc := s.socCc
            let s := s.setGau (fun g => { g with soc := nextSoc g.soc (cc - cc0) cc (s.g F.GAU_STAT_FLOW) (s.g F.GAU_STAT_DIS) })
            -- R436: the charge says empty and the voltage does not.
            if cc = 0 && decide (5 ≤ sv) && s.g F.GAU_STAT_DIS = 0 then ((s.setDis 1).raise 84).spoilPair else s
        (((s.putR A.GAU_SOC (10 * s.gau.soc)).putR A.GAU_SOCCC (10 * s.socCc)).putR A.GAU_SOCV (10 * s.gau.socv)).putR A.GAU_QREM s.gau.qrem
      else s
    s.updateReserve
  else s

/-- R437: the voltage says empty. -/
def State.voltageEmpty (s : State) : State :=
  if s.gaugeRuns && s.present && !s.frozen && s.g F.GAU_STAT_FLOW = 2 && decide (5 < s.socCc) then
    ((s.setDis 2).raise 84).spoilPair
  else s

/-- R433: the conditions of a rest. -/
def State.atRest (s : State) : Bool := s.g F.GAU_STAT_FLOW = 0 && !s.weirOn && !s.chg.sw

/-- R433, R436, R437: the rest point, for BATT in mV. -/
def State.restPoint (s : State) (battMv : Nat) : State :=
  if s.gaugeRuns && s.present && !s.frozen && s.atRest && !s.b F.GAU_STAT_REST then
    let (soc, usable) := s.socOf ((battMv : Rat) / (s.cells : Rat))
    let dis := s.g F.GAU_STAT_DIS ≠ 0
    let s := s.p F.GAU_STAT_REST 1
    let s := s.when (usable || dis) (·.takeAnchor soc)
    s.when dis (fun s => (s.setDis 0).p F.GAU_STAT_RELEARN 1)
  else s

/-- R433, R443: REST reads 1 until the rest ends; a weir that conducts spoils a charger step past its first millisecond. -/
def State.restFollow (s : State) : State :=
  let weir := s.weirOn
  (s.when (s.b F.GAU_STAT_REST && !s.atRest) (·.p F.GAU_STAT_REST 0)).setGau (fun g => { g with chgStep := g.chgStep.filter (fun c => !(c.past && weir)) })

/-! ### Impedance (R442, R443) -/

/-- R442: the measured impedance in mΩ, where it is used: the divisor at least 2.0 A and the result positive. Voltages in mV, discharge currents in mA. -/
def zMeasured (v0 v1 : Nat) (i0 i1 : Rat) : Option Rat :=
  let di := i1 - i0
  if 2000 ≤ di && (v1 : Rat) < (v0 : Rat) then some (((v0 : Rat) - (v1 : Rat)) / di * 1000) else none

/-- R442: an entry takes a measured value: an entry at 0 the new code, any other a quarter of the way, to the nearest. -/
def State.zLearn (s : State) (col pt k origin : Nat) (mohm : Rat) : State :=
  let (c, s) := s.roundOpen (4 * mohm / (s.zlsb4 : Rat))
  let new := sat 255 c.toNat
  let old := s.zEntry col pt k
  let v := if old = 0 then (new : Int) else (old : Int) + divTie ((new : Int) - (old : Int)) 4
  let s := (s.setZEntry col pt k v.toNat).when (v ≠ (old : Int)) State.dirty
  (s.wn (A.GAU_Z k) new).wn A.GAU_ZPOS (16384 * origin + 16 * col + pt)

/-- R453, R451: the gauge learns: not frozen, and the pack has not failed authentication. -/
def State.gaugeLearns (s : State) : Bool := s.gaugeRuns && !s.frozen && s.g F.GAU_STAT_AUTH ≠ 3

/-- R367, R442: the sample at t_s + 1, 10 or 100 ms (k 0, 1, 2), delivered within the battery phase: BATT in mV, the current into the battery in mA. -/
def State.provingSample (s : State) (k battMv : Nat) (ib : Int) : State :=
  if s.b F.STK_STAT_BATTPH && s.gaugeLearns && decide (k ≤ 2) then
    match s.stk.pre with
    | some (v0, i0) =>
      match zMeasured v0 battMv i0 (-(ib : Rat)) with
      | some z => s.zLearn s.stk.zCol s.stk.zPt k 1 z
      | none => s
    | none => s
  else s

/-- R443: 100 ms (k 2) or 1 s (k 3) after the charger's stop. Both values are used at 1 s, where nothing has disturbed the step. -/
def State.chargerStep (s : State) (k battMv : Nat) (ib : Int) : State :=
  match s.gau.chgStep with
  | some c =>
    let z := zMeasured c.batt battMv c.cur (-(ib : Rat))
    if k = 2 then s.setGau (fun g => { g with chgStep := some { c with z100 := z } })
    else if k = 3 then
      let s := s.setGau (fun g => { g with chgStep := none })
      if s.gaugeLearns then
        let s := match c.z100 with | some z => s.zLearn c.col c.pt 2 2 z | none => s
        match z with | some z => s.zLearn c.col c.pt 3 2 z | none => s
      else s
    else s
  | none => s

/-- R443: the charger stops switching from a charge current of 2.0 A or more, outside the pause of a battery phase. -/
def State.chargerStopped (s : State) : State :=
  if decide (2000 ≤ s.gau.last) && !s.b F.STK_STAT_BATTPH then
    s.setGau (fun g => { g with chgStep := some ⟨s.sup.battMv, -g.last, false, none, s.column, socPoint s.socCc⟩ })
  else s

/-! ### Freezing and pack changes (R453) -/

/-- R397, R453: the gauge freezes, and holds the capacity it used. -/
def State.freezeGauge (s : State) : State :=
  let held := s.onDefaults
  let s := s.setGau (fun g => { g with heldDef := held, anchor := none, chgStep := none, stage := .idle })
  let s := (s.p F.GAU_STAT_AUTH 0).p F.GAU_AUTHSTAT_BUSY 0
  if s.frozen then s else (s.p F.GAU_STAT_FROZEN 1).gaugeEvent 2 0 2

/-- R453: FROZEN clears. -/
def State.thawGauge (s : State) : State := if s.frozen then (s.p F.GAU_STAT_FROZEN 0).gaugeEvent 2 0 2 else s

/-- R462: a serial as the four words of GAU_SN. -/
def serialWords (sn : List Byte) : List Nat := (List.range 4).map (fun k => (sn.getD (2 * k) 0).toNat + 256 * (sn.getD (2 * k + 1) 0).toNat)

/-- The four words from an address on. -/
def State.words4 (s : State) (a : Nat) : List Nat := (List.range 4).map (fun k => s.rn (a + k))

/-- Store a run of numbers. -/
def State.putWords (s : State) (a : Nat) (l : List Nat) : State := s.wrs a (l.map (BitVec.ofNat 16))

/-- The words of a table. -/
def State.table (s : State) (a n : Nat) : List Nat := (List.range n).map (fun k => s.rn (a + k))

/-- R453, R462: the current record goes to the previous one's place; a pack record is a serial, a capacity, a cycle count, flags and a table. -/
def State.swapRecords (s : State) : State :=
  let sn := s.words4 (A.GAU_SN 0); let psn := s.words4 (A.GAU_PSN 0)
  let fcc := s.rn A.GAU_FCC; let pfcc := s.rn A.GAU_PFCC
  let cyc := s.r32 (A.GAU_CYC 0); let pcyc := s.gau.prevCyc
  let fl := s.rn A.GAU_PFLG
  let z := s.table (A.GAU_ZCUR 0) 240; let pz := s.table (A.GAU_ZPRV 0) 240
  let s := ((s.putWords (A.GAU_SN 0) psn).putWords (A.GAU_PSN 0) sn).putWords (A.GAU_ZCUR 0) pz
  let s := ((s.putWords (A.GAU_ZPRV 0) z).wn A.GAU_FCC pfcc).wn A.GAU_PFCC fcc
  let s := (s.w32 (A.GAU_CYC 0) pcyc).wn A.GAU_PFLG (256 * (fl % 8) + fl / 256 % 8)
  s.setGau (fun g => { g with prevCyc := cyc })

/-- R448: the current record takes the model defaults: CAPNOM, no cycles, and every impedance entry at its default. -/
def State.packDefaults (s : State) : State :=
  let s := (s.wn A.GAU_FCC (s.modelWord 2)).w32 (A.GAU_CYC 0) 0
  s.each (List.range 240) (fun s w => s.wn (A.GAU_ZCUR w) (s.zDefault (w / 24) (2 * (w % 2)) + 256 * s.zDefault (w / 24) (2 * (w % 2) + 1)))

/-- R448, R453: a new current record with model defaults, valid and authenticated; the stroke references start again with it. -/
def State.newRecord (s : State) (sn : List Nat) : State :=
  let s := s.when (s.bit A.GAU_PFLG 0) State.swapRecords
  let s := (((s.putWords (A.GAU_SN 0) sn).packDefaults).restartRef 0).restartRef 1
  s.wn A.GAU_PFLG (s.rn A.GAU_PFLG / 256 * 256 + 3)

/-- R438: an estimate is called for. -/
def State.askEstimate (s : State) : State := s.setGau (fun g => { g with estDue := true, anchor := none })

/-- R453: authentication has passed with this serial. -/
def State.packPassed (s : State) (sn : List Nat) : State :=
  let was := s.frozen
  let s := (s.p F.GAU_STAT_AUTH 2).p F.GAU_AUTHSTAT_BUSY 0
  let s := (s.p F.GAU_AUTHSTAT_AGE 0).setGau (fun g => { g with stage := .idle, authAt := some s.rtcSec, passAt := some s.rtcSec })
  let s := s.gaugeEvent 1 0 2
  if s.bit A.GAU_PFLG 0 && s.words4 (A.GAU_SN 0) = sn then
    let s := if s.bit A.GAU_PFLG 1 then s else (s.pbit A.GAU_PFLG 1 true).dirty
    (s.when was (·.gaugeEvent 6 1 2)).thawGauge
  else if s.bit A.GAU_PFLG 8 && s.words4 (A.GAU_PSN 0) = sn then
    (((s.swapRecords.pbit A.GAU_PFLG 1 true).askEstimate).dirty.wantWriteBack.gaugeEvent 6 2 2).thawGauge
  else
    ((((s.newRecord sn).p F.GAU_STAT_RELEARN 1).askEstimate).dirty.wantWriteBack.gaugeEvent 6 3 2).thawGauge.raise 91

/-- R451, R453: authentication has failed. -/
def State.packFailed (s : State) : State :=
  let was := s.frozen
  let s := (s.p F.GAU_STAT_AUTH 3).p F.GAU_AUTHSTAT_BUSY 0
  let s := s.setGau (fun g => { g with stage := .idle, authAt := some s.rtcSec })
  let s := if s.bit A.GAU_PFLG 1 then (s.pbit A.GAU_PFLG 1 false).dirty else s
  let s := s.gaugeEvent 1 (s.g F.GAU_AUTHSTAT_CAUSE) 1
  let s := s.when was (·.gaugeEvent 6 4 2)
  (s.askEstimate.thawGauge.raise 92).reserveLost

/-! ### Authentication (R449 to R452) -/

/-- A run of free bytes. -/
def State.freeBytes (s : State) (n : Nat) : List Byte × State :=
  (List.range n).foldl (fun (l, s) _ => let (v, s) := s.free 256; (l ++ [BitVec.ofNat 8 v], s)) ([], s)

/-- R450: an attempt: VNVM is on and a fresh challenge is written to the pack. -/
def State.authAttempt (s : State) : State :=
  let (c, s) := s.freeBytes 16
  let s := (s.p F.GAU_AUTHSTAT_BUSY 1).p F.GAU_AUTHSTAT_TRY (s.g F.GAU_AUTHSTAT_TRY + 1)
  let s := { s with nvm := { s.nvm with vnvm := true } }
  s.setGau (fun g => { g with stage := .challenged, chal := c })

/-- R449, R452: an authentication starts in a state with the gauge controller and a battery present; else it is due there. With AUTHEN 0 none runs, and the pack counts as passed
and as the current one: its record is valid and authenticated from then on (DEDUCED, log entry 64). -/
def State.authStart (s : State) : State :=
  if !s.gaugeRuns then s.setGau (fun g => { g with authDue := true })
  else if !s.present || s.gau.stage ≠ .idle then s
  else
    let s := s.setGau (fun g => { g with authDue := false })
    if !s.b F.GAU_CFG_AUTHEN then
      let was := s.frozen
      let s := s.p F.GAU_STAT_AUTH 2
      let s := if s.bit A.GAU_PFLG 0 && s.bit A.GAU_PFLG 1 then s else ((s.pbit A.GAU_PFLG 0 true).pbit A.GAU_PFLG 1 true).dirty
      (s.when was (·.gaugeEvent 6 1 2)).thawGauge
    else
      let s := s.when (s.g F.GAU_STAT_AUTH = 0) (·.p F.GAU_STAT_AUTH 1)
      ((s.p F.GAU_AUTHSTAT_TRY 0).authAttempt)

/-- R451: an attempt fails, with cause 4 wherever no key is provisioned; the third fails the authentication. -/
def State.attemptFailed (s : State) (cause : Nat) : State :=
  let cause := if Config.packKeyFuse then cause else 4
  let s := (s.p F.GAU_AUTHSTAT_CAUSE cause).setGau (fun g => { g with stage := .failed })
  if 3 ≤ s.g F.GAU_AUTHSTAT_TRY then s.packFailed else s

/-- R450, R451: the 40 bytes of the response and the serial have been read. -/
def State.authResponse (s : State) (resp : List Byte) : State :=
  if s.gau.stage = .challenged then
    let sn := (resp.drop 32).take 8
    if !Config.packKeyFuse then s.attemptFailed 4
    else if hmacSha256 packKey (s.gau.chal ++ sn) = resp.take 32 then s.packPassed (serialWords sn)
    else s.attemptFailed 2
  else s

/-- R451: the next attempt, 100 ms after a failed one. -/
def State.authRetry (s : State) : State := if s.gau.stage = .failed && s.gaugeRuns && s.present then s.authAttempt else s

/-- R454: the gauge controller restarts. -/
def State.gaugeRestart (s : State) : State :=
  let s := s.setGau (fun g => { g with anchor := none, chgStep := none, emPeak := 0, emChg := none, ran := false })
  (s.setStk (fun k => { k with pre := none })).reserveLost

end Sys2Proof.Machine
end

