-- ==== Sys2Proof/Machine/Charger.lean ====
section
/-! DEFINITION. The backup charger (11_backup_charger.md): presence, the charger's state, phases and cycles, timers, the share of the line, the watchdog and the charger's faults. -/
namespace Sys2Proof.Machine

/-! ### Phases (R400 to R402) -/

/-- R421: VTRK and VPRE of the pack, in mV. -/
def State.vtrk (s : State) : Nat := (1500 + 50 * s.g F.CHG_PRECFG_VTRK) * s.cells
/-- R421. -/
def State.vpre (s : State) : Nat := (2000 + 50 * s.g F.CHG_PRECFG_VPRE) * s.cells

/-- R401: the phase that a pack voltage in mV chooses. -/
def State.phaseOf (s : State) (mv : Int) : Nat :=
  if mv < (s.vtrk : Int) then 3 else if mv < (s.vpre : Int) then 4 else if mv < s.vregEff then 5 else 6

/-- R401: a pack voltage moves the phase upward at a threshold, downward 50 mV per cell below it. TOPOFF and MAINTENANCE do not move with the voltage. -/
def State.phaseMove (s : State) (mv : Int) : Nat :=
  let p := s.chg.phase
  if 7 ≤ p then p
  else
    let up := s.phaseOf mv
    let dn := s.phaseOf (mv + 50 * (s.cells : Int))
    if p < up then up else if dn < p then dn else p

/-- R398, R400: the result of the pack's authentication is awaited. -/
def State.authPending (s : State) : Bool := s.b F.GAU_CFG_AUTHEN && decide (s.g F.GAU_STAT_AUTH < 2)

/-- R400: the WAIT causes; the lowest that holds, 0 for none, and 3 wherever the state is not RUN or WATCH. -/
def State.waitCause (s : State) : Nat :=
  if !(s.power = .run || s.power = .watch) then 3
  else if s.zoneFrac = 0 then 1
  else if s.b F.STK_STAT_BATTPH then 2
  else if !s.line.chgOk then 3
  else if s.chg.vinLow then 4
  else if s.authPending then 5
  else 0

/-- R400: the state, decided in the order of the rule; 3 stands for a charge phase, which the record holds. -/
def State.chgWants (s : State) : Nat :=
  if !s.present then 1 else if s.chg.fault then 9 else if !s.enEff then 0 else if s.waitCause ≠ 0 then 2 else 3

/-- R401: a cycle starts: both timers restart and the count advances. -/
def State.startCycle (s : State) : State :=
  (s.setChgR (fun c => { c with cycleDue := false, preT := 0, safeT := 0, phase := s.phaseOf s.sup.battMv })).inc A.CHG_CNTCYC

/-- R424: CHG_TMR: minutes of the running timer. -/
def State.chgTimer (s : State) : State :=
  let t := if s.g F.CHG_STAT_STATE = 3 || s.g F.CHG_STAT_STATE = 4 then s.chg.preT else s.chg.safeT
  s.wn A.CHG_TMR (sat 65535 (t / 120))

/-- R401, R406, R408: what is reported and held only while the charger charges. -/
def State.chgShareOff (s : State) : State :=
  (((s.p F.CHG_STAT_PREC 0).p F.CHG_STAT_YIELD 0).p F.CHG_STAT_HALF 0).wn A.CHG_ALLOW 0 |>.setChgR
    (fun c => { c with loopAllow := false, loopSlow := false, loopVolt := false, held := 0 })

/-- R394, R400: the stage switches or stops; a start begins the ramp of the current target. -/
def State.stageFollow (s : State) : State :=
  let sw := s.charging && !s.chg.batOv && !s.chg.ocStop
  let s := s.when (s.chg.sw && !sw) State.chargerStopped
  s.setChgR (fun c => { c with sw := sw, ramp := if sw && c.sw then c.ramp else 0 })

/-- R398, R400, R401, R403: the charger's state is judged. Outside BOOT a change sets CHG and posts a packet. A cycle that is due starts where a battery that no authentication holds up may be
charged. -/
def State.judgeCharger (s : State) : State :=
  let s := s.when (!s.b F.CHG_CFG_NTCEN) (·.p F.CHG_STAT_ZONE 2)
  let prev := s.g F.CHG_STAT_STATE
  let want := s.chgWants
  let boot := s.power = .boot
  let s := s.when (want = 0 || want = 1 || want = 9) (·.setChgR (fun c => { c with cycleDue := true }))
  let s := s.when ((want = 2 || want = 3) && s.chg.cycleDue && !s.authPending && !boot) State.startCycle
  let s := s.when (want = 3 && prev = 2 && s.chg.phase ≠ 8) (fun s => s.setChgR (fun c => { c with phase := s.phaseOf s.sup.battMv }))
  let st := if want = 3 then s.chg.phase else want
  let s := (s.p F.CHG_STAT_STATE st).p F.CHG_STAT_WCAUSE (if st = 2 then s.waitCause else 0)
  let s := (s.pb F.CHG_STAT_PRES s.present).pb F.CHG_STAT_UNAUTH s.unauth
  let s := s.when (!s.charging) State.chgShareOff
  let s := s.stageFollow.chgTimer
  if st = prev || boot then s else s.setChg.post (.charger prev)

/-! ### Zones (R403, R404) -/

/-- R403: the zone of a temperature in 0.125 °C, counted from the boundaries less `hys`. -/
def State.zoneOf (s : State) (t hys : Int) : Nat :=
  ([0, 1, 2, 3].filter (fun k => decide (s.ztab k - hys ≤ t))).length

/-- R403: a housekeeping round's reading of NTC_BAT: its temperature in 0.125 °C, none where it is open, and whether it reads a short. -/
def State.zoneUpdate (s : State) (t : Option Int) (short : Bool) : State :=
  if !s.b F.CHG_CFG_NTCEN then (s.p F.CHG_STAT_ZONE 2).setChgR (fun c => { c with zoned := true, ntcShort := false })
  else if short then
    let s := (s.p F.CHG_STAT_ZONE 4).when (!s.chg.ntcShort) (fun s => (s.p F.CHG_FLT_NTCFLT 1).raise 76)
    s.setChgR (fun c => { c with zoned := true, ntcShort := true })
  else
    let s := s.setChgR (fun c => { c with ntcShort := false })
    match t with
    | none => s
    | some t =>
      let up := s.zoneOf t 0
      let dn := s.zoneOf t (s.ztabByte 8 : Nat)
      let z := if !s.chg.zoned then up else if s.zone < up then up else if dn < s.zone then dn else s.zone
      (s.p F.CHG_STAT_ZONE z).setChgR (fun c => { c with zoned := true })

/-! ### Events (R396, R397, R402, R406, R410) -/

/-- R398: a battery has been inserted: authentication runs, and a new cycle follows. -/
def State.batteryIn (s : State) (battMv : Nat) : State :=
  if s.present then s
  else
    let s := { s with sup := { s.sup with pack := true, battMv := battMv } }
    (s.setChgR (fun c => { c with cycleDue := true })).authStart

/-- R397: the battery has been removed. -/
def State.batteryOut (s : State) : State :=
  if s.present then
    let s := { s with sup := { s.sup with pack := false, battMv := 0 } }
    let s := s.setChgR (fun c => { c with fault := false, batOv := false, ocStop := false, ima := 0 })
    let s := ((s.inc A.CHG_CNTREM).p F.CHG_FLT_REMOVED 1).raise 78
    let s := s.weirOff.phaseGuard
    s.freezeGauge.reserveLost
  else s

/-- R401: CHARGE_PHASE_CHANGE. -/
def State.phaseChange (s : State) (battMv : Nat) : State :=
  let s := { s with sup := { s.sup with battMv := battMv } }
  if s.charging then s.setChgR (fun c => { c with phase := s.phaseMove battMv }) else s

/-- R402, R432: the charge terminates, which anchors the gauge at 100 %. -/
def State.chargeDone (s : State) : State :=
  if s.g F.CHG_STAT_STATE = 6 then
    let s := s.when (s.gaugeRuns && !s.frozen) (·.takeAnchor 100)
    s.setChgR (fun c => { c with phase := if s.g F.CHG_TERMCFG_TOPT = 0 then 8 else 7 })
  else s

/-- R406, R410: a timer or the stage latches the charger off. -/
def State.chargerFault (s : State) (flag : Fld) (source : Nat) : State :=
  ((s.setChgR (fun c => { c with fault := true })).p flag 1).raise source

/-- R410: the peak limit has ended 32 consecutive cycles: a stop of 1 s, or FAULT at the third time within 60 s. -/
def State.stageOverCurrent (s : State) : State :=
  let now := s.ticks
  let recent := s.chg.ocTimes.filter (fun t => decide (now < t + 60 * 32768))
  if 2 ≤ recent.length then (s.setChgR (fun c => { c with ocTimes := [], ocStop := false })).chargerFault F.CHG_FLT_STAGEOC 75
  else s.setChgR (fun c => { c with ocTimes := now :: recent, ocStop := true })

/-- R409: the watchdog expires: the safe column is written, without clamping; it counts again from a kick or from the next entry to RUN or WATCH from POWER-UP. -/
def State.chgWatchdog (s : State) : State :=
  if s.g F.CHG_TMRCFG_WDTO ≠ 0 && (s.power = .run || s.power = .watch) && s.chg.wdRun then
    let vreg := if s.rn (A.CHG_ZTAB 16) = 0xFFFF then s.chg.vregLoad else s.rn (A.CHG_ZTAB 16)
    let s := ((s.p F.CHG_CTRL_EN (s.ztabByte 34)).p F.CHG_ICHG_CODE (s.rn (A.CHG_ZTAB 15))).p F.CHG_VREG_CODE vreg
    ((s.setChgR (fun c => { c with wdf := true, wdRun := false })).p F.CHG_FLT_WDT 1).raise 77
  else s

/-- R406: one second of the charger's timers: full speed is two half-seconds. -/
def State.chgSecond (s : State) : State :=
  let st := s.g F.CHG_STAT_STATE
  let s := if st = 3 || st = 4 then s.setChgR (fun c => { c with preT := c.preT + 2 })
    else if st = 5 || st = 6 || st = 7 then s.setChgR (fun c => { c with safeT := c.safeT + (if c.loopSlow then 1 else 2) })
    else s
  s.chgTimer

/-! ### The share of the line (R401, R407, R408) -/

/-- R394, R401: the phase's current target in mA, scaled by the zone, within its ramp. -/
def State.chgTarget (s : State) : Rat :=
  let ipre := 50 * s.g F.CHG_PRECFG_IPRE
  let t := match s.chg.phase with | 3 => min ipre 100 | 4 => ipre | 7 => 25 * s.g F.CHG_TERMCFG_ITERM | _ => s.ichgEff
  minR (s.chg.ramp : Rat) ((t : Rat) * (s.zoneFrac : Rat) / 100)

/-- R420: the charger shunt in units of 0.5 mΩ; none for the reserved codes. -/
def State.chgShunt (s : State) : Option Nat := [2, 4, 5, 6, 10, 20][s.g F.CHG_CFG_RSH]?

/-- R425: the charge current in mA, for the voltage on the charger shunt in µV. With a reserved shunt code it is open. -/
def State.chargeMa (s : State) (cs : Int) : Rat × State :=
  match s.chgShunt with
  | some r => (2 * (cs : Rat) / (r : Rat), s)
  | none => let (f, s) := s.free 65536; ((f : Rat) - 32768, s)

/-- R407: a charge current in mA as line current in A, for BATT and V(LSRC) in mV. -/
def icinOf (battMv vlsrcMv : Nat) (ma : Rat) : Rat := if vlsrcMv = 0 then 0 else (battMv : Rat) * ma / ((vlsrcMv : Rat) * 95 / 100) / 1000

/-- The charge current in mA that a line current in A permits. -/
def chargeOf (battMv vlsrcMv : Nat) (a : Rat) : Rat := if battMv = 0 then 0 else a * 1000 * ((vlsrcMv : Rat) * 95 / 100) / (battMv : Rat)

/-- R394: the peak limit in mA: 60 mV across the charger shunt. A reserved shunt code gives no limit. -/
def State.chgPeak (s : State) : Option Rat := s.chgShunt.map (fun (r : Nat) => 120000 / (r : Rat))

/-- R408: the charger takes precedence: it charges, condition 0x85 is false and no emergency operation runs. -/
def State.hasPrec (s : State) : Bool := s.charging && !s.reserveOk && !s.b F.STK_STAT_EMERG

/-- R407, R408: CSHARE × Ieff, in A. -/
def State.lineShare (s : State) : Rat := (s.srcShare : Rat) / 100 * ((s.ieff : Rat) / 10)

/-- R408: IRES in A, for BATT and V(LSRC) as the latest command brought them. -/
def State.iRes (s : State) : Rat := minR s.lineShare (icinOf s.sup.battMv s.drv.vlsrc s.chgTarget)

/-- R408: what the charger holds of DRIVE's share, in A: IRES less ICIN, where it takes precedence. -/
def State.heldLine (s : State) : Rat := if s.hasPrec then maxR 0 (s.iRes - icinOf s.sup.battMv s.drv.vlsrc s.chg.ima) else 0

/-- R408: the precedence begins or ends with its conditions, at once. Where it ends, the allowance of R407 comes with the next 20 µs, and ILINE reads 0 until then (DESIGN CHOICE, log entry 97). -/
def State.precFollow (s : State) : State :=
  let prec := s.hasPrec
  if prec = s.b F.CHG_STAT_PREC then s
  else
    let held := s.heldLine
    let (v, s) := s.roundOpen (10 * (if prec then s.iRes else 0))
    (((s.pb F.CHG_STAT_PREC prec).pb F.CHG_ALLOW_PREC prec).p F.CHG_ALLOW_ILINE (sat 16383 v.toNat)).setChgR (fun c => { c with held := held })

/-- R394, R407, R408: the share recomputed 20 µs on, for the voltages on the charger and the line shunt in µV, BATT, V(LSRC) and the voltage loop's output in mA. In 20 µs the ramp has
grown by 20 mA; 20 A is the highest target. -/
def State.shareLine (s : State) (cs : Int) (battMv vlsrcMv : Nat) (lsense vloop : Int) : State :=
  let s := { s with sup := { s.sup with battMv := battMv }, drv := { s.drv with vlsrc := vlsrcMv } }
  let (ima, s) := s.chargeMa cs
  let iin := s.iinOf lsense
  let s := s.setChgR (fun c => { c with ima := ima, ramp := if c.sw then min 20000 (c.ramp + 20) else 0 })
  if s.charging then
    let ieff : Rat := (s.ieff : Rat) / 10
    let icin := icinOf battMv vlsrcMv ima
    let target := s.chgTarget
    let prec := s.hasPrec
    let held := s.heldLine
    let allow := maxR 0 (minR s.lineShare (ieff * 97 / 100 - (iin - icin)))
    let line := if prec then s.iRes else allow
    let byAllow := chargeOf battMv vlsrcMv line
    let thr : Option Rat := if s.b F.THM_STAT_THRENF then some ((s.g F.THM_THRLIM1_CHG : Rat) * 50) else none
    let others (x : Rat) (o : Option Rat) : Rat := match o with | some y => minR x y | none => x
    let best := others (others (minR (minR target (vloop : Rat)) byAllow) thr) s.chgPeak
    let isAllow := decide (byAllow = best) && decide (best < target) && decide (best < (vloop : Rat))
    let isVolt := decide ((vloop : Rat) = best) && decide (best < target)
    let slow := decide (best < target) && !isVolt
    let s := s.setChgR (fun c => { c with loopAllow := isAllow, loopSlow := slow, loopVolt := isVolt, held := held })
    let half := slow && (s.g F.CHG_STAT_STATE = 5 || s.g F.CHG_STAT_STATE = 6 || s.g F.CHG_STAT_STATE = 7)
    let s := ((s.pb F.CHG_STAT_PREC prec).pb F.CHG_STAT_YIELD isAllow).pb F.CHG_STAT_HALF half
    let (v, s) := s.roundOpen (10 * line)
    (s.pb F.CHG_ALLOW_PREC prec).p F.CHG_ALLOW_ILINE (sat 16383 v.toNat)
  else s

end Sys2Proof.Machine
end

