-- ==== Sys2Proof/Machine/Thermal.lean ====
section
/-! DEFINITION. Thermal sensing and management (16_thermal.md): readings, failed sensors, bands, the throttle. The hardware shutdown stands with the power states. -/
namespace Sys2Proof.Machine

/-- Change the thermal record. -/
def State.setThm (s : State) (f : Thm → Thm) : State := { s with thm := f s.thm }

/-- R547: RES_LO of channel c. -/
def State.resLo (s : State) (c : Nat) : Nat := s.rn (A.ADC_RES (2 * c))

/-! ### Readings (R571, R572) -/

/-- R571, R573: v of die sensor k in mV, as the regular round converted its channel last. -/
def State.tsMv (s : State) (k : Nat) : Rat := (s.thm.res.getD k 0 : Rat) * 3300 / 65536

/-- R571: the reading of die sensor k, in 0.125 °C. -/
def State.tsRead (s : State) (k : Nat) : Int × State :=
  let (t, s) := s.roundOpen (8 * (25 + (s.tsMv k - 1000) / 4))
  (t + Config.tsTrim k, s)

/-- Bits of a binary logarithm by repeated squaring: m lies in [2^30, 2^31). -/
def log2Bits (m acc fuel : Nat) : Nat :=
  match fuel with
  | 0 => acc
  | f + 1 =>
    let sq := m * m / 1073741824
    if 2147483648 ≤ sq then log2Bits (sq / 2) (2 * acc + 1) f else log2Bits sq (2 * acc) f

/-- log2 of a positive number, in units of 2^-24. -/
def log2Fix (n : Nat) : Int :=
  let e := Nat.log2 n
  let m := if e ≤ 30 then n * 2 ^ (30 - e) else n / 2 ^ (e - 30)
  (e : Int) * 16777216 + (log2Bits m 0 24 : Nat)

/-- R572: ln(R ÷ 10 kΩ) from the ratio x = n ÷ 65,536, to about 2^-24: R ÷ 10 kΩ is n ÷ (65,536 − n). -/
def lnRatio (n : Nat) : Rat := ((log2Fix n - log2Fix (65536 - n) : Int) : Rat) / 16777216 * (693147180560 / 1000000000000)

/-- R572: a thermistor's temperature in °C for RES_LO, with β. -/
def ntcTemp (n beta : Nat) : Rat := 1 / (1 / (29815 / 100) + lnRatio n / (beta : Rat)) - 27315 / 100

/-- R576: a thermistor input reads open above 500 kΩ, short below 100 Ω. -/
inductive NtcRead where
  | valid | open_ | short
deriving DecidableEq, Repr

/-- R576: R ÷ 10 kΩ is n ÷ (65,536 − n). -/
def ntcRead (n : Nat) : NtcRead :=
  if 50 * (65536 - n) < n then .open_ else if 100 * n < 65536 - n then .short else .valid

/-! ### Failed sensors (R574, R575) -/

/-- R574: the neighbours of a die sensor. -/
def neighbours (k : Nat) : List Nat := [[1, 6], [0, 4], [3, 6], [2, 6], [1, 5], [4, 7], [0, 2, 3, 7], [5, 6]].getD k []

/-- R587: die sensor k is substituted. -/
def State.substituted (s : State) (k : Nat) : Bool := s.bit A.THM_SFAIL k

/-- R587: some die sensor is substituted. -/
def State.anySubst (s : State) : Bool := s.g F.THM_SFAIL_SUBST ≠ 0

/-- R574: the reading of k differs by more than 20 °C from the mean of its valid neighbours. -/
def State.implausible (s : State) (k : Nat) : Bool :=
  let ns := (neighbours k).filterMap (fun j => if s.substituted j then none else s.thm.read.getD j none)
  match s.thm.read.getD k none with
  | some t => if ns.isEmpty then false else decide (160 < absR ((t : Rat) - (ns.foldl (· + ·) 0 : Int) / (ns.length : Rat)))
  | none => false

/-- R574, R575: die sensor k reads neither open nor short nor implausible in this round. -/
def State.soundNow (s : State) (k : Nat) : Bool := decide (s.tsMv k ≤ 2000) && decide (300 ≤ s.tsMv k) && !s.implausible k

/-- R574, R575: die sensor k is declared failed, for a cause of THM_SCAUSE: it is no valid neighbour of the others any more. -/
def State.failSensor (s : State) (k cause : Nat) : State :=
  let s := ((s.pbit A.THM_SFAIL k true).pbit A.THM_SFAIL (8 + k) true).p ⟨A.THM_SCAUSE, 2 * k, 2⟩ cause
  (s.setThm (fun m => { m with good := m.good.set k 0 })).raise 80

/-- R575: the substitute of a die sensor that this round, which converted the sensors `convd`, has declared failed; every failure of the round is known. -/
def State.substitute (s : State) (convd : List Nat) (k : Nat) : State :=
  let others := (convd.filter (fun j => j ≠ k && !s.substituted j && s.soundNow j)).filterMap (fun j => s.thm.read.getD j none)
  s.wi (A.THM_TS k) (match s.thm.valid.getD k none with
    | some t => t + 80
    | none => if others.isEmpty then 1200 else maxInt others + 80)

/-- R574, R575: judge die sensor k, converted in this round. -/
def State.judgeSensor (s : State) (k : Nat) : State :=
  let v := s.tsMv k
  let op := decide (2000 < v)
  let sh := decide (v < 300)
  let im := s.implausible k
  let cnt (b : Bool) (l : List Nat) : List Nat := l.set k (if b then l.getD k 0 + 1 else 0)
  let ok := s.soundNow k
  let s := s.setThm (fun m => { m with open_ := cnt op m.open_, short := cnt sh m.short, impl := cnt im m.impl, good := cnt ok m.good,
                                       valid := if ok then m.valid.set k (m.read.getD k none) else m.valid })
  if s.substituted k then
    if 10 ≤ s.thm.good.getD k 0 then (s.pbit A.THM_SFAIL k false).wi (A.THM_TS k) ((s.thm.read.getD k none).getD 0) else s
  else if 2 ≤ s.thm.open_.getD k 0 then s.failSensor k 1
  else if 2 ≤ s.thm.short.getD k 0 then s.failSensor k 2
  else if 3 ≤ s.thm.impl.getD k 0 then s.failSensor k 3
  else s.wi (A.THM_TS k) ((s.thm.read.getD k none).getD 0)

/-! ### Bands and throttle (R577 to R581) -/

/-- R577: lower edges of B1 to B5 in 0.125 °C. -/
def bandEdges : List Int := [-160, 0, 360, 680, 880]

/-- R578, R581: a thermal event packet; ATTN sets with it. -/
def State.thermalEvent (s : State) (cls : Nat) : State :=
  ({ s with hif := { s.hif with attn := true } } : State).post (.thermal cls)

/-- R577, R578: the band becomes b. -/
def State.setBand (s : State) (b : Nat) : State :=
  if s.g F.THM_STAT_BAND = b then s
  else ((s.p F.THM_STAT_BAND b).each [1, 2, 3, 4, 5, 6, 7, 8, 9, 10, 11] (fun s k => s.trig k 3)).thermalEvent 2

/-- R577: the band is judged from the hottest reading; `all` says that this round converted all eight die sensors. -/
def State.judgeBand (s : State) (all : Bool) : State :=
  let h := s.ri A.THM_HOT
  let up := (bandEdges.filter (fun e => decide (e ≤ h))).length
  if !s.thm.banded then
    if all then (s.setThm (fun m => { m with banded := true })).setBand up else s
  else
    let dn := (bandEdges.filter (fun e => decide (e - 24 ≤ h))).length
    let b := s.g F.THM_STAT_BAND
    s.setBand (if b < up then up else if dn < b then dn else b)

/-- R577, R586: the hottest of the die sensors read since BOOT, and which it is; of two equally hot the spec names neither. -/
def State.judgeHot (s : State) : State :=
  let ks := (List.range 8).filter (fun k => (s.thm.read.getD k none).isSome)
  match ks with
  | [] => s
  | k0 :: r =>
    let best := r.foldl (fun b k => if s.ri (A.THM_TS b) < s.ri (A.THM_TS k) || (s.ri (A.THM_TS b) = s.ri (A.THM_TS k) && Config.tieUp b k) then k else b) k0
    (s.wi A.THM_HOT (s.ri (A.THM_TS best))).p F.THM_STAT_HOTSEL best

/-- R580: an enabled, valid phase thermistor stands at or above a level. -/
def State.phaseHot (s : State) (level : Int) : Bool :=
  [1, 2].any (fun k => s.bit A.THM_NTCCFG (16 - k) && s.g ⟨A.THM_NTCSTAT, 2 * k, 2⟩ = 0 && decide (level ≤ s.ri (A.THM_NTC k)))

/-- R592: TTHR in °C; a reserved code's threshold is open. -/
def State.tthr (s : State) : Nat × State :=
  let c := s.g F.THM_THRCFG_TTHR
  if 85 ≤ c && c ≤ 150 then (c, s) else s.free 256

/-- R581: THR_ENF clears. -/
def State.liftThrottle (s : State) : State :=
  (((s.p F.THM_STAT_RELAX 0).p F.THM_STAT_THRENF 0).setThm (fun m => { m with relaxed := false })).thermalEvent 2

/-- R580, R581: THR_REQ is judged at the end of a round; the end of a substitution lets go a throttle whose RELT has passed. -/
def State.judgeThrottle (s : State) : State :=
  let (t, s) := s.tthr
  let hys : Int := 8 * ([2, 5, 10, 15].getD (s.g F.THM_THRCFG_THRHYS) 5 : Nat)
  let die := s.ri A.THM_HOT
  let pen := s.b F.THM_THRCFG_PEN
  let p := s.ri A.THM_PTHR
  let s := s.pb F.THM_STAT_HOLD s.anySubst
  if decide (8 * (t : Int) ≤ die) || (pen && s.phaseHot p) then
    if s.b F.THM_STAT_THRREQ then s
    else
      let s := ((s.p F.THM_STAT_THRREQ 1).p F.THM_STAT_RELAX 0).setThm (fun m => { m with relaxed := false })
      ((s.pb F.THM_STAT_GRACE (!s.b F.THM_STAT_THRENF)).raise 81).thermalEvent 2
  else if s.b F.THM_STAT_THRREQ && decide (die < 8 * (t : Int) - hys) && !(pen && s.phaseHot (p - hys)) && !s.anySubst then
    let s := (s.p F.THM_STAT_THRREQ 0).p F.THM_STAT_GRACE 0
    (s.pb F.THM_STAT_RELAX (s.b F.THM_STAT_THRENF)).thermalEvent 2
  else if s.thm.relaxed && !s.anySubst then s.liftThrottle
  else s

/-- R577, R581: GRACE has passed with THR_REQ set; not while the throttle state is held. -/
def State.enforceThrottle (s : State) : State :=
  if !s.thm.held && s.b F.THM_STAT_THRREQ && s.b F.THM_STAT_GRACE then
    ((((s.p F.THM_STAT_GRACE 0).p F.THM_STAT_THRENF 1).inc A.THM_CNTTHR).raise 82).thermalEvent 1
  else s

/-- R580, R581: RELT has passed with THR_REQ clear. While a die sensor is substituted THR_ENF stays. -/
def State.releaseThrottle (s : State) : State :=
  if !s.thm.held && s.b F.THM_STAT_RELAX && !s.b F.THM_STAT_THRREQ then
    if s.anySubst then (s.p F.THM_STAT_RELAX 0).setThm (fun m => { m with relaxed := true }) else s.liftThrottle
  else s

/-! ### Thermistors (R572, R576) -/

/-- R596: β in K. -/
def State.beta (s : State) : Nat := 3000 + 5 * s.g F.THM_NTCCFG_BETA

/-- R576, R590: thermistor k (0 NTC_BAT to 3 NTC_AMB), converted in this round. -/
def State.judgeNtc (s : State) (k : Nat) : State :=
  let n := s.thm.res.getD (8 + k) 0
  let en := if k = 0 then s.b F.CHG_CFG_NTCEN else s.bit A.THM_NTCCFG (16 - k)
  let put (s : State) (st : Nat) (t : Int) : State := (s.p ⟨A.THM_NTCSTAT, 2 * k, 2⟩ st).wi (A.THM_NTC k) t
  if !en then
    let s := put s 3 (-32768)
    s.when (k = 0) (·.zoneUpdate none false)
  else
    let bad (s : State) (st : Nat) : State :=
      let s := put s st (-32768)
      if k = 0 then s.zoneUpdate none (st = 2)
      else
        (s.when (!s.thm.ntcRaised.getD (k - 1) false) (·.raise 83)).setThm (fun m => { m with ntcRaised := m.ntcRaised.set (k - 1) true })
    match ntcRead n with
    | .open_ => bad s 1
    | .short => bad s 2
    | .valid =>
      let (t, s) := s.roundOpen (8 * ntcTemp n s.beta)
      let s := put s 0 (clamp (-32767) 32767 t)
      if k = 0 then (s.wi A.CHG_TBAT (clamp (-32768) 32767 t)).zoneUpdate (some t) false
      else s.setThm (fun m => { m with ntcRaised := m.ntcRaised.set (k - 1) false })

/-- R577: the end of a round that converted the die sensors `ts`: band and throttle stand in the power-up program after THERMAL-OFF, and up to the first round that converts one after it. `thr` says that the round
converted an input of the throttle. -/
def State.judgeHeat (s : State) (ts : List Nat) (thr : Bool) : State :=
  if s.thm.held && (s.power = .powerUp || ts.isEmpty) then s
  else
    let s := s.setThm (fun m => { m with held := false })
    let s := if ts.isEmpty then s else s.judgeBand (ts.length = 8)
    s.when thr State.judgeThrottle

/-- R573, R577: the judgements at the end of a round that converted these channels. -/
def State.thermalRound (s : State) (chs : List Nat) : State :=
  let ts := (List.range 8).filter (fun k => chs.contains (34 + k))
  let s := ts.foldl (fun s k => let (t, s) := s.tsRead k; s.setThm (fun m => { m with read := m.read.set k (some t) })) s
  let failed := ts.filter s.substituted
  let s := s.each ts State.judgeSensor
  let s := s.each (ts.filter (fun k => s.substituted k && !failed.contains k)) (·.substitute ts)
  let s := s.each ((List.range 4).filter (fun k => chs.contains (42 + k))) State.judgeNtc
  let s := if ts.isEmpty then s else s.judgeHot
  s.judgeHeat ts (!ts.isEmpty || chs.any (fun c => decide (43 ≤ c) && decide (c ≤ 44)))

end Sys2Proof.Machine
end

