-- ==== Sys2Proof/Machine/Adc.lean ====
section
/-! DEFINITION. The measurement converter (14_adc.md) and the readback of the threshold DACs (R557): the round, injected requests, the scheduler, results, digital windows, calibration. -/
namespace Sys2Proof.Machine

/-- Change the converter's record. -/
def State.setAdc (s : State) (f : Adc → Adc) : State := { s with adc := f s.adc }

/-- R520: a reserved channel; what a request for one gives is open. -/
def chReserved (c : Nat) : Bool := (47 ≤ c && c ≤ 53) || 58 ≤ c

/-- R520: a bipolar channel. -/
def chBipolar (c : Nat) : Bool := 25 ≤ c && c ≤ 33

/-- R532: a calibration step is pending or running (CALBUSY, condition 0xB8). -/
def State.calBusy (s : State) : Bool := s.b F.ADC_CALSTAT_PEND || s.b F.ADC_CALSTAT_RUN

/-! ### Slices (R519, R521, R533) -/

/-- Slice k converts nothing. -/
def State.sliceFree (s : State) (k : Nat) : Bool := (s.adc.slices.getD k none).isNone

/-- R533: the slice whose place S takes, 1 A or 2 B: the one under calibration, and after it the same one until S has finished what it began there. -/
def State.standIn (s : State) : Nat :=
  if s.g F.ADC_STAT_BGSLICE ≠ 0 then s.g F.ADC_STAT_BGSLICE else if s.sliceFree 2 then 0 else s.adc.bgNext

/-- R519, R533: the slices (0 A, 1 B, 2 S) that serve requests in the places of A and B. -/
def State.places (s : State) : Nat × Nat :=
  match s.standIn with
  | 1 => (2, 1) | 2 => (0, 2) | _ => (0, 1)

/-- Give slice k a job, or none. -/
def State.setSlice (s : State) (k : Nat) (j : Option SliceJob) : State := s.setAdc (fun a => { a with slices := a.slices.set k j })

/-- R521: both places are free. -/
def State.bothFree (s : State) : Bool := s.sliceFree s.places.1 && s.sliceFree s.places.2

/-- R521: the free place, A's first. -/
def State.freePlace (s : State) : Option Nat :=
  if s.sliceFree s.places.1 then some s.places.1 else if s.sliceFree s.places.2 then some s.places.2 else none

/-- R534: a burst runs. -/
def State.bursting (s : State) : Bool := s.adc.slices.any (fun j => j = some (.burst false) || j = some (.burst true))

/-! ### The round (R522) -/

/-- R535: the entries of a round; what the reserved codes of SEQLEN convert is open. -/
def State.seqLen (s : State) : Nat × State :=
  let n := s.g F.ADC_CFG_SEQLEN
  if n ≤ 32 then (n, s) else s.free 33

/-- R522: the round ends when its last entry has completed: the count, and the judgements of R573. -/
def State.roundEnd (s : State) : State :=
  if s.adc.round = some [] && !s.adc.avgs.any (·.src = .round) then
    let chs := s.adc.conv
    let s := s.setAdc (fun a => { a with round := none, conv := [], rounds := (a.rounds + 1) % 256 })
    (s.p F.ADC_STAT_RNDCNT (s.adc.rounds % 16)).thermalRound chs
  else s

/-- R522: a round starts: SET index 0x81 or the key. A start during a round is ignored and marked. -/
def State.roundStart (s : State) : State :=
  if !s.running then s
  else if s.adc.round.isSome then s.p F.ADC_STAT_RNDOVR 1
  else
    let (n, s) := s.seqLen
    let es := (List.range n).filter (fun k => (s.power ≠ .watch || s.b (F.ADC_SEQ_WATCH k)) && s.adc.rounds % 4 ^ s.g (F.ADC_SEQ_DIV k) = 0)
    (s.setAdc (fun a => { a with round := some es, conv := [] })).roundEnd

/-! ### Injected requests (R523) -/

/-- R534: INJPEND: requests queued or held. -/
def State.injPend (s : State) : Nat := s.adc.inj.length + s.adc.held.length

/-- R523: an injected request: channel, averaging code, from the host; a fifth is dropped. Behind a calibration key it is held (R532). -/
def State.inject (s : State) (ch navg : Nat) (host : Bool) : State :=
  if !s.running then s
  else if 4 ≤ s.injPend then s.p F.ADC_STAT_INJOVF 1
  else if s.calBusy then s.setAdc (fun a => { a with held := a.held ++ [(ch, navg, host)] })
  else s.setAdc (fun a => { a with inj := a.inj ++ [(ch, navg, host)] })

/-- R537: a write of ADC_INJ. -/
def State.injWrite (s : State) (w : Word) : State :=
  if F.ADC_INJ_KEY.get w = 9 then s.inject (F.ADC_INJ_CH.get w) (F.ADC_INJ_NAVG.get w) true else s

/-- R523: the flush key empties the queue. -/
def State.injFlush (s : State) : State := s.setAdc (fun a => { a with inj := [], held := [] })

/-! ### The scheduler (R521) -/

/-- R543: the signed offset coefficient of slice k. -/
def State.coefOfs (s : State) (k : Nat) : Int := s.ri (A.ADC_COEF (2 * k))

/-- R543: its gain coefficient. -/
def State.coefGain (s : State) (k : Nat) : Nat := s.rn (A.ADC_COEF (2 * k + 1))

/-- R525, R579: cb of the present band. -/
def State.cbNow (s : State) : Int := s.ri (A.THM_BT (16 * s.g F.THM_STAT_BAND + 10))

/-- A conversion of the average `key` starts on slice k: the coefficients and the band at its start count (R525, R531). -/
def State.startConv (s : State) (k key : Nat) : State :=
  let s := s.setSlice k (some (.conv key (s.coefOfs k) (s.coefGain k) s.cbNow))
  s.setAdc (fun a => { a with avgs := a.avgs.map (fun v => if v.key = key then { v with left := v.left - 1 } else v) })

/-- A new average begins on slice k. -/
def State.startAvg (s : State) (k : Nat) (src : AdcSrc) (ch navg : Nat) (recent : Bool) : State :=
  let key := s.adc.key
  (s.setAdc (fun a => { a with key := key + 1, avgs := a.avgs ++ [⟨key, src, ch, navg, 2 ^ navg, [], recent⟩] })).startConv k key

/-- R358, R521, R532: a conversion of stream k can be taken: it captures an ADC channel, no burst runs or waits, and no calibration step either. -/
def State.streamMay (s : State) (k : Nat) : Bool := s.streams k && decide (s.g (F.STK_CAP_SRC k) ≤ 63) && s.stk.burstLeft = 0 && !s.calBusy

/-- R521, R522: the round's next work on slice k: a conversion of an average in progress, else the next entry. A calibration step, which has precedence over both, holds both back (DEDUCED, log
entry 69: R532 names the next entry only). -/
def State.roundNext (s : State) (k : Nat) (recent : Bool) : State :=
  if s.calBusy then s
  else match s.adc.avgs.find? (fun v => v.src = .round && v.left ≠ 0) with
  | some v => s.startConv k v.key
  | none =>
    match s.adc.round with
    | some (e :: r) =>
      (s.setAdc (fun a => { a with round := some r })).startAvg k .round (s.g (F.ADC_SEQ_CH e)) (s.g (F.ADC_SEQ_NAVG e)) recent
    | _ => s

/-- R521: a free slice takes the waiting work of highest precedence. `recent` says that the readback selection or the selected code changed within the latest 20 µs (R557); `stream` is a
stream whose next conversion of its 20 kS/s is due. -/
def State.schedule (s : State) (recent : Bool) (stream : Option Nat) : State :=
  match s.freePlace with
  | none => s
  | some k =>
    if s.b F.ADC_CALSTAT_RUN then s
    else if s.stk.burstLeft ≠ 0 && !s.b F.ADC_CALSTAT_PEND && !s.bursting then
      if s.bothFree then ((s.setSlice s.places.1 (some (.burst false))).setSlice s.places.2 (some (.burst true))).setAdc (fun a => { a with pairB := false }) else s
    else match s.adc.inj with
      | (ch, navg, host) :: r => (s.setAdc (fun a => { a with inj := r })).startAvg k (if host then .host else .engine) ch navg recent
      | [] =>
        match stream.filter s.streamMay with
        | some i => s.setSlice k (some (.stream i (s.coefOfs k) (s.coefGain k) s.cbNow))
        | none => s.roundNext k recent

/-! ### Digital windows (R529) -/

/-- R529: window k is out. -/
def State.winOut (s : State) (k : Nat) : Bool := s.bit A.ADC_WINSTAT k

/-- R529: window k judges a new result of its channel. -/
def State.winJudge (s : State) (k : Nat) : State :=
  let c := s.g (F.ADC_WINCFG_CH k)
  let outside := if chBipolar c
    then decide (s.ri (A.ADC_RES (2 * c)) < s.ri (A.ADC_WINLO k)) || decide (s.ri (A.ADC_WINHI k) < s.ri (A.ADC_RES (2 * c)))
    else decide (s.rn (A.ADC_RES (2 * c)) < s.rn (A.ADC_WINLO k)) || decide (s.rn (A.ADC_WINHI k) < s.rn (A.ADC_RES (2 * c)))
  let n := if outside = s.winOut k then 0 else s.adc.winCnt.getD k 0 + 1
  if decide (s.g (F.ADC_WINCFG_CNT k) + 1 ≤ n) then
    let s := (s.setAdc (fun a => { a with winCnt := a.winCnt.set k 0 })).pbit A.ADC_WINSTAT k outside
    s.when outside (·.pbit A.ADC_WINSTAT (8 + k) true)
  else s.setAdc (fun a => { a with winCnt := a.winCnt.set k n })

/-- R529: a write of its configuration restarts window k, in. -/
def State.winRestart (s : State) (k : Nat) : State := (s.setAdc (fun a => { a with winCnt := a.winCnt.set k 0 })).pbit A.ADC_WINSTAT k false

/-- The enabled windows on channel c. -/
def State.winsOn (s : State) (c : Nat) : List Nat := (List.range 8).filter (fun k => s.b (F.ADC_WINCFG_EN k) && s.g (F.ADC_WINCFG_CH k) = c)

/-! ### The readback (R557) -/

/-- R557: a result of channel 46 while EN is 1. -/
def State.readback (s : State) (fresh : Bool) : State :=
  if s.b F.CMP_RBSEL_EN then
    let mon := s.g F.CMP_RBSEL_MON
    let up := s.g F.CMP_RBSEL_UPPER
    let s := if fresh then s.p F.CMP_RBSTAT_SKIP 1
      else
        let m := divTie (s.resLo 46 * 3300 : Nat) 65536
        let code := if up = 1 then s.rn (A.CMP_HI mon) else s.rn (A.CMP_LO mon)
        let s := s.p F.CMP_RBMEAS_CODE (sat 1023 m.toNat)
        if s.g F.CMP_SCCFG_TOL < (m - (code : Int)).natAbs then
          ((s.p F.CMP_RBSTAT_FAIL 1).p F.CMP_RBSTAT_FAILSEL (16 * up + mon)).raise 90
        else s
    if s.b F.CMP_RBSEL_AUTO then (s.p F.CMP_RBSEL_UPPER (1 - up)).when (up = 1) (·.p F.CMP_RBSEL_MON ((mon + 1) % 16)) else s
  else s

/-! ### Results (R525, R526) -/

/-- R525: the corrected value of one code. -/
def corrected (code : Nat) (ofs gain cb : Int) : Rat := ((16 * (code : Int) - ofs) * gain * (65536 + cb) : Int) / (2147483648 : Rat)

/-- An exact value to the nearest whole number; of two equally near ones Config.tieUp takes one. -/
def nearR (x : Rat) : Int := divTie x.num x.den

/-- R525: RES_LO for a corrected value. -/
def resWord (ch : Nat) (v : Rat) : Int := if chBipolar ch then clamp (-32768) 32767 (nearR v - 32768) else clamp 0 65535 (nearR v)

/-- R525 to R529, R557, R573: an average completes; one of the regular round is what a temperature sensor of channels 34 to 45 is judged by. -/
def State.avgDone (s : State) (v : AdcAvg) : State :=
  let lo := resWord v.ch ((v.vals.foldl (fun a x => a + x.2) 0) / (v.vals.length : Rat))
  let (lo, s) := if chReserved v.ch then let (f, s) := s.free 65536; ((f : Int), s) else (lo, s)
  let sl := match v.vals with
    | [] => 3
    | x :: r => if r.all (·.1 = x.1) then x.1 else 3
  let a := A.ADC_RES (2 * v.ch)
  let seq := (s.rn (a + 1) / 4096 + 1) % 16
  let hi := 4096 * seq + (if v.src = .round then 0 else 2048) + 512 * sl + 256 + v.navg
  let s := (s.wi a lo).wn (a + 1) hi
  let ws := s.winsOn v.ch
  let s := s.each ws State.winJudge
  let s := s.pbit (a + 1) 7 (ws.any s.winOut)
  let s := s.when (v.ch = 46) (·.readback v.fresh)
  let s := s.setAdc (fun x => { x with avgs := x.avgs.filter (·.key ≠ v.key), conv := if v.src = .round then x.conv ++ [v.ch] else x.conv })
  let s := s.when (v.src = .round && decide (34 ≤ v.ch)) (·.setThm (fun m => { m with res := m.res.set (v.ch - 34) (lo % 65536).toNat }))
  if v.src = .round then s.roundEnd
  else s.wn A.ADC_INJSTAT (32768 + 4096 * v.navg + (if v.src = .host then 1024 else 0) + v.ch)

/-- R357, R525: what one capture conversion of a channel is worth; of a reserved channel the result is open. -/
def State.captured (s : State) (ch code : Nat) (ofs gain cb : Int) : Int × State :=
  if chReserved ch then let (f, s) := s.free 65536; ((f : Int), s) else (resWord ch (corrected code ofs gain cb), s)

/-- R358, R359, R519, R521, R525, R528: slice k has converted to a code. A stream's result joins its interval; a burst's goes to the recorder, `late` capture ticks after the latest sample, and
both places are freed with its last; a conversion of a burst that is over frees its own. The samples of a burst come in pairs, A's before B's: one out of turn cannot occur (log entry 5). -/
def State.convDone (s : State) (k code late : Nat) : State :=
  match s.adc.slices.getD k none with
  | some (.conv key ofs gain cb) =>
    let s := s.setSlice k none
    let s := s.setAdc (fun a => { a with avgs := a.avgs.map (fun v => if v.key = key then { v with vals := v.vals ++ [(k, corrected code ofs gain cb)] } else v) })
    match s.adc.avgs.find? (·.key = key) with
    | none => s
    | some v =>
      if v.vals.length = 2 ^ v.navg then s.avgDone v
      else if v.src ≠ .round && v.left ≠ 0 then s.startConv k key
      else s
  | some (.stream i ofs gain cb) =>
    let (v, s) := s.captured (s.g (F.STK_CAP_SRC i)) code ofs gain cb
    (s.setSlice k none).streamTake i v
  | some .spent => s.setSlice k none
  | some (.burst second) =>
    if second ≠ s.adc.pairB then s
    else
    let s := s.setAdc (fun a => { a with pairB := !second })
    let (v, s) := s.captured (s.g F.STK_RECCFG_BURSTCH) code (s.coefOfs k) (s.coefGain k) s.cbNow
    let s := s.burstSample (v % 65536).toNat late
    if s.stk.burstLeft = 0 then s.setAdc (fun a => { a with slices := a.slices.map (fun j => if j = some (.burst false) || j = some (.burst true) then none else j) }) else s
  | _ => s

/-! ### Calibration (R530 to R533) -/

/-- R532: a calibration key. Requests made in states without the converter are ignored (R518). -/
def State.calKey (s : State) (full : Bool) : State :=
  if !s.running then s
  else if s.calBusy || s.b F.ADC_CFG_BGCAL then s.p F.ADC_CALSTAT_IGN 1
  else (s.p F.ADC_CALSTAT_PEND 1).setAdc (fun a => { a with calFull := full })

/-- R532: the step starts: A and B free, and no earlier injected request left. -/
def State.calStart (s : State) : State :=
  if s.b F.ADC_CALSTAT_PEND && s.sliceFree 0 && s.sliceFree 1 && s.adc.inj.isEmpty && !s.adc.avgs.any (·.src ≠ .round) then
    (((s.setSlice 0 (some .cal)).setSlice 1 (some .cal)).p F.ADC_CALSTAT_PEND 0).p F.ADC_CALSTAT_RUN 1
  else s

/-- R531: GAIN for means F and Z; with F = Z the spec states no value. -/
def State.calGain (s : State) (f z : Rat) : Nat × State :=
  if f = z then s.free 65536
  else
    let x := (32768 * s.rn A.ADC_CALREF : Nat) / (f - z)
    ((clamp 0 65535 (nearR x)).toNat, s)

/-- R531, R532: the step ends, with the sums of the 64 raw codes of A and of B. -/
def State.calEnd (s : State) (sumA sumB : Nat) : State :=
  if s.b F.ADC_CALSTAT_RUN then
    let a : Rat := (sumA : Rat) / 4
    let b : Rat := (sumB : Rat) / 4
    let full := s.adc.calFull
    let s := if full then
        let (za, zb) := s.adc.zero.getD ((s.coefOfs 0 : Rat), (s.coefOfs 1 : Rat))
        let (ga, s) := s.calGain a za
        let (gb, s) := s.calGain b zb
        let s := (s.wi (A.ADC_COEF 0) (clamp (-32768) 32767 (nearR za))).wn (A.ADC_COEF 1) ga
        (s.wi (A.ADC_COEF 2) (clamp (-32768) 32767 (nearR zb))).wn (A.ADC_COEF 3) gb
      else (s.setAdc (fun x => { x with zero := some (a, b) })).p F.ADC_CALSTAT_ZDONE 1
    let s := ((s.p F.ADC_CALSTAT_RUN 0).p F.ADC_CALSTAT_CALDONE 1).p F.ADC_CALSTAT_LAST (if full then 2 else 1)
    ((s.setSlice 0 none).setSlice 1 none).setAdc (fun x => { x with inj := x.inj ++ x.held, held := [] })
  else s

/-- R533: a background calibration of the slice whose turn it is begins, where that slice converts nothing. -/
def State.bgStart (s : State) : State :=
  let k := s.adc.bgNext
  if s.running && s.b F.ADC_CFG_BGCAL && s.g F.ADC_STAT_BGSLICE = 0 && s.sliceFree k then
    ((s.setSlice k (some .bg)).p F.ADC_STAT_BGSLICE (k + 1)).setAdc (fun a => { a with bgNext := (k + 1) % 3 })
  else s

/-- R533: it ends, with the sum of the 64 codes of the ground channel: OFS is their mean. GAIN comes from the code of the reference fused at the factory, which the spec does not give. -/
def State.bgEnd (s : State) (groundSum : Nat) : State :=
  let n := s.g F.ADC_STAT_BGSLICE
  if n = 0 then s
  else
    let k := n - 1
    let (g, s) := s.free 65536
    let s := (s.wi (A.ADC_COEF (2 * k)) (clamp (-32768) 32767 (nearR ((groundSum : Rat) / 4)))).wn (A.ADC_COEF (2 * k + 1)) g
    (s.p F.ADC_STAT_BGSLICE 0).setSlice k none

/-- R518: the converter stops at an entry to any other state. -/
def State.adcStop (s : State) : State :=
  let s := s.setAdc (fun a => { a with slices := [none, none, none], avgs := [], inj := [], held := [], round := none, conv := [] })
  ((s.p F.ADC_CALSTAT_PEND 0).p F.ADC_CALSTAT_RUN 0).p F.ADC_STAT_BGSLICE 0

/-! ### Reading (R527) -/

/-- The read shadow of a port. -/
def State.adcShadow (s : State) (p : Port) : Option (Nat × Word) := match p with | .host => s.adc.hostSh | .relay => s.adc.relaySh

/-- Set it. -/
def State.setAdcShadow (s : State) (p : Port) (v : Option (Nat × Word)) : State :=
  match p with
  | .host => s.setAdc (fun a => { a with hostSh := v })
  | .relay => s.setAdc (fun a => { a with relaySh := v })

/-- R527: a read of RES_LO of channel c through a port. -/
def State.resLoRead (s : State) (p : Port) (c : Nat) : Word × State :=
  (s.rd (A.ADC_RES (2 * c)), s.setAdcShadow p (some (c, s.rd (A.ADC_RES (2 * c + 1)))))

/-- R527: a read of RES_HI. -/
def State.resHiRead (s : State) (p : Port) (c : Nat) : Word × State :=
  match s.adcShadow p with
  | some (d, w) => if d = c then (w, s.setAdcShadow p none) else (s.rd (A.ADC_RES (2 * c + 1)), s)
  | none => (s.rd (A.ADC_RES (2 * c + 1)), s)

/-- R534: ADC_STAT as it reads. -/
def State.adcStat (s : State) : Nat :=
  32768 * s.adc.round.isSome.toNat + 16384 * s.calBusy.toNat + 8192 * s.bursting.toNat + 4096 * (s.b F.ADC_CFG_BGCAL).toNat + 512 * (s.injPend % 8) + s.rn A.ADC_STAT % 512

end Sys2Proof.Machine
end

