-- ==== Sys2Proof/Machine/Wayline.lean ====
section
/-! DEFINITION. The Wayline (13_wayline.md): the manager's turn, ledger and answers; the worker's milestones, slots and joins; leases, time, records, relays and resets. -/
namespace Sys2Proof.Machine

/-! ### Packets and link events (R492) -/

/-- R492: a worker summary: the packet, LINK and WAY_MCHG. -/
def State.workerSummary (s : State) (ev addr cls : Nat) : State :=
  ((s.pbit (A.WAY_MCHG (addr / 16)) (addr % 16) true).setLink).post (.worker ev addr cls (BitVec.ofNat 32 (s.wrec addr).status))

/-- The bits of WAY_STAT whose change posts a link event: ADMIT, ORPHAN, CLASH, DISMISS, STEP. -/
def linkBits : Nat := 0xC340

/-- R492: a change of ADMIT, ORPHAN, CLASH, DISMISS or STEP since `before` posts a link event and sets LINK. -/
def State.linkFollow (s : State) (before : State) : State :=
  if (s.rn A.WAY_STAT).land linkBits = (before.rn A.WAY_STAT).land linkBits then s
  else s.setLink.post (.linkEvent (BitVec.ofNat 16 before.wayStat))

/-- R467: a received frame is rejected: counted, and source 117 raises once in a second that brings more than 16. -/
def State.frameError (s : State) : State :=
  if s.wayOn && (s.isManager || s.isWorker) then
    let n := if s.way.errSec = s.rtcSec then s.way.errCnt + 1 else 1
    let s := (s.inc A.WAY_CNTCRC).setWay (fun w => { w with errSec := s.rtcSec, errCnt := n })
    s.when (n = 17) (·.raise 117)
  else s

/-! ### The manager: frames of workers (R472, R475, R477, R481, R486, R492) -/

/-- R464: the manager takes part. In FAULT it only receives. -/
def State.managerHears (s : State) : Bool := s.isManager && s.wayOn

/-- R481: a frame in the slot of an address whose record is not present draws a DISMISS. -/
def State.dismiss (s : State) (a : Nat) : State :=
  let s := if s.way.answers.any (fun x => x.kind = 2 && x.addr = a) then s else s.setWay (fun w => { w with answers := w.answers ++ [⟨2, a, 0⟩] })
  s.workerSummary 4 a 2

/-- R479, R481, R492: a valid frame in the slot of worker a; `f` is what it does where the record is present. -/
def State.workerFrame (s : State) (a : Nat) (f : State → State) : State :=
  if s.managerHears && decide (1 ≤ a) && decide (a ≤ 31) then
    if (s.wrec a).st = 1 then f (s.setRec a (fun r => { r with heard := true })) else s.dismiss a
  else s

/-- R492: the bits of a STATUS payload whose change posts a summary: fault banks, DEGR, PFW, THR_ENF, power state, deviation count. -/
def statusBits : Nat := 0xFE00FF00

/-- R492: a STATUS frame. -/
def State.statusFrame (s : State) (a payload : Nat) : State :=
  s.workerFrame a (fun s =>
    let old := (s.wrec a).status
    let s := s.setRec a (fun r => { r with status := payload })
    if old.land statusBits = payload.land statusBits then s
    else s.workerSummary 6 a (if payload.testBit 26 && !old.testBit 26 then 1 else 2))

/-- R486: a REQUEST is recorded, or replaces the pending one of the same address. W1 has no emergency mark (R478). -/
def State.putPend (s : State) (p : WPend) : State :=
  match s.pendOf p.addr with
  | some q =>
    if q.rseq = p.rseq then s
    else s.setWay (fun w => { w with pend := w.pend.map (fun x => if x.addr = p.addr then { p with turn := x.turn } else x) })
  | none => s.setWay (fun w => { w with pend := w.pend ++ [p] })

/-- R475, R486: a REQUEST frame. -/
def State.requestFrame (s : State) (a payload : Nat) : State :=
  s.workerFrame a (fun s => s.putPend ⟨a, payload / 256 % 16, payload / 4096 % 4096, payload / 16777216 % 128, payload.testBit 31 && (s.wrec a).w2, s.way.turns⟩)

/-- R486: a RELEASE frame acts at the next clearing. -/
def State.releaseFrame (s : State) (a payload : Nat) : State :=
  s.workerFrame a (fun s => s.setWay (fun w => { w with rels := w.rels ++ [(a, payload / 256 % 16)] }))

/-- Take address a off the ledger, with any GRANT answer that still waits for it. -/
def State.reclaim (s : State) (a : Nat) : State :=
  let s := s.setWay (fun w => { w with grants := w.grants.filter (·.addr ≠ a), answers := w.answers.filter (fun x => !(x.kind = 1 && x.addr = a)) })
  if a = 0 then s.wn A.WAY_GRANT 0 else s

/-- Drop the pending request of address a. -/
def State.dropPend (s : State) (a : Nat) : State := s.setWay (fun w => { w with pend := w.pend.filter (·.addr ≠ a) })

/-- R493: a relay ends with a result. -/
def State.relayEnd (s : State) (result : Nat) : State :=
  ((s.setWay (fun w => { w with relay := none })).p F.HIF_RLYSTAT_BUSY 0).p F.HIF_RLYSTAT_RESULT result |>.setLink

/-- R493: a relay ends as soon as its worker's record is no longer present. -/
def State.relayFollow (s : State) : State :=
  match s.way.relay with
  | some r => if (s.wrec r.addr).st ≠ 1 then s.relayEnd 3 else s
  | none => s

/-- R481: a LEAVE frame. -/
def State.leaveFrame (s : State) (a : Nat) : State :=
  s.workerFrame a (fun s => ((((s.setRec a (fun r => { r with st := 3 })).reclaim a).dropPend a).workerSummary 3 a 2).relayFollow)

/-- R479: worker a is deemed absent: its pending request is dropped, and its grant stays committed. -/
def State.deemAbsent (s : State) (a : Nat) : State :=
  ((((s.setRec a (fun r => { r with st := 2 })).dropPend a).raise 116).workerSummary 2 a 1).relayFollow

/-- R479: the slot of worker a has passed without a valid frame for the third turn in a row. -/
def State.workerAbsent (s : State) (a : Nat) : State :=
  if s.managerHears && (s.wrec a).st = 1 && !(s.wrec a).heard && decide (2 ≤ (s.wrec a).missed) then s.deemAbsent a else s

/-- R479: the turn that ends is accounted for: a worker whose third turn in a row brought nothing is absent before the ledger is cleared. -/
def State.countTurn (s : State) : State :=
  let s := s.each ((List.range 31).map (· + 1)) State.workerAbsent
  s.setWay (fun w => { w with recs := w.recs.map (fun r => if r.st = 1 then { r with missed := if r.heard then 0 else r.missed + 1, heard := false } else r) })

/-- R477: a JOIN frame waits for the decision after the clearing: its address, nonce, and for W2 its identity. -/
def State.joinFrame (s : State) (a nonce : Nat) (ident : Option Nat) : State :=
  if s.managerHears && decide (1 ≤ a) && decide (a ≤ 31) then s.setWay (fun w => { w with joins := w.joins ++ [(a, nonce, ident)] }) else s

/-- R477, R478: the decision on a JOIN. -/
def State.decideJoin (s : State) (a nonce : Nat) (ident : Option Nat) : State :=
  if s.b F.WAY_MCFG_JOINEN then
    let r := s.wrec a
    let w2 := ident.isSome && s.b F.WAY_CFG_WMAX
    let id := if w2 then ident.getD 0 else 0
    let answer (s : State) (kind : Nat) : State :=
      let data := (if kind = 3 && w2 then 32768 else 0) + 256 * (id % 128) + nonce % 256
      s.setWay (fun w => { w with answers := w.answers ++ [⟨kind, a, data⟩] })
    let refuse := r.st = 1 && (match ident with | some i => r.ident ≠ i | none => true)
    if refuse then ((answer s 4).raise 115).workerSummary 5 a 2
    else
      let same := match ident with | some i => decide (r.ident = i) && (r.st = 1 || r.st = 2) | none => false
      let s := s.when same (·.reclaim a)
      let s := s.setRec a (fun _ => ⟨1, w2, id, 0, 0, false⟩)
      (answer s 3).workerSummary 1 a 2
  else s

/-- R477: the JOIN frames of the turn that ends, in the order in which they came. -/
def State.decideJoins (s : State) : State := (s.setWay (fun w => { w with joins := [] })).each s.way.joins (fun s j => s.decideJoin j.1 j.2.1 j.2.2)

/-! ### The manager: the turn (R473, R474, R486 to R488) -/

/-- R469: the turn period in ms. -/
def State.turnMs (s : State) : Nat := [8, 4, 2, 1].getD (s.g F.WAY_CFG_RATE) 2

/-- R487: p comes before q. -/
def WPend.before (p q : WPend) : Bool :=
  let start (x : WPend) : Nat := (x.addr + 32 - x.turn % 32) % 32
  if p.emerg ≠ q.emerg then p.emerg
  else if p.turn ≠ q.turn then decide (p.turn < q.turn)
  else decide (start p < start q)

/-- Put a request into its order. -/
def orderIn (p : WPend) (l : List WPend) : List WPend :=
  match l with
  | [] => [p]
  | q :: r => if p.before q then p :: q :: r else q :: orderIn p r

/-- R486, R488: a grant is decided. The manager's own takes effect at this origin and needs no answer. -/
def State.grantNow (s : State) (p : WPend) : State :=
  let g : WGrant := ⟨p.addr, p.rseq, p.tolls, 100 * p.lease, decide (p.addr = 0), s.ticks⟩
  let s := (s.dropPend p.addr).setWay (fun w => { w with grants := w.grants.filter (·.addr ≠ p.addr) ++ [g] })
  if p.addr = 0 then
    (s.wn A.WAY_GRANT (4096 * p.rseq + p.tolls)).setWay (fun w => { w with leaseMs := 100 * p.lease, leaseAt := s.ticks, out := if p.rseq = w.rseq then none else w.out })
  else
    s.setWay (fun w => { w with answers := w.answers.filter (fun x => !(x.kind = 1 && x.addr = p.addr)) ++ [⟨1, p.addr, 4096 * p.rseq + p.tolls⟩] })

/-- R486: a request fits. -/
def State.fits (s : State) (p : WPend) : Bool :=
  let b := s.g F.WAY_MBUDGET_BUDGET
  b = 4095 || decide (s.committed - ((s.grantOf p.addr).map (·.tolls)).getD 0 + p.tolls ≤ b)

/-- R487: the walk; one that does not fit ends it, but an emergency request where EMOVER is 1. -/
def State.walk (s : State) (l : List WPend) : State :=
  match l with
  | [] => s
  | p :: r => if s.fits p || (p.emerg && s.b F.WAY_MCFG_EMOVER) then (s.grantNow p).walk r else s

/-- R486 steps 1 and 2: the clearing: leases ended, and releases. What R477 reclaims goes with the decisions on the JOINs, which follow at once. -/
def State.clearLedger (s : State) : State :=
  let ended := (s.way.grants.filter (fun g => g.runs && s.leaseOf g = 0)).map (·.addr)
  let rels := s.way.rels ++ (if s.stk.tollRel then [(0, s.way.rseq)] else [])
  let s := s.each (ended ++ rels.map (·.1)) State.reclaim
  let s := s.each rels (fun s x => if ((s.pendOf x.1).map (·.rseq)) = some x.2 then s.dropPend x.1 else s)
  let s := s.when s.stk.tollRel (fun s => (s.setStk (fun k => { k with tollRel := false })).setWay (fun w => { w with out := none }))
  s.setWay (fun w => { w with rels := [] })

/-- R486: the manager's own request enters the ledger. -/
def State.ownRequest (s : State) : State :=
  match s.stk.tollReq with
  | none => s
  | some t =>
    let q := (s.way.rseq + 1) % 16
    let s := (s.setStk (fun k => { k with tollReq := none })).setWay (fun w => { w with rseq := q, out := some t })
    s.putPend ⟨0, q, t.tolls, t.lease, t.emerg, s.way.turns⟩

/-- The bytes of an answer. -/
def answerBytes (a : Answer) : List Byte := BitVec.ofNat 8 (32 * a.kind + a.addr) :: leBytes 2 a.data

/-- R474: the two answers of a milestone, taken in order of precedence from those that wait. -/
def State.takeAnswers (s : State) : List Answer × State :=
  let rs := s.way.resets.take 2
  let q := s.way.answers
  let order := q.filter (fun x => x.kind = 3 || x.kind = 4) ++ q.filter (·.kind = 1) ++ q.filter (·.kind = 2)
  let take := order.take (2 - rs.length)
  let s := s.setWay (fun w => { w with
    answers := w.answers.filter (fun x => !take.contains x)
    resets := (rs.map (fun r => (r.1, r.2.1, r.2.2 - 1))).filter (fun r => r.2.2 ≠ 0) ++ w.resets.drop 2
    grants := w.grants.map (fun g => if take.any (fun x => x.kind = 1 && x.addr = g.addr) then { g with runs := true, since := s.ticks } else g) })
  (rs.map (fun r => ⟨5, r.1, 256 * r.2.1 + 0x5A⟩) ++ take, s)

/-- R473: a milestone's bytes. -/
def milestone (turn frac sech : Nat) (w2 : Bool) (as : List Answer) : List Byte :=
  let none : Answer := ⟨0, 0, 0⟩
  let b := BitVec.ofNat 8 (224 + turn % 32) :: leBytes 2 (frac / 2 * 2 + w2.toNat) ++ leBytes 2 sech ++ answerBytes (as.getD 0 none) ++ answerBytes (as.getD 1 none)
  b ++ [crc8 b]

/-- R477, R486: a turn origin: the turn that ends is accounted for, the ledger is cleared, its JOINs and then grants are decided, and the milestone goes out with its answers. The manager's own request then enters
the ledger, to be decided at the next origin (the example under R489). -/
def State.turnOrigin (s : State) : State :=
  if s.isManager && s.running && !s.way.silent then
    let s := s.countTurn.clearLedger.decideJoins
    let s := s.walk (s.way.pend.foldl (fun l p => orderIn p l) [])
    let n := s.way.turns + 1
    let (as, s) := s.takeAnswers
    let sech := if n % 2 = 0 then s.rtcSec % 65536 else s.way.prevSec / 65536 % 65536
    let f := milestone n s.rtcFrac sech (s.b F.WAY_CFG_WMAX) as
    let s := (s.setWay (fun w => { w with turns := n, prevSec := s.rtcSec, sent := f })).p F.WAY_MSTAT_TURN (n % 32)
    s.ownRequest
  else s

/-- R482: a manager hears a milestone that it did not send. -/
def State.foreignMilestone (s : State) : State :=
  if s.managerHears then ((s.raise 118).p F.WAY_STAT_MGRCONF 1).setWay (fun w => { w with silent := true }) else s

/-- R482: the silence ends. -/
def State.silenceEnd (s : State) : State := if s.isManager then s.setWay (fun w => { w with silent := false }) else s

/-- R494, R514: a write of WAY_RSTCMD on a manager; the wrong key and address 0 are ignored. -/
def State.resetCommand (s : State) (w : Word) : State :=
  let a := F.WAY_RSTCMD_ADDR.get w
  if F.WAY_RSTCMD_KEY.get w ≠ 0xD2 || a = 0 then s
  else
    let r := s.wrec a
    if r.st = 0 then s.p F.WAY_MSTAT_RSTREF 1
    else s.setWay (fun x => { x with resets := x.resets.filter (·.1 ≠ a) ++ [(a, if r.w2 then r.ident % 256 else 0, 3)] })

/-! ### Relays (R493) -/

/-- R493: the relay window: the request goes out, or the relay fails. A manager that is silent or out of the running states has no window, so its relay waits (DESIGN CHOICE, log entry 87). -/
def State.relayWindow (s : State) : State :=
  match s.way.relay with
  | none => s
  | some r =>
    if !(s.isManager && s.running && !s.way.silent) then s
    else if (s.wrec r.addr).st ≠ 1 then s.relayEnd 3
    else if 3 ≤ r.used then s.relayEnd 2
    else
      let b := BitVec.ofNat 8 (192 + r.addr) :: leBytes 4 (65536 * ((r.count + 15) % 16) + r.word)
      s.setWay (fun w => { w with relay := some { r with used := r.used + 1 }, sent := b ++ [crc8 b] })

/-- R493: a reply of worker a with its words; only one with the requested count ends the relay. -/
def State.relayReply (s : State) (a : Nat) (words : List Word) : State :=
  match s.way.relay with
  | none => s
  | some r =>
    if s.managerHears && r.used ≠ 0 && r.addr = a && words.length = r.count then
      (s.wrs (A.HIF_RLYBUF 0) words).relayEnd 1
    else s

/-! ### The worker: milestones (R471, R474, R476, R481, R488, R490, R491, R494) -/

/-- R478: the version that this worker offers. -/
def State.offersW2 (s : State) : Bool := s.b F.WAY_CFG_WMAX && s.way.mgrW2

/-- R140: bits n − 1 to 0 of the own identity, n at most 16. -/
def ownIdent (n : Nat) : Nat := uid % 2 ^ n

/-- The grant in force is dropped. -/
def State.dropGrant (s : State) : State := (s.wn A.WAY_GRANT 0).setWay (fun w => { w with kept := false })

/-- R488: a GRANT is taken, whatever RSEQ it carries. A lease that no request of that RSEQ asked for is open. It is not the grant that a restart of the link found in force (R483, DEDUCED, log entry 73). -/
def State.takeGrant (s : State) (data : Nat) : State :=
  let q := data / 4096 % 16
  let l := s.way.leases.getD q 0
  let (l, s) := if l = 0 then let (f, s) := s.free 100; (f + 1, s) else (l, s)
  (s.wn A.WAY_GRANT data).setWay (fun w => { w with leaseMs := 100 * l, leaseAt := s.ticks, kept := false, out := if q = w.rseq then none else w.out })

/-- R476: an ACCEPT or REFUSE is this worker's own. -/
def State.ownJoin (s : State) (data : Nat) : Bool :=
  match s.way.join with
  | .sent nonce w2 _ => data % 256 = nonce && (!w2 || data / 256 % 128 = ownIdent 7)
  | _ => false

/-- R474: one answer to this worker; the second part says that a RESET asks for a manager reset (R494). -/
def State.workerTakes (s : State) (a : Answer) : State × Bool :=
  if a.addr ≠ s.wayAddr || s.wayAddr = 0 then (s, false)
  else match a.kind with
    | 1 => (s.takeGrant a.data, false)
    | 2 => (((s.dropGrant.p F.WAY_STAT_ADMIT 0).p F.WAY_STAT_DISMISS 1).setWay (fun w => { w with join := .listen 0 }), false)
    | 3 =>
      if s.ownJoin a.data then
        (((s.dropGrant.p F.WAY_STAT_ADMIT 1).p F.WAY_STAT_VER (a.data / 32768 % 2)).setWay (fun w => { w with join := .listen 0 }), false)
      else (s, false)
    | 4 => if s.ownJoin a.data then (((s.p F.WAY_STAT_CLASH 1).raise 115).setWay (fun w => { w with join := .refused }), false) else (s, false)
    | 5 =>
      let id := a.data / 256 % 256
      let mine := id = ownIdent 8 || (id = 0 && !s.b F.WAY_STAT_VER)
      (s, a.data % 256 = 0x5A && mine && (s.power = .run || s.power = .watch || s.power = .fault))
    | _ => (s, false)

/-- R490: the manager's time of a pair in RTC units: seconds bits 39:32 are those nearest the own RTC. -/
def pairTime (own low : Nat) : Int :=
  let d : Int := ((low : Int) - (own : Int)) % 281474976710656
  (own : Int) + (if d < 140737488355328 then d else d - 281474976710656)

/-- R491: the trim after 128 pairs: F, the trim in force plus the drift measured, plus offset ÷ 1,000 s, limited to ±250 ppm. -/
def State.followTrim (s : State) (ofs at_ : Int) : State :=
  let el := at_ - (s.way.firstAt : Int)
  let drift : Rat := if el = 0 then 0 else ((ofs - s.way.firstOfs) * 1000000 : Int) / (el : Rat)
  let t := nearRat ((s.trim : Rat) + drift + (ofs * 1000 : Int) / (65536 : Rat))
  s.p F.RTC_TRIM_PPM ((clamp (-250) 250 t) % 512).toNat
where
  /-- An exact value to the nearest whole number. -/
  nearRat (x : Rat) : Int := divTie x.num x.den

/-- R491: a complete pair while FOLLOW is 1. -/
def State.followPair (s : State) (ofs at_ : Int) : State :=
  let s := s.setWay (fun w => { w with following := true })
  let big := decide (65536 < ofs.natAbs)
  if big && 1 ≤ s.way.overs then
    let s := s.setWay (fun w => { w with overs := 0, pairs := 0 })
    if s.rtcx.pend.isSome then s else (s.rtcMilestone ofs).p F.WAY_STAT_STEP 1
  else
    let s := s.setWay (fun w => { w with overs := if big then 1 else 0,
                                         firstOfs := if w.pairs = 0 then ofs else w.firstOfs, firstAt := if w.pairs = 0 then at_.toNat else w.firstAt, pairs := w.pairs + 1 })
    if 128 ≤ s.way.pairs then (s.followTrim ofs at_).setWay (fun w => { w with pairs := 0 }) else s

/-- R490: a milestone's time. -/
def State.milestoneTime (s : State) (turn fracver sech : Nat) : State :=
  if turn % 2 = 0 then s.setWay (fun w => { w with half := some ⟨turn, sech, fracver / 2 * 2, s.rtc⟩ })
  else
    match s.way.half with
    | some h =>
      let s := s.setWay (fun w => { w with half := none })
      if (h.turn + 1) % 32 = turn && s.b F.WAY_CFG_FOLLOW then
        let t := pairTime h.own ((sech * 65536 + h.sec) * 65536 + h.frac)
        s.followPair (t - (h.own : Int)) t
      else s
    | none => s

/-- R476: a valid milestone moves an unadmitted worker's join on: `ok` says that it follows the one before, `d` how many turns have passed since that one. -/
def JoinPhase.next (j : JoinPhase) (ok : Bool) (d addr : Nat) : JoinPhase :=
  match j with
  | .listen n => if ok && n = 1 then .ready addr else .listen 1
  | .ready t => .ready (t - d)
  | .sent n v l => if l ≤ 1 then .waiting else .sent n v (l - 1)
  | .waiting => .waiting
  | .refused => .refused

/-- R471 to R494: a valid milestone at a worker: TURN, FRAC with VER, SECH and the two answers. The second part says that a manager reset is due. -/
def State.milestoneReceived (s : State) (turn fracver sech : Nat) (a0 a1 : Answer) : State × Bool :=
  if s.isWorker && s.wayOn then
    let s0 := s
    let d := match s.way.lastTurn with | some t => (turn + 32 - t) % 32 | none => 0
    let ok : Bool := d = 1
    let c := if ok then min 2 (s.way.consec + 1) else if s.way.consec = 2 then 2 else 1
    let s := s.setWay (fun w => { w with consec := c, lastTurn := some (turn % 32), heardAt := s.ticks, fresh := true, mgrW2 := fracver % 2 = 1 })
    let s := s.p F.WAY_STAT_ORPHAN 0
    let s := s.milestoneTime (turn % 32) fracver sech
    let (s, r0) := s.workerTakes a0
    let (s, r1) := s.workerTakes a1
    let s := s.when (!s.admitted) (fun s => s.setWay (fun w => { w with join := w.join.next ok d s.wayAddr }))
    (s.linkFollow s0, r0 || r1)
  else (s, false)

/-- R480: three turn periods without a valid milestone, whether or not one has been heard before. -/
def State.wayOrphan (s : State) : State :=
  if s.isWorker && s.wayOn && !s.b F.WAY_STAT_ORPHAN then
    let s0 := s
    let s := (s.dropGrant.p F.WAY_STAT_ADMIT 0).p F.WAY_STAT_ORPHAN 1
    let s := s.setWay (fun w => { w with consec := 0, lastTurn := none, fresh := false, join := .listen 0, following := false, half := none, overs := 0, pairs := 0 })
    ((s.inc A.WAY_CNTORPH).raise 114).linkFollow s0
  else s

/-! ### The worker: sending (R471, R475, R476, R488) -/

/-- R129, R621: a bank of the fault collector has a sticky bit set. -/
def State.bankSet (s : State) (b : Nat) : Bool := s.rn (A.FLT_STK (2 * b)) ≠ 0 || s.rn (A.FLT_STK (2 * b + 1)) ≠ 0

/-- R475: the STATUS payload. -/
def State.statusPayload (s : State) : Nat :=
  2147483648 * (s.bankSet 3).toNat + 1073741824 * (s.bankSet 2).toNat + 536870912 * (s.bankSet 1).toNat + 268435456 * (s.bankSet 0).toNat
    + 134217728 * s.degr.toNat + 67108864 * s.pfw.toNat + 33554432 * s.g F.THM_STAT_THRENF + 16777216 * s.line.qual.toNat
    + 65536 * s.g F.GAU_RESERVE_STROKES + 4096 * s.power.code + 256 * (s.rn (A.STK_CNT 6) % 16)
    + 128 * s.line.fullOn.toNat + 64 * s.weirOn.toNat + 32 * s.strokeActive.toNat + 16 * s.g F.STK_STAT_EMERG

/-- R472: a worker frame: type and payload. -/
def State.workerSend (s : State) (type payload : Nat) : State :=
  let b := BitVec.ofNat 8 (32 * type + s.wayAddr) :: leBytes 4 payload
  s.setWay (fun w => { w with sent := b ++ [crc8 b], fresh := false })

/-- R475: what is due to be released: the grant in force, or a request outstanding. -/
def State.releaseDue (s : State) : Bool := s.stk.tollRel && (s.grantTolls ≠ 0 || s.way.out.isSome)

/-- R350, R475: a request that the stroke logic has made becomes outstanding, with the next RSEQ. -/
def State.raiseRequest (s : State) : State :=
  match s.stk.tollReq with
  | none => s
  | some t =>
    let q := (s.way.rseq + 1) % 16
    (s.setStk (fun k => { k with tollReq := none })).setWay (fun w => { w with rseq := q, out := some t, leases := w.leases.set q t.lease })

/-- R471: the running turn has brought a valid milestone, after two in a row. -/
def State.turnHeard (s : State) : Bool := decide (2 ≤ s.way.consec) && s.way.lastTurn.isSome && decide (ticksMs (s.ticks - s.way.heardAt) < s.turnMs)

/-- R475: the frame that an admitted worker sends in its slot. -/
def State.slotSend (s : State) : State :=
  if s.isWorker && s.running && s.admitted && s.turnHeard && s.way.fresh then
    let res := s.g F.GAU_RESERVE_STROKES
    if s.way.leaveDue then
      ((s.workerSend 3 res).dropGrant.setStk (fun k => { k with tollReq := none, tollRel := false })).setWay (fun w => { w with leaveDue := false, out := none })
    else if s.releaseDue then
      ((s.workerSend 2 (256 * s.way.rseq + res)).dropGrant.setStk (fun k => { k with tollRel := false })).setWay (fun w => { w with out := none })
    else
      let s := (s.setStk (fun k => { k with tollRel := false })).raiseRequest
      match s.way.out with
      | some t => s.workerSend 1 (2147483648 * (t.emerg && s.b F.WAY_STAT_VER).toNat + 16777216 * (t.lease % 128) + 4096 * (t.tolls % 4096) + 256 * s.way.rseq + res)
      | none => s.workerSend 0 s.statusPayload
  else s

/-- R476: an unadmitted worker sends JOIN. Its nonce is random. -/
def State.joinSend (s : State) : State :=
  if s.isWorker && s.running && !s.admitted && s.wayAddr ≠ 0 && s.turnHeard && s.way.fresh && s.way.join = .ready 0 then
    let (n, s) := s.free 256
    let w2 := s.offersW2
    let id := leBytes 8 uid
    let b := BitVec.ofNat 8 (128 + s.wayAddr) :: (if w2 then id ++ [BitVec.ofNat 8 n, 2] else [BitVec.ofNat 8 n])
    s.setWay (fun w => { w with sent := b ++ [crc8 b], fresh := false, join := .sent n w2 2 })
  else s

/-- R476: the random wait ends, or the second after a refusal, after which the worker starts again. -/
def State.joinRetry (s : State) : State :=
  match s.way.join with
  | .waiting => s.setWay (fun w => { w with join := .ready 0 })
  | .refused => s.setWay (fun w => { w with join := .listen 0 })
  | .listen _ => s | .ready _ => s | .sent _ _ _ => s

/-- R488: the lease ends at the worker. -/
def State.leaseEnd (s : State) : State := if s.isWorker && s.grantTolls ≠ 0 then s.dropGrant else s

/-- R488: 250 ms of the lease remain with the stroke still active: a re-size for the stroke time that remains. -/
def State.leaseRenewal (s : State) : State :=
  if s.mayRequest && s.grantTolls ≠ 0 && s.strokeActive then
    let (t, s) := s.tollFor (if s.strokeRuns then s.stk.ms else 0)
    s.setStk (fun k => { k with tollReq := some { t with lease := max 1 t.lease } })
  else s

/-- R483: the link controller restarts: a worker's admission ends and its grant goes on; a manager keeps its ledger and records. -/
def State.linkRestart (s : State) : State :=
  let s0 := s
  let applies := s.admitted || s.way.kept
  let s := if s.isWorker then (s.p F.WAY_STAT_ADMIT 0).setWay (fun w => { w with kept := applies && s.grantTolls ≠ 0, join := .listen 0, consec := 0, lastTurn := none, fresh := false, half := none, overs := 0, pairs := 0 }) else s
  s.linkFollow s0

end Sys2Proof.Machine
end

