-- ==== Sys2Proof/Machine/Domain.lean ====
section
/-! DEFINITION. Switching domains (06_domains_and_sequencing.md): on and off with ranks, shed on backup, the reset outputs, and the counters. -/
namespace Sys2Proof.Machine

/-- R193: the rank of domain n, 0 when off. -/
def State.rank (s : State) (n : Nat) : Nat := s.g (F.DOM_STAT_RANK n)

/-- R193: the highest rank held. -/
def State.topRank (s : State) : Nat := domains.foldl (fun m n => max m (s.rank n)) 0

/-- R193: domain n loses its rank; where no domain holds it any longer, the higher ones close up. -/
def State.dropRank (s : State) (n : Nat) : State :=
  let r := s.rank n
  let s := s.p (F.DOM_STAT_RANK n) 0
  if r = 0 || domains.any (fun k => s.rank k = r) then s
  else s.each domains (fun s k => if r < s.rank k then s.p (F.DOM_STAT_RANK k) (s.rank k - 1) else s)

/-- R155, R188, R193, R355: domain n is switched off, with active discharge where `disch`; a domain that is off stays so. -/
def State.domOff (s : State) (n : Nat) (disch : Bool) : State :=
  if s.cmdOn n then
    let was := s.monPowered (n - 1)
    let s := ((s.pgFall n).p (F.DOM_STAT_CMDON n) 0).dropRank n
    let s := if n = 1 then s.abandonStroke.drvStop disch else s.regStop n disch
    s.when (was && !s.monPowered (n - 1)) (·.monRestart (n - 1))
  else s

/-- R205, R237: the switch-off that a report in POWER-DOWN makes, as an argument of the monitors' operations. -/
def offNow (s : State) (n : Nat) : State := s.domOff n true

/-- R155, R187, R189, R193, R209: domain n is switched on with the rank r: its comparators start afresh, its switch-on counts, and its soft-start begins. -/
def State.domStart (s : State) (r n : Nat) : State :=
  let s := ((s.p (F.DOM_STAT_CMDON n) 1).p (F.DOM_STAT_SHED n) 0).p (F.DOM_STAT_RANK n) r
  let s := (s.inc32 (A.DOM_CNT n 4)).monRestart (n - 1)
  if n = 1 then s.drvStart else s.regStart n

/-- R155, R193: the domains of a list are switched on by one step: those that are off take the rank after the highest. -/
def State.domsOn (s : State) (ns : List Nat) : State :=
  let r := s.topRank + 1
  s.each (ns.filter (fun n => !s.cmdOn n)) (fun s n => s.domStart r n)

/-- The domains of a mask (bit n − 1). -/
def maskDomains (m : Nat) : List Nat := domains.filter (fun n => m.testBit (n - 1))

/-- R155: the ENABLE of an unused domain, whose result the spec calls undefined. -/
def State.unusedIn (s : State) (ns : List Nat) : Bool := ns.any (fun n => !s.b (F.DOM_CFG_USED n))

/-- R206, R155: the domains of SYS_SHEDMASK that are on go off with active discharge, and SHED sets for each of them. -/
def State.shedOff (s : State) : State :=
  s.each ((maskDomains (s.g F.SYS_SHEDMASK_SHED)).filter (fun n => s.cmdOn n)) (fun s n => (s.domOff n true).p (F.DOM_STAT_SHED n) 1)

/-- R206: every domain whose SHED bit is 1 is switched on with soft-start, and the bits clear. -/
def State.shedRestore (s : State) : State := s.domsOn (domains.filter (fun n => s.b (F.DOM_STAT_SHED n)))

/-- R148, R206: SYS receives trigger 4: the shed switching takes place as it arrives, and the trigger follows. -/
def State.trigger4 (s : State) : State := s.shedOff.trig 0 4

/-- R148, R206: SYS receives trigger 5: the restore takes place as it arrives. -/
def State.trigger5 (s : State) : State := s.shedRestore.trig 0 5

/-- Every domain off with active discharge, from domain 10 down. -/
def State.allOff (s : State) : State := s.each [10, 9, 8, 7, 6, 5, 4, 3, 2, 1] (fun s n => s.domOff n true)

/-- R206: SHED clears at an entry to a state in which the engines stop. -/
def State.clearShed (s : State) : State := s.each domains (fun s n => s.p (F.DOM_STAT_SHED n) 0)

/-- R194: the domains that hold a rank, the highest first. -/
def State.byRank (s : State) : List Nat :=
  (List.range 10).foldl (fun l i => l ++ domains.filter (fun n => s.rank n = 10 - i)) []

/-- R208: domain n's RSTMAP names reset output i (0 RSTA_N, 1 RSTB_N, 2 RSTC_N). -/
def State.rstMap (s : State) (n i : Nat) : Bool := s.bit (A.DOM_CFG n) (12 + i)

/-- R208: reset output i is driven low. -/
def State.rstLow (s : State) (i : Nat) : Bool :=
  s.ctl.rstEng.getD i true || !s.running || s.ctl.resetting.isSome || domains.any (fun n => s.rstMap n i && (!s.pg n || (s.domAt n).fresh))

/-- R155, R208: the engines hold the outputs of a mask low, or release their hold. -/
def State.holdResets (s : State) (mask : Nat) (low : Bool) : State :=
  { s with ctl := { s.ctl with rstEng := (List.range 3).map (fun i => if mask.testBit i then low else s.ctl.rstEng.getD i true) } }

/-- R215: the six count words of domain n clear. -/
def State.clearDomCounts (s : State) (n : Nat) : State := s.each (List.range 6) (fun s k => s.wr (A.DOM_CNT n k) 0)

end Sys2Proof.Machine
end

