-- ==== Sys2Proof/Machine/Reserved.lean ====
section
/-! DEFINITION. The codes that the register descriptions call reserved and the ranges of the image's tables (R640): what an image, a host write or a SET may put into a field. -/
namespace Sys2Proof.Machine

/-- R220: the last setpoint code of domain n that is not reserved. -/
def vsetTop (n : Nat) : Nat := if n = 2 then 100 else if n = 3 then 180 else if isDvs n then 150 else if n = 6 then 80 else if n = 7 then 100 else if n = 8 then 100 else 320

/-- R229: the last limit code of domain n that is not reserved. -/
def ilimTop (n : Nat) : Nat := if n = 2 || n = 9 || n = 10 then 14 else if n = 8 then 7 else 9

/-- R226: the lowest frequency code marked for domain n. -/
def fswLow (n : Nat) : Nat := if n = 2 || n = 10 then 3 else if n = 7 then 2 else 0

/-- The fields of the domains with their codes in use, as inclusive ranges (R211, R217, R220, R226, R229, R243, R244, R247, R248). -/
def reservedDomains : List (Fld × List (Nat × Nat)) :=
  [1, 2, 3, 4, 5, 6, 7, 8, 9, 10].map (fun n => (F.DOM_CFG_PGDLY n, [(0, 11)])) ++
  [2, 3, 4, 5, 6, 7, 8, 10].map (fun n => (F.DOM_VSET_CODE n, [(0, vsetTop n)])) ++
  [2, 3, 4, 5, 6, 7, 8, 9, 10].map (fun n => (F.DOM_ILIM_CODE n, [(0, ilimTop n)])) ++
  [2, 3, 4, 5, 6, 7, 8, 10].map (fun n => (F.DOM_RCFG_TSS n, [(0, 6)])) ++
  [2, 7, 10].map (fun n => (F.DOM_RCFG_FSW n, [(fswLow n, 7)])) ++
  [4, 5].map (fun n => (F.DOM_SLEW_SLOPE n, [(0, 5)])) ++
  [(F.DOM_RCFG_FMODE 10, [(0, 1)]), (F.DOM_SEQCFG_PUMAX, [(0, 8)]), (F.DOM_SEQCFG_PDMAX, [(0, 8)]), (F.DOM9_HOLD_DUTY, [(10, 100)]), (F.DOM9_LCFG_PULLIN, [(0, 50)]), (F.DOM9_LCFG_IPULL, [(0, 14)])]

/-- The system, the line, the weir and DRIVE, likewise (R63, R103, R104, R271, R272, R278, R316 to R333).
DESIGN CHOICE (99): DRV_VMAX is encoded as DRV_VSET (R318), whose codes 2,401 to 4,095 are reserved; the model takes them in DRV_VMAX as a cap that never binds. -/
def reservedPower : List (Fld × List (Nat × Nat)) :=
  [(F.SYS_PBCFG_PB_LONG, [(0, 12)]), (F.SYS_NVMCFG_KIND, [(0, 2)]), (F.SYS_LDCFG_LD_PERIOD, [(0, 7)]), (F.SYS_LDCFG_NVM_WRITE_MIN, [(0, 104)]),
   (F.LIN_CFG0_DVDT, [(0, 5)]), (F.LIN_CFG0_SOA_T, [(0, 5)]), (F.LIN_CFG1_VSC, [(0, 10)]), (F.LIN_CFG1_VINR, [(0, 8)]), (F.LIN_CFG1_RSH, [(0, 6)]),
   (F.WEIR_CFG_TKO, [(0, 240), (255, 255)])] ++
  [(F.DRV_VSET_CODE, [(0, 2400)]), (F.DRV_SLEW_SLOPE, [(0, 6)]), (F.DRV_SLEW_SSSLOPE, [(0, 6)]), (F.DRV_FSW_DIV, [(96, 960)]), (F.DRV_SYNC_MODE, [(0, 1)]),
   (F.DRV_SYNC_OSCLK, [(0, 2)]), (F.DRV_SYNC_OUTSEL, [(0, 2)]), (F.DRV_PHCFG_MIN_PHASES, [(1, 6)]), (F.DRV_PHCFG_FITTED, [(1, 63)]), (F.DRV_SHED_MINACT, [(1, 6)]), (F.DRV_OCCFG_OCMODE, [(0, 2)]),
   (F.DRV_ITOT_ILIM, [(1, 2400)]), (F.DRV_IPHOVL_ILIM, [(10, 400)]), (F.DRV_IPHSC_ILIM, [(20, 600)]), (F.DRV_CSCFG_GPH, [(1, 255)]), (F.DRV_CSCFG_RTOT, [(1, 255)])]

/-- Strokes, the battery, measurement and the rest, likewise (R377 to R388, R417 to R423, R461, R535, R549, R551, R554, R556, R568, R592, R594, R614, R616, R643). -/
def reservedRest : List (Fld × List (Nat × Nat)) :=
  [(F.STK_TOLLCFG_TDEF, [(1, 4095)]), (F.STK_DETCFG_ISTART, [(1, 1023)]), (F.STK_PRVCFG_TPROVE, [(0, 9)]), (F.STK_REFCFG_K, [(1, 255)]),
   (F.STK_RECCFG_BURSTLEN, [(0, 4)]), (F.STK_RECCFG_BURSTCH, [(0, 63)])] ++
  (List.range 8).map (fun k => (F.STK_CAP_STAT k, [(0, 2)])) ++ (List.range 8).map (fun k => (F.STK_CAP_RATE k, [(0, 6)])) ++
  (List.range 8).map (fun k => (F.STK_CAP_SRC k, [(0, 65)])) ++
  [(F.CHG_ICHG_CODE, [(0, 400)]), (F.CHG_VREG_CODE, [(0, 400)]), (F.CHG_CFG_CELLS, [(3, 15)]), (F.CHG_CFG_RSH, [(0, 5)]), (F.CHG_TERMCFG_VRECH, [(0, 4)]),
   (F.CHG_TMRCFG_TSAFE, [(1, 24)]), (F.CHG_TMRCFG_WDTO, [(0, 6)]), (F.GAU_CFG_RSH, [(0, 4)]), (F.GAU_CFG_DEADBAND, [(0, 4)]), (F.ADC_CFG_SEQLEN, [(0, 32)])] ++
  (List.range 16).map (fun k => (F.CMP_CFG_MODE k, [(0, 2)])) ++ (List.range 16).map (fun k => (F.CMP_CFG_HYS k, [(0, 6)])) ++
  (List.range 6).map (fun k => (F.CMP_SRC_SRC k, [(0, 25), (31, 31)])) ++
  (List.range 16).map (fun k => (F.CMP_CFG_BSRC k, [(0, 5)])) ++ (List.range 16).map (fun k => (F.CMP_CFG_BWIN k, [(0, 5)])) ++
  [(F.CMP_GTIM_PERIOD, [(1, 65535)]), (F.THM_THRCFG_TTHR, [(85, 150)]), (F.THM_THRLIM1_CHG, [(0, 400)]), (F.RTC_TRIM_PPM, [(0, 250), (262, 511)]),
   (F.RTC_CFG_TRIMDEF, [(0, 250), (262, 511)]), (F.FLT_CFG_PFWHOLD, [(0, 9)]), (F.FLT_CFG_ALVPER, [(2, 200)])]

/-- R640: every field with reserved codes. -/
def reservedFields : List (Fld × List (Nat × Nat)) := reservedDomains ++ reservedPower ++ reservedRest

/-- A code lies in one of the ranges. -/
def inRanges (rs : List (Nat × Nat)) (v : Nat) : Bool := rs.any (fun r => decide (r.1 ≤ v) && decide (v ≤ r.2))

/-- R640: a word at an address holds no reserved code. -/
def wordOk (a : Nat) (w : Word) : Bool := reservedFields.all (fun e => e.1.addr ≠ a || inRanges e.2 (e.1.get w))

/-- Byte i of a table whose word k holds byte 2k in bits 7:0. -/
def State.byteOf (s : State) (base i : Nat) : Nat := let w := s.rn (base + i / 2); if i % 2 = 0 then w % 256 else w / 256

/-- R250: entry c of the source types lies in its ranges; one that is disabled needs none of them. -/
def State.sourceOk (s : State) (c : Nat) : Bool :=
  let w (k : Nat) : Nat := s.rn (A.LIN_SRCTAB (8 * c + k))
  let kind := w 0 % 256
  kind = 0 ||
    (decide (kind ≤ 3) && decide (w 0 / 256 ≤ 100) && decide (168 ≤ w 1) && decide (w 1 ≤ 1600) && decide (w 2 + 120 ≤ w 1) && decide (w 1 < w 3) && decide (w 3 ≤ 1600)
      && decide (600 ≤ w 4) && decide (w 4 ≤ 1800) && decide (w 3 ≤ w 4) && decide (1 ≤ w 5))

/-- R403, R405: the zone boundaries ascend, and the codes are those of the charger's registers. -/
def State.zonesOk (s : State) : Bool :=
  let t (k : Nat) : Int := s.ri (A.CHG_ZTAB k)
  let b (i : Nat) : Nat := s.byteOf (A.CHG_ZTAB 0) i
  let w (k : Nat) : Nat := s.rn (A.CHG_ZTAB k)
  decide (t 0 < t 1) && decide (t 1 < t 2) && decide (t 2 < t 3) && [10, 14, 18, 22, 26].all (fun i => decide (b i ≤ 100))
    && decide (w 15 ≤ 400) && (decide (w 16 ≤ 400) || w 16 = 65535) && decide (b 34 ≤ 1) && decide (w 18 ≤ 400) && (decide (w 19 ≤ 400) || w 19 = 65535) && decide (b 40 ≤ 1)

/-- R447, R640: the OCV table ascends, and no code is reserved. A FLOOR, QMARG or RESTT outside its range is none: it is used as it stands (DESIGN CHOICE, log entry 98). -/
def State.modelOk (s : State) : Bool :=
  let b (i : Nat) : Nat := s.byteOf (A.GAU_MODEL 0) i
  decide (b 0 ≤ 2) && decide (b 46 ≤ 4) && (List.range 20).all (fun i => decide (s.rn (A.GAU_MODEL (2 + i)) < s.rn (A.GAU_MODEL (3 + i))))

/-- R579: the codes of band b's entry. -/
def State.bandOk (s : State) (b : Nat) : Bool :=
  let v (i : Nat) : Nat := s.byteOf (A.THM_BT (16 * b)) i
  (List.range 7).all (fun i => decide (v i ≤ 7)) && decide (v 7 ≤ 9) && decide (v 17 ≤ 9)
    && (List.range 9).all (fun i => decide (v (8 + i) ≤ ilimTop (i + 2)) || v (8 + i) = 15)

/-- R332: the fast per-phase limit lies above the overload limit; by how much the ripple asks for is not the device's to know (log entry 85). -/
def State.limitsOk (s : State) : Bool := decide (s.g F.DRV_IPHOVL_ILIM < s.g F.DRV_IPHSC_ILIM)

/-- R554: a monitor blanked by a domain's turn-on names one. -/
def State.blankOk (s : State) (k : Nat) : Bool := s.g (F.CMP_CFG_BSRC k) ≠ 2 || (decide (1 ≤ s.g (F.CMP_CFG_BDOM k)) && decide (s.g (F.CMP_CFG_BDOM k) ≤ 10))

/-- R640: no field of the configuration holds a reserved code, and no table a field outside its range. A field that no image loads (RTC_TRIM) is no part of it. -/
def State.codesOk (s : State) : Bool :=
  reservedFields.all (fun e => survivalOf e.1.addr ≠ .config || inRanges e.2 (s.g e.1)) && (List.range 8).all s.sourceOk && s.zonesOk && s.modelOk && (List.range 6).all s.bandOk && (List.range 16).all s.blankOk && s.limitsOk

end Sys2Proof.Machine
end

