-- ==== Sys2Proof/Machine/Nvm.lean ====
section
/-! DEFINITION. The configuration image, the learned data, the first-fail log and the NVM bus (03_configuration_image.md). The NVM is not part of the device: what a read of it returned is an
operand of the command that ends the read. -/
namespace Sys2Proof.Machine

/-- Change the NVM logic's record. -/
def State.setNvm (s : State) (f : Nvm → Nvm) : State := { s with nvm := f s.nvm }

/-- R74: the little-endian number of n bytes at an offset. -/
def leAt (bs : List Byte) (off n : Nat) : Nat := leNat ((bs.drop off).take n)

/-- The 16-bit little-endian words of a run of bytes; an odd last byte is dropped. -/
def leWords (bs : List Byte) : List Nat :=
  match bs with
  | a :: b :: r => (a.toNat + 256 * b.toNat) :: leWords r
  | _ => []

/-! ### The NVM's layout (R68) -/

/-- R68: the areas of the NVM. -/
inductive NvmArea where
  | copyA | copyB | slotA | slotB | log
deriving DecidableEq, Repr

/-- R68: the address at which an area begins. -/
def NvmArea.base : NvmArea → Nat
  | .copyA => 0x00000 | .copyB => 0x04000 | .slotA => 0x08000 | .slotB => 0x08800 | .log => 0x09000

/-- R68: the bytes of an area. -/
def NvmArea.size : NvmArea → Nat
  | .copyA => 16384 | .copyB => 16384 | .slotA => 2048 | .slotB => 2048 | .log => 256

/-- R68: no access of the device lies at or above this address, the rest of a serial NOR sector apart. -/
def nvmTop : Nat := 0x09100

/-! ### The image (R72 to R82, R698) -/

/-- R72, R74: the LENGTH of a copy whose header is valid. -/
def imgLength (bs : List Byte) : Option Nat :=
  let n := leAt bs 4 2
  if leAt bs 0 3 = 0x554853 && (leAt bs 3 1 = 2 || leAt bs 3 1 = 3) && n % 4 = 0 && decide (16 ≤ n) && decide (n ≤ 16384) then some n else none

/-- R72, R75, R100: the state of a copy: 1 valid, 2 CRC failed, 3 header invalid. -/
def imgState (bs : List Byte) : Nat :=
  match imgLength bs with
  | none => 3
  | some n => if bs.length < n then 2 else if crc32 (bs.take 8 ++ (bs.take n).drop 12) = leAt bs 8 4 then 1 else 2

/-- R698: the YH6410 counterpart of a YH3204 word address, and the bits taken. -/
def f2Map (a : Nat) : Option (Nat × Nat) :=
  if a = 0x40 then some (A.SYS_WAKECFG, 0xFFFF)
  else if a = 0x41 then some (A.SYS_PBCFG, 0xFFFF)
  else if a = 0x42 then some (A.SYS_CFG, 0xFFFF)
  else if a = 0x43 then some (A.SYS_SHEDMASK, 0x003F)
  else if a = 0x44 then some (A.SYS_HKPER, 0xFFFF)
  else if a = 0x48 || a = 0x49 then some (A.SYS_NVMCFG + (a - 0x48), 0xFFFF)
  else if 0x50 ≤ a ∧ a ≤ 0x55 then some (A.DOM_CFG (a - 0x50 + 1), 0xFFFF)
  else if 0x58 ≤ a ∧ a ≤ 0x5C then some (A.DOM_VSET (a - 0x58 + 2), 0xFFFF)
  else if 0x60 ≤ a ∧ a ≤ 0x64 then some (A.DOM_ILIM (a - 0x60 + 2), 0xFFFF)
  else if 0x68 ≤ a ∧ a ≤ 0x6C then some (A.DOM_RCFG (a - 0x68 + 2), 0xFFFF)
  else if a = 0x6E || a = 0x6F then some (A.DOM_SLEW (a - 0x6E + 4), 0xFFFF)
  else if a = 0x70 then some (A.DRV_VSET, 0xFFFF)
  else if a = 0x71 then some (A.DRV_VMAX, 0xFFFF)
  else if a = 0x72 then some (A.DRV_SLEW, 0xFFFF)
  else if a = 0x73 then some (A.DRV_FSW, 0xFFFF)
  else if a = 0x74 then some (A.DRV_PHCFG, 0x700F)
  else if a = 0x75 then some (A.DRV_PHEN, 0x000F)
  else if 0x76 ≤ a ∧ a ≤ 0x79 then some (A.DRV_ITOT + (a - 0x76), 0xFFFF)
  else if a = 0x7A then some (A.DRV_OCCFG, 0xFFFF)
  else if 0x80 ≤ a ∧ a ≤ 0x82 then some (A.LIN_CFG0 + (a - 0x80), 0xFFFF)
  else if a = 0x83 then some (A.WEIR_CFG, 0xFFFF)
  else if 0x88 ≤ a ∧ a ≤ 0x8A then some (A.CHG_CTRL + (a - 0x88), 0xFFFF)
  else if 0x8B ≤ a ∧ a ≤ 0x8E then some (A.CHG_CFG + (a - 0x8B), 0xFFFF)
  else if 0x90 ≤ a ∧ a ≤ 0x95 then some (A.CMP_CFG (a - 0x90), 0xFFFF)
  else if 0x98 ≤ a ∧ a ≤ 0x9D then some (A.CMP_LO (a - 0x98), 0xFFFF)
  else if 0xA0 ≤ a ∧ a ≤ 0xA5 then some (A.CMP_HI (a - 0xA0), 0xFFFF)
  else if a = 0xA8 then some (A.CMP_PWR, 0x003F)
  else if a = 0xB0 then some (A.RTC_CFG, 0xFFFF)
  else if a = 0xB8 then some (A.FLT_CFG, 0xFFFF)
  else if a = 0xCF then some (A.ADC_CFG, 0x003F)
  else if 0xD0 ≤ a ∧ a ≤ 0xDB then some (A.ADC_SEQ (a - 0xD0), 0xFFFF)
  else none

/-- R78: one entry of a REGISTER LOAD: the whole word of a C-class register, RWL fields included, not clamped; reserved bits read as zero (R10). -/
def State.loadEntry (s : State) (a v : Nat) : Except Fault State :=
  if survivalOf a = .config then .ok (s.wn a (v.land (implMask a))) else .error (.undefinedImage "REGISTER LOAD of a register outside class C")

/-- R78, R82: the entries of a REGISTER LOAD, translated for format 2; an entry without a counterpart is skipped. Trailing bytes that fill no entry are dropped (DESIGN CHOICE, log entry 16). -/
def State.regLoad (s : State) (fmt2 : Bool) (ws : List Nat) : Except Fault State :=
  match ws with
  | a :: v :: r =>
    if fmt2 then
      match f2Map a with
      | none => s.regLoad fmt2 r
      | some (b, m) => match s.loadEntry b (v.land m) with | .error e => .error e | .ok s => s.regLoad fmt2 r
    else match s.loadEntry a v with | .error e => .error e | .ok s => s.regLoad fmt2 r
  | _ => .ok s

/-- The first n words of a section body. Where the body is shorter than its section's layout, each word that it does not carry is a free value; what it carries beyond the layout has no place. -/
def State.bodyWords (s : State) (n : Nat) (body : List Byte) : List Nat × State :=
  let ws := (leWords body).take n
  let lack := n - ws.length
  (ws ++ (List.range lack).map (fun i => Config.freeNat (s.freeCtr + i) % 65536), { s with freeCtr := s.freeCtr + lack })

/-- R79: an ENGINE PROGRAM. The bytes that a body of less than 8 does not carry read as zero. COUNT 0 lies outside the 1 to 4,096 of the table, which gives it no length: the engine's length is then a free value, and so is every step word that the body does not carry (DESIGN CHOICE,
log entry 88). -/
def State.loadProgram (s : State) (body : List Byte) : Except Fault State :=
  let e := leAt body 0 1
  let base := leAt body 2 2
  let cnt := leAt body 4 2
  if 12 ≤ e then .error (.undefinedImage "an engine number of 12 or more")
  else if 4096 < base + max cnt 1 then .error (.undefinedImage "an ENGINE PROGRAM outside the store")
  else
    let (len, s) := if cnt = 0 then s.free 4097 else (cnt, s)
    let (ws, s) := s.bodyWords (2 * cnt) (body.drop 8)
    .ok (((s.wn (A.ENG_BASE e) base).wn (A.ENG_LEN e) len).putWords (A.ENG_STEP (2 * base)) ws)

/-- R84, R241, R242, R245, R273, R316, R330, R415 to R417, R509, R560, R593, R594: the clamped fields, each with its range in a format-2 image (R698). -/
def clampedFields : List (Fld × Nat × Nat) :=
  ([2, 3, 4, 5, 6, 7, 8, 10].map (fun n => (F.DOM_VSET_CODE n, 0, vsetTop n))) ++
  ([2, 3, 4, 5, 6, 7, 8, 9, 10].map (fun n => (F.DOM_ILIM_CODE n, 0, ilimTop n))) ++
  [(F.DOM9_HOLD_DUTY, 10, 100), (F.LIN_IHOST_ILIM, 0, 65535), (F.DRV_VSET_CODE, 0, 2400), (F.DRV_ITOT_ILIM, 1, 1000), (F.CHG_CTRL_EN, 0, 1),
   (F.CHG_ICHG_CODE, 0, 160), (F.CHG_VREG_CODE, 0, 260), (F.WAY_MBUDGET_BUDGET, 0, 4095), (F.THM_THRLIM0_ILIM, 0, 65535), (F.THM_THRLIM1_FIELD, 0, 15),
   (F.THM_THRLIM1_CHG, 0, 400)] ++
  ((List.range 16).map (fun k => (F.CMP_LO_CODE k, 0, 1023))) ++ ((List.range 16).map (fun k => (F.CMP_HI_CODE k, 0, 1023)))

/-- The value of a field of `width` bits as a number, signed where the window is. -/
def winVal (signed : Bool) (width v : Nat) : Int := if signed && decide (2 ^ width ≤ 2 * v) then (v : Int) - (2 : Int) ^ width else v

/-- R80: the entries of a RUNTIME WINDOWS section. Trailing bytes that fill no entry are dropped, and so are the bits of MIN and MAX above WIDTH (DESIGN CHOICE, log entry 16). -/
def State.loadWindows (s : State) (ws : List Nat) : Except Fault State :=
  match ws with
  | a :: lw :: lo :: hi :: r =>
    let lsb := lw % 256
    let width := lw / 256 % 32
    let sg := decide (32768 ≤ lw)
    if !clampedFields.any (fun c => c.1 = ⟨a, lsb, width⟩) then .error (.undefinedImage "a RUNTIME WINDOWS entry on a field that is not clamped")
    else if winVal sg width (hi % 2 ^ width) < winVal sg width (lo % 2 ^ width) then .error (.undefinedImage "a RUNTIME WINDOWS entry with MIN above MAX")
    else (s.setNvm (fun n => { n with windows := (a, lsb, width, sg, lo % 2 ^ width, hi % 2 ^ width) :: n.windows })).loadWindows r
  | _ => .ok s

/-- R10: the word of a register with its reserved bits at zero. -/
def maskedWords (a : Nat) (ws : List Nat) : List Nat :=
  match ws with
  | [] => []
  | w :: r => w.land (implMask a) :: maskedWords (a + 1) r

/-- A section that writes one run of registers from `a` on with a body of `len` bytes; reserved bytes read as zero (R10). -/
def State.loadTable (s : State) (a len : Nat) (body : List Byte) : Except Fault State :=
  if body.length = len then .ok (s.putWords a (maskedWords a (leWords body))) else .error (.undefinedImage "a section body of another length")

/-- R497: a WAYLINE section. -/
def State.loadWayline (s : State) (body : List Byte) : Except Fault State :=
  if body.length = 8 then
    let w k := leAt body (2 * k) 2
    let put (s : State) (a v : Nat) : State := s.wn a (v.land (implMask a))
    .ok (put (put (put (put s A.WAY_CFG (w 0)) A.WAY_TOLLCFG (w 1)) A.WAY_MCFG (w 2)) A.WAY_MBUDGET (w 3))
  else .error (.undefinedImage "a section body of another length")

/-- R639: a FAULT CLASSES section. -/
def State.loadClasses (s : State) (body : List Byte) : Except Fault State :=
  if body.length = 48 then .ok ((s.putWords (A.FLT_CLS 0) (leWords (body.take 32))).putWords (A.FLT_EN 0) (leWords (body.drop 32)))
  else .error (.undefinedImage "a section body of another length")

/-- R77: one section. -/
def State.loadSection (s : State) (fmt2 : Bool) (typ : Nat) (body : List Byte) : Except Fault State :=
  if typ = 1 then s.regLoad fmt2 (leWords body)
  else if typ = 2 then s.loadProgram body
  else if typ = 4 then s.loadTable (A.LIN_SRCTAB 0) 128 body
  else if typ = 8 then s.loadClasses body
  else if fmt2 then .ok s
  else if typ = 3 then s.loadWindows (leWords body)
  else if typ = 5 then s.loadTable (A.THM_BT 0) 192 body
  else if typ = 6 then s.loadTable (A.CHG_ZTAB 0) 44 body
  else if typ = 7 then s.loadTable (A.GAU_MODEL 0) 80 body
  else if typ = 9 then s.loadWayline body
  else if typ = 10 then s.loadTable (A.DRV_COEF 0) 16 body
  else .ok s

/-- R76: parse the sections in image order; `fuel` bounds their number. -/
def State.loadSections (s : State) (fmt2 : Bool) (bs : List Byte) (fuel : Nat) : Except Fault State :=
  match fuel with
  | 0 => .ok s
  | k + 1 =>
    if bs.isEmpty then .ok s
    else
      let typ := leAt bs 0 2
      let n := leAt bs 2 2
      if typ = 0 then .ok s
      else if bs.length < 4 + n then .error (.undefinedImage "a section past LENGTH")
      else match s.loadSection fmt2 typ ((bs.drop 4).take n) with
        | .error e => .error e
        | .ok s => s.loadSections fmt2 (bs.drop (4 + (n + 3) / 4 * 4)) k

/-- R84, R698: the windows in force once the image is applied: those of its section, and for every other clamped field its loaded value (format 3) or its whole range (format 2). -/
def State.sealWindows (s : State) (fmt2 : Bool) : State :=
  s.setNvm (fun n =>
    { n with windows := n.windows ++ clampedFields.map (fun c =>
        let (f, lo, hi) := c
        if fmt2 then (f.addr, f.lsb, f.width, false, lo, hi) else (f.addr, f.lsb, f.width, false, s.g f, s.g f)) })

/-- R463: the OCV table reads at its window, one word for each point. -/
def State.mirrorOcv (s : State) : State := s.each (List.range 21) (fun s i => s.wn (A.GAU_OCV i) (s.modelWord (4 + 2 * i)))

/-- R71, R81: every C-class register returns to its default. -/
def State.defaultConfig (s : State) : State :=
  ({ s with regs := s.regs.keep (fun a => survivalOf a ≠ .config) } : State).setNvm (fun n => { n with windows := [] })

/-- R71 to R82: BOOT steps 1 to 3: the copies that were read select the image, and its sections are applied. With LFXTAL 0 the LP RC is the LF source (R38). -/
def State.applyImage (s : State) (a b : List Byte) : Except Fault State :=
  let stA := imgState a
  let stB := if stA = 1 then 0 else imgState b
  let copy := if stA = 1 then 1 else if stB = 1 then 2 else 0
  let img := if copy = 1 then a else b
  let s := s.defaultConfig.setNvm (fun n => { n with bootStep := 1, ready := true, degr := decide (copy = 2) || (n.degr && decide (copy ≠ 1)) })
  if copy = 0 then
    let s := (s.wn A.SYS_IMGSTAT (256 * stB + 64 * stA)).wn A.SYS_IMGVER 0
    .ok ((((s.w32 (A.SYS_IMGCRC 0) 0).setChgR (fun c => { c with vregLoad := s.g F.CHG_VREG_CODE })).mirrorOcv).raise 110)
  else
    let fmt2 := leAt img 3 1 = 2
    let s := (s.wn A.SYS_IMGSTAT (4096 * (decide fmt2).toNat + 1024 * copy + 256 * stB + 64 * stA)).wn A.SYS_IMGVER (leAt img 6 2)
    let s := (s.w32 (A.SYS_IMGCRC 0) (leAt img 8 4)).when (copy = 2) (·.raise 111)
    match s.loadSections fmt2 ((img.take (leAt img 4 2)).drop 12) 4096 with
    | .error e => .error e
    | .ok s =>
      let s := s.when (!s.b F.SYS_CFG_LFXTAL) (·.p F.SYS_CLK_LFSRC 0)
      let s := if fmt2 then [7, 8, 9, 10].foldl (fun s n => s.p (F.DOM_CFG_USED n) 0) (s.p F.ADC_CFG_BGCAL 1) else s
      let s := (s.sealWindows fmt2).mirrorOcv
      if !s.codesOk then .error (.undefinedImage "a reserved code or a field outside its range")
      else .ok ((s.setChgR (fun c => { c with vregLoad := s.g F.CHG_VREG_CODE })).followWindow)

/-! ### The learned data (R85, R86, R91 to R93) -/

/-- R85, R86, R105: the state of a slot: 0 blank, 1 valid, 2 torn, 3 foreign. -/
def slotState (bs : List Byte) : Nat :=
  if leAt bs 0 2 = 0xFFFF then 0
  else if leAt bs 0 2 ≠ 0x444C then 3
  else if leAt bs 2 1 = 1 && leAt bs 4 4 = leAt bs 0x7F8 4 && crc32 (bs.take 0x7F8) = leAt bs 0x7FC 4 then 1 else 2

/-- R86: the KIND of NVM: serial NOR. -/
def State.isNor (s : State) : Bool := s.g F.SYS_NVMCFG_KIND = 2

/-- R86: a pack record of a slot, at an offset: serial, capacity, cycle count, flags. -/
def slotRecord (bs : List Byte) (off : Nat) : List Nat × Nat × Nat × Nat :=
  (leWords ((bs.drop off).take 8), leAt bs (off + 8) 2, leAt bs (off + 10) 4, leAt bs (off + 14) 2)

/-- R85, R86: a slot is unpacked into the gauge's tables and the stroke references. A current record that is not valid leaves the model defaults in use. -/
def State.unpackSlot (s : State) (bs : List Byte) : State :=
  let (sn, fcc, cyc, fl) := slotRecord bs 0x410
  let (psn, pfcc, pcyc, pfl) := slotRecord bs 0x600
  let s := (s.wn (A.STK_REFCNT 0) (leAt bs 8 2)).wn (A.STK_REFCNT 1) (leAt bs 10 2)
  let s := (s.putWords (A.STK_REFO 0) (leWords ((bs.drop 0x10).take 512))).putWords (A.STK_REFC 0) (leWords ((bs.drop 0x210).take 512))
  let s := ((s.putWords (A.GAU_SN 0) sn).putWords (A.GAU_PSN 0) psn).wn A.GAU_PFCC pfcc
  let s := (s.wn A.GAU_PFLG (256 * (pfl % 8) + fl % 8)).putWords (A.GAU_ZPRV 0) (leWords ((bs.drop 0x610).take 480))
  let s := s.setGau (fun g => { g with prevCyc := pcyc })
  if fl % 2 = 1 then ((s.wn A.GAU_FCC fcc).w32 (A.GAU_CYC 0) cyc).putWords (A.GAU_ZCUR 0) (leWords ((bs.drop 0x420).take 480)) else s.packDefaults

/-- R91, R94, R448: the learned set at its model defaults: no records, no references. -/
def State.learnDefaults (s : State) : State :=
  let s := (s.wn (A.STK_REFCNT 0) 0).wn (A.STK_REFCNT 1) 0
  let s := (s.putWords (A.STK_REFO 0) (List.replicate 256 0)).putWords (A.STK_REFC 0) (List.replicate 256 0)
  let s := ((s.putWords (A.GAU_SN 0) [0, 0, 0, 0]).putWords (A.GAU_PSN 0) [0, 0, 0, 0]).wn A.GAU_PFCC 0
  let s := (s.wn A.GAU_PFLG 0).putWords (A.GAU_ZPRV 0) (List.replicate 240 0)
  (s.setGau (fun g => { g with prevCyc := 0 })).packDefaults

/-- R91: sequence a is newer than b, modulo 2^32. -/
def seqNewer (a b : Nat) : Bool := let d := (a + 4294967296 - b) % 4294967296; decide (0 < d) && decide (d < 2147483648)

/-- R91 to R93: BOOT step 4: the slots are resolved. -/
def State.resolveLearned (s : State) (a b : List Byte) : State :=
  let stA := slotState a
  let stB := slotState b
  let qa := leAt a 4 4
  let qb := leAt b 4 4
  let slot := if stA = 1 && stB = 1 then (if seqNewer qb qa then 2 else 1) else if stA = 1 then 1 else if stB = 1 then 2 else 0
  let lost := if slot = 0 then stA ≠ 0 || stB ≠ 0
    else (stA = 2 && stB = 1 && seqNewer qa qb) || (stB = 2 && stA = 1 && seqNewer qb qa)
  let unsaved := s.nvm.wasDirty
  let s := if slot = 1 then s.unpackSlot a else if slot = 2 then s.unpackSlot b else s.learnDefaults
  let s := s.w32 (A.SYS_LDSEQ 0) (if slot = 1 then qa else if slot = 2 then qb else 0)
  let s := s.wn A.SYS_LDSTAT (8192 * s.isNor.toNat + 4096 * unsaved.toNat + 256 * slot + 64 * stB + 16 * stA + 8 * lost.toNat)
  let s := s.setNvm (fun n => { n with bootStep := 2, slotAok := stA = 1, slotBok := stB = 1, seqA := qa, seqB := qb, wbWanted := false, wbStale := false })
  s.when (lost || (unsaved && !s.isNor)) (·.raise 112)

/-- R85, R462: the 16 bytes of a pack record. -/
def recordBytes (sn : List Nat) (fcc cyc fl : Nat) : List Byte := (sn.map (leBytes 2)).flatten ++ leBytes 2 fcc ++ leBytes 4 cyc ++ leBytes 2 fl

/-- R85: the contents of a slot with a sequence number, the commit included. -/
def State.slotBytes (s : State) (seq : Nat) : List Byte :=
  let tbl (a n : Nat) : List Byte := ((s.table a n).map (leBytes 2)).flatten
  let fl := s.rn A.GAU_PFLG
  let d := [0x4C, 0x44, 1, 0] ++ leBytes 4 seq ++ leBytes 2 (s.rn (A.STK_REFCNT 0)) ++ leBytes 2 (s.rn (A.STK_REFCNT 1)) ++ leBytes 2 (s.rn A.SYS_IMGVER) ++ [0, 0]
    ++ tbl (A.STK_REFO 0) 256 ++ tbl (A.STK_REFC 0) 256
    ++ recordBytes (s.words4 (A.GAU_SN 0)) (s.rn A.GAU_FCC) (s.r32 (A.GAU_CYC 0)) (fl % 8) ++ tbl (A.GAU_ZCUR 0) 240
    ++ recordBytes (s.words4 (A.GAU_PSN 0)) (s.rn A.GAU_PFCC) s.gau.prevCyc (fl / 256 % 8) ++ tbl (A.GAU_ZPRV 0) 240
    ++ List.replicate 8 0xFF
  d ++ leBytes 4 seq ++ leBytes 4 (crc32 d)

/-! ### The first-fail log (R95 to R98) -/

/-- R97: the ring as the device holds it: record i as words. -/
def State.ffWords (s : State) (i : Nat) : List Nat := (s.nvm.ring.drop (8 * i)).take 8

/-- R96, R109: record i as bytes. -/
def State.ffBytes (s : State) (i : Nat) : List Byte := ((s.ffWords i).map (leBytes 2)).flatten

/-- R96: RSEQ of record i. -/
def State.ffSeq (s : State) (i : Nat) : Nat := s.nvm.ring.getD (8 * i) 0xFFFF

/-- R97: record i is valid. -/
def State.ffValid (s : State) (i : Nat) : Bool := s.ffSeq i ≠ 0xFFFF && crc8 ((s.ffBytes i).take 15) = (s.ffBytes i).getD 15 0

/-- R97: an RSEQ is newer than another, modulo 65,535. -/
def rseqNewer (a b : Nat) : Bool := let d := (a + 65535 - b) % 65535; decide (1 ≤ d) && decide (d ≤ 32767)

/-- R97: the newest valid record: the newest, and among equals the one at the lowest index, of those that end a run of the ring. -/
def State.ffNewest (s : State) : Option Nat :=
  let ends := (List.range 16).filter (fun i => s.ffValid i && !(s.ffValid ((i + 1) % 16) && s.ffSeq ((i + 1) % 16) = (s.ffSeq i + 1) % 65535))
  ends.foldl (fun b i => match b with | none => some i | some j => if rseqNewer (s.ffSeq i) (s.ffSeq j) then some i else some j) none

/-- R97: the index of the next record and its RSEQ. -/
def State.ffNext (s : State) : Nat × Nat := match s.ffNewest with | some i => ((i + 1) % 16, (s.ffSeq i + 1) % 65535) | none => (0, 0)

/-- R98: a serial NOR ring whose next position is not blank takes no further record. -/
def State.ffFull (s : State) : Bool := s.isNor && s.ffSeq s.ffNext.1 ≠ 0xFFFF

/-- R97, R98, R108: SYS_FFSTAT for the ring as it stands. -/
def State.ffStatus (s : State) : State :=
  let cnt := ((List.range 16).filter (fun i => s.ffValid i)).length
  s.wn A.SYS_FFSTAT (8192 * s.ffFull.toNat + 256 * cnt + 16 * s.ffNewest.getD 0 + s.ffNext.1)

/-- R97, R109: the ring is replaced, with its copy and its status. -/
def State.setRing (s : State) (ws : List Nat) : State := ((s.setNvm (fun n => { n with ring := ws })).putWords (A.SYS_FFLOG 0) ws).ffStatus

/-- R97: BOOT step 5: the log has been read. -/
def State.scanLog (s : State) (ring : List Byte) : State := (s.setRing (leWords (ring.take 256))).setNvm (fun n => { n with bootStep := 3 })

/-- R96, R98, R109: `n` words of the ring from word `k` on are blank. -/
def State.blankLog (s : State) (k n : Nat) : State := s.setRing ((List.range 128).map (fun i => if k ≤ i && decide (i < k + n) then 0xFFFF else s.nvm.ring.getD i 0xFFFF))

/-! ### The bus (R67, R87 to R90, R94, R95, R98, R99) -/

/-- R99: a use of the bus waits for it; VNVM is switched on where it was off (R67). One that is in progress or waits already, an erase among them, is not asked for a second time (DESIGN CHOICE, log entry 19). -/
def State.nvmRequest (s : State) (u : NvmUse) : State :=
  s.setNvm (fun n => { n with waiting := if n.waiting.contains u || n.cur = some u then n.waiting else n.waiting ++ [u], vnvm := true })

/-- R95, R96: the record of an incident is queued on the bus, without its RSEQ and its CRC; a serial NOR ring that is full takes none (R98). -/
def State.queueRecord (s : State) (kind : FailKind) (i : Incident) : State :=
  if s.ffFull then s
  else
    let k := match kind with | .fault => 0 | .thermalOff => 1 | .noStart => 2
    let dom := if i.source < 30 then i.source % 10 + 1 else 0
    let hot := clamp (-128) 127 (divTie i.hot 8)
    let body := leBytes 4 (s.rtcSec % 4294967296) ++ leBytes 2 s.rtcFrac ++
      [BitVec.ofNat 8 i.source, BitVec.ofNat 8 (16 * i.state + 4 * k + i.cls), BitVec.ofNat 8 dom, BitVec.ofNat 8 i.band] ++ leBytes 2 i.pg ++ [BitVec.ofInt 8 hot]
    (s.setNvm (fun n => { n with records := n.records ++ [body] })).nvmRequest .record

/-- R88: the conditions of a write-back. -/
def State.mayWrite (s : State) : Bool :=
  s.running && !s.pfw && !s.isNor && decide (8000 + 500 * s.g F.SYS_LDCFG_NVM_WRITE_MIN ≤ max (100 * s.sup.lineDv) s.sup.battMv)

/-- R89: a write-back is in progress or waits for the bus. -/
def State.wbActive (s : State) : Bool := s.nvm.wbStage ≠ .none || s.nvm.cur = some .writeBack || s.nvm.waiting.contains .writeBack

/-- R87, R88: a write-back starts where the set is dirty and the conditions hold; one that cannot start stays wanted. An event or a key of R87 that finds a write-back in progress or waiting asks for no second one, although
the set may have changed since it began (DESIGN CHOICE, log entry 20). -/
def State.tryWriteBack (s : State) : State :=
  if s.b F.SYS_LDSTAT_DIRTY && !s.isNor then
    if s.wbActive then s
    else if s.mayWrite then (s.setNvm (fun n => { n with wbWanted := false })).nvmRequest .writeBack
    else s.setNvm (fun n => { n with wbWanted := true })
  else s.setNvm (fun n => { n with wbWanted := false })

/-- R103: the page size in bytes. -/
def State.pageSize (s : State) : Nat := 32 * 2 ^ s.g F.SYS_NVMCFG_PAGE

/-- R89: a write-back begins: the slot, its new SEQ and its contents. WFAIL keeps the failure of the one before until this one ends (DESIGN CHOICE, log entry 20). -/
def State.beginWriteBack (s : State) : State :=
  let n := s.nvm
  let toB := if !n.slotAok then false else if !n.slotBok then true else !seqNewer n.seqB n.seqA
  let seq := if n.slotAok && n.slotBok then ((if seqNewer n.seqA n.seqB then n.seqA else n.seqB) + 1) % 4294967296
    else if n.slotAok then (n.seqA + 1) % 4294967296 else if n.slotBok then (n.seqB + 1) % 4294967296 else 1
  s.setNvm (fun n => { n with wbSlotB := toB, wbSeq := seq, wbData := s.slotBytes seq, wbStage := .data 1, wbStale := false, wbCut := false, wbWanted := false,
                              slotAok := n.slotAok && toB, slotBok := n.slotBok && !toB })

/-- R105: WBBUSY: a write-back or an erase is in progress. -/
def State.wbBusy (s : State) : State :=
  s.pb F.SYS_LDSTAT_WBBUSY (s.nvm.wbStage ≠ .none || s.nvm.cur = some .writeBack || s.nvm.logLeft ≠ 0 || s.nvm.ldLeft ≠ 0)

/-- R89, R90: the write-back in progress ends without a verified commit; the set stays dirty. `retry`: a condition of R88 has cut it short, and its retries start it again (R90); WFAIL is the result of the latest write-back (R105). -/
def State.endWriteBack (s : State) (retry : Bool) : State :=
  (s.pb F.SYS_LDSTAT_WFAIL (!retry)).setNvm (fun n =>
    { n with wbStage := .none, wbCut := false, wbWanted := retry, waiting := n.waiting.filter (· ≠ .writeBack), cur := if n.cur = some .writeBack then none else n.cur })

/-- R90: a condition of R88 has failed while a write-back still has a page program to start. -/
def State.wbWatch (s : State) : State :=
  match s.nvm.wbStage with
  | .data _ => s.when (!s.mayWrite && !s.nvm.wbCut) (·.setNvm (fun n => { n with wbCut := true }))
  | .commit => s.when (!s.mayWrite && !s.nvm.wbCut && s.nvm.cur ≠ some .writeBack) (·.setNvm (fun n => { n with wbCut := true }))
  | .none => s
  | .verify => s

/-- R99: the order of precedence. -/
def NvmUse.rank : NvmUse → Nat
  | .record => 0 | .eraseLog => 1 | .eraseLearned => 1 | .writeBack => 2 | .copyB => 3

/-- R99: the waiting access of highest precedence, the earlier of two equal ones. -/
def nvmNext (l : List NvmUse) : Option NvmUse :=
  l.foldl (fun b u => match b with | none => some u | some v => if u.rank < v.rank then some u else some v) none

/-- R98: the programs or erases that blank the log. -/
def State.logPages (s : State) : Nat := if s.isNor then 1 else 256 / s.pageSize

/-- R94: the programs or erases that blank both slots. -/
def State.learnedPages (s : State) : Nat := if s.isNor then 1 else 4

/-- R72, R99: an access may start in the present state: the check of copy B only in RUN and WATCH. -/
def State.nvmEligible (s : State) (u : NvmUse) : Bool := u ≠ .copyB || s.power = .run || s.power = .watch

/-- R99: a waiting access gets the bus: it starts, or resumes where it stopped. -/
def State.nvmGrant (s : State) : State :=
  if s.nvm.vnvm && s.nvm.ready && s.nvm.cur.isNone && s.power ≠ .boot then
    match nvmNext (s.nvm.waiting.filter s.nvmEligible) with
    | none => s
    | some u =>
      let s := s.setNvm (fun n => { n with cur := some u, waiting := n.waiting.filter (· ≠ u) })
      (match u with
      | .writeBack =>
        match s.nvm.wbStage with
        | .none => if s.mayWrite then s.beginWriteBack else s.setNvm (fun n => { n with cur := none, wbWanted := true })
        | .data _ => if s.mayWrite && !s.nvm.wbCut then s else s.endWriteBack true
        | .commit => if s.mayWrite && !s.nvm.wbCut then s else s.endWriteBack true
        | .verify => s
      | .eraseLog => if s.nvm.logLeft = 0 then s.setNvm (fun n => { n with logLeft := s.logPages }) else s
      | .eraseLearned => if s.nvm.ldLeft = 0 then s.setNvm (fun n => { n with ldLeft := s.learnedPages }) else s
      | .record => s
      | .copyB => s).wbBusy
  else s

/-- R99: the access in progress yields to a waiting one of higher precedence, and waits to resume before any other of its own; else it keeps the bus. -/
def State.nvmYield (s : State) : State :=
  match s.nvm.cur with
  | none => s
  | some u => if s.nvm.waiting.any (fun v => v.rank < u.rank) then s.setNvm (fun n => { n with cur := none, waiting := u :: n.waiting }) else s

/-- The bus is free. -/
def State.nvmFree (s : State) : State := s.setNvm (fun n => { n with cur := none })

/-- R96, R97: the oldest queued record has been programmed: it takes the next RSEQ and its CRC, and enters SYS_FFLOG in its own eight words; what HIBERNATE has wiped of the others stays so until the next BOOT
or an erased page (DESIGN CHOICE, log entry 19). -/
def State.recordDone (s : State) : State :=
  match s.nvm.records with
  | [] => s.nvmFree
  | b :: rest =>
    let (i, q) := s.ffNext
    let bytes := leBytes 2 q ++ b
    let ws := leWords (bytes ++ [crc8 bytes])
    let s := s.setNvm (fun n => { n with ring := n.ring.take (8 * i) ++ ws ++ n.ring.drop (8 * i + 8) })
    let s := (s.putWords (A.SYS_FFLOG (8 * i)) ws).ffStatus
    let s := s.nvmFree.setNvm (fun n => { n with records := if s.ffFull then [] else rest })
    if s.nvm.records.isEmpty then s else s.nvmRequest .record

/-- R89: a page program of a write-back has finished: the next page, the commit, or the verification read. -/
def State.wbPageDone (s : State) : State :=
  let pages := 2048 / s.pageSize
  match s.nvm.wbStage with
  | .none => s.nvmFree
  | .data k =>
    if !s.mayWrite || s.nvm.wbCut then s.endWriteBack true
    else (s.setNvm (fun n => { n with wbStage := if pages ≤ k then .commit else .data (k + 1) })).nvmYield
  | .commit => (s.setNvm (fun n => { n with wbStage := .verify })).nvmYield
  | .verify => s

/-- R85, R94: the slots that the erase's present program makes invalid: both with serial NOR, else the one whose header it blanks. -/
def State.slotsErased (s : State) : State :=
  s.setNvm (fun n => { n with slotAok := n.slotAok && !s.isNor && n.ldLeft ≠ 4, slotBok := n.slotBok && !s.isNor && n.ldLeft ≠ 2 })

/-- R89, R94, R98, R109: a status poll shows that a page program or an erase has finished; a log erase blanks the copy page by page. -/
def State.pageStep (s : State) : State :=
  match s.nvm.cur with
  | some .record => s.recordDone
  | some .writeBack => s.wbPageDone
  | some .eraseLog =>
    let words := 128 / s.logPages
    let s := (s.blankLog (words * (s.logPages - s.nvm.logLeft)) words).setNvm (fun n => { n with logLeft := n.logLeft - 1 })
    if s.nvm.logLeft = 0 then s.nvmFree else s.nvmYield
  | some .eraseLearned =>
    let s := s.slotsErased.setNvm (fun n => { n with ldLeft := n.ldLeft - 1 })
    if s.nvm.ldLeft = 0 then s.nvmFree else s.nvmYield
  | _ => s

/-- R89, R94, R98, R105: the same, and what WBBUSY then shows. -/
def State.pageDone (s : State) : State := if s.nvm.cur.isSome then s.pageStep.wbBusy else s

/-- R95, R99: records that still wait ask for the bus. -/
def State.moreRecords (s : State) : State := if s.nvm.records.isEmpty then s else s.nvmRequest .record

/-- R67: a status poll has exceeded its limit: a write failure, which ends the access. The slot whose header an erase was blanking then counts as not valid, and the log's page keeps its words (DESIGN CHOICE, log entry 19). -/
def State.pollTimeout (s : State) : State :=
  match s.nvm.cur with
  | some .record => (s.nvmFree.setNvm (fun n => { n with records := n.records.drop 1 })).moreRecords.raise 113
  | some .writeBack => (s.endWriteBack false).wbBusy.raise 113
  | some .eraseLog => (s.nvmFree.setNvm (fun n => { n with logLeft := 0 })).wbBusy.raise 113
  | some .eraseLearned => (s.slotsErased.nvmFree.setNvm (fun n => { n with ldLeft := 0 })).wbBusy.raise 113
  | _ => s

/-- R89: the verification read of a written slot has returned these bytes. -/
def State.verifyDone (s : State) (bs : List Byte) : State :=
  if s.nvm.cur = some .writeBack && s.nvm.wbStage = .verify then
    if bs = s.nvm.wbData then
      let stale := s.nvm.wbStale
      let s := ((s.p F.SYS_LDSTAT_WFAIL 0).pb F.SYS_LDSTAT_DIRTY stale).w32 (A.SYS_LDSEQ 0) s.nvm.wbSeq
      (s.setNvm (fun n => { n with cur := none, wbStage := .none, wbCut := false, slotAok := n.slotAok || !n.wbSlotB, slotBok := n.slotBok || n.wbSlotB,
                                                seqA := if n.wbSlotB then n.seqA else n.wbSeq, seqB := if n.wbSlotB then n.wbSeq else n.seqB })).wbBusy
    else (s.endWriteBack false).wbBusy.raise 113
  else if s.nvm.cur = some .writeBack && s.nvm.wbStage = .none then s.nvmFree.wbBusy
  else s

/-- R90, R94, R105: no further program of the write-back in progress starts; the one that runs finishes first. One that only waited for the bus leaves WFAIL to the write-back before it. -/
def State.stopWriteBack (s : State) : State :=
  ((s.when (s.nvm.wbStage ≠ .none) (·.p F.SYS_LDSTAT_WFAIL 0)).setNvm (fun n => { n with wbStage := .none, wbCut := false, wbWanted := true, waiting := n.waiting.filter (· ≠ .writeBack) })).wbBusy

/-- R94: the learned-data erase key. -/
def State.eraseLearned (s : State) : State :=
  let s := s.when s.wbActive State.stopWriteBack
  ((s.learnDefaults.dirty).w32 (A.SYS_LDSEQ 0) 0).nvmRequest .eraseLearned

/-- R98: the log erase key. -/
def State.eraseLog (s : State) : State := s.nvmRequest .eraseLog

/-- R72: the background check of copy B is asked for in RUN and WATCH while copy A is in use, once per BOOT. -/
def State.wantCopyB (s : State) : State :=
  if (s.power = .run || s.power = .watch) && s.g F.SYS_IMGSTAT_COPY = 1 && s.nvm.cbState = 0 then s.nvmRequest .copyB else s

/-- R72: a chunk of copy B has been read. -/
def State.copyBChunk (s : State) (bs : List Byte) : State :=
  if s.nvm.cur = some .copyB then
    let all := s.nvm.cbBytes ++ bs.take 256
    let s := s.nvmFree.setNvm (fun n => { n with cbBytes := all })
    let ended := match imgLength all with | some n => decide (n ≤ all.length) | none => decide (12 ≤ all.length)
    if ended then
      let st := imgState all
      ((s.p F.SYS_IMGSTAT_ST_B st).setNvm (fun n => { n with cbState := 1, cbBytes := [] })).when (st ≠ 1) (·.raise 111)
    else s
  else s

/-! ### Addresses on the bus (R68, R70, R79, R89, R94 to R98) -/

/-- The first address and the number of bytes of a learned-data erase's program i, with EEPROM or FRAM: the header and the commit of each slot. -/
def eraseSpan (i : Nat) : Nat × Nat :=
  let b := if i < 2 then NvmArea.slotA.base else NvmArea.slotB.base
  if i % 2 = 0 then (b, 16) else (b + 0x7F8, 8)

/-- R68, R89, R94, R95, R98: the first address and the number of bytes of the page program, the erase or the read in progress. -/
def State.nvmSpan (s : State) : Option (Nat × Nat) :=
  let n := s.nvm
  let slot := if n.wbSlotB then NvmArea.slotB.base else NvmArea.slotA.base
  let page := s.pageSize
  match n.cur with
  | none => none
  | some .record => some (NvmArea.log.base + 16 * s.ffNext.1, 16)
  | some .writeBack =>
    match n.wbStage with
    | .data k => some (slot + page * (k - 1), if k * page < 2048 then page else page - 8)
    | .commit => some (slot + 0x7F8, 8)
    | .verify => some (slot, 2048)
    | .none => none
  | some .eraseLog => some (if s.isNor then (NvmArea.log.base, 4096) else (NvmArea.log.base + page * (s.logPages - n.logLeft), page))
  | some .eraseLearned => some (if s.isNor then (NvmArea.slotA.base, 4096) else eraseSpan (4 - n.ldLeft))
  | some .copyB => some (NvmArea.copyB.base + n.cbBytes.length, min 256 (NvmArea.copyB.size - n.cbBytes.length))

/-- R68, R71: the areas that BOOT reads in the step that it awaits. -/
def State.bootReads (s : State) : List NvmArea :=
  if s.nvm.bootStep = 0 then [.copyA, .copyB] else if s.nvm.bootStep = 1 then [.slotA, .slotB] else if s.nvm.bootStep = 2 then [.log] else []

/-- R67, R449: VNVM goes off 1 ms after the last access; the pack's bus keeps it on until an authentication attempt ends. -/
def State.vnvmOff (s : State) : State :=
  if s.nvm.cur.isNone && (s.nvm.waiting.filter s.nvmEligible).isEmpty && s.gau.stage ≠ .challenged && s.power ≠ .boot then s.setNvm (fun n => { n with vnvm := false, ready := false }) else s

end Sys2Proof.Machine
end

