-- ==== Sys2Proof/Machine/Faults.lean ====
section
/-! DEFINITION. What the fault collector does with a raise (18_fault_collector.md): sticky bit, count and packet; the strongest class; the snapshot; FLT_FIRST. The reactions that change the
power state are in the power file. -/
namespace Sys2Proof.Machine

/-- Change the collector's record. -/
def State.setFlt (s : State) (f : Flt → Flt) : State := { s with flt := f s.flt }

/-- R621: the sticky bit of source n. -/
def State.sticky (s : State) (n : Nat) : Bool := s.bit (A.FLT_STK (n / 16)) (n % 16)

/-- Set it. -/
def State.setSticky (s : State) (n : Nat) : State := s.pbit (A.FLT_STK (n / 16)) (n % 16) true

/-- R636: a sticky bit is set. -/
def State.anySticky (s : State) : Bool := (List.range 8).any (fun k => s.rn (A.FLT_STK k) ≠ 0)

/-- R642: BANKS: bit b tells of a sticky bit in bank b (condition 0xE0 + b). -/
def State.fltBank (s : State) (b : Nat) : Bool := s.rn (A.FLT_STK (2 * b)) ≠ 0 || s.rn (A.FLT_STK (2 * b + 1)) ≠ 0

/-- R636, R649: the snapshot, with its event and the power state it leaves; none is made while no sticky bit is set. -/
def State.snapshot (s : State) (event : Nat) : State :=
  if s.anySticky then
    let st := s.power.code
    let s := s.each (List.range 8) (fun s k => s.wr (A.FLT_SNAP k) (s.rd (A.FLT_STK k)))
    s.wn A.FLT_SNAPINF (32768 + 4096 * event + 256 * st)
  else s

/-- A raise that the collector has taken: the class it applies, its source and its power state. -/
structure Taken where
  cls    : Nat
  source : Nat
  state  : Nat
deriving DecidableEq, Repr

/-- R205, R628, R629, R638: the class that a raise applies: in POWER-DOWN sources 10 to 29 act as NOTE at most, and so does a forced raise under DRY. -/
def State.appliedClass (s : State) (r : Raise) : Nat :=
  let c := s.srcCls r.source
  if s.power = .powerDown && decide (10 ≤ r.source) && decide (r.source ≤ 29) then min c 1
  else if r.origin = .force && s.b F.FLT_TEST_DRY then min c 1
  else c

/-- R201, R209, R637: an engine step's raise of a no-start source counts in its domain. -/
def State.countNoStart (s : State) (r : Raise) : State :=
  s.when (r.source < 10 && r.origin = .engine) (·.inc (A.DOM_CNT (r.source + 1) 2))

/-- R622, R628, R201: one raise is taken: a raise of a disabled source has no effect here. -/
def State.takeRaise (acc : State × List Taken) (r : Raise) : State × List Taken :=
  let (s, l) := acc
  let s := s.countNoStart r
  if s.srcEn r.source then
    let c := s.appliedClass r
    let conf := s.srcCls r.source
    let old := s.sticky r.source
    let s := (s.setSticky r.source).inc (A.FLT_CNT r.source)
    let s := s.when (r.origin = .force && s.b F.FLT_TEST_DRY && decide (2 ≤ conf)) (·.p F.FLT_TEST_DRYHIT 1)
    let s := if !old && decide (1 ≤ c) then
        let s := { s with hif := { s.hif with attn := true } }
        s.post (.fault c conf r.origin r.state r.source (s.rn (A.FLT_CNT r.source)) (s.g F.THM_STAT_BAND))
      else s
    let s := if r.source < 10 && r.origin = .engine && decide (c ≤ 1) && r.state = 3 then s.queueRecord .noStart (s.incidentOf r.source conf 3) else s
    (s, l ++ [⟨c, r.source, r.state⟩])
  else (s, l)

/-- R630: the raises of one step time are taken. -/
def State.takeRaises (s : State) (rs : List Raise) : State × List Taken := rs.foldl State.takeRaise (s, [])

/-- R622, R628, R629: the raises so far are taken: sticky bits, counts and packets; in BOOT they are held, and without AO no detector runs. -/
def State.collect (s : State) : State × List Taken :=
  if s.flt.raised.isEmpty then (s, [])
  else if !s.aoOn then (s.setFlt (fun f => { f with raised := [] }), [])
  else if s.power = .boot then (s.setFlt (fun f => { f with held := f.held ++ f.raised, raised := [] }), [])
  else
    let rs := s.flt.raised
    (s.setFlt (fun f => { f with raised := [] })).takeRaises rs

/-- Nothing waits for the collector or for the queue; in BOOT packets wait for the boot report. -/
def State.settled (s : State) : Bool := s.flt.raised.isEmpty && (s.power = .boot || !s.aoOn || s.mrq.outbox.isEmpty)

/-- R630, R653, R663: the raises of this step time, what follows from them, and those of the packets that then find no room or pointers that disagree, gathered before any class acts. -/
def State.gather (s : State) (follow : State → State) (fuel : Nat) (l : List Taken) : State × List Taken :=
  match fuel with
  | 0 => (s, l)
  | n + 1 =>
    let (s, t) := s.collect
    let s := follow s
    let s := s.when (s.aoOn && s.power ≠ .boot) State.openPosted
    if s.settled then (s, l ++ t) else s.gather follow n (l ++ t)

/-- R630: the raises of this step time are taken for their sticky bits and counts alone: a reset acts in place of their classes. -/
def State.takeAll (s : State) : State := ((s.setFlt (fun f => { f with raised := [] })).takeRaises s.flt.raised).1

/-- R630: of the raises taken, the strongest class above NOTE with its lowest source. -/
def strongest (l : List Taken) : Option Taken :=
  l.foldl (fun b t =>
    if t.cls < 2 then b
    else match b with
      | none => some t
      | some u => if u.cls < t.cls || (u.cls = t.cls && t.source < u.source) then some t else some u) none

/-- R194, R630: the domains of the HALT sources among 0 to 29 of this step time. -/
def haltDomains (l : List Taken) : List Nat := (l.filter (fun t => t.cls = 3 && decide (t.source < 30))).map (fun t => t.source % 10 + 1)

/-- R210, R645: an incident begins where none is in progress: its first source, and FLT_FIRST. -/
def State.beginIncident (s : State) (t : Taken) : State :=
  match s.flt.incident with
  | some _ => s
  | none => (s.setFlt (fun f => { f with incident := some (s.incidentOf t.source t.cls t.state) })).wn A.FLT_FIRST (32768 + 8192 * t.cls + t.source)

/-- R634, R642: ALIVE stops, for a cause of ALVSTOP. -/
def State.stopAlive (s : State) (cause : Nat) : State := { s with ctl := { s.ctl with aliveHeld := true, alive := false, alvStop := cause } }

end Sys2Proof.Machine
end

