-- ==== Sys2Proof/Machine/Power.lean ====
section
/-! DEFINITION. The power states (02_supplies_states_resets.md, 06_domains_and_sequencing.md, 18_fault_collector.md): what each entry does, resets and BOOT, the running and the power-down
sequences, requests, wakes, FAULT, THERMAL-OFF, SHIP, the push-button and the supplies. -/
namespace Sys2Proof.Machine

/-- Change the state controller's record. -/
def State.setCtl (s : State) (f : Control → Control) : State := { s with ctl := f s.ctl }

/-- Change the supplies' record. -/
def State.setSup (s : State) (f : Supply → Supply) : State := { s with sup := f s.sup }

/-! ### Leaving the states with engines (R144, R255, R355, R518, R553) -/

/-- R144: an engine stops: pending triggers, loop counters and a debug halt clear; the offset of its last step stays. -/
def Engine.stop (e : Engine) : Engine := { e with mode := .stopped, pend := [], l0 := 0, l1 := 0, halted := false, stepping := false, pre := false }

/-- R144, R170, R206, R255, R266, R355, R518, R553, R634: what stops at the entry to a state without engines; `cause` is the code of ALVSTOP. A request for WATCH that a stroke held is gone. An
authentication in progress is due again. -/
def State.stopRun (s : State) (cause : Nat) : State :=
  let s := (s.setStk (fun k => { k with heldWatch := false })).abandonStroke
  let s := { s with eng := s.eng.map Engine.stop }
  let s := (s.clearShed.openSluice 6).weirOff
  let s := (s.each (List.range 16) State.monRestart).lockoutsFresh false
  let busy := s.gau.stage ≠ .idle
  let s := s.adcStop.setGau (fun g => { g with stage := .idle, authDue := g.authDue || busy })
  (s.p F.GAU_AUTHSTAT_BUSY 0).stopAlive cause

/-- R256: the sluice conducts or is being admitted. -/
def State.sluiceBusy (s : State) : Bool := s.line.fullOn || s.line.inrush ≠ .none

/-- R15, R43, R47, R55: V contents return to their defaults, and C, K and L contents and what AO holds stay. SYS_STRAP keeps its latched straps, and CHG_STAT the charger's state, which the entry does not
change (R400). What the host has not acknowledged (R129 to R132) and the packet popped last (R124) are no registers: they stay (DESIGN CHOICE, log entry 86). -/
def State.wipe (s : State) : State :=
  let dirty := s.b F.SYS_LDSTAT_DIRTY
  let strap := s.rd A.SYS_STRAP
  let chgState := s.g F.CHG_STAT_STATE
  let s0 := State.reset
  let s := ({ s with regs := s.regs.keep (fun a => survivalOf a ≠ .volatile) } : State)
  let s := (s.wr A.SYS_STRAP strap).p F.CHG_STAT_STATE chgState
  { s with
      eng := s0.eng, tim := s0.tim, dom := s0.dom, lock := s0.lock, stk := s0.stk, gau := s0.gau, thm := s0.thm, adc := s0.adc, way := s0.way
      flt := { s0.flt with raised := s.flt.raised }
      mrq := { s0.mrq with seq := s.mrq.seq }
      drv := { s0.drv with vdrv := s.drv.vdrv, vlsrc := s.drv.vlsrc }
      line := { s.line with chgOk := false, lastOpen := 0, fails := 0 }
      chg := { s0.chg with fault := s.chg.fault, cycleDue := s.chg.cycleDue, vinRaised := s.chg.vinRaised, wdf := s.chg.wdf, vregLoad := s.chg.vregLoad }
      rtcx := { s.rtcx with hostSh := none, relaySh := none }
      nvm := { s.nvm with wbStage := .none, wbWanted := false, wbDue := false, wbStale := false, wbCut := false, wbData := [], cur := if s.nvm.cur = some .writeBack then none else s.nvm.cur,
                          waiting := s.nvm.waiting.filter (· ≠ .writeBack), wasDirty := s.nvm.wasDirty || dirty }
      ctl := { s.ctl with
                 request := if s.ctl.onReq = some 9 then s.ctl.request else none
                 shipping := false, forced := false, forceEnded := false, noBattSeq := false, latched := none, holdWarn := false, holdSup := false, lowReserve := false, pfwWarn := false,
                 pfwEng := false, pfwPb := false, thRestarts := 0, puRaised := false, seqOff := [], entryWaits := none, rstEng := [true, true, true] } }

/-! ### Straps (R22 to R28) -/

/-- R24, R27: the code of a strap voltage: the number of decision bands below it. The lowest edge belongs to the band above it and the highest to the band below it; every other edge belongs to
both of its bands, and Config.bandUp takes one. -/
def bandCode (lo : Nat) (mid : List Nat) (hi mv : Nat) : Nat :=
  (decide (lo ≤ mv)).toNat + (mid.filter (fun e => decide (e < mv) || (decide (e = mv) && Config.bandUp mv))).length + (decide (hi < mv)).toNat

/-- R24: the code of a six-level strap. -/
def sixLevel (mv : Nat) : Nat := bandCode 100 [310, 600, 1000] 1500 mv

/-- R27: the code of SRCID, an eight-level strap. -/
def eightLevel (mv : Nat) : Nat := bandCode 68 [220, 390, 600, 870, 1190] 1520 mv

/-- R22, R24, R27: the voltage in mV that the 20 µA make across a strap resistor in Ω; an open ball rises to at least 1.65 V. -/
def strapMv (ohms : Option Nat) : Nat := match ohms with | some r => min 1650 (r / 50) | none => 1650

/-- R25: the effective role: reserved codes act as standalone. -/
def roleOf (code : Nat) : Nat := if code = 1 || code = 2 then code else 0

/-- R23, R28: the straps are read and latched, SRCID apart. -/
def State.latchStraps (s : State) (t : Straps) : State :=
  s.wn A.SYS_STRAP (s.rn A.SYS_STRAP / 2048 % 8 * 2048 + 512 * roleOf (sixLevel t.role) + 64 * sixLevel t.hsel + 8 * sixLevel t.addrH + sixLevel t.addrL)

/-! ### BOOT (R43, R52 to R55, R71) -/

/-- R55, R71: BOOT begins. `keepK`: K contents are kept. Straps, the RTC, the fuses, what the line has qualified, and what lies outside the device stay; a first-fail record that still
waited for the bus is gone, and so is a host erase that was in progress or waited (DESIGN CHOICE, log entry 19). The straps keep their latched codes until they are read again (R23). The sluice opens, as
LASTOPEN says where it was not open (R255). What the host has not acknowledged stays where AO was not lost (R129 to R132, DESIGN CHOICE, log entry 86); the packet popped last stays over a wake (R124). -/
def State.boot (s : State) (via : BootFrom) (keepK : Bool) : State :=
  let woken := via = .wake
  let keep (a : Nat) : Bool :=
    match survivalOf a with
    | .kept => keepK
    | .rtc => true
    | .fuse => true
    | .volatile => a = A.SYS_STRAP
    | .config => false
    | .learned => false
  let c := s.ctl
  let aoHeld := woken || via = .reset
  let s0 := State.reset
  let s : State :=
    { s0 with
        pending := s.pending
        pins := s.pins
        regs := s.regs.keep keep
        sup := { s.sup with starting := false, shipAo := false, fastOn := true, xtalGiven := woken && s.sup.xtalGiven }
        ctl := { s0.ctl with
                   pb := c.pb, pbFreed := c.pbFreed, mrLow := c.mrLow, bootFrom := via, bootRunning := c.bootRunning, strapDue := true, wakeTick := c.wakeTick, wakeCfg := c.wakeCfg,
                   foff := woken && c.foff, request := (if woken then c.request else none), thRestarts := if woken then c.thRestarts else 0 }
        line := { s.line with weirHeld := woken && s.line.weirHeld, weirBlocked := false, handback := false, hbWait := false, t4Due := false, lost := false, noToll := false, chgOk := false, fullOn := false,
                              inrush := .none, lastOpen := if s.sluiceBusy then 6 else if woken then s.line.lastOpen else 0 }
        rtc := s.rtc
        rtcx := { s0.rtcx with acc := s.rtcx.acc, was := s.rtcx.was, trimDue := s.rtcx.trimDue, pend := if woken then s.rtcx.pend else none }
        chg := { s0.chg with vinRaised := s.chg.vinRaised }
        nvm := { s0.nvm with wasDirty := s.nvm.wasDirty && keepK, degr := s.nvm.degr && aoHeld }
        drv := { s0.drv with vdrv := s.drv.vdrv, vlsrc := s.drv.vlsrc }
        ticks := s.ticks
        freeCtr := s.freeCtr
        hif := if aoHeld then { s.hif with popped := if woken then s.hif.popped else [] } else { s0.hif with reply := s.hif.reply, out := s.hif.out } }
  if woken then s else (s.p F.RTC_STAT_PEND 0).endLatch.setLine (fun l => { l with fails := 0 })

/-- R44, R58, R199: a cold start: its sticky bit and LAST; RTCLOST where the counters were lost too (R57, R601). -/
def State.coldBoot (s : State) (via : BootFrom) : State :=
  let lost := s.sup.rtcLost
  let s := (s.setCtl (fun c => { c with bootRunning := false })).boot via false
  (s.wn A.SYS_RSTCAUSE (if lost then 0x8201 else 0x0201)).setSup (fun u => { u with retLost := false, rtcLost := false })

/-- R44: the state in which a reset was taken had domains to run. -/
def runningDoor (p : Power) : Bool := p = .powerUp || p = .run || p = .watch

/-- R52, R57: the sticky bit and the code of a reset with AO running. -/
def ResetKind.bits (k : ResetKind) : Fld × Nat :=
  match k with
  | .pin => (F.SYS_RSTCAUSE_PIN, 3)
  | .host => (F.SYS_RSTCAUSE_HOST, 4)
  | .manager => (F.SYS_RSTCAUSE_MGR, 5)

/-- R52: the states in which a reset is accepted. AO that LINE feeds in SHIP belongs to no powered state. -/
def State.acceptsReset (s : State) (k : ResetKind) : Bool :=
  match k with
  | .pin => s.aoOn
  | .host => s.hostAlive
  | .manager => s.isWorker && (s.power = .run || s.power = .watch || s.power = .fault)

/-- R53, R57, R58, R92, R199, R605, R630, R636: a reset is taken: the raises of this step time are in the snapshot. Then follow its record, every domain off with active discharge, and BOOT; the steps of BOOT wait for the end of the shutdown. The
100 µs slots of R53 pass within this step. STATE reads BOOT from the reset onward (R696). -/
def State.takeReset (s : State) (k : ResetKind) : State :=
  if s.acceptsReset k then
    let was := s.power
    let s := s.when (was ≠ .boot) State.takeAll
    let s := s.snapshot 3
    let s := ((s.p k.bits.1 1).p F.SYS_RSTCAUSE_LAST k.bits.2).pb F.SYS_RSTCAUSE_INFAULT (was = .fault)
    let s := s.p F.SYS_WAKECAUSE_LAST 0
    let dirty := s.b F.SYS_LDSTAT_DIRTY
    let s := s.setNvm (fun n => { n with wasDirty := n.wasDirty || dirty })
    let s := (s.setCtl (fun c => { c with bootRunning := runningDoor was })).allOff
    (s.boot .reset true).setCtl (fun c => let low := c.mrLow || k = .pin; { c with resetting := some (if low then .pin else k), mrLow := low })
  else s

/-! ### FAULT (R194, R203, R631) -/

/-- R194: the domains still to be switched off, grouped by rank, the highest first. -/
def State.shutdownOrder (s : State) : List Nat := s.byRank

/-- R631, R636, R95: FAULT is entered with an incident: the snapshot, the record, and everything stops. The domains `now` and those of the highest rank go off at once; the lower ranks follow in
slots of 100 µs, which the step on an empty queue takes. -/
def State.enterFault (s : State) (inc : Incident) (now : List Nat) : State :=
  let s := s.snapshot 1
  let s := s.queueRecord .fault inc
  let s := { s with power := .fault }
  let s := s.stopRun 2
  let s := s.setCtl (fun c => { c with
    request := none, onReq := none, shipping := false, noBattSeq := false, latched := none, holdWarn := false, holdSup := false, lowReserve := false,
    pfwPb := false, entryWaits := none, startHeld := false })
  let s := s.each now (fun s n => s.domOff n true)
  let top := s.topRank
  let s := s.each (domains.filter (fun n => s.cmdOn n && s.rank n = top)) (fun s n => s.domOff n true)
  let rest := s.shutdownOrder
  (s.setCtl (fun c => { c with seqOff := rest })).pb F.DOM_SEQSTAT_HALTSD (!rest.isEmpty)

/-- R629: in HIBERNATE and THERMAL-OFF a WARN or a HALT leads to FAULT at once. In POWER-DOWN a WARN only asserts PFW_N; FAULT follows the program. -/
def State.react (s : State) (l : List Taken) : State :=
  match strongest l with
  | none => s
  | some t =>
    let fault (s : State) (now : List Nat) : State := s.enterFault ((s.flt.incident).getD (s.incidentOf t.source t.cls t.state)) now
    let warn (s : State) : State := s.setCtl (fun c => { c with pfwWarn := true, holdWarn := true })
    match s.power with
    | .powerUp => let s := s.beginIncident t; if t.cls = 3 then fault s (haltDomains l) else warn s
    | .run => let s := s.beginIncident t; if t.cls = 3 then fault s (haltDomains l) else warn s
    | .watch => let s := s.beginIncident t; if t.cls = 3 then fault s (haltDomains l) else warn s
    | .powerDown => let s := s.beginIncident t; if t.cls = 3 then fault s (haltDomains l) else s.setCtl (fun c => { c with pfwWarn := true })
    | .hibernate => fault (s.beginIncident t) []
    | .thermalOff => fault (s.beginIncident t) []
    | .fault => s | .boot => s | .dead => s | .vbkupOnly => s | .ship => s

/-- R194: one 100 µs slot of the shutdown: the domains of the highest rank left go off; HALTSD clears with the last. -/
def State.haltSlot (s : State) : State :=
  match s.ctl.seqOff with
  | [] => s
  | _ =>
    let top := s.topRank
    let s := s.each (domains.filter (fun n => s.cmdOn n && s.rank n = top)) (fun s n => s.domOff n true)
    let rest := s.byRank
    (s.setCtl (fun c => { c with seqOff := rest })).pb F.DOM_SEQSTAT_HALTSD (!rest.isEmpty)

/-- R199: every remembered request and hold goes. -/
def State.clearRequests (s : State) : State :=
  s.setCtl (fun c => { c with request := none, onReq := none, holdWarn := false, holdSup := false })

/-! ### HIBERNATE and SHIP (R43, R49, R55, R412) -/

/-- R15, R255, R270: the entry to HIBERNATE or SHIP: everything stops, V contents return to their defaults, and LASTOPEN names the opening that the entry makes. LATCH is one of them: the latch-off ends as at a
reset (DEDUCED, log entry 28). WBBUSY follows an erase that goes on (R105). The packets of this
step time are committed, and then gone with the queue (R658). -/
def State.goDark (s : State) (p : Power) : State :=
  let opens := s.sluiceBusy
  let s := ({ s.allOff with power := p } : State).stopRun 1
  let s := s.when (p = .ship && s.sup.vbk150) State.bktsCapture
  (s.commitPosted.wipe.wbBusy.when opens (·.setLine (fun l => { l with lastOpen := 6 }))).endLatch

/-- R43, R54: HIBERNATE is entered: the snapshot, and V contents return to their defaults. After a push-button force-off PBOFF sets, and FOFF unless a press or a newly qualified line has
ended the suppression since; a force-off whose power-down ends in FAULT or in SHIP, or that a reset cuts short, sets neither (DESIGN CHOICE, log entry 26: R54 and R57 state the case of HIBERNATE only). -/
def State.enterHibernate (s : State) : State :=
  let s := s.snapshot 4
  let forced := s.ctl.forced && s.power ≠ .boot
  let s := s.when forced (fun s => (s.p F.SYS_RSTCAUSE_PBOFF 1).setCtl (fun c => { c with foff := !c.forceEnded }))
  s.goDark .hibernate

/-- R34, R601: the RTC island is fed by VBKUP alone; where that does not hold it, the counters are lost. -/
def State.islandDark (s : State) : State := s.when (!s.sup.vbk150) (fun s => s.rtcLose.setSup (fun u => { u with rtcLost := true }))

/-- R15, R33, R49, R412, R610: SHIP is entered: the islands switch to VBKUP, and lose what it cannot hold; V contents go, and the suppression of a
force-off ends with them; a force-off in the power-down that led here sets neither PBOFF nor FOFF (DESIGN CHOICE, log entry 26). LINE feeds AO from 5.5 V on, the typical stop threshold (DESIGN CHOICE, log entry 76). -/
def State.enterShip (s : State) : State :=
  let s := ((s.snapshot 5).goDark .ship).wr A.CHG_STAT (resetWord A.CHG_STAT)
  let s := ({ s with chg := { State.reset.chg with vinRaised := s.chg.vinRaised } } : State).setCtl (fun c => { c with foff := false })
  let fed := decide (55 ≤ s.sup.lineDv)
  (s.setSup (fun u => { u with retLost := !u.vbk175, xtalGiven := false, shipAo := fed })).islandDark

/-! ### POWER-UP, RUN, WATCH (R43, R59, R148, R195, R449) -/

/-- R43, R144, R187, R208, R256, R449, R633: POWER-UP is entered: engines idle, SYS trigger 0, the reset outputs held, comparators afresh, ALIVE low, the sluice admits a qualified line. -/
def State.enterPowerUp (s : State) : State :=
  let s := { s with power := .powerUp }
  let s := { s with eng := s.eng.map (fun e => { Engine.stop e with mode := .idle }) }
  let s := s.setCtl (fun c => { c with rstEng := [true, true, true], puRaised := false, aliveHeld := false, alive := false, startHeld := false, bootRunning := false, forced := false, forceEnded := false })
  let s := s.p F.DOM_SEQSTAT_PUCUT 0
  let s := ((s.each (List.range 16) State.monRestart).lockoutsFresh true).takeTick.trig 0 0
  let s := s.startAdmission
  s.when s.gau.authDue State.authStart

/-- R43, R409: the power-up program has ended: RUN or WATCH, by the latest request or SYS_CFG.START_STATE. A request that has been served, before a THERMAL-OFF among them, is no longer the
latest request of R43 and R47 (DESIGN CHOICE, log entry 24). -/
def State.endPowerUp (s : State) : State :=
  let watch := match s.ctl.request with | some .watch => true | some .run => false | none => s.b F.SYS_CFG_START_STATE
  let s := (s.setCtl (fun c => { c with request := none })).setChgR (fun c => { c with wdRun := true })
  if watch then s.goWatch else { s with power := .run }

/-! ### POWER-DOWN (R43, R87, R197 to R200) -/

/-- R43, R197, R218, R355, R475: POWER-DOWN begins for a cause of OFFSRC: 1 SYS_CTRL, 2 push-button, 3 SYS_SHIP, 4 line loss with no battery, 5 WARN. SYS trigger 1 starts the program; a
trigger 0 that still waited is discarded (R149). -/
def State.beginPowerDown (s : State) (src : Nat) : State :=
  let s := (s.setStk (fun k => { k with heldWatch := false })).abandonStroke
  let s := { s with power := .powerDown }
  let s := s.p F.DOM_SEQSTAT_OFFSRC src
  let s := (s.setEng 0 (fun e => { e with pend := e.pend.filter (· ≠ 0) })).trig 0 1
  let adm := s.admitted
  let s := s.setCtl (fun c => { c with
    request := none, onReq := if src = 4 then c.onReq else none, shipping := src = 3, noBattSeq := c.noBattSeq || src = 4, holdWarn := false, holdSup := c.holdSup && src ≠ 4 })
  s.when (s.isWorker && adm) (fun s => s.setWay (fun w => { w with leaveDue := true }))

/-- R197, R199, R200: an off request arrives. In POWER-DOWN it clears a remembered on request; of a line loss with no battery the spec remembers the line that has newly qualified in its PFW_HOLD (R45), which stays
(DESIGN CHOICE, log entry 26). -/
def State.offRequest (s : State) (src : Nat) : State :=
  match s.power with
  | .powerUp => (s.p F.DOM_SEQSTAT_PUCUT 1).beginPowerDown src
  | .run => s.beginPowerDown src
  | .watch => s.beginPowerDown src
  | .powerDown => s.setCtl (fun c => { c with onReq := if src = 4 && c.onReq = some 5 then c.onReq else none, request := none })
  | .dead => s | .vbkupOnly => s | .ship => s | .boot => s | .hibernate => s | .thermalOff => s | .fault => s

/-- R198: where the power-down program leads: FAULT apart, HIBERNATE or SHIP. -/
def State.enterTarget (s : State) : State :=
  if s.ctl.shipping && s.ctl.onReq.isNone then s.enterShip else s.enterHibernate

/-- R205, R645: FLT_FIRST names the over-voltage that POWER-DOWN latched, with the class that was applied: NOTE at most. -/
def State.firstLatched (s : State) (i : Incident) : State := s.wn A.FLT_FIRST (32768 + 8192 * min i.cls 1 + i.source)

/-- R43, R47, R203, R205, R210: where a power-down ends: FAULT after a WARN or a latched over-voltage, else by `entry`. Where both have come, the record names the WARN source (DESIGN CHOICE, log entry 92). -/
def State.leavePowerDown (s : State) (entry : State → State) : State :=
  match s.flt.incident with
  | some i => s.enterFault i []
  | none =>
    match s.ctl.latched with
    | some i => (s.firstLatched i).enterFault i []
    | none => entry s

/-- R87: the power-down program has ended toward HIBERNATE or SHIP: the entry waits for a write-back that is under way or can start; one that only waits for the bus and cannot start holds nothing up. -/
def State.entryOrWait (s : State) : State :=
  if s.b F.SYS_LDSTAT_DIRTY && !s.isNor && (s.nvm.wbStage ≠ .none || s.mayWrite) then
    (s.setCtl (fun c => { c with entryWaits := some (if c.shipping then .ship else .hibernate) })).tryWriteBack
  else s.enterTarget

/-- R43, R87, R205, R629: the power-down program has ended. What the step that ended it has raised is judged first, as a raise in POWER-DOWN. -/
def State.endPowerDown (s : State) : State :=
  let (s, l) := s.gather id 8 []
  let s := s.react l
  if s.power = .powerDown then s.leavePowerDown State.entryOrWait else s

/-- R87, R200, R205: a waiting state entry proceeds once no write-back is left; a WARN or an over-voltage met while it waited leads to FAULT. -/
def State.finishEntry (s : State) : State :=
  if s.ctl.entryWaits.isSome && s.power = .powerDown && !s.wbActive then s.leavePowerDown State.enterTarget else s

/-! ### Requests for a running state (R59, R162, R198, R347) -/

/-- R51: SYS_WAKECFG as a wake source finds it. Within the LF period of a wake every source is judged by the word in force at the wake, which BOOT has returned to its default. -/
def State.wakeWord (s : State) : Word := if s.power = .boot && s.ctl.wakeTick = some s.ticks then s.ctl.wakeCfg else s.rd A.SYS_WAKECFG

/-- R50, R62: a wake source acts in HIBERNATE. "After a force-off" lasts as long as FOFF: once a press or a newly qualified line has ended it, PB_EN and SRC_EN count again (DESIGN CHOICE, log entry 25). -/
def State.wakeEnabled (s : State) (code : Nat) : Bool :=
  let on (f : Fld) : Bool := f.get s.wakeWord != 0
  match code with
  | 1 => (on F.SYS_WAKECFG_PB_EN || s.ctl.foff) && (s.ctl.pbFreed || !s.ctl.foff)
  | 3 => on F.SYS_WAKECFG_WAKE1_MODE
  | 4 => on F.SYS_WAKECFG_WAKE2_MODE
  | 5 => on F.SYS_WAKECFG_SRC_EN || s.ctl.foff
  | 6 => on F.SYS_WAKECFG_ALM0_EN
  | 7 => on F.SYS_WAKECFG_ALM1_EN
  | _ => true

/-- R58: the sticky bit of a wake code. -/
def wakeSticky (code : Nat) : Fld :=
  match code with
  | 1 => F.SYS_WAKECAUSE_PB
  | 2 => F.SYS_WAKECAUSE_PBSHIP
  | 3 => F.SYS_WAKECAUSE_WAKE1
  | 4 => F.SYS_WAKECAUSE_WAKE2
  | 6 => F.SYS_WAKECAUSE_ALM0
  | 7 => F.SYS_WAKECAUSE_ALM1
  | 9 => F.SYS_WAKECAUSE_HOST
  | _ => F.SYS_WAKECAUSE_SRC

/-- R43, R51, R58: a wake from HIBERNATE. -/
def State.wake (s : State) (code : Nat) : State :=
  let s := (s.p (wakeSticky code) 1).p F.SYS_WAKECAUSE_LAST code
  let t := s.ticks
  let cfg := s.wakeWord
  (s.setCtl (fun c => { c with onReq := none, wakeTick := some t, wakeCfg := cfg, bootRunning := false })).boot .wake true

/-- R44, R45, R47, R50, R51, R198, R200: a wake source has become true. -/
def State.wakeSource (s : State) (code : Nat) : State :=
  match s.power with
  | .hibernate => if s.wakeEnabled code then s.wake code else s
  | .boot =>
    if s.wakeEnabled code && code ≠ 9 then
      let s := s.p (wakeSticky code) 1
      if s.ctl.wakeTick = some s.ticks && decide (code < s.g F.SYS_WAKECAUSE_LAST) then s.p F.SYS_WAKECAUSE_LAST code else s
    else s
  | .powerDown =>
    if s.wakeEnabled code || (code = 5 && (s.ctl.noBattSeq || s.ctl.holdSup || s.ctl.forced)) then s.setCtl (fun c => { c with onReq := some code })
    else s
  | .thermalOff =>
    if s.ctl.thFrom = .hibernate && s.wakeEnabled code then s.setCtl (fun c => { c with thWakes := insertOnce code c.thWakes })
    else s
  | .powerUp => if code = 5 && s.ctl.holdSup then s.setCtl (fun c => { c with onReq := some 5 }) else s
  | .run => if code = 5 && s.ctl.holdSup then s.setCtl (fun c => { c with onReq := some 5 }) else s
  | .watch => if code = 5 && s.ctl.holdSup then s.setCtl (fun c => { c with onReq := some 5 }) else s
  | .dead => s | .vbkupOnly => s | .ship => s | .fault => s

/-- R198: MIN_OFF has passed in HIBERNATE with an on request remembered. -/
def State.minOff (s : State) : State :=
  match s.power, s.ctl.onReq with
  | .hibernate, some code => s.wake code
  | _, _ => s

/-- R43, R59, R162, R198, R199, R347: RUN or WATCH is asked for, by SYS_CTRL (`host`) or by a SIGNAL step of the SYS engine. -/
def State.requestState (s : State) (t : Target) (host : Bool) : State :=
  match s.power with
  | .powerUp => s.setCtl (fun c => { c with request := some t })
  | .run =>
    match t with
    | .run => s.setStk (fun k => { k with heldWatch := false })
    | .watch => if s.strokeActive then s.setStk (fun k => { k with heldWatch := true }) else s.goWatch
  | .watch => match t with | .run => s.goRun | .watch => s
  | .powerDown => if host then s.setCtl (fun c => { c with onReq := some 9, request := some t }) else s
  | .hibernate => if host then (s.setCtl (fun c => { c with request := some t })).wake 9 else s
  | .dead => s | .vbkupOnly => s | .ship => s | .boot => s | .thermalOff => s | .fault => s

/-- R59: SYS_CTRL.REQ = 3. -/
def State.requestOff (s : State) : State := s.offRequest 1

/-- R49, R61: the SYS_SHIP key. -/
def State.shipKey (s : State) : State :=
  if s.line.qual || !s.present then s
  else
    match s.power with
    | .run => s.beginPowerDown 3
    | .watch => s.beginPowerDown 3
    | .hibernate => s.enterShip
    | .dead => s | .vbkupOnly => s | .ship => s | .boot => s | .powerUp => s | .powerDown => s | .thermalOff => s | .fault => s

/-! ### The end of BOOT (R44, R71, R601, R629) -/

/-- R44: a start condition holds. A line in its window whose debounce still runs counts as qualified (R255). -/
def State.startRule (s : State) : Bool :=
  let line := s.line.qual || (s.line.qualifying && s.line.inWin && s.srcKind ≠ 0)
  (line && s.b F.SYS_CFG_START_ON_LINE && !s.ctl.foff) || (s.present && s.b F.SYS_CFG_START_ON_BATT && !s.ctl.foff) || s.ctl.bootFrom = .wake || s.ctl.bootFrom = .shipExit ||
    ((s.ctl.bootFrom = .reset || s.ctl.bootFrom = .brownOut) && s.ctl.bootRunning && (line || s.present)) || s.ctl.startHeld

/-- R71, R92, R210, R629, R655: the end of BOOT: the boot report, the raises that BOOT held, and FAULT, POWER-UP or HIBERNATE. The packets of BOOT are opened, and sources 121 and 122 of them
are judged with the rest (R630); they commit with what the new state posts. -/
def State.endBoot (s : State) : State :=
  let s := (s.post .bootReport).when s.rtcx.trimDue (fun s => (s.wn A.RTC_TRIM (s.rn A.RTC_CFG % 512)).setRtc (fun r => { r with trimDue := false }))
  let s := s.setNvm (fun n => { n with wasDirty := false })
  let rs := s.flt.held ++ s.flt.raised
  let s := s.setFlt (fun f => { f with held := [], raised := [] })
  let (s, l) := s.takeRaises rs
  let s := s.openPosted
  let (s, m) := (s.setFlt (fun f => { f with raised := [] })).takeRaises s.flt.raised
  match strongest (l ++ m) with
  | some t =>
    let t : Taken := { t with state := 1 }
    let s := s.beginIncident t
    s.enterFault ((s.flt.incident).getD (s.incidentOf t.source t.cls 1)) []
  | none =>
    if s.g F.SYS_IMGSTAT_COPY ≠ 0 && s.startRule then s.enterPowerUp else s.enterHibernate

/-! ### PFW_HOLD (R45, R203) -/

/-- R45, R203: PFW_HOLD ends for a cause. -/
def State.holdEnds (s : State) (h : HoldFor) : State :=
  match h with
  | .warn => if s.ctl.holdWarn then (s.setCtl (fun c => { c with holdWarn := false })).offRequest 5 else s
  | .noBattery =>
    if s.ctl.holdSup then
      (s.setCtl (fun c => { c with holdSup := false })).offRequest 4
    else s

/-- R195, R217: PDMAX has passed: source 31, the rest of the domains off, and FAULT whatever its class; code 0 sets no limit. After an over-voltage that POWER-DOWN latched the FAULT is that
over-voltage's, as R210's row for it says (DESIGN CHOICE, log entry 92: a HALT in its place names the HALT source). -/
def State.powerDownTimeout (s : State) : State :=
  if s.power = .powerDown && s.ctl.entryWaits.isNone && s.g F.DOM_SEQCFG_PDMAX ≠ 0 then
    let (s, l) := (s.raise 31).gather id 8 []
    let t := (strongest l).getD ⟨s.srcCls 31, 31, 6⟩
    let s := match s.ctl.latched, s.flt.incident with
      | some i, none => (s.setFlt (fun f => { f with incident := some i })).firstLatched i
      | _, _ => s.beginIncident t
    s.enterFault ((s.flt.incident).getD (s.incidentOf 31 (s.srcCls 31) 6)) []
  else s

/-! ### Thermal shutdown (R46, R47, R583, R584) -/

/-- R55, R464: THERMAL-OFF has no Wayline: its live words stand as they were, and so does the input limit. -/
def State.holdWay (s : State) : State :=
  s.when s.wayOn (fun s => (((s.wn A.WAY_ILIM s.wayIlim).wn A.WAY_STAT s.wayStat).wn A.WAY_ADDR s.wayAddrWord).wn A.LIN_IEFF s.linIeff)

/-- R43, R55, R210: THERMAL-OFF is entered, remembering where from; its record names the shutdown's source and no domain. An on request that waited for MIN_OFF in HIBERNATE is not remembered: only one of
POWER-DOWN outlasts the shutdown, as R47 says (DESIGN CHOICE, log entry 24). -/
def State.enterThermalOff (s : State) (source : Nat) : State :=
  let was := s.power
  let inc := s.incidentOf source (s.srcCls source) was.code
  let s := s.snapshot 2
  let s := s.queueRecord .thermalOff inc
  let s := s.holdWay.allOff
  let s : State := { s with thm := { s.thm with held := true } }
  let starts := was = .boot && s.startRule
  let s := ({ s with power := .thermalOff } : State).stopRun 1
  let s := s.setCtl (fun c => { c with thFrom := was, thWakes := [], startHeld := starts, entryWaits := none, holdWarn := false, holdSup := false })
  -- A hold of R203 that the shutdown cuts short ends, with its incident; one that had already led to POWER-DOWN stands (R47).
  if was = .powerDown then s
  else (s.setFlt (fun f => { f with incident := none })).setCtl (fun c => { c with pfwWarn := false, noBattSeq := false, lowReserve := false, pfwEng := false, onReq := none })

/-- R46, R583, R584, R589, R630: the element of region k trips. Where AO does not run, neither does the element. -/
def State.thermalShutdown (s : State) (k : Nat) : State :=
  let s := s.when s.aoFed (fun s => (s.pbit A.THM_SDSTAT k true).pbit A.THM_SDSTAT (8 + k) true)
  match s.power with
  | .dead => s | .vbkupOnly => s | .ship => s
  | .fault => ((s.allOff.setCtl (fun c => { c with seqOff := [] })).p F.DOM_SEQSTAT_HALTSD 0).raise (64 + k)
  | .thermalOff => s.raise (64 + k)
  | _ =>
    let s := s.inc A.THM_CNTSD
    let was := s.power.code
    let hot := decide (3 ≤ s.ctl.thRestarts)
    if s.power = .boot then
      let rs := s.flt.held ++ s.flt.raised ++ [⟨64 + k, .detector, was⟩]
      if hot then
        let i := s.incidentOf (64 + k) (s.srcCls (64 + k)) 1
        let s := s.setFlt (fun f => { f with held := [], raised := [] })
        (s.takeRaises rs).1.enterFault i []
      else (s.setFlt (fun f => { f with held := rs, raised := [] })).enterThermalOff (64 + k)
    else
      let (s, l) := (s.raise (64 + k)).gather id 8 []
      match strongest l with
      | some t =>
        let s := s.beginIncident t
        s.allOff.enterFault ((s.flt.incident).getD (s.incidentOf t.source t.cls t.state)) []
      | none =>
        if hot then s.allOff.enterFault ((s.flt.incident).getD (s.incidentOf (64 + k) (s.srcCls (64 + k)) was)) []
        else s.enterThermalOff (64 + k)

/-- R583, R589: the element of region k falls below 135 °C. -/
def State.shutdownRelease (s : State) (k : Nat) : State := s.pbit A.THM_SDSTAT k false

/-- R589: no element is hot. -/
def State.allCool (s : State) : Bool := s.rn A.THM_SDSTAT % 256 = 0

/-- R47, R401: BOOT runs again from its first step after THERMAL-OFF: V contents stay, the packet count restarts, and a charge cycle is due. Of the bus only the records keep their places, as at every BOOT that follows no
loss of V contents (log entry 19). -/
def State.bootAgain (s : State) : State :=
  let s := { s with power := .boot }
  let s := s.setNvm (fun n => { n with bootStep := 0, vnvm := true, ready := false, cur := none, waiting := if n.records.isEmpty then [] else [.record], wbStage := .none, wbCut := false, logLeft := 0, ldLeft := 0,
                                       cbState := 0, cbBytes := [] })
  let s := s.wbBusy.setChgR (fun c => { c with cycleDue := true })
  { s with mrq := { s.mrq with seq := 0 } }

/-- R46, R47, R58: every element is released and 1 s has passed in THERMAL-OFF. The restart is recorded: the entry to HIBERNATE that it leads to is no loss of the record, one to SHIP is (DEDUCED, log entry 25). -/
def State.thermalRestart (s : State) : State :=
  if s.power = .thermalOff && s.allCool then
    let n := sat 3 (s.ctl.thRestarts + 1)
    let s := s.setCtl (fun c => { c with thRestarts := n })
    match s.ctl.thFrom with
    | .boot => s.bootAgain
    | .powerDown => let t := s.leavePowerDown State.enterTarget; t.when (t.power ≠ .ship) (·.setCtl (fun c => { c with thRestarts := n }))
    | .hibernate =>
      let ws := s.ctl.thWakes
      let s := ((s.snapshot 4).goDark .hibernate).setCtl (fun c => { c with thWakes := [], thRestarts := n })
      match ws with
      | [] => s
      | w :: r =>
        let s := s.each r (fun s c => s.p (wakeSticky c) 1)
        s.wake w
    | _ => (s.gaugeRestart.linkRestart).enterPowerUp
  else s

/-! ### Line loss and the reserve (R45) -/

/-- R45: the line is lost in POWER-UP, RUN or WATCH: with no battery PFW_N and PFW_HOLD; with the reserve below its floor PFW_N alone. -/
def State.lineLossSupply (s : State) : State :=
  if runningDoor s.power then
    if !s.present then s.setCtl (fun c => { c with noBattSeq := true, holdSup := true, lowReserve := false })
    else if !s.reserveOk then s.setCtl (fun c => { c with lowReserve := true })
    else s
  else s

/-- R45: PFW_N for a low reserve is released when the line qualifies or condition 0x85 becomes true; a battery that goes before that starts the sequence. -/
def State.supplyFollow (s : State) : State :=
  if s.ctl.lowReserve then
    if !s.running then s.setCtl (fun c => { c with lowReserve := false })
    else if s.line.qual || (s.present && s.reserveOk) then s.setCtl (fun c => { c with lowReserve := false })
    else if !s.present && runningDoor s.power then s.setCtl (fun c => { c with noBattSeq := true, holdSup := true, lowReserve := false })
    else s
  else s

/-! ### The push-button (R44, R49, R54) -/

/-- R44: the suppression of the start conditions ends, and so does the one that a force-off still in progress would bring. -/
def State.endSuppression (s : State) : State := s.setCtl (fun c => { c with foff := false, forceEnded := c.forceEnded || c.forced })

/-- R44, R50, R54, R200: PB_N has been low for 50 ms. -/
def State.pbPress (s : State) : State :=
  if s.ctl.pb = .up && s.aoOn then
    let fresh := s.ctl.pbFreed
    let s := s.setCtl (fun c => { c with pb := .held })
    let acts := s.wakeEnabled 1 || (s.power = .powerDown && s.ctl.forced)
    let s' := s.when fresh State.endSuppression
    if fresh && acts then
      match s.power with
      | .hibernate => (s'.setCtl (fun c => { c with pb := .woke })).wake 1
      | .boot =>
        let t := s'.p F.SYS_WAKECAUSE_PB 1
        if s.ctl.wakeTick = some s.ticks && decide (1 < s.g F.SYS_WAKECAUSE_LAST) then t.p F.SYS_WAKECAUSE_LAST 1 else t
      | .powerDown => s'.setCtl (fun c => { c with onReq := some 1 })
      | .thermalOff =>
        if s.ctl.thFrom = .hibernate then s'.setCtl (fun c => { c with thWakes := insertOnce 1 c.thWakes }) else s'
      | .dead => s | .vbkupOnly => s | .ship => s | .powerUp => s' | .run => s' | .watch => s' | .fault => s'
    else s'
  else s

/-- R54: PB_LONG − 2 s: PFW_N asserts as a warning, in POWER-UP and POWER-DOWN as in RUN and WATCH (DESIGN CHOICE, log entry 26: R54's column names RUN and WATCH). -/
def State.pbWarn (s : State) : State :=
  if s.ctl.pb = .held || s.ctl.pb = .woke then
    let on := s.b F.SYS_PBCFG_PB_LONG_EN && s.running
    s.setCtl (fun c => { c with pb := .warned, pfwPb := c.pfwPb || on })
  else s

/-- R54: PB_LONG: the force-off. -/
def State.pbForceOff (s : State) : State :=
  if s.ctl.pb ≠ .up && s.ctl.pb ≠ .done then
    let s := s.setCtl (fun c => { c with pb := .done })
    if s.b F.SYS_PBCFG_PB_LONG_EN && s.running then ((s.setCtl (fun c => { c with pbFreed := false })).offRequest 2).setCtl (fun c => { c with forced := true, forceEnded := false }) else s
  else s

/-- R54: PB_N is released `ms` after its falling edge. A press that woke the device has had its effect. -/
def State.pbRelease (s : State) (ms : Nat) : State :=
  let stage := s.ctl.pb
  let s := s.setCtl (fun c => { c with pb := .up, pbFreed := true, pfwPb := c.pfwPb && stage ≠ .warned })
  if stage ≠ .up && stage ≠ .woke && decide (50 ≤ ms) && decide (ms ≤ 2000) && (s.power = .run || s.power = .watch || s.power = .fault) then
    ({ s with hif := { s.hif with attn := true } } : State).post (.pushButton ms s.power.code)
  else s

/-- R49, R57, R58, R606: SHIP ends: a wake where the retention island kept its contents, else a cold start, with the exit's code. -/
def State.shipExit (s : State) (code : Nat) : State :=
  let s := s.setSup (fun u => { u with pack := false })
  let kept := !s.sup.retLost
  let s := if kept then (s.setCtl (fun c => { c with bootRunning := false })).boot .wake true else s.coldBoot .shipExit
  (((s.p (wakeSticky code) 1).p F.SYS_WAKECAUSE_LAST code).almArm 0).almArm 1

/-- R49, R412: PB_N has been held for PB_SHIP in SHIP; the wake circuit needs 5.0 V. -/
def State.pbShipHold (s : State) : State :=
  if s.power = .ship && decide (5000 ≤ s.sup.battMv) then (s.setCtl (fun c => { c with pb := .woke, pbFreed := true })).shipExit 2 else s

/-! ### Supplies (R33, R34, R36, R52, R55) -/

/-- R36, R43: the pre-regulator starts. -/
def State.preregStart (s : State) (lineDv battMv : Nat) : State :=
  let s := s.setSup (fun u => { u with lineDv := lineDv, battMv := battMv })
  if s.power = .dead || s.power = .vbkupOnly then s.setSup (fun u => { u with starting := true }) else s

/-- R36, R52, R55, R610, R636: AO loses its supply: V and C contents go, and the islands depend on VBKUP. -/
def State.aoLoss (s : State) : State :=
  let was := s.power
  let s := s.snapshot 3
  let dirty := s.b F.SYS_LDSTAT_DIRTY
  let s := s.setNvm (fun n => { n with wasDirty := n.wasDirty || dirty })
  let s := { s with line := Line.init }
  let s := s.when s.sup.vbk150 State.bktsCapture
  let s := s.setCtl (fun c => { c with lostIn := was, bootRunning := runningDoor was, foff := false, pb := .up, pbFreed := true, mrLow := false })
  let vb := s.sup.vbk175
  let s := ({ s with power := if vb then .vbkupOnly else .dead } : State).wipe
  let s := { s with regs := s.regs.keep (fun a => match survivalOf a with | .volatile => false | .config => false | .learned => false | .kept => true | .rtc => true | .fuse => true), nvm := { State.reset.nvm with wasDirty := s.nvm.wasDirty } }
  (s.setSup (fun u => { u with retLost := u.retLost || !vb })).rtcDiscard.islandDark

/-- R34, R412, R601: AO that LINE feeds in SHIP stops, and with it what it knows of the line; the RTC island is left to VBKUP. -/
def State.shipAoLoss (s : State) : State := ({ s with line := Line.init, sup := { s.sup with shipAo := false } } : State).islandDark

/-- R36: the higher of LINE and BATT falls below the stop threshold. In SHIP only the supply of the qualifying line goes. -/
def State.preregStop (s : State) (lineDv battMv : Nat) : State :=
  let s := s.setSup (fun u => { u with lineDv := lineDv, battMv := battMv, starting := false })
  if s.aoOn then s.aoLoss else if s.power = .ship then s.shipAoLoss else s

/-- R52: AO33 stays below its brown-out level; AO starts again by itself when it rises. -/
def State.brownOut (s : State) : State :=
  if s.aoOn then s.aoLoss.setSup (fun u => { u with starting := true }) else if s.power = .ship then s.shipAoLoss else s

/-- R252: the presence of the line as AO finds it: above 12.0 V. -/
def State.findLine (s : State) : State := s.setLine (fun l => { l with present := l.present || decide (120 < s.sup.lineDv) })

/-- R33, R43, R52, R57, R396, R412, R606: AO33 is above its release level and the straps have been read. -/
def State.aoReady (s : State) (strap : Straps) (pack : Bool) : State :=
  if s.power = .ship then ((((s.setSup (fun u => { u with shipAo := true })).latchStraps strap).findLine.beginQualification).almArm 0).almArm 1
  else if (s.power = .dead || s.power = .vbkupOnly) && s.sup.starting then
    let s := s.setSup (fun u => { u with starting := false, pack := pack })
    let s :=
      if s.sup.retLost then s.coldBoot .cold
      else
        let f := s.ctl.lostIn = .fault
        let s := ((s.p F.SYS_RSTCAUSE_BOR 1).p F.SYS_RSTCAUSE_LAST 2).pb F.SYS_RSTCAUSE_INFAULT f
        (s.p F.SYS_WAKECAUSE_LAST 0).boot .brownOut true
    (((((s.latchStraps strap).setCtl (fun c => { c with strapDue := false })).findLine).beginQualification).almArm 0).almArm 1
  else s

/-- R34, R36, R49, R55: VBKUP stands at this level. A fall below 1.75 V raises source 97 while AO runs; without it, and in SHIP, the islands lose what VBKUP cannot hold, the counts as it falls below 1.50 V. -/
def State.vbkupLevel (s : State) (mv : Nat) : State :=
  let was := s.sup.vbk175
  let fell := s.sup.vbk150
  let s := s.setSup (fun u => { u with vbk175 := decide (1750 ≤ mv), vbk150 := decide (1500 ≤ mv) })
  if s.aoOn then s.when (was && !s.sup.vbk175) (·.raise 97)
  else
    let s := (s.setSup (fun u => { u with retLost := u.retLost || !u.vbk175 })).when fell State.islandDark
    if s.power = .vbkupOnly && !s.sup.vbk175 then { s with power := .dead } else s

/-- R126, R627: VIOH falls below its minimum. -/
def State.viohLoss (s : State) : State :=
  let s := s.setSup (fun u => { u with vioh := false })
  (s.wn A.HIF_VER 1).when s.running (·.raise 98)

/-! ### Clocks (R38, R39, R634) -/

/-- R38: the crystal takes over the LF clock. -/
def State.crystalStable (s : State) : State :=
  if s.aoFed && s.b F.SYS_CFG_LFXTAL && !s.sup.xtalGiven then s.p F.SYS_CLK_LFSRC 1 else s

/-- R38: the crystal has failed, where it is chosen. -/
def State.crystalFail (s : State) : State :=
  if s.aoFed && s.b F.SYS_CFG_LFXTAL && !s.sup.xtalGiven then
    (((s.p F.SYS_CLK_LFSRC 0).p F.SYS_CLK_LFFAIL 1).setSup (fun u => { u with xtalGiven := true })).when s.aoOn (·.raise 100)
  else s

/-- R39: the states in which the fast oscillator runs all the time. -/
def State.fastAlways (s : State) : Bool := s.power = .run || s.power = .boot || s.power = .powerUp || s.power = .powerDown

/-- R39: a demand on the fast oscillator stands: the measurement converter has work, or DRIVE converts. -/
def State.fastDemand (s : State) : Bool :=
  s.adc.slices.any (·.isSome) || !s.adc.avgs.isEmpty || !s.adc.inj.isEmpty || !s.adc.held.isEmpty || s.adc.round.isSome || s.b F.ADC_CALSTAT_PEND || s.regulates

/-- R39: a demand starts the fast oscillator. -/
def State.demandFast (s : State) : State := s.when s.aoOn (·.setSup (fun u => { u with fastOn := true }))

/-- R39: a Wayline frame, sent or received, is a demand. -/
def State.wayFrame (s : State) : State := s.when s.wayOn State.demandFast

/-- R39, R634: the fast oscillator has failed. -/
def State.fastFail (s : State) : State := if s.aoOn then (s.stopAlive 4).raise 101 else s

end Sys2Proof.Machine
end

