-- ==== Sys2Proof/Machine/LineEvents.lean ====
section
/-! DEFINITION. What happens to the line, the sluice and the weir (08_line_sluice_and_weir.md): presence, qualification, loss, openings, admission, and the events of the weir. -/
namespace Sys2Proof.Machine

/-- LINE stands at a level in 0.1 V; the comparators follow. -/
def State.lineLevel (s : State) (dv : Nat) : State := (s.setSup (fun u => { u with lineDv := dv })).followWindow

/-- R358, R360: a marker, while a stroke is pre-armed or running. -/
def State.markActive (s : State) (code : Nat) : State := s.when s.strokeActive (·.marker code)

/-- R252, R254, R268, R269, R300: a qualified line is lost, with its LASTOPEN code. -/
def State.lineLost (s : State) (cause : Nat) : State :=
  let was := s.line.fullOn
  let s := s.openSluice cause
  let s := s.setLine (fun l => { l with qual := false, chgOk := false, qualifying := false, lost := l.lost || was, noToll := true })
  let s := (s.inc A.LIN_CNTLOSS).post (.lineEvent 2 cause)
  let s := s.when s.strokeActive (fun s => (s.setStk (fun k => { k with lineLoss := true })).marker 6)
  let s := s.drvLineLost.when s.isWorker State.releaseToll
  let s := if was then (if s.weirOn then s.trigger4 else s.setLine (fun l => { l with t4Due := true })) else s
  s.lineLossSupply

/-- R252: after an end of qualification a new one begins while the line stays present. -/
def State.lineLostAgain (s : State) (cause : Nat) : State := (s.lineLost cause).beginQualification

/-- R252: the line becomes present. -/
def State.linePresent (s : State) (dv : Nat) : State :=
  let s := s.setSup (fun u => { u with lineDv := dv })
  if s.aoFed && !s.line.present then (s.setLine (fun l => { l with present := true, implaus := false })).beginQualification else s

/-- R252, R254, R259: LINE falls below the presence level. -/
def State.lineAbsent (s : State) (dv : Nat) : State :=
  let s := s.setSup (fun u => { u with lineDv := dv })
  if s.line.present then
    let s := s.when s.line.qual (·.lineLost 1)
    let s := s.setLine (fun l => { l with present := false, reading := false, qualifying := false, inWin := false, retry := false, ov := false, implaus := false })
    s.clearLatch
  else s

/-- R253: LINE enters or leaves its window. -/
def State.windowChange (s : State) (dv : Nat) : State := if s.line.present then s.lineLevel dv else s.setSup (fun u => { u with lineDv := dv })

/-- R44, R45, R49, R50, R253, R256: the line has stayed in its window for 20 ms. -/
def State.lineQualified (s : State) : State :=
  if s.line.qualifying && s.line.inWin && !s.line.reading && s.srcKind ≠ 0 then
    let s := (s.setLine (fun l => { l with qual := true, qualifying := false })).setChgR (fun c => { c with vinRaised := false })
    if s.power = .ship then s.shipExit 8
    else
      let s := (s.post (.lineEvent 1 0)).startAdmission
      (s.wakeSource 5).endSuppression
  else s

/-- R254: LINE has stayed below the loss level or above VHI for LOSSFLT. -/
def State.lineLoss (s : State) (dv : Nat) : State :=
  let s := s.setSup (fun u => { u with lineDv := dv })
  if s.line.qual && (decide (dv + s.srcHys < s.srcVlo) || decide (s.srcVhi < dv)) then (s.lineLostAgain (if s.srcVhi < dv then 2 else 1)).followWindow
  else s.when s.line.present State.followWindow

/-- R257: LINE rises above VOV. Each time the comparator says so counts in LIN_CNTOV and raises source 44, where the sluice is open already too (DEDUCED, log entry 30). -/
def State.lineOv (s : State) (dv : Nat) : State :=
  let s := s.setSup (fun u => { u with lineDv := dv })
  if s.line.present && !s.line.ov && decide (s.srcVov < dv) then
    let s := (s.setLine (fun l => { l with ov := true, inWin := false })).inc A.LIN_CNTOV
    let s := s.raise 44
    if s.line.qual then s.lineLostAgain 3 else s.openSluice 3
  else s

/-- R23, R27, R252, R253, R257: the SRCID read completes with a voltage in mV; its entry is taken and the comparators judge LINE afresh, the one of VOV too. -/
def State.srcidRead (s : State) (mv : Nat) : State :=
  if s.line.reading then
    let code := eightLevel mv
    let s := s.p F.SYS_STRAP_SRCID code
    let s := (s.setLine (fun l => { l with reading := false, srcId := code })).followWindow
    s.lineOv s.sup.lineDv
  else s

/-- R257, R258: the line shunt voltage exceeds VSC. -/
def State.lineShort (s : State) : State :=
  if s.line.fullOn || s.line.inrush ≠ .none then (((s.inc A.LIN_CNTTRIP).raise 46).lineLost 5).failedAdmission else s

/-- R256: the stagger ends. -/
def State.staggerEnd (s : State) : State := if s.line.inrush = .stagger then s.setLine (fun l => { l with inrush := .charging }) else s

/-- R256, R258: the SOA timer reaches SOA_T. -/
def State.soaExpiry (s : State) : State :=
  if s.line.inrush = .charging then (((s.inc A.LIN_CNTTRIP).raise 45).lineLost 4).failedAdmission else s

/-- R489: after a line loss the sluice is fully on again: a worker asks again for a stroke still pre-armed or running. An unhinted stroke has asked for nothing. -/
def State.rerequest (s : State) : State := s.when (s.isWorker && s.strokeActive && s.stk.kind ≠ 3) State.requestToll

/-- R256, R265, R269, R299, R300, R489, R690: the sluice has been fully on for 100 µs. The hand-back delay starts after a loss, and where the weir carries VDRV. -/
def State.sluiceOn (s : State) : State :=
  if s.line.inrush = .charging then
    let after := s.line.lost
    let again := s.line.noToll
    let hb := (after || s.weirOn) && s.g F.WEIR_CFG_HBDLY ≠ 3
    let s := s.setLine (fun l => { l with inrush := .none, fullOn := true, lost := false, noToll := false, t4Due := false, handback := hb, hbWait := false, weirHeld := false })
    let s := (s.drvSluiceOn.markActive 7).when again State.rerequest
    s.when after State.trigger5
  else s

/-- R258: RETRY_DLY ends. -/
def State.retryEnd (s : State) : State := if s.line.retry then (s.setLine (fun l => { l with retry := false })).beginQualification else s

/-- R258: the sluice has stayed fully on for 1 s. -/
def State.retryClear (s : State) : State := s.when s.line.fullOn (·.setLine (fun l => { l with fails := 0 }))

/-- R260: a present line has not qualified within 1 s. -/
def State.lineImplausible (s : State) : State :=
  if s.line.present && !s.line.qual && !s.line.implaus then (s.setLine (fun l => { l with implaus := true })).when s.aoOn (·.raise 48) else s

/-- R269: qualified and fully on for 1 s. -/
def State.chgOkSet (s : State) : State := s.when (s.line.qual && s.line.fullOn) (·.setLine (fun l => { l with chgOk := true }))

/-- R275: the event counters of the line and the weir clear. -/
def State.lineCounters (s : State) : State := (((s.wr A.LIN_CNTLOSS 0).wr A.LIN_CNTOV 0).wr A.LIN_CNTTRIP 0).wr A.WEIR_CNTTK 0

/-! ### The weir -/

/-- VDRV and BATT stand at these levels, in mV. -/
def State.busLevels (s : State) (vdrv batt : Nat) : State := (s.setDrv (fun d => { d with vdrv := vdrv })).setSup (fun u => { u with battMv := batt })

/-- R264 to R266, R268: the weir starts to conduct; a reverse block of the forced-on weir is over. -/
def State.weirStart (s : State) : State :=
  let auto := s.weirMode = .auto
  let s := s.setLine (fun l => { l with weirBlocked := false })
  let s := (s.p F.WEIR_STAT_COND 1).pb F.WEIR_STAT_TKLIM (decide (s.drv.vdrv + 1000 < s.sup.battMv))
  let s := s.when auto (·.inc A.WEIR_CNTTK)
  let s :=
    if s.line.qual && s.line.fullOn then s.p F.WEIR_STAT_ASSIST 1
    else if s.line.t4Due then (s.setLine (fun l => { l with t4Due := false })).trigger4
    else s
  s.drvWeirChange

/-- R264 to R266, R268: the weir turns on. -/
def State.weirTurnOn (s : State) (vdrv batt : Nat) : State :=
  let s := s.busLevels vdrv batt
  if !s.weirOn && s.weirTurnsOn vdrv batt then s.weirStart else s

/-- R266, R269: what a change of the mode does: forced off, the weir stops conducting; forced on, it conducts whatever the levels, until reverse blocking turns it off, and the block lasts no longer than
that mode. A hand-back that waited for AUTO proceeds. -/
def State.weirFollow (s : State) : State :=
  match s.weirMode with
  | .forcedOff => s.weirOff.setLine (fun l => { l with weirBlocked := false })
  | .forcedOn => if s.weirOn || s.line.weirBlocked then s else s.weirStart
  | .auto => (s.setLine (fun l => { l with weirBlocked := false })).when (s.line.hbWait && !s.strokeRuns) State.handBack

/-- R264, R266: the current through the weir reverses. -/
def State.weirReverse (s : State) (vdrv batt : Nat) : State :=
  let s := s.busLevels vdrv batt
  if s.weirOn then
    let forced := s.weirMode = .forcedOn
    (s.weirOff.when forced (fun s => (s.p F.WEIR_STAT_REVBLK 1).setLine (fun l => { l with weirBlocked := true }))).drvWeirChange
  else s

/-- R265: VDRV has come within 1 V of BATT. -/
def State.takeoverDone (s : State) (vdrv batt : Nat) : State := (s.busLevels vdrv batt).p F.WEIR_STAT_TKLIM 0

/-- R265: the weir turns off and stays forced off until the sluice is fully on or a reset. -/
def State.weirTrip (s : State) (flag : Fld) (source : Nat) : State :=
  ((((s.p flag 1).setLine (fun l => { l with weirHeld := true })).weirOff).drvWeirChange).raise source

/-- R265: the takeover is not complete 2 ms after turn-on. -/
def State.takeoverFail (s : State) : State := if s.weirOn && s.b F.WEIR_STAT_TKLIM then s.weirTrip F.WEIR_STAT_TKFAIL 49 else s

/-- R265: the battery shunt voltage exceeds WSC. -/
def State.weirShort (s : State) : State := if s.weirOn then s.weirTrip F.WEIR_STAT_SCEVT 50 else s

/-- R269, R690: HBDLY has elapsed with the sluice fully on; a stroke in progress, which runs, delays the hand-back. -/
def State.handbackDue (s : State) : State :=
  if s.line.handback && s.line.fullOn then
    if s.strokeRuns then s.setLine (fun l => { l with handback := false, hbWait := true }) else s.handBack.drvWeirChange
  else s

end Sys2Proof.Machine
end

