-- ==== Sys2Proof/Machine/Engines.lean ====
section
/-! DEFINITION. The waymark engines (05_waymark_engines.md): the decoding of a step, the conditions, what each step does, waits, triggers, timers, ALIVE and debug. -/
namespace Sys2Proof.Machine

/-! ### Decoding a step (R153 to R164) -/

/-- R154: a step with its operands. -/
inductive EngStep where
  | end_
  | enable (kind mask : Nat)
  | disable (kind mask : Nat) (nodis : Bool)
  | set (index value : Nat)
  | wait (lf : Bool) (count : Nat)
  | waitc (inv : Bool) (cond timeout : Nat)
  | check (inv act stop : Bool) (cond operand : Nat)
  | jump (inv whenCond : Bool) (cond target : Nat)
  | signal (kind operand : Nat)
  | sync (clr : Bool) (flag : Nat)
  | loop (second : Bool) (count target : Nat)
deriving DecidableEq, Repr

/-- Bits lsb + n − 1 to lsb of a step. -/
def stepBits (w lsb n : Nat) : Nat := w / 2 ^ lsb % 2 ^ n

/-- R155: the MASK bits that a kind reads; none for a reserved kind. -/
def kindMask (kind : Nat) : Option Nat := [0x3FF, 0x3FF, 7, 0xFFFF, 0][kind]?

/-- R157: the value bits that a SET index takes; none for a reserved index. -/
def setMask (i : Nat) : Option Nat :=
  if i = 0 then some 0x3FF
  else if i = 1 then some 0xFFFF
  else if 0x10 ≤ i && i ≤ 0x1F then some 0xFFFF
  else if i = 0x40 then some 0xFFF
  else if i = 0x48 then none
  else if 0x41 ≤ i && i ≤ 0x49 then some 0x1FF
  else if i = 0x50 then some 0xFFF
  else if 0x51 ≤ i && i ≤ 0x59 then some 0xF
  else if 0x60 ≤ i && i ≤ 0x7F then some 0x3FF
  else if i = 0x80 then some 0x3F
  else if i = 0x81 then some 0
  else if i = 0x82 then some 0xC01F
  else none

/-- R162: the operand bits that a SIGNAL kind reads; none for a reserved kind. -/
def signalMask (kind : Nat) : Option Nat := [0x1FFFF, 0x1FFFF, 0x10F, 0x7F, 0x3FFFF, 0x3FFFF, 3][kind]?

/-- A step is read where its reserved bits are 0 and its codes are not reserved; elsewhere the result is undefined (R153, R171). -/
def stepIf (ok : Bool) (st : EngStep) : Except String EngStep := if ok then .ok st else .error "a reserved bit or code of a step"

/-- A word has no bit outside a mask. -/
def within (v m : Nat) : Bool := v.land m = v

/-- R154: read a step. -/
def decodeStep (w : Nat) : Except String EngStep :=
  let kind := stepBits w 24 4
  let low := stepBits w 0 16
  let cond := stepBits w 16 8
  let target := stepBits w 0 12
  let inv := w.testBit 27
  match w / 2 ^ 28 % 16 with
  | 0 => stepIf (w % 2 ^ 28 = 0) .end_
  | 1 =>
    match kindMask kind with
    | some m => stepIf (stepBits w 16 8 = 0 && within low m) (.enable kind low)
    | none => .error "a reserved KIND"
  | 2 =>
    match kindMask kind with
    | some m => stepIf (stepBits w 17 7 = 0 && (kind = 0 || !w.testBit 16) && within low m) (.disable kind low (w.testBit 16))
    | none => .error "a reserved KIND"
  | 3 =>
    match setMask cond with
    | some m => stepIf (kind = 0 && within low m) (.set cond low)
    | none => .error "a reserved SET index"
  | 4 => stepIf (stepBits w 25 3 = 0) (.wait (w.testBit 24) (stepBits w 0 24))
  | 5 => stepIf (stepBits w 24 3 = 0) (.waitc inv cond low)
  | 6 =>
    let act := w.testBit 26
    let stop := w.testBit 25
    stepIf (!w.testBit 24 && (if act then within low 0x7F else within low 0xFFF && !stop)) (.check inv act stop cond low)
  | 7 =>
    let en := w.testBit 26
    stepIf (stepBits w 24 2 = 0 && stepBits w 12 4 = 0 && (en || (!inv && cond = 0))) (.jump inv en cond target)
  | 8 =>
    let op := stepBits w 0 24
    match signalMask kind with
    | some m => stepIf (within op m && (kind ≠ 2 || op % 16 = 0) && (kind ≠ 6 || op = 1 || op = 2)) (.signal kind op)
    | none => .error "a reserved SIGNAL kind"
  | 9 => stepIf (stepBits w 9 19 = 0 && stepBits w 5 3 = 0) (.sync (w.testBit 8) (stepBits w 0 5))
  | 10 => stepIf (stepBits w 25 3 = 0 && stepBits w 12 4 = 0 && cond ≠ 0) (.loop (w.testBit 24) cond target)
  | _ => .error "a reserved opcode"

/-- R184: the length of engine k's program. -/
def State.engLen (s : State) (k : Nat) : Nat := s.g (F.ENG_LEN_LEN k)

/-- R168: the 32 bits of the step at engine k's offset. -/
def State.stepWord (s : State) (k : Nat) : Nat :=
  let i := s.g (F.ENG_BASE_BASE k) + (s.engAt k).pc
  s.rn (A.ENG_STEP (2 * i)) + 65536 * s.rn (A.ENG_STEP (2 * i + 1))

/-- R79, R171: the step at engine k's offset; a program beyond step 4,095 is undefined. -/
def State.stepAt (s : State) (k : Nat) : Except String EngStep :=
  if 4095 < s.g (F.ENG_BASE_BASE k) + (s.engAt k).pc then .error "a program beyond step 4,095" else decodeStep (s.stepWord k)

/-! ### The step time (R146) -/

/-- R146: the external conditions are sampled. -/
def State.sample (s : State) : State :=
  let mask (f : Nat → Bool) : Nat := (List.range 16).foldl (fun n k => n + 2 ^ k * (f k).toNat) 0
  s.setCtl (fun c => { c with samp := ⟨mask s.under, mask s.over, s.line.qual, s.line.fullOn, s.weirOn, s.present, s.sup.vbk175, s.sup.vioh⟩ })

/-- R146: engine k executes or continues its step: in the step time of the engine before it, where that one has a lower number and no other event came between, else in a new one, with a
sample of its own. -/
def State.openStep (s : State) (k : Nat) : State :=
  let same := match s.ctl.stepEng with | some j => decide (j < k) | none => false
  (s.when (!same) State.sample).setCtl (fun c => { c with stepNow := some k })

/-- R146: the end of a command: any other command than an engine's step ends the step time. -/
def State.endStep (s : State) : State := s.setCtl (fun c => { c with stepEng := c.stepNow, stepNow := none })

/-! ### Conditions (R165) -/

/-- R166: flag f. -/
def State.flag (s : State) (f : Nat) : Bool := s.bit (A.ENG_FSET (f / 16)) (f % 16)

/-- Set or clear the flags of a mask in group gr. -/
def State.setFlags (s : State) (gr mask : Nat) (v : Bool) : State :=
  let old := s.rn (A.ENG_FSET gr)
  s.wn (A.ENG_FSET gr) (if v then old.lor mask else old.land (65535 - mask % 65536))

/-- Timer t. -/
def State.timAt (s : State) (t : Nat) : EngTimer := s.tim.getD t ⟨false, false, 0, 0⟩

/-- R165: whether engine k is not IDLE. -/
def State.engBusy (s : State) (k : Nat) : Bool := decide ((s.engAt k).mode ≠ .idle) || (s.engAt k).halted

/-- R165: the condition of a code, with the pins and the other external conditions as sampled for the step time (R146). A reserved code is false. -/
def State.cond (s : State) (c : Nat) : Bool :=
  if c = 0 then true
  else if 0x01 ≤ c && c ≤ 0x0A then s.pg c
  else if 0x10 ≤ c && c ≤ 0x19 then s.ctl.samp.below.testBit (c - 0x10)
  else if 0x20 ≤ c && c ≤ 0x29 then s.ctl.samp.above.testBit (c - 0x20)
  else if 0x30 ≤ c && c ≤ 0x3F then s.ctl.samp.above.testBit (c - 0x30)
  else if 0x40 ≤ c && c ≤ 0x4F then s.ctl.samp.below.testBit (c - 0x40)
  else if 0x50 ≤ c && c ≤ 0x6F then s.flag (c - 0x50)
  else if 0x90 ≤ c && c ≤ 0x93 then (s.timAt (c - 0x90)).expired
  else if 0x98 ≤ c && c ≤ 0x9D then s.g F.THM_STAT_BAND = c - 0x98
  else if 0xA0 ≤ c && c ≤ 0xA9 then s.cmdOn (c - 0x9F)
  else if 0xB0 ≤ c && c ≤ 0xB7 then s.winOut (c - 0xB0)
  else if 0xC8 ≤ c && c ≤ 0xD3 then s.engBusy (c - 0xC8)
  else if 0xE0 ≤ c && c ≤ 0xE3 then s.fltBank (c - 0xE0)
  else match c with
    | 0x70 => s.pins.pbLow
    | 0x71 => s.pins.wake1
    | 0x72 => s.pins.wake2
    | 0x73 => s.pins.stroke && s.ctl.samp.vioh
    | 0x74 => s.pins.syncIn
    | 0x80 => s.ctl.samp.qual
    | 0x81 => s.ctl.samp.fullOn
    | 0x82 => s.ctl.samp.weir
    | 0x83 => s.ctl.samp.pack
    | 0x84 => s.authOk
    | 0x85 => s.reserveOk
    | 0x86 => s.charging
    | 0x87 => s.pfw
    | 0x88 => s.synced
    | 0x89 => (BitVec.ofNat 16 s.drvStat).getLsbD 10
    | 0x8A => s.minOk
    | 0x8B => s.preArmed
    | 0x8C => s.strokeRuns
    | 0x8D => s.strokeRuns && s.b F.STK_STAT_PROVING
    | 0x8E => s.b F.WAY_STAT_ORPHAN
    | 0x8F => s.grantTolls ≠ 0
    | 0x9E => s.b F.THM_STAT_THRREQ
    | 0x9F => s.b F.THM_STAT_THRENF
    | 0xB8 => s.calBusy
    | 0xB9 => s.b F.SYS_CLK_LFSRC
    | 0xBA => s.ctl.samp.vbk175
    | 0xBB => s.ctl.samp.vioh
    | 0xC0 => s.power = .run
    | 0xC1 => s.power = .watch
    | 0xC2 => s.power = .powerUp
    | 0xC3 => s.power = .powerDown
    | 0xC5 => s.ctl.onReq.isSome
    | 0xC6 => s.ctl.foff
    | 0xE4 => s.ctl.holdWarn
    | _ => false

/-- R159: a condition with its inversion. -/
def State.holds (s : State) (inv : Bool) (c : Nat) : Bool := s.cond c != inv

/-! ### The program counter (R147, R149, R150) -/

/-- R43, R150: engine k's program ends; the first END of SYS in POWER-UP or POWER-DOWN ends the sequence. -/
def State.endProgram (s : State) (k : Nat) : State :=
  let s := s.setEng k (fun e => { e with mode := .idle, stepping := false })
  if k = 0 then
    if s.power = .powerUp then s.endPowerUp
    else if s.power = .powerDown && s.ctl.entryWaits.isNone then s.endPowerDown
    else s
  else s

/-- The mode of an engine whose step has completed: it goes on, or has been pre-empted (R149). -/
def Engine.goOn (e : Engine) (m : EngMode) : EngMode := if e.pre then .idle else m

/-- Go on n steps further; an offset that reaches the length acts as END (R147). -/
def State.advance (s : State) (k n : Nat) : State :=
  let p := (s.engAt k).pc + n
  if s.engLen k ≤ p then s.endProgram k else s.setEng k (fun e => { e with mode := e.goOn .run, pc := p, stepping := false })

/-- R160, R161, R164: go to an offset; at or beyond the length the result is undefined (R171). -/
def State.jumpTo (s : State) (k target : Nat) : Except Fault State :=
  if s.engLen k ≤ target then .error (.undefinedStep "a target at or beyond the engine's length")
  else .ok (s.setEng k (fun e => { e with mode := e.goOn .run, pc := target, stepping := false }))

/-- R149: the trigger that an idle engine starts with: 1 after a pre-emption, else the lowest pending one. -/
def Engine.first (e : Engine) : Option Nat := if e.pre then some 1 else e.pend.head?

/-- R147, R149: an idle engine starts; after a pre-emption a pending trigger 0 is discarded. A trigger that completes at once leaves its own offset as the PC (DESIGN CHOICE, log entry 33). -/
def State.startEngine (s : State) (k : Nat) : State :=
  match (s.engAt k).first with
  | none => s
  | some t =>
    let s := s.setEng k (fun e => { e with mode := .run, pc := t, pend := e.pend.filter (fun u => u ≠ t && !(e.pre && u = 0)), pre := false, l0 := 0, l1 := 0 })
    if s.engLen k ≤ t then s.endProgram k else s

/-- R149, R169: an engine that goes on after a halt obeys a trigger 1 that came meanwhile. -/
def Engine.preempt (e : Engine) : Engine :=
  if e.pend.contains 1 && e.mode ≠ .idle then { e with mode := .idle, stepping := false, pend := e.pend.filter (· ≠ 0), pre := true } else e

/-- R146, R149: the state in which ENGINE_START finds an engine: idle, not halted, in a state with engines. -/
def State.mayStart (s : State) (k : Nat) : Bool := s.running && decide ((s.engAt k).mode = .idle) && !(s.engAt k).halted

/-- Engine k executes its current step in the next step time. -/
def State.mayStep (s : State) (k : Nat) : Bool := s.running && decide ((s.engAt k).mode = .run) && !(s.engAt k).halted

/-- Engine k waits in the given way, and the wait is not frozen by a halt (R169). -/
def State.waitsFor (s : State) (k : Nat) (w : Waiting) : Bool :=
  s.running && decide ((s.engAt k).mode = .wait w) && (!(s.engAt k).halted || (s.engAt k).stepping)

/-- Engine k begins to wait; a halted engine that was stepped shows the wait until it completes (R169). -/
def State.beginWait (s : State) (k : Nat) (w : Waiting) : State := s.setEng k (fun e => { e with mode := e.goOn (.wait w), stepping := e.halted && !e.pre })

/-! ### The steps (R155 to R164) -/

/-- R155: ENABLE. An unused domain is undefined. -/
def State.doEnable (s : State) (k kind mask : Nat) : Except Fault State :=
  let on (ns : List Nat) : Except Fault State :=
    if s.unusedIn ns then .error (.undefinedStep "an ENABLE of an unused domain") else .ok ((s.domsOn ns).advance k 1)
  match kind with
  | 0 => on (maskDomains mask)
  | 1 => .ok ((s.each (maskDomains mask) (fun s n => s.trig n 0)).advance k 1)
  | 2 => .ok ((s.holdResets mask false).advance k 1)
  | 3 => .ok ((s.setMonPower mask true).advance k 1)
  | _ => on (maskDomains (s.g F.SYS_SHEDMASK_SHED))

/-- R149, R155: DISABLE. A trigger 1 of the engine to itself comes while it runs and pre-empts what follows the step, a pending trigger 0 included. -/
def State.doDisable (s : State) (k kind mask : Nat) (nodis : Bool) : Except Fault State :=
  match kind with
  | 0 => .ok ((s.each (maskDomains mask) (fun s n => s.domOff n (!nodis))).advance k 1)
  | 1 => .ok ((s.each (maskDomains mask) (fun s n => s.trig n 1)).advance k 1)
  | 2 => .ok ((s.holdResets mask true).advance k 1)
  | 3 => .ok ((s.setMonPower mask false).advance k 1)
  | _ => .ok (s.shedOff.advance k 1)

/-- R156, R157: the register or field that a SET index names takes the value. -/
def State.setIndex (s : State) (i v : Nat) : State :=
  if i = 0 then s.wn A.SYS_SHEDMASK v
  else if i = 1 then s.wn A.SYS_HKPER v
  else if i ≤ 0x1F then s.wn (A.SYS_EVAR (i - 0x10)) v
  else if i = 0x40 then (s.p F.DRV_VSET_CODE v).retarget false
  else if i ≤ 0x49 then s.setVset (i - 0x3F) v
  else if i = 0x50 then s.p F.DRV_ITOT_ILIM v
  else if i ≤ 0x59 then s.p (F.DOM_ILIM_CODE (i - 0x4F)) v
  else if i ≤ 0x6F then s.p (F.CMP_LO_CODE (i - 0x60)) v
  else if i ≤ 0x7F then s.p (F.CMP_HI_CODE (i - 0x70)) v
  else if i = 0x80 then s.inject v 0 false
  else if i = 0x81 then s.roundStart
  else s.wn A.CMP_RBSEL v

/-- R220, R229, R640: the value is a reserved code of the field that the index names. -/
def reservedSet (i v : Nat) : Bool :=
  if i = 0x40 then decide (2400 < v)
  else if 0x41 ≤ i && i ≤ 0x49 then decide (vsetTop (i - 0x3F) < v)
  else if i = 0x50 then v = 0 || decide (2400 < v)
  else if 0x51 ≤ i && i ≤ 0x59 then decide (ilimTop (i - 0x4F) < v)
  else false

/-- R156: SET. -/
def State.doSet (s : State) (k i v : Nat) : Except Fault State :=
  if reservedSet i v then .error (.undefinedStep "a reserved code in a SET") else .ok ((s.setIndex i v).advance k 1)

/-- R158: WAIT. A COUNT of 0 takes one step time. -/
def State.doWait (s : State) (k count : Nat) : State := if count = 0 then s.advance k 1 else s.beginWait k .time

/-- R159: WAITC. -/
def State.doWaitc (s : State) (k : Nat) (inv : Bool) (c : Nat) : State := if s.holds inv c then s.advance k 2 else s.beginWait k .cond

/-- R160: CHECK. -/
def State.doCheck (s : State) (k : Nat) (inv act stop : Bool) (c op : Nat) : Except Fault State :=
  if s.holds inv c then .ok (s.advance k 1)
  else if !act then s.jumpTo k op
  else
    let s := s.raiseBy .engine op
    .ok (if stop then s.endProgram k else s.advance k 1)

/-- R161: JUMP. -/
def State.doJump (s : State) (k : Nat) (inv en : Bool) (c target : Nat) : Except Fault State :=
  if !en || s.holds inv c then s.jumpTo k target else .ok (s.advance k 1)

/-- R162 kind 5, R167: a timer starts, restarts, or with a duration of 0 stops. -/
def State.startTimer (s : State) (t ms : Nat) : State :=
  let now := s.ticks
  { s with tim := s.tim.modify t (fun _ => ⟨decide (ms ≠ 0), false, ms, now⟩) }

/-- R162: SIGNAL, by its kind. -/
def State.doSignal (s : State) (k kind op : Nat) : State :=
  match kind with
  | 0 => s.setFlags (op / 65536 % 2) (op % 65536) true
  | 1 => s.setFlags (op / 65536 % 2) (op % 65536) false
  | 2 => s.setCtl (fun c => { c with pfwEng := op.testBit 8 })
  | 3 => s.raiseBy .engine (op % 128)
  | 4 => s.post (.engReport k (s.engAt k).pc (op % 65536) (op / 65536 % 4))
  | 5 => s.startTimer (op / 65536 % 4) (op % 65536)
  | _ => if k = 0 then s.requestState (if op = 1 then .run else .watch) false else s

/-- R163: the awaited flag is set: the engine goes on, and with CLR clears it. -/
def State.passSync (s : State) (k : Nat) (clr : Bool) (f : Nat) : State :=
  (s.when clr (fun s => s.setFlags (f / 16) (2 ^ (f % 16)) false)).advance k 1

/-- R163: SYNC. -/
def State.doSync (s : State) (k : Nat) (clr : Bool) (f : Nat) : State := if s.flag f then s.passSync k clr f else s.beginWait k .flag

/-- R164: LOOP. -/
def State.doLoop (s : State) (k : Nat) (second : Bool) (count target : Nat) : Except Fault State :=
  let c := if second then (s.engAt k).l1 else (s.engAt k).l0
  let put (v : Nat) : State := s.setEng k (fun e => if second then { e with l1 := v } else { e with l0 := v })
  if c = 0 then (put count).jumpTo k target
  else if c = 1 then .ok ((put 0).advance k 1)
  else (put (c - 1)).jumpTo k target

/-- Any step, as a debug STEP executes it (R169). -/
def State.doStep (s : State) (k : Nat) (st : EngStep) : Except Fault State :=
  match st with
  | .end_ => .ok (s.endProgram k)
  | .enable kind mask => s.doEnable k kind mask
  | .disable kind mask nodis => s.doDisable k kind mask nodis
  | .set i v => s.doSet k i v
  | .wait _ count => .ok (s.doWait k count)
  | .waitc inv c _ => .ok (s.doWaitc k inv c)
  | .check inv act stop c op => s.doCheck k inv act stop c op
  | .jump inv en c target => s.doJump k inv en c target
  | .signal kind op => .ok ((s.doSignal k kind op).advance k 1)
  | .sync clr f => .ok (s.doSync k clr f)
  | .loop second count target => s.doLoop k second count target

/-- A step row acts where engine k executes a step and that step is the row's; `f` answers none for another step. An undefined step is a fault on every row (R171). -/
def State.engRow (s : State) (k : Nat) (f : State → EngStep → Option (Except Fault State)) : Except Fault State :=
  if s.mayStep k then
    match s.stepAt k with
    | .error e => .error (.undefinedStep e)
    | .ok st => (f (s.openStep k) st).getD (.ok s)
  else .ok s

/-- A row of a wait in progress, likewise. -/
def State.waitRow (s : State) (k : Nat) (w : Waiting) (f : State → EngStep → Option State) : Except Fault State :=
  if s.waitsFor k w then
    match s.stepAt k with
    | .error e => .error (.undefinedStep e)
    | .ok st => .ok ((f (s.openStep k) st).getD s)
  else .ok s

/-! ### Events (R150 to R152, R167, R170, R177, R633 to R635) -/

/-- R169: an engine is halted for debug. -/
def State.anyHalted (s : State) : Bool := s.eng.any (·.halted)

/-- R633, R634: ALIVE should toggle. -/
def State.aliveRuns (s : State) : Bool := s.running && s.b F.FLT_CFG_ALVEN && !s.ctl.aliveHeld && !s.anyHalted

/-- R151, R633: a half-period of ALIVE has elapsed. -/
def State.aliveToggle (s : State) : State := if s.aliveRuns then s.setCtl (fun c => { c with alive := !c.alive }) else s

/-- R635: no toggle arrived in time. -/
def State.aliveMiss (s : State) : State := if s.aliveRuns then (s.stopAlive 5).raise 96 else s

/-- R152: a step that lasts as long as what it waits for. -/
def EngStep.lasts (st : EngStep) : Bool := match st with | .wait _ _ => true | .waitc _ _ _ => true | .sync _ _ => true | _ => false

/-- R152: a step of engine k, other than a wait, does not complete. -/
def State.engStalled (s : State) (k : Nat) : State :=
  let waits := match s.stepAt k with | .ok st => st.lasts | .error _ => false
  if s.mayStep k && !waits then (s.stopAlive 3).raise 104 else s

/-- R167: timer t reaches its duration. -/
def State.timerDone (s : State) (t : Nat) : State :=
  if (s.timAt t).running && s.aoOn then { s with tim := s.tim.modify t (fun x => { x with running := false, expired := true }) } else s

/-- R173: the period of the housekeeping tick in force, 0 for no tick. -/
def State.hkPeriod (s : State) : Nat := if s.power = .watch then s.g F.SYS_HKPER_WATCHPER else s.g F.SYS_HKPER_RUNPER

/-- R148, R150: the housekeeping tick. -/
def State.hkTick (s : State) : State :=
  if s.running && s.hkPeriod ≠ 0 then
    if (s.engAt 11).pend.contains 0 then s.p F.ENG_STAT_HKOVR 1 else s.trig 11 0
  else s

/-- R177: a write of ENG_TRIG. -/
def State.engTrigger (s : State) (w : Word) : State :=
  if s.running && F.ENG_TRIG_KEY.get w = 0x7E && decide (F.ENG_TRIG_ENGINE.get w ≤ 11) then s.trig (F.ENG_TRIG_ENGINE.get w) 6 else s

/-! ### Debug (R169, R178) -/

/-- R178: a keyed write of ENG_DBG selects an engine. -/
def State.dbgSelect (s : State) (w : Word) : State := s.p F.ENG_DBG_SEL (F.ENG_DBG_SEL.get w)

/-- R178: the write carries the key, engines run, and it selects one. Without engines the write takes SEL alone (DESIGN CHOICE, log entry 34). -/
def State.dbgActs (s : State) (w : Word) : Bool := F.ENG_DBG_KEY.get w = 0xD && s.running && decide (F.ENG_DBG_SEL.get w ≤ 11)

/-- R151, R169, R634: engine k is halted, and ALIVE is held low. A halt that finds a stepped wait in progress freezes it again (DESIGN CHOICE, log entry 34). -/
def State.halt (s : State) (k : Nat) : State :=
  let first := !s.ctl.aliveHeld && !s.anyHalted
  let s := s.setEng k (fun e => { e with halted := true, stepping := false })
  s.setCtl (fun c => { c with alive := false, alvStop := if first then 6 else c.alvStop })

/-- R169: engine k goes on. -/
def State.resume (s : State) (k : Nat) : State :=
  if (s.engAt k).halted then s.setEng k (fun e => { e.preempt with halted := false, stepping := false }) else s

/-- R149, R169: one step of the halted engine k; where it is idle, the entry of its lowest pending trigger begins with it. A frozen wait goes on. -/
def State.dbgStep (s : State) (k : Nat) : Except Fault State :=
  if (s.engAt k).halted && !(s.engAt k).stepping then
    let s := s.sample.setEng k Engine.preempt
    let s := s.when ((s.engAt k).mode = .idle) (·.startEngine k)
    match (s.engAt k).mode with
    | .run => match s.stepAt k with
      | .error e => .error (.undefinedStep e)
      | .ok st => s.doStep k st
    | .wait _ => .ok (s.setEng k (fun e => { e with stepping := true }))
    | .idle => .ok s
    | .stopped => .ok s
  else .ok s

/-- R178: a write of ENG_DBG by the host: SEL, then HALT, STEP and RESUME in bit order. -/
def State.dbgWrite (s : State) (w : Word) : Except Fault State :=
  if F.ENG_DBG_KEY.get w = 0xD then
    let s := s.dbgSelect w
    if s.dbgActs w then
      let k := F.ENG_DBG_SEL.get w
      let s := s.when (F.ENG_DBG_HALT.get w = 1) (·.halt k)
      match (if F.ENG_DBG_STEP.get w = 1 then s.dbgStep k else .ok s) with
      | .error e => .error e
      | .ok s => .ok (s.when (F.ENG_DBG_RESUME.get w = 1) (·.resume k))
    else .ok s
  else .ok s

/-! ### Views (R175, R180, R182) -/

/-- R182: ENG_PCk as it reads. -/
def State.engPc (s : State) (k : Nat) : Nat :=
  let e := s.engAt k
  let st := if e.mode = .stopped then 4
    else if e.halted && !e.stepping then 3
    else match e.mode with | .idle => 0 | .run => 1 | .wait _ => 2 | .stopped => 4
  8192 * st + e.pc % 4096

/-- R175: ENG_STAT as it reads. -/
def State.engStat (s : State) : Nat :=
  s.rn A.ENG_STAT / 16384 * 16384 + 8192 * s.anyHalted.toNat
    + (List.range 12).foldl (fun n k => n + 2 ^ k * ((s.engAt k).mode ≠ .stopped && s.engBusy k : Bool).toNat) 0

/-- R180: the ms left on timer t. -/
def State.timLeft (s : State) (t : Nat) : Nat := let x := s.timAt t; if x.running then x.ms - ticksMs (s.ticks - x.start) else 0

/-- R642: FLT_STAT as it reads. -/
def State.fltStat (s : State) : Nat :=
  32768 * (s.power = .fault : Bool).toNat + 16384 * s.aliveRuns.toNat + 2048 * s.ctl.alvStop + 1024 * s.ctl.holdWarn.toNat
    + (if s.running then 128 * s.ctl.pfwWarn.toNat + 64 * (s.ctl.lowReserve || s.ctl.noBattSeq).toNat + 32 * s.ctl.pfwPb.toNat + 16 * s.ctl.pfwEng.toNat else 0)
    + (List.range 4).foldl (fun n b => n + 2 ^ b * (s.fltBank b).toNat) 0

end Sys2Proof.Machine
end

