-- ==== Sys2Proof/Machine/Collector.lean ====
section
/-! DEFINITION. What ends every command: the fault collector judges the raises (R622, R628 to R630), what follows from the new state takes place, packets commit (R655), and the status word's
live bits set ATTN (R130). -/
namespace Sys2Proof.Machine

/-- R39: in the states in which it runs all the time, and while a demand stands, the fast oscillator is on. -/
def State.fastFollow (s : State) : State := s.when ((s.fastAlways || s.fastDemand) && !s.sup.fastOn) (·.setSup (fun u => { u with fastOn := true }))

/-- R45, R235, R266, R299, R369, R401, R408, R433, R443, R445, R446: what the detectors and the blocks make at once of the state that a command leaves. -/
def State.followUp (s : State) : State :=
  s.when s.aoOn (fun s =>
    (s.reserveFollow.weirFollow.drvWeirChange.phaseGuard.judgeCharger.reserveLost.precFollow.restFollow.supplyFollow).fieldFollow s.drv.vdrv)

/-- R39, R72, R87, R90: what the NVM and the fast oscillator make of it, and a state entry that no longer waits. -/
def State.followOn (s : State) : State :=
  s.when s.aoOn (fun s =>
    let s := s.when s.nvm.wbDue (fun s => (s.setNvm (fun n => { n with wbDue := false })).tryWriteBack)
    s.wbWatch.wantCopyB.finishEntry.fastFollow)

/-- R655: the packets of this step time commit. Those of a BOOT wait for the boot report (R71); without AO they are gone. -/
def State.commitAll (s : State) : State :=
  if s.power = .boot then s
  else if s.aoOn then s.commitPosted
  else { s with mrq := { s.mrq with outbox := [], opened := [] } }

/-- R630: one pass: the strongest class among the raises of this step time acts once, and what follows from the state that it leaves takes place. -/
def State.judgePass (s : State) : State :=
  let (s, l) := s.gather State.followUp 8 []
  ((s.react l).when (strongest l).isSome State.followUp).followOn

/-- Passes until nothing is raised or posted any more. -/
def State.judgeAll (s : State) (fuel : Nat) : State :=
  match fuel with
  | 0 => s
  | n + 1 => let s := s.judgePass; if s.settled then s else s.judgeAll n

/-- The end of a command: its raises act, and then its packets commit. -/
def State.settle (s : State) : State := ((s.judgeAll 16).commitAll).statusFollow.endStep

end Sys2Proof.Machine
end

