-- ==== Sys2Proof/Machine/HostRead.lean ====
section
/-! DEFINITION. What a read of the register space returns (04_host_interface.md and the register descriptions of every chapter): live words, and the side effects of RS registers. -/
namespace Sys2Proof.Machine

/-! ### Live words -/

/-- A bit list as a word: the bits of `mask` from `v`, the others from `w`. -/
def overlay (w mask v : Nat) : Nat := w.land (65535 - mask) + v.land mask

/-- R42, R46, R59: SYS_STATE as it reads. AOSRC is 1 where BATT, the higher of the two, feeds AO (R33). FASTON is always 1 when read (R56): the read is a demand of R39. -/
def State.sysState (s : State) : Nat :=
  1024 * sat 3 s.ctl.thRestarts + 256 * s.ctl.onReq.isSome.toNat + 128 * s.sup.vbk175.toNat + 64 * (100 * s.sup.lineDv < s.sup.battMv : Bool).toNat + 32
    + 16 * s.ctl.foff.toNat + s.power.code

/-- R665, R669: MRQ_STAT as it reads. -/
def State.mrqStat (s : State) : Nat :=
  32768 * s.qne.toNat + 4096 * s.qpri + 2048 * s.mrq.openCls.isSome.toNat + (s.rn A.MRQ_STAT).land 0x0600 + s.mrq.seq % 256

/-- R460: GAU_AUTHSTAT as it reads. -/
def State.authStat (s : State) : Nat := overlay (s.rn A.GAU_AUTHSTAT) 0x80FF (32768 * Config.packKeyFuse.toNat + s.authAge)

/-- R178: ENG_DBG as it reads. -/
def State.engDbg (s : State) : Nat := let k := s.g F.ENG_DBG_SEL; 16 * (decide (k ≤ 11) && (s.engAt k).halted : Bool).toNat + k

/-- R179: ENG_DBGSTEP as it reads: the step at the offset of the selected engine, and 0 where SEL selects none (DESIGN CHOICE, log entry 34). -/
def State.engDbgStep (s : State) : Nat := let k := s.g F.ENG_DBG_SEL; if k ≤ 11 then s.stepWord k else 0

/-- System, host and identity registers that are read live. -/
def State.viewSys (s : State) (a : Nat) : Option Nat :=
  if decide (2 ≤ a) && decide (a ≤ 11) then some (idWord a)
  else if a = A.SYS_STATE then some s.sysState
  else if a = A.SYS_CLK then some (overlay (s.rn a) 3 s.flock)
  else none

/-- R213, R245, R249: the live registers of domain n. UV and OV show the monitor's comparators; the effective codes stand while the domains have power states to run in (R696). -/
def State.viewDom (s : State) (n a : Nat) : Option Nat :=
  if a = A.DOM_STAT n then some (overlay (s.rn a) 0x3000 (8192 * (s.under (n - 1)).toNat + 4096 * (s.over (n - 1)).toNat))
  else if n = 9 && decide (a = A.DOM9_LSTAT) then
    some (overlay (s.rn a) 0x080F (if s.standing then 2048 * (s.limActive 9).toNat + s.ilimEff 9 else 0))
  else if n ≠ 1 && n ≠ 9 && decide (a = A.DOM_RSTAT n) then
    some (overlay (s.rn a) 0x43F8 (if s.standing then 16384 * (s.limActive n).toNat + 128 * (if n = 8 then 0 else s.fswEff n) + 8 * s.ilimEff n else 0))
  else none

/-- R216, R218: the two live registers that all domains share. -/
def State.viewDoms (s : State) (a : Nat) : Option Nat :=
  if a = A.DOM_PGSUM then some s.pgSum
  else if a = A.DOM_SEQSTAT then some (overlay (s.rn a) 0xF000 (4096 * s.ctl.onReq.getD 0))
  else if decide (0x200 ≤ a) && decide (a < 0x340) then s.viewDom ((a - 0x200) / 0x20 + 1) a
  else none

/-- R315, R325, R337, R338, R270, R274, R279, R452, R455, R460: DRIVE, the line, the weir and the gauge. MINOK and INSVC read 0 outside the states that have the converter (R696). -/
def State.viewPower (s : State) (a : Nat) : Option Nat :=
  if a = A.DRV_STAT then some (if s.standing then s.drvStat else overlay s.drvStat 0x40 0)
  else if a = A.DRV_SYNCSTAT then some s.syncStat
  else if a = A.DRV_DUTY then some s.dutyWord
  else if decide (A.DRV_IPH 0 ≤ a) && decide (a ≤ A.DRV_TRIM 5) then some (if s.phActive.testBit ((a - A.DRV_IPH 0) % 6) then s.rn a else 0)
  else if a = A.DRV_PHSTAT then some (if s.standing then s.phStat else s.rn a % 4096)
  else if a = A.LIN_STAT then some s.linStat
  else if a = A.LIN_IEFF then some s.ieffWord
  else if a = A.WEIR_STAT then some s.weirStat
  else if a = A.GAU_STAT then some s.gauStat
  else if a = A.GAU_FCC then some s.fcc
  else if a = A.GAU_AUTHSTAT then some s.authStat
  else if decide (A.GAU_SN 0 ≤ a) && decide (a ≤ A.GAU_SN 3) && !s.b F.GAU_CFG_AUTHEN then some 0
  else none

/-- R534, R562, R642, R665 to R669: the converter, the monitors, the collector and the queue. -/
def State.viewLog (s : State) (a : Nat) : Option Nat :=
  if a = A.ADC_STAT then some s.adcStat
  else if a = A.CMP_ACT then some s.monAct
  else if a = A.FLT_STAT then some s.fltStat
  else if a = A.MRQ_STAT then some s.mrqStat
  else if a = A.MRQ_FREE then some s.mrq.free
  else if decide (A.MRQ_WORDS 0 ≤ a) && decide (a ≤ A.MRQ_WORDS 3) then some (s.mrq.words (a - A.MRQ_WORDS 0))
  else if decide (A.MRQ_PKTS 0 ≤ a) && decide (a ≤ A.MRQ_PKTS 3) then some (s.mrq.count (a - A.MRQ_PKTS 0))
  else if a = A.MRQ_HEAD 0 then some (s.headWord % 65536)
  else if a = A.MRQ_HEAD 1 then some (s.headWord / 65536)
  else none

/-- R499 to R516: the Wayline; the manager's registers read 0 on another device. -/
def State.viewWay (s : State) (a : Nat) : Option Nat :=
  if !s.isManager && decide (A.WAY_MCFG ≤ a) && decide (a ≤ A.WAY_W 123) then some 0
  else if a = A.WAY_ADDR then some (if s.wayOn then s.wayAddrWord else s.rn a)
  else if a = A.WAY_ILIM then some (if s.wayOn then s.wayIlim else s.rn a)
  else if a = A.WAY_STAT then some (if s.wayOn then s.wayStat else s.rn a)
  else if a = A.WAY_LEASE then some s.leaseLeft
  else if a = A.WAY_MCOMMIT then some (sat 8191 s.committed)
  else if a = A.WAY_MPEND then some s.wayMpend
  else if a = A.WAY_MPRES 0 then some (s.wayMpres 0)
  else if a = A.WAY_MPRES 1 then some (s.wayMpres 1)
  else if a = A.WAY_MSTAT then some s.wayMstat
  else if decide (A.WAY_W 0 ≤ a) && decide (a ≤ A.WAY_W 123) then some (s.wrecWord ((a - A.WAY_W 0) / 4 + 1) ((a - A.WAY_W 0) % 4))
  else none

/-- R175, R176, R178 to R182: the engines. A clear register reads its flags. -/
def State.viewEng (s : State) (a : Nat) : Option Nat :=
  if a = A.ENG_STAT then some s.engStat
  else if a = A.ENG_FCLR 0 then some (s.rn (A.ENG_FSET 0))
  else if a = A.ENG_FCLR 1 then some (s.rn (A.ENG_FSET 1))
  else if a = A.ENG_DBG then some s.engDbg
  else if a = A.ENG_DBGSTEP 0 then some (s.engDbgStep % 65536)
  else if a = A.ENG_DBGSTEP 1 then some (s.engDbgStep / 65536)
  else if decide (A.ENG_TIM 0 ≤ a) && decide (a ≤ A.ENG_TIM 3) then some (s.timLeft (a - A.ENG_TIM 0))
  else if decide (A.ENG_PC 0 ≤ a) && decide (a ≤ A.ENG_PC 11) then some (s.engPc (a - A.ENG_PC 0))
  else none

/-- A live word of the register space, by block; none where the stored word is what reads. -/
def State.view (s : State) (a : Nat) : Option Nat :=
  if a < 0x200 then s.viewSys a
  else if a < 0x400 then s.viewDoms a
  else if a < 0x800 then s.viewPower a
  else if a < 0xE00 then s.viewLog a
  else if a < 0xF00 then s.viewWay a
  else if a < 0x1000 then s.viewEng a
  else none

/-- The word that a mapped address reads as, its side effect apart. -/
def State.viewWord (s : State) (a : Nat) : Word := match s.view a with | some v => BitVec.ofNat 16 v | none => s.rd a

/-! ### Reads with their side effects (R121, R134, R430, R527, R603) -/

/-- How a word is read: one by one through the host port or the relay port, or as one of a group latched at one instant (RD32). -/
inductive ReadMode where
  | host | relay | pair
deriving DecidableEq, Repr

/-- R134: HIF_ERR is returned, and then REJCNT clears. -/
def State.readHifErr (s : State) : Word × State := (s.rd A.HIF_ERR, s.p F.HIF_ERR_REJCNT 0)

/-- R430: GAU_ACC0 latches the upper words. -/
def State.readAcc (s : State) : Word × State := let s := s.latchAcc; (s.rd A.GAU_ACC0, s)

/-- R603, R611: word k of the RTC. -/
def State.readRtc (s : State) (m : ReadMode) (k : Nat) : Word × State :=
  match m with
  | .host => let (v, s) := s.rtcRead .host k; (BitVec.ofNat 16 v, s)
  | .relay => let (v, s) := s.rtcRead .relay k; (BitVec.ofNat 16 v, s)
  | .pair => (BitVec.ofNat 16 (rtcWord s.rtc k), s)

/-- R527, R547: half `hi` of the result of channel c. -/
def State.readRes (s : State) (m : ReadMode) (c : Nat) (hi : Bool) : Word × State :=
  match m with
  | .host => if hi then s.resHiRead .host c else s.resLoRead .host c
  | .relay => if hi then s.resHiRead .relay c else s.resLoRead .relay c
  | .pair => (s.rd (A.ADC_RES (2 * c + hi.toNat)), s)

/-- R121, R142, R498: one word read. What an unmapped address reads as is open, but the manager's block on another device, which reads 0 throughout. -/
def State.readWord (s : State) (m : ReadMode) (a : Nat) : Word × State :=
  if !s.isManager && decide (A.WAY_MCFG ≤ a) && decide (a ≤ A.WAY_W 123) then (0, s)
  else if !mapped a then let (v, s) := s.free 65536; (BitVec.ofNat 16 v, s)
  else if a = A.HIF_ERR then s.readHifErr
  else if a = A.GAU_ACC0 then s.readAcc
  else if decide (A.RTC_SEC 0 ≤ a) && decide (a ≤ A.RTC_FRAC) then s.readRtc m (a - A.RTC_SEC 0)
  else if decide (A.ADC_RES 0 ≤ a) && decide (a ≤ A.ADC_RES 127) then s.readRes m ((a - A.ADC_RES 0) / 2) ((a - A.ADC_RES 0) % 2 = 1)
  else (s.viewWord a, s)

/-- R115, R121: n words from an address on, in ascending order. -/
def State.readWords (s : State) (m : ReadMode) (a n : Nat) : List Word × State :=
  match n with
  | 0 => ([], s)
  | k + 1 =>
    let (w, s) := s.readWord m a
    let (ws, s) := s.readWords m (a + 1) k
    (w :: ws, s)

end Sys2Proof.Machine
end

