-- ==== Sys2Proof/Machine/HostWrite.lean ====
section
/-! DEFINITION. What a host write does (R14, R83, R84, R120): the keys of the WO registers, the writes that start something, and the stored fields with their runtime windows. -/
namespace Sys2Proof.Machine

/-! ### Keys (WO registers) -/

/-- The clear key that the counters share (R215, R275, R341, R392, R419, R507, R598, R646, R670). -/
def clearKey : Word := 0xC1EA#16

/-- Clear a run of words. -/
def State.zeros (s : State) (a n : Nat) : State := s.wrs a (List.replicate n 0)

/-- R59: SYS_CTRL. -/
def State.writeSysCtrl (s : State) (w : Word) : State :=
  match F.SYS_CTRL_REQ.get w with
  | 1 => s.requestState .run true
  | 2 => s.requestState .watch true
  | 3 => s.requestOff
  | _ => s

/-- R60: SYS_RESET. -/
def State.writeSysReset (s : State) (w : Word) : State := if w = 0xA5C3#16 then s.takeReset .host else s

/-- R49, R61: SYS_SHIP. -/
def State.writeSysShip (s : State) (w : Word) : State := if w = 0x5A3C#16 then s.shipKey else s

/-- R87, R94, R98, R107: SYS_LDCTRL; every write in BOOT is ignored. -/
def State.writeLdCtrl (s : State) (w : Word) : State :=
  if s.power = .boot then s
  else if w = 0xE1A5#16 then s.eraseLearned
  else if w = 0xE1F0#16 then s.eraseLog
  else if w = 0x3C96#16 then s.wantWriteBack
  else s

/-- R131, R135: HIF_ACK. -/
def State.acknowledge (s : State) : State := { s with hif := { s.hif with attn := false, chg := false, link := false } }

/-- R135. -/
def State.writeHifAck (s : State) (w : Word) : State := if w = 1#16 then s.acknowledge else s

/-- R215: DOMn_CNTCLR. -/
def State.writeDomCntclr (s : State) (n : Nat) (w : Word) : State := if w = clearKey then s.zeros (A.DOM_CNT n 0) 6 else s

/-- R313, R327: DRV_PHCTL, while DRIVE is commanded off: every phase is back in service, one that was detected and still waited for its frame edge among them. -/
def State.writePhCtl (s : State) (w : Word) : State :=
  if w = 0x5E7A#16 && !s.drvOn then (((s.p F.DRV_PHSTAT_RETIRED 0).wr A.DRV_RETCAUSE 0).setDrv (fun d => { d with det := [] })).trimFollow else s

/-- R341: DRV_CNTCLR. -/
def State.writeDrvCntclr (s : State) (w : Word) : State := if w = clearKey then s.zeros A.DRV_CNTRET 3 else s

/-- R275: LIN_CTRL. -/
def State.writeLinCtrl (s : State) (w : Word) : State := if w = 0x9C3A#16 then s.clearLatch else if w = clearKey then s.lineCounters else s

/-- R364, R383: STK_REFCTL. -/
def State.writeRefCtl (s : State) (w : Word) : State :=
  if w = 0x1E01#16 then s.restartRef 0
  else if w = 0x1E02#16 then s.restartRef 1
  else if w = 0x1E03#16 then (s.restartRef 0).restartRef 1
  else s

/-- R392: STK_CNTCLR. -/
def State.writeStkCntclr (s : State) (w : Word) : State := if w = clearKey then s.zeros (A.STK_CNT 0) 7 else s

/-- R409, R411, R419: CHG_KEY. A kick clears WDF and restarts the watchdog; the retry key ends FAULT with a new cycle due. -/
def State.writeChgKey (s : State) (w : Word) : State :=
  if w = 0xC4A9#16 then s.setChgR (fun c => { c with wdf := false, wdRun := true })
  else if w = 0xA93C#16 then (if s.chg.fault then s.setChgR (fun c => { c with fault := false, cycleDue := true }) else s)
  else if w = clearKey then s.zeros A.CHG_CNTCYC 2
  else s

/-- R449, R459: GAU_CTRL; every write in BOOT is ignored. -/
def State.writeGauCtrl (s : State) (w : Word) : State :=
  if s.power = .boot then s
  else if w = 0x6A01#16 then s.authStart
  else if w = 0x6A02#16 then s.p F.GAU_STAT_RELEARN 1
  else s

/-- R507: WAY_CNTCLR. -/
def State.writeWayCntclr (s : State) (w : Word) : State := if w = clearKey then s.zeros A.WAY_CNTCRC 2 else s

/-- R522, R523, R530, R536: ADC_CMD. -/
def State.writeAdcCmd (s : State) (w : Word) : State :=
  if w = 0xAD01#16 then s.roundStart
  else if w = 0xAD02#16 then s.calKey false
  else if w = 0xAD03#16 then s.calKey true
  else if w = 0xAD04#16 then s.injFlush
  else s

/-- R598: THM_CNTCLR. -/
def State.writeThmCntclr (s : State) (w : Word) : State := if w = clearKey then s.zeros A.THM_CNTSD 2 else s

/-- R604, R613: RTC_SETGO. -/
def State.writeSetGo (s : State) (w : Word) : State :=
  if w = 0x57E1#16 then s.rtcCapture false
  else if w = 0x57E2#16 then s.rtcCapture true
  else if w = 0x57E0#16 then s.rtcCancel
  else s

/-- R637, R647: FLT_FRCk raises the sources of its set bits once, while ARM is 1. -/
def State.writeForce (s : State) (k : Nat) (w : Word) : State :=
  if s.b F.FLT_TEST_ARM then s.each (List.range 16) (fun s i => if w.toNat.testBit i then s.raiseBy .force (16 * k + i) else s) else s

/-- R644: FLT_TEST: DRYHIT clears by a 1; ARM and DRY take values only with the key. -/
def State.writeFltTest (s : State) (w : Word) : State :=
  let s := if F.FLT_TEST_DRYHIT.get w = 1 then s.p F.FLT_TEST_DRYHIT 0 else s
  if F.FLT_TEST_KEY.get w = 0xF7 then (s.p F.FLT_TEST_DRY (F.FLT_TEST_DRY.get w)).p F.FLT_TEST_ARM (F.FLT_TEST_ARM.get w) else s

/-- R646: FLT_CNTCLR. -/
def State.writeFltCntclr (s : State) (w : Word) : State := if w = clearKey then s.zeros (A.FLT_CNT 0) 128 else s

/-- R670: MRQ_CTL. -/
def State.writeMrqCtl (s : State) (w : Word) : State :=
  if w = 0xD5C1#16 then s.flushQueue else if w = clearKey then (s.zeros (A.MRQ_DROP 0) 4).wr A.MRQ_CNTRST 0 else s

/-- R494, R498, R514: WAY_RSTCMD; on a device that is not a manager the result is undefined. -/
def State.writeRstCmd (s : State) (w : Word) : Except Fault State := if s.isManager then .ok (s.resetCommand w) else .error (.undefinedWrite A.WAY_RSTCMD)

/-- The registers whose write is a command: what a write of w does; none for any other address. -/
def State.writeKey (s : State) (a : Nat) (w : Word) : Option (Except Fault State) :=
  if a = A.HIF_ACK then some (.ok (s.writeHifAck w))
  else if a = A.SYS_CTRL then some (.ok (s.writeSysCtrl w))
  else if a = A.SYS_RESET then some (.ok (s.writeSysReset w))
  else if a = A.SYS_SHIP then some (.ok (s.writeSysShip w))
  else if a = A.SYS_LDCTRL then some (.ok (s.writeLdCtrl w))
  else if a = A.DRV_PHCTL then some (.ok (s.writePhCtl w))
  else if a = A.DRV_CNTCLR then some (.ok (s.writeDrvCntclr w))
  else if a = A.LIN_CTRL then some (.ok (s.writeLinCtrl w))
  else if a = A.STK_CMD then some (.ok (s.strokeCommand w))
  else if a = A.STK_REFCTL then some (.ok (s.writeRefCtl w))
  else if a = A.STK_CNTCLR then some (.ok (s.writeStkCntclr w))
  else if a = A.CHG_KEY then some (.ok (s.writeChgKey w))
  else if a = A.GAU_CTRL then some (.ok (s.writeGauCtrl w))
  else if a = A.ADC_CMD then some (.ok (s.writeAdcCmd w))
  else if a = A.ADC_INJ then some (.ok (s.injWrite w))
  else if a = A.THM_CNTCLR then some (.ok (s.writeThmCntclr w))
  else if a = A.RTC_SETGO then some (.ok (s.writeSetGo w))
  else if a = A.FLT_TEST then some (.ok (s.writeFltTest w))
  else if a = A.FLT_CNTCLR then some (.ok (s.writeFltCntclr w))
  else if decide (A.FLT_FRC 0 ≤ a) && decide (a ≤ A.FLT_FRC 7) then some (.ok (s.writeForce (a - A.FLT_FRC 0) w))
  else if a = A.MRQ_CTL then some (.ok (s.writeMrqCtl w))
  else if a = A.WAY_CNTCLR then some (.ok (s.writeWayCntclr w))
  else if a = A.WAY_RSTCMD then some (s.writeRstCmd w)
  else if a = A.ENG_FSET 0 then some (.ok (s.setFlags 0 w.toNat true))
  else if a = A.ENG_FSET 1 then some (.ok (s.setFlags 1 w.toNat true))
  else if a = A.ENG_FCLR 0 then some (.ok (s.setFlags 0 w.toNat false))
  else if a = A.ENG_FCLR 1 then some (.ok (s.setFlags 1 w.toNat false))
  else if a = A.ENG_TRIG then some (.ok (s.engTrigger w))
  else if a = A.ENG_DBG then some (s.dbgWrite w)
  else match domains.find? (fun n => A.DOM_CNTCLR n = a) with
    | some n => some (.ok (s.writeDomCntclr n w))
    | none => none

/-! ### Stored fields (R14, R83, R84) -/

/-- R84: one clamped field of the word written, limited to its window; the flag says that the value was changed. Without an image there is no window. -/
def State.clampField (s : State) (acc : Word × Bool) (f : Fld) : Word × Bool :=
  match s.nvm.windows.find? (fun x => x.1 = f.addr && x.2.1 = f.lsb && x.2.2.1 = f.width) with
  | none => acc
  | some (_, _, width, sg, lo, hi) =>
    let v := f.get acc.1
    if winVal sg width v < winVal sg width lo then (f.put acc.1 lo, true)
    else if winVal sg width hi < winVal sg width v then (f.put acc.1 hi, true)
    else acc

/-- R84: a word written to an address, with its clamped fields limited, and whether one was. -/
def State.clampWord (s : State) (a : Nat) (w : Word) : Word × Bool := ((clampedFields.map (·.1)).filter (·.addr = a)).foldl s.clampField (w, false)

/-- R14: the word that a host write leaves: RW bits as written, W1C bits cleared and W1S bits set by a 1, every other bit as it was. -/
def storedWord (a : Nat) (old w : Word) : Word :=
  let rw := BitVec.ofNat 16 (rwMask a)
  let w1c := BitVec.ofNat 16 (w1cMask a)
  let w1s := BitVec.ofNat 16 (w1sMask a)
  (old &&& ~~~rw &&& ~~~(w1c &&& w)) ||| (w &&& rw) ||| (w &&& w1s)

/-- R409: the charger's fields that the watchdog's fallback holds. -/
def chgHeld (a : Nat) : Bool := a = A.CHG_CTRL || a = A.CHG_ICHG || a = A.CHG_VREG

/-- R409, R498, R513: a host write that is ignored, or whose result the spec calls undefined, before anything is stored: none where the write goes on. -/
def State.writeBarred (s : State) (a : Nat) (w : Word) : Option (Except Fault State) :=
  if s.chg.wdf && chgHeld a then some (.ok s)
  else if a = A.WAY_MBUDGET && !s.isManager then some (.error (.undefinedWrite a))
  else if a = A.DRV_PHEN && s.drvOn && decide (F.DRV_PHEN_EN.get w ≠ s.g F.DRV_PHEN_EN) then some (.error (.undefinedWrite a))
  else none

/-- R221, R232, R296, R298, R492, R529, R553, R606: what storing a word starts. `old` is the word before. -/
def State.afterStore (s : State) (a : Nat) (old : Word) : State :=
  if a = A.DRV_VSET then s.retarget false
  else if a = A.DRV_PHEN then s.trimFollow
  else if a = A.CMP_PWR then
    let new := (s.rd a).toNat
    ((s.wr a old).setMonPower new true).setMonPower (65535 - new) false
  else if a = A.WAY_STAT then s.linkFollow (s.wr a old)
  else if a = A.RTC_ALMCFG then
    s.each [0, 1] (fun s k => if s.almEn k && !old.toNat.testBit k then s.almArm k else s)
  else if decide (A.RTC_A0 0 ≤ a) && decide (a ≤ A.RTC_A0 7) then s.almArm 0
  else if decide (A.RTC_A1 0 ≤ a) && decide (a ≤ A.RTC_A1 7) then s.almArm 1
  else match (List.range 8).find? (fun k => A.ADC_WINCFG k = a) with
    | some k => s.winRestart k
    | none =>
      match ([2, 3, 4, 5, 6, 7, 8, 10] : List Nat).find? (fun n => A.DOM_VSET n = a) with
      | some n => s.setVset n (s.g (F.DOM_VSET_CODE n))
      | none => s

/-- R14, R83, R84, R120, R361, R640: a host write that no key register takes. -/
def State.storeWord (s : State) (a : Nat) (w : Word) : Except Fault State :=
  match s.writeBarred a w with
  | some r => r
  | none =>
    let (v, hit) := s.clampWord a w
    let old := s.rd a
    let new := storedWord a old v
    if rwMask a ≠ 0 && !wordOk a new then .error (.undefinedWrite a)
    else if decide (A.STK_REC 0 ≤ a) && decide (a ≤ A.STK_REC 32767) && s.b F.STK_RECSTAT_CAPT then
      let (x, s) := s.free 65536
      .ok (s.wn a x)
    else .ok (((s.wr a new).afterStore a old).when hit (·.p F.SYS_IMGSTAT_CLAMP 1))

/-- R71, R120, R142: a host write of one word. In BOOT a write of a C-class register is ignored. -/
def State.hostWrite (s : State) (a : Nat) (w : Word) : Except Fault State :=
  if !mapped a then .error (.unmappedAddress a)
  else if s.power = .boot && survivalOf a = .config then .ok s
  else match s.writeKey a w with
    | some r => r
    | none => s.storeWord a w

/-- R120: the words of a WR, in ascending address order. -/
def State.hostWrites (s : State) (a : Nat) (ws : List Word) : Except Fault State :=
  match ws with
  | [] => .ok s
  | w :: r => match s.hostWrite a w with | .error e => .error e | .ok s => s.hostWrites (a + 1) r

end Sys2Proof.Machine
end

