-- ==== Sys2Proof/Machine/Frames.lean ====
section
/-! DEFINITION. Host frames (R110 to R132): their checks in order of time, their effects and their replies. -/
namespace Sys2Proof.Machine

/-- Change the host interface's record. -/
def State.setHif (s : State) (f : Hif → Hif) : State := { s with hif := f s.hif }

/-- R126, R133: the selected protocol version. -/
def State.version (s : State) : Nat := s.g F.HIF_VER_VER

/-- R25: the HSEL strap chooses I2C. -/
def State.isI2c (s : State) : Bool := decide (1 ≤ s.g F.SYS_STRAP_HSEL) && decide (s.g F.SYS_STRAP_HSEL ≤ 4)

/-- R25, R112: the 7-bit target address in I2C, 0x4A to 0x4D. -/
def State.i2cAddr (s : State) : Nat := 0x49 + s.g F.SYS_STRAP_HSEL

/-- R110, R112: the host's transfer selects this device: every SPI frame does, and an I2C transfer with its address. -/
def State.selects (s : State) (target : Nat) : Bool := !s.isI2c || target = s.i2cAddr

/-- R129: the status word, with the PERR of the frame before. -/
def State.statusWord (s : State) (perr : Bool) : Word :=
  BitVec.ofNat 16 (32768 * s.hif.attn.toNat + s.liveBits + 1024 * s.qne.toNat + 256 * s.qpri + 32 * (s.mrq.seq % 8) + 16 * s.hif.chg.toNat + 8 * s.hif.link.toNat + perr.toNat)

/-- R118: the CRC of a reply: the status word and the data. -/
def replyCrc (status : Word) (words : List Word) : Byte := crc8 ((status :: words).flatMap wordBytes)

/-! ### Checks (R115, R119) -/

/-- R115: the operations of the protocol. -/
inductive Op where
  | nop | rd | wr | rdb | qpop | ack | rd32 | rly | hello | select
deriving DecidableEq, Repr

/-- R115: the opcodes. -/
def opOf (code : Nat) : Option Op :=
  match code with
  | 0x00 => some .nop | 0x01 => some .rd | 0x02 => some .wr | 0x03 => some .rdb | 0x10 => some .qpop
  | 0x11 => some .ack | 0x20 => some .rd32 | 0x21 => some .rly | 0xF0 => some .hello | 0xF1 => some .select
  | _ => none

/-- R115: the first version that has the operation. -/
def Op.since (o : Op) : Nat :=
  match o with
  | .nop => 1 | .rd => 1 | .wr => 1 | .hello => 1 | .select => 1 | .rdb => 2 | .qpop => 2 | .ack => 2 | .rd32 => 3 | .rly => 3

/-- R114: a read-type operation. -/
def Op.reads (o : Op) : Bool :=
  match o with
  | .rd => true | .rdb => true | .qpop => true | .rd32 => true | .hello => true | .nop => false | .wr => false | .ack => false | .rly => false | .select => false

/-- R115: the addresses allowed. -/
def Op.addrOk (o : Op) (a : Nat) : Bool :=
  match o with
  | .nop => a = 0 | .ack => a = 0 | .hello => a = 0 | .select => a = 0 | .qpop => a = 0 || a = 1
  | .rd => true | .wr => true | .rdb => true | .rd32 => true | .rly => true

/-- R115, R119: the counts allowed in version v from address a on. -/
def Op.cntOk (o : Op) (v a n : Nat) : Bool :=
  let upTo (lo hi : Nat) : Bool := decide (lo ≤ n) && decide (n ≤ hi)
  match o with
  | .nop => n = 0 | .ack => n = 0 | .hello => n = 3 | .select => n = 1
  | .rd => upTo 1 (if v = 1 then 4 else 16) | .wr => upTo 1 (if v = 1 then 4 else 16)
  | .rdb => upTo 1 255 | .qpop => upTo 2 64 | .rly => upTo 1 16
  | .rd32 => upTo 1 8 && decide (a + 2 * n ≤ 65536)

/-- R115: host data words. -/
def Op.dataWords (o : Op) (n : Nat) : Nat :=
  match o with
  | .wr => n | .rly => 1 | .select => 1
  | .nop => 0 | .rd => 0 | .rdb => 0 | .qpop => 0 | .ack => 0 | .rd32 => 0 | .hello => 0

/-- R115: reply data words of 16 bits. -/
def Op.replyWords (o : Op) (n : Nat) : Nat :=
  match o with
  | .rd => n | .rdb => n | .hello => 3 | .qpop => 2 * n | .rd32 => 2 * n
  | .nop => 0 | .wr => 0 | .ack => 0 | .rly => 0 | .select => 0

/-- R118: the command and the reply carry a CRC. -/
def Op.crc (o : Op) (v : Nat) : Bool := decide (2 ≤ v) || o = .hello || o = .select

/-- A word of two bytes, high byte first. -/
def beNat (hi lo : Byte) : Nat := 256 * hi.toNat + lo.toNat

/-- The words of a run of bytes; a byte left over is not one. -/
def beWords (bs : List Byte) : List Word :=
  match bs with
  | hi :: lo :: r => BitVec.ofNat 16 (beNat hi lo) :: beWords r
  | _ => []

/-- A frame that has passed its checks. -/
structure Command where
  op   : Op
  addr : Nat
  cnt  : Nat
  data : List Word
deriving DecidableEq, Repr

/-- R122, R125, R128: the checks on the data of a frame: RLY by a manager with no other bits, SELECT with its key and a version. A RLY that no manager
got is turned away with its data, before the command CRC and the end of the frame (DESIGN CHOICE, log entry 40: R119 gives reason 9 no place in its order). -/
def State.dataCheck (s : State) (o : Op) (d : List Word) : Option Nat :=
  let w := (d.headD 0).toNat
  match o with
  | .rly => if decide (32 ≤ w) then some 7 else if !s.isManager then some 9 else none
  | .select => if w / 256 ≠ 0x5E || w / 4 % 64 ≠ 0 || w % 4 = 0 then some 8 else none
  | .nop => none | .rd => none | .wr => none | .rdb => none | .qpop => none | .ack => none | .rd32 => none | .hello => none

/-- R115, R118, R119, R125: the checks of a frame, in order of time. -/
def State.checkFrame (s : State) (code : Byte) (f : Frame) : Except Nat Command :=
  if f.tooSoon && !s.isI2c && !s.sup.fastOn then .error 6
  else if f.opCut then .error 5
  else match opOf code.toNat with
    | none => .error 1
    | some o =>
      let v := s.version
      if v < o.since then .error 2
      else match f.body with
        | ah :: al :: r =>
          let a := beNat ah al
          if !o.addrOk a then .error 7
          else match r with
            | c :: r =>
              let n := c.toNat
              if !o.cntOk v a n then .error 4
              else
                let d := beWords (r.take (2 * o.dataWords n))
                if d.length < o.dataWords n then .error 5
                else match s.dataCheck o d with
                  | some e => .error e
                  | none =>
                    let bad := match o.crc v, r.drop (2 * o.dataWords n) with
                      | false, _ => none
                      | true, [] => some 5
                      | true, b :: _ => if b = crc8 (code :: f.body.take (3 + 2 * o.dataWords n)) then none else some 3
                    match bad with
                    | some e => .error e
                    | none => if o = .rly && s.b F.HIF_RLYSTAT_BUSY then .error 9 else .ok ⟨o, a, n, d⟩
            | [] => .error 5
        | _ => .error 5

/-! ### Rejections (R119, R122, R132, R134, R627) -/

/-- R134, R627: a rejected frame is counted, and source 99 raises once in a second that brings more than 16. -/
def State.reject (s : State) (code : Nat) : State :=
  let s := (s.p F.HIF_ERR_CODE code).p F.HIF_ERR_REJCNT (sat 255 (s.g F.HIF_ERR_REJCNT + 1))
  let sec := s.ticks / 32768
  let n := if s.hif.rejSec = sec then s.hif.rejCnt + 1 else 1
  let s := s.setHif (fun h => { h with perr := true, rejSec := sec, rejCnt := n })
  if n = 17 then s.raise 99 else s

/-- The operation that a frame names, where its opcode byte is whole and known. -/
def frameOp (code : Byte) (f : Frame) : Option Op := if f.opCut then none else opOf code.toNat

/-- The count byte of a frame; 0 where the frame ended before it. -/
def frameCnt (f : Frame) : Nat := (f.body.getD 2 0).toNat

/-- R119: the reply to a rejected frame. A read-type frame gets 0xFF for every data byte that its count asks for, and the complement of the CRC over the bytes sent. -/
def State.rejectReply (s : State) (code : Byte) (f : Frame) (e : Nat) (status : Word) : Reply :=
  match frameOp code f with
  | none => ⟨status, [], if 2 ≤ s.version then some (replyCrc status []) else none, some e⟩
  | some o =>
    let ws := List.replicate (o.replyWords (frameCnt f)) (0xFFFF#16)
    let c := replyCrc status ws
    ⟨status, ws, if o.crc s.version then some (if o.reads then ~~~c else c) else none, some e⟩

/-! ### The bytes on the port (R116, R117) -/

/-- R114: the bytes of a reply: the status word, the data and the CRC. -/
def Reply.bytes (r : Reply) : List Byte := (r.status :: r.words).flatMap wordBytes ++ r.crc.toList

/-- R116, R117: what the device sends in a transfer of n bytes: the reply as laid out on the port, and 0xFF beyond its end. -/
def sentBytes (layout : List Byte) (n : Nat) : List Byte := (layout ++ List.replicate n 0xFF#8).take n

/-- R114, R118: the bytes of a command. -/
def Op.cmdBytes (o : Op) (v n : Nat) : Nat := 4 + 2 * o.dataWords n + (o.crc v).toNat

/-- R110, R116: the whole bytes that an SPI host clocks while HCS_N is low, for a command of `cmd` bytes: those it sends, and those of the reply after a whole command. -/
def clockedBytes (f : Frame) (cmd head : Nat) : Nat :=
  let sent := if f.opCut then 0 else 1 + f.body.length
  if sent < cmd || f.taken = 0 then sent else max sent (head + f.taken)

/-- R116: HSDO in SPI: the status word during the first two bytes, 0x00 for the rest of the command and for a read-type frame's turnaround byte, the reply's data and CRC, then 0xFF; no byte beyond
those that the host clocks. What follows the status word after an opcode that names no operation has no length: only the status word is recorded. -/
def State.spiOut (s : State) (code : Byte) (f : Frame) (r : Reply) : List Byte :=
  match frameOp code f with
  | none => (wordBytes r.status).take (clockedBytes f 0 0)
  | some o =>
    let head := o.cmdBytes s.version (frameCnt f) + o.reads.toNat
    sentBytes (r.bytes.take 2 ++ List.replicate (head - 2) 0x00#8 ++ r.bytes.drop 2) (clockedBytes f (o.cmdBytes s.version (frameCnt f)) head)

/-- R116, R117: the bytes that the device sends in a frame: in I2C those of the read part. -/
def State.frameOut (s : State) (code : Byte) (f : Frame) (r : Reply) : List Byte := if s.isI2c then sentBytes r.bytes (2 + f.taken) else s.spiOut code f r

/-- A reply is sent. -/
def State.answer (s : State) (r : Reply) (out : List Byte) : State := s.setHif (fun h => { h with reply := r, out := out })

/-! ### Effects (R120 to R128) -/

/-- R493: RLY takes effect: a relay starts, or fails at once. -/
def State.relayStart (s : State) (worker addr cnt : Nat) : State :=
  let s := (((s.p F.HIF_RLYSTAT_BUSY 1).p F.HIF_RLYSTAT_WORKER worker).p F.HIF_RLYSTAT_COUNT cnt).wn A.HIF_RLYADDR addr
  let s := (s.zeros (A.HIF_RLYBUF 0) 16).setWay (fun w => { w with relay := some ⟨worker, addr, cnt, 0⟩ })
  let r := s.wrec worker
  if worker = 0 || r.st ≠ 1 then s.relayEnd 3 else if !r.w2 then s.relayEnd 4 else s

/-- R115, R120, R125, R128, R131: the effect of a write-type frame. -/
def State.writeEffect (s : State) (c : Command) : Except Fault State :=
  let w := (c.data.headD 0).toNat
  match c.op with
  | .wr => s.hostWrites c.addr c.data
  | .ack => .ok s.acknowledge
  | .rly => .ok (s.relayStart w c.addr c.cnt)
  | .select => .ok (s.p F.HIF_VER_VER (w % 4))
  | .nop => .ok s
  | .rd => .ok s | .rdb => .ok s | .qpop => .ok s | .rd32 => .ok s | .hello => .ok s

/-- R123, R124: a packet as the words of its reply: cut or filled with zero words to n 32-bit words, each as two words, bits 31:16 first. -/
def packetWords (p : List (BitVec 32)) (n : Nat) : List Word :=
  (((p ++ List.replicate n 0).take n).flatMap (fun (w : BitVec 32) => [BitVec.ofNat 16 (w.toNat / 65536), BitVec.ofNat 16 w.toNat]))

/-- R123: QPOP: the head packet, popped where the whole reply has been transferred and the packet is no longer than the count. -/
def State.popReply (s : State) (n taken : Nat) : List Word × State :=
  match s.mrq.head with
  | none => (packetWords [] n, s)
  | some p => (packetWords p.words n, if decide (p.words.length ≤ n) && decide (4 * n + 1 ≤ taken) then s.popHead else s)

/-- R127: the words of HELLO. -/
def State.helloWords (s : State) : List Word := [0x6410#16, 0x000E#16, BitVec.ofNat 16 s.version]

/-- R121, R123, R124, R127: the data of a read-type frame of which `taken` bytes were transferred: words whose first bit was sent. -/
def State.readEffect (s : State) (c : Command) (taken : Nat) : List Word × State :=
  let sent (n : Nat) : Nat := min n ((taken + 1) / 2)
  match c.op with
  | .rd => s.readWords .host c.addr (sent c.cnt)
  | .rdb => s.readWords .host c.addr (sent c.cnt)
  | .rd32 => s.readWords .pair c.addr (sent (2 * c.cnt))
  | .qpop => if c.addr = 0 then s.popReply c.cnt taken else (packetWords s.hif.popped c.cnt, s)
  | .hello => (s.helloWords, s)
  | .nop => ([], s) | .wr => ([], s) | .ack => ([], s) | .rly => ([], s) | .select => ([], s)

/-! ### A frame -/

/-- The reply to an accepted frame: its status word, its data, and their CRC where R118 has one. -/
def goodReply (status : Word) (ws : List Word) (crc : Bool) : Reply := ⟨status, ws, if crc then some (replyCrc status ws) else none, none⟩

/-- An accepted frame: PERR of the next reply is 0 (R132). -/
def State.accept (s : State) : State := s.setHif (fun h => { h with perr := false })

/-- R110 to R132: one frame. The status word is sampled before its effect in SPI and for a read. For a write-type frame and a rejected one in I2C it is sampled at the address acknowledge of the read part, bit
times after the step time of the frame's effect, or of its rejection: it shows what that step time made (DEDUCED, log entry 40). An I2C frame that ends without a read part gets no reply;
a read-type command that fails a check and ends so is rejected, not abandoned (DESIGN CHOICE, log entry 40). -/
def State.runFrame (s : State) (code : Byte) (f : Frame) : Except Fault State :=
  if !s.hostAlive || !s.selects f.target then .ok s
  else
    let perr := s.hif.perr
    let silent := s.isI2c && f.noRead
    let send (t : State) (r : Reply) : State := if silent then t else t.answer r (s.frameOut code f r)
    match s.checkFrame code f with
    | .error e =>
      let s := s.demandFast
      let t := s.reject e
      .ok (send t (s.rejectReply code f e (if s.isI2c then t.settle.statusWord perr else s.statusWord perr)))
    | .ok c =>
      let s := s.demandFast
      let crc := c.op.crc s.version
      let status := s.statusWord perr
      if c.op.reads then
        if silent then .ok s
        else
          let (ws, t) := s.readEffect c f.taken
          .ok (send t.accept (goodReply status ws crc))
      else match s.writeEffect c with
        | .error e => .error e
        | .ok t => .ok (send t.accept (goodReply (if s.isI2c then t.settle.statusWord perr else status) [] crc))

/-- R117: a status poll, in I2C, of which the host reads `taken` bytes. -/
def State.poll (s : State) (target taken : Nat) : State :=
  if s.hostAlive && s.isI2c && s.selects target then
    let s := s.demandFast
    let r := goodReply (s.statusWord s.hif.perr) [] (decide (2 ≤ s.version))
    s.accept.answer r (sentBytes r.bytes taken)
  else s

/-- R113: SCL has been held low for more than 35 ms in a frame; SDA is released and the frame is abandoned. -/
def State.busTimeout (s : State) : State :=
  if s.hostAlive && s.isI2c then (s.demandFast.reject 10).answer ⟨0, [], none, some 10⟩ [] else s

/-- One word read through the host port in a frame of its own, its reply data recorded (an accepted frame in PERR's sense: log entry 40). -/
def State.readOne (s : State) (a : Nat) : State :=
  if s.hostAlive then
    let s := s.demandFast
    let status := s.statusWord s.hif.perr
    let (w, t) := s.readWord .host a
    let r := goodReply status [w] (decide (2 ≤ s.version))
    t.accept.answer r r.bytes
  else s

end Sys2Proof.Machine
end

