-- ==== Sys2Proof/Machine/CmdPower.lean ====
section
/-! DEFINITION. The commands on the supplies, the clocks, BOOT, resets and the power states: the events of 02_supplies_states_resets.md, one definition each. An event that cannot occur in the present state changes
nothing (log entry 5). -/
namespace Sys2Proof.Machine

/-- What a meaning answers. -/
abbrev Result := Host.Outcome State Fault Refusal

/-- A command that takes place: its effect, and what ends every command. -/
def done (s : State) : Result := .next s.settle

/-- A command whose effect may be undefined. -/
def ran (r : Except Fault State) : Result :=
  match r with
  | .ok s => done s
  | .error e => .fault e

/-- A host write that a row of its own stands for: it acts where the host interface is alive (R36, R42), and the frame that carries it starts the fast oscillator (R39). The row is the write's
effect, not the frame: PERR and the reply of the frame before stay (DESIGN CHOICE, log entry 40). -/
def hostDone (s : State) (f : State → State) : Result := if s.hostAlive then done (f s.demandFast) else done s

/-- The same for a write whose result may be undefined. -/
def hostRan (s : State) (f : State → Except Fault State) : Result := if s.hostAlive then ran (f s.demandFast) else done s

/-- R194: what the block does where no command waits: the next 100 µs slot of a shutdown in progress, else nothing. -/
def State.idle (s : State) : State := if s.ctl.seqOff.isEmpty then s else s.haltSlot.settle

/-! ### Supplies -/

/-- PREREG_START: R33, R36, R43. -/
def execPreregStart (lineDv battMv : Nat) (s : State) : Result := done (s.preregStart lineDv battMv)

/-- AO_READY: R23, R33, R34, R252, R396. -/
def execAoReady (straps : Straps) (pack : Bool) (s : State) : Result := done (s.aoReady straps pack)

/-- PREREG_STOP: R34, R36. -/
def execPreregStop (lineDv battMv : Nat) (s : State) : Result := done (s.preregStop lineDv battMv)

/-- AO_BROWNOUT: R33, R34, R52, R610. -/
def execAoBrownout (s : State) : Result := done s.brownOut

/-- VBKUP_LEVEL_CHANGE: R34. -/
def execVbkupLevelChange (mv : Nat) (s : State) : Result := done (s.vbkupLevel mv)

/-- VIOH_LOSS: R36, R126, R627. -/
def execViohLoss (s : State) : Result := done s.viohLoss

/-- VIOH_RETURN: R36: the host balls, STROKE and ALIVE are active again. -/
def execViohReturn (s : State) : Result := done (s.setSup (fun u => { u with vioh := true }))

/-! ### Clocks -/

/-- CRYSTAL_STABLE: R38, R41. -/
def execCrystalStable (s : State) : Result := done s.crystalStable

/-- LF_XTAL_FAIL: R38, R41. -/
def execLfXtalFail (s : State) : Result := done s.crystalFail

/-- FAST_OSC_START: R39: a demand has started the fast oscillator. -/
def execFastOscStart (s : State) : Result := done s.demandFast

/-- FAST_OSC_IDLE_STOP: R39: it stops in the states in which it runs on demand, where no demand stands. -/
def execFastOscIdleStop (s : State) : Result := done (s.when (s.aoOn && !s.fastAlways && !s.fastDemand) (·.setSup (fun u => { u with fastOn := false })))

/-- FAST_OSC_FAIL: R39, R634. -/
def execFastOscFail (s : State) : Result := done s.fastFail

/-! ### BOOT (R71); its steps wait while a reset shutdown is in progress (R53) -/

/-- R71: BOOT awaits the read of step k. -/
def State.bootAwaits (s : State) (k : Nat) : Bool := s.power = .boot && s.ctl.resetting.isNone && s.nvm.bootStep = k

/-- R23: the straps are read for the reset or the wake that led to this BOOT. -/
def State.readStraps (s : State) (t : Straps) : State := s.when s.ctl.strapDue (fun s => (s.latchStraps t).setCtl (fun c => { c with strapDue := false }))

/-- IMAGE_READ_DONE: R23, R72 to R84, R252, R497, R639, R698. The straps have been read before it. The comparator of VOV judges LINE by the entry just loaded. -/
def execImageReadDone (copyA copyB : List Byte) (straps : Straps) (s : State) : Result :=
  if s.bootAwaits 0 then ran (((s.readStraps straps).applyImage copyA copyB).map (fun s => s.lineOv s.sup.lineDv)) else done s

/-- LEARNED_READ_DONE: R91 to R93. -/
def execLearnedReadDone (slotA slotB : List Byte) (s : State) : Result := if s.bootAwaits 1 then done (s.resolveLearned slotA slotB) else done s

/-- FFLOG_READ_DONE: R44, R71, R97, R629. -/
def execFflogReadDone (ring : List Byte) (s : State) : Result := if s.bootAwaits 2 then done (s.scanLog ring).endBoot else done s

/-! ### Resets -/

/-- PIN_RESET: R52, R53. -/
def execPinReset (s : State) : Result := done (s.takeReset .pin)

/-- RESET_SHUTDOWN_END: R53: a host or manager reset goes on to BOOT's steps; a pin reset waits for MR_N. -/
def execResetShutdownEnd (s : State) : Result :=
  done (s.when (s.ctl.resetting.isSome && s.ctl.resetting ≠ some .pin) (·.setCtl (fun c => { c with resetting := none })))

/-- MR_N_RELEASE: R53. -/
def execMrNRelease (s : State) : Result :=
  done (s.setCtl (fun c => { c with mrLow := false, resetting := if c.resetting = some .pin then none else c.resetting }))

/-- SYS_RESET: R52, R60. -/
def execSysReset (w : Word) (s : State) : Result := hostDone s (·.writeSysReset w)

/-! ### Requests -/

/-- SYS_SHIP: R49, R61. -/
def execSysShip (w : Word) (s : State) : Result := hostDone s (·.writeSysShip w)

/-- SYS_CTRL_REQ_RUN: R43, R59, R198: SYS_CTRL.REQ = 1. -/
def execSysCtrlReqRun (s : State) : Result := hostDone s (·.writeSysCtrl 1#16)

/-- SYS_CTRL_REQ_WATCH: R43, R59, R347: SYS_CTRL.REQ = 2. -/
def execSysCtrlReqWatch (s : State) : Result := hostDone s (·.writeSysCtrl 2#16)

/-- SYS_CTRL_REQ_HIBERNATE: R59, R197 to R199: SYS_CTRL.REQ = 3. -/
def execSysCtrlReqHibernate (s : State) : Result := hostDone s (·.writeSysCtrl 3#16)

/-- MIN_OFF_EXPIRY: R198. -/
def execMinOffExpiry (s : State) : Result := done s.minOff

/-- PB_PRESS: R44, R50, R54, R200. -/
def execPbPress (s : State) : Result := done s.pbPress

/-- PB_RELEASE: R54. -/
def execPbRelease (ms : Nat) (s : State) : Result := done (s.pbRelease ms)

/-- PB_LONG_WARNING: R54. -/
def execPbLongWarning (s : State) : Result := done s.pbWarn

/-- PB_FORCE_OFF: R54, R197, R199. -/
def execPbForceOff (s : State) : Result := done s.pbForceOff

/-- PB_SHIP_HOLD: R49, R412. -/
def execPbShipHold (s : State) : Result := done s.pbShipHold

/-- R62: the mode of a wake pin takes an edge in this direction. -/
def edgeTakes (mode : Nat) (rising : Bool) : Bool := mode = 3 || (mode = 1 && rising) || (mode = 2 && !rising)

/-- WAKE_PIN_EDGE: R50, R62. -/
def execWakePinEdge (pin : Nat) (rising : Bool) (s : State) : Result :=
  let mode := if pin = 1 then F.SYS_WAKECFG_WAKE1_MODE.get s.wakeWord else F.SYS_WAKECFG_WAKE2_MODE.get s.wakeWord
  done (s.when (edgeTakes mode rising) (·.wakeSource (if pin = 1 then 3 else 4)))

/-- PFW_HOLD_EXPIRY: R45, R203. -/
def execPfwHoldExpiry (cause : HoldFor) (s : State) : Result := done (s.holdEnds cause)

/-! ### Thermal shutdown -/

/-- THERMAL_SHUTDOWN: R46, R583, R584, R589. -/
def execThermalShutdown (k : Nat) (s : State) : Result := done (s.thermalShutdown k)

/-- SHUTDOWN_RELEASE: R583, R589. -/
def execShutdownRelease (k : Nat) (s : State) : Result := done (s.shutdownRelease k)

/-- THERMAL_RESTART: R46, R47. -/
def execThermalRestart (s : State) : Result := done s.thermalRestart

/-- THRST_WINDOW_EXPIRY: R46: a restart is more than 10 minutes old. -/
def execThrstWindowExpiry (s : State) : Result := done (s.setCtl (fun c => { c with thRestarts := c.thRestarts - 1 }))

/-- CONTROLLER_WATCHDOG: R170, R454, R483: the gauge controller runs in the states with engines, the link controller in FAULT too. -/
def execControllerWatchdog (gauge : Bool) (s : State) : Result :=
  if gauge then done (s.when s.running (fun s => s.gaugeRestart.raise 106))
  else done (s.when s.wayOn (fun s => s.linkRestart.raise 107))

end Sys2Proof.Machine
end

