-- ==== Sys2Proof/Machine/CmdAdc.lean ====
section
/-! DEFINITION. The commands on the measurement converter (14_adc.md): one definition each. -/
namespace Sys2Proof.Machine

/-! ### Rounds and requests -/

/-- ADC_ROUND_START: R522, R536. -/
def execAdcRoundStart (w : Word) (s : State) : Result := hostDone s (·.writeAdcCmd w)

/-- ADC_INJ: R523, R537. -/
def execAdcInj (w : Word) (s : State) : Result := hostDone s (·.injWrite w)

/-- INJ_FLUSH: R523, R536. -/
def execInjFlush (w : Word) (s : State) : Result := hostDone s (·.writeAdcCmd w)

/-- ADC_CONVERSION_START: R358, R359, R518, R521, R557. -/
def execAdcConversionStart (recent : Bool) (stream : Option Nat) (s : State) : Result := done (s.when s.running (·.schedule recent stream))

/-- ADC_CONVERSION_DONE: R525, R526, R528, R529, R557, R573. -/
def execAdcConversionDone (slice code late : Nat) (s : State) : Result := done (s.when s.running (·.convDone slice code late))

/-- ADC_RES_LO_READ: R121, R527. -/
def execAdcResLoRead (c : Nat) (s : State) : Result := done (s.readOne (A.ADC_RES (2 * c)))

/-- ADC_RES_HI_READ: R121, R527. -/
def execAdcResHiRead (c : Nat) (s : State) : Result := done (s.readOne (A.ADC_RES (2 * c + 1)))

/-! ### Calibration -/

/-- CAL_ZERO: R530, R532, R536. -/
def execCalZero (w : Word) (s : State) : Result := hostDone s (·.writeAdcCmd w)

/-- CAL_FULL: R531, R532, R536. -/
def execCalFull (w : Word) (s : State) : Result := hostDone s (·.writeAdcCmd w)

/-- CAL_STEP_START: R532. -/
def execCalStepStart (s : State) : Result := done (s.when s.running State.calStart)

/-- CAL_STEP_END: R530 to R532. -/
def execCalStepEnd (sumA sumB : Nat) (s : State) : Result := done (s.calEnd sumA sumB)

/-- BG_CAL_START: R533. -/
def execBgCalStart (s : State) : Result := done s.bgStart

/-- BG_CAL_DONE: R533. -/
def execBgCalDone (sum : Nat) (s : State) : Result := done (s.bgEnd sum)

end Sys2Proof.Machine
end

