-- ==== Sys2Proof/Machine/CmdBattery.lean ====
section
/-! DEFINITION. The commands on the battery and the charger (11_backup_charger.md): one definition each. What follows from them in the charger's state is judged at the end of every command (R400). -/
namespace Sys2Proof.Machine

/-! ### Presence -/

/-- BATTERY_INSERTED: R396, R398, R453. -/
def execBatteryInserted (battMv : Nat) (s : State) : Result := done (s.when s.aoOn (·.batteryIn battMv))

/-- BATTERY_REMOVED: R266, R369, R396, R397, R453. -/
def execBatteryRemoved (s : State) : Result := done (s.when s.aoOn State.batteryOut)

/-- PRESENCE_PROBE: R396: the load of 10 ms changes nothing by itself; a removal that it brings out is an event of its own. -/
def execPresenceProbe (s : State) : Result := done s

/-! ### The charge -/

/-- CHARGE_PHASE_CHANGE: R400, R401. -/
def execChargePhaseChange (battMv : Nat) (s : State) : Result := done (s.when s.aoOn (·.phaseChange battMv))

/-- CHARGE_TERMINATION: R402, R432. -/
def execChargeTermination (s : State) : Result := done s.chargeDone

/-- TOPOFF_END: R402. -/
def execTopoffEnd (s : State) : Result := done (s.when (s.g F.CHG_STAT_STATE = 7) (·.setChgR (fun c => { c with phase := 8 })))

/-- RECHARGE_START: R401, R402. -/
def execRechargeStart (s : State) : Result := done (s.when (s.g F.CHG_STAT_STATE = 8) State.startCycle)

/-! ### Timers and faults -/

/-- PRECHARGE_TIMER_EXPIRY: R406, R410. -/
def execPrechargeTimerExpiry (s : State) : Result :=
  done (s.when (s.g F.CHG_STAT_STATE = 3 || s.g F.CHG_STAT_STATE = 4) (·.chargerFault F.CHG_FLT_PRETMR 74))

/-- SAFETY_TIMER_EXPIRY: R406, R410. -/
def execSafetyTimerExpiry (s : State) : Result :=
  done (s.when (s.g F.CHG_STAT_STATE = 5 || s.g F.CHG_STAT_STATE = 6 || s.g F.CHG_STAT_STATE = 7) (·.chargerFault F.CHG_FLT_SAFETMR 73))

/-- CHG_BAT_OV: R410: the charger stops switching. -/
def execChgBatOv (s : State) : Result :=
  done (s.when (s.aoOn && s.present && !s.chg.batOv) (fun s => ((s.setChgR (fun c => { c with batOv := true })).p F.CHG_FLT_BATOV 1).raise 72))

/-- CHG_BAT_OV_RECOVER: R410. -/
def execChgBatOvRecover (s : State) : Result := done (s.setChgR (fun c => { c with batOv := false }))

/-- CHG_STAGE_OC: R394, R410. -/
def execChgStageOc (s : State) : Result := done (s.when s.chg.sw State.stageOverCurrent)

/-- CHG_STAGE_RESTART: R410. -/
def execChgStageRestart (s : State) : Result := done (s.setChgR (fun c => { c with ocStop := false }))

/-- R410: V(LSRC) is too low for the charger while CHGOK is 1; the source raises once per qualification. -/
def State.vinTooLow (s : State) : State :=
  if s.line.chgOk && !(s.chg.vinLow && s.chg.vinRaised) then
    let s := s.when (!s.chg.vinRaised) (fun s => (s.p F.CHG_FLT_VINLOW 1).raise 79)
    s.setChgR (fun c => { c with vinLow := true, vinRaised := true })
  else s

/-- CHG_VIN_LOW: R400, R410. -/
def execChgVinLow (s : State) : Result := done s.vinTooLow

/-- CHG_VIN_LOW_RECOVER: R410. -/
def execChgVinLowRecover (s : State) : Result := done (s.setChgR (fun c => { c with vinLow := false }))

/-- CHG_WATCHDOG_EXPIRY: R409, R410. -/
def execChgWatchdogExpiry (s : State) : Result := done s.chgWatchdog

/-! ### Keys and the share -/

/-- CHG_WD_KICK: R409, R419. -/
def execChgWdKick (w : Word) (s : State) : Result := hostDone s (·.writeChgKey w)

/-- CHG_FAULT_RETRY: R411, R419. -/
def execChgFaultRetry (w : Word) (s : State) : Result := hostDone s (·.writeChgKey w)

/-- CHG_CNT_CLEAR: R419, R428. -/
def execChgCntClear (w : Word) (s : State) : Result := hostDone s (·.writeChgKey w)

/-- CHARGER_ALLOWANCE_UPDATE: R394, R401, R406 to R408, R426. -/
def execChargerAllowanceUpdate (cs : Int) (battMv vlsrc : Nat) (lsense vloop : Int) (s : State) : Result :=
  done (s.when s.aoOn (·.shareLine cs battMv vlsrc lsense vloop))

end Sys2Proof.Machine
end

