-- ==== Sys2Proof/Machine/CmdClock.lean ====
section
/-! DEFINITION. The commands on the throttle and the real-time clock (16_thermal.md, 17_rtc.md): one definition each. -/
namespace Sys2Proof.Machine

/-! ### Throttle -/

/-- THROTTLE_ENFORCE: R581, R582. -/
def execThrottleEnforce (s : State) : Result := done s.enforceThrottle

/-- THROTTLE_RELEASE: R581. -/
def execThrottleRelease (s : State) : Result := done s.releaseThrottle

/-- THM_CNTCLR: R598. -/
def execThmCntclr (w : Word) (s : State) : Result := hostDone s (·.writeThmCntclr w)

/-! ### The RTC -/

/-- R34, R412: the RTC island is powered. -/
def State.rtcAlive (s : State) : Bool := s.aoFed || s.sup.vbk150

/-- R50, R600 to R608: one rising LF edge; an alarm that fires may wake the device. -/
def State.lfTick (s : State) : State :=
  if s.rtcAlive then
    let (fired, s) := s.lfEdge
    s.each fired (fun s a => s.wakeSource (6 + a))
  else s

/-- RTC_TICK: R600, R602, R606, R608. -/
def execRtcTick (s : State) : Result := done s.lfTick

/-- RTC_SET: R604, R605, R613. -/
def execRtcSet (w : Word) (s : State) : Result := hostDone s (·.writeSetGo w)

/-- RTC_STEP: R604, R605, R613. -/
def execRtcStep (w : Word) (s : State) : Result := hostDone s (·.writeSetGo w)

/-- RTC_CANCEL: R604, R613. -/
def execRtcCancel (w : Word) (s : State) : Result := hostDone s (·.writeSetGo w)

/-- RTC_PENDING_APPLY: R604, R607: the LF edge that finds a set or step pending. -/
def execRtcPendingApply (s : State) : Result := done (s.when s.rtcx.pend.isSome State.lfTick)

/-- RTC_SEC0_READ: R121, R603. -/
def execRtcSec0Read (s : State) : Result := done (s.readOne (A.RTC_SEC 0))

/-- RTC_FRAC_READ: R121, R603. -/
def execRtcFracRead (s : State) : Result := done (s.readOne A.RTC_FRAC)

end Sys2Proof.Machine
end

