-- ==== Sys2Proof/Machine/CmdDomain.lean ====
section
/-! DEFINITION. The commands on the domains, their monitors and their regulators (06_domains_and_sequencing.md, 07_house_regulators.md, 15_window_monitors.md): one definition each. -/
namespace Sys2Proof.Machine

/-! ### Soft-start and power-good -/

/-- R224, R233: the soft-start of an integrated domain ends; tracking rewrites its thresholds. -/
def State.softStartEnd (s : State) (n : Nat) : State :=
  if n ≠ 1 && s.cmdOn n && (s.domAt n).ss then (s.setDom n (fun d => { d with ss := false, ssEnded := true })).track n else s

/-- SOFT_START_END: R188, R224, R233, R236. -/
def execSoftStartEnd (n : Nat) (s : State) : Result := done (s.softStartEnd n)

/-- R186, R188, R190, R191, R555: the conditions of power-good hold for domain n. -/
def State.mayBeGood (s : State) (n : Nat) : Bool :=
  s.running && s.cmdOn n && s.b (F.DOM_CFG_USED n) && (s.domAt n).ssEnded && !s.maskedDom n && !s.blanked (n - 1) && (!s.under (n - 1) || (n = 1 && s.weirOn)) && !s.over (n - 1)

/-- R188, R189, R208: domain n becomes power-good; a reset output that it holds stays low for 1 ms more. -/
def State.becomeGood (s : State) (n : Nat) : State :=
  if s.mayBeGood n && !s.pg n then
    (s.p (F.DOM_STAT_PG n) 1).setDom n (fun d => { d with wasGood := true, uvRep := false, fresh := s.rstMap n 0 || s.rstMap n 1 || s.rstMap n 2 })
  else s

/-- POWER_GOOD: R188, R189. -/
def execPowerGood (n : Nat) (s : State) : Result := done (s.becomeGood n)

/-- RESET_OUTPUT_RELEASE: R208: the 1 ms of the domains that output i names have passed. -/
def execResetOutputRelease (i : Nat) (s : State) : Result :=
  done (s.each domains (fun s n => if s.rstMap n i && s.pg n then s.setDom n (fun d => { d with fresh := false }) else s))

/-! ### Monitors -/

/-- R554: the high side of domain n switches. SENSE has none, and LOCK's does in pull-in and hold. -/
def State.turnsOn (s : State) (n : Nat) : Bool :=
  if n = 1 then s.pwmRises else if n = 9 then s.lockHolds else isReg n && n ≠ 8 && s.cmdOn n && ((s.domAt n).ss || (s.domAt n).ssEnded)

/-- R237, R239, R554: what the power switches have done since the command before, edge by edge, and where the LOCK switch stands now. -/
def State.switched (s : State) (sw : Switching) : State := (s.each (sw.turnOns.filter s.turnsOn) State.highSideOn).lockSwitch sw.lockOn

/-- COMPARATOR_CHANGE: R187, R188, R202, R205, R239, R551, R554. -/
def execComparatorChange (k mv : Nat) (sw : Switching) (s : State) : Result := done ((s.switched sw).comparator offNow k mv)

/-- UNDER_VOLTAGE_REPORT: R188, R189, R192, R202, R205. -/
def execUnderVoltageReport (n : Nat) (s : State) : Result := done (s.when (s.uvDue n && !s.sampled (n - 1)) (fun s => s.reportDom offNow n false))

/-- BLANKING_END: R239, R554, R555. The edges came before the end, so a window that they start or restart ends here too. -/
def execBlankingEnd (k mv : Nat) (sw : Switching) (s : State) : Result := done ((s.switched sw).blankEnd offNow k mv)

/-- SUPERVISION_TICK: R192, R239, R556: the sampled monitors judge, and a band change since the tick before takes its tick code. -/
def execSupervisionTick (inputs : List (Nat × Nat)) (sw : Switching) (s : State) : Result := done ((s.switched sw).supervise offNow inputs |>.when s.running State.takeTick)

/-- GENERAL_TIMER_EXPIRY: R554, R568: a blanking window of the powered monitors with BSRC 5. -/
def execGeneralTimerExpiry (s : State) : Result := done (s.blankEdge (fun b _ => b = 5))

/-! ### Regulators -/

/-- R222, R235: the input of domain n stands at a level in mV; that of HOUSE, LOCK and FIELD is VDRV, which FIELD's mode follows too. -/
def State.inputLevel (s : State) (n mv : Nat) : State :=
  let s := s.when (n = 2 || n = 9 || n = 10) (·.setDrv (fun d => { d with vdrv := mv }))
  let u := lockoutJudge n (s.lockedOut n) mv
  if s.running && n ≠ 1 && u != s.lockedOut n then s.lockoutChange offNow n u else s

/-- INPUT_LOCKOUT_CHANGE: R222, R232. -/
def execInputLockoutChange (n mv : Nat) (s : State) : Result := done (s.inputLevel n mv)

/-- DISCHARGE_END: R225, R301: the discharge path opens. -/
def execDischargeEnd (n : Nat) (s : State) : Result :=
  done (if n = 1 then s.setDrv (fun d => { d with disch := false }) else if n = 9 then s else s.p (F.DOM_RSTAT_DISCH n) 0)

/-- R237, R554: the LOCK switch, which conducted, turns off for the rest of a period; where it was off before, a new period has turned it on. -/
def State.lockChop (s : State) : State := (s.lockSwitch true).lockSwitch false

/-- R230, R237, R249: the current limit of an integrated domain acts; in pull-in or hold LOCK's switch turns off for the rest of the period. -/
def State.limitActs (s : State) (n : Nat) : State :=
  let t := s.ticks
  (s.setDom n (fun d => { d with limTick := some t })).when (n = 9 && s.lockHolds) State.lockChop

/-- CURRENT_LIMIT_ACTS: R230, R237, R249. -/
def execCurrentLimitActs (n : Nat) (s : State) : Result := done (s.when (n ≠ 1 && s.cmdOn n) (·.limitActs n))

/-- DVS_SETPOINT_WRITE: R84, R221, R232. -/
def execDvsSetpointWrite (n : Nat) (w : Word) (s : State) : Result := hostRan s (·.hostWrite (A.DOM_VSET n) w)

/-- DVS_TARGET_REACHED: R232, R233: the thresholds follow, and the settle time begins. -/
def execDvsTargetReached (n : Nat) (s : State) : Result :=
  done (s.when (isDvs n && decide ((s.domAt n).slew = .slewing)) (fun s => (s.track n).setDom n (fun d => { d with slew := .settling })))

/-- R190, R232, R662: the settle time has passed: MASKED clears, SLEWDONE sets, and the packet is posted where PKT asks for it. -/
def State.dvsDone (s : State) (n : Nat) : State :=
  let s := (s.unmask offNow n).p (F.DOM_RSTAT_SLEWDONE n) 1
  s.when (s.b (F.DOM_SLEW_PKT n)) (·.post (.slewDone n (s.g (F.DOM_VACT_CODE n))))

/-- DVS_SLEW_DONE: R190, R232. -/
def execDvsSlewDone (n : Nat) (s : State) : Result := done (s.when (isDvs n && decide ((s.domAt n).slew = .settling)) (·.dvsDone n))

/-! ### LOCK -/

/-- LOCK_PULLIN_END: R236, R554: V_PI, a level of VDRV, is sampled, and the hold begins. -/
def execLockPullinEnd (vdrv : Nat) (s : State) : Result :=
  done (s.when (s.cmdOn 9 && s.g F.DOM9_LSTAT_PHASE = 1) (fun s =>
    (({ s with lock := { s.lock with vpi := vdrv }, drv := { s.drv with vdrv := vdrv } } : State).p F.DOM9_LSTAT_PHASE 2).lockEdge))

/-- R237: the LOCK switch is turned off by its short-circuit threshold; 16 periods in a row latch it off. -/
def State.lockShort (s : State) (consecutive : Bool) : State :=
  if s.cmdOn 9 && s.lockHolds then
    let n := if consecutive then s.lock.scCount + 1 else 1
    let s := ({ s with lock := { s.lock with scCount := n } } : State).p F.DOM9_LSTAT_SCEVT 1
    if 16 ≤ n then ((s.lockSwitch true).p F.DOM9_LSTAT_SCLATCH 1).lockDemag true else s.lockChop
  else s

/-- LOCK_SHORT_CIRCUIT: R237. -/
def execLockShortCircuit (consecutive : Bool) (s : State) : Result := done (s.lockShort consecutive)

/-- LOCK_DEMAG_END: R238. -/
def execLockDemagEnd (s : State) : Result := done (s.when (s.g F.DOM9_LSTAT_PHASE = 3) (·.p F.DOM9_LSTAT_PHASE 0))

/-! ### Counters and the programs' limits -/

/-- DOM_CNTCLR: R215. -/
def execDomCntclr (n : Nat) (w : Word) (s : State) : Result := hostDone s (·.writeDomCntclr n w)

/-- PUMAX_EXPIRY: R195, R217: source 30, once per POWER-UP; code 0 sets no limit. -/
def execPumaxExpiry (s : State) : Result :=
  done (s.when (s.power = .powerUp && !s.ctl.puRaised && s.g F.DOM_SEQCFG_PUMAX ≠ 0) (fun s => (s.setCtl (fun c => { c with puRaised := true })).raise 30))

/-- PDMAX_EXPIRY: R194, R195. -/
def execPdmaxExpiry (s : State) : Result := done s.powerDownTimeout

end Sys2Proof.Machine
end

