-- ==== Sys2Proof/Machine/CmdDrive.lean ====
section
/-! DEFINITION. The commands on the DRIVE converter (09_drive_converter.md): one definition each. -/
namespace Sys2Proof.Machine

/-! ### The frame (R283 to R294) -/

/-- R283, R339: the dead times of the present band come into effect at a frame edge. -/
def State.takeDeadTimes (s : State) : State := s.wn A.DRV_DTACT (256 * s.bandByte 19 + s.bandByte 18)

/-- R285, R306, R307: a phase is shed or re-added at a frame edge, and the angles and the device offset follow; while shedding is suspended every shed phase is active again. A change of the balanced phases resets the trims (R296). -/
def State.frameAngles (s : State) : State :=
  let s := (s.setShed (if s.drv.shedHold then 0 else s.drv.shedNext)).trimFollow
  s.setDrv (fun d => { d with angles := s.phActive, ofs := s.drvOffset })

/-- R309: the sum of the phase currents agrees with iout, or does not; after 32 frames of agreement source 55 may raise again. -/
def State.sumFrame (s : State) (agrees : Bool) : State :=
  s.setDrv (fun d => if agrees then { d with sumOk := d.sumOk + 1, sumRaised := d.sumRaised && decide (d.sumOk + 1 < 32) } else { d with sumOk := 0 })

/-- R287, R322: in MODE 0 the frame runs free. -/
def State.syncFree (s : State) : State :=
  if s.g F.DRV_SYNC_MODE = 1 then s
  else ((s.p F.DRV_SYNCSTAT_LOCK 0).p F.DRV_SYNCSTAT_PERIOD 0).setDrv (fun d => { d with lockCnt := 0, syncGone := false, pull := 0 })

/-- R554: the first PWM edge of a frame, where one rises in it, starts blanking windows; those of its other phases come with the events on the monitors that they precede (Switching). -/
def State.frameBlank (s : State) : State := s.when s.pwmRises (·.turnOn 1)

/-- R284: one frame edge, while DRIVE is commanded on. -/
def State.driveFrame (s : State) (vdrv : Nat) (dcs lsense : Int) (vlsrc : Nat) (sumAgrees sample : Bool) : State :=
  if s.drvOn then
    let s := s.setDrv (fun d => { d with vdrv := vdrv, vlsrc := vlsrc })
    let s := (((s.takeDeadTimes.frameAngles).sumFrame sumAgrees).syncFree).moveVref
    let iout := s.ioutOf dcs
    let iin := s.iinOf lsense
    let s := s.when s.regulates (·.controlLaw iout iin)
    let s := s.when sample (·.holdMeasures vdrv iout iin)
    s.streamFrame.frameBlank
  else s

/-- DRIVE_FRAME: R283 to R285, R291 to R294, R303, R306, R309, R333, R335, R554. -/
def execDriveFrame (vdrv : Nat) (dcs lsense : Int) (vlsrc : Nat) (sumAgrees sample : Bool) (s : State) : Result :=
  done (s.driveFrame vdrv dcs lsense vlsrc sumAgrees sample)

/-- BALANCE_UPDATE: R296, R333, R337. -/
def execBalanceUpdate (cs : List Int) (dcs : Int) (s : State) : Result := done (s.when s.drvOn (·.balance (cs.map s.iphOf) (s.ioutOf dcs)))

/-! ### Synchronisation (R287, R288) -/

/-- R322: the measured period, in fast-clock periods of 10.42 ns; one that does not fit the field is open. -/
def State.putPeriod (s : State) (period : Nat) : State :=
  let (n, s) := s.roundOpen ((period : Rat) * 96 / 1000)
  if n.toNat < 1024 then s.p F.DRV_SYNCSTAT_PERIOD n.toNat else
    let (f, s) := s.free 1024
    s.p F.DRV_SYNCSTAT_PERIOD f

/-- R287: a SYNC_IN period in ns is within 10 % of the nominal period DIV ÷ 96 MHz. -/
def State.inPullRange (s : State) (period : Nat) : Bool :=
  let nom := 1000 * s.g F.DRV_FSW_DIV
  decide (9 * nom ≤ 960 * period) && decide (960 * period ≤ 11 * nom)

/-- R287: SYNC_IN out of range: the lock and the correction of the frame are open. -/
def State.syncOpen (s : State) : State :=
  let (l, s) := s.choice
  let (n, s) := s.free 65
  let (c, s) := s.free 201
  let (p, s) := s.free 1024
  ((s.pb F.DRV_SYNCSTAT_LOCK l).p F.DRV_SYNCSTAT_PERIOD p).setDrv (fun d => { d with lockCnt := n, pull := (c : Int) - 100, syncGone := false })

/-- R287: a rising edge of SYNC_IN with its phase error in 0.01°. -/
def State.syncEdge (s : State) (err : Int) (period : Nat) : State :=
  if s.drvOn && s.g F.DRV_SYNC_MODE = 1 then
    if s.inPullRange period then
      let n := if err.natAbs < 200 then min 64 (s.drv.lockCnt + 1) else 0
      let s := s.setDrv (fun d => { d with lockCnt := n, pull := clamp (-100) 100 err, syncGone := false })
      let s := if 500 < err.natAbs then s.p F.DRV_SYNCSTAT_LOCK 0 else if n = 64 then s.p F.DRV_SYNCSTAT_LOCK 1 else s
      s.putPeriod period
    else s.syncOpen
  else s

/-- SYNC_IN_EDGE: R41, R287, R288, R290, R322. -/
def execSyncInEdge (err : Int) (period : Nat) (s : State) : Result := done (s.syncEdge err period)

/-- R288: the sync is lost, once for each loss. -/
def State.syncLost (s : State) : State :=
  if s.drvOn && s.g F.DRV_SYNC_MODE = 1 && !s.drv.syncGone then
    let s := s.setDrv (fun d => { d with syncGone := true, lockCnt := 0, pull := 0 })
    let s := ((s.p F.DRV_SYNCSTAT_LOCK 0).p F.DRV_SYNCSTAT_LOST 1).p F.DRV_SYNCSTAT_PERIOD 0
    (s.inc A.DRV_CNTSYNC).raise 54
  else s

/-- SYNC_LOSS: R288. -/
def execSyncLoss (s : State) : Result := done s.syncLost

/-! ### Limits (R302 to R305) -/

/-- R302, R312: the current exceeds the fast limit of phase k: DRV_IPHSC, and on the DRIVE shunt, for a phase in duty mirror, as many times as phases are active. -/
def State.fastLimited (s : State) (k : Nat) (cs : Int) : Bool :=
  let lim : Rat := (s.g F.DRV_IPHSC_ILIM : Rat) / 10
  if s.mirrored k then decide (lim * (ones6 s.phActive : Rat) < s.ioutOf cs) else decide (lim < s.iphOf cs)

/-- DRIVE_FAST_LIMIT: R7, R302: the limit of phase k acted now. -/
def execDriveFastLimit (k : Nat) (cs : Int) (s : State) : Result :=
  done (s.when (s.switches k && s.fastLimited k cs) (fun s => let t := s.ticks; s.setDom 1 (fun d => { d with limTick := some t })))

/-- R304: hiccup, in OCMODE 1 and 2: no phase switches until it ends. -/
def State.hiccup (s : State) (k : Nat) : State :=
  if s.regulates && inMask s.phActive k && (s.g F.DRV_OCCFG_OCMODE = 1 || s.g F.DRV_OCCFG_OCMODE = 2) then
    let s := (s.p F.DRV_STAT_MODE 5).p F.DRV_STAT_LIMBY 0
    let s := ((s.p F.DRV_STAT_NEG 0).wn A.DRV_DUTY 0).setDrv Drive.clear
    (s.inc A.DRV_CNTHIC).raise 52
  else s

/-- HICCUP_ENTRY: R304. -/
def execHiccupEntry (k : Nat) (s : State) : Result := done (s.hiccup k)

/-- R190, R299, R304: the converter restarts as a switch-on; a slew that the hiccup met is over, and the supervision that it masked is back. -/
def State.hiccupOver (s : State) : State :=
  let s := s.when (s.maskedDom 1) (fun s => s.unmask offNow 1)
  s.when s.drvOn State.drvDecide

/-- HICCUP_END: R299, R304. -/
def execHiccupEnd (s : State) : Result := done (s.when (s.drvOn && s.g F.DRV_STAT_MODE = 5) State.hiccupOver)

/-- DRIVE_OVERLOAD: R305: once until the demand leaves the ceiling. -/
def execDriveOverload (s : State) : Result :=
  done (s.when (s.regulates && s.g F.DRV_STAT_LIMBY = 1 && !s.drv.ovlRaised) (fun s => (s.setDrv (fun d => { d with ovlRaised := true })).raise 53))

/-! ### Light-load shedding (R306, R307) -/

/-- R284, R306: shedding acts while the frame runs, whether or not a phase switches, and no change waits for its frame edge. -/
def State.mayShed (s : State) : Bool := s.drvOn && s.b F.DRV_SHED_EN && !s.drv.shedHold && s.drv.shedNext = s.g F.DRV_PHSTAT_SHED

/-- R328: ISHED in A. -/
def State.ished (s : State) : Rat := (s.g F.DRV_SHED_ISHED : Rat) / 10

/-- R306, R311: iout has stayed below 0.8 × (A − 1) × ISHED: from the next frame edge on the highest-numbered active phase is shed, where more than MINACT are active, and MINACT remain that no detection takes
away. -/
def State.shedPhase (s : State) (iout : Rat) : State :=
  let a := s.phActive
  let left := s.phRemain.land (63 - 2 ^ Nat.log2 a)
  if s.mayShed && decide (s.g F.DRV_SHED_MINACT < ones6 a) && decide (s.g F.DRV_SHED_MINACT ≤ ones6 left) && decide (10 * iout < 8 * ((ones6 a : Rat) - 1) * s.ished) then
    s.setDrv (fun d => { d with shedNext := d.shedNext.lor (2 ^ Nat.log2 a) })
  else s

/-- PHASE_SHED: R306, R328. -/
def execPhaseShed (dcs : Int) (s : State) : Result := done (s.shedPhase (s.ioutOf dcs))

/-- R306: iout has exceeded A × ISHED: from the next frame edge on the lowest-numbered shed phase that is in service is active again. -/
def State.readdPhase (s : State) (iout : Rat) : State :=
  if s.mayShed && decide ((ones6 s.phActive : Rat) * s.ished < iout) then
    match (List.range 6).find? (fun k => s.phSvc.testBit k && (s.g F.DRV_PHSTAT_SHED).testBit k) with
    | some k => s.setDrv (fun d => { d with shedNext := d.shedNext - 2 ^ k })
    | none => s
  else s

/-- PHASE_READD: R306, R328. -/
def execPhaseReadd (dcs : Int) (s : State) : Result := done (s.readdPhase (s.ioutOf dcs))

/-- SHEDDING_RESUME: R307: SHEDT has passed since the stroke ended or the pre-arm was cancelled. -/
def execSheddingResume (s : State) : Result := done (s.when (!s.strokeActive) (·.setDrv (fun d => { d with shedHold := false })))

/-! ### Phase faults (R308 to R313) -/

/-- OPEN_PHASE_DETECT: R308, R310. -/
def execOpenPhaseDetect (k iout : Nat) (s : State) : Result := done (s.when (s.mayBeOpen k iout) (·.detectPhase k 1 0 iout))

/-- SENSE_FAIL_DETECT: R309, R310, R312. -/
def execSenseFailDetect (k test iout : Nat) (s : State) : Result := done (s.when (s.maySenseFail k test) (·.detectPhase k 2 test iout))

/-- SENSE_SUM_FAIL: R309: once until the sum has agreed again for 32 frames. -/
def execSenseSumFail (s : State) : Result :=
  done (s.when (s.drvOn && !s.drv.sumRaised) (fun s => (s.setDrv (fun d => { d with sumRaised := true, sumOk := 0 })).raise 55))

/-- R310 to R312, R360, R362: the detected phases among `ks` leave together at a frame edge; an active stroke's recorder marks each. -/
def State.retireAt (s : State) (ks : List Nat) : State :=
  let ds := s.drv.det.filter (fun d => ks.contains d.phase)
  if s.drvOn && !ds.isEmpty then
    let s := s.retirePhases ks
    s.when s.strokeActive (fun s => (s.each ds (fun s _ => s.marker 8)).setStk (fun x => { x with retire := true }))
  else s

/-- PHASE_RETIRE: R303, R310 to R312, R360. -/
def execPhaseRetire (ks : List Nat) (s : State) : Result := done (s.retireAt ks)

/-- PHASE_REINSTATE: R313, R327. -/
def execPhaseReinstate (w : Word) (s : State) : Result := hostDone s (·.writePhCtl w)

/-! ### Target, start and slew (R297 to R299) -/

/-- R298: a soft-start that a new setpoint has left above its target has ended, and the reference slews down at the maximum slope. -/
def State.ssSlew (s : State) : State :=
  ((s.p (F.DOM_STAT_MASKED 1) 1).setDom 1 (fun d => { d with slew := .slewing })).setDrv (fun d => { d with fast := true, up := false })

/-- R298, R299: the soft-start ends: the reference stands at the target, or the weir's takeover is complete. -/
def State.drvSoftStartEnd (s : State) : State :=
  let v := s.vTarget
  let onLine := s.g F.DRV_STAT_MODE = 2 && decide (v ≤ s.drv.vref)
  let onBatt := s.g F.DRV_STAT_MODE = 4 && s.weirOn && !s.b F.WEIR_STAT_TKLIM
  if s.drvOn && (s.domAt 1).ss && (onLine || onBatt) then
    let slews := onLine && s.drv.ssRet && decide (v < s.drv.vref)
    let s := (s.setDom 1 (fun d => { d with ss := false, ssEnded := true })).setDrv (fun d => { d with vref := if slews then d.vref else v, fast := false, ssRet := false })
    (s.when onLine (·.p F.DRV_STAT_MODE 3)).when slews State.ssSlew
  else s

/-- DRIVE_SOFT_START_END: R299. -/
def execDriveSoftStartEnd (s : State) : Result := done s.drvSoftStartEnd

/-- DRIVE_SETPOINT_WRITE: R84, R297, R298, R316: a host write of DRV_VSET. -/
def execDriveSetpointWrite (w : Word) (s : State) : Result := hostRan s (·.hostWrite A.DRV_VSET w)

/-- R298: VDRV is within 2 % of the target in effect. -/
def State.nearTarget (s : State) : Bool :=
  let v := s.vTarget
  let x : Rat := (s.drv.vdrv : Rat) / 1000
  decide (98 * v ≤ 100 * x) && decide (100 * x ≤ 102 * v)

/-- DRIVE_TARGET_REACHED: R298: the reference stands at the final target, and VDRV near it or TMAX has passed: SETTLE begins. -/
def execDriveTargetReached (tmax : Bool) (s : State) : Result :=
  done (s.when (s.drvOn && decide ((s.domAt 1).slew = .slewing) && decide (s.drv.vref = s.vTarget) && (tmax || s.nearTarget)) (·.setDom 1 (fun d => { d with slew := .settling })))

/-- R190, R298, R662: SETTLE has passed. -/
def State.driveSlewEnd (s : State) : State :=
  let s := ((s.unmask offNow 1).setDrv (fun d => { d with fast := false })).p F.DRV_STAT_SLEWDONE 1
  s.when (s.b F.DRV_SLEW_PKT) (·.post (.slewDone 1 (s.g F.DRV_VACT_CODE)))

/-- DRIVE_SLEW_DONE: R190, R298. -/
def execDriveSlewDone (s : State) : Result := done (s.when (s.drvOn && decide ((s.domAt 1).slew = .settling)) State.driveSlewEnd)

/-- DRV_CNTCLR: R341. -/
def execDrvCntclr (w : Word) (s : State) : Result := hostDone s (·.writeDrvCntclr w)

end Sys2Proof.Machine
end

