-- ==== Sys2Proof/Machine/CmdEngine.lean ====
section
/-! DEFINITION. The commands on the waymark engines (05_waymark_engines.md): one definition each. A step row acts where engine k is at such a step; on another step it changes nothing. -/
namespace Sys2Proof.Machine

/-! ### Starting and ending -/

/-- R146: an engine that starts within its turn leaves the step time in progress open. -/
def State.keepStep (s : State) (k : Nat) : State := s.setCtl (fun c => { c with stepNow := c.stepEng.filter (fun j => decide (j < k)) })

/-- ENGINE_START: R146, R147, R149. -/
def execEngineStart (k : Nat) (s : State) : Result := done (s.when (s.mayStart k) (fun s => (s.keepStep k).startEngine k))

/-- END: R43, R59, R150, R194, R197, R198: SYS's END ends the power-up or power-down program. -/
def execEngEnd (k : Nat) (s : State) : Result := ran (s.engRow k (fun s st => if st = .end_ then some (.ok (s.endProgram k)) else none))

/-! ### ENABLE (R155) -/

/-- An ENABLE of the kind a row names. -/
def State.enableRow (s : State) (k kind : Nat) : Except Fault State :=
  s.engRow k (fun s st => match st with | .enable kd mask => if kd = kind then some (s.doEnable k kd mask) else none | _ => none)

/-- ENABLE_DOMAIN: R155, R188, R193, R299. -/
def execEnableDomain (k : Nat) (s : State) : Result := ran (s.enableRow k 0)

/-- ENABLE_SEQUENCE: R148, R155. -/
def execEnableSequence (k : Nat) (s : State) : Result := ran (s.enableRow k 1)

/-- ENABLE_RESET_RELEASE: R155, R208. -/
def execEnableResetRelease (k : Nat) (s : State) : Result := ran (s.enableRow k 2)

/-- ENABLE_MONITOR: R155, R553. -/
def execEnableMonitor (k : Nat) (s : State) : Result := ran (s.enableRow k 3)

/-- ENABLE_SHED_SET: R155, R206, R207. -/
def execEnableShedSet (k : Nat) (s : State) : Result := ran (s.enableRow k 4)

/-! ### DISABLE (R155) -/

/-- A DISABLE of the kind a row names. -/
def State.disableRow (s : State) (k kind : Nat) : Except Fault State :=
  s.engRow k (fun s st => match st with | .disable kd mask nodis => if kd = kind then some (s.doDisable k kd mask nodis) else none | _ => none)

/-- DISABLE_DOMAIN: R155, R193, R225, R301. -/
def execDisableDomain (k : Nat) (s : State) : Result := ran (s.disableRow k 0)

/-- DISABLE_SEQUENCE: R148, R149, R155. -/
def execDisableSequence (k : Nat) (s : State) : Result := ran (s.disableRow k 1)

/-- DISABLE_RESET: R155, R208. -/
def execDisableReset (k : Nat) (s : State) : Result := ran (s.disableRow k 2)

/-- DISABLE_MONITOR: R155, R553. -/
def execDisableMonitor (k : Nat) (s : State) : Result := ran (s.disableRow k 3)

/-- DISABLE_SHED_SET: R155, R206. -/
def execDisableShedSet (k : Nat) (s : State) : Result := ran (s.disableRow k 4)

/-! ### SET, waits and flow (R156 to R161, R163, R164) -/

/-- SET: R156, R157. -/
def execSet (k : Nat) (s : State) : Result := ran (s.engRow k (fun s st => match st with | .set i v => some (s.doSet k i v) | _ => none))

/-- WAIT: R158. -/
def execWait (k : Nat) (s : State) : Result := ran (s.engRow k (fun s st => match st with | .wait _ n => some (.ok (s.doWait k n)) | _ => none))

/-- WAIT_EXPIRY: R158. -/
def execWaitExpiry (k : Nat) (s : State) : Result := ran (s.waitRow k .time (fun s _ => some (s.advance k 1)))

/-- R146, R165: the pins as sampled at the start of the step time. -/
def State.setPins (s : State) (p : PinSample) : State :=
  let s := { s with pins := p }
  s.when p.fresh (·.setCtl (fun c => { c with stepEng := none }))

/-- R159: a WAITC step in the present sample. -/
def State.waitcRow (s : State) (k : Nat) : Except Fault State :=
  s.engRow k (fun s st => match st with | .waitc inv c _ => some (.ok (s.doWaitc k inv c)) | _ => none)

/-- WAITC: R159, R165. -/
def execWaitc (k : Nat) (pins : PinSample) (s : State) : Result := ran ((s.setPins pins).waitcRow k)

/-- R159: a WAITC in progress whose condition holds in the present sample. -/
def State.waitcMet (s : State) (k : Nat) : Except Fault State :=
  s.waitRow k .cond (fun s st => match st with | .waitc inv c _ => if s.holds inv c then some (s.advance k 2) else none | _ => none)

/-- WAITC_CONDITION_MET: R159, R165. -/
def execWaitcConditionMet (k : Nat) (pins : PinSample) (s : State) : Result := ran ((s.setPins pins).waitcMet k)

/-- WAITC_TIMEOUT: R159: TIMEOUT 0 sets no timeout. -/
def execWaitcTimeout (k : Nat) (s : State) : Result :=
  ran (s.waitRow k .cond (fun s st => match st with | .waitc _ _ t => if t = 0 then none else some (s.advance k 1) | _ => none))

/-- R160: a CHECK step in the present sample. -/
def State.checkRow (s : State) (k : Nat) : Except Fault State :=
  s.engRow k (fun s st => match st with | .check inv act stop c op => some (s.doCheck k inv act stop c op) | _ => none)

/-- CHECK: R160, R165. -/
def execCheck (k : Nat) (pins : PinSample) (s : State) : Result := ran ((s.setPins pins).checkRow k)

/-- R161: a JUMP step in the present sample. -/
def State.jumpRow (s : State) (k : Nat) : Except Fault State :=
  s.engRow k (fun s st => match st with | .jump inv en c target => some (s.doJump k inv en c target) | _ => none)

/-- JUMP: R161, R165. -/
def execJump (k : Nat) (pins : PinSample) (s : State) : Result := ran ((s.setPins pins).jumpRow k)

/-- SYNC: R163. -/
def execSync (k : Nat) (s : State) : Result := ran (s.engRow k (fun s st => match st with | .sync clr f => some (.ok (s.doSync k clr f)) | _ => none))

/-- SYNC_RELEASE: R146, R163. -/
def execSyncRelease (k : Nat) (s : State) : Result :=
  ran (s.waitRow k .flag (fun s st => match st with | .sync clr f => if s.flag f then some (s.passSync k clr f) else none | _ => none))

/-- LOOP: R164. -/
def execLoop (k : Nat) (s : State) : Result :=
  ran (s.engRow k (fun s st => match st with | .loop second n target => some (s.doLoop k second n target) | _ => none))

/-! ### SIGNAL (R162) -/

/-- A SIGNAL of the kind a row names. -/
def State.signalRow (s : State) (k kind : Nat) : Except Fault State :=
  s.engRow k (fun s st => match st with | .signal kd op => if kd = kind then some (.ok ((s.doSignal k kd op).advance k 1)) else none | _ => none)

/-- SIGNAL_SET_FLAGS: R162, R166. -/
def execSignalSetFlags (k : Nat) (s : State) : Result := ran (s.signalRow k 0)

/-- SIGNAL_CLEAR_FLAGS: R162, R166. -/
def execSignalClearFlags (k : Nat) (s : State) : Result := ran (s.signalRow k 1)

/-- SIGNAL_DRIVE_PIN: R162, R632. -/
def execSignalDrivePin (k : Nat) (s : State) : Result := ran (s.signalRow k 2)

/-- SIGNAL_RAISE_SOURCE: R162. -/
def execSignalRaiseSource (k : Nat) (s : State) : Result := ran (s.signalRow k 3)

/-- SIGNAL_POST_REPORT: R162. -/
def execSignalPostReport (k : Nat) (s : State) : Result := ran (s.signalRow k 4)

/-- SIGNAL_START_TIMER: R162, R167. -/
def execSignalStartTimer (k : Nat) (s : State) : Result := ran (s.signalRow k 5)

/-- SIGNAL_REQUEST_STATE: R43, R162. -/
def execSignalRequestState (k : Nat) (s : State) : Result := ran (s.signalRow k 6)

/-! ### Events beside the steps -/

/-- ENG_STALL: R152, R634. -/
def execEngStall (k : Nat) (s : State) : Result := done (s.engStalled k)

/-- TIMER_EXPIRY: R167. -/
def execTimerExpiry (t : Nat) (s : State) : Result := done (s.timerDone t)

/-- HK_TICK: R148, R150, R173. -/
def execHkTick (s : State) : Result := done s.hkTick

/-- ALIVE_TOGGLE: R151, R633. -/
def execAliveToggle (s : State) : Result := done s.aliveToggle

/-- ALIVE_MISS: R634, R635. -/
def execAliveMiss (s : State) : Result := done s.aliveMiss

/-- ENG_TRIG: R148, R177. -/
def execEngTrig (w : Word) (s : State) : Result := hostDone s (·.engTrigger w)

/-- ENG_DBG_HALT: R151, R169, R178. -/
def execEngDbgHalt (w : Word) (s : State) : Result := hostRan s (·.dbgWrite w)

/-- ENG_DBG_STEP: R169, R178. -/
def execEngDbgStep (w : Word) (pins : PinSample) (s : State) : Result := hostRan s (fun s => (s.setPins pins).dbgWrite w)

/-- ENG_DBG_RESUME: R169, R178. -/
def execEngDbgResume (w : Word) (s : State) : Result := hostRan s (·.dbgWrite w)

end Sys2Proof.Machine
end

