-- ==== Sys2Proof/Machine/CmdGauge.lean ====
section
/-! DEFINITION. The commands on the gauge and the pack (12_gauge_and_pack.md): one definition each. -/
namespace Sys2Proof.Machine

/-! ### The coulomb counter and the second -/

/-- COULOMB_RESULT: R429, R430. -/
def execCoulombResult (raw : Int) (s : State) : Result := done (s.when s.aoOn (·.coulombResult raw))

/-- CC_RANGE: R430, R439: once until the input returns within range; it spoils the learning pair. -/
def execCcRange (s : State) : Result :=
  done (s.when (s.aoOn && s.gau.full && !s.gau.ranged) (fun s => (s.setGau (fun g => { g with ranged := true })).spoilPair.raise 87))

/-- GAU_ACC_READ: R121, R430. -/
def execGauAccRead (s : State) : Result := done (s.readOne A.GAU_ACC0)

/-- GAUGE_SECOND: R406, R431 to R440, R444 to R446. -/
def execGaugeSecond (battMv : Nat) (s : State) : Result := done (s.when s.aoOn (fun s => (s.gaugeSecond battMv).chgSecond))

/-- VOLTAGE_SAYS_EMPTY: R437. -/
def execVoltageSaysEmpty (s : State) : Result := done s.voltageEmpty

/-- REST_POINT: R432, R433, R436, R437, R439. -/
def execRestPoint (battMv : Nat) (s : State) : Result := done (s.restPoint battMv)

/-- CHARGER_STEP_SAMPLE: R442, R443. -/
def execChargerStepSample (k battMv : Nat) (ib : Int) (s : State) : Result := done (s.chargerStep k battMv ib)

/-! ### Authentication -/

/-- AUTH_REQUEST: R449, R459. -/
def execAuthRequest (w : Word) (s : State) : Result := hostDone s (·.writeGauCtrl w)

/-- RELEARN_SET: R459. -/
def execRelearnSet (w : Word) (s : State) : Result := hostDone s (·.writeGauCtrl w)

/-- AUTH_PERIODIC: R449: one has been completed, and 86,400 s have passed since. -/
def execAuthPeriodic (s : State) : Result := done (s.when (s.gaugeRuns && s.gau.authAt.isSome) State.authStart)

/-- AUTH_RESPONSE_READ: R450, R451, R453. -/
def execAuthResponseRead (resp : List Byte) (s : State) : Result := done (s.when s.gaugeRuns (·.authResponse resp))

/-- An attempt whose response is awaited ends with a cause (R451, R460). -/
def State.attemptEnds (s : State) (cause : Nat) : State := s.when (s.gaugeRuns && decide (s.gau.stage = .challenged)) (·.attemptFailed cause)

/-- AUTH_READ_RETRY: R450: the read is repeated; 100 ms after the challenge the attempt has failed with no acknowledge. -/
def execAuthReadRetry (expired : Bool) (s : State) : Result := done (s.when expired (·.attemptEnds 1))

/-- AUTH_BUS_HELD: R450. -/
def execAuthBusHeld (s : State) : Result := done (s.attemptEnds 3)

/-- AUTH_ATTEMPT_RETRY: R450, R451. -/
def execAuthAttemptRetry (s : State) : Result := done s.authRetry

end Sys2Proof.Machine
end

