-- ==== Sys2Proof/Machine/CmdHost.lean ====
section
/-! DEFINITION. The host's frames, and the writes and reads that have rows of their own (04_host_interface.md, 18_fault_collector.md, 19_millrace_queue.md): one definition each. -/
namespace Sys2Proof.Machine

/-! ### Frames -/

/-- NOP: R114, R115, R129. -/
def execNop (f : Frame) (s : State) : Result := ran (s.runFrame 0x00#8 f)

/-- RD: R115, R119, R121. -/
def execRd (f : Frame) (s : State) : Result := ran (s.runFrame 0x01#8 f)

/-- WR: R115, R119, R120. -/
def execWr (f : Frame) (s : State) : Result := ran (s.runFrame 0x02#8 f)

/-- RDB: R115, R121. -/
def execRdb (f : Frame) (s : State) : Result := ran (s.runFrame 0x03#8 f)

/-- RD32: R115, R121, R527, R603. -/
def execRd32 (f : Frame) (s : State) : Result := ran (s.runFrame 0x20#8 f)

/-- QPOP: R123, R657, R663. -/
def execQpop (f : Frame) (s : State) : Result := ran (s.runFrame 0x10#8 f)

/-- QPOP_REREAD: R124: the same opcode with ADDR 0x0001. -/
def execQpopReread (f : Frame) (s : State) : Result := ran (s.runFrame 0x10#8 f)

/-- ACK: R131. -/
def execAck (f : Frame) (s : State) : Result := ran (s.runFrame 0x11#8 f)

/-- RLY: R125, R493. -/
def execRly (f : Frame) (s : State) : Result := ran (s.runFrame 0x21#8 f)

/-- HELLO: R127. -/
def execHello (f : Frame) (s : State) : Result := ran (s.runFrame 0xF0#8 f)

/-- SELECT: R126, R128. -/
def execSelect (f : Frame) (s : State) : Result := ran (s.runFrame 0xF1#8 f)

/-- RESERVED_OPCODE: R115, R119, R122: an opcode that the protocol or the selected version lacks. -/
def execReservedOpcode (op : Byte) (f : Frame) (s : State) : Result := ran (s.runFrame op f)

/-- STATUS_POLL: R117. -/
def execStatusPoll (target taken : Nat) (s : State) : Result := done (s.poll target taken)

/-- I2C_BUS_TIMEOUT: R113, R122. -/
def execI2cBusTimeout (s : State) : Result := done s.busTimeout

/-! ### Registers -/

/-- REGISTER_WRITE: R14, R39, R83, R84, R120, R142. Like every row that is one write, it leaves PERR and the reply of the frame before (DESIGN CHOICE, log entry 40). -/
def execRegisterWrite (addr value : Word) (s : State) : Result := hostRan s (·.hostWrite addr.toNat value)

/-- HIF_ACK: R131, R135. -/
def execHifAck (w : Word) (s : State) : Result := hostDone s (·.writeHifAck w)

/-- HIF_ERR_READ: R134. -/
def execHifErrRead (s : State) : Result := done (s.readOne A.HIF_ERR)

/-! ### The collector and the queue -/

/-- FLT_FRC: R637, R638, R647. -/
def execFltFrc (k : Nat) (w : Word) (s : State) : Result := hostDone s (·.writeForce k w)

/-- FLT_TEST: R644. -/
def execFltTest (w : Word) (s : State) : Result := hostDone s (·.writeFltTest w)

/-- FLT_CNTCLR: R646. -/
def execFltCntclr (w : Word) (s : State) : Result := hostDone s (·.writeFltCntclr w)

/-- QUEUE_FLUSH: R670, MRQ_CTL. -/
def execQueueFlush (w : Word) (s : State) : Result := hostDone s (·.writeMrqCtl w)

/-- MRQ_COUNTER_CLEAR: R670, MRQ_CTL. -/
def execMrqCounterClear (w : Word) (s : State) : Result := hostDone s (·.writeMrqCtl w)

end Sys2Proof.Machine
end

