-- ==== Sys2Proof/Machine/CmdLine.lean ====
section
/-! DEFINITION. The commands on the line, the sluice and the weir (08_line_sluice_and_weir.md): one definition each. -/
namespace Sys2Proof.Machine

/-! ### Presence, qualification and loss -/

/-- LINE_PRESENT: R252. -/
def execLinePresent (dv : Nat) (s : State) : Result := done (s.linePresent dv)

/-- LINE_NOT_PRESENT: R252, R254, R258, R259. -/
def execLineNotPresent (dv : Nat) (s : State) : Result := done (s.lineAbsent dv)

/-- SRCID_READ_DONE: R23, R27, R250, R252, R257. -/
def execSrcidReadDone (mv : Nat) (s : State) : Result := done (s.srcidRead mv)

/-- LINE_WINDOW_CHANGE: R253. -/
def execLineWindowChange (dv : Nat) (s : State) : Result := done (s.windowChange dv)

/-- LINE_QUALIFIED: R44, R45, R49, R50, R253, R256. -/
def execLineQualified (s : State) : Result := done s.lineQualified

/-- LINE_LOSS: R45, R254, R268, R300. -/
def execLineLoss (dv : Nat) (s : State) : Result := done (s.lineLoss dv)

/-- LINE_OV_OPENING: R7, R254, R257. -/
def execLineOvOpening (dv : Nat) (s : State) : Result := done (s.lineOv dv)

/-- LINE_SHORT_CIRCUIT: R7, R254, R257, R258. -/
def execLineShortCircuit (s : State) : Result := done s.lineShort

/-- LINE_IMPLAUSIBLE: R260. -/
def execLineImplausible (s : State) : Result := done s.lineImplausible

/-! ### The sluice -/

/-- STAGGER_END: R256. -/
def execStaggerEnd (s : State) : Result := done s.staggerEnd

/-- SOA_EXPIRY: R254, R256, R258. -/
def execSoaExpiry (s : State) : Result := done s.soaExpiry

/-- SLUICE_FULLY_ON: R206, R256, R265, R269, R299, R300, R690. VDRV in mV. -/
def execSluiceFullyOn (vdrv : Nat) (s : State) : Result := done ((s.setDrv (fun d => { d with vdrv := vdrv })).sluiceOn)

/-- RETRY_DELAY_END: R258. -/
def execRetryDelayEnd (s : State) : Result := done s.retryEnd

/-- RETRY_COUNT_CLEAR: R258. -/
def execRetryCountClear (s : State) : Result := done s.retryClear

/-- CHGOK_SET: R269. -/
def execChgokSet (s : State) : Result := done s.chgOkSet

/-- LIN_LATCH_CLEAR: R259, R275, LIN_CTRL. -/
def execLinLatchClear (w : Word) (s : State) : Result := hostDone s (·.writeLinCtrl w)

/-- LIN_COUNTER_CLEAR: R275, LIN_CTRL. -/
def execLinCounterClear (w : Word) (s : State) : Result := hostDone s (·.writeLinCtrl w)

/-! ### The weir -/

/-- WEIR_TURN_ON: R264 to R266, R268. -/
def execWeirTurnOn (vdrv batt : Nat) (s : State) : Result := done (s.weirTurnOn vdrv batt)

/-- WEIR_REVERSE_BLOCK: R7, R264, R266. -/
def execWeirReverseBlock (vdrv batt : Nat) (s : State) : Result := done (s.weirReverse vdrv batt)

/-- WEIR_TAKEOVER_DONE: R265. -/
def execWeirTakeoverDone (vdrv batt : Nat) (s : State) : Result := done (s.takeoverDone vdrv batt)

/-- WEIR_TAKEOVER_FAIL: R265. -/
def execWeirTakeoverFail (s : State) : Result := done s.takeoverFail

/-- WEIR_SHORT_CIRCUIT: R265. -/
def execWeirShortCircuit (s : State) : Result := done s.weirShort

/-- WEIR_HANDBACK: R269. -/
def execWeirHandback (s : State) : Result := done s.handbackDue

end Sys2Proof.Machine
end

