-- ==== Sys2Proof/Machine/CmdNvm.lean ====
section
/-! DEFINITION. The commands on learned data, the first-fail log and the NVM's bus (03_configuration_image.md): one definition each. -/
namespace Sys2Proof.Machine

/-- LD_ERASE: R94, R107, SYS_LDCTRL. -/
def execLdErase (w : Word) (s : State) : Result := hostDone s (·.writeLdCtrl w)

/-- FFLOG_ERASE: R98, R107, SYS_LDCTRL. -/
def execFflogErase (w : Word) (s : State) : Result := hostDone s (·.writeLdCtrl w)

/-- WRITEBACK_REQUEST: R87, R107, SYS_LDCTRL. -/
def execWritebackRequest (w : Word) (s : State) : Result := hostDone s (·.writeLdCtrl w)

/-- LD_PERIOD_EXPIRY: R87 to R89. -/
def execLdPeriodExpiry (s : State) : Result := done (s.when s.aoOn State.tryWriteBack)

/-- WRITE_BACK_RETRY: R88: each second, a write-back that could not start is tried again. -/
def execWriteBackRetry (s : State) : Result := done (s.when (s.aoOn && s.nvm.wbWanted) State.tryWriteBack)

/-- NVM_ACCESS_START: R99. -/
def execNvmAccessStart (s : State) : Result := done (s.when s.aoOn State.nvmGrant)

/-- VNVM_READY: R67. -/
def execVnvmReady (s : State) : Result := done (s.when (s.aoOn && s.nvm.vnvm) (·.setNvm (fun n => { n with ready := true })))

/-- VNVM_OFF: R67. -/
def execVnvmOff (s : State) : Result := done s.vnvmOff

/-- PAGE_PROGRAM_DONE: R89, R94, R96, R98. -/
def execPageProgramDone (s : State) : Result := done s.pageDone

/-- NVM_POLL_TIMEOUT: R67. -/
def execNvmPollTimeout (s : State) : Result := done s.pollTimeout

/-- VERIFY_READ_DONE: R89. -/
def execVerifyReadDone (bytes : List Byte) (s : State) : Result := done (s.verifyDone bytes)

/-- COPY_B_CHUNK_DONE: R72. -/
def execCopyBChunkDone (bytes : List Byte) (s : State) : Result := done (s.copyBChunk bytes)

end Sys2Proof.Machine
end

