-- ==== Sys2Proof/Machine/CmdStroke.lean ====
section
/-! DEFINITION. The commands on strokes and the recorder (10_stroke_operation.md): one definition each. -/
namespace Sys2Proof.Machine

/-! ### Hints and commands -/

/-- STROKE_PIN_HINT: R345 to R349. -/
def execStrokePinHint (width : Nat) (s : State) : Result := done (s.pinHint width)

/-- STK_HINT: R346 to R350, R374. -/
def execStkHint (w : Word) (s : State) : Result := hostDone s (·.strokeCommand w)

/-- STK_GO: R346, R348, R352, R374. -/
def execStkGo (w : Word) (s : State) : Result := hostDone s (·.strokeCommand w)

/-- STK_END: R346, R353, R354, R374. -/
def execStkEnd (w : Word) (s : State) : Result := hostDone s (·.strokeCommand w)

/-- STK_CANCEL: R346, R354, R374. -/
def execStkCancel (w : Word) (s : State) : Result := hostDone s (·.strokeCommand w)

/-- PREARM_TIMEOUT: R351, R354. -/
def execPrearmTimeout (s : State) : Result := done (s.when s.preArmed (·.cancelStroke false false))

/-! ### Samples, start and end -/

/-- R425: the charge current, in 10 mA, updated every 1 ms. -/
def State.chargerMeasured (s : State) : State :=
  let (v, s) := s.roundOpen (s.chg.ima / 10)
  s.wi A.CHG_IMEAS v

/-- STROKE_SAMPLE: R335, R343, R352, R353, R362, R363, R425. -/
def execStrokeSample (battMv : Nat) (s : State) : Result := done (s.when s.aoOn (fun s => (s.strokeSample battMv).chargerMeasured))

/-- STROKE_START_DETECT: R352, R366, R367. -/
def execStrokeStartDetect (s : State) : Result := done s.startDetect

/-- STROKE_END_DETECT: R353, R362 to R365, R368. -/
def execStrokeEndDetect (s : State) : Result := done s.endDetect

/-- PROVING_SAMPLE: R367, R442. -/
def execProvingSample (k battMv : Nat) (ib : Int) (s : State) : Result := done (s.provingSample k battMv ib)

/-- BATTERY_PHASE_END: R297, R368, R370. -/
def execBatteryPhaseEnd (s : State) : Result := done (s.endBattPhase none)

/-! ### The recorder -/

/-- STREAM_INTERVAL: R357, R358. -/
def execStreamInterval (k late : Nat) (s : State) : Result := done (s.streamOut k late)

/-- R357: 4,095 capture ticks have passed without an entry. -/
def State.extendTime (s : State) : State :=
  if s.b F.STK_RECSTAT_CAPT && decide (4095 ≤ s.stk.since + (s.ticksPerMs : Int)) then
    (s.recPut 4095 15 0).setStk (fun k => { k with since := k.since - 4095 })
  else s

/-- RECORDER_TIME_EXTENSION: R357. -/
def execRecorderTimeExtension (s : State) : Result := done s.extendTime

/-! ### Keys -/

/-- STK_REFCTL: R364, R383. -/
def execStkRefctl (w : Word) (s : State) : Result := hostDone s (·.writeRefCtl w)

/-- STK_CNTCLR: R392. -/
def execStkCntclr (w : Word) (s : State) : Result := hostDone s (·.writeStkCntclr w)

end Sys2Proof.Machine
end

