-- ==== Sys2Proof/Machine/CmdWayline.lean ====
section
/-! DEFINITION. The commands on the Wayline (13_wayline.md): one definition each. -/
namespace Sys2Proof.Machine

/-! ### The manager -/

/-- TURN_ORIGIN: R473, R474, R479, R486 to R489. -/
def execTurnOrigin (s : State) : Result := done s.turnOrigin.wayFrame

/-- STATUS_FRAME_RECEIVED: R475, R479, R481, R492. -/
def execStatusFrameReceived (a payload : Nat) (s : State) : Result := done (s.statusFrame a payload).wayFrame

/-- REQUEST_FRAME_RECEIVED: R475, R478, R481, R486. -/
def execRequestFrameReceived (a payload : Nat) (s : State) : Result := done (s.requestFrame a payload).wayFrame

/-- RELEASE_FRAME_RECEIVED: R475, R481, R486. -/
def execReleaseFrameReceived (a payload : Nat) (s : State) : Result := done (s.releaseFrame a payload).wayFrame

/-- LEAVE_FRAME_RECEIVED: R481. -/
def execLeaveFrameReceived (a : Nat) (s : State) : Result := done (s.leaveFrame a).wayFrame

/-- JOIN_FRAME_RECEIVED: R477, R478. -/
def execJoinFrameReceived (a nonce : Nat) (ident : Option Nat) (s : State) : Result := done (s.joinFrame a nonce ident).wayFrame

/-- WORKER_ABSENT: R479. -/
def execWorkerAbsent (a : Nat) (s : State) : Result := done (s.workerAbsent a)

/-- FOREIGN_MILESTONE: R482. -/
def execForeignMilestone (s : State) : Result := done s.foreignMilestone.wayFrame

/-- MANAGER_SILENCE_END: R482. -/
def execManagerSilenceEnd (s : State) : Result := done s.silenceEnd

/-- RELAY_WINDOW: R493. -/
def execRelayWindow (s : State) : Result := done s.relayWindow.wayFrame

/-- RELAY_REPLY_RECEIVED: R493. -/
def execRelayReplyReceived (a : Nat) (words : List Word) (s : State) : Result := done (s.relayReply a words).wayFrame

/-- WAY_RSTCMD: R494, R514. -/
def execWayRstcmd (w : Word) (s : State) : Result := hostRan s (·.writeRstCmd w)

/-! ### The worker -/

/-- R471 to R494: a milestone; a RESET for this worker is taken as a manager reset. -/
def State.milestone (s : State) (turn fracver sech : Nat) (a0 a1 : Answer) : State :=
  let (s, due) := s.milestoneReceived turn fracver sech a0 a1
  s.when due (·.takeReset .manager)

/-- MILESTONE_RECEIVED: R471, R474, R480, R488, R490, R491, R494. -/
def execMilestoneReceived (turn fracver sech : Nat) (a0 a1 : Answer) (s : State) : Result := done (s.milestone turn fracver sech a0 a1).wayFrame

/-- WORKER_SLOT_SEND: R471, R475. -/
def execWorkerSlotSend (s : State) : Result := done s.slotSend.wayFrame

/-- JOIN_SEND: R476. -/
def execJoinSend (s : State) : Result := done s.joinSend.wayFrame

/-- JOIN_RETRY: R476. -/
def execJoinRetry (s : State) : Result := done s.joinRetry

/-- WAY_ORPHAN: R480. -/
def execWayOrphan (s : State) : Result := done s.wayOrphan

/-- LEASE_END: R488. -/
def execLeaseEnd (s : State) : Result := done s.leaseEnd

/-- LEASE_RENEWAL_DUE: R350, R488. -/
def execLeaseRenewalDue (s : State) : Result := done s.leaseRenewal

/-- R478, R493: W1 has no relay window. A relay request reads its words as an RD through the relay port, and the reply goes out. -/
def State.answerRelay (s : State) (addr count : Nat) : State :=
  if s.isWorker && s.running && s.admitted && s.b F.WAY_STAT_VER && s.turnHeard then
    let (ws, s) := s.readWords .relay addr count
    let b : List Byte := BitVec.ofNat 8 (160 + s.wayAddr) :: BitVec.ofNat 8 (count - 1) :: (ws.map (fun w => leBytes 2 w.toNat)).flatten
    s.setWay (fun w => { w with sent := b ++ [crc8 b] })
  else s

/-- RELAY_REQUEST_RECEIVED: R121, R142, R493. -/
def execRelayRequestReceived (addr : Word) (count : Nat) (s : State) : Result := done (s.answerRelay addr.toNat count).wayFrame

/-! ### Both -/

/-- WAYLINE_FRAME_ERROR: R467, R496. -/
def execWaylineFrameError (s : State) : Result := done s.frameError.wayFrame

/-- WAY_CNTCLR: R507. -/
def execWayCntclr (w : Word) (s : State) : Result := hostDone s (·.writeWayCntclr w)

end Sys2Proof.Machine
end

