-- ==== Sys2Proof/Machine/Dispatch.lean ====
section
/-! DEFINITION. The dispatch: one arm for each command, one meaning for each arm. -/
namespace Sys2Proof.Machine

/-- The effect of a command on everything but the queue. -/
def exec (i : Instr) (s : State) : Host.Outcome State Fault Refusal :=
  match i with
  | .preregStart lineDv battMv => Sys2Proof.Machine.execPreregStart lineDv battMv s
  | .aoReady straps pack => Sys2Proof.Machine.execAoReady straps pack s
  | .preregStop lineDv battMv => Sys2Proof.Machine.execPreregStop lineDv battMv s
  | .vbkupLevelChange mv => Sys2Proof.Machine.execVbkupLevelChange mv s
  | .imageReadDone copyA copyB straps => Sys2Proof.Machine.execImageReadDone copyA copyB straps s
  | .learnedReadDone slotA slotB => Sys2Proof.Machine.execLearnedReadDone slotA slotB s
  | .fflogReadDone ring => Sys2Proof.Machine.execFflogReadDone ring s
  | .sysReset w => Sys2Proof.Machine.execSysReset w s
  | .sysShip w => Sys2Proof.Machine.execSysShip w s
  | .pbRelease ms => Sys2Proof.Machine.execPbRelease ms s
  | .wakePinEdge pin rising => Sys2Proof.Machine.execWakePinEdge pin rising s
  | .pfwHoldExpiry cause => Sys2Proof.Machine.execPfwHoldExpiry cause s
  | .thermalShutdown k => Sys2Proof.Machine.execThermalShutdown k s
  | .shutdownRelease k => Sys2Proof.Machine.execShutdownRelease k s
  | .nop f => Sys2Proof.Machine.execNop f s
  | .rd f => Sys2Proof.Machine.execRd f s
  | .wr f => Sys2Proof.Machine.execWr f s
  | .rdb f => Sys2Proof.Machine.execRdb f s
  | .rd32 f => Sys2Proof.Machine.execRd32 f s
  | .qpop f => Sys2Proof.Machine.execQpop f s
  | .qpopReread f => Sys2Proof.Machine.execQpopReread f s
  | .ack f => Sys2Proof.Machine.execAck f s
  | .rly f => Sys2Proof.Machine.execRly f s
  | .hello f => Sys2Proof.Machine.execHello f s
  | .select f => Sys2Proof.Machine.execSelect f s
  | .reservedOpcode op f => Sys2Proof.Machine.execReservedOpcode op f s
  | .statusPoll target taken => Sys2Proof.Machine.execStatusPoll target taken s
  | .i2cBusTimeout => Sys2Proof.Machine.execI2cBusTimeout s
  | .registerWrite addr value => Sys2Proof.Machine.execRegisterWrite addr value s
  | .hifAck w => Sys2Proof.Machine.execHifAck w s
  | .hifErrRead => Sys2Proof.Machine.execHifErrRead s
  | .ldErase w => Sys2Proof.Machine.execLdErase w s
  | .fflogErase w => Sys2Proof.Machine.execFflogErase w s
  | .writebackRequest w => Sys2Proof.Machine.execWritebackRequest w s
  | .verifyReadDone bytes => Sys2Proof.Machine.execVerifyReadDone bytes s
  | .copyBChunkDone bytes => Sys2Proof.Machine.execCopyBChunkDone bytes s
  | .engineStart k => Sys2Proof.Machine.execEngineStart k s
  | .engEnd k => Sys2Proof.Machine.execEngEnd k s
  | .enableDomain k => Sys2Proof.Machine.execEnableDomain k s
  | .enableSequence k => Sys2Proof.Machine.execEnableSequence k s
  | .enableResetRelease k => Sys2Proof.Machine.execEnableResetRelease k s
  | .enableMonitor k => Sys2Proof.Machine.execEnableMonitor k s
  | .enableShedSet k => Sys2Proof.Machine.execEnableShedSet k s
  | .disableDomain k => Sys2Proof.Machine.execDisableDomain k s
  | .disableSequence k => Sys2Proof.Machine.execDisableSequence k s
  | .disableReset k => Sys2Proof.Machine.execDisableReset k s
  | .disableMonitor k => Sys2Proof.Machine.execDisableMonitor k s
  | .disableShedSet k => Sys2Proof.Machine.execDisableShedSet k s
  | .set k => Sys2Proof.Machine.execSet k s
  | .wait k => Sys2Proof.Machine.execWait k s
  | .waitExpiry k => Sys2Proof.Machine.execWaitExpiry k s
  | .waitc k pins => Sys2Proof.Machine.execWaitc k pins s
  | .waitcConditionMet k pins => Sys2Proof.Machine.execWaitcConditionMet k pins s
  | .waitcTimeout k => Sys2Proof.Machine.execWaitcTimeout k s
  | .check k pins => Sys2Proof.Machine.execCheck k pins s
  | .jump k pins => Sys2Proof.Machine.execJump k pins s
  | .signalSetFlags k => Sys2Proof.Machine.execSignalSetFlags k s
  | .signalClearFlags k => Sys2Proof.Machine.execSignalClearFlags k s
  | .signalDrivePin k => Sys2Proof.Machine.execSignalDrivePin k s
  | .signalRaiseSource k => Sys2Proof.Machine.execSignalRaiseSource k s
  | .signalPostReport k => Sys2Proof.Machine.execSignalPostReport k s
  | .signalStartTimer k => Sys2Proof.Machine.execSignalStartTimer k s
  | .signalRequestState k => Sys2Proof.Machine.execSignalRequestState k s
  | .sync k => Sys2Proof.Machine.execSync k s
  | .syncRelease k => Sys2Proof.Machine.execSyncRelease k s
  | .loop k => Sys2Proof.Machine.execLoop k s
  | .engStall k => Sys2Proof.Machine.execEngStall k s
  | .timerExpiry t => Sys2Proof.Machine.execTimerExpiry t s
  | .hkTick => Sys2Proof.Machine.execHkTick s
  | .aliveToggle => Sys2Proof.Machine.execAliveToggle s
  | .aliveMiss => Sys2Proof.Machine.execAliveMiss s
  | .engTrig w => Sys2Proof.Machine.execEngTrig w s
  | .engDbgHalt w => Sys2Proof.Machine.execEngDbgHalt w s
  | .engDbgStep w pins => Sys2Proof.Machine.execEngDbgStep w pins s
  | .engDbgResume w => Sys2Proof.Machine.execEngDbgResume w s
  | .controllerWatchdog gauge => Sys2Proof.Machine.execControllerWatchdog gauge s
  | .softStartEnd n => Sys2Proof.Machine.execSoftStartEnd n s
  | .powerGood n => Sys2Proof.Machine.execPowerGood n s
  | .comparatorChange k mv sw => Sys2Proof.Machine.execComparatorChange k mv sw s
  | .underVoltageReport n => Sys2Proof.Machine.execUnderVoltageReport n s
  | .resetOutputRelease out => Sys2Proof.Machine.execResetOutputRelease out s
  | .blankingEnd k mv sw => Sys2Proof.Machine.execBlankingEnd k mv sw s
  | .supervisionTick inputs sw => Sys2Proof.Machine.execSupervisionTick inputs sw s
  | .generalTimerExpiry => Sys2Proof.Machine.execGeneralTimerExpiry s
  | .inputLockoutChange n mv => Sys2Proof.Machine.execInputLockoutChange n mv s
  | .dischargeEnd n => Sys2Proof.Machine.execDischargeEnd n s
  | .currentLimitActs n => Sys2Proof.Machine.execCurrentLimitActs n s
  | .dvsSetpointWrite n w => Sys2Proof.Machine.execDvsSetpointWrite n w s
  | .dvsTargetReached n => Sys2Proof.Machine.execDvsTargetReached n s
  | .dvsSlewDone n => Sys2Proof.Machine.execDvsSlewDone n s
  | .lockPullinEnd vdrv => Sys2Proof.Machine.execLockPullinEnd vdrv s
  | .lockShortCircuit consecutive => Sys2Proof.Machine.execLockShortCircuit consecutive s
  | .lockDemagEnd => Sys2Proof.Machine.execLockDemagEnd s
  | .domCntclr n w => Sys2Proof.Machine.execDomCntclr n w s
  | .pumaxExpiry => Sys2Proof.Machine.execPumaxExpiry s
  | .pdmaxExpiry => Sys2Proof.Machine.execPdmaxExpiry s
  | .linePresent dv => Sys2Proof.Machine.execLinePresent dv s
  | .lineNotPresent dv => Sys2Proof.Machine.execLineNotPresent dv s
  | .srcidReadDone mv => Sys2Proof.Machine.execSrcidReadDone mv s
  | .lineWindowChange dv => Sys2Proof.Machine.execLineWindowChange dv s
  | .lineQualified => Sys2Proof.Machine.execLineQualified s
  | .lineLoss dv => Sys2Proof.Machine.execLineLoss dv s
  | .lineOvOpening dv => Sys2Proof.Machine.execLineOvOpening dv s
  | .lineShortCircuit => Sys2Proof.Machine.execLineShortCircuit s
  | .staggerEnd => Sys2Proof.Machine.execStaggerEnd s
  | .soaExpiry => Sys2Proof.Machine.execSoaExpiry s
  | .sluiceFullyOn vdrv => Sys2Proof.Machine.execSluiceFullyOn vdrv s
  | .retryDelayEnd => Sys2Proof.Machine.execRetryDelayEnd s
  | .retryCountClear => Sys2Proof.Machine.execRetryCountClear s
  | .lineImplausible => Sys2Proof.Machine.execLineImplausible s
  | .chgokSet => Sys2Proof.Machine.execChgokSet s
  | .linLatchClear w => Sys2Proof.Machine.execLinLatchClear w s
  | .linCounterClear w => Sys2Proof.Machine.execLinCounterClear w s
  | .weirTurnOn vdrv batt => Sys2Proof.Machine.execWeirTurnOn vdrv batt s
  | .weirReverseBlock vdrv batt => Sys2Proof.Machine.execWeirReverseBlock vdrv batt s
  | .weirTakeoverDone vdrv batt => Sys2Proof.Machine.execWeirTakeoverDone vdrv batt s
  | .weirTakeoverFail => Sys2Proof.Machine.execWeirTakeoverFail s
  | .weirShortCircuit => Sys2Proof.Machine.execWeirShortCircuit s
  | .weirHandback => Sys2Proof.Machine.execWeirHandback s
  | .driveFrame vdrv dcs lsense vlsrc sumAgrees sample => Sys2Proof.Machine.execDriveFrame vdrv dcs lsense vlsrc sumAgrees sample s
  | .balanceUpdate cs dcs => Sys2Proof.Machine.execBalanceUpdate cs dcs s
  | .syncInEdge err period => Sys2Proof.Machine.execSyncInEdge err period s
  | .syncLoss => Sys2Proof.Machine.execSyncLoss s
  | .driveFastLimit k cs => Sys2Proof.Machine.execDriveFastLimit k cs s
  | .hiccupEntry k => Sys2Proof.Machine.execHiccupEntry k s
  | .hiccupEnd => Sys2Proof.Machine.execHiccupEnd s
  | .driveOverload => Sys2Proof.Machine.execDriveOverload s
  | .phaseShed dcs => Sys2Proof.Machine.execPhaseShed dcs s
  | .phaseReadd dcs => Sys2Proof.Machine.execPhaseReadd dcs s
  | .sheddingResume => Sys2Proof.Machine.execSheddingResume s
  | .openPhaseDetect k iout => Sys2Proof.Machine.execOpenPhaseDetect k iout s
  | .senseFailDetect k test iout => Sys2Proof.Machine.execSenseFailDetect k test iout s
  | .senseSumFail => Sys2Proof.Machine.execSenseSumFail s
  | .phaseRetire ks => Sys2Proof.Machine.execPhaseRetire ks s
  | .driveSoftStartEnd => Sys2Proof.Machine.execDriveSoftStartEnd s
  | .driveSetpointWrite w => Sys2Proof.Machine.execDriveSetpointWrite w s
  | .driveTargetReached tmax => Sys2Proof.Machine.execDriveTargetReached tmax s
  | .driveSlewDone => Sys2Proof.Machine.execDriveSlewDone s
  | .phaseReinstate w => Sys2Proof.Machine.execPhaseReinstate w s
  | .drvCntclr w => Sys2Proof.Machine.execDrvCntclr w s
  | .strokePinHint width => Sys2Proof.Machine.execStrokePinHint width s
  | .stkHint w => Sys2Proof.Machine.execStkHint w s
  | .stkGo w => Sys2Proof.Machine.execStkGo w s
  | .stkEnd w => Sys2Proof.Machine.execStkEnd w s
  | .stkCancel w => Sys2Proof.Machine.execStkCancel w s
  | .prearmTimeout => Sys2Proof.Machine.execPrearmTimeout s
  | .strokeSample battMv => Sys2Proof.Machine.execStrokeSample battMv s
  | .strokeStartDetect => Sys2Proof.Machine.execStrokeStartDetect s
  | .strokeEndDetect => Sys2Proof.Machine.execStrokeEndDetect s
  | .provingSample k battMv ib => Sys2Proof.Machine.execProvingSample k battMv ib s
  | .batteryPhaseEnd => Sys2Proof.Machine.execBatteryPhaseEnd s
  | .streamInterval k late => Sys2Proof.Machine.execStreamInterval k late s
  | .recorderTimeExtension => Sys2Proof.Machine.execRecorderTimeExtension s
  | .stkRefctl w => Sys2Proof.Machine.execStkRefctl w s
  | .stkCntclr w => Sys2Proof.Machine.execStkCntclr w s
  | .batteryInserted battMv => Sys2Proof.Machine.execBatteryInserted battMv s
  | .batteryRemoved => Sys2Proof.Machine.execBatteryRemoved s
  | .presenceProbe => Sys2Proof.Machine.execPresenceProbe s
  | .chargePhaseChange battMv => Sys2Proof.Machine.execChargePhaseChange battMv s
  | .chargeTermination => Sys2Proof.Machine.execChargeTermination s
  | .topoffEnd => Sys2Proof.Machine.execTopoffEnd s
  | .rechargeStart => Sys2Proof.Machine.execRechargeStart s
  | .prechargeTimerExpiry => Sys2Proof.Machine.execPrechargeTimerExpiry s
  | .safetyTimerExpiry => Sys2Proof.Machine.execSafetyTimerExpiry s
  | .chgBatOv => Sys2Proof.Machine.execChgBatOv s
  | .chgBatOvRecover => Sys2Proof.Machine.execChgBatOvRecover s
  | .chgStageOc => Sys2Proof.Machine.execChgStageOc s
  | .chgStageRestart => Sys2Proof.Machine.execChgStageRestart s
  | .chgVinLow => Sys2Proof.Machine.execChgVinLow s
  | .chgVinLowRecover => Sys2Proof.Machine.execChgVinLowRecover s
  | .chgWatchdogExpiry => Sys2Proof.Machine.execChgWatchdogExpiry s
  | .chgWdKick w => Sys2Proof.Machine.execChgWdKick w s
  | .chgFaultRetry w => Sys2Proof.Machine.execChgFaultRetry w s
  | .chgCntClear w => Sys2Proof.Machine.execChgCntClear w s
  | .chargerAllowanceUpdate cs battMv vlsrc lsense vloop => Sys2Proof.Machine.execChargerAllowanceUpdate cs battMv vlsrc lsense vloop s
  | .coulombResult raw => Sys2Proof.Machine.execCoulombResult raw s
  | .ccRange => Sys2Proof.Machine.execCcRange s
  | .gauAccRead => Sys2Proof.Machine.execGauAccRead s
  | .gaugeSecond battMv => Sys2Proof.Machine.execGaugeSecond battMv s
  | .voltageSaysEmpty => Sys2Proof.Machine.execVoltageSaysEmpty s
  | .restPoint battMv => Sys2Proof.Machine.execRestPoint battMv s
  | .chargerStepSample k battMv ib => Sys2Proof.Machine.execChargerStepSample k battMv ib s
  | .authRequest w => Sys2Proof.Machine.execAuthRequest w s
  | .relearnSet w => Sys2Proof.Machine.execRelearnSet w s
  | .authPeriodic => Sys2Proof.Machine.execAuthPeriodic s
  | .authResponseRead resp => Sys2Proof.Machine.execAuthResponseRead resp s
  | .authReadRetry expired => Sys2Proof.Machine.execAuthReadRetry expired s
  | .authBusHeld => Sys2Proof.Machine.execAuthBusHeld s
  | .authAttemptRetry => Sys2Proof.Machine.execAuthAttemptRetry s
  | .turnOrigin => Sys2Proof.Machine.execTurnOrigin s
  | .milestoneReceived turn fracver sech a0 a1 => Sys2Proof.Machine.execMilestoneReceived turn fracver sech a0 a1 s
  | .workerSlotSend => Sys2Proof.Machine.execWorkerSlotSend s
  | .joinSend => Sys2Proof.Machine.execJoinSend s
  | .joinRetry => Sys2Proof.Machine.execJoinRetry s
  | .statusFrameReceived a payload => Sys2Proof.Machine.execStatusFrameReceived a payload s
  | .requestFrameReceived a payload => Sys2Proof.Machine.execRequestFrameReceived a payload s
  | .releaseFrameReceived a payload => Sys2Proof.Machine.execReleaseFrameReceived a payload s
  | .leaveFrameReceived a => Sys2Proof.Machine.execLeaveFrameReceived a s
  | .joinFrameReceived a nonce ident => Sys2Proof.Machine.execJoinFrameReceived a nonce ident s
  | .waylineFrameError => Sys2Proof.Machine.execWaylineFrameError s
  | .workerAbsent a => Sys2Proof.Machine.execWorkerAbsent a s
  | .wayOrphan => Sys2Proof.Machine.execWayOrphan s
  | .foreignMilestone => Sys2Proof.Machine.execForeignMilestone s
  | .managerSilenceEnd => Sys2Proof.Machine.execManagerSilenceEnd s
  | .leaseEnd => Sys2Proof.Machine.execLeaseEnd s
  | .leaseRenewalDue => Sys2Proof.Machine.execLeaseRenewalDue s
  | .relayWindow => Sys2Proof.Machine.execRelayWindow s
  | .relayRequestReceived addr count => Sys2Proof.Machine.execRelayRequestReceived addr count s
  | .relayReplyReceived a words => Sys2Proof.Machine.execRelayReplyReceived a words s
  | .wayRstcmd w => Sys2Proof.Machine.execWayRstcmd w s
  | .wayCntclr w => Sys2Proof.Machine.execWayCntclr w s
  | .adcRoundStart w => Sys2Proof.Machine.execAdcRoundStart w s
  | .adcInj w => Sys2Proof.Machine.execAdcInj w s
  | .injFlush w => Sys2Proof.Machine.execInjFlush w s
  | .adcConversionStart recent stream => Sys2Proof.Machine.execAdcConversionStart recent stream s
  | .adcConversionDone slice code late => Sys2Proof.Machine.execAdcConversionDone slice code late s
  | .adcResLoRead c => Sys2Proof.Machine.execAdcResLoRead c s
  | .adcResHiRead c => Sys2Proof.Machine.execAdcResHiRead c s
  | .calZero w => Sys2Proof.Machine.execCalZero w s
  | .calFull w => Sys2Proof.Machine.execCalFull w s
  | .calStepStart => Sys2Proof.Machine.execCalStepStart s
  | .calStepEnd sumA sumB => Sys2Proof.Machine.execCalStepEnd sumA sumB s
  | .bgCalStart => Sys2Proof.Machine.execBgCalStart s
  | .bgCalDone sum => Sys2Proof.Machine.execBgCalDone sum s
  | .throttleEnforce => Sys2Proof.Machine.execThrottleEnforce s
  | .throttleRelease => Sys2Proof.Machine.execThrottleRelease s
  | .thmCntclr w => Sys2Proof.Machine.execThmCntclr w s
  | .rtcTick => Sys2Proof.Machine.execRtcTick s
  | .rtcSet w => Sys2Proof.Machine.execRtcSet w s
  | .rtcStep w => Sys2Proof.Machine.execRtcStep w s
  | .rtcCancel w => Sys2Proof.Machine.execRtcCancel w s
  | .rtcPendingApply => Sys2Proof.Machine.execRtcPendingApply s
  | .rtcSec0Read => Sys2Proof.Machine.execRtcSec0Read s
  | .rtcFracRead => Sys2Proof.Machine.execRtcFracRead s
  | .fltFrc k w => Sys2Proof.Machine.execFltFrc k w s
  | .fltTest w => Sys2Proof.Machine.execFltTest w s
  | .fltCntclr w => Sys2Proof.Machine.execFltCntclr w s
  | .queueFlush w => Sys2Proof.Machine.execQueueFlush w s
  | .mrqCounterClear w => Sys2Proof.Machine.execMrqCounterClear w s
  | .aoBrownout => Sys2Proof.Machine.execAoBrownout s
  | .viohLoss => Sys2Proof.Machine.execViohLoss s
  | .viohReturn => Sys2Proof.Machine.execViohReturn s
  | .crystalStable => Sys2Proof.Machine.execCrystalStable s
  | .lfXtalFail => Sys2Proof.Machine.execLfXtalFail s
  | .fastOscStart => Sys2Proof.Machine.execFastOscStart s
  | .fastOscIdleStop => Sys2Proof.Machine.execFastOscIdleStop s
  | .fastOscFail => Sys2Proof.Machine.execFastOscFail s
  | .pinReset => Sys2Proof.Machine.execPinReset s
  | .resetShutdownEnd => Sys2Proof.Machine.execResetShutdownEnd s
  | .mrNRelease => Sys2Proof.Machine.execMrNRelease s
  | .sysCtrlReqRun => Sys2Proof.Machine.execSysCtrlReqRun s
  | .sysCtrlReqWatch => Sys2Proof.Machine.execSysCtrlReqWatch s
  | .sysCtrlReqHibernate => Sys2Proof.Machine.execSysCtrlReqHibernate s
  | .minOffExpiry => Sys2Proof.Machine.execMinOffExpiry s
  | .pbPress => Sys2Proof.Machine.execPbPress s
  | .pbLongWarning => Sys2Proof.Machine.execPbLongWarning s
  | .pbForceOff => Sys2Proof.Machine.execPbForceOff s
  | .pbShipHold => Sys2Proof.Machine.execPbShipHold s
  | .thermalRestart => Sys2Proof.Machine.execThermalRestart s
  | .thrstWindowExpiry => Sys2Proof.Machine.execThrstWindowExpiry s
  | .ldPeriodExpiry => Sys2Proof.Machine.execLdPeriodExpiry s
  | .writeBackRetry => Sys2Proof.Machine.execWriteBackRetry s
  | .nvmAccessStart => Sys2Proof.Machine.execNvmAccessStart s
  | .vnvmReady => Sys2Proof.Machine.execVnvmReady s
  | .vnvmOff => Sys2Proof.Machine.execVnvmOff s
  | .pageProgramDone => Sys2Proof.Machine.execPageProgramDone s
  | .nvmPollTimeout => Sys2Proof.Machine.execNvmPollTimeout s

end Sys2Proof.Machine
end

