-- ==== Sys2Proof/Machine/Balls.lean ====
section
/-! DEFINITION. The balls of the package (R19, R21, R208): what each does in a state of the machine. Inputs that a command samples come with that command; here is what the device makes of its balls. -/
namespace Sys2Proof.Machine

/-- R17, R19: the balls, as the rows of R19 group them. `vin`, `sw`, `out` and `fb` are those of an integrated domain (2 HOUSE to 8 SENSE, 10 FIELD), `pwm` and `cs` those of a phase 1 to 6, `rst` RSTA_N, RSTB_N and RSTC_N (0 to 2). VDRV is a ball of the bus, and DFB one of DRIVE. -/
inductive Ball where
  | line | lgate | lsense | srcid | vdrv | dfb | batp | wgate | bcs | chgHg | chgLg | chgSw | chgBst | chgCs | lockVin | lockOut
  | pwm (k : Nat) | cs (k : Nat) | dcs | syncIn | syncOut | vin (n : Nat) | sw (n : Nat) | out (n : Nat) | fb (n : Nat) | ain | ntc | internal | crystal | vbkup
  | pbN | mrN | wake | stroke | pfwN | alive | rst (i : Nat) | test | straps | wlTx | wlDe | wlRx | pack | nvmOut | nvmIn | vnvm | vioh | hostIn | hsdo
deriving DecidableEq, Repr

/-- R19: what a ball does: high impedance, input active, driven low or high, a gate clamped to its source, an output that is off, or operating as its owning chapter says; an input that the device ignores; a strap that is read at the events the table names, or is latched. -/
inductive BallState where
  | z | input | low | high | clamped | off | act | ignored | read | latched
deriving DecidableEq, Repr

/-- R19: one of the three columns of the table. -/
def State.byColumn (s : State) (dead idle live : BallState) : BallState := if !s.aoOn then dead else if s.running then live else idle

/-- R19: a ball of domain n, dead in DEAD and SHIP at high impedance: in POWER-UP and POWER-DOWN it follows the domain's enable. In WATCH and RUN it reads as the column of R19, whether or not the domain, its
supply, is commanded on (DESIGN CHOICE, log entry 83: R21 would have it at high impedance with the domain off). -/
def State.ofDomain (s : State) (n : Nat) (idle live : BallState) : BallState :=
  s.byColumn .z idle (if (s.power = .powerUp || s.power = .powerDown) && !s.cmdOn n then idle else live)

/-- R19, R21, R36: a ball supplied by VIOH is at high impedance without it. -/
def State.ofVioh (s : State) (b : BallState) : BallState := if s.sup.vioh then b else .z

/-- R19, R70: a ball of the NVM's bus, and VNVM, are released at high impedance while MR_N is low. With VNVM off NCS_N, NSCK and NSI are low in WATCH and RUN as in the idle column (DESIGN CHOICE, log entry 83:
the live column says Act, and R21 would have them at high impedance). -/
def State.ofNvm (s : State) (rest : BallState) : BallState :=
  let b : BallState := if s.ctl.mrLow then .z else if s.nvm.vnvm then .act else rest
  s.byColumn .z b b

/-- R21: a ball whose supply, LINE or BATT, stands at this level is at high impedance where the supply is off: at 0 V (DESIGN CHOICE, log entry 83). -/
def ofSupply (level : Nat) (b : BallState) : BallState := if level = 0 then .z else b

/-- A driven level. -/
def level (b : Bool) : BallState := if b then .high else .low

/-- R19, R21: what a ball does; SYNC_IN, SYNC_OUT and the senses of DRIVE are balls of domain 1, and CHG_SW and CHG_BST are off where R19's column names only the two gates between them (DESIGN CHOICE,
log entry 83). R464: a standalone device holds WL_DE low and WL_TX high. -/
def State.ball (s : State) (b : Ball) : BallState :=
  match b with
  | .line => s.byColumn .z .input .input
  | .lgate => ofSupply s.sup.lineDv (s.byColumn .z .clamped .act)
  | .lsense => ofSupply s.sup.lineDv (s.byColumn .z .input .input)
  | .srcid => if s.aoFed then .read else .z
  | .vdrv => s.byColumn .z .z .input
  | .dfb => s.ofDomain 1 .z .input
  | .batp => s.byColumn .z .input .input
  | .wgate => ofSupply s.sup.battMv (s.byColumn (if s.power = .ship then .clamped else .z) .clamped .act)
  | .bcs => s.byColumn .z .z .input
  | .chgHg => s.byColumn .z .clamped .act
  | .chgLg => s.byColumn .z .low .act
  | .chgSw => s.byColumn .z .off .act
  | .chgBst => s.byColumn .z .off .act
  | .chgCs => s.byColumn .z .z .input
  | .lockVin => s.ofDomain 9 .z .input
  | .lockOut => s.ofDomain 9 .off .act
  | .pwm k => s.ofDomain 1 .z (if s.switches k then .act else .z)
  | .cs _ => s.ofDomain 1 .z .input
  | .dcs => s.ofDomain 1 .z .input
  | .syncIn => s.ofDomain 1 .z .input
  | .syncOut => s.ofDomain 1 .low (if s.syncOut.isSome then .act else .low)
  | .vin n => s.ofDomain n .z .input
  | .sw n => s.ofDomain n .off .act
  | .out n => s.ofDomain n .off .act
  | .fb n => s.ofDomain n .z .input
  | .ain => s.byColumn .z .z .input
  | .ntc => s.byColumn .z .z .input
  | .internal => s.byColumn .z .act .act
  | .crystal => if s.aoOn || s.sup.vbk150 then .act else .z
  | .vbkup => .input
  | .pbN => s.byColumn (if s.power = .ship && 5000 ≤ s.sup.battMv then .input else .z) .input .input
  | .mrN => s.byColumn .z .input .input
  | .wake => s.byColumn .z .input .input
  | .stroke => s.byColumn .z (s.ofVioh .ignored) (s.ofVioh .input)
  | .pfwN => s.byColumn .z (if s.pfw then .low else .z) (if s.pfw then .low else .z)
  | .alive => s.byColumn .z (s.ofVioh .low) (s.ofVioh (level s.ctl.alive))
  | .rst i => s.byColumn .z .low (if s.rstLow i then .low else .z)
  | .test => s.byColumn .z .input .input
  | .straps => s.byColumn .z .read .latched
  | .wlTx => s.byColumn .z .low (if s.isManager || s.isWorker then .act else .high)
  | .wlDe => s.byColumn .z .low (if s.isManager || s.isWorker then .act else .low)
  | .wlRx => s.byColumn .z .input .input
  | .pack => s.byColumn .z .z (if s.gau.stage = .idle || !s.nvm.vnvm then .z else .act)
  | .nvmOut => s.ofNvm .low
  | .nvmIn => s.byColumn .z .input .input
  | .vnvm => s.ofNvm .off
  | .vioh => .input
  | .hostIn => s.byColumn .z (s.ofVioh .input) (s.ofVioh .input)
  | .hsdo => .z

end Sys2Proof.Machine
end

