-- ==== Sys2Proof/WellFormed.lean ====
section
/-! DEFINITION. Which commands are well formed: their operands lie in the ranges that the spec gives what they stand for. -/
namespace Sys2Proof

/-- A number from lo to hi. -/
def inRange (lo hi v : Nat) : Bool := decide (lo ≤ v) && decide (v ≤ hi)

/-- R115: the opcodes that every version has: no selected version lacks them. -/
def everOpcodes : List Nat := [0x00, 0x01, 0x02, 0xF0, 0xF1]

/-- R474: an answer's fields fit. -/
def Answer.wf (a : Answer) : Bool := decide (a.kind < 8) && decide (a.addr < 32) && decide (a.data < 65536)

/-- R11, R429: a two's complement word. -/
def isInt16 (v : Int) : Bool := decide (-32768 ≤ v) && decide (v ≤ 32767)

/-- The operands of a command lie in their ranges. -/
def Instr.wf (i : Instr) : Bool :=
  match i with
  | .learnedReadDone a b => decide (a.length = 2048) && decide (b.length = 2048)
  | .fflogReadDone r => decide (r.length = 256)
  | .verifyReadDone b => decide (b.length = 2048)
  | .wakePinEdge pin _ => inRange 1 2 pin
  | .thermalShutdown k => decide (k < 8)
  | .shutdownRelease k => decide (k < 8)
  | .reservedOpcode op f => f.opCut || !everOpcodes.contains op.toNat
  | .statusPoll target _ => decide (target < 128)
  | .engineStart k | .engEnd k | .enableDomain k | .enableSequence k | .enableResetRelease k | .enableMonitor k | .enableShedSet k | .disableDomain k | .disableSequence k
  | .disableReset k | .disableMonitor k | .disableShedSet k | .set k | .wait k | .waitExpiry k | .waitc k _ | .waitcConditionMet k _ | .waitcTimeout k | .check k _ | .jump k _
  | .signalSetFlags k | .signalClearFlags k | .signalDrivePin k | .signalRaiseSource k | .signalPostReport k | .signalStartTimer k | .signalRequestState k | .sync k
  | .syncRelease k | .loop k | .engStall k => decide (k < 12)
  | .timerExpiry t => decide (t < 4)
  | .softStartEnd n | .inputLockoutChange n _ | .currentLimitActs n => inRange 2 10 n
  | .powerGood n | .underVoltageReport n | .dischargeEnd n | .domCntclr n _ => inRange 1 10 n
  | .comparatorChange k _ sw | .blankingEnd k _ sw => decide (k < 16) && sw.turnOns.all (inRange 1 10)
  | .resetOutputRelease i => decide (i < 3)
  | .supervisionTick l sw => l.all (fun e => decide (e.1 < 16)) && sw.turnOns.all (inRange 1 10)
  | .dvsSetpointWrite n _ | .dvsTargetReached n | .dvsSlewDone n => inRange 4 5 n
  | .balanceUpdate l _ => decide (l.length = 6)
  | .driveFastLimit k _ | .hiccupEntry k | .openPhaseDetect k _ => inRange 1 6 k
  | .senseFailDetect k t _ => inRange 1 6 k && inRange 1 3 t
  | .phaseRetire l => l.all (inRange 1 6)
  | .provingSample k _ _ => decide (k < 3)
  | .streamInterval k _ => decide (k < 8)
  | .adcConversionStart _ k => decide (k.getD 0 < 8)
  | .coulombResult r => isInt16 r
  | .chargerStepSample k _ _ => inRange 2 3 k
  | .authResponseRead l => decide (l.length = 40)
  | .milestoneReceived t f h a b => decide (t < 32) && decide (f < 65536) && decide (h < 65536) && a.wf && b.wf
  | .statusFrameReceived a p | .requestFrameReceived a p | .releaseFrameReceived a p => inRange 1 31 a && decide (p < 4294967296)
  | .joinFrameReceived a n d => inRange 1 31 a && decide (n < 256) && (match d with | some i => decide (i < 18446744073709551616) | none => true)
  | .leaveFrameReceived a | .workerAbsent a => inRange 1 31 a
  | .relayRequestReceived _ n => inRange 1 16 n
  | .relayReplyReceived a ws => inRange 1 31 a && inRange 1 16 ws.length
  | .adcConversionDone s c _ => decide (s < 3) && decide (c < 4096)
  | .adcResLoRead c | .adcResHiRead c => decide (c < 64)
  | .calStepEnd a b => decide (a ≤ 262080) && decide (b ≤ 262080)
  | .bgCalDone a => decide (a ≤ 262080)
  | .fltFrc k _ => decide (k < 8)
  | .aoReady _ _ | .srcidReadDone _ | .preregStart _ _ | .preregStop _ _ | .aoBrownout | .vbkupLevelChange _ | .viohLoss | .crystalStable | .lfXtalFail | .fastOscStart | .fastOscIdleStop | .fastOscFail
  | .imageReadDone _ _ _ | .pinReset | .resetShutdownEnd | .mrNRelease | .sysReset _ | .sysShip _ | .sysCtrlReqRun | .sysCtrlReqWatch | .sysCtrlReqHibernate | .minOffExpiry
  | .pbPress | .pbRelease _ | .pbLongWarning | .pbForceOff | .pbShipHold | .pfwHoldExpiry _ | .thermalRestart | .nop _ | .rd _ | .wr _ | .rdb _ | .rd32 _ | .qpop _
  | .qpopReread _ | .ack _ | .rly _ | .hello _ | .select _ | .i2cBusTimeout | .registerWrite _ _ | .hifAck _ | .hifErrRead | .ldErase _ | .fflogErase _
  | .writebackRequest _ | .ldPeriodExpiry | .writeBackRetry | .nvmAccessStart | .vnvmReady | .vnvmOff | .pageProgramDone | .nvmPollTimeout | .copyBChunkDone _ | .hkTick
  | .aliveToggle | .aliveMiss | .engTrig _ | .engDbgHalt _ | .engDbgStep _ _ | .engDbgResume _ | .controllerWatchdog _ | .generalTimerExpiry | .lockPullinEnd _
  | .lockShortCircuit _ | .lockDemagEnd | .pumaxExpiry | .pdmaxExpiry | .linePresent _ | .lineNotPresent _ | .lineWindowChange _ | .lineQualified | .lineLoss _ | .lineOvOpening _
  | .lineShortCircuit | .staggerEnd | .soaExpiry | .sluiceFullyOn _ | .retryDelayEnd | .retryCountClear | .lineImplausible | .chgokSet | .linLatchClear _ | .linCounterClear _
  | .weirTurnOn _ _ | .weirReverseBlock _ _ | .weirTakeoverDone _ _ | .weirTakeoverFail | .weirShortCircuit | .weirHandback | .driveFrame _ _ _ _ _ _ | .syncInEdge _ _ | .syncLoss
  | .hiccupEnd | .driveOverload | .phaseShed _ | .phaseReadd _ | .sheddingResume | .senseSumFail | .driveSoftStartEnd | .driveSetpointWrite _ | .driveTargetReached _ | .driveSlewDone
  | .phaseReinstate _ | .drvCntclr _ | .strokePinHint _ | .stkHint _ | .stkGo _ | .stkEnd _ | .stkCancel _ | .prearmTimeout | .strokeSample _ | .strokeStartDetect | .strokeEndDetect
  | .batteryPhaseEnd | .recorderTimeExtension | .stkRefctl _ | .stkCntclr _ | .batteryInserted _ | .batteryRemoved | .presenceProbe | .chargePhaseChange _ | .chargeTermination
  | .topoffEnd | .rechargeStart | .prechargeTimerExpiry | .safetyTimerExpiry | .chgBatOv | .chgBatOvRecover | .chgStageOc | .chgStageRestart | .chgVinLow | .chgWatchdogExpiry
  | .chgWdKick _ | .chgFaultRetry _ | .chgCntClear _ | .ccRange | .gauAccRead | .gaugeSecond _ | .voltageSaysEmpty | .restPoint _ | .authRequest _ | .relearnSet _ | .authPeriodic
  | .authReadRetry _ | .authBusHeld | .authAttemptRetry | .turnOrigin | .workerSlotSend | .joinSend | .joinRetry | .waylineFrameError | .wayOrphan | .foreignMilestone
  | .managerSilenceEnd | .leaseEnd | .leaseRenewalDue | .relayWindow | .wayRstcmd _ | .wayCntclr _ | .adcRoundStart _ | .adcInj _ | .injFlush _ | .calZero _
  | .calFull _ | .calStepStart | .bgCalStart | .throttleEnforce | .throttleRelease | .thmCntclr _ | .rtcTick | .rtcSet _ | .rtcStep _ | .rtcCancel _ | .rtcPendingApply | .rtcSec0Read
  | .rtcFracRead | .fltTest _ | .fltCntclr _ | .queueFlush _ | .mrqCounterClear _ | .viohReturn | .chgVinLowRecover | .thrstWindowExpiry | .chargerAllowanceUpdate _ _ _ _ _ => true

end Sys2Proof
end

