-- ==== Sys2Proof/Safety.lean ====
section
/-! DEFINITION. What a state that a run can reach looks like, and what a safe run is. -/
namespace Sys2Proof.Machine

/-- The form that every step keeps: the register file is canonical, and every list that stands for a fixed number of like things has its number of members. -/
def State.wf (s : State) : Bool :=
  s.regs.wf && s.dom.length = 10 && s.eng.length = 12 && s.tim.length = 4 && s.rtcx.was.length = 2 && s.adc.slices.length = 3 && s.way.recs.length = 31

/-- R130, R655: what holds between two commands: outside BOOT no packet waits for its commit, and the status bits whose changes set ATTN have been seen as they stand. -/
def State.closed (s : State) : Bool := (s.power = .boot || (s.mrq.outbox.isEmpty && s.mrq.opened.isEmpty)) && s.hif.seen = s.liveBits

/-- R118: a frame that carries its command CRC: the opcode, the bytes after it, and how many bytes of the reply the host transfers. -/
def sealFrame (code : Byte) (body : List Byte) (taken : Nat) : Frame := ⟨0, false, body ++ [crc8 (code :: body)], false, taken, false⟩

/-- R40, R115: the device once a frame has started the fast oscillator. -/
def State.clocked (s : State) : State := { s with sup := { s.sup with fastOn := true } }

/-- R36, R39: the state that a host write finds: where the interface is alive, the frame that carries it has started the fast oscillator. -/
def State.framed (s : State) : State := if s.hostAlive then s.clocked else s

/-- R114, R116, R118, R129, R132: state t with the reply that an accepted frame gets whose status word and version are those of state s: its data words, its CRC where `crc`, and the bytes on the port; PERR of the next reply
is 0. -/
def State.replied (s t : State) (code : Byte) (f : Frame) (ws : List Word) (crc : Bool) : State :=
  let r := goodReply (s.statusWord s.hif.perr) ws crc
  t.accept.answer r (s.frameOut code f r)

/-! ### Where the model stops (log entries 8, 9 and 36) -/

/-- R14, R120, R142, R169, R313, R498, R513, R640: whether a host write of w to address a, in the state that it finds, has no defined result and stops with the fault f: no chapter maps the address; a manager's command or
budget on another device, another set of phases while DRIVE is commanded on, a word that would leave a reserved code; a debug STEP of a halted engine. -/
def State.writeStops (s : State) (a : Nat) (w : Word) (f : Fault) : Bool :=
  match f with
  | .unmappedAddress b => b = a && !mapped a
  | .undefinedWrite b =>
    b = a && mapped a && !(s.power = .boot && survivalOf a = .config) &&
      (((a = A.WAY_RSTCMD || a = A.WAY_MBUDGET) && !s.isManager) || (a = A.DRV_PHEN && s.drvOn && decide (F.DRV_PHEN_EN.get w ≠ s.g F.DRV_PHEN_EN)) ||
        (rwMask a ≠ 0 && !wordOk a (storedWord a (s.rd a) (s.clampWord a w).1)))
  | .undefinedStep _ =>
    a = A.ENG_DBG && s.dbgActs w && F.ENG_DBG_STEP.get w = 1 && ((s.engAt (F.ENG_DBG_SEL.get w)).halted || F.ENG_DBG_HALT.get w = 1)
  | .undefinedImage _ => false

/-- R120: whether a WR of a frame stops with the fault f at one of its words, in the state that the words before it have left. -/
def State.frameStops (s : State) (fr : Frame) (f : Fault) : Bool :=
  s.hostAlive &&
    match s.checkFrame 0x02#8 fr with
    | .error _ => false
    | .ok c => (List.range c.data.length).any (fun i =>
        match s.clocked.hostWrites c.addr (c.data.take i) with
        | .error _ => false
        | .ok t => t.writeStops (c.addr + i) (c.data.getD i 0) f)

/-- R153 to R161, R164, R171: whether the step at engine k's offset is one whose result the spec calls undefined: a reserved bit or code, an unused domain, a reserved code in a SET, a target at or beyond the length. -/
def State.stepUndefined (s : State) (k : Nat) : Bool :=
  match s.stepAt k with
  | .error _ => true
  | .ok (.enable kind mask) => (kind = 0 && s.unusedIn (maskDomains mask)) || (kind = 4 && s.unusedIn (maskDomains (s.g F.SYS_SHEDMASK_SHED)))
  | .ok (.set i v) => reservedSet i v
  | .ok (.check _ act _ _ t) => !act && decide (s.engLen k ≤ t)
  | .ok (.jump _ _ _ t) => decide (s.engLen k ≤ t)
  | .ok (.loop _ _ t) => decide (s.engLen k ≤ t)
  | _ => false

/-- R146, R171: whether a row of engine k's steps or waits stops with the fault f: the engine is at an undefined step, which it executes or waits in. -/
def State.stepStops (s : State) (k : Nat) (f : Fault) : Bool :=
  (s.mayStep k || s.waitsFor k .time || s.waitsFor k .cond || s.waitsFor k .flag) && s.stepUndefined k && (match f with | .undefinedStep _ => true | _ => false)

/-- The commands that may stop with a fault, and where each does: an image whose valid copy holds what the spec calls undefined (R78, R640), a host write without a defined result, and a step of an engine without one. -/
def State.mayStop (s : State) (c : Instr) (f : Fault) : Bool :=
  match c with
  | .imageReadDone a b _ => s.power = .boot && s.ctl.resetting.isNone && s.nvm.bootStep = 0 && (imgState a = 1 || imgState b = 1) && (match f with | .undefinedImage _ => true | _ => false)
  | .registerWrite a w => s.hostAlive && s.clocked.writeStops a.toNat w f
  | .dvsSetpointWrite n w => s.hostAlive && s.clocked.writeStops (A.DOM_VSET n) w f
  | .driveSetpointWrite w => s.hostAlive && s.clocked.writeStops A.DRV_VSET w f
  | .wayRstcmd _ => s.hostAlive && !s.isManager && f = .undefinedWrite A.WAY_RSTCMD
  | .engDbgHalt w | .engDbgResume w | .engDbgStep w _ => s.hostAlive && s.clocked.writeStops A.ENG_DBG w f
  | .wr fr => s.frameStops fr f
  | .reservedOpcode op fr => op = 0x02#8 && s.frameStops fr f
  | .engEnd k | .enableDomain k | .enableSequence k | .enableResetRelease k | .enableMonitor k | .enableShedSet k | .disableDomain k | .disableSequence k | .disableReset k | .disableMonitor k | .disableShedSet k
  | .set k | .wait k | .waitExpiry k | .waitc k _ | .waitcConditionMet k _ | .waitcTimeout k | .check k _ | .jump k _ | .sync k | .syncRelease k | .loop k
  | .signalSetFlags k | .signalClearFlags k | .signalDrivePin k | .signalRaiseSource k | .signalPostReport k | .signalStartTimer k | .signalRequestState k => s.stepStops k f
  | _ => false

/-- A run of n steps that stops at no fault and no refusal. -/
def safe (s : State) (n : Nat) : Prop := ∃ t, Host.Core.run ⟨State, Fault, Refusal, step, State.reset⟩ n s = .next t

end Sys2Proof.Machine
end

