-- ==== Sys2Proof/Certificates/Slice0/Obligations.lean ====
section
/-! DEFINITION. The statements for the provers. In every statement about a command, `State.settle` is what ends each command within its step time: the collector judges what was raised (R622, R630), what follows at once
from the new state takes place, packets commit (R655) and changed status bits set ATTN (R130). The state in front of it is the command's own effect, written out, so that whatever it does not name is unchanged. -/

open Sys2Proof Sys2Proof.Machine

/-! ### The queue of commands, reset, and what every step keeps -/

/-- A step takes the command at the front of the queue and executes it on the state with the queue's rest.
With no command waiting and no shutdown in slots in progress a step changes nothing, and with one in progress (R194) it takes its next slot of 100 µs: every domain of the highest rank held is commanded off, every other domain stays as it
is commanded, and HALTSD says whether any still holds a rank. That the empty queue idles, and that a slot passes there, is the model's choice (log entry 4, DESIGN CHOICE). -/
def Obligations.StepTakesFront : Prop :=
  (∀ (s : State) (c : Instr) (r : List Instr), s.pending = c :: r → step s = exec c { s with pending := r }) ∧
  (∀ s : State, s.pending = [] → s.ctl.seqOff = [] → step s = .next s) ∧
  (∀ s : State, s.pending = [] → s.ctl.seqOff ≠ [] → ∃ e : State, step s = .next e.settle ∧ (∀ n ∈ domains, e.cmdOn n = (s.cmdOn n && decide (s.rank n ≠ s.topRank))) ∧ e.ctl.seqOff = e.byRank ∧
    e.b F.DOM_SEQSTAT_HALTSD = !e.byRank.isEmpty)

/-- R42, R57, R63, R64, R133, R651, R658: what the machine holds right after the cold start that State.reset is (log entry 2): BOOT, P1, SYS_RSTCAUSE with COLD, RTCLOST and LAST 1, an empty queue, stopped engines and
every domain off; the register file is in its canonical form, and what EveryStepCloses keeps holds. -/
def Obligations.ResetState : Prop :=
  State.reset.pending = [] ∧ State.reset.sysState % 16 = 1 ∧ State.reset.rd A.HIF_VER = 1 ∧ State.reset.rd A.SYS_RSTCAUSE = 0x8201#16 ∧ State.reset.qne = false ∧ State.reset.mrq.free = 4096 ∧
  State.reset.rd A.FLT_TEST = 0 ∧ State.reset.rd A.SYS_CFG = 0x0024 ∧ State.reset.rd A.SYS_PBCFG = 0x0043 ∧
  (∀ e ∈ State.reset.eng, e.mode = .stopped ∧ e.pend = []) ∧ (∀ n ∈ domains, State.reset.cmdOn n = false ∧ State.reset.pg n = false) ∧ State.reset.wf = true ∧ State.reset.closed = true

/-- R130, R655: `closed` says that outside BOOT no packet waits for its commit and that the live status bits (FAULT, PFW, THR_REQ, THR_ENF, WDF, DEGR) have been seen as they stand. From every such state, whatever command
waits, a step that answers a next state answers one that is closed again. That a command ends with its own step time, and that the packets of a BOOT wait for its end, are the model's readings (log entries 10 and 38, DESIGN CHOICE and DEDUCED). -/
def Obligations.EveryStepCloses : Prop := ∀ s t : State, s.closed = true → step s = .next t → t.closed = true

/-- Which commands may stop, and in which states. No command is refused; and one that stops with a fault is one of those that `mayStop` names, in the state that it names: the image read of BOOT with a valid copy (R78, R640), a host
write whose result R142, R313, R498 or R640 calls undefined, as a row of its own or as a word of a WR, and a row of an engine that is at a step whose result R153 to R164 or R171 calls undefined. In every other state these commands, and every
other command in every state, answer a next state. That a result the spec calls undefined is a fault is the model's choice (log entries 8, 9 and 36). -/
def Obligations.FaultsOnlyWhereUndefined : Prop :=
  ∀ (c : Instr) (s : State), (∀ r, exec c s ≠ .refused r) ∧ (∀ f, exec c s = .fault f → s.mayStop c f = true)

/-- R129, R130: the status word shows in bit 14 whether the device is in FAULT, in bit 13 whether PFW_N is asserted, in bits 12 and 11 THRREQ and THRENF, in bit 2 WDF and in bit 1 DEGR; these are the live bits. From every closed state with AO powered,
whatever command is executed, a next state with AO powered in which one of them has changed has ATTN set. -/
def Obligations.LiveChangeSetsAttn : Prop :=
  (∀ (s : State) (perr : Bool), s.statusWord perr &&& 0x7806#16 = BitVec.ofNat 16 s.liveBits ∧ (s.statusWord perr).getLsbD 14 = decide (s.power = .fault) ∧ (s.statusWord perr).getLsbD 13 = s.pfw ∧
    (s.statusWord perr).getLsbD 12 = s.b F.THM_STAT_THRREQ ∧ (s.statusWord perr).getLsbD 11 = s.b F.THM_STAT_THRENF ∧ (s.statusWord perr).getLsbD 2 = s.chg.wdf ∧ (s.statusWord perr).getLsbD 1 = s.degr ∧
    (s.statusWord perr).getLsbD 15 = s.hif.attn ∧ (s.statusWord perr).getLsbD 0 = perr) ∧
  (∀ (c : Instr) (s t : State), s.closed = true → s.aoOn = true → exec c s = .next t → t.aoOn = true → t.liveBits ≠ s.liveBits → t.hif.attn = true)

/-- Every command, and every step, also one on an empty queue that takes a slot of a shutdown in progress (R194), keeps the form of the state: the register file canonical (R14: addresses rising, no word equal to its reset word) and the
lists that stand for a fixed number of like things of their lengths: ten domains, twelve engines, four timers, two alarms, three slices of the converter, 31 worker records. -/
def Obligations.StepKeepsWf : Prop :=
  (∀ (c : Instr) (s t : State), s.wf = true → exec c s = .next t → t.wf = true) ∧
  (∀ s t : State, s.wf = true → step s = .next t → t.wf = true)

/-- What `settle`, which ends every command, may change, and that it leaves the rest. R33, R36: without AO it drops what was raised and posted, takes the live bits as seen, and changes nothing else. R629, R655: in BOOT it keeps what was raised for the
boot report, sets no sticky bit and commits no packet. In every state it leaves the queue of commands, the pins, the clocks, the engines' timers, the RTC count, the supplies and the replies of the host interface; it clears no ATTN; and the power
state stays, or a reaction leads to FAULT, or an entry that waited for a write-back takes place (R87). Where nothing was raised and the power state stays, no domain is switched, no power-good, comparator or window changes, and the engines, the line and the
RTC stand, but for the hand-back and the reverse block of the weir, which its mode follows (R266, R269), and for the trigger 4 that a forced start of the weir brings where it is due (R268). Where, besides, nothing is posted, nothing follows and no live bit has changed, it only ends the step time (R146). -/
def Obligations.SettleFrame : Prop :=
  (∀ s : State, s.aoOn = false → s.settle = { s with flt := { s.flt with raised := [] }, mrq := { s.mrq with outbox := [], opened := [] }, hif := { s.hif with attn := s.hif.attn || decide (s.liveBits ≠ s.hif.seen), seen := s.liveBits }, ctl := { s.ctl with stepEng := s.ctl.stepNow, stepNow := none } }) ∧
  (∀ s : State, s.power = .boot → s.settle.power = .boot ∧ s.settle.mrq.pkts = s.mrq.pkts ∧ s.settle.mrq.seq = s.mrq.seq ∧ s.mrq.outbox <+: s.settle.mrq.outbox ∧ s.settle.eng = s.eng ∧ s.settle.adc = s.adc ∧ s.settle.way = s.way ∧
    (∀ n, n < 128 → s.settle.sticky n = s.sticky n) ∧ s.flt.held ++ s.flt.raised <+: s.settle.flt.held) ∧
  (∀ s : State, s.settle.pending = s.pending ∧ s.settle.pins = s.pins ∧ s.settle.ticks = s.ticks ∧ s.settle.tim = s.tim ∧ s.settle.rtc = s.rtc ∧
    s.settle.hif = { s.hif with attn := s.settle.hif.attn, chg := s.settle.hif.chg, link := s.settle.hif.link, seen := s.settle.hif.seen } ∧ s.settle.sup = { s.sup with fastOn := s.settle.sup.fastOn } ∧
    (s.hif.attn = true → s.settle.hif.attn = true) ∧ (s.settle.power = s.power ∨ s.settle.power = .fault ∨ (s.power = .powerDown ∧ s.ctl.entryWaits.isSome = true ∧ (s.settle.power = .hibernate ∨ s.settle.power = .ship)))) ∧
  (∀ s : State, s.flt.raised = [] → s.settle.power = s.power → (s.line.t4Due = false ∨ s.weirForcedOn = false) → (∀ n ∈ domains, s.settle.cmdOn n = s.cmdOn n ∧ s.settle.pg n = s.pg n ∧ s.settle.rank n = s.rank n) ∧
    (∀ k, k < 16 → s.settle.under k = s.under k ∧ s.settle.over k = s.over k ∧ s.settle.blanked k = s.blanked k) ∧ s.settle.eng = s.eng ∧ s.settle.line = { s.line with weirBlocked := s.settle.line.weirBlocked, handback := s.settle.line.handback, hbWait := s.settle.line.hbWait } ∧ s.settle.way.grants = s.way.grants ∧ s.settle.rtcx = s.rtcx) ∧
  (∀ s : State, s.aoOn = true → s.power ≠ .boot → s.flt.raised = [] → s.mrq.outbox = [] → s.mrq.opened = [] → s.followUp = s → s.followOn = s → s.liveBits = s.hif.seen → s.settle = { s with ctl := { s.ctl with stepEng := s.ctl.stepNow, stepNow := none } })

/-! ### Supplies and clocks -/

/-- R33, R34, R36: the pre-regulator starts in DEAD and VBKUP ONLY; a fall of VBKUP below 1.75 V raises source 97 while AO runs; the loss of VIOH selects P1, and raises source 98 in the states with engines; its return is taken.
R38, R39, R634: the crystal takes over the LF clock where SYS_CFG asks for it; a crystal that fails there is recorded and raises source 100; the fast oscillator starts, and stops where neither the state nor a demand keeps it running;
its failure stops ALIVE and raises source 101.
R34, R36, R52: where AO loses its supply, by a stop of the pre-regulator or by a brown-out, the device is in VBKUP ONLY where VBKUP holds 1.75 V and else in DEAD, the islands lose what VBKUP cannot hold, every volatile
and configuration register returns to its reset word but for the latched straps and the charger's state, and no packet is left; after a brown-out AO is awaited again.
R23, R24, R33, R43, R52, R57: AO ready enters BOOT: a cold start where the retention island lost its contents, an AO brown-out reset where it kept them, recorded in SYS_RSTCAUSE; the codes of the strap voltages are latched.
That the registers return to their reset words at once at the loss of AO, and what each island then loses, is the model's reading (log entry 76, DEDUCED).
Says complete: preregStart, vbkupLevelChange, viohLoss, viohReturn, crystalStable, lfXtalFail, fastOscStart, fastOscIdleStop, fastOscFail, preregStop, aoBrownout, aoReady. -/
def Obligations.SuppliesAndClocks : Prop :=
  (∀ (s : State) (l b : Nat), (s.power = .dead ∨ s.power = .vbkupOnly) → exec (.preregStart l b) s = .next ({ s with sup := { s.sup with lineDv := l, battMv := b, starting := true } } : State).settle) ∧
  (∀ (s : State) (mv : Nat), s.aoOn = true → s.sup.vbk175 = true → mv < 1750 →
    exec (.vbkupLevelChange mv) s = .next (({ s with sup := { s.sup with vbk175 := false, vbk150 := decide (1500 ≤ mv) } } : State).raise 97).settle) ∧
  (∀ s : State, exec .viohLoss s = .next ((({ s with sup := { s.sup with vioh := false } } : State).wn A.HIF_VER 1).when s.running (·.raise 98)).settle) ∧
  (∀ s : State, exec .viohReturn s = .next ({ s with sup := { s.sup with vioh := true } } : State).settle) ∧
  (∀ s : State, s.aoOn = true → s.b F.SYS_CFG_LFXTAL = true → s.sup.xtalGiven = false → exec .crystalStable s = .next (s.p F.SYS_CLK_LFSRC 1).settle) ∧
  (∀ s : State, s.aoOn = true → s.b F.SYS_CFG_LFXTAL = true → s.sup.xtalGiven = false →
    exec .lfXtalFail s = .next ((({ (s.p F.SYS_CLK_LFSRC 0).p F.SYS_CLK_LFFAIL 1 with sup := { s.sup with xtalGiven := true } } : State)).raise 100).settle) ∧
  (∀ s : State, s.aoOn = true → exec .fastOscStart s = .next ({ s with sup := { s.sup with fastOn := true } } : State).settle) ∧
  (∀ s : State, s.aoOn = true → s.power ≠ .run → s.power ≠ .boot → s.power ≠ .powerUp → s.power ≠ .powerDown → s.fastDemand = false →
    exec .fastOscIdleStop s = .next ({ s with sup := { s.sup with fastOn := false } } : State).settle) ∧
  (∀ s : State, s.aoOn = true → exec .fastOscFail s = .next (({ s with ctl := { s.ctl with aliveHeld := true, alive := false, alvStop := 4 } } : State).raise 101).settle) ∧
  (∀ (s : State) (c : Instr), s.aoOn = true → (c = .aoBrownout ∨ ∃ l b, c = .preregStop l b) →
    ∃ e : State, exec c s = .next e.settle ∧ e.power = (if s.sup.vbk175 then .vbkupOnly else .dead) ∧ e.sup.retLost = (s.sup.retLost || !s.sup.vbk175) ∧ e.sup.rtcLost = (s.sup.rtcLost || !s.sup.vbk150) ∧
      e.sup.starting = decide (c = .aoBrownout) ∧ e.mrq.pkts = [] ∧ (∀ a, a ≠ A.SYS_STRAP → a ≠ A.CHG_STAT → survivalOf a = .volatile ∨ survivalOf a = .config → e.rd a = resetWord a)) ∧
  (∀ (s : State) (straps : Straps) (pack : Bool), (s.power = .dead ∨ s.power = .vbkupOnly) → s.sup.starting = true →
    ∃ e : State, exec (.aoReady straps pack) s = .next e.settle ∧ e.power = .boot ∧ e.sup.starting = false ∧ e.sup.pack = pack ∧ e.nvm.bootStep = 0 ∧
      e.g F.SYS_STRAP_ROLE = roleOf (sixLevel straps.role) ∧ e.g F.SYS_STRAP_HSEL = sixLevel straps.hsel ∧ e.rn A.SYS_STRAP % 64 = 8 * sixLevel straps.addrH + sixLevel straps.addrL ∧
      e.g F.SYS_RSTCAUSE_LAST = (if s.sup.retLost then 1 else 2) ∧ (if s.sup.retLost then e.b F.SYS_RSTCAUSE_COLD = true else e.b F.SYS_RSTCAUSE_BOR = true) ∧ e.ctl.strapDue = false)

/-! ### BOOT and resets -/

/-- R71, R72, R81: BOOT with no valid copy of the image: SYS_IMGSTAT tells of no copy and of the two states, every configuration register stands at its default, source 110 raises, and BOOT goes on to the learned data. With
a valid format-3 copy that holds no section, read as copy A or, where A is not valid, as copy B: SYS_IMGSTAT names the copy, SYS_IMGVER and SYS_IMGCRC read what its header says, every configuration register stands at its default,
a fall back to copy B raises source 111, and BOOT goes on to the learned data.
R77, R78: a REGISTER LOAD of one entry, in an image of one section, loads its word and leaves every other configuration register at its default. R82, R698: in format 2 the entry goes to its counterpart, here address 0x70 to DRV_VSET; one without a
counterpart, here 0x46, is skipped; USED of domains 7 to 10 is 0 and BGCAL 1, and SYS_IMGSTAT tells of the format.
R91 to R93: the learned data: one valid slot is taken, of two valid slots the one of the newer sequence number, and SYS_LDSTAT and SYS_LDSEQ tell which; with none, the sequence number is 0; BOOT goes on to the first-fail log.
R43, R71: BOOT ends with the first-fail log read: where nothing was raised, POWER-UP with every engine idle and trigger 0 pending for SYS alone, where an image was loaded and a start condition holds, else HIBERNATE; a raise that BOOT held and whose class is WARN or HALT leads to FAULT.
That USED of domains 7 to 10 is 0 after a format-2 image (log entry 16, DEDUCED: R82 keeps those domains disabled, and R698 names no value), that the straps of a reset are read with this read (log entry 25, DESIGN CHOICE), and that BOOT waits before it (log entry 14, DEDUCED), are the model's choices.
Says complete: imageReadDone, learnedReadDone, fflogReadDone. -/
def Obligations.BootReads : Prop :=
  (∀ (s : State) (a b : List Byte) (straps : Straps), s.power = .boot → s.ctl.resetting = none → s.nvm.bootStep = 0 → imgState a ≠ 1 → imgState b ≠ 1 →
    ∃ e : State, exec (.imageReadDone a b straps) s = .next e.settle ∧ e.g F.SYS_IMGSTAT_COPY = 0 ∧ e.g F.SYS_IMGSTAT_ST_A = imgState a % 4 ∧ e.g F.SYS_IMGSTAT_ST_B = imgState b % 4 ∧ e.nvm.bootStep = 1 ∧ e.power = .boot ∧
      (∀ x, survivalOf x = .config → e.rd x = resetWord x) ∧ (⟨110, .detector, 1⟩ : Raise) ∈ e.flt.raised ∧ e.ctl.strapDue = false ∧
      (s.ctl.strapDue = true → e.g F.SYS_STRAP_ROLE = roleOf (sixLevel straps.role) ∧ e.g F.SYS_STRAP_HSEL = sixLevel straps.hsel ∧ e.rn A.SYS_STRAP % 64 = 8 * sixLevel straps.addrH + sixLevel straps.addrL) ∧
      (s.ctl.strapDue = false → e.rd A.SYS_STRAP = s.rd A.SYS_STRAP)) ∧
  (∀ (s : State) (a b x : List Byte) (straps : Straps), s.power = .boot → s.ctl.resetting = none → s.nvm.bootStep = 0 → (imgState a = 1 ∧ x = a ∨ imgState a ≠ 1 ∧ imgState b = 1 ∧ x = b) → leAt x 3 1 = 3 → leAt x 4 2 = 16 → leAt x 12 2 = 0 →
    ∃ e : State, exec (.imageReadDone a b straps) s = .next e.settle ∧ e.g F.SYS_IMGSTAT_COPY = (if imgState a = 1 then 1 else 2) ∧ e.g F.SYS_IMGSTAT_ST_A = imgState a % 4 ∧ e.rn A.SYS_IMGVER = leAt x 6 2 ∧
      e.r32 (A.SYS_IMGCRC 0) = leAt x 8 4 ∧ e.nvm.bootStep = 1 ∧ e.power = .boot ∧ (∀ x, survivalOf x = .config → e.rd x = resetWord x) ∧ (imgState a ≠ 1 → (⟨111, .detector, 1⟩ : Raise) ∈ e.flt.raised)) ∧
  (∀ (s : State) (a b : List Byte), s.power = .boot → s.ctl.resetting = none → s.nvm.bootStep = 1 →
    ∃ e : State, exec (.learnedReadDone a b) s = .next e.settle ∧ e.nvm.bootStep = 2 ∧ e.power = .boot ∧
      (slotState a = 1 → (slotState b ≠ 1 ∨ seqNewer (leAt b 4 4) (leAt a 4 4) = false) → e.g F.SYS_LDSTAT_SLOT = 1 ∧ e.r32 (A.SYS_LDSEQ 0) = leAt a 4 4) ∧
      (slotState b = 1 → (slotState a ≠ 1 ∨ seqNewer (leAt b 4 4) (leAt a 4 4) = true) → e.g F.SYS_LDSTAT_SLOT = 2 ∧ e.r32 (A.SYS_LDSEQ 0) = leAt b 4 4) ∧
      (slotState a ≠ 1 → slotState b ≠ 1 → e.g F.SYS_LDSTAT_SLOT = 0 ∧ e.r32 (A.SYS_LDSEQ 0) = 0)) ∧
  (∀ (s : State) (ring : List Byte), s.power = .boot → s.ctl.resetting = none → s.nvm.bootStep = 2 → s.flt.held = [] → s.flt.raised = [] →
    ∃ e : State, exec (.fflogReadDone ring) s = .next e.settle ∧
      (if s.g F.SYS_IMGSTAT_COPY ≠ 0 && s.startRule then e.power = .powerUp ∧ (∀ k, k < s.eng.length → (e.engAt k).mode = .idle ∧ (e.engAt k).pend = if k = 0 then [0] else []) else e.power = .hibernate)) ∧
  (∀ (s : State) (a b x : List Byte) (straps : Straps), s.power = .boot → s.ctl.resetting = none → s.nvm.bootStep = 0 → (imgState a = 1 ∧ x = a ∨ imgState a ≠ 1 ∧ imgState b = 1 ∧ x = b) →
    leAt x 3 1 = 3 → leAt x 4 2 = 24 → leAt x 12 2 = 1 → leAt x 14 2 = 4 → leAt x 16 2 = A.DRV_VSET → leAt x 18 2 ≤ 2400 → leAt x 20 2 = 0 →
    ∃ e : State, exec (.imageReadDone a b straps) s = .next e.settle ∧ e.b F.SYS_IMGSTAT_FMT2 = false ∧ e.rn A.DRV_VSET = leAt x 18 2 ∧ (∀ x, survivalOf x = .config → x ≠ A.DRV_VSET → e.rd x = resetWord x)) ∧
  (∀ (s : State) (a b x : List Byte) (straps : Straps), s.power = .boot → s.ctl.resetting = none → s.nvm.bootStep = 0 → (imgState a = 1 ∧ x = a ∨ imgState a ≠ 1 ∧ imgState b = 1 ∧ x = b) →
    leAt x 3 1 = 2 → leAt x 4 2 = 24 → leAt x 12 2 = 1 → leAt x 14 2 = 4 → (leAt x 16 2 = 0x70 ∨ leAt x 16 2 = 0x46) → leAt x 18 2 ≤ 2400 → leAt x 20 2 = 0 →
    ∃ e : State, exec (.imageReadDone a b straps) s = .next e.settle ∧ e.b F.SYS_IMGSTAT_FMT2 = true ∧ e.rd A.DRV_VSET = (if leAt x 16 2 = 0x70 then BitVec.ofNat 16 (leAt x 18 2) else resetWord A.DRV_VSET) ∧
      (∀ n ∈ [7, 8, 9, 10], e.b (F.DOM_CFG_USED n) = false) ∧ e.b F.ADC_CFG_BGCAL = true ∧
      (∀ x, survivalOf x = .config → x ≠ A.DRV_VSET → x ≠ A.ADC_CFG → x ∉ ([7, 8, 9, 10] : List Nat).map A.DOM_CFG → e.rd x = resetWord x)) ∧
  (∀ (s : State) (ring : List Byte) (r : Raise), s.power = .boot → s.ctl.resetting = none → s.nvm.bootStep = 2 → s.flt.held = [r] → s.flt.raised = [] → s.srcEn r.source = true → 2 ≤ s.appliedClass r →
    ∃ e : State, exec (.fflogReadDone ring) s = .next e.settle ∧ e.power = .fault ∧ e.sticky r.source = true)

/-- R52, R53, R57: a pin reset with AO powered, and a host reset by its key with the host interface alive, are taken: BOOT begins at its first step, SYS_RSTCAUSE records the kind, every domain is off, the engines are stopped, the sluice is
open, and volatile and configuration registers are at their reset words but for the straps, which are read anew; BOOT's first step waits for the end of the shutdown, and after a pin reset, or with MR_N low, for MR_N. Any other word written to
SYS_RESET changes nothing. The end of the shutdown lets BOOT go on after a host reset; after a pin reset the release of MR_N does.
That the slots of the shutdown (R53, R194) all pass within the reset's own step, that the straps are read with the image read that follows, with the voltages that it carries, and that BOOT waits for RESET_SHUTDOWN_END, are the model's choices (log entries 27, 81, 11, 25 and
14, DESIGN CHOICE and DEDUCED).
Says complete: pinReset, sysReset, resetShutdownEnd, mrNRelease. -/
def Obligations.ResetsEnterBoot : Prop :=
  (∀ (s : State) (c : Instr) (pin : Bool), (c = .pinReset ∧ pin = true ∧ s.aoOn = true ∨ c = .sysReset 0xA5C3#16 ∧ pin = false ∧ s.hostAlive = true) →
    ∃ e : State, exec c s = .next e.settle ∧ e.power = .boot ∧ e.nvm.bootStep = 0 ∧ e.g F.SYS_RSTCAUSE_LAST = (if pin then 3 else 4) ∧ e.b (if pin then F.SYS_RSTCAUSE_PIN else F.SYS_RSTCAUSE_HOST) = true ∧
      e.ctl.resetting = some (if pin || s.ctl.mrLow then .pin else .host) ∧ e.ctl.mrLow = (pin || s.ctl.mrLow) ∧ (∀ n ∈ domains, e.cmdOn n = false) ∧ (∀ x ∈ e.eng, x.mode = .stopped) ∧ e.line.fullOn = false ∧ e.line.inrush = .none ∧
      e.ctl.strapDue = true ∧ e.rd A.SYS_STRAP = s.rd A.SYS_STRAP ∧ (∀ a, a ≠ A.SYS_STRAP → survivalOf a = .volatile ∨ survivalOf a = .config → e.rd a = resetWord a)) ∧
  (∀ (s : State) (w : Word), w ≠ 0xA5C3#16 → exec (.sysReset w) s = .next s.framed.settle) ∧
  (∀ s : State, s.ctl.resetting = some .host → exec .resetShutdownEnd s = .next ({ s with ctl := { s.ctl with resetting := none } } : State).settle) ∧
  (∀ s : State, s.ctl.resetting = some .pin → exec .resetShutdownEnd s = .next s.settle ∧
    exec .mrNRelease s = .next ({ s with ctl := { s.ctl with mrLow := false, resetting := none } } : State).settle)

/-! ### Requests, wakes and the push-button -/

/-- R43, R59, R197, R198: SYS_CTRL requests. In RUN a request for WATCH enters WATCH, in WATCH one for RUN enters RUN, each with SYS's trigger; in RUN and WATCH a request for HIBERNATE begins POWER-DOWN with OFFSRC 1; in
HIBERNATE a request for RUN wakes the device.
R49, R61: the SYS_SHIP key in RUN and WATCH, with a battery present and no line qualified, begins the power-down that leads to SHIP; with the line qualified it changes nothing.
Says complete: sysCtrlReqRun, sysCtrlReqWatch, sysCtrlReqHibernate, sysShip. -/
def Obligations.ControlRequests : Prop :=
  (∀ s : State, s.sup.vioh = true → s.power = .watch → exec .sysCtrlReqRun s = .next (({ s.clocked with power := .run } : State).trig 0 3).settle) ∧
  (∀ s : State, s.sup.vioh = true → s.power = .run → s.strokeActive = false → exec .sysCtrlReqWatch s = .next (({ s.clocked with power := .watch } : State).trig 0 2).settle) ∧
  (∀ s : State, s.sup.vioh = true → (s.power = .run ∨ s.power = .watch) → ∃ e : State, exec .sysCtrlReqHibernate s = .next e.settle ∧ e.power = .powerDown ∧ e.g F.DOM_SEQSTAT_OFFSRC = 1 ∧ e.ctl.shipping = false ∧ e.ctl.onReq = none) ∧
  (∀ s : State, s.sup.vioh = true → s.power = .hibernate → ∃ e : State, exec .sysCtrlReqRun s = .next e.settle ∧ e.power = .boot ∧ e.ctl.bootFrom = .wake ∧ e.g F.SYS_WAKECAUSE_LAST = 9) ∧
  (∀ s : State, s.sup.vioh = true → (s.power = .run ∨ s.power = .watch) → s.line.qual = false → s.present = true →
    ∃ e : State, exec (.sysShip 0x5A3C#16) s = .next e.settle ∧ e.power = .powerDown ∧ e.ctl.shipping = true ∧ e.g F.DOM_SEQSTAT_OFFSRC = 3) ∧
  (∀ s : State, s.line.qual = true → exec (.sysShip 0x5A3C#16) s = .next s.framed.settle)

/-- R50, R58, R62, R198: in HIBERNATE each of the two wake pins wakes the device on the edges of its mode, rising, falling or either, and on no other; an on request that was remembered wakes it when MIN_OFF has passed; the wake enters BOOT, with the cause in SYS_WAKECAUSE.
R49, R54: the push-button. A press is accepted while PB_N was high; R44: one after PB_N has returned high ends the suppression of a force-off, FOFF, and in the power-down of the force-off itself it is remembered, and
HIBERNATE is then entered without FOFF; the warning asserts PFW_N where the force-off is enabled in a state with engines; the force-off begins POWER-DOWN with OFFSRC 2; a release after 50 ms to 2 s
in RUN posts a packet with the duration and sets ATTN; in SHIP a hold with the battery at 5.0 V or more leads to BOOT with cause 2.
What FOFF is and where it ends, in the power-down of the force-off too, and an on request remembered there, are the model's readings (log entries 25 and 26, DEDUCED and DESIGN CHOICE).
Says complete: wakePinEdge, minOffExpiry, pbPress, pbLongWarning, pbForceOff, pbRelease, pbShipHold. -/
def Obligations.WakesAndPushButton : Prop :=
  (∀ (s : State) (pin mode : Nat) (rising : Bool), s.power = .hibernate → (pin = 1 ∧ s.g F.SYS_WAKECFG_WAKE1_MODE = mode ∨ pin = 2 ∧ s.g F.SYS_WAKECFG_WAKE2_MODE = mode) →
    ((mode = 1 ∧ rising = true ∨ mode = 2 ∧ rising = false ∨ mode = 3) →
      ∃ e : State, exec (.wakePinEdge pin rising) s = .next e.settle ∧ e.power = .boot ∧ e.g F.SYS_WAKECAUSE_LAST = pin + 2 ∧ e.b (if pin = 1 then F.SYS_WAKECAUSE_WAKE1 else F.SYS_WAKECAUSE_WAKE2) = true) ∧
    ((mode = 0 ∨ mode = 1 ∧ rising = false ∨ mode = 2 ∧ rising = true) → exec (.wakePinEdge pin rising) s = .next s.settle)) ∧
  (∀ (s : State) (code : Nat), s.power = .hibernate → s.ctl.onReq = some code → code < 16 → ∃ e : State, exec .minOffExpiry s = .next e.settle ∧ e.power = .boot ∧ e.g F.SYS_WAKECAUSE_LAST = code ∧ e.b (wakeSticky code) = true) ∧
  (∀ s : State, s.power = .run → s.ctl.pb = .up →
    exec .pbPress s = .next ({ s with ctl := { s.ctl with pb := .held, foff := s.ctl.foff && !s.ctl.pbFreed, forceEnded := s.ctl.forceEnded || (s.ctl.forced && s.ctl.pbFreed) } } : State).settle) ∧
  (∀ s : State, s.power = .powerDown → s.ctl.pb = .up → s.ctl.pbFreed = true → s.ctl.forced = true →
    exec .pbPress s = .next ({ s with ctl := { s.ctl with pb := .held, foff := false, forceEnded := true, onReq := some 1 } } : State).settle) ∧
  (∀ s : State, s.power ≠ .boot → (s.enterHibernate).ctl.foff = (if s.ctl.forced then !s.ctl.forceEnded else s.ctl.foff)) ∧
  (∀ s : State, s.power = .run → s.ctl.pb = .held → s.b F.SYS_PBCFG_PB_LONG_EN = true → exec .pbLongWarning s = .next ({ s with ctl := { s.ctl with pb := .warned, pfwPb := true } } : State).settle) ∧
  (∀ s : State, (s.power = .run ∨ s.power = .watch) → s.ctl.pb = .warned → s.b F.SYS_PBCFG_PB_LONG_EN = true → ∃ e : State, exec .pbForceOff s = .next e.settle ∧ e.power = .powerDown ∧ e.g F.DOM_SEQSTAT_OFFSRC = 2) ∧
  (∀ (s : State) (ms : Nat), s.power = .run → s.ctl.pb = .held → 50 ≤ ms → ms ≤ 2000 →
    exec (.pbRelease ms) s = .next (({ s with ctl := { s.ctl with pb := .up, pbFreed := true }, hif := { s.hif with attn := true } } : State).post (.pushButton ms 5)).settle) ∧
  (∀ s : State, s.power = .ship → 5000 ≤ s.sup.battMv → ∃ e : State, exec .pbShipHold s = .next e.settle ∧ e.power = .boot ∧ e.g F.SYS_WAKECAUSE_LAST = 2)

/-- R45, R46, R47, R203, R583, R630: the end of PFW_HOLD after a WARN begins POWER-DOWN with OFFSRC 5; a thermal trip with the class of its source below WARN, and those of the queue's sources 121 and 122, which its packet may raise, enters
THERMAL-OFF, and leaves it for POWER-UP when every element is released, or, where it came from POWER-DOWN, for HIBERNATE, which keeps the count of restarts (log entry 25, DEDUCED); in FAULT
it switches every domain off, records the element and raises its source; the release clears the element's bit; a restart more than 10 minutes old no longer counts. R170, R454, R483: a watchdog of the gauge or of the link controller restarts it and raises source 106 or 107.
Says complete: pfwHoldExpiry, thermalShutdown, shutdownRelease, thermalRestart, thrstWindowExpiry, controllerWatchdog. -/
def Obligations.HoldThermalWatchdog : Prop :=
  (∀ s : State, (s.power = .run ∨ s.power = .watch) → s.ctl.holdWarn = true → ∃ e : State, exec (.pfwHoldExpiry .warn) s = .next e.settle ∧ e.power = .powerDown ∧ e.g F.DOM_SEQSTAT_OFFSRC = 5) ∧
  (∀ (s : State) (k : Nat), s.power = .run → k < 8 → s.flt.raised = [] → s.ctl.thRestarts < 3 → s.srcCls (64 + k) < 2 → s.srcCls 121 < 2 → s.srcCls 122 < 2 →
    ∃ e : State, exec (.thermalShutdown k) s = .next e.settle ∧ e.power = .thermalOff ∧ (∀ n ∈ domains, e.cmdOn n = false)) ∧
  (∀ (s : State) (k : Nat), s.power = .fault → k < 8 →
    ∃ e : State, exec (.thermalShutdown k) s = .next e.settle ∧ e.power = .fault ∧ (∀ n ∈ domains, e.cmdOn n = false) ∧ e.bit A.THM_SDSTAT k = true ∧ e.bit A.THM_SDSTAT (8 + k) = true ∧
      e.flt.raised = s.flt.raised ++ [⟨64 + k, .detector, s.power.code⟩]) ∧
  (∀ (s : State) (k : Nat), exec (.shutdownRelease k) s = .next (s.pbit A.THM_SDSTAT k false).settle) ∧
  (∀ s : State, s.power = .thermalOff → s.allCool = true → s.ctl.thFrom = .run → ∃ e : State, exec .thermalRestart s = .next e.settle ∧ e.power = .powerUp ∧ e.ctl.thRestarts = min 3 (s.ctl.thRestarts + 1)) ∧
  (∀ s : State, s.power = .thermalOff → s.allCool = true → s.ctl.thFrom = .powerDown → s.flt.incident = none → s.ctl.latched = none → s.ctl.shipping = false →
    ∃ e : State, exec .thermalRestart s = .next e.settle ∧ e.power = .hibernate ∧ e.ctl.thRestarts = min 3 (s.ctl.thRestarts + 1)) ∧
  (∀ s : State, exec .thrstWindowExpiry s = .next ({ s with ctl := { s.ctl with thRestarts := s.ctl.thRestarts - 1 } } : State).settle) ∧
  (∀ s : State, s.running = true → ∃ e : State, exec (.controllerWatchdog true) s = .next e.settle ∧ e = { s with regs := e.regs, flt := e.flt, gau := e.gau, stk := e.stk, mrq := e.mrq, hif := e.hif } ∧ (∀ a, a ≠ A.GAU_STAT → a ≠ A.GAU_RESERVE → e.rd a = s.rd a) ∧ (⟨106, .detector, s.power.code⟩ : Raise) ∈ e.flt.raised ∧ e.gau.anchor = none) ∧
  (∀ s : State, s.running = true → ∃ e : State, exec (.controllerWatchdog false) s = .next e.settle ∧ e = { s with regs := e.regs, flt := e.flt, way := e.way, mrq := e.mrq, hif := e.hif } ∧ (∀ a, a ≠ A.WAY_STAT → e.rd a = s.rd a) ∧ (⟨107, .detector, s.power.code⟩ : Raise) ∈ e.flt.raised)

/-- R48: the push-button, the wake sources, SYS_CTRL, SYS_SHIP, changes of the line with the read of its code, the RTC and its alarms, and cooling do not end FAULT. R19, R208: in FAULT PFW_N, ALIVE, SYNC_OUT and the reset outputs are low, the phases and the charger's measuring inputs are high impedance, the
gates of sluice and weir are clamped, or at high impedance where R21's supply is off (that this is 0 V is the model's choice: log entry 83, DESIGN CHOICE), the charger's high-side gate is clamped, its low-side gate is low, and every regulator's output is off.
R48, over every command: a step from FAULT, whatever waits at the front of the queue or nothing, answers FAULT, or the BOOT of a reset, or a state without AO; and unless AO loses its supply, MR_N is pulled, the key is written to SYS_RESET, or a WR frame or a milestone
is received, it answers FAULT. -/
def Obligations.FaultStays : Prop :=
  (∀ (s : State) (c : Instr), s.power = .fault →
    (c ∈ [.pbPress, .pbLongWarning, .pbForceOff, .pbShipHold, .wakePinEdge 1 true, .wakePinEdge 1 false, .wakePinEdge 2 true, .wakePinEdge 2 false, .minOffExpiry, .sysCtrlReqRun, .sysCtrlReqWatch, .sysCtrlReqHibernate, .lineQualified,
      .retryDelayEnd, .thermalRestart, .rtcTick, .rtcPendingApply] ∨ (∃ w, c = .sysShip w) ∨ ∃ n, c ∈ [.pbRelease n, .linePresent n, .lineNotPresent n, .lineLoss n, .lineWindowChange n, .lineOvOpening n, .shutdownRelease n, .thermalShutdown n, .srcidReadDone n]) →
    ∃ e : State, exec c s = .next e.settle ∧ e.power = .fault) ∧
  (∀ s t : State, s.power = .fault → step s = .next t → t.power = .fault ∨ (t.power = .boot ∧ t.ctl.bootFrom = .reset) ∨ t.aoOn = false) ∧
  (∀ s t : State, s.power = .fault → (∀ c, s.pending.head? = some c → (∀ l b, c ≠ .preregStop l b) ∧ c ≠ .aoBrownout ∧ c ≠ .pinReset ∧ c ≠ .sysReset 0xA5C3#16 ∧ (∀ a, a.toNat = A.SYS_RESET → c ≠ .registerWrite a 0xA5C3#16) ∧
      (∀ f, c ≠ .wr f) ∧ ∀ u v n a0 a1, c ≠ .milestoneReceived u v n a0 a1) →
    step s = .next t → t.power = .fault) ∧
  (∀ s : State, s.power = .fault → s.sup.vioh = true → s.ball .pfwN = .low ∧ s.ball .alive = .low ∧ s.ball .syncOut = .low ∧ s.ball .chgCs = .z ∧ s.ball .lgate = (if s.sup.lineDv = 0 then .z else .clamped) ∧ s.ball .wgate = (if s.sup.battMv = 0 then .z else .clamped) ∧ s.ball .chgHg = .clamped ∧ s.ball .chgLg = .low ∧
    s.ball .lockOut = .off ∧ ∀ n : Nat, s.ball (.rst n) = .low ∧ s.ball (.pwm n) = .z ∧ s.ball (.sw n) = .off ∧ s.ball (.out n) = .off)

/-! ### Host frames and registers -/

/-- R114, R115, R116, R120, R121, R129, R131, R132: with the host interface alive in SPI and P2 or P3 selected, a frame with its CRC is accepted, and its reply carries the status word of its beginning, its data and their CRC: NOP returns the status
word alone; RD and RDB return their words in ascending order, with the side effects of reading them; WR stores its word, as HostWriteStores says of it, and each of several words in ascending order; ACK clears ATTN, CHG and LINK; in P3 RD32 returns its
words as they stand at one instant.
R115, R128: in every version SELECT with its key selects a version. R127: HELLO is accepted in every version, and its three data words are 0x6410, the versions supported and the version selected.
R114, R115, R118: in P1 NOP, RD and WR of up to four words are accepted without a CRC, and their replies carry none.
R112, R114, R117, R129: in I2C a frame to the device's own address is accepted likewise; of a RD the status word is that of its beginning, of a WR, an ACK and a NOP that of the state which the write's step time has made. A frame to another address changes
nothing.
That in I2C the status word of WR, ACK and NOP is that of the state which the step time has made, with the PERR of the frame before (log entry 40), and the bytes driven out (log entry 39), are the model's readings (DEDUCED): R117, R120 and R129 do not fix the moment.
Says complete: nop, ack, rd, rdb, rd32, wr, select, hello. -/
def Obligations.FramesAccepted : Prop :=
  (∀ s : State, s.hostAlive = true → s.isI2c = false → 2 ≤ s.version →
    let s1 := s.clocked
    (∀ n : Nat, exec (.nop (sealFrame 0x00 [0, 0, 0] n)) s = .next (s1.replied s1 0x00 (sealFrame 0x00 [0, 0, 0] n) [] true).settle) ∧
    (∀ n : Nat, exec (.ack (sealFrame 0x11 [0, 0, 0] n)) s = .next (s1.replied { s1 with hif := { s1.hif with attn := false, chg := false, link := false } } 0x11 (sealFrame 0x11 [0, 0, 0] n) [] true).settle) ∧
    (∀ (hi lo c : Byte) (taken : Nat), 1 ≤ c.toNat → c.toNat ≤ 16 → 2 * c.toNat ≤ taken →
      exec (.rd (sealFrame 0x01 [hi, lo, c] taken)) s =
        .next (s1.replied (s1.readWords .host (beNat hi lo) c.toNat).2 0x01 (sealFrame 0x01 [hi, lo, c] taken) (s1.readWords .host (beNat hi lo) c.toNat).1 true).settle) ∧
    (∀ (hi lo c : Byte) (taken : Nat), 1 ≤ c.toNat → 2 * c.toNat ≤ taken →
      exec (.rdb (sealFrame 0x03 [hi, lo, c] taken)) s =
        .next (s1.replied (s1.readWords .host (beNat hi lo) c.toNat).2 0x03 (sealFrame 0x03 [hi, lo, c] taken) (s1.readWords .host (beNat hi lo) c.toNat).1 true).settle) ∧
    (∀ (hi lo c : Byte) (taken : Nat), s.version = 3 → 1 ≤ c.toNat → c.toNat ≤ 8 → beNat hi lo + 2 * c.toNat ≤ 65536 → 4 * c.toNat ≤ taken →
      exec (.rd32 (sealFrame 0x20 [hi, lo, c] taken)) s =
        .next (s1.replied (s1.readWords .pair (beNat hi lo) (2 * c.toNat)).2 0x20 (sealFrame 0x20 [hi, lo, c] taken) (s1.readWords .pair (beNat hi lo) (2 * c.toNat)).1 true).settle) ∧
    (∀ (hi lo wh wl : Byte) (n : Nat), exec (.wr (sealFrame 0x02 [hi, lo, 1, wh, wl] n)) s =
      match s1.hostWrite (beNat hi lo) (BitVec.ofNat 16 (beNat wh wl)) with
      | .ok t => .next (s1.replied t 0x02 (sealFrame 0x02 [hi, lo, 1, wh, wl] n) [] true).settle
      | .error f => .fault f) ∧
    (∀ (k wh wl : Byte) (n : Nat), k.toNat < 16 →
      exec (.wr (sealFrame 0x02 [0x01, 0x50 + k, 1, wh, wl] n)) s =
        .next (s1.replied (s1.wr (A.SYS_EVAR k.toNat) (BitVec.ofNat 16 (beNat wh wl))) 0x02 (sealFrame 0x02 [0x01, 0x50 + k, 1, wh, wl] n) [] true).settle)) ∧
  (∀ (s : State) (v : Byte) (n : Nat), s.hostAlive = true → s.isI2c = false → 1 ≤ s.version → 1 ≤ v.toNat → v.toNat ≤ 3 →
    exec (.select (sealFrame 0xF1 [0, 0, 1, 0x5E, v] n)) s = .next (s.clocked.replied (s.clocked.p F.HIF_VER_VER v.toNat) 0xF1 (sealFrame 0xF1 [0, 0, 1, 0x5E, v] n) [] true).settle) ∧
  (∀ (s : State) (taken : Nat), s.hostAlive = true → s.isI2c = false → 1 ≤ s.version →
      exec (.hello (sealFrame 0xF0 [0, 0, 3] taken)) s = .next (s.clocked.replied s.clocked 0xF0 (sealFrame 0xF0 [0, 0, 3] taken) [0x6410#16, 0x000E#16, BitVec.ofNat 16 s.version] true).settle) ∧
  (∀ (s : State) (hi lo c : Byte) (taken : Nat), s.hostAlive = true → s.isI2c = false → s.version = 1 →
    let plain (body : List Byte) : Frame := ⟨0, false, body, false, taken, false⟩
    let s1 := s.clocked
    exec (.nop (plain [0, 0, 0])) s = .next (s1.replied s1 0x00 (plain [0, 0, 0]) [] false).settle ∧
    (1 ≤ c.toNat → c.toNat ≤ 4 → 2 * c.toNat ≤ taken →
      exec (.rd (plain [hi, lo, c])) s = .next (s1.replied (s1.readWords .host (beNat hi lo) c.toNat).2 0x01 (plain [hi, lo, c]) (s1.readWords .host (beNat hi lo) c.toNat).1 false).settle) ∧
    (∀ k : Nat, k < 16 → exec (.wr (plain [0x01, BitVec.ofNat 8 (0x50 + k), 1, hi, lo])) s =
      .next (s1.replied (s1.wr (A.SYS_EVAR k) (BitVec.ofNat 16 (beNat hi lo))) 0x02 (plain [0x01, BitVec.ofNat 8 (0x50 + k), 1, hi, lo]) [] false).settle)) ∧
  (∀ (s : State) (k n : Nat) (ws : List Word), s.hostAlive = true → s.isI2c = false → 2 ≤ s.version → ws ≠ [] → k + ws.length ≤ 16 →
    let f := sealFrame 0x02 (0x01 :: BitVec.ofNat 8 (0x50 + k) :: BitVec.ofNat 8 ws.length :: ws.flatMap wordBytes) n
    exec (.wr f) s = .next (s.clocked.replied (s.clocked.wrs (A.SYS_EVAR k) ws) 0x02 f [] true).settle) ∧
  (∀ (s : State) (hi lo c : Byte) (taken k : Nat), s.hostAlive = true → s.isI2c = true → 2 ≤ s.version →
    let own (code : Byte) (body : List Byte) : Frame := { sealFrame code body taken with target := s.i2cAddr }
    let s1 := s.clocked
    let late (t : State) (code : Byte) (f : Frame) : State := let r := goodReply (t.settle.statusWord s.hif.perr) [] true; t.accept.answer r (s.frameOut code f r)
    exec (.nop (own 0x00 [0, 0, 0])) s = .next (late s1 0x00 (own 0x00 [0, 0, 0])).settle ∧
    exec (.ack (own 0x11 [0, 0, 0])) s = .next (late { s1 with hif := { s1.hif with attn := false, chg := false, link := false } } 0x11 (own 0x11 [0, 0, 0])).settle ∧
    (1 ≤ c.toNat → c.toNat ≤ 16 → 2 * c.toNat ≤ taken →
      exec (.rd (own 0x01 [hi, lo, c])) s = .next (s1.replied (s1.readWords .host (beNat hi lo) c.toNat).2 0x01 (own 0x01 [hi, lo, c]) (s1.readWords .host (beNat hi lo) c.toNat).1 true).settle) ∧
    (k < 16 → exec (.wr (own 0x02 [0x01, BitVec.ofNat 8 (0x50 + k), 1, hi, lo])) s =
      .next (late (s1.wr (A.SYS_EVAR k) (BitVec.ofNat 16 (beNat hi lo))) 0x02 (own 0x02 [0x01, BitVec.ofNat 8 (0x50 + k), 1, hi, lo])).settle)) ∧
  (∀ (s : State) (f : Frame), s.isI2c = true → f.target ≠ s.i2cAddr → exec (.nop f) s = .next s.settle ∧ exec (.rd f) s = .next s.settle ∧ exec (.wr f) s = .next s.settle ∧ exec (.rdb f) s = .next s.settle ∧
    exec (.rd32 f) s = .next s.settle ∧ exec (.ack f) s = .next s.settle ∧ exec (.hello f) s = .next s.settle ∧ exec (.select f) s = .next s.settle ∧ exec (.qpop f) s = .next s.settle ∧ exec (.rly f) s = .next s.settle)

/-- R123, R124, R657: QPOP whose whole reply is transferred returns the head packet, padded with zero words, and removes it where it is no longer than the count; with ADDR 0x0001 it returns the packet removed last and removes
nothing.
R125, R493: in P3 on a manager with no relay in progress RLY of a present worker that has W2 starts one: HIF_RLYSTAT shows it busy with its worker and count, HIF_RLYADDR its address.
R115, R119, R122: an opcode that the protocol lacks is rejected with reason code 1: nothing but HIF_ERR, the frame counts of R627 and the reply changes, and PERR is 1 in the next reply.
R112, R113, R117, R122: in I2C a status poll of the device's own address is an accepted frame that returns the status word, one of another address is none; a command in which SCL was held low for too long is rejected with reason code 10; in SPI neither exists.
Says complete: qpop, qpopReread, rly, reservedOpcode, statusPoll, i2cBusTimeout. -/
def Obligations.OtherFrames : Prop :=
  (∀ s : State, s.hostAlive = true → s.isI2c = false → 2 ≤ s.version →
    (∀ (c : Byte) (taken : Nat) (p : Packet), 2 ≤ c.toNat → c.toNat ≤ 64 → 4 * c.toNat + 1 ≤ taken → s.mrq.head = some p → p.words.length ≤ c.toNat →
      exec (.qpop (sealFrame 0x10 [0, 0, c] taken)) s = .next (s.clocked.replied s.clocked.popHead 0x10 (sealFrame 0x10 [0, 0, c] taken) (packetWords p.words c.toNat) true).settle) ∧
    (∀ (c : Byte) (taken : Nat), 2 ≤ c.toNat → c.toNat ≤ 64 →
      exec (.qpopReread (sealFrame 0x10 [0, 1, c] taken)) s = .next (s.clocked.replied s.clocked 0x10 (sealFrame 0x10 [0, 1, c] taken) (packetWords s.hif.popped c.toNat) true).settle)) ∧
  (∀ (s : State) (hi lo c w : Byte) (n : Nat), s.hostAlive = true → s.isI2c = false → s.version = 3 → s.isManager = true → s.b F.HIF_RLYSTAT_BUSY = false → 1 ≤ c.toNat → c.toNat ≤ 16 → 1 ≤ w.toNat → w.toNat ≤ 31 →
    (s.wrec w.toNat).st = 1 → (s.wrec w.toNat).w2 = true →
    ∃ e : State, exec (.rly (sealFrame 0x21 [hi, lo, c, 0, w] n)) s = .next e.settle ∧ e = { s with regs := e.regs, hif := e.hif, way := e.way, sup := e.sup } ∧ (∀ a, a ≠ A.HIF_RLYSTAT → a ≠ A.HIF_RLYADDR → (∀ k, k < 16 → a ≠ A.HIF_RLYBUF k) → e.rd a = s.rd a) ∧ e.b F.HIF_RLYSTAT_BUSY = true ∧ e.g F.HIF_RLYSTAT_WORKER = w.toNat ∧ e.g F.HIF_RLYSTAT_COUNT = c.toNat ∧
      e.rn A.HIF_RLYADDR = beNat hi lo ∧ e.way.relay = some ⟨w.toNat, beNat hi lo, c.toNat, 0⟩) ∧
  (∀ (s : State) (op : Byte) (f : Frame), s.hostAlive = true → s.isI2c = false → s.sup.fastOn = true → f.opCut = false → opOf op.toNat = none →
    ∃ e : State, exec (.reservedOpcode op f) s = .next e.settle ∧ e = { s with regs := e.regs, flt := e.flt, hif := e.hif } ∧ (∀ a, a ≠ A.HIF_ERR → e.rd a = s.rd a) ∧ e.g F.HIF_ERR_CODE = 1 ∧ e.g F.HIF_ERR_REJCNT = min 255 (s.g F.HIF_ERR_REJCNT + 1) ∧
      e.hif.perr = true ∧ e.hif.attn = s.hif.attn ∧ e.hif.reply.rejected = some 1 ∧ e.hif.reply.words = []) ∧
  (∀ (s : State) (taken : Nat), s.hostAlive = true → s.isI2c = true →
    exec (.statusPoll s.i2cAddr taken) s = .next (let r := goodReply (s.clocked.statusWord s.hif.perr) [] (decide (2 ≤ s.version)); s.clocked.accept.answer r (sentBytes r.bytes taken)).settle) ∧
  (∀ (s : State) (target taken : Nat), s.isI2c = true → target ≠ s.i2cAddr → exec (.statusPoll target taken) s = .next s.settle) ∧
  (∀ s : State, s.hostAlive = true → s.isI2c = true → ∃ e : State, exec .i2cBusTimeout s = .next e.settle ∧ e = { s.clocked with regs := e.regs, flt := e.flt, hif := e.hif } ∧ (∀ a, a ≠ A.HIF_ERR → e.rd a = s.rd a) ∧ e.g F.HIF_ERR_CODE = 10 ∧ e.hif.perr = true) ∧
  (∀ (s : State) (target taken : Nat), s.isI2c = false → exec (.statusPoll target taken) s = .next s.settle ∧ exec .i2cBusTimeout s = .next s.settle)

/-- R119: a rejected frame of the device, whatever its opcode, has no effect: every register but HIF_ERR and every other part of the state but the count of R627, the reply and the fast oscillator stand. HIF_ERR records the reason and counts it,
PERR is 1 in the next reply, every data byte sent is 0xFF, as many as the count byte of a read-type command asks for, and where a read-type command's reply has a CRC it is sent complemented. -/
def Obligations.RejectedFrameHasNoEffect : Prop :=
  ∀ (s : State) (f : Frame) (r : Nat), s.hostAlive = true → s.selects f.target = true → (s.isI2c && f.noRead) = false → f.opCut = false →
    ∀ p ∈ ([(0x00, .nop, .nop f), (0x01, .rd, .rd f), (0x02, .wr, .wr f), (0x03, .rdb, .rdb f), (0x20, .rd32, .rd32 f), (0x10, .qpop, .qpop f), (0x10, .qpop, .qpopReread f), (0x11, .ack, .ack f), (0x21, .rly, .rly f), (0xF0, .hello, .hello f),
      (0xF1, .select, .select f)] : List (Byte × Op × Instr)),
    s.checkFrame p.1 f = .error r →
      ∃ e : State, exec p.2.2 s = .next e.settle ∧ e = { s with regs := e.regs, sup := { s.sup with fastOn := true }, flt := e.flt, hif := e.hif } ∧ (∀ a, a ≠ A.HIF_ERR → e.rd a = s.rd a) ∧ e.g F.HIF_ERR_CODE = r % 16 ∧
        e.g F.HIF_ERR_REJCNT = min 255 (s.g F.HIF_ERR_REJCNT + 1) ∧ e.hif.perr = true ∧ e.hif.attn = s.hif.attn ∧ e.hif.chg = s.hif.chg ∧ e.hif.link = s.hif.link ∧ e.hif.popped = s.hif.popped ∧
        e.hif.reply.words = List.replicate (p.2.1.replyWords (frameCnt f)) 0xFFFF#16 ∧
        (p.2.1.reads = true → p.2.1.crc s.version = true → e.hif.reply.crc = some (~~~(replyCrc e.hif.reply.status e.hif.reply.words)))

/-- R115, R118, R119, R122, R125, R127, R128: which frames are rejected, by reason code, each check where those before it pass: 6 an SPI frame begun too soon with the fast oscillator off; 5 one cut short, in its opcode, its address, its count, its data or its
CRC; 1 an unknown opcode; 2 an operation that the version lacks; 7 an address that the operation does not allow; 4 a count that it does not allow; 8 a SELECT without its key or with a version other than 1 to 3; 7 and 9 a RLY with reserved bits in its data word, on a
device that is no manager or, last, while a relay is in progress; 3 a wrong CRC. A frame that passes every check is accepted. The places of 7 for RLY's data and of 9 in this order are the model's choice (log entry 40, DESIGN CHOICE). -/
def Obligations.FrameChecks : Prop :=
  (∀ n : Nat, opOf n = none ↔ n ∉ ([0x00, 0x01, 0x02, 0x03, 0x10, 0x11, 0x20, 0x21, 0xF0, 0xF1] : List Nat)) ∧
  (∀ (o : Op) (v a n : Nat), 1 ≤ v → (v < o.since ↔ (v = 1 ∧ o ∈ [Op.rdb, .qpop, .ack]) ∨ (v ≤ 2 ∧ o ∈ [Op.rd32, .rly])) ∧ (o.addrOk a = false ↔ (o ∈ [Op.nop, .ack, .hello, .select] ∧ a ≠ 0) ∨ (o = .qpop ∧ 2 ≤ a)) ∧
    (o.cntOk v a n = false ↔ (o ∈ [Op.nop, .ack] ∧ n ≠ 0) ∨ (o = .hello ∧ n ≠ 3) ∨ (o = .select ∧ n ≠ 1) ∨ (o ∈ [Op.rd, .wr] ∧ (n = 0 ∨ (if v = 1 then 4 else 16) < n)) ∨ (o = .rdb ∧ (n = 0 ∨ 255 < n)) ∨
      (o = .qpop ∧ (n < 2 ∨ 64 < n)) ∨ (o = .rly ∧ (n = 0 ∨ 16 < n)) ∨ (o = .rd32 ∧ (n = 0 ∨ 8 < n ∨ 65536 < a + 2 * n)))) ∧
  (∀ (s : State) (code : Byte) (f : Frame), f.tooSoon = true → s.isI2c = false → s.sup.fastOn = false → s.checkFrame code f = .error 6) ∧
  (∀ (s : State) (code : Byte) (f : Frame), (f.tooSoon = false ∨ s.isI2c = true ∨ s.sup.fastOn = true) → (f.opCut = true → s.checkFrame code f = .error 5) ∧ (f.opCut = false → opOf code.toNat = none → s.checkFrame code f = .error 1) ∧
    (∀ o : Op, f.opCut = false → opOf code.toNat = some o → (s.version < o.since → s.checkFrame code f = .error 2) ∧ (o.since ≤ s.version →
      (f.body.length < 2 → s.checkFrame code f = .error 5) ∧
      (∀ (hi lo : Byte) (r : List Byte), f.body = hi :: lo :: r → (o.addrOk (beNat hi lo) = false → s.checkFrame code f = .error 7) ∧ (o.addrOk (beNat hi lo) = true → (r = [] → s.checkFrame code f = .error 5) ∧
        (∀ (c : Byte) (d : List Byte), r = c :: d → (o.cntOk s.version (beNat hi lo) c.toNat = false → s.checkFrame code f = .error 4) ∧ (o.cntOk s.version (beNat hi lo) c.toNat = true →
          (d.length < 2 * o.dataWords c.toNat → s.checkFrame code f = .error 5) ∧ (2 * o.dataWords c.toNat ≤ d.length →
            (o = .select → (d.getD 0 0 ≠ 0x5E ∨ d.getD 1 0 = 0 ∨ 3 < (d.getD 1 0).toNat) → s.checkFrame code f = .error 8) ∧
            (o = .rly → 32 ≤ beNat (d.getD 0 0) (d.getD 1 0) → s.checkFrame code f = .error 7) ∧
            (o = .rly → beNat (d.getD 0 0) (d.getD 1 0) < 32 → s.isManager = false → s.checkFrame code f = .error 9) ∧
            ((o = .select → d.getD 0 0 = 0x5E ∧ 1 ≤ (d.getD 1 0).toNat ∧ (d.getD 1 0).toNat ≤ 3) → (o = .rly → beNat (d.getD 0 0) (d.getD 1 0) < 32 ∧ s.isManager = true) →
              (o.crc s.version = true → d.length = 2 * o.dataWords c.toNat → s.checkFrame code f = .error 5) ∧
              (o.crc s.version = true → ∀ x : Byte, d[2 * o.dataWords c.toNat]? = some x → x ≠ crc8 (code :: f.body.take (3 + 2 * o.dataWords c.toNat)) → s.checkFrame code f = .error 3) ∧
              ((o.crc s.version = false ∨ d[2 * o.dataWords c.toNat]? = some (crc8 (code :: f.body.take (3 + 2 * o.dataWords c.toNat)))) →
                s.checkFrame code f = (if o = .rly && s.b F.HIF_RLYSTAT_BUSY then .error 9 else .ok ⟨o, beNat hi lo, c.toNat, beWords (d.take (2 * o.dataWords c.toNat))⟩)))))))))))

/-- R118: the CRC-8 of a frame. Over the ASCII bytes "123456789" it is 0x20, and a run of bytes followed by its CRC has the CRC 0, so that a changed last byte is always found. -/
def Obligations.Crc8Closes : Prop :=
  crc8 [0x31, 0x32, 0x33, 0x34, 0x35, 0x36, 0x37, 0x38, 0x39] = 0x20 ∧ (∀ bs : List Byte, crc8 (bs ++ [crc8 bs]) = 0) ∧ (∀ (bs : List Byte) (b : Byte), crc8 (bs ++ [b]) = 0 → b = crc8 bs)

/-- R14, R142: a host write of one word. To an engine variable it stores the word as written; to an address that no chapter maps it has no defined result, which the model takes as a fault (log entry 8, DESIGN CHOICE); with the host interface not alive
(R36, R42) no write takes place, and the row then changes nothing (log entry 5, DESIGN CHOICE).
R131, R134, R135: a write of 0x0001 to HIF_ACK clears ATTN, CHG and LINK, and any other word nothing; a read of HIF_ERR returns it and clears REJCNT.
R14, R71, R84, R120: what the write of one word does: in BOOT nothing to a configuration register; elsewhere, at a register that takes no key and of which nothing follows, it stores the word with its clamped fields limited, bit by bit of its access types, and
sets CLAMP where a field was limited; a word that would leave a reserved code (R640) has no defined result, a fault likewise (log entry 9, DESIGN CHOICE). Several words are written one by one in ascending order.
Says complete: registerWrite, hifAck, hifErrRead. -/
def Obligations.HostWriteStores : Prop :=
  (∀ (s : State) (k : Nat) (w : Word), k < 16 → s.hostAlive = true → exec (.registerWrite (BitVec.ofNat 16 (A.SYS_EVAR k)) w) s = .next (s.clocked.wr (A.SYS_EVAR k) w).settle) ∧
  (∀ (s : State) (a w : Word), s.hostAlive = true → mapped a.toNat = false → exec (.registerWrite a w) s = .fault (.unmappedAddress a.toNat)) ∧
  (∀ (s : State) (a w : Word), s.hostAlive = false → exec (.registerWrite a w) s = .next s.settle) ∧
  (∀ (s : State) (w : Word), s.hostAlive = true →
    exec (.hifAck w) s = .next (if w = 1#16 then ({ s.clocked with hif := { s.hif with attn := false, chg := false, link := false } } : State) else s.clocked).settle) ∧
  (∀ s : State, s.hostAlive = true → ∃ e : State, exec .hifErrRead s = .next e.settle ∧ e = { s.clocked with regs := e.regs, hif := e.hif } ∧ e.hif.reply.words = [s.rd A.HIF_ERR] ∧ e.g F.HIF_ERR_REJCNT = 0 ∧ e.g F.HIF_ERR_CODE = s.g F.HIF_ERR_CODE ∧
    (∀ a, a ≠ A.HIF_ERR → e.rd a = s.rd a)) ∧
  (∀ (s : State) (a : Nat) (w : Word), mapped a = true → s.power = .boot → survivalOf a = .config → s.hostWrite a w = .ok s) ∧
  (∀ (s : State) (a : Nat) (w : Word), mapped a = true → (s.power ≠ .boot ∨ survivalOf a ≠ .config) → s.writeKey a w = none → s.writeBarred a w = none →
    a ∉ [A.DRV_VSET, A.DRV_PHEN, A.CMP_PWR, A.WAY_STAT, A.RTC_ALMCFG] ++ (List.range 8).flatMap (fun k => [A.RTC_A0 k, A.RTC_A1 k, A.ADC_WINCFG k]) ++ domains.map A.DOM_VSET → (a < A.STK_REC 0 ∨ A.STK_REC 32767 < a) →
    s.hostWrite a w =
      if rwMask a ≠ 0 ∧ wordOk a (storedWord a (s.rd a) (s.clampWord a w).1) = false then .error (.undefinedWrite a)
      else .ok (if (s.clampWord a w).2 then (s.wr a (storedWord a (s.rd a) (s.clampWord a w).1)).p F.SYS_IMGSTAT_CLAMP 1 else s.wr a (storedWord a (s.rd a) (s.clampWord a w).1))) ∧
  (∀ (s t u : State) (a : Nat) (w : Word) (ws : List Word), s.hostWrite a w = .ok t → t.hostWrites (a + 1) ws = .ok u → s.hostWrites a (w :: ws) = .ok u)

/-- R121: a word that has no side effect reads as the register's live word, and where it has none as the word stored; several words are read in ascending order. What the live words show of the state: SYS_STATE (R42, R46, R56, R59; OFFPEND reads 0
between two commands: log entry 27, the model's choice), LIN_STAT (R270), DRV_STAT (R315) and the converter's currents of inactive phases, WEIR_STAT (R279), GAU_STAT and GAU_FCC (R456, R457), DOM_STAT and DOM_PGSUM (R213, R216), ADC_STAT (R534), CMP_ACT (R562), FLT_STAT (R642), the
queue's registers (R665 to R668), WAY_STAT, WAY_ADDR, WAY_ILIM and WAY_LEASE (R499, R503 to R505), the engines' registers (R175, R180, R182) and the identity's zero records on a device that is no manager (R498).
ENG_TIM in whole milliseconds rounded up (log entry 37, DESIGN CHOICE), WEIR_STAT.MODE in BOOT (log entry 31, DEDUCED) and VER of a manager's WAY_STAT (log entry 73, DEDUCED) are the model's too. -/
def Obligations.LiveViews : Prop :=
  (∀ (s : State) (a : Nat), mapped a = true → a ≠ A.HIF_ERR → a ≠ A.GAU_ACC0 → (a < A.RTC_SEC 0 ∨ A.RTC_FRAC < a) → (a < A.ADC_RES 0 ∨ A.ADC_RES 127 < a) → (s.isManager = true ∨ a < A.WAY_MCFG ∨ A.WAY_W 123 < a) →
    s.readWord .host a = (s.viewWord a, s) ∧ (s.view a = none → s.viewWord a = s.rd a)) ∧
  (∀ (s : State) (a k : Nat), (∀ i, i < k → mapped (a + i) = true ∧ a + i ≠ A.HIF_ERR ∧ a + i ≠ A.GAU_ACC0 ∧ (a + i < A.RTC_SEC 0 ∨ A.RTC_FRAC < a + i) ∧ (a + i < A.ADC_RES 0 ∨ A.ADC_RES 127 < a + i) ∧
      (s.isManager = true ∨ a + i < A.WAY_MCFG ∨ A.WAY_W 123 < a + i)) → s.readWords .host a k = ((List.range k).map (fun i => s.viewWord (a + i)), s)) ∧
  (∀ s : State, let w := s.viewWord A.SYS_STATE
    F.SYS_STATE_STATE.get w = s.power.code ∧ F.SYS_STATE_FOFF.get w = s.ctl.foff.toNat ∧ F.SYS_STATE_FASTON.get w = 1 ∧ F.SYS_STATE_AOSRC.get w = (decide (100 * s.sup.lineDv < s.sup.battMv)).toNat ∧
    F.SYS_STATE_VBKOK.get w = s.sup.vbk175.toNat ∧ F.SYS_STATE_ONPEND.get w = s.ctl.onReq.isSome.toNat ∧ F.SYS_STATE_OFFPEND.get w = 0 ∧ F.SYS_STATE_THRST.get w = min 3 s.ctl.thRestarts) ∧
  (∀ s : State, let w := s.viewWord A.LIN_STAT
    F.LIN_STAT_QUAL.get w = s.line.qual.toNat ∧ F.LIN_STAT_FULLON.get w = s.line.fullOn.toNat ∧ F.LIN_STAT_PRESENT.get w = s.line.present.toNat ∧ F.LIN_STAT_INWIN.get w = s.line.inWin.toNat ∧
    F.LIN_STAT_INRUSH.get w = (if s.line.inrush = .none then 0 else 1) ∧ F.LIN_STAT_LATCH.get w = s.line.latch.toNat ∧ F.LIN_STAT_OV.get w = s.line.ov.toNat ∧ F.LIN_STAT_CHGOK.get w = s.line.chgOk.toNat ∧
    F.LIN_STAT_SRCID.get w = s.line.srcId % 8 ∧ F.LIN_STAT_LASTOPEN.get w = s.line.lastOpen % 8 ∧ F.LIN_STAT_RETRYCNT.get w = min 3 s.line.fails) ∧
  (∀ s : State, let w := s.viewWord A.DRV_STAT
    F.DRV_STAT_MODE.get w = (if s.g F.DRV_STAT_MODE = 0 && s.drv.disch && !s.weirOn then 6 else s.g F.DRV_STAT_MODE) ∧ F.DRV_STAT_LIMBY.get w = s.g F.DRV_STAT_LIMBY ∧
    F.DRV_STAT_SETTLED.get w = (if s.g F.DRV_STAT_MODE = 3 && !s.b (F.DOM_STAT_MASKED 1) then 1 else 0) ∧ F.DRV_STAT_SLEWDONE.get w = s.g F.DRV_STAT_SLEWDONE ∧ F.DRV_STAT_NEG.get w = s.g F.DRV_STAT_NEG ∧
    F.DRV_STAT_MINOK.get w = (if s.standing && s.minOk then 1 else 0)) ∧
  (∀ (s : State) (k : Nat), k < 6 → s.phActive.testBit k = false → s.viewWord (A.DRV_IPH k) = 0 ∧ s.viewWord (A.DRV_TRIM k) = 0) ∧
  (∀ s : State, let w := s.viewWord A.WEIR_STAT
    F.WEIR_STAT_COND.get w = s.weirOn.toNat ∧ F.WEIR_STAT_MODE.get w = (match s.weirMode with | .auto => 0 | .forcedOn => 1 | .forcedOff => 2) ∧ F.WEIR_STAT_TKLIM.get w = s.g F.WEIR_STAT_TKLIM ∧
    F.WEIR_STAT_REVBLK.get w = s.g F.WEIR_STAT_REVBLK ∧ F.WEIR_STAT_SCEVT.get w = s.g F.WEIR_STAT_SCEVT ∧ F.WEIR_STAT_TKFAIL.get w = s.g F.WEIR_STAT_TKFAIL) ∧
  (∀ s : State, s.standing = true → let w := s.viewWord A.GAU_STAT
    F.GAU_STAT_CAPLRN.get w = (s.bit A.GAU_PFLG 2).toNat ∧ F.GAU_STAT_DEFAULTS.get w = (s.onDefaults || !s.bit A.GAU_PFLG 0).toNat ∧ F.GAU_STAT_AUTH.get w = s.g F.GAU_STAT_AUTH ∧ F.GAU_STAT_FROZEN.get w = s.g F.GAU_STAT_FROZEN) ∧
  (∀ s : State, s.viewWord A.GAU_FCC = BitVec.ofNat 16 (if s.onDefaults then s.modelWord 2 else s.rn A.GAU_FCC)) ∧
  (∀ (s : State) (n : Nat), n ∈ domains → let w := s.viewWord (A.DOM_STAT n)
    (F.DOM_STAT_UV n).get w = (s.under (n - 1)).toNat ∧ (F.DOM_STAT_OV n).get w = (s.over (n - 1)).toNat ∧ (F.DOM_STAT_CMDON n).get w = (s.cmdOn n).toNat ∧ (F.DOM_STAT_PG n).get w = (s.pg n).toNat ∧
    (F.DOM_STAT_RANK n).get w = s.rank n ∧ (s.viewWord A.DOM_PGSUM).getLsbD (n - 1) = s.pg n) ∧
  (∀ s : State, let w := s.viewWord A.ADC_STAT
    F.ADC_STAT_RNDBUSY.get w = s.adc.round.isSome.toNat ∧ F.ADC_STAT_CALBUSY.get w = s.calBusy.toNat ∧ F.ADC_STAT_BURST.get w = s.bursting.toNat ∧ F.ADC_STAT_BG.get w = s.g F.ADC_CFG_BGCAL ∧ F.ADC_STAT_INJPEND.get w = s.injPend % 8 ∧
    F.ADC_STAT_RNDCNT.get w = s.g F.ADC_STAT_RNDCNT) ∧
  (∀ (s : State) (k : Nat), k < 16 → (s.viewWord A.CMP_ACT).getLsbD k = s.monPowered k) ∧
  (∀ s : State, let w := s.viewWord A.FLT_STAT
    F.FLT_STAT_FAULT.get w = (if s.power = .fault then 1 else 0) ∧ F.FLT_STAT_ALIVE.get w = s.aliveRuns.toNat ∧ F.FLT_STAT_ALVSTOP.get w = s.ctl.alvStop % 8 ∧ F.FLT_STAT_WARNPEND.get w = s.ctl.holdWarn.toNat ∧
    (∀ b, b < 4 → w.getLsbD b = s.fltBank b) ∧ w.getLsbD 4 = (s.running && s.ctl.pfwEng) ∧ w.getLsbD 5 = (s.running && s.ctl.pfwPb) ∧ w.getLsbD 6 = (s.running && (s.ctl.lowReserve || s.ctl.noBattSeq)) ∧
    w.getLsbD 7 = (s.running && s.ctl.pfwWarn)) ∧
  (∀ s : State, (∀ p ∈ s.mrq.pkts, p.cls < 4) → let w := s.viewWord A.MRQ_STAT
    F.MRQ_STAT_QNE.get w = s.qne.toNat ∧ F.MRQ_STAT_QPRI.get w = s.qpri ∧ F.MRQ_STAT_OPEN.get w = s.mrq.openCls.isSome.toNat ∧ F.MRQ_STAT_RST.get w = s.g F.MRQ_STAT_RST ∧ F.MRQ_STAT_DROP.get w = s.g F.MRQ_STAT_DROP ∧
    F.MRQ_STAT_SEQ.get w = s.mrq.seq % 256 ∧ s.viewWord A.MRQ_FREE = BitVec.ofNat 16 s.mrq.free ∧
    (∀ c, c < 4 → s.viewWord (A.MRQ_WORDS c) = BitVec.ofNat 16 (s.mrq.words c) ∧ s.viewWord (A.MRQ_PKTS c) = BitVec.ofNat 16 (s.mrq.pkts.filter (fun p => p.cls = c)).length) ∧
    (s.mrq.head = none → s.viewWord (A.MRQ_HEAD 0) = 0 ∧ s.viewWord (A.MRQ_HEAD 1) = 0) ∧
    (∀ (p : Packet) (h : BitVec 32) (r : List (BitVec 32)), s.mrq.head = some p → p.words = h :: r → (s.viewWord (A.MRQ_HEAD 1)).toNat * 65536 + (s.viewWord (A.MRQ_HEAD 0)).toNat = h.toNat)) ∧
  (∀ s : State, s.wayOn = true → let w := s.viewWord A.WAY_STAT
    F.WAY_STAT_ADMIT.get w = s.admitted.toNat ∧ F.WAY_STAT_ORPHAN.get w = s.g F.WAY_STAT_ORPHAN ∧ F.WAY_STAT_GRANT.get w = (if s.grantTolls = 0 then 0 else 1) ∧ F.WAY_STAT_REQ.get w = (s.way.out.isSome || s.stk.tollReq.isSome).toNat ∧
    F.WAY_STAT_VER.get w = (if s.isManager then s.g F.WAY_CFG_WMAX else s.g F.WAY_STAT_VER) ∧ F.WAY_STAT_NOADDR.get w = (if s.isWorker && s.wayAddr = 0 then 1 else 0) ∧ F.WAY_STAT_CLASH.get w = s.g F.WAY_STAT_CLASH ∧
    s.viewWord A.WAY_ADDR = BitVec.ofNat 16 s.wayAddrWord ∧ s.viewWord A.WAY_ILIM = BitVec.ofNat 16 (match s.tollLimit with | some v => v | none => 0x8000)) ∧
  (∀ s : State, s.wayOn = false → s.viewWord A.WAY_STAT = s.rd A.WAY_STAT ∧ s.viewWord A.WAY_ADDR = s.rd A.WAY_ADDR ∧ s.viewWord A.WAY_ILIM = s.rd A.WAY_ILIM) ∧
  (∀ s : State, F.LIN_IEFF_LIMBY.get (s.viewWord A.LIN_IEFF) = (if s.wayOn then (smallestOrigin s.limitOrigins).1 else s.rn A.LIN_IEFF / 16384) % 4) ∧
  (∀ s : State, s.viewWord A.WAY_LEASE = BitVec.ofNat 16 (if s.grantTolls = 0 then 0 else min 65535 (s.way.leaseMs - ticksMs (s.ticks - s.way.leaseAt)))) ∧
  (∀ (s : State) (m : ReadMode) (a : Nat), s.isManager = false → A.WAY_MCFG ≤ a → a ≤ A.WAY_W 123 → s.readWord m a = (0, s)) ∧
  (∀ (s : State) (k : Nat), k < 12 → ((s.viewWord A.ENG_STAT).getLsbD k = (decide ((s.engAt k).mode ≠ .stopped) && s.engBusy k)) ∧ F.ENG_STAT_DBG.get (s.viewWord A.ENG_STAT) = s.anyHalted.toNat ∧
    (F.ENG_PC_PC k).get (s.viewWord (A.ENG_PC k)) = (s.engAt k).pc % 4096 ∧
    (F.ENG_PC_STATE k).get (s.viewWord (A.ENG_PC k)) = (if (s.engAt k).mode = .stopped then 4 else if (s.engAt k).halted && !(s.engAt k).stepping then 3 else match (s.engAt k).mode with | .idle => 0 | .run => 1 | .wait _ => 2 | .stopped => 4)) ∧
  (∀ (s : State) (t : Nat), t < 4 → s.viewWord (A.ENG_TIM t) = BitVec.ofNat 16 (if (s.timAt t).running then (s.timAt t).ms - ticksMs (s.ticks - (s.timAt t).start) else 0))

/-- R14: what a host write leaves, bit by bit: an RW bit takes the bit written, a W1C bit clears and a W1S bit sets by a 1, and every other bit keeps its value.
R84: a clamped field. A value below MIN is stored as MIN and one above MAX as MAX, and the flag then says so; a value within the window is stored as written, without the flag; bits outside the field stay as written. -/
def Obligations.AccessTypes : Prop :=
  (∀ (a : Nat) (old w : Word) (i : Nat), i < 16 → (rwMask a).testBit i = false ∨ ((w1cMask a).testBit i = false ∧ (w1sMask a).testBit i = false) →
    (storedWord a old w).getLsbD i =
      if (rwMask a).testBit i then w.getLsbD i
      else if w.getLsbD i && (w1sMask a).testBit i then true
      else if w.getLsbD i && (w1cMask a).testBit i then false
      else old.getLsbD i) ∧
  (∀ (s : State) (f : Fld) (w : Word) (lo hi : Nat), f.lsb + f.width ≤ 16 → s.nvm.windows.find? (fun x => x.1 = f.addr && x.2.1 = f.lsb && x.2.2.1 = f.width) = some (f.addr, f.lsb, f.width, false, lo, hi) →
      lo ≤ hi → hi < 2 ^ f.width →
      let r := s.clampField (w, false) f
      (f.get w < lo → f.get r.1 = lo ∧ r.2 = true) ∧ (hi < f.get w → f.get r.1 = hi ∧ r.2 = true) ∧ (lo ≤ f.get w → f.get w ≤ hi → r = (w, false)) ∧
      (∀ g : Fld, (g.lsb + g.width ≤ f.lsb ∨ f.lsb + f.width ≤ g.lsb) → g.get r.1 = g.get w))

/-! ### The fault collector and the queue -/

/-- R637, R644, R646: with ARM set, a write of FLT_FRC raises the sources of its set bits, lowest first, and with ARM clear it does nothing; FLT_TEST takes DRY and ARM with its key alone.
R670: the flush key removes every committed packet and no open one, and the clear key clears the drop counts and the count of resets; any other word nothing.
Says complete: fltFrc, fltTest, queueFlush, mrqCounterClear. -/
def Obligations.CollectorAndQueueKeys : Prop :=
  (∀ (s : State) (k : Nat) (w : Word), k < 8 → s.hostAlive = true → s.b F.FLT_TEST_ARM = true →
    exec (.fltFrc k w) s =
      .next ({ s.clocked with flt := { s.flt with raised := s.flt.raised ++ ((List.range 16).filter (fun i => w.toNat.testBit i)).map (fun i => (⟨16 * k + i, .force, s.power.code⟩ : Raise)) } } : State).settle) ∧
  (∀ (s : State) (k : Nat) (w : Word), s.b F.FLT_TEST_ARM = false → exec (.fltFrc k w) s = .next s.framed.settle) ∧
  (∀ (s : State) (w : Word), s.hostAlive = true → F.FLT_TEST_DRYHIT.get w = 0 → F.FLT_TEST_KEY.get w = 0xF7 →
    exec (.fltTest w) s = .next ((s.clocked.p F.FLT_TEST_DRY (F.FLT_TEST_DRY.get w)).p F.FLT_TEST_ARM (F.FLT_TEST_ARM.get w)).settle) ∧
  (∀ (s : State) (w : Word), F.FLT_TEST_DRYHIT.get w = 0 → F.FLT_TEST_KEY.get w ≠ 0xF7 → exec (.fltTest w) s = .next s.framed.settle) ∧
  (∀ s : State, s.hostAlive = true → (∀ c ∈ ([0, 1, 2, 3] : List Nat), s.mrq.ptrsAgree c = true) →
    ∃ e : State, exec (.queueFlush 0xD5C1#16) s = .next e.settle ∧ e = { s.clocked with mrq := e.mrq } ∧ e.mrq.pkts = [] ∧ e.mrq.openCls = s.mrq.openCls ∧ e.mrq.closing = s.mrq.closing ∧ e.mrq.seq = s.mrq.seq ∧ e.mrq.outbox = s.mrq.outbox) ∧
  (∀ s : State, s.hostAlive = true → ∃ e : State, exec (.mrqCounterClear 0xC1EA#16) s = .next e.settle ∧ e = { s.clocked with regs := e.regs } ∧ (∀ a, a ≠ A.MRQ_DROP 0 → a ≠ A.MRQ_DROP 1 → a ≠ A.MRQ_DROP 2 → a ≠ A.MRQ_DROP 3 → a ≠ A.MRQ_CNTRST → e.rd a = s.rd a) ∧ (∀ c, c < 4 → e.rd (A.MRQ_DROP c) = 0) ∧ e.rd A.MRQ_CNTRST = 0) ∧
  (∀ (s : State) (w : Word), w ≠ 0xD5C1#16 → w ≠ 0xC1EA#16 → exec (.queueFlush w) s = .next s.framed.settle ∧ exec (.mrqCounterClear w) s = .next s.framed.settle)

/-- R622, R628: one raise taken by the collector. Of an enabled source it sets the sticky bit, counts, saturating, and leaves every other sticky bit as it was; ATTN sets and one fault packet is posted exactly where the sticky
bit was 0 and the class applied is NOTE or stronger. A raise of a disabled source, the engines' no-start raises apart, does nothing.
R630: of the raises of one step time the strongest class acts, with its lowest source; none acts where all are COUNT or NOTE. -/
def Obligations.RaiseTaken : Prop :=
  (∀ (s : State) (l : List Taken) (r : Raise), r.source < 128 →
    (s.srcEn r.source = true →
      let t := (State.takeRaise (s, l) r).1
      t.sticky r.source = true ∧ t.rn (A.FLT_CNT r.source) = min 65535 (s.rn (A.FLT_CNT r.source) + 1) ∧ (∀ n, n < 128 → n ≠ r.source → t.sticky n = s.sticky n) ∧
      t.mrq.outbox.length = s.mrq.outbox.length + (if !s.sticky r.source && decide (1 ≤ s.appliedClass r) then 1 else 0) ∧
      t.hif.attn = (s.hif.attn || (!s.sticky r.source && decide (1 ≤ s.appliedClass r)))) ∧
    (s.srcEn r.source = false → (10 ≤ r.source ∨ r.origin ≠ .engine) → State.takeRaise (s, l) r = (s, l))) ∧
  (∀ l : List Taken, (∀ t : Taken, strongest l = some t → t ∈ l ∧ 2 ≤ t.cls ∧ ∀ u ∈ l, u.cls ≤ t.cls ∧ (u.cls = t.cls → t.source ≤ u.source)) ∧ (strongest l = none ↔ ∀ u ∈ l, u.cls < 2))

/-- R655: the packets of one step time commit in ascending producer code and, among the collector's faults, in ascending source number; those of one place keep the order of their events; none is lost or added.
R657: the head of the queue is the committed packet of the lowest class, and within the class the one committed earliest; there is none only where no packet of a class 0 to 3 is committed.
R123, R124, R652: popping removes exactly the head: every other packet stays, in its order; the head's words are free again and are what a re-read returns; nothing else changes but its class's read pointers. With no head nothing changes. -/
def Obligations.QueueOrder : Prop :=
  (∀ l : List OpenPkt, (byProducer l).Pairwise (fun b c => b.body.order ≤ c.body.order) ∧ (byProducer l).Pairwise (fun b c => b.body.kind.2.2 ≤ c.body.kind.2.2) ∧
    (∀ n, (byProducer l).filter (fun b => b.body.order = n) = l.filter (fun b => b.body.order = n)) ∧ (byProducer l).length = l.length) ∧
  (∀ q : Mrq, (∀ x ∈ q.pkts, x.cls ≤ 3) →
      (∀ p : Packet, q.head = some p → (∀ x ∈ q.pkts, p.cls ≤ x.cls) ∧ ∃ front back, q.pkts = front ++ p :: back ∧ ∀ x ∈ front, x.cls ≠ p.cls) ∧ (q.head = none ↔ q.pkts = [])) ∧
  (∀ (s : State) (p : Packet), s.mrq.head = some p → s.mrq.ptrsAgree p.cls = true →
    (∃ front back, s.mrq.pkts = front ++ p :: back ∧ s.popHead.mrq.pkts = front ++ back ∧ ∀ x ∈ front, x.cls ≠ p.cls) ∧
    s.popHead = { s with mrq := { s.mrq with pkts := s.popHead.mrq.pkts, rp := s.popHead.mrq.rp, rp2 := s.popHead.mrq.rp2 }, hif := { s.hif with popped := p.words } } ∧
    s.popHead.mrq.words p.cls + p.words.length = s.mrq.words p.cls ∧ (∀ c, c ≠ p.cls → s.popHead.mrq.words c = s.mrq.words c ∧ s.popHead.mrq.rp.getD c 0 = s.mrq.rp.getD c 0) ∧ s.popHead.mrq.ptrsAgree p.cls = true) ∧
  (∀ s : State, s.mrq.head = none → s.popHead = s)

/-- R652, R653, R655: a packet with room is opened: its words are held and its class holds them, while SEQ and the committed packets stay; one without room is dropped: the drop count of its class advances, DROP sets, the queue keeps its
packets, and source 122 raises unless the packet is that source's own. A stroke summary that was opened (R654) has its words already, and keeps them; one that finds no room as it is to be opened is not opened: dropped, counted and
reported likewise. At the end of the step time every open packet commits, in its order: SEQ advances with each, ATTN sets, and it is the last of those committed, with its class, its header of two words, and its payload. -/
def Obligations.SendOrDrop : Prop :=
  (∀ (s : State) (b : PktBody), b.kind.2.1 ≠ 0x09 → s.mrq.ptrsAgree (b.cls s) = true → s.mrq.ptrsAgree 0 = true → b.cls s < 4 →
    (s.mrq.room (b.cls s) ((b.payload s).length + 2) = true →
      s.openPacket b = { s with mrq := (s.openPacket b).mrq } ∧ (s.openPacket b).mrq.opened = s.mrq.opened ++ [⟨b, b.cls s, (b.payload s).length + 2⟩] ∧ (s.openPacket b).mrq.pkts = s.mrq.pkts ∧
      (s.openPacket b).mrq.seq = s.mrq.seq ∧ (s.openPacket b).mrq.words (b.cls s) = s.mrq.words (b.cls s) + (b.payload s).length + 2) ∧
    (s.mrq.room (b.cls s) ((b.payload s).length + 2) = false →
      (s.openPacket b).mrq = s.mrq ∧ (s.openPacket b).rn (A.MRQ_DROP (b.cls s)) = min 65535 (s.rn (A.MRQ_DROP (b.cls s)) + 1) ∧ (s.openPacket b).g F.MRQ_STAT_DROP = 1 ∧
      ((∀ a c o st n band, b ≠ .fault a c o st 122 n band) → (s.openPacket b).flt.raised = s.flt.raised ++ [⟨122, .detector, s.power.code⟩]) ∧
      (∀ a c o st n band, b = .fault a c o st 122 n band → (s.openPacket b).flt.raised = s.flt.raised))) ∧
  (∀ (s : State) (c : Nat) (ws : List (BitVec 32)), s.mrq.ptrsAgree c = true → s.mrq.ptrsAgree 0 = true → s.mrq.closing = [c] →
    s.openPacket (.stroke c ws) = { s with mrq := { s.mrq with closing := [], opened := s.mrq.opened ++ [⟨.stroke c ws, c, strokePktLen⟩] } } ∧ (∀ d, (s.openPacket (.stroke c ws)).mrq.words d = s.mrq.words d)) ∧
  (∀ s : State, s.commitOpened = { s with mrq := s.commitOpened.mrq, hif := { s.hif with attn := s.hif.attn || !s.mrq.opened.isEmpty } } ∧ s.commitOpened.mrq.opened = [] ∧
    s.commitOpened.mrq.seq = s.mrq.seq + s.mrq.opened.length ∧ (∃ l : List Packet, s.commitOpened.mrq.pkts = s.mrq.pkts ++ l ∧ l.map Packet.cls = (byProducer s.mrq.opened).map OpenPkt.cls ∧
      l.map (fun p => p.words.drop 2) = (byProducer s.mrq.opened).map (fun o => o.body.payload s) ∧ (∀ p ∈ l, 2 ≤ p.words.length))) ∧
  (∀ s : State, s.mrq.ptrsAgree (s.g F.STK_CFG_PKTCLS) = true → s.mrq.ptrsAgree 0 = true →
    (s.mrq.room (s.g F.STK_CFG_PKTCLS) strokePktLen = true → s.openStroke.1 = true ∧ s.openStroke.2.mrq.openCls = some (s.g F.STK_CFG_PKTCLS) ∧ s.openStroke.2 = { s with mrq := s.openStroke.2.mrq } ∧ s.openStroke.2.mrq.pkts = s.mrq.pkts) ∧
    (s.mrq.room (s.g F.STK_CFG_PKTCLS) strokePktLen = false → s.openStroke.1 = false ∧
      s.openStroke.2 = { s with regs := s.openStroke.2.regs, flt := { s.flt with raised := s.flt.raised ++ [⟨122, .detector, s.power.code⟩] } } ∧
      s.openStroke.2.rn (A.MRQ_DROP (s.g F.STK_CFG_PKTCLS)) = min 65535 (s.rn (A.MRQ_DROP (s.g F.STK_CFG_PKTCLS)) + 1) ∧ s.openStroke.2.g F.MRQ_STAT_DROP = 1 ∧
      (∀ x, x ≠ A.MRQ_DROP (s.g F.STK_CFG_PKTCLS) → x ≠ A.MRQ_STAT → s.openStroke.2.rd x = s.rd x)))

/-- R215, R341, R392, R507, R598, R646: the registers that clear counts. Each reads as zero, as at reset, since no host write stores anything in it; a write of 0xC1EA clears the counts that it names and nothing else, and any other value is ignored.
Says complete: domCntclr, drvCntclr, stkCntclr, wayCntclr, thmCntclr, fltCntclr. -/
def Obligations.CountClears : Prop :=
  (∀ a ∈ [A.DRV_CNTCLR, A.STK_CNTCLR, A.WAY_CNTCLR, A.THM_CNTCLR, A.FLT_CNTCLR] ++ domains.map A.DOM_CNTCLR, resetWord a = 0 ∧ (∀ old w : Word, storedWord a old w = old) ∧ ∀ s : State, s.rd a = 0 → (s.readWords .host a 1).1 = [0]) ∧
  (∀ (s : State) (n : Nat), n ∈ domains → s.hostAlive = true → ∃ e : State, exec (.domCntclr n 0xC1EA#16) s = .next e.settle ∧ e = { s.clocked with regs := e.regs } ∧ (∀ k, k < 6 → e.rd (A.DOM_CNT n k) = 0) ∧ (∀ a, (∀ k, k < 6 → a ≠ A.DOM_CNT n k) → e.rd a = s.rd a)) ∧
  (∀ (s : State) (n : Nat) (w : Word), w ≠ 0xC1EA#16 → exec (.domCntclr n w) s = .next s.framed.settle) ∧
  (∀ s : State, s.hostAlive = true → exec (.drvCntclr 0xC1EA#16) s = .next (((s.clocked.wr A.DRV_CNTRET 0).wr (A.DRV_CNTRET + 1) 0).wr (A.DRV_CNTRET + 2) 0).settle) ∧
  (∀ (s : State) (w : Word), w ≠ 0xC1EA#16 → exec (.drvCntclr w) s = .next s.framed.settle) ∧
  (∀ s : State, s.hostAlive = true → ∃ e : State, exec (.stkCntclr 0xC1EA#16) s = .next e.settle ∧ e = { s.clocked with regs := e.regs } ∧ (∀ k, k < 7 → e.rd (A.STK_CNT k) = 0) ∧ (∀ a, (∀ k, k < 7 → a ≠ A.STK_CNT k) → e.rd a = s.rd a)) ∧
  (∀ (s : State) (w : Word), w ≠ 0xC1EA#16 → exec (.stkCntclr w) s = .next s.framed.settle) ∧
  (∀ s : State, s.hostAlive = true → exec (.wayCntclr 0xC1EA#16) s = .next ((s.clocked.wr A.WAY_CNTCRC 0).wr (A.WAY_CNTCRC + 1) 0).settle) ∧
  (∀ (s : State) (w : Word), w ≠ 0xC1EA#16 → exec (.wayCntclr w) s = .next s.framed.settle) ∧
  (∀ s : State, s.hostAlive = true → exec (.thmCntclr 0xC1EA#16) s = .next ((s.clocked.wr A.THM_CNTSD 0).wr (A.THM_CNTSD + 1) 0).settle) ∧
  (∀ (s : State) (w : Word), w ≠ 0xC1EA#16 → exec (.thmCntclr w) s = .next s.framed.settle) ∧
  (∀ s : State, s.hostAlive = true → ∃ e : State, exec (.fltCntclr 0xC1EA#16) s = .next e.settle ∧ e = { s.clocked with regs := e.regs } ∧ (∀ n, n < 128 → e.rd (A.FLT_CNT n) = 0) ∧ (∀ a, (∀ n, n < 128 → a ≠ A.FLT_CNT n) → e.rd a = s.rd a)) ∧
  (∀ (s : State) (w : Word), w ≠ 0xC1EA#16 → exec (.fltCntclr w) s = .next s.framed.settle)

/-- R656: a stroke summary packet that was opened and is then rewound leaves no trace: its words are free again, no sequence number is consumed, neither ATTN nor any other status of the host interface changes, and the packets that the host can
read are those of before. -/
def Obligations.RewindLeavesNoTrace : Prop :=
  ∀ s : State, s.mrq.openCls = none → s.mrq.rp = s.mrq.rp2 → s.mrq.wp = s.mrq.wp2 → s.openStroke.1 = true →
    s.openStroke.2.mrq.openCls = some (s.g F.STK_CFG_PKTCLS) ∧ s.openStroke.2.mrq.free + strokePktLen = s.mrq.free ∧
    s.openStroke.2.rewindStroke.mrq.openCls = none ∧ s.openStroke.2.rewindStroke.mrq.free = s.mrq.free ∧ s.openStroke.2.rewindStroke.mrq.seq = s.mrq.seq ∧ s.openStroke.2.rewindStroke.mrq.pkts = s.mrq.pkts ∧
    s.openStroke.2.rewindStroke.mrq.outbox = s.mrq.outbox ∧ s.openStroke.2.rewindStroke.hif = s.hif ∧ s.openStroke.2.rewindStroke.regs = s.regs ∧ s.openStroke.2.rewindStroke.flt = s.flt

/-! ### Learned data and the NVM -/

/-- R87, R94, R98, R107: outside BOOT the keys of SYS_LDCTRL act: the learned-data erase leaves the set dirty with sequence number 0, changes no register but the learned ones and SYS_LDSTAT, and asks for the bus, the log erase asks for the bus, and the write-back key asks for a
write-back; in BOOT every write is ignored, as is any other value; the register reads as zero, as at reset, since no host write stores anything in it.
That SYS_LDSEQ reads 0 from the key on is the model's reading (log entry 19, DEDUCED).
Says complete: ldErase, fflogErase, writebackRequest. -/
def Obligations.LearnedKeys : Prop :=
  (∀ s : State, s.hostAlive = true → s.power ≠ .boot → ∃ e : State, exec (.ldErase 0xE1A5#16) s = .next e.settle ∧ e = { s.clocked with regs := e.regs, nvm := e.nvm, gau := e.gau } ∧ (∀ a, survivalOf a ≠ .learned → a ≠ A.SYS_LDSTAT → a ≠ A.SYS_LDSEQ 0 → a ≠ A.SYS_LDSEQ 1 → e.rd a = s.rd a) ∧ e.b F.SYS_LDSTAT_DIRTY = true ∧ e.r32 (A.SYS_LDSEQ 0) = 0 ∧ (.eraseLearned ∈ e.nvm.waiting ∨ e.nvm.cur = some .eraseLearned) ∧ e.nvm.vnvm = true) ∧
  (∀ s : State, s.hostAlive = true → s.power ≠ .boot → ∃ e : State, exec (.fflogErase 0xE1F0#16) s = .next e.settle ∧ e = { s.clocked with nvm := e.nvm } ∧ (.eraseLog ∈ e.nvm.waiting ∨ e.nvm.cur = some .eraseLog) ∧ e.nvm.vnvm = true ∧ e.regs = s.regs) ∧
  (∀ s : State, s.hostAlive = true → s.power ≠ .boot → exec (.writebackRequest 0x3C96#16) s = .next ({ s.clocked with nvm := { s.nvm with wbDue := true } } : State).settle) ∧
  (∀ (s : State) (w : Word), s.power = .boot → exec (.ldErase w) s = .next s.framed.settle ∧ exec (.fflogErase w) s = .next s.framed.settle ∧ exec (.writebackRequest w) s = .next s.framed.settle) ∧
  (∀ (s : State) (w : Word), w ≠ 0xE1A5#16 → w ≠ 0xE1F0#16 → w ≠ 0x3C96#16 → exec (.ldErase w) s = .next s.framed.settle ∧ exec (.fflogErase w) s = .next s.framed.settle ∧ exec (.writebackRequest w) s = .next s.framed.settle) ∧
  (resetWord A.SYS_LDCTRL = 0 ∧ (∀ old w : Word, storedWord A.SYS_LDCTRL old w = old) ∧ ∀ s : State, s.rd A.SYS_LDCTRL = 0 → (s.readWords .host A.SYS_LDCTRL 1).1 = [0])

/-- R67, R72, R87 to R90, R94 to R99, R105: the NVM's bus. A write-back that may start asks for the bus; a free bus with the NVM ready goes to the waiting access of highest precedence, the earlier of two equal ones:
a record, an erase, which begins or goes on, the check of copy B in RUN and WATCH, or a write-back, which begins, goes on, or, where a condition of R88 has failed, ends and is wanted again; a page programmed leads to the next one, to the commit
and to the verification, and yields the bus where an access of higher precedence waits; a record programmed enters SYS_FFLOG with the next RSEQ and its CRC; a page erased is blank, and the slot whose header it held is not valid; VNVM goes on and off; the verification read that agrees completes a write-back: SYS_LDSEQ takes
its number and DIRTY clears unless the set has changed; a poll that times out ends the access and raises source 113; a chunk of copy B short of the end of its header is kept.
That a poll which times out ends the whole of a log erase, the page's words kept, is the model's choice (log entry 19, DESIGN CHOICE: R67 only ends the access and raises source 113), and that WFAIL reads 0 after a write-back that was cut short its reading
(log entry 20, DEDUCED).
Says complete: ldPeriodExpiry, writeBackRetry, nvmAccessStart, vnvmReady, vnvmOff, pageProgramDone, nvmPollTimeout, verifyReadDone, copyBChunkDone. -/
def Obligations.NvmBus : Prop :=
  (∀ s : State, s.aoOn = true → s.b F.SYS_LDSTAT_DIRTY = true → s.isNor = false → s.wbActive = false → s.mayWrite = true →
    exec .ldPeriodExpiry s = .next ({ s with nvm := { s.nvm with wbWanted := false, waiting := s.nvm.waiting ++ [.writeBack], vnvm := true } } : State).settle ∧
    (s.nvm.wbWanted = true → exec .writeBackRetry s = .next ({ s with nvm := { s.nvm with wbWanted := false, waiting := s.nvm.waiting ++ [.writeBack], vnvm := true } } : State).settle)) ∧
  (∀ (s : State) (u : NvmUse) (l1 l2 : List NvmUse), s.aoOn = true → s.power ≠ .boot → s.nvm.vnvm = true → s.nvm.ready = true → s.nvm.cur = none →
    s.nvm.waiting.filter s.nvmEligible = l1 ++ u :: l2 → (∀ v ∈ l1, u.rank < v.rank) → (∀ v ∈ l2, u.rank ≤ v.rank) →
    ∃ e : State, exec .nvmAccessStart s = .next e.settle ∧ e = { s with regs := e.regs, nvm := e.nvm } ∧ (∀ a, a ≠ A.SYS_LDSTAT → e.rd a = s.rd a) ∧ e.nvm.waiting = s.nvm.waiting.filter (· ≠ u) ∧
      (u ≠ .writeBack → e.nvm = { s.nvm with cur := some u, waiting := s.nvm.waiting.filter (· ≠ u), logLeft := (if u = .eraseLog ∧ s.nvm.logLeft = 0 then s.logPages else s.nvm.logLeft), ldLeft := (if u = .eraseLearned ∧ s.nvm.ldLeft = 0 then s.learnedPages else s.nvm.ldLeft) } ∧
        e.b F.SYS_LDSTAT_WBBUSY = (s.nvm.wbStage ≠ .none || e.nvm.logLeft ≠ 0 || e.nvm.ldLeft ≠ 0)) ∧
      (u = .writeBack → s.nvm.wbStage = .none → s.mayWrite = true → e.nvm.cur = some .writeBack ∧ e.nvm.wbStage = .data 1 ∧ e.nvm.wbData = s.slotBytes e.nvm.wbSeq ∧ e.nvm.wbStale = false ∧ e.b F.SYS_LDSTAT_WBBUSY = true) ∧
      (u = .writeBack → s.nvm.wbStage ≠ .none → (s.nvm.wbStage = .verify ∨ (s.mayWrite = true ∧ s.nvm.wbCut = false)) → e.nvm = { s.nvm with cur := some u, waiting := s.nvm.waiting.filter (· ≠ u) } ∧ e.b F.SYS_LDSTAT_WBBUSY = true) ∧
      (u = .writeBack → s.nvm.wbStage ≠ .verify → (s.mayWrite = false ∨ (s.nvm.wbStage ≠ .none ∧ s.nvm.wbCut = true)) → e.nvm.cur = none ∧ e.nvm.wbStage = .none ∧ e.nvm.wbWanted = true ∧ e.b F.SYS_LDSTAT_WBBUSY = (s.nvm.logLeft ≠ 0 || s.nvm.ldLeft ≠ 0))) ∧
  (∀ s : State, s.aoOn = true → s.nvm.vnvm = true → exec .vnvmReady s = .next ({ s with nvm := { s.nvm with ready := true } } : State).settle) ∧
  (∀ s : State, s.power ≠ .boot → s.nvm.cur = none → s.nvm.waiting = [] → s.gau.stage ≠ .challenged → exec .vnvmOff s = .next ({ s with nvm := { s.nvm with vnvm := false, ready := false } } : State).settle) ∧
  (∀ s : State, s.nvm.cur = some .writeBack → s.nvm.wbStage = .commit →
    exec .pageProgramDone s = .next (({ s with nvm := { s.nvm with wbStage := .verify, cur := (if s.nvm.waiting.any (fun v => v.rank < 2) then none else s.nvm.cur), waiting := (if s.nvm.waiting.any (fun v => v.rank < 2) then .writeBack :: s.nvm.waiting else s.nvm.waiting) } } : State).p F.SYS_LDSTAT_WBBUSY 1).settle) ∧
  (∀ (s : State) (k : Nat), s.nvm.cur = some .writeBack → s.nvm.wbStage = .data k → s.mayWrite = true → s.nvm.wbCut = false →
    exec .pageProgramDone s = .next (({ s with nvm := { s.nvm with wbStage := (if 2048 / s.pageSize ≤ k then .commit else .data (k + 1)), cur := (if s.nvm.waiting.any (fun v => v.rank < 2) then none else s.nvm.cur), waiting := (if s.nvm.waiting.any (fun v => v.rank < 2) then .writeBack :: s.nvm.waiting else s.nvm.waiting) } } : State).p F.SYS_LDSTAT_WBBUSY 1).settle) ∧
  (∀ (s : State) (k : Nat), s.nvm.cur = some .writeBack → s.nvm.wbStage = .data k → (s.mayWrite = false ∨ s.nvm.wbCut = true) →
    ∃ e : State, exec .pageProgramDone s = .next e.settle ∧ e = { s with regs := e.regs, nvm := { s.nvm with wbStage := .none, wbCut := false, wbWanted := true, waiting := s.nvm.waiting.filter (· ≠ .writeBack), cur := none } } ∧ (∀ a, a ≠ A.SYS_LDSTAT → e.rd a = s.rd a) ∧
      e.b F.SYS_LDSTAT_WFAIL = false ∧ e.b F.SYS_LDSTAT_WBBUSY = (s.nvm.logLeft ≠ 0 || s.nvm.ldLeft ≠ 0)) ∧
  (∀ (s : State) (bs : List Byte) (rest : List (List Byte)), s.nvm.cur = some .record → s.nvm.records = bs :: rest → s.nvm.ring.length = 128 → bs.length = 13 →
    let ws := leWords (leBytes 2 s.ffNext.2 ++ bs ++ [crc8 (leBytes 2 s.ffNext.2 ++ bs)])
    ∃ e : State, exec .pageProgramDone s = .next e.settle ∧ e = { s with regs := e.regs, nvm := e.nvm } ∧ e.nvm.cur = none ∧ (∀ i, i < 128 → e.nvm.ring.getD i 0 = if s.ffNext.1 * 8 ≤ i ∧ i < s.ffNext.1 * 8 + 8 then ws.getD (i - 8 * s.ffNext.1) 0 else s.nvm.ring.getD i 0) ∧
      (∀ i, i < 8 → e.rn (A.SYS_FFLOG (8 * s.ffNext.1 + i)) = ws.getD i 0 % 65536) ∧ e.nvm.records = (if e.ffFull then [] else rest) ∧ (e.nvm.records ≠ [] → .record ∈ e.nvm.waiting) ∧
      (∀ a, a ≠ A.SYS_LDSTAT → a ≠ A.SYS_FFSTAT → (∀ i, i < 8 → a ≠ A.SYS_FFLOG (8 * s.ffNext.1 + i)) → e.rd a = s.rd a)) ∧
  (∀ (s : State) (k : Nat), s.nvm.cur = some .eraseLog → s.nvm.logLeft = k + 1 → k < s.logPages → s.nvm.ring.length = 128 →
    ∃ e : State, exec .pageProgramDone s = .next e.settle ∧ e = { s with regs := e.regs, nvm := e.nvm } ∧ e.nvm.logLeft = k ∧ (k = 0 → e.nvm.cur = none ∧ e.nvm.waiting = s.nvm.waiting) ∧
      (k ≠ 0 → (∀ v ∈ s.nvm.waiting, v ≠ .record) → e.nvm.cur = some .eraseLog ∧ e.nvm.waiting = s.nvm.waiting) ∧ (k ≠ 0 → .record ∈ s.nvm.waiting → e.nvm.cur = none ∧ e.nvm.waiting = .eraseLog :: s.nvm.waiting) ∧
      (∀ i, i < 128 → e.rn (A.SYS_FFLOG i) = if 128 / s.logPages * (s.logPages - (k + 1)) ≤ i ∧ i < 128 / s.logPages * (s.logPages - k) then 0xFFFF else s.nvm.ring.getD i 0 % 65536)) ∧
  (∀ (s : State) (k : Nat), s.nvm.cur = some .eraseLearned → s.nvm.ldLeft = k + 1 → (∀ v ∈ s.nvm.waiting, v ≠ .record) →
    exec .pageProgramDone s = .next (({ s with nvm := { s.nvm with ldLeft := k, cur := (if k = 0 then none else some .eraseLearned), slotAok := s.nvm.slotAok && !s.isNor && decide (k ≠ 3), slotBok := s.nvm.slotBok && !s.isNor && decide (k ≠ 1) } } : State).pb F.SYS_LDSTAT_WBBUSY (s.nvm.wbStage ≠ .none || s.nvm.logLeft ≠ 0 || k ≠ 0)).settle) ∧
  (∀ s : State, s.nvm.cur = some .eraseLog →
    exec .nvmPollTimeout s = .next ((({ s with nvm := { s.nvm with cur := none, logLeft := 0 } } : State).pb F.SYS_LDSTAT_WBBUSY (s.nvm.wbStage ≠ .none || s.nvm.ldLeft ≠ 0)).raise 113).settle) ∧
  (∀ s : State, s.nvm.cur = some .writeBack → s.nvm.wbStage = .verify → s.nvm.wbSeq < 4294967296 →
    ∃ e : State, exec (.verifyReadDone s.nvm.wbData) s = .next e.settle ∧ e = { s with regs := e.regs, nvm := e.nvm } ∧ (∀ a, a ≠ A.SYS_LDSTAT → a ≠ A.SYS_LDSEQ 0 → a ≠ A.SYS_LDSEQ 1 → e.rd a = s.rd a) ∧ e.nvm.cur = none ∧ e.nvm.wbStage = .none ∧ e.r32 (A.SYS_LDSEQ 0) = s.nvm.wbSeq ∧
      e.b F.SYS_LDSTAT_DIRTY = s.nvm.wbStale ∧ e.b F.SYS_LDSTAT_WFAIL = false ∧ e.b F.SYS_LDSTAT_WBBUSY = (s.nvm.logLeft ≠ 0 || s.nvm.ldLeft ≠ 0)) ∧
  (∀ (s : State) (bs : List Byte), s.nvm.cur = some .copyB → (s.nvm.cbBytes ++ bs.take 256).length < 8 →
    exec (.copyBChunkDone bs) s = .next ({ s with nvm := { s.nvm with cur := none, cbBytes := s.nvm.cbBytes ++ bs.take 256 } } : State).settle)

/-! ### The waymark engines -/

/-- R149: triggers. One that is already pending changes nothing and none is lost but a trigger 0 that a trigger 1 discards; trigger 1 pre-empts a running or waiting entry that is not halted: it discards a pending trigger 0 and no other, the engine
is to start at offset 1 next, and a wait, or a run whose step is not still to come in the step time, is left at once; an engine that is stopped takes none.
That an engine which is pre-empted is idle until it starts is the model's choice (log entry 33, DESIGN CHOICE). -/
def Obligations.TriggerRules : Prop :=
  ∀ (t : Nat) (due : Bool) (e : Engine), trigEngine t due (trigEngine t due e) = trigEngine t due e ∧ (e.mode ≠ .stopped → t ∈ (trigEngine t due e).pend) ∧ (∀ u, u ∈ e.pend → u ≠ 0 → u ∈ (trigEngine t due e).pend) ∧
    (∀ u, u ∈ (trigEngine t due e).pend → u = t ∨ u ∈ e.pend) ∧ (0 ∈ e.pend → t ≠ 1 → 0 ∈ (trigEngine t due e).pend) ∧
    (t = 1 → e.halted = false → (e.mode = .run ∨ ∃ w, e.mode = .wait w) →
      (trigEngine t due e).pre = true ∧ 0 ∉ (trigEngine t due e).pend ∧ (trigEngine t due e).mode = if due = true ∧ e.mode = .run then .run else .idle) ∧
    (t ≠ 1 ∨ e.halted = true ∨ e.mode = .idle → (trigEngine t due e).mode = e.mode ∧ (trigEngine t due e).pre = e.pre) ∧ (e.mode = .stopped → trigEngine t due e = e) ∧
    (trigEngine t due e).pc = e.pc ∧ (trigEngine t due e).l0 = e.l0 ∧ (trigEngine t due e).l1 = e.l1 ∧ (trigEngine t due e).halted = e.halted ∧ (e.pend.Pairwise (· < ·) → (trigEngine t due e).pend.Pairwise (· < ·))

/-- R147, R150: an engine goes on n steps further while the offset stays below its length, but for one that trigger 1 has pre-empted (R149), which is idle; at or beyond it, the program ends, and an engine other than SYS is idle.
R43, R147, R149, R150: an idle engine starts at the offset of its lowest pending trigger, or after a pre-emption at offset 1, with its loop counters at zero; where the engine's length is no greater, the trigger completes at once as END would; END of
an engine other than SYS makes it idle; END of SYS in POWER-UP enters WATCH or RUN by the latest request or, without one, by SYS_CFG.START_STATE.
`openStep` and `keepStep` keep the step time's sample (R146).
R43, R47, R87, R198, R203, R205: END of SYS in POWER-DOWN leads to FAULT after a WARN or an over-voltage met on the way, and else, with every domain off and every engine stopped, to HIBERNATE, or to SHIP where its key asked for it and no on request is remembered;
a dirty learned set that can be written back is written first, and the entry waits for it.
R205, R629: what the step that ends the program raises is judged first: at WARN or HALT it leads to FAULT.
That the latest request of R43 is one not yet served, and is cleared as it is served, is the model's choice (log entry 24, DESIGN CHOICE), as is the sharing of the step time's sample (log entry 35, DEDUCED), and the program counter and the mode that a pre-emption and an immediate completion leave (log entry 33, DESIGN CHOICE).
Says complete: engineStart, engEnd. -/
def Obligations.EngineStartsGoesOnEnds : Prop :=
  (∀ (s : State) (k n : Nat), k < s.eng.length →
    ((s.engAt k).pc + n < s.engLen k → ((s.advance k n).engAt k).mode = (if (s.engAt k).pre then .idle else .run) ∧ ((s.advance k n).engAt k).pc = (s.engAt k).pc + n ∧ (∀ j, j ≠ k → (s.advance k n).engAt j = s.engAt j) ∧
      s.advance k n = { s with eng := (s.advance k n).eng }) ∧
    (s.engLen k ≤ (s.engAt k).pc + n → k ≠ 0 → ((s.advance k n).engAt k).mode = .idle ∧ (∀ j, j ≠ k → (s.advance k n).engAt j = s.engAt j) ∧ s.advance k n = { s with eng := (s.advance k n).eng })) ∧
  (∀ (s : State) (k t : Nat), s.mayStart k = true → (if (s.engAt k).pre then some 1 else (s.engAt k).pend.head?) = some t → t < s.engLen k →
    exec (.engineStart k) s =
      .next ({ s.keepStep k with eng := s.eng.modify k (fun e => { e with mode := .run, pc := t, pend := e.pend.filter (fun u => u ≠ t && !(e.pre && u = 0)), pre := false, l0 := 0, l1 := 0 }) } : State).settle) ∧
  (∀ (s : State) (k t : Nat), k ≠ 0 → s.mayStart k = true → (if (s.engAt k).pre then some 1 else (s.engAt k).pend.head?) = some t → s.engLen k ≤ t →
    exec (.engineStart k) s =
      .next ({ s.keepStep k with eng := s.eng.modify k (fun e => { e with mode := .idle, pc := t, pend := e.pend.filter (fun u => u ≠ t && !(e.pre && u = 0)), pre := false, l0 := 0, l1 := 0, stepping := false }) } : State).settle) ∧
  (∀ (s : State) (k : Nat), k ≠ 0 → s.mayStep k = true → s.stepAt k = .ok .end_ →
    exec (.engEnd k) s = .next ({ s.openStep k with eng := s.eng.modify k (fun e => { e with mode := .idle, stepping := false }) } : State).settle) ∧
  (∀ s : State, s.power = .powerUp → s.mayStep 0 = true → s.stepAt 0 = .ok .end_ →
    ∃ e : State, exec (.engEnd 0) s = .next e.settle ∧ e.power = (match s.ctl.request with | some .watch => .watch | some .run => .run | none => if s.b F.SYS_CFG_START_STATE then .watch else .run) ∧ e.ctl.request = none ∧
      (e.engAt 0).mode = .idle) ∧
  (∀ s : State, s.power = .powerDown → s.ctl.entryWaits = none → s.mayStep 0 = true → s.stepAt 0 = .ok .end_ → s.flt.raised = [] → s.mrq.outbox = [] →
    ∃ e : State, exec (.engEnd 0) s = .next e.settle ∧ (s.flt.incident.isSome = true ∨ s.ctl.latched.isSome = true → e.power = .fault) ∧
      (s.flt.incident = none → s.ctl.latched = none → (s.b F.SYS_LDSTAT_DIRTY = false ∨ s.isNor = true ∨ (s.nvm.wbStage = .none ∧ s.mayWrite = false)) →
        e.power = (if s.ctl.shipping && s.ctl.onReq.isNone then .ship else .hibernate) ∧ (∀ n ∈ domains, e.cmdOn n = false) ∧ (∀ k, k < s.eng.length → (e.engAt k).mode = .stopped)) ∧
      (s.flt.incident = none → s.ctl.latched = none → s.b F.SYS_LDSTAT_DIRTY = true → s.isNor = false → (s.nvm.wbStage ≠ .none ∨ s.mayWrite = true) →
        e.power = .powerDown ∧ e.ctl.entryWaits = some (if s.ctl.shipping then .ship else .hibernate) ∧ e.wbActive = true)) ∧
  (∀ (s : State) (r : Raise), s.power = .powerDown → s.mrq.outbox = [] → s.flt.raised = [r] → s.srcEn r.source = true → 2 ≤ s.appliedClass r → s.endPowerDown.power = .fault)

/-- R146, R165: the condition of every code of the table, in terms of the state and of the sample that the step time took (PB_N, WAKE1, WAKE2, STROKE and SYNC_IN as the command says they were sampled), and what the sample takes: an engine whose number is
higher than that of the engine before it in the step time shares its sample, and every other takes its own. Code 0xC4 (OFFPEND) is false between two commands, as a reserved code is; these are the model's choices (log entries 27 and 9), as is the sharing of the sample (log entry 35). -/
def Obligations.ConditionTable : Prop :=
  (∀ s : State, s.cond 0x00 = true ∧
    (∀ n ∈ domains, s.cond n = s.pg n ∧ s.cond (0x0F + n) = s.ctl.samp.below.testBit (n - 1) ∧ s.cond (0x1F + n) = s.ctl.samp.above.testBit (n - 1) ∧ s.cond (0x9F + n) = s.cmdOn n) ∧
    (∀ k, k < 16 → s.cond (0x30 + k) = s.ctl.samp.above.testBit k ∧ s.cond (0x40 + k) = s.ctl.samp.below.testBit k) ∧
    (∀ k, k < 32 → s.cond (0x50 + k) = (s.rd (A.ENG_FSET (k / 16))).getLsbD (k % 16)) ∧ (∀ t, t < 4 → s.cond (0x90 + t) = (s.timAt t).expired) ∧ (∀ b, b < 6 → s.cond (0x98 + b) = decide (s.g F.THM_STAT_BAND = b)) ∧
    (∀ k, k < 8 → s.cond (0xB0 + k) = (s.rd A.ADC_WINSTAT).getLsbD k) ∧ (∀ k, k < 12 → s.cond (0xC8 + k) = (decide ((s.engAt k).mode ≠ .idle) || (s.engAt k).halted)) ∧
    (∀ b, b < 4 → s.cond (0xE0 + b) = (decide (s.rd (A.FLT_STK (2 * b)) ≠ 0) || decide (s.rd (A.FLT_STK (2 * b + 1)) ≠ 0))) ∧
    s.cond 0x70 = s.pins.pbLow ∧ s.cond 0x71 = s.pins.wake1 ∧ s.cond 0x72 = s.pins.wake2 ∧ s.cond 0x73 = (s.pins.stroke && s.ctl.samp.vioh) ∧ s.cond 0x74 = s.pins.syncIn ∧
    s.cond 0x80 = s.ctl.samp.qual ∧ s.cond 0x81 = s.ctl.samp.fullOn ∧ s.cond 0x82 = s.ctl.samp.weir ∧ s.cond 0x83 = s.ctl.samp.pack ∧ s.cond 0x84 = (decide (s.g F.GAU_STAT_AUTH = 2) || !s.b F.GAU_CFG_AUTHEN) ∧
    s.cond 0x85 = (decide (s.g F.GAU_RESERVE_STROKES ≠ 255) && decide (s.g F.GAU_RESERVE_FLOOR ≤ s.g F.GAU_RESERVE_STROKES)) ∧ s.cond 0x86 = (decide (3 ≤ s.g F.CHG_STAT_STATE) && decide (s.g F.CHG_STAT_STATE ≤ 7)) ∧
    s.cond 0x87 = s.pfw ∧ s.cond 0x88 = (s.drvOn && decide (s.g F.DRV_SYNC_MODE = 1) && s.b F.DRV_SYNCSTAT_LOCK) ∧ s.cond 0x89 = (decide (s.g F.DRV_STAT_MODE = 3) && !s.b (F.DOM_STAT_MASKED 1)) ∧ s.cond 0x8A = s.minOk ∧
    s.cond 0x8B = s.b F.STK_STAT_PREARM ∧ s.cond 0x8C = s.b F.STK_STAT_RUNNING ∧ s.cond 0x8D = (s.b F.STK_STAT_RUNNING && s.b F.STK_STAT_PROVING) ∧ s.cond 0x8E = s.b F.WAY_STAT_ORPHAN ∧
    s.cond 0x8F = decide (s.g F.WAY_GRANT_TOLLS ≠ 0) ∧ s.cond 0x9E = s.b F.THM_STAT_THRREQ ∧ s.cond 0x9F = s.b F.THM_STAT_THRENF ∧ s.cond 0xB8 = (s.b F.ADC_CALSTAT_PEND || s.b F.ADC_CALSTAT_RUN) ∧ s.cond 0xB9 = s.b F.SYS_CLK_LFSRC ∧
    s.cond 0xBA = s.ctl.samp.vbk175 ∧ s.cond 0xBB = s.ctl.samp.vioh ∧ s.cond 0xC0 = decide (s.power = .run) ∧ s.cond 0xC1 = decide (s.power = .watch) ∧ s.cond 0xC2 = decide (s.power = .powerUp) ∧
    s.cond 0xC3 = decide (s.power = .powerDown) ∧ s.cond 0xC4 = false ∧ s.cond 0xC5 = s.ctl.onReq.isSome ∧ s.cond 0xC6 = s.ctl.foff ∧ s.cond 0xE4 = s.ctl.holdWarn) ∧
  (∀ s : State, (∀ k, k < 16 → s.sample.ctl.samp.below.testBit k = s.under k ∧ s.sample.ctl.samp.above.testBit k = s.over k) ∧ s.sample.ctl.samp.qual = s.line.qual ∧ s.sample.ctl.samp.fullOn = s.line.fullOn ∧
    s.sample.ctl.samp.weir = s.weirOn ∧ s.sample.ctl.samp.pack = s.present ∧ s.sample.ctl.samp.vbk175 = s.sup.vbk175 ∧ s.sample.ctl.samp.vioh = s.sup.vioh ∧ s.sample = { s with ctl := { s.ctl with samp := s.sample.ctl.samp } }) ∧
  (∀ (s : State) (k j : Nat), (s.ctl.stepEng = some j → j < k → (s.openStep k).ctl.samp = s.ctl.samp) ∧ ((s.ctl.stepEng = none ∨ (s.ctl.stepEng = some j ∧ k ≤ j)) → (s.openStep k).ctl.samp = s.sample.ctl.samp)) ∧
  (∀ (s : State) (c : Nat), c ∈ [0x0B, 0x0F, 0x1A, 0x1F, 0x2A, 0x2F, 0x75, 0x7F, 0x94, 0x97, 0xAA, 0xAF, 0xBC, 0xBF, 0xC7, 0xD4, 0xDF, 0xE5, 0xFF] → s.cond c = false)

/-- R153 to R163: the encodings of END, ENABLE, DISABLE, SET, WAIT, WAITC, CHECK, JUMP, SIGNAL and SYNC, each read with every operand that it admits; LoopCounts says the same of LOOP. A reserved opcode or KIND is read as no step: its result is undefined. -/
def Obligations.StepEncodings : Prop :=
  decodeStep 0 = .ok .end_ ∧
  (∀ kind mask : Nat, (kind ≤ 1 ∧ mask < 1024) ∨ (kind = 2 ∧ mask < 8) ∨ (kind = 3 ∧ mask < 65536) ∨ (kind = 4 ∧ mask = 0) →
    decodeStep (1 * 2 ^ 28 + kind * 2 ^ 24 + mask) = .ok (.enable kind mask) ∧ decodeStep (2 * 2 ^ 28 + kind * 2 ^ 24 + mask) = .ok (.disable kind mask false) ∧
    (kind = 0 → decodeStep (2 * 2 ^ 28 + 2 ^ 16 + mask) = .ok (.disable 0 mask true))) ∧
  (∀ i v : Nat, (i = 0 ∧ v < 1024) ∨ (i = 1 ∧ v < 65536) ∨ (0x10 ≤ i ∧ i ≤ 0x1F ∧ v < 65536) ∨ (i = 0x40 ∧ v < 4096) ∨ (0x41 ≤ i ∧ i ≤ 0x49 ∧ i ≠ 0x48 ∧ v < 512) ∨ (i = 0x50 ∧ v < 4096) ∨ (0x51 ≤ i ∧ i ≤ 0x59 ∧ v < 16) ∨
      (0x60 ≤ i ∧ i ≤ 0x7F ∧ v < 1024) ∨ (i = 0x80 ∧ v < 64) ∨ (i = 0x81 ∧ v = 0) ∨ (i = 0x82 ∧ v < 32) → decodeStep (3 * 2 ^ 28 + i * 2 ^ 16 + v) = .ok (.set i v)) ∧
  (∀ (n : Nat) (lf : Bool), n < 2 ^ 24 → decodeStep (4 * 2 ^ 28 + lf.toNat * 2 ^ 24 + n) = .ok (.wait lf n)) ∧
  (∀ (c t : Nat) (inv : Bool), c < 256 → t < 65536 → decodeStep (5 * 2 ^ 28 + inv.toNat * 2 ^ 27 + c * 2 ^ 16 + t) = .ok (.waitc inv c t)) ∧
  (∀ (c t : Nat) (inv : Bool), c < 256 → t < 4096 → decodeStep (6 * 2 ^ 28 + inv.toNat * 2 ^ 27 + c * 2 ^ 16 + t) = .ok (.check inv false false c t) ∧
    decodeStep (7 * 2 ^ 28 + inv.toNat * 2 ^ 27 + 2 ^ 26 + c * 2 ^ 16 + t) = .ok (.jump inv true c t) ∧ decodeStep (7 * 2 ^ 28 + t) = .ok (.jump false false 0 t)) ∧
  (∀ (c src : Nat) (inv stop : Bool), c < 256 → src < 128 → decodeStep (6 * 2 ^ 28 + inv.toNat * 2 ^ 27 + 2 ^ 26 + stop.toNat * 2 ^ 25 + c * 2 ^ 16 + src) = .ok (.check inv true stop c src)) ∧
  (∀ kind op : Nat, (kind ≤ 1 ∧ op < 2 ^ 17) ∨ (kind = 2 ∧ (op = 0 ∨ op = 256)) ∨ (kind = 3 ∧ op < 128) ∨ ((kind = 4 ∨ kind = 5) ∧ op < 2 ^ 18) ∨ (kind = 6 ∧ (op = 1 ∨ op = 2)) →
    decodeStep (8 * 2 ^ 28 + kind * 2 ^ 24 + op) = .ok (.signal kind op)) ∧
  (∀ (f : Nat) (clr : Bool), f < 32 → decodeStep (9 * 2 ^ 28 + clr.toNat * 2 ^ 8 + f) = .ok (.sync clr f)) ∧
  (∀ w : Nat, w < 2 ^ 32 → 11 ≤ w / 2 ^ 28 ∨ ((w / 2 ^ 28 = 1 ∨ w / 2 ^ 28 = 2) ∧ 5 ≤ w / 2 ^ 24 % 16) ∨ (w / 2 ^ 28 = 8 ∧ 7 ≤ w / 2 ^ 24 % 16) → ∃ m, decodeStep w = .error m)

/-- R155, R206: ENABLE and DISABLE by their kinds, each then going on at the next step: domains are switched on together, and off one by one with active discharge unless NODIS is set; engines receive trigger 0 or 1; reset outputs are
released or held; monitors gain or lose their power request; the shed set goes off or on. `u` is the state in the engine's step time (R146).
R208: holding or releasing reset outputs changes the named ones alone; an output is low while an engine holds it, outside the states with engines, during a reset, and while a domain mapped to it is not power-good or has been for less than 1 ms.
R553: a power request of the named monitors is set or cleared in CMP_PWR; a monitor whose power changes with it starts afresh, "under", not "over" and outside any window, and nothing else changes.
R206: the shed set: the domains of SYS_SHEDMASK that are on go off and have SHED set; every other domain keeps both.
R155, R193: domains that are switched on together take the rank after the highest; those that were on keep theirs. R155, R188, R193: a domain that is switched off is off, not power-good, not masked and without a rank.
Says complete: enableDomain, enableSequence, enableResetRelease, enableMonitor, enableShedSet, disableDomain, disableSequence, disableReset, disableMonitor, disableShedSet. -/
def Obligations.EnableAndDisable : Prop :=
  (∀ (s : State) (k mask : Nat) (nodis : Bool), s.mayStep k = true →
      let u := s.openStep k
      (s.stepAt k = .ok (.enable 0 mask) → s.unusedIn (maskDomains mask) = false → exec (.enableDomain k) s = .next ((u.domsOn (maskDomains mask)).advance k 1).settle) ∧
      (s.stepAt k = .ok (.enable 1 mask) → exec (.enableSequence k) s = .next (((maskDomains mask).foldl (fun t n => t.trig n 0) u).advance k 1).settle) ∧
      (s.stepAt k = .ok (.enable 2 mask) → exec (.enableResetRelease k) s = .next ((u.holdResets mask false).advance k 1).settle) ∧
      (s.stepAt k = .ok (.enable 3 mask) → exec (.enableMonitor k) s = .next ((u.setMonPower mask true).advance k 1).settle) ∧
      (s.stepAt k = .ok (.enable 4 mask) → s.unusedIn (maskDomains (s.g F.SYS_SHEDMASK_SHED)) = false → exec (.enableShedSet k) s = .next ((u.domsOn (maskDomains (s.g F.SYS_SHEDMASK_SHED))).advance k 1).settle) ∧
      (s.stepAt k = .ok (.disable 0 mask nodis) → exec (.disableDomain k) s = .next (((maskDomains mask).foldl (fun t n => t.domOff n (!nodis)) u).advance k 1).settle) ∧
      (s.stepAt k = .ok (.disable 1 mask nodis) → exec (.disableSequence k) s = .next (((maskDomains mask).foldl (fun t n => t.trig n 1) u).advance k 1).settle) ∧
      (s.stepAt k = .ok (.disable 2 mask nodis) → exec (.disableReset k) s = .next ((u.holdResets mask true).advance k 1).settle) ∧
      (s.stepAt k = .ok (.disable 3 mask nodis) → exec (.disableMonitor k) s = .next ((u.setMonPower mask false).advance k 1).settle) ∧
      (s.stepAt k = .ok (.disable 4 mask nodis) → exec (.disableShedSet k) s = .next (u.shedOff.advance k 1).settle)) ∧
  (∀ (s : State) (mask : Nat) (low : Bool), s.holdResets mask low = { s with ctl := { s.ctl with rstEng := (s.holdResets mask low).ctl.rstEng } } ∧
    (∀ i, i < 3 → (s.holdResets mask low).rstLow i =
      ((if mask.testBit i then low else s.ctl.rstEng.getD i true) || !s.running || s.ctl.resetting.isSome || domains.any (fun n => s.rstMap n i && (!s.pg n || (s.domAt n).fresh))))) ∧
  (∀ (s : State) (mask : Nat) (on : Bool), mask < 65536 →
    (s.setMonPower mask on).rn A.CMP_PWR = (if on then (s.rn A.CMP_PWR).lor mask else (s.rn A.CMP_PWR).land (65535 - mask)) ∧
    (∀ k, k < 16 → (s.setMonPower mask on).monPowered k = s.monPowered k → (s.setMonPower mask on).under k = s.under k ∧ (s.setMonPower mask on).over k = s.over k ∧ (s.setMonPower mask on).blanked k = s.blanked k) ∧
    (∀ k, k < 16 → (s.setMonPower mask on).monPowered k ≠ s.monPowered k → (s.setMonPower mask on).under k = true ∧ (s.setMonPower mask on).over k = false ∧ (s.setMonPower mask on).blanked k = false) ∧
    s.setMonPower mask on = { s with regs := (s.setMonPower mask on).regs, mon := (s.setMonPower mask on).mon } ∧ (∀ a, a ≠ A.CMP_PWR → a ≠ A.CMP_UNDER → a ≠ A.CMP_OVER → (s.setMonPower mask on).rd a = s.rd a)) ∧
  (∀ (s : State) (n : Nat), n ∈ domains → s.shedOff.cmdOn n = (s.cmdOn n && !(s.g F.SYS_SHEDMASK_SHED).testBit (n - 1)) ∧
    s.shedOff.b (F.DOM_STAT_SHED n) = (s.b (F.DOM_STAT_SHED n) || (s.cmdOn n && (s.g F.SYS_SHEDMASK_SHED).testBit (n - 1)))) ∧
  (∀ (s : State) (ns : List Nat), (∀ n ∈ ns, n ∈ domains) → s.topRank < 15 →
    (∀ n ∈ ns, s.cmdOn n = false → (s.domsOn ns).cmdOn n = true ∧ (s.domsOn ns).rank n = s.topRank + 1) ∧ (∀ n ∈ domains, s.cmdOn n = true → (s.domsOn ns).cmdOn n = true ∧ (s.domsOn ns).rank n = s.rank n)) ∧
  (∀ (s : State) (n : Nat) (disch : Bool), n ∈ domains → s.cmdOn n = true → (s.domOff n disch).cmdOn n = false ∧ (s.domOff n disch).pg n = false ∧ (s.domOff n disch).maskedDom n = false ∧ (s.domOff n disch).rank n = 0)

/-- R146, R156 to R161, R163: SET, WAIT, WAITC, CHECK, JUMP and SYNC: SET of an engine variable stores the value; a WAIT of a COUNT above 0 waits and goes on when it expires; a WAITC goes on two steps when its condition holds in the sample of its
step time, and one step at a timeout; a CHECK whose condition fails raises its source or jumps; a JUMP is taken where its condition holds; a SYNC waits for its flag and with CLR clears it.
Says complete: set, wait, waitExpiry, waitc, waitcConditionMet, waitcTimeout, check, jump, sync, syncRelease. -/
def Obligations.SetWaitAndFlow : Prop :=
  (∀ (s : State) (k i v : Nat), i < 16 → s.mayStep k = true → s.stepAt k = .ok (.set (0x10 + i) v) → exec (.set k) s = .next (((s.openStep k).wn (A.SYS_EVAR i) v).advance k 1).settle) ∧
  (∀ (s : State) (k n : Nat) (lf : Bool), s.mayStep k = true → s.stepAt k = .ok (.wait lf n) → 0 < n →
    exec (.wait k) s = .next ({ s.openStep k with eng := s.eng.modify k (fun e => { e with mode := if e.pre then .idle else .wait .time, stepping := false }) } : State).settle) ∧
  (∀ (s : State) (k n : Nat) (lf : Bool), s.waitsFor k .time = true → s.stepAt k = .ok (.wait lf n) → exec (.waitExpiry k) s = .next ((s.openStep k).advance k 1).settle) ∧
  (∀ (s : State) (k c t : Nat) (inv : Bool) (pins : PinSample), s.mayStep k = true → s.stepAt k = .ok (.waitc inv c t) →
    let u := (s.setPins pins).openStep k
    exec (.waitc k pins) s = .next (if u.cond c != inv then u.advance k 2 else { u with eng := u.eng.modify k (fun e => { e with mode := if e.pre then .idle else .wait .cond, stepping := false }) } : State).settle) ∧
  (∀ (s : State) (k c t : Nat) (inv : Bool) (pins : PinSample), s.waitsFor k .cond = true → s.stepAt k = .ok (.waitc inv c t) →
    let u := (s.setPins pins).openStep k
    u.cond c ≠ inv → exec (.waitcConditionMet k pins) s = .next (u.advance k 2).settle) ∧
  (∀ (s : State) (k c t : Nat) (inv : Bool), s.waitsFor k .cond = true → s.stepAt k = .ok (.waitc inv c t) → 0 < t → exec (.waitcTimeout k) s = .next ((s.openStep k).advance k 1).settle) ∧
  (∀ (s : State) (k c op : Nat) (inv stop : Bool) (pins : PinSample), s.mayStep k = true → s.stepAt k = .ok (.check inv true stop c op) →
    let u := (s.setPins pins).openStep k
    exec (.check k pins) s = .next (if u.cond c != inv then u.advance k 1 else if stop then (u.raiseBy .engine op).endProgram k else (u.raiseBy .engine op).advance k 1).settle) ∧
  (∀ (s : State) (k c target : Nat) (inv : Bool) (pins : PinSample), s.mayStep k = true → s.stepAt k = .ok (.check inv false false c target) → target < s.engLen k →
    let u := (s.setPins pins).openStep k
    exec (.check k pins) s = .next (if u.cond c != inv then u.advance k 1 else { u with eng := u.eng.modify k (fun e => { e with mode := if e.pre then .idle else .run, pc := target, stepping := false }) } : State).settle) ∧
  (∀ (s : State) (k c target : Nat) (inv en : Bool) (pins : PinSample), s.mayStep k = true → s.stepAt k = .ok (.jump inv en c target) → target < s.engLen k →
    let u := (s.setPins pins).openStep k
    exec (.jump k pins) s = .next (if !en || u.cond c != inv then { u with eng := u.eng.modify k (fun e => { e with mode := if e.pre then .idle else .run, pc := target, stepping := false }) } else u.advance k 1 : State).settle) ∧
  (∀ (s : State) (k f : Nat) (clr : Bool), s.mayStep k = true → s.stepAt k = .ok (.sync clr f) →
    let u := s.openStep k
    exec (.sync k) s = .next (if s.flag f then (if clr then u.setFlags (f / 16) (2 ^ (f % 16)) false else u).advance k 1
      else { u with eng := u.eng.modify k (fun e => { e with mode := if e.pre then .idle else .wait .flag, stepping := false }) } : State).settle) ∧
  (∀ (s : State) (k f : Nat) (clr : Bool), s.waitsFor k .flag = true → s.stepAt k = .ok (.sync clr f) → s.flag f = true →
    let u := s.openStep k
    exec (.syncRelease k) s = .next ((if clr then u.setFlags (f / 16) (2 ^ (f % 16)) false else u).advance k 1).settle)

/-- R164: LOOP: its encoding, read for each COUNT from 1 to 255 and each TARGET; with its counter at zero it loads COUNT and jumps; at one it clears the counter and goes on; above one it decrements it and jumps. A COUNT of 0, and a jump
to a target at or beyond the engine's length, have no defined result.
That the two undefined cases are faults is the model's choice (log entries 9 and 36, DESIGN CHOICE and DEDUCED).
Says complete: loop. -/
def Obligations.LoopCounts : Prop :=
  (∀ (s : State) (k n target : Nat) (second : Bool), s.mayStep k = true → s.stepAt k = .ok (.loop second n target) → target < s.engLen k → (if second then (s.engAt k).l1 else (s.engAt k).l0) = 0 →
    exec (.loop k) s = .next ({ s.openStep k with eng := s.eng.modify k (fun e =>
      { e with mode := if e.pre then .idle else .run, pc := target, stepping := false, l0 := if second then e.l0 else n, l1 := if second then n else e.l1 }) } : State).settle) ∧
  (∀ (s : State) (k n target : Nat) (second : Bool), s.mayStep k = true → s.stepAt k = .ok (.loop second n target) → (s.engAt k).pc + 1 < s.engLen k → (if second then (s.engAt k).l1 else (s.engAt k).l0) = 1 →
    exec (.loop k) s = .next ({ s.openStep k with eng := s.eng.modify k (fun e =>
      { e with mode := if e.pre then .idle else .run, pc := (s.engAt k).pc + 1, stepping := false, l0 := if second then e.l0 else 0, l1 := if second then 0 else e.l1 }) } : State).settle) ∧
  (∀ (s : State) (k n target : Nat) (second : Bool), s.mayStep k = true → s.stepAt k = .ok (.loop second n target) → target < s.engLen k → 2 ≤ (if second then (s.engAt k).l1 else (s.engAt k).l0) →
    exec (.loop k) s = .next ({ s.openStep k with eng := s.eng.modify k (fun e =>
      { e with mode := if e.pre then .idle else .run, pc := target, stepping := false, l0 := if second then e.l0 else (s.engAt k).l0 - 1, l1 := if second then (s.engAt k).l1 - 1 else e.l1 }) } : State).settle) ∧
  (∀ (s : State) (k n target : Nat) (second : Bool), s.mayStep k = true → s.stepAt k = .ok (.loop second n target) → s.engLen k ≤ target → (if second then (s.engAt k).l1 else (s.engAt k).l0) ≠ 1 →
    ∃ m, exec (.loop k) s = .fault (.undefinedStep m)) ∧
  (∀ (n target : Nat) (second : Bool), 1 ≤ n → n < 256 → target < 4096 → decodeStep (10 * 2 ^ 28 + (if second then 2 ^ 24 else 0) + n * 2 ^ 16 + target) = .ok (.loop second n target)) ∧
  (∀ (s : State) (k target : Nat) (second : Bool), s.mayStep k = true → target < 4096 → s.g (F.ENG_BASE_BASE k) + (s.engAt k).pc < 4096 → s.stepWord k = 10 * 2 ^ 28 + (if second then 2 ^ 24 else 0) + target →
    ∃ m, exec (.loop k) s = .fault (.undefinedStep m))

/-- R162, R167: SIGNAL by its kinds, each then going on at the next step: flags of a group set or clear, PFW_N is driven, a source raises with the engine as its origin, a report is posted with the step's offset, a timer starts or with a
duration of 0 stops.
R43, R162, R347: a request for a state acts from SYS alone: in POWER-UP it becomes the latest request; in WATCH one for RUN enters RUN and in RUN one for WATCH enters WATCH, each with SYS's trigger, or with a stroke active waits for its end, which a request for RUN takes back; a request
for the state that stands, one in POWER-DOWN, and one of another engine do nothing but go on.
Says complete: signalSetFlags, signalClearFlags, signalDrivePin, signalRaiseSource, signalPostReport, signalStartTimer, signalRequestState. -/
def Obligations.Signals : Prop :=
  ∀ (s : State) (k op : Nat), s.mayStep k = true →
    let u := s.openStep k
    (s.stepAt k = .ok (.signal 0 op) → exec (.signalSetFlags k) s = .next ((u.wn (A.ENG_FSET (op / 65536 % 2)) ((s.rn (A.ENG_FSET (op / 65536 % 2))).lor (op % 65536))).advance k 1).settle) ∧
    (s.stepAt k = .ok (.signal 1 op) → exec (.signalClearFlags k) s = .next ((u.wn (A.ENG_FSET (op / 65536 % 2)) ((s.rn (A.ENG_FSET (op / 65536 % 2))).land (65535 - op % 65536))).advance k 1).settle) ∧
    (s.stepAt k = .ok (.signal 2 op) → exec (.signalDrivePin k) s = .next (({ u with ctl := { u.ctl with pfwEng := op.testBit 8 } } : State).advance k 1).settle) ∧
    (s.stepAt k = .ok (.signal 3 op) → exec (.signalRaiseSource k) s = .next ((u.raiseBy .engine (op % 128)).advance k 1).settle) ∧
    (s.stepAt k = .ok (.signal 4 op) → exec (.signalPostReport k) s = .next ((u.post (.engReport k (s.engAt k).pc (op % 65536) (op / 65536 % 4))).advance k 1).settle) ∧
    (s.stepAt k = .ok (.signal 5 op) →
      exec (.signalStartTimer k) s = .next (({ u with tim := s.tim.modify (op / 65536 % 4) (fun _ => ⟨decide (op % 65536 ≠ 0), false, op % 65536, s.ticks⟩) } : State).advance k 1).settle) ∧
    (s.stepAt k = .ok (.signal 6 1) → k = 0 → s.power = .watch → exec (.signalRequestState k) s = .next ((({ u with power := .run } : State).trig 0 3).advance k 1).settle) ∧
    (s.stepAt k = .ok (.signal 6 op) → (k ≠ 0 ∨ s.power = .powerDown ∨ (s.power = .watch ∧ op = 2)) → exec (.signalRequestState k) s = .next (u.advance k 1).settle) ∧
    (s.stepAt k = .ok (.signal 6 op) → k = 0 → s.power = .powerUp →
      exec (.signalRequestState k) s = .next (({ u with ctl := { u.ctl with request := some (if op = 1 then .run else .watch) } } : State).advance k 1).settle) ∧
    (s.stepAt k = .ok (.signal 6 1) → k = 0 → s.power = .run → exec (.signalRequestState k) s = .next (({ u with stk := { s.stk with heldWatch := false } } : State).advance k 1).settle) ∧
    (s.stepAt k = .ok (.signal 6 2) → k = 0 → s.power = .run → s.strokeActive = false → exec (.signalRequestState k) s = .next ((({ u with power := .watch } : State).trig 0 2).advance k 1).settle) ∧
    (s.stepAt k = .ok (.signal 6 2) → k = 0 → s.power = .run → s.strokeActive = true → exec (.signalRequestState k) s = .next (({ u with stk := { s.stk with heldWatch := true } } : State).advance k 1).settle)

/-- R148, R151, R152, R167, R173, R177, R633 to R635: beside the steps: a stalled step that is no wait stops ALIVE and raises source 104; a timer expires; the housekeeping tick gives HK its trigger 0, and marks one that is still pending; ALIVE toggles
while it should, and a missed toggle raises source 96; a keyed ENG_TRIG write issues trigger 6.
R169, R178: debug. A keyed write with HALT halts the engine it selects and holds ALIVE low; one with STEP makes a halted engine that waits go on with its wait, and of one that runs executes its step, here a SET of an engine variable; one with RESUME
lets it go on; a write without the key changes nothing.
Says complete: engStall, timerExpiry, hkTick, aliveToggle, aliveMiss, engTrig, engDbgHalt, engDbgStep, engDbgResume. -/
def Obligations.EngineEvents : Prop :=
  (∀ (s : State) (k : Nat) (st : EngStep), s.mayStep k = true → s.stepAt k = .ok st → st.lasts = false →
    exec (.engStall k) s = .next (({ s with ctl := { s.ctl with aliveHeld := true, alive := false, alvStop := 3 } } : State).raise 104).settle) ∧
  (∀ (s : State) (t : Nat), s.aoOn = true → (s.timAt t).running = true → exec (.timerExpiry t) s = .next ({ s with tim := s.tim.modify t (fun x => { x with running := false, expired := true }) } : State).settle) ∧
  (∀ s : State, s.running = true → s.hkPeriod ≠ 0 → exec .hkTick s = .next (if (s.engAt 11).pend.contains 0 then s.p F.ENG_STAT_HKOVR 1 else s.trig 11 0).settle) ∧
  (∀ s : State, s.aliveRuns = true → exec .aliveToggle s = .next ({ s with ctl := { s.ctl with alive := !s.ctl.alive } } : State).settle) ∧
  (∀ s : State, s.aliveRuns = true → exec .aliveMiss s = .next (({ s with ctl := { s.ctl with aliveHeld := true, alive := false, alvStop := 5 } } : State).raise 96).settle) ∧
  (∀ (s : State) (w : Word), s.hostAlive = true → s.running = true → F.ENG_TRIG_KEY.get w = 0x7E → F.ENG_TRIG_ENGINE.get w ≤ 11 → exec (.engTrig w) s = .next (s.clocked.trig (F.ENG_TRIG_ENGINE.get w) 6).settle) ∧
  (∀ (s : State) (w : Word), F.ENG_TRIG_KEY.get w ≠ 0x7E → exec (.engTrig w) s = .next s.framed.settle) ∧
  (∀ (s : State) (w : Word) (k : Nat), s.hostAlive = true → s.running = true → k ≤ 11 → k < s.eng.length → F.ENG_DBG_SEL.get w = k →
    (F.ENG_DBG_KEY.get w = 0xD → F.ENG_DBG_HALT.get w = 1 → F.ENG_DBG_STEP.get w = 0 → F.ENG_DBG_RESUME.get w = 0 →
      ∃ e : State, exec (.engDbgHalt w) s = .next e.settle ∧ e = { s.clocked with regs := e.regs, ctl := e.ctl, eng := e.eng } ∧ (∀ a, a ≠ A.ENG_DBG → e.rd a = s.rd a) ∧ (e.engAt k).halted = true ∧ e.ctl.alive = false ∧ e.g F.ENG_DBG_SEL = k ∧ (e.engAt k).pc = (s.engAt k).pc) ∧
    (F.ENG_DBG_KEY.get w = 0xD → F.ENG_DBG_HALT.get w = 0 → F.ENG_DBG_STEP.get w = 1 → F.ENG_DBG_RESUME.get w = 0 → (s.engAt k).halted = true → (s.engAt k).stepping = false → (s.engAt k).pend = [] → ∀ pins : PinSample,
      ((s.engAt k).mode = .wait .time → ∃ e : State, exec (.engDbgStep w pins) s = .next e.settle ∧ e = { s.clocked with regs := e.regs, eng := e.eng, pins := e.pins, ctl := e.ctl } ∧ (∀ a, a ≠ A.ENG_DBG → e.rd a = s.rd a) ∧
        (e.engAt k).stepping = true ∧ (e.engAt k).halted = true ∧ e.pins = pins) ∧
      (∀ i v : Nat, (s.engAt k).mode = .run → (s.engAt k).pre = false → s.stepAt k = .ok (.set (0x10 + i) v) → i < 16 → v < 65536 → (s.engAt k).pc + 1 < s.engLen k →
        ∃ e : State, exec (.engDbgStep w pins) s = .next e.settle ∧ e = { s.clocked with regs := e.regs, eng := e.eng, pins := e.pins, ctl := e.ctl } ∧ (∀ a, a ≠ A.ENG_DBG → a ≠ A.SYS_EVAR i → e.rd a = s.rd a) ∧
          e.rn (A.SYS_EVAR i) = v ∧ (e.engAt k).pc = (s.engAt k).pc + 1 ∧ (e.engAt k).mode = .run ∧ (e.engAt k).halted = true)) ∧
    (F.ENG_DBG_KEY.get w = 0xD → F.ENG_DBG_HALT.get w = 0 → F.ENG_DBG_STEP.get w = 0 → F.ENG_DBG_RESUME.get w = 1 → (s.engAt k).halted = true → (s.engAt k).pend = [] →
      ∃ e : State, exec (.engDbgResume w) s = .next e.settle ∧ e = { s.clocked with regs := e.regs, eng := e.eng } ∧ (∀ a, a ≠ A.ENG_DBG → e.rd a = s.rd a) ∧ (e.engAt k).halted = false ∧ (e.engAt k).mode = (s.engAt k).mode ∧ (e.engAt k).pc = (s.engAt k).pc) ∧
    (F.ENG_DBG_KEY.get w ≠ 0xD → exec (.engDbgHalt w) s = .next s.framed.settle ∧ exec (.engDbgResume w) s = .next s.framed.settle))

/-! ### Domains, monitors, regulators -/

/-- R188, R208, R224, R225: the end of the soft-start of an integrated domain, power-good where its conditions hold, the release of a reset output after 1 ms, and the end of a discharge.
R202: in POWER-UP, RUN and WATCH, an under-voltage of a domain that is due is reported: power-good falls, the domain's count advances, saturating, its engine receives trigger 2, and source 9 + n raises; an over-voltage is reported at once, likewise, with source 19 + n.
R192, R556: a sampled monitor reports both at its supervision tick, and nothing between the ticks.
R205: in POWER-DOWN a domain still on that reports either is switched off at once, with active discharge, CNTPD advances with CNTUV or CNTOV, no engine is triggered, the source raises and is sticky, and acts as NOTE at most; an over-voltage latches FAULT, an under-voltage nothing.
Says complete: softStartEnd, powerGood, resetOutputRelease, dischargeEnd, underVoltageReport, comparatorChange, supervisionTick. -/
def Obligations.DomainReports : Prop :=
  (∀ (s : State) (n : Nat), n ≠ 1 → s.cmdOn n = true → (s.domAt n).ss = true → (s.b (F.DOM_SLEW_TRACK n) = false ∨ (n ≠ 4 ∧ n ≠ 5)) →
    exec (.softStartEnd n) s = .next ({ s with dom := s.dom.modify (n - 1) (fun d => { d with ss := false, ssEnded := true }) } : State).settle) ∧
  (∀ (s : State) (n : Nat), s.mayBeGood n = true → s.pg n = false → ∃ e : State, exec (.powerGood n) s = .next e.settle ∧ e = { s with regs := e.regs, dom := e.dom } ∧ e.pg n = true ∧ (∀ a, a ≠ A.DOM_STAT n → e.rd a = s.rd a)) ∧
  (∀ (s : State) (i : Nat), s.dom.length = 10 → ∃ e : State, exec (.resetOutputRelease i) s = .next e.settle ∧ e = { s with dom := e.dom } ∧ (∀ n ∈ domains, s.rstMap n i = true → s.pg n = true → (e.domAt n).fresh = false) ∧
    (∀ n ∈ domains, (s.rstMap n i = false ∨ s.pg n = false) → e.domAt n = s.domAt n)) ∧
  (∀ (s : State) (n : Nat), n ∈ domains → n ≠ 1 → n ≠ 9 → exec (.dischargeEnd n) s = .next (s.p (F.DOM_RSTAT_DISCH n) 0).settle) ∧
  (∀ s : State, exec (.dischargeEnd 1) s = .next ({ s with drv := { s.drv with disch := false } } : State).settle) ∧
  (∀ (s : State) (n : Nat), n ∈ domains → (s.power = .powerUp ∨ s.power = .run ∨ s.power = .watch) → s.uvDue n = true → s.sampled (n - 1) = false →
    ∃ e : State, exec (.underVoltageReport n) s = .next e.settle ∧ e = { s with regs := e.regs, eng := s.eng.modify n (trigEngine 2 (s.stepDue n)), dom := e.dom, flt := { s.flt with raised := s.flt.raised ++ [⟨9 + n, .detector, s.power.code⟩] } } ∧
      (∀ a, a ≠ A.DOM_STAT n → a ≠ A.DOM_CNT n 0 → e.rd a = s.rd a) ∧ e.pg n = false ∧ e.rn (A.DOM_CNT n 0) = min 65535 (s.rn (A.DOM_CNT n 0) + 1)) ∧
  (∀ (s : State) (n mv : Nat) (sw : Switching), n ∈ domains → (s.power = .powerUp ∨ s.power = .run ∨ s.power = .watch) → s.reports n = true → (s.domAt n).ovRep = false → (n = 9 → s.lockHolds = true → sw.lockOn = true) → s.sampled (n - 1) = false →
    (s.switched sw).blanked (n - 1) = false → s.judgeOver (n - 1) (s.stepOf (n - 1)) (s.monInput (n - 1) mv) = true →
    ∃ e : State, exec (.comparatorChange (n - 1) mv sw) s = .next e.settle ∧
      e = { s.switched sw with regs := e.regs, eng := s.eng.modify n (trigEngine 2 (s.stepDue n)), dom := e.dom, flt := { s.flt with raised := s.flt.raised ++ [⟨19 + n, .detector, s.power.code⟩] } } ∧
      (∀ a, a ≠ A.DOM_STAT n → a ≠ A.DOM_CNT n 1 → a ≠ A.CMP_UNDER → a ≠ A.CMP_OVER → a ≠ A.CMP_UEVT → a ≠ A.CMP_OEVT → e.rd a = s.rd a) ∧ e.pg n = false ∧ e.over (n - 1) = true ∧
      e.rn (A.DOM_CNT n 1) = min 65535 (s.rn (A.DOM_CNT n 1) + 1)) ∧
  (∀ (s : State) (n : Nat), n ∈ domains → s.power = .powerDown → s.uvDue n = true → s.sampled (n - 1) = false → s.dom.length = 10 →
    ∃ e : State, exec (.underVoltageReport n) s = .next e.settle ∧ e.cmdOn n = false ∧ e.pg n = false ∧ (if n = 1 then e.drv.disch = true else n ≠ 9 → e.b (F.DOM_RSTAT_DISCH n) = true) ∧ e.eng = s.eng ∧ e.ctl = s.ctl ∧ e.power = .powerDown ∧
      e.rn (A.DOM_CNT n 0) = min 65535 (s.rn (A.DOM_CNT n 0) + 1) ∧ e.rn (A.DOM_CNT n 3) = min 65535 (s.rn (A.DOM_CNT n 3) + 1) ∧ e.flt.raised = s.flt.raised ++ [⟨9 + n, .detector, s.power.code⟩] ∧ (s.srcEn (9 + n) = true → e.settle.sticky (9 + n) = true)) ∧
  (∀ (s : State) (n mv : Nat) (sw : Switching), n ∈ domains → s.power = .powerDown → s.reports n = true → (s.domAt n).ovRep = false → (n = 9 → s.lockHolds = true → sw.lockOn = true) → s.sampled (n - 1) = false → s.dom.length = 10 →
    (s.switched sw).blanked (n - 1) = false → s.judgeOver (n - 1) (s.stepOf (n - 1)) (s.monInput (n - 1) mv) = true →
    ∃ e : State, exec (.comparatorChange (n - 1) mv sw) s = .next e.settle ∧ e.cmdOn n = false ∧ e.pg n = false ∧ (if n = 1 then e.drv.disch = true else n ≠ 9 → e.b (F.DOM_RSTAT_DISCH n) = true) ∧ e.eng = s.eng ∧ e.power = .powerDown ∧
      e.ctl = { s.ctl with latched := e.ctl.latched } ∧ e.ctl.latched.isSome = true ∧ (s.ctl.latched.isSome = true → e.ctl = s.ctl) ∧ (s.ctl.latched = none → e.ctl.latched.map (fun i => i.source) = some (19 + n)) ∧
      e.rn (A.DOM_CNT n 1) = min 65535 (s.rn (A.DOM_CNT n 1) + 1) ∧ e.rn (A.DOM_CNT n 3) = min 65535 (s.rn (A.DOM_CNT n 3) + 1) ∧ e.flt.raised = s.flt.raised ++ [⟨19 + n, .detector, s.power.code⟩] ∧ (s.srcEn (19 + n) = true → e.settle.sticky (19 + n) = true)) ∧
  (∀ (s : State) (r : Raise), s.power = .powerDown → 10 ≤ r.source → r.source ≤ 29 → s.appliedClass r = min (s.srcCls r.source) 1) ∧
  (∀ (s : State) (n : Nat), s.sampled (n - 1) = true → exec (.underVoltageReport n) s = .next s.settle) ∧
  (∀ (s : State) (n mv : Nat) (sw : Switching), s.sampled (n - 1) = true → exec (.comparatorChange (n - 1) mv sw) s = .next (s.switched sw).settle) ∧
  (∀ (s : State) (n mv : Nat) (sw : Switching), n ∈ domains → (s.power = .powerUp ∨ s.power = .run ∨ s.power = .watch) → s.reports n = true → (n = 9 → s.lockHolds = true → sw.lockOn = true) → s.monPowered (n - 1) = true →
    (∀ j ∈ List.range 16, (s.monPowered j && s.sampled j) = decide (j = n - 1)) → (s.switched sw).blanked (n - 1) = false →
    let ov := s.judgeOver (n - 1) (s.stepOf (n - 1)) mv
    let un := s.judgeUnder (n - 1) (s.stepOf (n - 1)) mv
    (ov = true → (s.domAt n).ovRep = false → (un = false ∨ (s.domAt n).wasGood = false) → ∃ e : State, exec (.supervisionTick [(n - 1, mv)] sw) s = .next e.settle ∧
      e = { s.switched sw with regs := e.regs, eng := s.eng.modify n (trigEngine 2 (s.stepDue n)), dom := e.dom, flt := { s.flt with raised := s.flt.raised ++ [⟨19 + n, .detector, s.power.code⟩] } } ∧ e.pg n = false ∧ e.over (n - 1) = true ∧
      e.rn (A.DOM_CNT n 1) = min 65535 (s.rn (A.DOM_CNT n 1) + 1) ∧ (∀ a, a ≠ A.DOM_STAT n → a ≠ A.DOM_CNT n 1 → a ≠ A.CMP_UNDER → a ≠ A.CMP_OVER → a ≠ A.CMP_UEVT → a ≠ A.CMP_OEVT → a ≠ A.CMP_TICK → e.rd a = s.rd a)) ∧
    (ov = false → un = true → (s.domAt n).wasGood = true → (s.domAt n).uvRep = false → (n = 1 → s.weirOn = false) → ∃ e : State, exec (.supervisionTick [(n - 1, mv)] sw) s = .next e.settle ∧
      e = { s.switched sw with regs := e.regs, eng := s.eng.modify n (trigEngine 2 (s.stepDue n)), dom := e.dom, flt := { s.flt with raised := s.flt.raised ++ [⟨9 + n, .detector, s.power.code⟩] } } ∧ e.pg n = false ∧ e.under (n - 1) = true ∧
      e.rn (A.DOM_CNT n 0) = min 65535 (s.rn (A.DOM_CNT n 0) + 1) ∧ (∀ a, a ≠ A.DOM_STAT n → a ≠ A.DOM_CNT n 0 → a ≠ A.CMP_UNDER → a ≠ A.CMP_OVER → a ≠ A.CMP_UEVT → a ≠ A.CMP_OEVT → a ≠ A.CMP_TICK → e.rd a = s.rd a)))

/-- R551, R552, R555, R556: what a monitor does with its input. It becomes "under" below its lower threshold less its hysteresis and leaves it above the threshold, and "over" above its upper threshold, leaving it below that less the hysteresis. A
monitor that is powered, continuous and outside any window is judged at once, and nothing else changes where no over-voltage of a domain comes of it; within a window its comparators hold, and the end of the window judges. A supervision tick judges
a sampled monitor and no continuous one, and the general timer starts windows only of the monitors with BSRC 5. R239: each event on the monitors tells whether the switch of LOCK conducts; where it does not within a pull-in or hold period, WM8 holds. R554: each high-side turn-on starts the windows that name its domain, and each
turn-on and turn-off of the switch of LOCK, also of one that has changed and changed back since the event before, those of BSRC 3.
What the switching that an event carries says, for a sampled monitor too, and which windows it starts, are the model's readings (log entry 45, DEDUCED).
Says complete: comparatorChange, supervisionTick, blankingEnd, generalTimerExpiry. -/
def Obligations.MonitorJudges : Prop :=
  (∀ (s : State) (k step mv : Nat), s.judgeUnder k step mv = (if s.under k then decide (mv ≤ s.rn (A.CMP_LO k) * step) else decide (mv < (s.rn (A.CMP_LO k) - hysCodes (s.g (F.CMP_CFG_HYS k))) * step)) ∧
    s.judgeOver k step mv = (if s.over k then decide ((s.rn (A.CMP_HI k) - hysCodes (s.g (F.CMP_CFG_HYS k))) * step ≤ mv) else decide (s.rn (A.CMP_HI k) * step < mv))) ∧
  (∀ (s : State) (k mv : Nat) (sw : Switching), k < 10 → s.monPowered k = true → (k = 8 → s.lockHolds = true → sw.lockOn = true) → s.sampled k = false → (s.switched sw).blanked k = false → s.judgeOver k (s.stepOf k) (s.monInput k mv) = false →
    ∃ e : State, exec (.comparatorChange k mv sw) s = .next e.settle ∧ e = { s.switched sw with regs := e.regs, dom := e.dom } ∧ e.under k = s.judgeUnder k (s.stepOf k) (s.monInput k mv) ∧ e.over k = false ∧
      (∀ a, a ≠ A.CMP_UNDER → a ≠ A.CMP_OVER → a ≠ A.CMP_UEVT → a ≠ A.CMP_OEVT → e.rd a = s.rd a)) ∧
  (∀ (s : State) (mv : Nat) (ons : List Nat), s.lockHolds = true → exec (.comparatorChange 8 mv ⟨ons, false⟩) s = .next (s.switched ⟨ons, false⟩).settle) ∧
  (∀ (s : State) (k mv : Nat) (sw : Switching), s.running = true → 10 ≤ k → k < 16 → s.monPowered k = true → (∀ j ∈ List.range 16, (s.monPowered j && s.sampled j) = decide (j = k)) → (s.switched sw).blanked k = false →
    ∃ e : State, exec (.supervisionTick [(k, mv)] sw) s = .next e.settle ∧ e = { s.switched sw with regs := e.regs } ∧ e.rn A.CMP_TICK = s.tickCode % 16 ∧ e.under k = s.judgeUnder k (s.stepOf k) (s.monInput k mv) ∧
      e.over k = s.judgeOver k (s.stepOf k) (s.monInput k mv) ∧ (∀ a, a ≠ A.CMP_UNDER → a ≠ A.CMP_OVER → a ≠ A.CMP_UEVT → a ≠ A.CMP_OEVT → a ≠ A.CMP_TICK → e.rd a = s.rd a)) ∧
  (∀ (s : State) (k mv : Nat) (sw : Switching), 10 ≤ k → k < 16 → s.monPowered k = true → s.sampled k = false → (s.switched sw).blanked k = false →
    ∃ e : State, exec (.comparatorChange k mv sw) s = .next e.settle ∧ e = { s.switched sw with regs := e.regs } ∧ e.under k = s.judgeUnder k (s.stepOf k) (s.monInput k mv) ∧
      e.over k = s.judgeOver k (s.stepOf k) (s.monInput k mv) ∧ (∀ a, a ≠ A.CMP_UNDER → a ≠ A.CMP_OVER → a ≠ A.CMP_UEVT → a ≠ A.CMP_OEVT → e.rd a = s.rd a)) ∧
  (∀ (s : State) (k mv : Nat) (sw : Switching), (s.switched sw).blanked k = true → exec (.comparatorChange k mv sw) s = .next (s.switched sw).settle) ∧
  (∀ (s : State) (k mv : Nat) (sw : Switching), 10 ≤ k → k < 16 → s.monPowered k = true → s.sampled k = false →
    ∃ e : State, exec (.blankingEnd k mv sw) s = .next e.settle ∧ e = { s.switched sw with regs := e.regs, mon := e.mon } ∧ (∀ a, a ≠ A.CMP_UNDER → a ≠ A.CMP_OVER → a ≠ A.CMP_UEVT → a ≠ A.CMP_OEVT → e.rd a = s.rd a) ∧
      e.blanked k = false ∧ e.under k = s.judgeUnder k (s.stepOf k) (s.monInput k mv) ∧ e.over k = s.judgeOver k (s.stepOf k) (s.monInput k mv)) ∧
  (∀ (s : State) (l : List (Nat × Nat)) (sw : Switching), (∀ k ∈ List.range 16, s.sampled k = false) →
    exec (.supervisionTick l sw) s = .next (if s.running then (s.switched sw).wn A.CMP_TICK (s.tickCode % 16) else s.switched sw).settle) ∧
  (∀ s : State, ∃ e : State, exec .generalTimerExpiry s = .next e.settle ∧ e = { s with mon := e.mon } ∧ e.mon.due = s.mon.due ∧
    (∀ k, k < 16 → e.blanked k = (s.blanked k || (s.monPowered k && decide (s.g (F.CMP_CFG_BSRC k) = 5))))) ∧
  (∀ (s : State) (sw : Switching), s.switched sw = { s with mon := (s.switched sw).mon, lock := { s.lock with idle := !sw.lockOn } } ∧ (s.switched sw).mon.due = s.mon.due ∧
    (∀ k, k < 16 → (s.switched sw).blanked k = (s.blanked k || (s.monPowered k && (sw.turnOns.any (fun n => s.turnsOn n && onHits n (s.g (F.CMP_CFG_BSRC k)) (s.g (F.CMP_CFG_BDOM k))) ||
      (s.lockHolds && s.lock.idle && sw.lockOn && onHits 9 (s.g (F.CMP_CFG_BSRC k)) (s.g (F.CMP_CFG_BDOM k))) ||
      (s.lockHolds && decide (s.g (F.CMP_CFG_BSRC k) = 3) && (if 9 ∈ sw.turnOns then !s.lock.idle || !sw.lockOn || decide (2 ≤ sw.turnOns.count 9) else !s.lock.idle && !sw.lockOn)))))))

/-- R222, R230, R232, R298: the regulators. An input that falls below its lockout, 6.5 V for HOUSE, LOCK and FIELD and 4.3 V for the others, ends the soft-start of a domain that is on, and LOCK then conducts no more; one that rises above 7.0 V or
4.60 V lets it start again; between the two, and with the domain off, only the comparator, and VDRV where it is the input, follow; outside the states with engines the level of VDRV alone is kept (log entry 11, DESIGN CHOICE). The current limit's moment is kept; a setpoint written to a domain with DVS that is on and settled starts a slew, masked,
with the code written as its target; the target reached begins the settle time, at whose end MASKED clears and SLEWDONE sets.
R84, R221, R298: outside BOOT a host write of a setpoint of a domain with DVS, or of DRIVE, with no window in force stores the code written, and with one the code limited to it, marked in CLAMP where that changes it; with that domain off nothing else starts and nothing else changes.
That with no window in force, the state without a valid image, a clamped field is stored as written is the model's reading (log entry 15, DEDUCED).
Says complete: inputLockoutChange, currentLimitActs, dvsTargetReached, dvsSlewDone, dvsSetpointWrite, driveSetpointWrite. -/
def Obligations.RegulatorEvents : Prop :=
  (∀ (s : State) (n mv : Nat), s.running = true → n ∈ domains → n ≠ 1 → n ≠ 9 →
    let fed : Drive := { s.drv with vdrv := if n = 2 ∨ n = 10 then mv else s.drv.vdrv }
    (s.lockedOut n = false → s.cmdOn n = true → s.maskedDom n = false → mv < (if n = 2 ∨ n = 10 then 6500 else 4300) →
      ∃ e : State, exec (.inputLockoutChange n mv) s = .next e.settle ∧ e = { s with regs := e.regs, dom := s.dom.modify (n - 1) (fun d => { d with ss := false, ssEnded := false }), drv := fed } ∧ (∀ a, a ≠ A.DOM_RSTAT n → e.rd a = s.rd a) ∧ e.lockedOut n = true) ∧
    (s.lockedOut n = true → s.cmdOn n = true → (if n = 2 ∨ n = 10 then 7000 else 4600) < mv →
      ∃ e : State, exec (.inputLockoutChange n mv) s = .next e.settle ∧ e = { s with regs := e.regs, dom := s.dom.modify (n - 1) (fun d => { d with ss := true }), drv := fed } ∧ (∀ a, a ≠ A.DOM_RSTAT n → e.rd a = s.rd a) ∧ e.lockedOut n = false) ∧
    (s.cmdOn n = false → ∃ e : State, exec (.inputLockoutChange n mv) s = .next e.settle ∧ e = { s with regs := e.regs, drv := fed } ∧ (∀ a, a ≠ A.DOM_RSTAT n → e.rd a = s.rd a) ∧
      (mv < (if n = 2 ∨ n = 10 then 6500 else 4300) → e.lockedOut n = true) ∧ ((if n = 2 ∨ n = 10 then 7000 else 4600) < mv → e.lockedOut n = false)) ∧
    ((s.lockedOut n = false ∧ (if n = 2 ∨ n = 10 then 6500 else 4300) ≤ mv ∨ s.lockedOut n = true ∧ mv ≤ (if n = 2 ∨ n = 10 then 7000 else 4600)) → exec (.inputLockoutChange n mv) s = .next ({ s with drv := fed } : State).settle)) ∧
  (∀ (s : State) (mv : Nat), s.running = true → s.cmdOn 9 = true →
    (s.lockedOut 9 = false → s.maskedDom 9 = false → mv < 6500 → ∃ e : State, exec (.inputLockoutChange 9 mv) s = .next e.settle ∧ e.lockedOut 9 = true ∧ e.lockHolds = false ∧ e.drv.vdrv = mv ∧ e.dom = s.dom.modify 8 (fun d => { d with ss := false, ssEnded := false })) ∧
    (s.lockedOut 9 = true → s.b F.DOM9_LSTAT_SCLATCH = false → 7000 < mv → ∃ e : State, exec (.inputLockoutChange 9 mv) s = .next e.settle ∧ e.lockedOut 9 = false ∧ e.lockHolds = true ∧ e.drv.vdrv = mv ∧ e.dom = s.dom.modify 8 (fun d => { d with ss := true })) ∧
    ((s.lockedOut 9 = false ∧ 6500 ≤ mv ∨ s.lockedOut 9 = true ∧ mv ≤ 7000) → exec (.inputLockoutChange 9 mv) s = .next ({ s with drv := { s.drv with vdrv := mv } } : State).settle)) ∧
  (∀ (s : State) (n : Nat), n ≠ 1 → n ≠ 9 → s.cmdOn n = true → exec (.currentLimitActs n) s = .next ({ s with dom := s.dom.modify (n - 1) (fun d => { d with limTick := some s.ticks }) } : State).settle) ∧
  (∀ (s : State) (n c : Nat), (n = 4 ∨ n = 5) → s.cmdOn n = true → (s.domAt n).ssEnded = true → s.dom.length = 10 → c < 512 → s.g (F.DOM_VACT_CODE n) ≠ c →
    (s.setVset n c).g (F.DOM_VSET_CODE n) = c ∧ (s.setVset n c).g (F.DOM_VACT_CODE n) = c ∧ (s.setVset n c).maskedDom n = true ∧ ((s.setVset n c).domAt n).slew = .slewing) ∧
  (∀ (s : State) (n : Nat), (n = 4 ∨ n = 5) → (s.domAt n).slew = .slewing → s.dom.length = 10 → ∃ e : State, exec (.dvsTargetReached n) s = .next e.settle ∧ e = { s with regs := e.regs, dom := e.dom } ∧ (∀ a, a ≠ A.CMP_LO (n - 1) → a ≠ A.CMP_HI (n - 1) → e.rd a = s.rd a) ∧
    (e.domAt n).slew = .settling ∧ (s.b (F.DOM_SLEW_TRACK n) = false → e.regs = s.regs)) ∧
  (∀ (s : State) (n : Nat), (n = 4 ∨ n = 5) → (s.domAt n).slew = .settling → s.dom.length = 10 → s.over (n - 1) = false → s.sampled (n - 1) = false →
    ∃ e : State, exec (.dvsSlewDone n) s = .next e.settle ∧ e = { s with regs := e.regs, dom := e.dom, mrq := e.mrq } ∧ (∀ a, a ≠ A.DOM_STAT n → a ≠ A.DOM_RSTAT n → e.rd a = s.rd a) ∧ e.maskedDom n = false ∧ e.g (F.DOM_RSTAT_SLEWDONE n) = 1 ∧ (e.domAt n).slew = .none) ∧
  (∀ (s : State) (n : Nat) (w : Word), (n = 4 ∨ n = 5) → s.hostAlive = true → s.power ≠ .boot → s.cmdOn n = false → s.nvm.windows = [] → (F.DOM_VSET_CODE n).get w ≤ 150 →
    ∃ e : State, exec (.dvsSetpointWrite n w) s = .next e.settle ∧ e = { s.clocked with regs := e.regs } ∧ e.g (F.DOM_VSET_CODE n) = (F.DOM_VSET_CODE n).get w ∧ (∀ a, a ≠ A.DOM_VSET n → e.rd a = s.rd a)) ∧
  (∀ (s : State) (w : Word), s.hostAlive = true → s.power ≠ .boot → s.drvOn = false → s.nvm.windows = [] → F.DRV_VSET_CODE.get w ≤ 2400 →
    ∃ e : State, exec (.driveSetpointWrite w) s = .next e.settle ∧ e = { s.clocked with regs := e.regs } ∧ e.g F.DRV_VSET_CODE = F.DRV_VSET_CODE.get w ∧ (∀ a, a ≠ A.DRV_VSET → e.rd a = s.rd a)) ∧
  (∀ (s : State) (n lo hi : Nat) (w : Word), (n = 4 ∨ n = 5) → s.hostAlive = true → s.power ≠ .boot → s.cmdOn n = false → s.nvm.windows.find? (fun x => x.1 = A.DOM_VSET n && x.2.1 = 0 && x.2.2.1 = 9) = some (A.DOM_VSET n, 0, 9, false, lo, hi) → lo ≤ hi → hi ≤ 150 →
    ∃ e : State, exec (.dvsSetpointWrite n w) s = .next e.settle ∧ e = { s.clocked with regs := e.regs } ∧ e.g (F.DOM_VSET_CODE n) = max lo (min hi ((F.DOM_VSET_CODE n).get w)) ∧
      e.b F.SYS_IMGSTAT_CLAMP = (s.b F.SYS_IMGSTAT_CLAMP || decide ((F.DOM_VSET_CODE n).get w < lo ∨ hi < (F.DOM_VSET_CODE n).get w)) ∧ (∀ a, a ≠ A.DOM_VSET n → a ≠ A.SYS_IMGSTAT → e.rd a = s.rd a)) ∧
  (∀ (s : State) (lo hi : Nat) (w : Word), s.hostAlive = true → s.power ≠ .boot → s.drvOn = false → s.nvm.windows.find? (fun x => x.1 = A.DRV_VSET && x.2.1 = 0 && x.2.2.1 = 12) = some (A.DRV_VSET, 0, 12, false, lo, hi) → lo ≤ hi → hi ≤ 2400 →
    ∃ e : State, exec (.driveSetpointWrite w) s = .next e.settle ∧ e = { s.clocked with regs := e.regs } ∧ e.g F.DRV_VSET_CODE = max lo (min hi (F.DRV_VSET_CODE.get w)) ∧
      e.b F.SYS_IMGSTAT_CLAMP = (s.b F.SYS_IMGSTAT_CLAMP || decide (F.DRV_VSET_CODE.get w < lo ∨ hi < F.DRV_VSET_CODE.get w)) ∧ (∀ a, a ≠ A.DRV_VSET → a ≠ A.SYS_IMGSTAT → e.rd a = s.rd a)) ∧
  (∀ (s : State) (n mv : Nat), s.running = false →
    ((n = 2 ∨ n = 9 ∨ n = 10) → exec (.inputLockoutChange n mv) s = .next ({ s with drv := { s.drv with vdrv := mv } } : State).settle) ∧ (n ≠ 2 → n ≠ 9 → n ≠ 10 → exec (.inputLockoutChange n mv) s = .next s.settle))

/-- R236 to R238: LOCK samples VDRV at the end of its pull-in and holds; a short-circuit event that follows one in the period before is recorded and counted, and the sixteenth in a row latches LOCK off, which then demagnetises; demagnetisation ends.
R195, R217: PUMAX raises source 30 once in a POWER-UP; PDMAX ends in FAULT with every domain that holds a rank off or in the shutdown that follows, and counts for source 31.
Says complete: lockPullinEnd, lockShortCircuit, lockDemagEnd, pumaxExpiry, pdmaxExpiry. -/
def Obligations.LockAndProgramLimits : Prop :=
  (∀ (s : State) (v : Nat), s.cmdOn 9 = true → s.g F.DOM9_LSTAT_PHASE = 1 → ∃ e : State, exec (.lockPullinEnd v) s = .next e.settle ∧ e = { s with regs := e.regs, lock := { s.lock with vpi := v }, drv := { s.drv with vdrv := v }, mon := e.mon } ∧ (∀ a, a ≠ A.DOM9_LSTAT → e.rd a = s.rd a) ∧ e.g F.DOM9_LSTAT_PHASE = 2) ∧
  (∀ s : State, s.cmdOn 9 = true → s.g F.DOM9_LSTAT_PHASE = 2 → ∃ e : State, exec (.lockShortCircuit true) s = .next e.settle ∧ e = { s with regs := e.regs, lock := e.lock, mon := e.mon } ∧ (∀ a, a ≠ A.DOM9_LSTAT → e.rd a = s.rd a) ∧ e.lock.scCount = s.lock.scCount + 1 ∧ e.b F.DOM9_LSTAT_SCEVT = true ∧
    (15 ≤ s.lock.scCount → e.b F.DOM9_LSTAT_SCLATCH = true ∧ e.g F.DOM9_LSTAT_PHASE = 3) ∧ (s.lock.scCount < 15 → e.g F.DOM9_LSTAT_PHASE = 2 ∧ e.lock.idle = true)) ∧
  (∀ s : State, s.g F.DOM9_LSTAT_PHASE = 3 → exec .lockDemagEnd s = .next (s.p F.DOM9_LSTAT_PHASE 0).settle) ∧
  (∀ s : State, s.power = .powerUp → s.ctl.puRaised = false → s.g F.DOM_SEQCFG_PUMAX ≠ 0 → exec .pumaxExpiry s = .next (({ s with ctl := { s.ctl with puRaised := true } } : State).raise 30).settle) ∧
  (∀ s : State, (s.ctl.puRaised = true ∨ s.g F.DOM_SEQCFG_PUMAX = 0) → exec .pumaxExpiry s = .next s.settle) ∧
  (∀ s : State, s.power = .powerDown → s.ctl.entryWaits = none → s.g F.DOM_SEQCFG_PDMAX ≠ 0 →
    ∃ e : State, exec .pdmaxExpiry s = .next e.settle ∧ e.power = .fault ∧ (s.srcEn 31 = true → e.sticky 31 = true ∧ e.rn (A.FLT_CNT 31) = min 65535 (s.rn (A.FLT_CNT 31) + 1)) ∧ e.ctl.seqOff = e.byRank ∧ (∀ n ∈ domains, e.cmdOn n = true → 1 ≤ e.rank n → e.rank n ≤ 10 → n ∈ e.ctl.seqOff)) ∧
  (∀ s : State, s.g F.DOM_SEQCFG_PDMAX = 0 → exec .pdmaxExpiry s = .next s.settle)

/-! ### The line, the sluice and the weir -/

/-- R252: a line that becomes present starts a qualification with its SRCID read, but for one that is latched off or waits for RETRY_DLY.
R27, R252, R253: the read takes the code of the voltage and with it the entry of the source-type table; LINE in and out of its window follows the level.
R253, R256: a line that has stayed in its window qualifies, and in RUN, where the sluice is open, its admission begins with the stagger, with a packet of the line's event 1; after the stagger the sluice charges; fully on, it ends the admission, with VDRV
taken and the weir no longer forced off; CHGOK sets.
R252, R254: a qualified line below its loss level, or no longer present, is lost: it is no longer qualified, CHGOK is 0, the sluice is open, with LASTOPEN 1 where it was not, LIN_CNTLOSS advances and a packet of the line's event 2 is posted;
while the line stays present, a new qualification begins. R259: a line no longer present ends a latch-off. With DRIVE and the weir off, no stroke active and the device no worker, no other register changes.
R260: a present line that has not qualified within 1 s is marked and raises source 48.
That the comparators are judged afresh after the SRCID read (log entry 28), and that LASTOPEN is written only where the sluice was not open (log entry 30), are the model's readings (DEDUCED).
Says complete: linePresent, srcidReadDone, lineWindowChange, lineQualified, staggerEnd, sluiceFullyOn, chgokSet, lineLoss, lineNotPresent, lineImplausible. -/
def Obligations.LineQualifiesAndIsLost : Prop :=
  (∀ (s : State) (dv : Nat), s.aoOn = true → s.line.present = false →
    exec (.linePresent dv) s = .next (if s.line.latch || s.line.retry then { s with sup := { s.sup with lineDv := dv }, line := { s.line with present := true, implaus := false } }
      else { s with sup := { s.sup with lineDv := dv }, line := { s.line with present := true, implaus := false, reading := true, qualifying := true, inWin := false } } : State).settle) ∧
  (∀ (s : State) (mv : Nat), s.line.reading = true → ∃ e : State, exec (.srcidReadDone mv) s = .next e.settle ∧ e.line.srcId = eightLevel mv ∧ (s.line.qual = false → e.line.reading = false) ∧ e.g F.SYS_STRAP_SRCID = eightLevel mv ∧
    (s.sup.lineDv ≤ e.srcVov → e = { s with regs := e.regs, line := e.line } ∧ (∀ a, a ≠ A.SYS_STRAP → e.rd a = s.rd a) ∧ e.line.inWin = e.inWindow)) ∧
  (∀ (s : State) (dv : Nat), s.line.present = true →
    exec (.lineWindowChange dv) s = .next (let ov := s.line.ov && !decide (100 * dv < 98 * s.srcVov)
      { s with sup := { s.sup with lineDv := dv }, line := { s.line with ov := ov, inWin := !s.line.reading && !ov && decide (s.srcVlo ≤ dv) && decide (dv ≤ s.srcVhi) } } : State).settle) ∧
  (∀ s : State, s.power = .run → s.line.qualifying = true → s.line.inWin = true → s.line.reading = false → s.srcKind ≠ 0 → s.line.fullOn = false → s.line.inrush = .none →
    exec .lineQualified s = .next ({ s with
      line := { s.line with qual := true, qualifying := false, inrush := .stagger }
      chg := { s.chg with vinRaised := false }
      mrq := { s.mrq with outbox := s.mrq.outbox ++ [.lineEvent 1 0] }
      ctl := { s.ctl with foff := false, forceEnded := s.ctl.forceEnded || s.ctl.forced, onReq := if s.ctl.holdSup then some 5 else s.ctl.onReq } } : State).settle) ∧
  (∀ s : State, s.line.inrush = .stagger → exec .staggerEnd s = .next ({ s with line := { s.line with inrush := .charging } } : State).settle) ∧
  (∀ (s : State) (v : Nat), s.line.inrush = .charging →
    ∃ e : State, exec (.sluiceFullyOn v) s = .next e.settle ∧ e.line.fullOn = true ∧ e.line.inrush = .none ∧ e.line.lost = false ∧ e.line.noToll = false ∧ e.line.weirHeld = false ∧ e.drv.vdrv = v ∧ e.power = s.power ∧
      (s.line.lost = false → s.drvOn = false → s.strokeActive = false →
        e = { s with drv := { s.drv with vdrv := v }, line := { s.line with fullOn := true, inrush := .none, lost := false, noToll := false, t4Due := false, hbWait := false, weirHeld := false, handback := s.weirOn && s.g F.WEIR_CFG_HBDLY ≠ 3 } })) ∧
  (∀ s : State, s.line.qual = true → s.line.fullOn = true → exec .chgokSet s = .next ({ s with line := { s.line with chgOk := true } } : State).settle) ∧
  (∀ (s : State) (dv : Nat), s.aoOn = true → s.line.present = true → s.line.qual = true → dv + s.srcHys < s.srcVlo → dv ≤ s.srcVhi →
    ∃ e : State, exec (.lineLoss dv) s = .next e.settle ∧ e.line.qual = false ∧ e.line.chgOk = false ∧ e.line.fullOn = false ∧ e.line.inrush = .none ∧ e.line.present = true ∧ e.sup.lineDv = dv ∧ e.power = s.power ∧
      e.line.lastOpen = (if s.sluiceBusy then 1 else s.line.lastOpen) ∧ e.rn A.LIN_CNTLOSS = min 65535 (s.rn A.LIN_CNTLOSS + 1) ∧ (.lineEvent 2 1 : PktBody) ∈ e.mrq.outbox ∧ e.line.qualifying = (!s.line.latch && !s.line.retry) ∧
      (s.drvOn = false → s.weirOn = false → s.strokeActive = false → s.isWorker = false →
        e = { s with regs := e.regs, sup := e.sup, line := e.line, mrq := e.mrq, ctl := e.ctl } ∧ (∀ a, a ≠ A.LIN_CNTLOSS → e.rd a = s.rd a))) ∧
  (∀ (s : State) (dv : Nat), s.aoOn = true → s.line.present = true → s.line.qual = true →
    ∃ e : State, exec (.lineNotPresent dv) s = .next e.settle ∧ e.line.present = false ∧ e.line.qual = false ∧ e.line.chgOk = false ∧ e.line.fullOn = false ∧ e.line.inrush = .none ∧ e.line.latch = false ∧ e.line.qualifying = false ∧
      e.sup.lineDv = dv ∧ e.power = s.power ∧ e.line.lastOpen = (if s.sluiceBusy then 1 else s.line.lastOpen) ∧ e.rn A.LIN_CNTLOSS = min 65535 (s.rn A.LIN_CNTLOSS + 1) ∧ (.lineEvent 2 1 : PktBody) ∈ e.mrq.outbox ∧
      (s.drvOn = false → s.weirOn = false → s.strokeActive = false → s.isWorker = false →
        e = { s with regs := e.regs, sup := e.sup, line := e.line, mrq := e.mrq, ctl := e.ctl } ∧ (∀ a, a ≠ A.LIN_CNTLOSS → e.rd a = s.rd a))) ∧
  (∀ s : State, s.aoOn = true → s.line.present = true → s.line.qual = false → s.line.implaus = false → exec .lineImplausible s = .next (({ s with line := { s.line with implaus := true } } : State).raise 48).settle)

/-- R254, R257: LINE above VOV opens the sluice, with LASTOPEN 3 where it was not open; the line is no longer qualified, LIN_CNTOV advances and source 44 raises; of a line that was not qualified nothing else changes.
R256 to R258: a short circuit (source 46, LASTOPEN 5) and the end of the SOA time (source 45, LASTOPEN 4) fail an admission: the sluice is open, the line no longer qualified, LIN_CNTTRIP and LIN_CNTLOSS advance; with retries left RETRY_DLY runs, and
else the sluice latches off, with source 47; RETRY_DLY ends with a new qualification; a sluice fully on for 1 s clears the count of failures.
R259, R275: the keys of LIN_CTRL: 0x9C3A ends a latch-off with its packet, and the clear key clears the event counters; any other word changes nothing.
That each over-voltage counts and raises, with the sluice already open too, when LASTOPEN is written, and that LIN_CNTTRIP counts once for a failed admission, are the model's readings (log entry 30, DEDUCED).
Says complete: lineOvOpening, lineShortCircuit, soaExpiry, retryDelayEnd, retryCountClear, linLatchClear, linCounterClear. -/
def Obligations.SluiceTrips : Prop :=
  (∀ (s : State) (dv : Nat), s.line.present = true → s.line.ov = false → s.srcVov < dv →
    ∃ e : State, exec (.lineOvOpening dv) s = .next e.settle ∧ e.line.ov = true ∧ e.line.fullOn = false ∧ e.line.inrush = .none ∧ e.line.qual = false ∧ e.line.lastOpen = (if s.sluiceBusy then 3 else s.line.lastOpen) ∧
      e.rn A.LIN_CNTOV = min 65535 (s.rn A.LIN_CNTOV + 1) ∧ (⟨44, .detector, s.power.code⟩ : Raise) ∈ e.flt.raised ∧
      (s.line.qual = false → e = { s with regs := e.regs, sup := { s.sup with lineDv := dv }, line := e.line, flt := { s.flt with raised := s.flt.raised ++ [⟨44, .detector, s.power.code⟩] } } ∧ (∀ a, a ≠ A.LIN_CNTOV → e.rd a = s.rd a))) ∧
  (∀ (s : State) (c : Instr) (src cause : Nat), (c = .lineShortCircuit ∧ src = 46 ∧ cause = 5 ∧ s.sluiceBusy = true ∨ c = .soaExpiry ∧ src = 45 ∧ cause = 4 ∧ s.line.inrush = .charging) →
    ∃ e : State, exec c s = .next e.settle ∧ e.line.fullOn = false ∧ e.line.inrush = .none ∧ e.line.qual = false ∧ e.line.qualifying = false ∧ e.line.chgOk = false ∧ e.line.lastOpen = cause ∧ e.line.fails = min 7 (s.line.fails + 1) ∧
      (⟨src, .detector, s.power.code⟩ : Raise) ∈ e.flt.raised ∧ e.rn A.LIN_CNTTRIP = min 65535 (s.rn A.LIN_CNTTRIP + 1) ∧ e.rn A.LIN_CNTLOSS = min 65535 (s.rn A.LIN_CNTLOSS + 1) ∧ e.power = s.power ∧
      (s.g F.LIN_CFG0_RETRIES = 7 ∨ min 7 (s.line.fails + 1) ≤ s.g F.LIN_CFG0_RETRIES → e.line.retry = true ∧ e.line.latch = s.line.latch) ∧
      (s.g F.LIN_CFG0_RETRIES ≠ 7 → s.g F.LIN_CFG0_RETRIES < min 7 (s.line.fails + 1) → e.line.retry = false ∧ e.line.latch = true ∧ (⟨47, .detector, s.power.code⟩ : Raise) ∈ e.flt.raised ∧ (.lineEvent 3 0 : PktBody) ∈ e.mrq.outbox) ∧
      (s.drvOn = false → s.weirOn = false → s.strokeActive = false → s.isWorker = false →
        e = { s with regs := e.regs, line := e.line, mrq := e.mrq, ctl := e.ctl, flt := e.flt } ∧ (∀ a, a ≠ A.LIN_CNTLOSS → a ≠ A.LIN_CNTTRIP → e.rd a = s.rd a))) ∧
  (∀ s : State, s.aoOn = true → s.line.retry = true → s.line.present = true → s.line.latch = false →
    exec .retryDelayEnd s = .next ({ s with line := { s.line with retry := false, reading := true, qualifying := true, inWin := false } } : State).settle) ∧
  (∀ s : State, s.line.fullOn = true → exec .retryCountClear s = .next ({ s with line := { s.line with fails := 0 } } : State).settle) ∧
  (∀ s : State, s.hostAlive = true → s.line.latch = true →
    exec (.linLatchClear 0x9C3A#16) s = .next ({ s.clocked with
      mrq := { s.mrq with outbox := s.mrq.outbox ++ [.lineEvent 4 0] }
      line := if s.line.present && !s.line.retry then { s.line with latch := false, fails := 0, reading := true, qualifying := true, inWin := false } else { s.line with latch := false, fails := 0 } } : State).settle) ∧
  (∀ s : State, s.hostAlive = true → exec (.linCounterClear 0xC1EA#16) s = .next ((((s.clocked.wr A.LIN_CNTLOSS 0).wr A.LIN_CNTOV 0).wr A.LIN_CNTTRIP 0).wr A.WEIR_CNTTK 0).settle) ∧
  (∀ (s : State) (w : Word), w ≠ 0x9C3A#16 → w ≠ 0xC1EA#16 → exec (.linLatchClear w) s = .next s.framed.settle ∧ exec (.linCounterClear w) s = .next s.framed.settle)

/-- R264 to R266, R268: in its automatic mode the weir turns on by itself where VDRV stands at least 20 mV below BATT and below the takeover level of WEIR_CFG.TKO, where one is set; the takeover is counted, limited while VDRV is more than 1 V below BATT,
and marked as an assist where the line feeds too. A reversal of its current turns it off, and, where it was forced on, is marked; a takeover that comes within 1 V is no longer limited; one that fails (source 49), or a short circuit (source 50), turns it
off and forces it off.
R269, R690: the hand-back waits for a running stroke and for AUTO, and else, or when both have come, turns the weir off once, marked. R266: the block that a reversal puts on the forced-on weir ends when the weir is forced off or
turns on again.
Says complete: weirTurnOn, weirReverseBlock, weirTakeoverDone, weirTakeoverFail, weirShortCircuit, weirHandback. -/
def Obligations.WeirEvents : Prop :=
  (∀ (s : State) (v b : Nat), s.weirOn = false → s.running = true → s.sup.pack = true → s.line.weirHeld = false → s.weirForcedOn = false → v + 20 ≤ b → (s.g F.WEIR_CFG_TKO = 255 ∨ v < 12000 + 200 * s.g F.WEIR_CFG_TKO) →
    ∃ e : State, exec (.weirTurnOn v b) s = .next e.settle ∧ e.weirOn = true ∧ e.b F.WEIR_STAT_TKLIM = decide (v + 1000 < b) ∧ (s.line.qual = true → s.line.fullOn = true → e.b F.WEIR_STAT_ASSIST = true) ∧
      e.rn A.WEIR_CNTTK = min 65535 (s.rn A.WEIR_CNTTK + 1) ∧ e.drv.vdrv = v ∧ e.sup.battMv = b ∧
      (s.line.t4Due = false → e = { s with regs := e.regs, sup := { s.sup with battMv := b }, drv := { s.drv with vdrv := v }, dom := e.dom, line := { s.line with weirBlocked := false } } ∧ (∀ a, a ≠ A.WEIR_STAT → a ≠ A.WEIR_CNTTK → a ≠ A.DRV_STAT → e.rd a = s.rd a))) ∧
  (∀ (s : State) (v b : Nat), s.weirOn = true → ∃ e : State, exec (.weirReverseBlock v b) s = .next e.settle ∧ e = { s with regs := e.regs, sup := { s.sup with battMv := b }, drv := { s.drv with vdrv := v }, dom := e.dom, line := e.line } ∧
    (∀ a, a ≠ A.WEIR_STAT → a ≠ A.DRV_STAT → e.rd a = s.rd a) ∧ e.weirOn = false ∧ e.b F.WEIR_STAT_TKLIM = false ∧ (s.weirMode = .forcedOn → e.b F.WEIR_STAT_REVBLK = true ∧ e.line.weirBlocked = true) ∧ (s.weirMode ≠ .forcedOn → e.line = s.line)) ∧
  (∀ (s : State) (v b : Nat), exec (.weirTakeoverDone v b) s = .next (({ s with drv := { s.drv with vdrv := v }, sup := { s.sup with battMv := b } } : State).p F.WEIR_STAT_TKLIM 0).settle) ∧
  (∀ (s : State) (c : Instr) (src : Nat), s.weirOn = true → (c = .weirTakeoverFail ∧ src = 49 ∧ s.b F.WEIR_STAT_TKLIM = true ∨ c = .weirShortCircuit ∧ src = 50) →
    ∃ e : State, exec c s = .next e.settle ∧ e = { s with regs := e.regs, dom := e.dom, line := { s.line with weirHeld := true }, flt := { s.flt with raised := s.flt.raised ++ [⟨src, .detector, s.power.code⟩] } } ∧
      (∀ a, a ≠ A.WEIR_STAT → a ≠ A.DRV_STAT → e.rd a = s.rd a) ∧ e.weirOn = false ∧ e.b (if src = 49 then F.WEIR_STAT_TKFAIL else F.WEIR_STAT_SCEVT) = true) ∧
  (∀ s : State, s.line.handback = true → s.line.fullOn = true →
    (s.strokeRuns = true ∨ s.weirMode ≠ .auto → exec .weirHandback s = .next ({ s with line := { s.line with handback := false, hbWait := true } } : State).settle) ∧
    (s.strokeRuns = false → s.weirMode = .auto → exec .weirHandback s =
      .next ((((({ s with line := { s.line with handback := false, hbWait := false } } : State).p F.WEIR_STAT_COND 0).p F.WEIR_STAT_TKLIM 0).p F.WEIR_STAT_HBACK 1)).settle)) ∧
  (∀ s : State, s.line.hbWait = true → s.line.fullOn = true → s.strokeRuns = false → s.weirMode = .auto → s.weirFollow =
    (((({ s with line := { s.line with weirBlocked := false, handback := false, hbWait := false } } : State).p F.WEIR_STAT_COND 0).p F.WEIR_STAT_TKLIM 0).p F.WEIR_STAT_HBACK 1)) ∧
  (∀ s : State, s.weirMode = .forcedOff → s.weirFollow.line.weirBlocked = false ∧ s.weirFollow.weirOn = false)

/-! ### DRIVE -/

/-- R284 to R286, R298, R306, R309, R333: with DRIVE on, a frame takes VDRV and V(LSRC), the shed phases that its edge brings, the angles of the active phases and the device offset, moves the reference where a slew or a soft-start on the line runs, and
counts the frames whose phase currents agree with their sum; only the registers of DRIVE that it names and the recorder's streams follow. With DRIVE off no frame does anything.
R296, R337: a balance update leaves every trim from −5 % to 5 %, and the current of a phase that is not active reads 0.
R287, R322: an edge of SYNC_IN within 10 % of the nominal period corrects the frame by its phase error, at most 1°; below 2° it counts towards the lock, which 64 edges in a row give; above 5° it unlocks. The period is shown in fast-clock periods.
R288: a lost sync is recorded once, unlocks, is counted and raises source 54.
R302: a current above DRV_IPHSC in a phase that switches limits it, and the moment is kept; a current that is not above it, or of a phase that does not switch, limits nothing.
R304: a hiccup in OCMODE 1 or 2 stops every phase with MODE 5, is counted and raises source 52; it ends as a switch-on. In OCMODE 0 there is none.
R305, R309: an overload raises source 53 once, and a sum that disagrees source 55 once.
R190, R304: with no over-voltage standing and a WM0 that is not sampled the end of a hiccup reports nothing.
That a hiccup is taken only while the loop regulates, and what its end clears (the slew and MASKED), is the model's reading (log entry 53, DEDUCED); so are what its entry clears (log entry 94, DESIGN CHOICE) and that a lost sync counts once until an edge returns (log entry 52, DEDUCED).
Says complete: driveFrame, balanceUpdate, syncInEdge, syncLoss, driveFastLimit, hiccupEntry, hiccupEnd, driveOverload, senseSumFail. -/
def Obligations.DriveFramesAndLimits : Prop :=
  (∀ (s : State) (v vl : Nat) (dcs ls : Int) (ag sm : Bool), s.drvOn = true →
    ∃ e : State, exec (.driveFrame v dcs ls vl ag sm) s = .next e.settle ∧ e = { s with regs := e.regs, drv := e.drv, mon := e.mon, stk := e.stk, freeCtr := e.freeCtr } ∧
      (∀ a, a ≠ A.DRV_DTACT → a ≠ A.DRV_PHSTAT → (∀ k, k < 6 → a ≠ A.DRV_TRIM k) → a ≠ A.DRV_SYNCSTAT → a ≠ A.DRV_STAT → a ≠ A.DRV_ICEIL → a ≠ A.DRV_DUTY → a ≠ A.DRV_VOUT → a ≠ A.DRV_IOUT → a ≠ A.DRV_IIN → e.rd a = s.rd a) ∧
      e.stk = { s.stk with smp := e.stk.smp } ∧ e.drv.vdrv = v ∧ e.drv.vlsrc = vl ∧ e.g F.DRV_PHSTAT_SHED = (if s.drv.shedHold then 0 else s.drv.shedNext % 64) ∧ e.drv.angles = e.phActive ∧ e.drv.ofs = s.drvOffset ∧
      e.drv.sumOk = (if ag then s.drv.sumOk + 1 else 0) ∧ e.drv.vref = (if (s.domAt 1).slew = .slewing ∨ s.g F.DRV_STAT_MODE = 2 then toward s.drv.vref s.vTarget s.vrefStep else s.drv.vref)) ∧
  (∀ (s : State) (v vl : Nat) (dcs ls : Int) (ag sm : Bool), s.drvOn = false → exec (.driveFrame v dcs ls vl ag sm) s = .next s.settle) ∧
  (∀ (s : State) (l : List Int) (dcs : Int), s.drvOn = true → (∀ x ∈ s.drv.trims, (-1 / 20 : Rat) ≤ x ∧ x ≤ 1 / 20) →
    ∃ e : State, exec (.balanceUpdate l dcs) s = .next e.settle ∧ e = { s with regs := e.regs, drv := { s.drv with trims := e.drv.trims }, freeCtr := e.freeCtr } ∧ (∀ x ∈ e.drv.trims, (-1 / 20 : Rat) ≤ x ∧ x ≤ 1 / 20) ∧
      (∀ k, k < 6 → s.phActive.testBit k = false → e.rd (A.DRV_IPH k) = 0) ∧ (∀ a, (∀ k, k < 6 → a ≠ A.DRV_IPH k ∧ a ≠ A.DRV_TRIM k) → e.rd a = s.rd a)) ∧
  (∀ (s : State) (err : Int) (period : Nat), s.drvOn = true → s.g F.DRV_SYNC_MODE = 1 → s.inPullRange period = true →
    ∃ e : State, exec (.syncInEdge err period) s = .next e.settle ∧ e = { s with regs := e.regs, drv := e.drv, freeCtr := e.freeCtr } ∧ (∀ a, a ≠ A.DRV_SYNCSTAT → e.rd a = s.rd a) ∧
      e.drv = { s.drv with pull := clamp (-100) 100 err, syncGone := false, lockCnt := if err.natAbs < 200 then min 64 (s.drv.lockCnt + 1) else 0 } ∧
      (500 < err.natAbs → e.b F.DRV_SYNCSTAT_LOCK = false) ∧ (err.natAbs < 200 → 63 ≤ s.drv.lockCnt → e.b F.DRV_SYNCSTAT_LOCK = true) ∧
      (period * 96 / 1000 < 1023 → e.g F.DRV_SYNCSTAT_PERIOD = period * 96 / 1000 ∨ e.g F.DRV_SYNCSTAT_PERIOD = period * 96 / 1000 + 1)) ∧
  (∀ s : State, s.drvOn = true → s.g F.DRV_SYNC_MODE = 1 → s.drv.syncGone = false → ∃ e : State, exec .syncLoss s = .next e.settle ∧
    e = { s with regs := e.regs, drv := { s.drv with syncGone := true, lockCnt := 0, pull := 0 }, flt := { s.flt with raised := s.flt.raised ++ [⟨54, .detector, s.power.code⟩] } } ∧
    (∀ a, a ≠ A.DRV_SYNCSTAT → a ≠ A.DRV_CNTSYNC → e.rd a = s.rd a) ∧ e.b F.DRV_SYNCSTAT_LOST = true ∧ e.b F.DRV_SYNCSTAT_LOCK = false ∧ e.rn A.DRV_CNTSYNC = min 65535 (s.rn A.DRV_CNTSYNC + 1)) ∧
  (∀ s : State, s.drv.syncGone = true → exec .syncLoss s = .next s.settle) ∧
  (∀ (s : State) (k : Nat) (cs : Int), s.retCause k ≠ 3 → s.detCause k ≠ 3 →
    (s.switches k = true → (s.g F.DRV_IPHSC_ILIM : Rat) / 10 < s.iphOf cs → exec (.driveFastLimit k cs) s = .next ({ s with dom := s.dom.modify 0 (fun d => { d with limTick := some s.ticks }) } : State).settle) ∧
    (s.switches k = false ∨ s.iphOf cs ≤ (s.g F.DRV_IPHSC_ILIM : Rat) / 10 → exec (.driveFastLimit k cs) s = .next s.settle)) ∧
  (∀ (s : State) (k : Nat), s.regulates = true → inMask s.phActive k = true → (s.g F.DRV_OCCFG_OCMODE = 1 ∨ s.g F.DRV_OCCFG_OCMODE = 2) → ∃ e : State, exec (.hiccupEntry k) s = .next e.settle ∧
    e = { s with regs := e.regs, drv := s.drv.clear, flt := { s.flt with raised := s.flt.raised ++ [⟨52, .detector, s.power.code⟩] } } ∧ (∀ a, a ≠ A.DRV_STAT → a ≠ A.DRV_DUTY → a ≠ A.DRV_CNTHIC → e.rd a = s.rd a) ∧
    e.g F.DRV_STAT_MODE = 5 ∧ e.rn A.DRV_DUTY = 0 ∧ (∀ j, e.switches j = false) ∧ e.rn A.DRV_CNTHIC = min 65535 (s.rn A.DRV_CNTHIC + 1)) ∧
  (∀ s : State, s.drvOn = true → s.g F.DRV_STAT_MODE = 5 → s.over 0 = false → s.sampled 0 = false → ∃ e : State, exec .hiccupEnd s = .next e.settle ∧ e = { s with regs := e.regs, dom := e.dom, drv := e.drv } ∧ (∀ a, a ≠ A.DRV_STAT → a ≠ A.DOM_STAT 1 → e.rd a = s.rd a) ∧
    e.g F.DRV_STAT_MODE = (if s.line.fullOn then 2 else if s.weirOn then 4 else 1) ∧ (s.line.fullOn = true → e.drv.vref = (s.drv.vdrv : Rat) / 1000) ∧ e.maskedDom 1 = false) ∧
  (∀ s : State, s.regulates = true → s.g F.DRV_STAT_LIMBY = 1 →
    (s.drv.ovlRaised = false → exec .driveOverload s = .next (({ s with drv := { s.drv with ovlRaised := true } } : State).raise 53).settle) ∧ (s.drv.ovlRaised = true → exec .driveOverload s = .next s.settle)) ∧
  (∀ s : State, s.drvOn = true → (s.drv.sumRaised = false → exec .senseSumFail s = .next (({ s with drv := { s.drv with sumRaised := true, sumOk := 0 } } : State).raise 55).settle) ∧ (s.drv.sumRaised = true → exec .senseSumFail s = .next s.settle)) ∧
  (∀ (s : State) (k : Nat), s.g F.DRV_OCCFG_OCMODE = 0 → exec (.hiccupEntry k) s = .next s.settle)

/-- R306, R307, R328: where shedding acts, an output current below 0.8 × (A − 1) × ISHED sheds, from the next frame edge on, the highest of the A active phases, while A is above MINACT and MINACT remain that no detection takes out of service (R311); one above A × ISHED makes the lowest shed phase in service active
again; a current that meets neither changes nothing. Shedding held for a stroke is resumed only with no stroke active.
R308 to R312: a phase found open, its duty above 0 and the current above 20 % of ITOT_eff, and a failed sense, its ripple only while the phase switches, are kept for their frame edge, and a sense failure that would leave fewer phases than DRV_MIN_PHASES, with MIRROR 1, for duty mirror; at its frame edge an open phase leaves service with its cause, its count,
its source and its packet.
R313, R327: the key, with DRIVE off, takes every phase back, one detected and not yet retired among them; with DRIVE on, and any other word, changes nothing.
Says complete: phaseShed, phaseReadd, sheddingResume, openPhaseDetect, senseFailDetect, phaseRetire, phaseReinstate. -/
def Obligations.DrivePhases : Prop :=
  (∀ (s : State) (dcs : Int), s.mayShed = true →
    (s.g F.DRV_SHED_MINACT < ones6 s.phActive → s.g F.DRV_SHED_MINACT ≤ ones6 (s.phRemain.land (63 - 2 ^ Nat.log2 s.phActive)) → 10 * s.ioutOf dcs < 8 * ((ones6 s.phActive : Rat) - 1) * s.ished → exec (.phaseShed dcs) s = .next ({ s with drv := { s.drv with shedNext := s.drv.shedNext.lor (2 ^ Nat.log2 s.phActive) } } : State).settle) ∧
    (ones6 s.phActive ≤ s.g F.DRV_SHED_MINACT ∨ ones6 (s.phRemain.land (63 - 2 ^ Nat.log2 s.phActive)) < s.g F.DRV_SHED_MINACT ∨ 8 * ((ones6 s.phActive : Rat) - 1) * s.ished ≤ 10 * s.ioutOf dcs → exec (.phaseShed dcs) s = .next s.settle)) ∧
  (∀ (s : State) (dcs : Int) (k : Nat), s.mayShed = true → k < 6 → s.phSvc.testBit k = true → (s.g F.DRV_PHSTAT_SHED).testBit k = true → (∀ j, j < k → (s.phSvc.testBit j && (s.g F.DRV_PHSTAT_SHED).testBit j) = false) →
    ((ones6 s.phActive : Rat) * s.ished < s.ioutOf dcs → exec (.phaseReadd dcs) s = .next ({ s with drv := { s.drv with shedNext := s.drv.shedNext - 2 ^ k } } : State).settle) ∧
    (s.ioutOf dcs ≤ (ones6 s.phActive : Rat) * s.ished → exec (.phaseReadd dcs) s = .next s.settle)) ∧
  (∀ s : State, (s.strokeActive = false → exec .sheddingResume s = .next ({ s with drv := { s.drv with shedHold := false } } : State).settle) ∧ (s.strokeActive = true → exec .sheddingResume s = .next s.settle)) ∧
  (∀ (s : State) (k io : Nat), s.drvOn = true → inMask s.phActive k = true → (∀ d ∈ s.drv.det, d.phase ≠ k) → s.retCause k = 0 → 0 < s.phaseDuty k → s.itotEff * 2 < (io : Rat) →
    exec (.openPhaseDetect k io) s = .next ({ s with drv := { s.drv with det := s.drv.det ++ [⟨k, 1, 0, io⟩] } } : State).trimFollow.settle) ∧
  (∀ (s : State) (k io : Nat), s.phaseDuty k ≤ 0 ∨ (io : Rat) ≤ s.itotEff * 2 → exec (.openPhaseDetect k io) s = .next s.settle) ∧
  (∀ (s : State) (k io t : Nat), s.drvOn = true → inMask s.phActive k = true → s.drv.det = [] → s.retCause k = 0 → (t = 2 → s.switches k = true) →
    exec (.senseFailDetect k t io) s = .next ({ s with drv := { s.drv with det := [⟨k, if s.b F.DRV_PHCFG_MIRROR = true ∧ ones6 s.phSvc < s.minPhases + 1 then 3 else 2, t, io⟩] } } : State).trimFollow.settle) ∧
  (∀ (s : State) (k io : Nat), s.switches k = false → exec (.senseFailDetect k 2 io) s = .next s.settle) ∧
  (∀ (s : State) (k io : Nat), 1 ≤ k → k ≤ 6 → s.drvOn = true → s.drv.det = [⟨k, 1, 0, io⟩] →
    ∃ e : State, exec (.phaseRetire [k]) s = .next e.settle ∧ e.drv.det = [] ∧ (e.g F.DRV_PHSTAT_RETIRED).testBit (k - 1) = true ∧ e.retCause k = 1 ∧ e.drv.angles = e.phActive ∧ e.drv.trims = [0, 0, 0, 0, 0, 0] ∧
      e.rn A.DRV_CNTRET = min 65535 (s.rn A.DRV_CNTRET + 1) ∧ (⟨31 + k, .detector, s.power.code⟩ : Raise) ∈ e.flt.raised ∧ (.retirement k 1 0 (ones6 e.phSvc) io : PktBody) ∈ e.mrq.outbox ∧
      (s.strokeActive = false → e = { s with regs := e.regs, drv := e.drv, flt := e.flt, mrq := e.mrq } ∧ (∀ a, a ≠ A.DRV_RETCAUSE → a ≠ A.DRV_PHSTAT → a ≠ A.DRV_CNTRET → (∀ j, j < 6 → a ≠ A.DRV_TRIM j) → e.rd a = s.rd a))) ∧
  (∀ s : State, s.hostAlive = true → s.drvOn = false → exec (.phaseReinstate 0x5E7A#16) s = .next ({ (s.clocked.p F.DRV_PHSTAT_RETIRED 0).wr A.DRV_RETCAUSE 0 with drv := { s.drv with det := [] } } : State).trimFollow.settle) ∧
  (∀ (s : State) (w : Word), s.drvOn = true ∨ w ≠ 0x5E7A#16 → exec (.phaseReinstate w) s = .next s.framed.settle)

/-- R299: a soft-start on the line ends once the reference stands at the target or above, in MODE 3, and one on battery with the weir's takeover complete, in MODE 4; one whose conditions are not met goes on. R298, R299: where a setpoint written
during the soft-start has left the target below the reference, its end on the line begins a slew down from where the reference stands, at the maximum slope, with MASKED set.
R298: a slew whose reference stands at the target settles with VDRV within 2 % of it, or after TMAX. R190, R298: the end of SETTLE clears MASKED and sets SLEWDONE, with a packet where DRV_SLEW.PKT asks for it; with no over-voltage standing and a WM0 that
is not sampled it reports nothing.
That the end of a soft-start, on battery too, sets the reference to the target where no retarget has left it below (log entry 53, DEDUCED), and the slew that ends a retargeted one (log entry 48, DEDUCED), are the model's readings.
Says complete: driveSoftStartEnd, driveTargetReached, driveSlewDone. -/
def Obligations.DriveSlews : Prop :=
  (∀ s : State, s.drvOn = true → (s.domAt 1).ss = true → s.dom.length = 10 → s.g F.DRV_STAT_MODE = 2 → s.vTarget ≤ s.drv.vref → (s.drv.ssRet = false ∨ s.drv.vref = s.vTarget) →
    ∃ e : State, exec .driveSoftStartEnd s = .next e.settle ∧ e = { s with regs := e.regs, dom := e.dom, drv := { s.drv with vref := s.vTarget, fast := false, ssRet := false } } ∧ (∀ a, a ≠ A.DRV_STAT → e.rd a = s.rd a) ∧
      e.g F.DRV_STAT_MODE = 3 ∧ (e.domAt 1).ss = false ∧ (e.domAt 1).ssEnded = true ∧ (e.domAt 1).slew = (s.domAt 1).slew) ∧
  (∀ s : State, s.drvOn = true → (s.domAt 1).ss = true → s.dom.length = 10 → s.g F.DRV_STAT_MODE = 2 → s.drv.ssRet = true → s.vTarget < s.drv.vref →
    ∃ e : State, exec .driveSoftStartEnd s = .next e.settle ∧ e = { s with regs := e.regs, dom := e.dom, drv := { s.drv with fast := true, up := false, ssRet := false } } ∧ (∀ a, a ≠ A.DRV_STAT → a ≠ A.DOM_STAT 1 → e.rd a = s.rd a) ∧
      e.g F.DRV_STAT_MODE = 3 ∧ e.maskedDom 1 = true ∧ (e.domAt 1).ss = false ∧ (e.domAt 1).ssEnded = true ∧ (e.domAt 1).slew = .slewing) ∧
  (∀ s : State, s.drvOn = true → (s.domAt 1).ss = true → s.g F.DRV_STAT_MODE = 4 → s.weirOn = true → s.b F.WEIR_STAT_TKLIM = false → (s.drv.ssRet = false ∨ s.drv.vref ≤ s.vTarget) →
    exec .driveSoftStartEnd s = .next ({ s with dom := s.dom.modify 0 (fun d => { d with ss := false, ssEnded := true }), drv := { s.drv with vref := s.vTarget, fast := false, ssRet := false } } : State).settle) ∧
  (∀ s : State, (s.g F.DRV_STAT_MODE = 2 ∧ s.drv.vref < s.vTarget ∨ s.g F.DRV_STAT_MODE = 4 ∧ s.b F.WEIR_STAT_TKLIM = true ∨ s.g F.DRV_STAT_MODE = 1) → exec .driveSoftStartEnd s = .next s.settle) ∧
  (∀ (s : State) (tmax : Bool), s.drvOn = true → (s.domAt 1).slew = .slewing → s.drv.vref = s.vTarget → (tmax = true ∨ 98 * s.vTarget ≤ 100 * ((s.drv.vdrv : Rat) / 1000) ∧ 100 * ((s.drv.vdrv : Rat) / 1000) ≤ 102 * s.vTarget) →
    exec (.driveTargetReached tmax) s = .next ({ s with dom := s.dom.modify 0 (fun d => { d with slew := .settling }) } : State).settle) ∧
  (∀ s : State, s.drvOn = true → (s.domAt 1).slew = .settling → s.over 0 = false → s.sampled 0 = false → s.dom.length = 10 →
    ∃ e : State, exec .driveSlewDone s = .next e.settle ∧ e = { s with regs := e.regs, dom := e.dom, drv := { s.drv with fast := false }, mrq := e.mrq } ∧ (∀ a, a ≠ A.DRV_STAT → a ≠ A.DOM_STAT 1 → e.rd a = s.rd a) ∧ e.maskedDom 1 = false ∧
      e.b F.DRV_STAT_SLEWDONE = true ∧ (e.domAt 1).slew = .none ∧ e.mrq = (if s.b F.DRV_SLEW_PKT then { s.mrq with outbox := s.mrq.outbox ++ [.slewDone 1 (s.g F.DRV_VACT_CODE)] } else s.mrq))

/-! ### Strokes and the recorder -/

/-- R346 to R349, R374: with DRIVE on in RUN and no stroke pre-armed or running, a HINT pre-arms a stroke of its direction with the boost of STK_PRECFG and a capture, and a GO pre-arms and starts one at the present time; one of the emergency kind sets EMERG.
R346: with DRIVE off each of the four commands sets IGN and changes nothing else. R374: a word without the key, or of the reserved kind, changes nothing.
R19, R345: in the states with engines a STROKE pulse more than 2 µs inside one of the four bands is a hint of its class and direction, one more than 2 µs outside all of them sets PINBAD, and one within 2 µs of an edge does either: which, an open
choice says, and freeCtr counts the choices (log entries 5 and 55, DESIGN CHOICE). With PINEN 0, without VIOH, in every other state, and where it lasts 1 µs or less, a pulse changes nothing.
R346, R353: END on a running stroke, and 200 samples below ISTART, end it: neither pre-armed nor running, with its capture closed as the latest; with fewer samples it goes on. R351, R354: END or CANCEL on a pre-armed stroke, and the timeout of the
pre-arm, cancel it: the capture is dropped and the message packet opened for it rewound.
Says complete: stkHint, stkGo, stkEnd, stkCancel, strokePinHint, strokeEndDetect, prearmTimeout. -/
def Obligations.StrokeHintsAndEnds : Prop :=
  (∀ (s : State) (w : Word), s.hostAlive = true → s.power = .run → s.cmdOn 1 = true → s.preArmed = false → s.strokeRuns = false → F.STK_CMD_KEY.get w = 5 → F.STK_CMD_KIND.get w ≠ 3 →
    (F.STK_CMD_OP.get w = 1 → ∃ e : State, exec (.stkHint w) s = .next e.settle ∧ e.preArmed = true ∧ e.strokeRuns = false ∧ e.dir = F.STK_CMD_DIR.get w ∧ e.drv.shedHold = true ∧ e.stk.boost = 5 * s.g F.STK_PRECFG_BOOST ∧
      e.b F.STK_RECSTAT_CAPT = true ∧ e.power = .run ∧ (F.STK_CMD_KIND.get w = 1 → e.b F.STK_STAT_EMERG = true)) ∧
    (F.STK_CMD_OP.get w = 2 → ∃ e : State, exec (.stkGo w) s = .next e.settle ∧ e.strokeRuns = true ∧ e.preArmed = false ∧ e.dir = F.STK_CMD_DIR.get w ∧ e.stk.ts = s.rtc ∧ (F.STK_CMD_KIND.get w = 1 → e.b F.STK_STAT_EMERG = true))) ∧
  (∀ (s : State) (w : Word), s.hostAlive = true → s.cmdOn 1 = false → F.STK_CMD_KEY.get w = 5 → F.STK_CMD_KIND.get w ≠ 3 →
    (F.STK_CMD_OP.get w = 1 → exec (.stkHint w) s = .next (s.clocked.p F.STK_STAT_IGN 1).settle) ∧ (F.STK_CMD_OP.get w = 2 → exec (.stkGo w) s = .next (s.clocked.p F.STK_STAT_IGN 1).settle) ∧
    (F.STK_CMD_OP.get w = 3 → exec (.stkEnd w) s = .next (s.clocked.p F.STK_STAT_IGN 1).settle) ∧ (F.STK_CMD_OP.get w = 4 → exec (.stkCancel w) s = .next (s.clocked.p F.STK_STAT_IGN 1).settle)) ∧
  (∀ (s : State) (w : Word), F.STK_CMD_KEY.get w ≠ 5 ∨ F.STK_CMD_KIND.get w = 3 → exec (.stkHint w) s = .next s.framed.settle ∧ exec (.stkGo w) s = .next s.framed.settle ∧ exec (.stkEnd w) s = .next s.framed.settle ∧ exec (.stkCancel w) s = .next s.framed.settle) ∧
  (∀ (s : State) (width d : Nat) (em : Bool), s.b F.STK_CFG_PINEN = true → s.sup.vioh = true → s.power = .run → s.cmdOn 1 = true → s.preArmed = false → s.strokeRuns = false →
    (120 < width ∧ width < 980 ∧ em = false ∧ d = 0 ∨ 2020 < width ∧ width < 4980 ∧ em = false ∧ d = 1 ∨ 10020 < width ∧ width < 19980 ∧ em = true ∧ d = 0 ∨ 30020 < width ∧ width < 49980 ∧ em = true ∧ d = 1) →
    ∃ e : State, exec (.strokePinHint width) s = .next e.settle ∧ e.preArmed = true ∧ e.strokeRuns = false ∧ e.dir = d ∧ (em = true → e.b F.STK_STAT_EMERG = true)) ∧
  (∀ (s : State) (width : Nat), s.running = true → s.b F.STK_CFG_PINEN = true → s.sup.vioh = true → (10 < width ∧ width < 80 ∨ 1020 < width ∧ width < 1980 ∨ 5020 < width ∧ width < 9980 ∨ 20020 < width ∧ width < 29980 ∨ 50020 < width) →
    exec (.strokePinHint width) s = .next (({ s with freeCtr := s.freeCtr + 1 } : State).p F.STK_STAT_PINBAD 1).settle) ∧
  (∀ (s : State) (width d : Nat) (em : Bool), s.running = true → s.b F.STK_CFG_PINEN = true → s.sup.vioh = true →
    ((80 ≤ width ∧ width ≤ 120 ∨ 980 ≤ width ∧ width ≤ 1020) ∧ em = false ∧ d = 0 ∨ (1980 ≤ width ∧ width ≤ 2020 ∨ 4980 ≤ width ∧ width ≤ 5020) ∧ em = false ∧ d = 1 ∨
      (9980 ≤ width ∧ width ≤ 10020 ∨ 19980 ≤ width ∧ width ≤ 20020) ∧ em = true ∧ d = 0 ∨ (29980 ≤ width ∧ width ≤ 30020 ∨ 49980 ≤ width ∧ width ≤ 50020) ∧ em = true ∧ d = 1) →
    exec (.strokePinHint width) s = .next (({ s with freeCtr := s.freeCtr + 1 } : State).takeHint false em d false).settle ∨ exec (.strokePinHint width) s = .next (({ s with freeCtr := s.freeCtr + 1 } : State).p F.STK_STAT_PINBAD 1).settle) ∧
  (∀ (s : State) (width : Nat), s.running = false ∨ s.b F.STK_CFG_PINEN = false ∨ s.sup.vioh = false ∨ width ≤ 10 → exec (.strokePinHint width) s = .next s.settle) ∧
  (∀ (s : State) (w : Word), s.hostAlive = true → s.power = .run → s.cmdOn 1 = true → s.strokeRuns = true → F.STK_CMD_KEY.get w = 5 → F.STK_CMD_KIND.get w ≠ 3 → F.STK_CMD_OP.get w = 3 →
    ∃ e : State, exec (.stkEnd w) s = .next e.settle ∧ e.strokeRuns = false ∧ e.preArmed = false ∧ e.b F.STK_RECSTAT_LATVALID = true ∧ e.b F.STK_RECSTAT_CAPT = false ∧ e.b F.STK_STAT_EMERG = false ∧ e.stk.boost = 0) ∧
  (∀ s : State, s.strokeRuns = true →
    (200 ≤ s.stk.below → ∃ e : State, exec .strokeEndDetect s = .next e.settle ∧ e.strokeRuns = false ∧ e.preArmed = false ∧ e.b F.STK_RECSTAT_LATVALID = true ∧ e.b F.STK_RECSTAT_CAPT = false ∧ e.b F.STK_STAT_EMERG = false ∧ e.stk.boost = 0) ∧
    (s.stk.below < 200 → exec .strokeEndDetect s = .next s.settle)) ∧
  (∀ (s : State) (w : Word), s.hostAlive = true → s.power = .run → s.cmdOn 1 = true → s.preArmed = true → F.STK_CMD_KEY.get w = 5 → F.STK_CMD_KIND.get w ≠ 3 →
    (F.STK_CMD_OP.get w = 4 → ∃ e : State, exec (.stkCancel w) s = .next e.settle ∧ e.preArmed = false ∧ e.strokeRuns = false ∧ e.b F.STK_RECSTAT_CAPT = false ∧ e.stk.boost = 0 ∧ e.mrq.openCls = none) ∧
    (F.STK_CMD_OP.get w = 3 → s.strokeRuns = false → ∃ e : State, exec (.stkEnd w) s = .next e.settle ∧ e.preArmed = false ∧ e.strokeRuns = false ∧ e.b F.STK_RECSTAT_CAPT = false ∧ e.stk.boost = 0 ∧ e.mrq.openCls = none)) ∧
  (∀ s : State, (s.preArmed = true → ∃ e : State, exec .prearmTimeout s = .next e.settle ∧ e.preArmed = false ∧ e.strokeRuns = false ∧ e.b F.STK_RECSTAT_CAPT = false ∧ e.stk.boost = 0 ∧ e.mrq.openCls = none) ∧
    (s.preArmed = false → exec .prearmTimeout s = .next s.settle))

/-- R343, R352, R353, R425: a sample takes the pack voltage and the charge current into their registers and is kept, the latest first of three; in a running stroke it advances the stroke's time and its count of samples below ISTART, and else the count of
samples at or above ISTART; no other register changes.
R352: with two such samples a pre-armed stroke starts at the earlier, and with AUTO an unhinted one of kind 3; with fewer none starts.
R357, R358: the interval of a stream ends with an entry of the minimum (STAT 1), of the maximum (STAT 2), or of the mean (STAT 0), here of one sample; without a sample it writes nothing. 4,095 ticks without an entry write a time extension. R356: an entry goes
to the next two words of the capture's bank, here bank 0, and is counted.
When a time extension is due (log entry 57), and that CHG_VBAT and CHG_IMEAS are taken in every state with AO (log entry 62), are the model's readings (DEDUCED).
Says complete: strokeSample, strokeStartDetect, streamInterval, recorderTimeExtension. -/
def Obligations.StrokeSamples : Prop :=
  (∀ (s : State) (b : Nat), s.aoOn = true → ∃ e : State, exec (.strokeSample b) s = .next e.settle ∧ e = { s with regs := e.regs, sup := { s.sup with battMv := b }, stk := e.stk, freeCtr := e.freeCtr } ∧
    (∀ a, a ≠ A.CHG_VBAT → a ≠ A.CHG_IMEAS → e.rd a = s.rd a) ∧ e.rn A.CHG_VBAT = min 65535 (b / 10) ∧ e.stk.since = s.stk.since + (s.ticksPerMs : Int) ∧
    e.stk.hist = (⟨s.rtc, s.strokeCurrent.1, s.rn A.DRV_VOUT, s.gau.last, b, decide (s.g F.DRV_STAT_LIMBY = 1)⟩ :: s.stk.hist).take 3 ∧
    (s.strokeRuns = false → e.stk.above = (if s.istart ≤ s.strokeCurrent.1 then s.stk.above + 1 else 0) ∧ e.stk.ms = s.stk.ms) ∧
    (s.strokeRuns = true → e.stk.ms = s.stk.ms + 1 ∧ e.stk.below = (if s.istart ≤ s.strokeCurrent.1 then 0 else s.stk.below + 1) ∧ e.stk.above = s.stk.above)) ∧
  (∀ (s : State) (x y : Sample) (r : List Sample), s.stk.hist = y :: x :: r → s.strokeRuns = false → 2 ≤ s.stk.above → s.power = .run → s.cmdOn 1 = true →
    (s.preArmed = true → ∃ e : State, exec .strokeStartDetect s = .next e.settle ∧ e.strokeRuns = true ∧ e.preArmed = false ∧ e.stk.ts = x.rtc ∧ e.dir = s.dir) ∧
    (s.preArmed = false → s.b F.STK_DETCFG_AUTO = true → ∃ e : State, exec .strokeStartDetect s = .next e.settle ∧ e.strokeRuns = true ∧ e.preArmed = false ∧ e.stk.ts = x.rtc ∧ e.stk.kind = 3)) ∧
  (∀ s : State, s.stk.above < 2 → exec .strokeStartDetect s = .next s.settle) ∧
  (∀ (s : State) (k late : Nat) (x : Int) (r : List Int), s.b (F.STK_CAP_EN k) = true → s.b F.STK_RECSTAT_CAPT = true → s.stk.smp.getD k [] = x :: r →
    (s.g (F.STK_CAP_STAT k) = 1 → exec (.streamInterval k late) s = .next (({ s with stk := { s.stk with smp := s.stk.smp.set k [] } } : State).recAdd k (r.foldl min x % 65536).toNat late).settle) ∧
    (s.g (F.STK_CAP_STAT k) = 2 → exec (.streamInterval k late) s = .next (({ s with stk := { s.stk with smp := s.stk.smp.set k [] } } : State).recAdd k (r.foldl max x % 65536).toNat late).settle) ∧
    (s.g (F.STK_CAP_STAT k) = 0 → r = [] → exec (.streamInterval k late) s = .next (({ s with stk := { s.stk with smp := s.stk.smp.set k [] } } : State).recAdd k (x % 65536).toNat late).settle)) ∧
  (∀ (s : State) (k late : Nat), s.stk.smp.getD k [] = [] → exec (.streamInterval k late) s = .next ({ s with stk := { s.stk with smp := s.stk.smp.set k [] } } : State).settle) ∧
  (∀ s : State, s.b F.STK_RECSTAT_CAPT = true → 4095 ≤ s.stk.since + (s.ticksPerMs : Int) → exec .recorderTimeExtension s = .next ((s.recPut 4095 15 0).setStk (fun k => { k with since := k.since - 4095 })).settle) ∧
  (∀ s : State, s.stk.since + (s.ticksPerMs : Int) < 4095 → exec .recorderTimeExtension s = .next s.settle) ∧
  (∀ (s : State) (delta tag value : Nat), s.b F.STK_RECSTAT_CAPT = true → s.g F.STK_RECSTAT_CAPBANK = 0 → s.g (F.STK_RECCNT_COUNT 0) < 8191 → value < 65536 → 16 * delta + tag < 65536 →
    (s.recPut delta tag value).rn (A.STK_REC (2 * s.g (F.STK_RECCNT_COUNT 0))) = value ∧ (s.recPut delta tag value).rn (A.STK_REC (2 * s.g (F.STK_RECCNT_COUNT 0) + 1)) = 16 * delta + tag ∧
      (s.recPut delta tag value).g (F.STK_RECCNT_COUNT 0) = s.g (F.STK_RECCNT_COUNT 0) + 1)

/-- R368, R370: a battery phase ends complete: counted, with PCNT 0 and its result in PRVSTAT, 2 with source 89 where the battery gave less than half of the current, and else 1. Without a battery phase nothing ends.
R367, R442: a proving sample outside a battery phase changes nothing, and one within it teaches the impedance that it measures, where it measures one.
R364, R383: the keys of STK_REFCTL restart the learning of opening, of closing and of both directions: their counts and points read 0, and no other register changes but the learned set's status, the set being dirty from then on; any other word changes nothing.
Says complete: batteryPhaseEnd, provingSample, stkRefctl. -/
def Obligations.ProvingAndStrokeKeys : Prop :=
  (∀ s : State, (s.b F.STK_STAT_BATTPH = true → ∃ e : State, exec .batteryPhaseEnd s = .next e.settle ∧ e.b F.STK_STAT_BATTPH = false ∧ e.stk.proveTarget = none ∧ e.g F.STK_PRVSTAT_PCNT = 0 ∧ e.rn (A.STK_CNT 4) = min 65535 (s.rn (A.STK_CNT 4) + 1) ∧
      e.g F.STK_PRVSTAT_LASTRES = (if 2 * s.stk.batSum < s.stk.isSum then 2 else 1) ∧ e.flt.raised = s.flt.raised ++ (if 2 * s.stk.batSum < s.stk.isSum then [⟨89, .detector, s.power.code⟩] else [])) ∧
    (s.b F.STK_STAT_BATTPH = false → exec .batteryPhaseEnd s = .next s.settle)) ∧
  (∀ (s : State) (k b v0 : Nat) (ib : Int) (i0 : Rat), k ≤ 2 → s.b F.STK_STAT_BATTPH = true → s.gaugeLearns = true → s.stk.pre = some (v0, i0) →
    exec (.provingSample k b ib) s = .next (match zMeasured v0 b i0 (-(ib : Rat)) with | some z => s.zLearn s.stk.zCol s.stk.zPt k 1 z | none => s).settle) ∧
  (∀ (s : State) (k b : Nat) (ib : Int), s.b F.STK_STAT_BATTPH = false → exec (.provingSample k b ib) s = .next s.settle) ∧
  (∀ (s : State) (w : Word) (d : Nat), s.hostAlive = true → (w = 0x1E01#16 ∧ d = 0 ∨ w = 0x1E02#16 ∧ d = 1) →
    ∃ e : State, exec (.stkRefctl w) s = .next e.settle ∧ e = { s.clocked with regs := e.regs, nvm := e.nvm } ∧
      e.b F.SYS_LDSTAT_DIRTY = true ∧ e.nvm = { s.nvm with wbStale := true } ∧ e.rn (A.STK_REFCNT d) = 0 ∧ (∀ i, i < 256 → e.rn (if d = 0 then A.STK_REFO i else A.STK_REFC i) = 0) ∧
      (∀ a, a ≠ A.SYS_LDSTAT → a ≠ A.STK_REFCNT d → (∀ i, i < 256 → a ≠ if d = 0 then A.STK_REFO i else A.STK_REFC i) → e.rd a = s.rd a)) ∧
  (∀ s : State, s.hostAlive = true → ∃ e : State, exec (.stkRefctl 0x1E03#16) s = .next e.settle ∧ e = { s.clocked with regs := e.regs, nvm := e.nvm } ∧
    e.b F.SYS_LDSTAT_DIRTY = true ∧ e.nvm = { s.nvm with wbStale := true } ∧ e.rn (A.STK_REFCNT 0) = 0 ∧ e.rn (A.STK_REFCNT 1) = 0 ∧
    (∀ i, i < 256 → e.rn (A.STK_REFO i) = 0 ∧ e.rn (A.STK_REFC i) = 0) ∧ (∀ a, a ≠ A.SYS_LDSTAT → a ≠ A.STK_REFCNT 0 → a ≠ A.STK_REFCNT 1 → (∀ i, i < 256 → a ≠ A.STK_REFO i ∧ a ≠ A.STK_REFC i) → e.rd a = s.rd a)) ∧
  (∀ (s : State) (w : Word), w ≠ 0x1E01#16 → w ≠ 0x1E02#16 → w ≠ 0x1E03#16 → exec (.stkRefctl w) s = .next s.framed.settle)

/-! ### The battery and the charger -/

/-- R396, R398, R449: an inserted battery is present, with its voltage and a cycle due; with the gauge running and AUTHEN 1 it is challenged at once, and where the gauge does not run its authentication is due.
R397: a removed one is not present, is counted and flagged, raises source 78 and freezes the gauge, and a FAULT of the charger ends. An insertion of a battery that is present and a removal without one change nothing, and R396: nor does the probe by itself.
R400 to R402, R432: while the charger charges, the phase follows the pack voltage; a charge that terminates passes to TOPOFF, or to MAINTENANCE where no TOPOFF time is set, and anchors a running gauge at 100 %; TOPOFF ends in MAINTENANCE; from
MAINTENANCE a recharge starts a cycle, counted.
R406: in TRICKLE and PRECHARGE the precharge timer latches the charger off with source 74, and in the phases 5 to 7 the safety timer with source 73. In any other state none of these events does anything.
When a cycle is due and when it begins (log entries 62 and 63, DEDUCED), and that an insertion of a present battery and a removal without one change nothing (log entry 5, DESIGN CHOICE), are the model's.
Says complete: batteryInserted, batteryRemoved, presenceProbe, chargePhaseChange, chargeTermination, topoffEnd, rechargeStart, prechargeTimerExpiry, safetyTimerExpiry. -/
def Obligations.BatteryAndCharge : Prop :=
  (∀ (s : State) (b : Nat), s.aoOn = true → s.present = false → ∃ e : State, exec (.batteryInserted b) s = .next e.settle ∧ e.present = true ∧ e.sup = { s.sup with pack := true, battMv := b } ∧ e.chg = { s.chg with cycleDue := true } ∧
    (s.gaugeRuns = true → s.b F.GAU_CFG_AUTHEN = true → s.gau.stage = .idle → e.gau.stage = .challenged ∧ e.g F.GAU_AUTHSTAT_TRY = 1 ∧ e.b F.GAU_AUTHSTAT_BUSY = true) ∧
    (s.gaugeRuns = false → e = { s with sup := e.sup, chg := e.chg, gau := { s.gau with authDue := true } })) ∧
  (∀ (s : State) (b : Nat), s.present = true → exec (.batteryInserted b) s = .next s.settle) ∧
  (∀ s : State, s.aoOn = true → s.present = true → ∃ e : State, exec .batteryRemoved s = .next e.settle ∧ e.present = false ∧ e.sup.battMv = 0 ∧ e.b F.CHG_FLT_REMOVED = true ∧ e.rn A.CHG_CNTREM = min 65535 (s.rn A.CHG_CNTREM + 1) ∧
    (⟨78, .detector, s.power.code⟩ : Raise) ∈ e.flt.raised ∧ e.b F.GAU_STAT_FROZEN = true ∧ e.chg.fault = false) ∧
  (∀ s : State, s.present = false → exec .batteryRemoved s = .next s.settle) ∧
  (∀ s : State, exec .presenceProbe s = .next s.settle) ∧
  (∀ (s : State) (b : Nat), s.aoOn = true → exec (.chargePhaseChange b) s =
    .next ({ s with sup := { s.sup with battMv := b }, chg := { s.chg with phase := if s.charging then s.phaseMove b else s.chg.phase } } : State).settle) ∧
  (∀ s : State, s.g F.CHG_STAT_STATE = 6 →
    (s.gaugeRuns = false → exec .chargeTermination s = .next ({ s with chg := { s.chg with phase := if s.g F.CHG_TERMCFG_TOPT = 0 then 8 else 7 } } : State).settle) ∧
    (s.gaugeRuns = true → s.frozen = false → ∃ e : State, exec .chargeTermination s = .next e.settle ∧ e.chg = { s.chg with phase := if s.g F.CHG_TERMCFG_TOPT = 0 then 8 else 7 } ∧
      e.gau.anchor = some ⟨100, s.gau.acc, !s.b F.GAU_STAT_ESTIM⟩ ∧ e.gau.qrem = (e.fcc : Rat) ∧ e.g F.GAU_STAT_ESTIM = 0)) ∧
  (∀ s : State, s.g F.CHG_STAT_STATE ≠ 6 → exec .chargeTermination s = .next s.settle) ∧
  (∀ s : State, exec .topoffEnd s = .next (if s.g F.CHG_STAT_STATE = 7 then { s with chg := { s.chg with phase := 8 } } else s : State).settle) ∧
  (∀ s : State, (s.g F.CHG_STAT_STATE = 8 → ∃ e : State, exec .rechargeStart s = .next e.settle ∧ e = { s with regs := e.regs, chg := { s.chg with cycleDue := false, preT := 0, safeT := 0, phase := s.phaseOf s.sup.battMv } } ∧
      (∀ a, a ≠ A.CHG_CNTCYC → e.rd a = s.rd a) ∧ e.rn A.CHG_CNTCYC = min 65535 (s.rn A.CHG_CNTCYC + 1)) ∧
    (s.g F.CHG_STAT_STATE ≠ 8 → exec .rechargeStart s = .next s.settle)) ∧
  (∀ s : State, exec .prechargeTimerExpiry s = .next (if s.g F.CHG_STAT_STATE = 3 ∨ s.g F.CHG_STAT_STATE = 4 then (({ s with chg := { s.chg with fault := true } } : State).p F.CHG_FLT_PRETMR 1).raise 74 else s).settle) ∧
  (∀ s : State, exec .safetyTimerExpiry s =
    .next (if s.g F.CHG_STAT_STATE = 5 ∨ s.g F.CHG_STAT_STATE = 6 ∨ s.g F.CHG_STAT_STATE = 7 then (({ s with chg := { s.chg with fault := true } } : State).p F.CHG_FLT_SAFETMR 1).raise 73 else s).settle)

/-- R410: a battery over-voltage stops the charger with source 72, once until it recovers; an over-current of the stage stops it for its pause, and the third within 60 s latches it off with source 75; a line too low for the charger is marked, and raises
source 79 once in a qualification; each recovers or restarts as the rule says.
R409: the watchdog, where it is used and runs, writes the safe column, sets WDF and raises source 77; one that does not run does nothing.
R409, R411, R419, R428: the keys of CHG_KEY: the kick clears WDF and starts the watchdog, the retry key ends FAULT with a new cycle due, the clear key clears the count of cycles, and any other word changes nothing.
R394, R407, R408, R425: an update of the allowance takes BATT, V(LSRC) and the charge current, and the ramp of the current target grows while the stage switches; outside a charge no register changes, and in one the charger has precedence where condition 0x85 is
false and no emergency stroke runs.
The ramp of 20 mA with each update, the window of the over-currents in LF ticks, VIN_LOW once in a qualification, and BAT_OV in every state with AO, are the model's readings (log entry 62, DEDUCED).
Says complete: chgBatOv, chgBatOvRecover, chgStageOc, chgStageRestart, chgVinLow, chgVinLowRecover, chgWatchdogExpiry, chgWdKick, chgFaultRetry, chgCntClear, chargerAllowanceUpdate. -/
def Obligations.ChargerFaultsAndKeys : Prop :=
  (∀ s : State, s.aoOn = true → s.present = true →
    exec .chgBatOv s = .next (if s.chg.batOv then s else (({ s with chg := { s.chg with batOv := true } } : State).p F.CHG_FLT_BATOV 1).raise 72).settle) ∧
  (∀ s : State, exec .chgBatOvRecover s = .next ({ s with chg := { s.chg with batOv := false } } : State).settle) ∧
  (∀ s : State, s.chg.sw = true → (s.chg.ocTimes.filter (fun t => s.ticks < t + 1966080)).length < 2 →
    exec .chgStageOc s = .next ({ s with chg := { s.chg with ocTimes := s.ticks :: s.chg.ocTimes.filter (fun t => s.ticks < t + 1966080), ocStop := true } } : State).settle) ∧
  (∀ s : State, s.chg.sw = true → 2 ≤ (s.chg.ocTimes.filter (fun t => s.ticks < t + 1966080)).length →
    exec .chgStageOc s = .next ((({ s with chg := { s.chg with ocTimes := [], ocStop := false, fault := true } } : State).p F.CHG_FLT_STAGEOC 1).raise 75).settle) ∧
  (∀ s : State, s.chg.sw = false → exec .chgStageOc s = .next s.settle) ∧
  (∀ s : State, exec .chgStageRestart s = .next ({ s with chg := { s.chg with ocStop := false } } : State).settle) ∧
  (∀ s : State, s.line.chgOk = true →
    (s.chg.vinRaised = false → exec .chgVinLow s = .next ({ (s.p F.CHG_FLT_VINLOW 1).raise 79 with chg := { s.chg with vinLow := true, vinRaised := true } } : State).settle) ∧
    (s.chg.vinRaised = true → exec .chgVinLow s = .next ({ s with chg := { s.chg with vinLow := true } } : State).settle)) ∧
  (∀ s : State, s.line.chgOk = false → exec .chgVinLow s = .next s.settle) ∧
  (∀ s : State, exec .chgVinLowRecover s = .next ({ s with chg := { s.chg with vinLow := false } } : State).settle) ∧
  (∀ s : State, s.g F.CHG_TMRCFG_WDTO ≠ 0 → (s.power = .run ∨ s.power = .watch) → s.chg.wdRun = true → ∃ e : State, exec .chgWatchdogExpiry s = .next e.settle ∧
    e = { s with regs := e.regs, flt := { s.flt with raised := s.flt.raised ++ [⟨77, .detector, s.power.code⟩] }, chg := { s.chg with wdf := true, wdRun := false } } ∧ (∀ a, a ≠ A.CHG_FLT → a ≠ A.CHG_CTRL → a ≠ A.CHG_ICHG → a ≠ A.CHG_VREG → e.rd a = s.rd a) ∧
    e.b F.CHG_FLT_WDT = true ∧ e.g F.CHG_CTRL_EN = s.ztabByte 34 % 2 ∧ e.g F.CHG_ICHG_CODE = s.rn (A.CHG_ZTAB 15) % 512 ∧ (s.rn (A.CHG_ZTAB 16) ≠ 65535 → e.g F.CHG_VREG_CODE = s.rn (A.CHG_ZTAB 16) % 512)) ∧
  (∀ s : State, s.chg.wdRun = false → exec .chgWatchdogExpiry s = .next s.settle) ∧
  (∀ s : State, s.hostAlive = true → exec (.chgWdKick 0xC4A9#16) s = .next ({ s.clocked with chg := { s.chg with wdf := false, wdRun := true } } : State).settle) ∧
  (∀ s : State, s.hostAlive = true → exec (.chgFaultRetry 0xA93C#16) s = .next (if s.chg.fault then { s.clocked with chg := { s.chg with fault := false, cycleDue := true } } else s.clocked : State).settle) ∧
  (∀ s : State, s.hostAlive = true → exec (.chgCntClear 0xC1EA#16) s = .next ((s.clocked.wr A.CHG_CNTCYC 0).wr (A.CHG_CNTCYC + 1) 0).settle) ∧
  (∀ (s : State) (w : Word), w ≠ 0xC4A9#16 → w ≠ 0xA93C#16 → w ≠ 0xC1EA#16 → exec (.chgWdKick w) s = .next s.framed.settle ∧ exec (.chgFaultRetry w) s = .next s.framed.settle ∧ exec (.chgCntClear w) s = .next s.framed.settle) ∧
  (∀ (s : State) (cs ls vloop : Int) (b vl : Nat), s.aoOn = true →
    ∃ e : State, exec (.chargerAllowanceUpdate cs b vl ls vloop) s = .next e.settle ∧ e = { s with regs := e.regs, sup := { s.sup with battMv := b }, drv := { s.drv with vlsrc := vl }, chg := e.chg, freeCtr := e.freeCtr } ∧ (∀ a, a ≠ A.CHG_STAT → a ≠ A.CHG_ALLOW → e.rd a = s.rd a) ∧
      e.chg.ramp = (if s.chg.sw then min 20000 (s.chg.ramp + 20) else 0) ∧ (s.g F.CHG_CFG_RSH = 0 → e.chg.ima = (cs : Rat)) ∧ (s.charging = false → e.regs = s.regs) ∧
      (s.charging = true → e.b F.CHG_STAT_PREC = (!s.reserveOk && !s.b F.STK_STAT_EMERG)))

/-! ### The gauge and the pack -/

/-- R429, R430: a result of the counter is the latest current, joins the second's sum, and, at or above the dead band, the accumulator, within 48 bits; no register changes. R430, R439: an input out of range raises source 87 once and spoils the learning
pair. R121, R430: a read of GAU_ACC0 returns it and latches the two words above it.
R431: the second takes BATT, closes its sum and, where the gauge runs, tells the direction of the mean current.
R437: a voltage that says empty while the charge does not is a disagreement with source 84. R433: a rest point, at rest, sets REST and, where the curve is steep enough, anchors the gauge.
R443: the sample 100 ms after a charger's stop keeps its impedance, and the one at 1 s ends the step.
R449 to R451: asked for by its key, or periodically, an authentication challenges the pack at its first attempt. A response that proves the key passes it, with the time of the pass; a wrong response, an answer that never comes, or a bus held fails the
attempt with cause 2, 1 or 3, or with cause 4 where no key is provisioned, and the third failure fails the authentication with source 92; the next attempt follows a failed one.
R459: the relearn key sets RELEARN.
The function that a right response proves is presumed (log entry 93, PRESUMED: HMAC-SHA-256); that the third failure fails at once and the condition of a periodic authentication (log entry 64), the literal 3.052 µV (log entry 60), and when a charger step is given
up or a frozen gauge thaws (log entry 65) are the model's readings (DEDUCED).
Says complete: coulombResult, ccRange, gauAccRead, gaugeSecond, voltageSaysEmpty, restPoint, chargerStepSample, authRequest, authPeriodic, authResponseRead, authReadRetry, authBusHeld, authAttemptRetry, relearnSet. -/
def Obligations.GaugeAndAuthentication : Prop :=
  (∀ (s : State) (raw : Int) (q d : Nat), s.aoOn = true → shuntQ (s.g F.GAU_CFG_RSH) = some q → deadband (s.g F.GAU_CFG_DEADBAND) = some d →
    ∃ e : State, exec (.coulombResult raw) s = .next e.settle ∧ e = { s with gau := e.gau } ∧ e.gau.last = (raw : Rat) * 3052 / 1000 * 4 / (q : Rat) ∧ e.gau.secN = s.gau.secN + 1 ∧ e.gau.secSum = s.gau.secSum + e.gau.last ∧
      e.gau.acc = (if (raw.natAbs : Rat) * 3052 / 1000 < (d : Rat) then s.gau.acc else clampR (-140737488355328) 140737488355327 (s.gau.acc + e.gau.last / 1000)) ∧ e.gau.qrem = s.gau.qrem ∧ e.gau.anchor = s.gau.anchor) ∧
  (∀ s : State, s.aoOn = true → s.gau.full = true →
    exec .ccRange s = .next (if s.gau.ranged then s else ({ s with gau := { s.gau with ranged := true, anchor := s.gau.anchor.map (fun a => { a with good := false }) } } : State).raise 87).settle) ∧
  (∀ s : State, s.hostAlive = true → ∃ e : State, exec .gauAccRead s = .next e.settle ∧ e = { s.clocked with regs := e.regs, hif := e.hif, freeCtr := e.freeCtr } ∧ (∀ a, a ≠ A.GAU_ACC0 → a ≠ A.GAU_ACC1 → a ≠ A.GAU_ACC2 → e.rd a = s.rd a) ∧ e.hif.reply.words = [e.rd A.GAU_ACC0] ∧
    (s.gau.acc.den = 1 → ((e.rn A.GAU_ACC0 + 65536 * e.rn A.GAU_ACC1 + 4294967296 * e.rn A.GAU_ACC2 : Nat) : Int) = s.gau.acc.num % 281474976710656)) ∧
  (∀ (s : State) (b : Nat), s.aoOn = true → ∃ e : State, exec (.gaugeSecond b) s = .next e.settle ∧ e.sup = { s.sup with battMv := b } ∧ e.gau.secN = 0 ∧ e.gau.secSum = 0 ∧ e.gau.accSec = s.gau.acc ∧
    (s.gaugeRuns = true → e.g F.GAU_STAT_FLOW = s.flowOf (if s.gau.secN = 0 then 0 else s.gau.secSum / (s.gau.secN : Rat)))) ∧
  (∀ s : State, s.gaugeRuns = true → s.present = true → s.frozen = false → s.g F.GAU_STAT_FLOW = 2 → 5 < s.socCc →
    ∃ e : State, exec .voltageSaysEmpty s = .next e.settle ∧ e = { s with regs := e.regs, hif := e.hif, flt := { s.flt with raised := s.flt.raised ++ [⟨84, .detector, s.power.code⟩] }, mrq := e.mrq, gau := e.gau } ∧ (∀ a, a ≠ A.GAU_STAT → e.rd a = s.rd a) ∧ e.g F.GAU_STAT_DIS = 2) ∧
  (∀ s : State, s.gaugeRuns = false ∨ s.present = false ∨ s.frozen = true ∨ s.g F.GAU_STAT_FLOW ≠ 2 ∨ s.socCc ≤ 5 → exec .voltageSaysEmpty s = .next s.settle) ∧
  (∀ (s : State) (b : Nat), s.gaugeRuns = true → s.present = true → s.frozen = false → s.atRest = true → s.b F.GAU_STAT_REST = false →
    ∃ e : State, exec (.restPoint b) s = .next e.settle ∧ e.b F.GAU_STAT_REST = true ∧ ((s.socOf ((b : Rat) / (s.cells : Rat))).2 = true → e.g F.GAU_STAT_ESTIM = 0 ∧ e.gau.anchor = some ⟨(s.socOf ((b : Rat) / (s.cells : Rat))).1, s.gau.acc, !s.b F.GAU_STAT_ESTIM⟩)) ∧
  (∀ (s : State) (b : Nat), s.atRest = false → exec (.restPoint b) s = .next s.settle) ∧
  (∀ (s : State) (b : Nat) (ib : Int) (c : ChgStep), s.gau.chgStep = some c →
    exec (.chargerStepSample 2 b ib) s = .next ({ s with gau := { s.gau with chgStep := some { c with z100 := zMeasured c.batt b c.cur (-(ib : Rat)) } } } : State).settle ∧
    (∃ e : State, exec (.chargerStepSample 3 b ib) s = .next e.settle ∧ e.gau = { s.gau with chgStep := none } ∧ (s.gaugeLearns = false → e = { s with gau := e.gau }))) ∧
  (∀ (s : State) (k b : Nat) (ib : Int), s.gau.chgStep = none → exec (.chargerStepSample k b ib) s = .next s.settle) ∧
  (∀ s : State, s.running = true → s.present = true → s.gau.stage = .idle → s.b F.GAU_CFG_AUTHEN = true →
    (s.sup.vioh = true → ∃ e : State, exec (.authRequest 0x6A01#16) s = .next e.settle ∧ e.gau.stage = .challenged ∧ e.g F.GAU_AUTHSTAT_TRY = 1 ∧ e.b F.GAU_AUTHSTAT_BUSY = true ∧ e.gau.chal.length = 16 ∧ e.nvm.vnvm = true) ∧
    (s.gau.authAt.isSome = true → ∃ e : State, exec .authPeriodic s = .next e.settle ∧ e.gau.stage = .challenged ∧ e.g F.GAU_AUTHSTAT_TRY = 1 ∧ e.b F.GAU_AUTHSTAT_BUSY = true ∧ e.gau.chal.length = 16 ∧ e.nvm.vnvm = true)) ∧
  (∀ (s : State) (r : List Byte), s.gaugeRuns = true → s.gau.stage = .challenged → s.g F.GAU_AUTHSTAT_TRY < 3 →
    ∃ e : State, exec (.authResponseRead r) s = .next e.settle ∧
      (if !Config.packKeyFuse then e.gau.stage = .failed ∧ e.g F.GAU_AUTHSTAT_CAUSE = 4
       else if hmacSha256 packKey (s.gau.chal ++ (r.drop 32).take 8) = r.take 32 then e.gau.stage = .idle ∧ e.g F.GAU_STAT_AUTH = 2 ∧ e.gau.passAt = some s.rtcSec
       else e.gau.stage = .failed ∧ e.g F.GAU_AUTHSTAT_CAUSE = 2)) ∧
  (∀ s : State, s.gaugeRuns = true → s.gau.stage = .challenged → s.g F.GAU_AUTHSTAT_TRY < 3 →
    (∃ e : State, exec (.authReadRetry true) s = .next e.settle ∧ e = { s with regs := e.regs, gau := { s.gau with stage := .failed } } ∧ (∀ a, a ≠ A.GAU_AUTHSTAT → e.rd a = s.rd a) ∧ e.g F.GAU_AUTHSTAT_CAUSE = (if Config.packKeyFuse then 1 else 4)) ∧
    (∃ e : State, exec .authBusHeld s = .next e.settle ∧ e = { s with regs := e.regs, gau := { s.gau with stage := .failed } } ∧ (∀ a, a ≠ A.GAU_AUTHSTAT → e.rd a = s.rd a) ∧ e.g F.GAU_AUTHSTAT_CAUSE = (if Config.packKeyFuse then 3 else 4))) ∧
  (∀ s : State, s.gaugeRuns = true → s.gau.stage = .challenged → s.g F.GAU_AUTHSTAT_TRY = 3 →
    (∃ e : State, exec (.authReadRetry true) s = .next e.settle ∧ e.g F.GAU_STAT_AUTH = 3 ∧ e.gau.stage = .idle ∧ (⟨92, .detector, s.power.code⟩ : Raise) ∈ e.flt.raised) ∧
    (∃ e : State, exec .authBusHeld s = .next e.settle ∧ e.g F.GAU_STAT_AUTH = 3 ∧ e.gau.stage = .idle ∧ (⟨92, .detector, s.power.code⟩ : Raise) ∈ e.flt.raised)) ∧
  (∀ s : State, exec (.authReadRetry false) s = .next s.settle) ∧
  (∀ s : State, s.gaugeRuns = true → s.gau.stage = .failed → s.present = true → s.g F.GAU_AUTHSTAT_TRY < 3 →
    ∃ e : State, exec .authAttemptRetry s = .next e.settle ∧ e.gau.stage = .challenged ∧ e.g F.GAU_AUTHSTAT_TRY = s.g F.GAU_AUTHSTAT_TRY + 1 ∧ e.gau.chal.length = 16 ∧ e.nvm.vnvm = true) ∧
  (∀ s : State, s.hostAlive = true → s.power ≠ .boot → exec (.relearnSet 0x6A02#16) s = .next (s.clocked.p F.GAU_STAT_RELEARN 1).settle)

/-! ### The Wayline -/

/-- R39, R479, R481, R492: a frame from a worker whose record is present marks it as heard. STATUS replaces the payload, and posts a summary, setting LINK, where a watched bit changed, and else changes nothing else. R475, R486: REQUEST joins the pending
requests where none of that worker is pending, and one with the RSEQ of the pending one changes none; RELEASE waits for the next clearing. R481: LEAVE reclaims the grant, drops the request and marks the record. R477: JOIN waits for the next origin.
On a device that is no manager these frames do nothing but to start the fast oscillator.
R479: a present worker without a valid frame for three turns is absent, with source 116; its grant goes on.
R473, R474, R477: an origin advances TURN, sends a milestone of 12 bytes, and leaves no release and no JOIN waiting; a JOIN of an address that was free makes its record present.
R482: a milestone that the manager did not send silences it with source 118 and MGRCONF, and the end of the silence lets it send again.
R493: the relay window sends the request to a present worker, at most three times, and then ends the relay with result 2, or with 3 where the record is not present; a reply with the count asked for fills the buffer and ends it with result 1, and any other
is dropped.
R494, R498, R514: a keyed WAY_RSTCMD is put into three milestones; one for an address never admitted sets RSTREF; without the key it does nothing; on a device that is no manager its write has no defined result.
That an undefined write is a fault (log entry 9, DESIGN CHOICE), that JOINs are decided and RELEASEs taken at the origin (log entry 71), and what LEAVE drops and when a relay ends with result 3 (log entry 73) are the model's readings (DEDUCED).
Says complete: statusFrameReceived, requestFrameReceived, releaseFrameReceived, leaveFrameReceived, joinFrameReceived, workerAbsent, turnOrigin, foreignMilestone, managerSilenceEnd, relayWindow, relayReplyReceived, wayRstcmd. -/
def Obligations.ManagerRules : Prop :=
  (∀ (s : State) (a p : Nat), s.managerHears = true → 1 ≤ a → a ≤ 31 → s.way.recs.length = 31 → (s.wrec a).st = 1 →
    ∃ e : State, exec (.statusFrameReceived a p) s = .next e.settle ∧ e = { s with regs := e.regs, sup := { s.sup with fastOn := true }, hif := e.hif, mrq := e.mrq, way := { s.way with recs := e.way.recs } } ∧
      (∀ x, x ≠ A.WAY_MCHG (a / 16) → e.rd x = s.rd x) ∧ (e.wrec a).status = p ∧ (e.wrec a).heard = true ∧ (e.wrec a).st = 1 ∧
      ((s.wrec a).status.land statusBits = p.land statusBits → e.regs = s.regs ∧ e.hif = s.hif ∧ e.mrq = s.mrq) ∧
      ((s.wrec a).status.land statusBits ≠ p.land statusBits → e.hif.link = true ∧
        e.mrq.outbox = s.mrq.outbox ++ [.worker 6 a (if p.testBit 26 = true ∧ (s.wrec a).status.testBit 26 = false then 1 else 2) (BitVec.ofNat 32 p)])) ∧
  (∀ (s : State) (a p : Nat), s.managerHears = true → 1 ≤ a → a ≤ 31 → s.way.recs.length = 31 → (s.wrec a).st = 1 →
    ∃ e : State, exec (.requestFrameReceived a p) s = .next e.settle ∧ e = { s with sup := { s.sup with fastOn := true }, way := { s.way with recs := e.way.recs, pend := e.way.pend } } ∧ (e.wrec a).heard = true ∧
      (s.pendOf a = none → e.way.pend = s.way.pend ++ [⟨a, p / 256 % 16, p / 4096 % 4096, p / 16777216 % 128, p.testBit 31 && (s.wrec a).w2, s.way.turns⟩]) ∧
      ((s.pendOf a).map (·.rseq) = some (p / 256 % 16) → e.way.pend = s.way.pend)) ∧
  (∀ (s : State) (a p : Nat), s.managerHears = true → 1 ≤ a → a ≤ 31 → (s.wrec a).st = 1 →
    ∃ e : State, exec (.releaseFrameReceived a p) s = .next e.settle ∧ e = { s with sup := { s.sup with fastOn := true }, way := { s.way with recs := e.way.recs, rels := s.way.rels ++ [(a, p / 256 % 16)] } }) ∧
  (∀ (s : State) (a : Nat), s.managerHears = true → 1 ≤ a → a ≤ 31 → s.way.recs.length = 31 → (s.wrec a).st = 1 →
    ∃ e : State, exec (.leaveFrameReceived a) s = .next e.settle ∧ e = { s with regs := e.regs, sup := { s.sup with fastOn := true }, hif := e.hif, mrq := e.mrq, way := e.way } ∧ (e.wrec a).st = 3 ∧ e.grantOf a = none ∧ e.pendOf a = none ∧ e.hif.link = true) ∧
  (∀ (s : State) (a n : Nat) (id : Option Nat), s.managerHears = true → 1 ≤ a → a ≤ 31 →
    exec (.joinFrameReceived a n id) s = .next ({ s with sup := { s.sup with fastOn := true }, way := { s.way with joins := s.way.joins ++ [(a, n, id)] } } : State).settle) ∧
  (∀ (s : State) (a p : Nat) (id : Option Nat), s.isManager = false → let t : State := if s.wayOn then { s with sup := { s.sup with fastOn := true } } else s
    exec (.statusFrameReceived a p) s = .next t.settle ∧ exec (.requestFrameReceived a p) s = .next t.settle ∧ exec (.releaseFrameReceived a p) s = .next t.settle ∧ exec (.leaveFrameReceived a) s = .next t.settle ∧
    exec (.joinFrameReceived a p id) s = .next t.settle ∧ exec (.workerAbsent a) s = .next s.settle) ∧
  (∀ (s : State) (a : Nat), s.managerHears = true → 1 ≤ a → a ≤ 31 → s.way.recs.length = 31 → (s.wrec a).st = 1 → (s.wrec a).heard = false → 2 ≤ (s.wrec a).missed →
    ∃ e : State, exec (.workerAbsent a) s = .next e.settle ∧ e = { s with regs := e.regs, hif := e.hif, flt := { s.flt with raised := s.flt.raised ++ [⟨116, .detector, s.power.code⟩] }, mrq := e.mrq, way := e.way } ∧
      (∀ x, x ≠ A.WAY_MCHG (a / 16) → x ≠ A.HIF_RLYSTAT → e.rd x = s.rd x) ∧ (e.wrec a).st = 2 ∧ e.pendOf a = none ∧ e.way.grants = s.way.grants) ∧
  (∀ s : State, s.isManager = true → s.running = true → s.way.silent = false → ∃ e : State, exec .turnOrigin s = .next e.settle ∧ e.way.turns = s.way.turns + 1 ∧ e.g F.WAY_MSTAT_TURN = (s.way.turns + 1) % 32 ∧ e.way.rels = [] ∧ e.way.joins = [] ∧
    e.way.sent.length = 12 ∧ (∀ a n, s.way.joins = [(a, n, none)] → s.b F.WAY_MCFG_JOINEN = true → 1 ≤ a → a ≤ 31 → s.way.recs.length = 31 → (s.wrec a).st = 0 → (e.wrec a).st = 1 ∧ (e.wrec a).w2 = false)) ∧
  (∀ s : State, s.managerHears = true → exec .foreignMilestone s = .next ({ (s.raise 118).p F.WAY_STAT_MGRCONF 1 with sup := { s.sup with fastOn := true }, way := { s.way with silent := true } } : State).settle) ∧
  (∀ s : State, exec .managerSilenceEnd s = .next (if s.isManager then { s with way := { s.way with silent := false } } else s : State).settle) ∧
  (∀ (s : State) (r : WRelay), s.isManager = true → s.running = true → s.way.silent = false → s.way.relay = some r →
    ∃ e : State, exec .relayWindow s = .next e.settle ∧ e = { s with regs := e.regs, sup := { s.sup with fastOn := true }, hif := e.hif, way := { s.way with relay := e.way.relay, sent := e.way.sent } } ∧ (∀ x, x ≠ A.HIF_RLYSTAT → e.rd x = s.rd x) ∧
      ((s.wrec r.addr).st = 1 → r.used < 3 → e.way.relay = some { r with used := r.used + 1 } ∧ e.way.sent.length = 6 ∧ e.regs = s.regs ∧ e.hif = s.hif) ∧
      ((s.wrec r.addr).st = 1 → 3 ≤ r.used → e.way.relay = none ∧ e.b F.HIF_RLYSTAT_BUSY = false ∧ e.g F.HIF_RLYSTAT_RESULT = 2 ∧ e.hif.link = true) ∧
      ((s.wrec r.addr).st ≠ 1 → e.way.relay = none ∧ e.b F.HIF_RLYSTAT_BUSY = false ∧ e.g F.HIF_RLYSTAT_RESULT = 3 ∧ e.hif.link = true)) ∧
  (∀ (s : State) (r : WRelay) (ws : List Word), s.managerHears = true → s.way.relay = some r → r.used ≠ 0 → ws.length = r.count → r.count ≤ 16 →
    ∃ e : State, exec (.relayReplyReceived r.addr ws) s = .next e.settle ∧ e = { s with regs := e.regs, sup := { s.sup with fastOn := true }, hif := e.hif, way := { s.way with relay := none } } ∧ (∀ x, x ≠ A.HIF_RLYSTAT → (∀ i, i < 16 → x ≠ A.HIF_RLYBUF i) → e.rd x = s.rd x) ∧
      (∀ i, i < ws.length → e.rd (A.HIF_RLYBUF i) = ws.getD i 0) ∧ e.b F.HIF_RLYSTAT_BUSY = false ∧ e.g F.HIF_RLYSTAT_RESULT = 1 ∧ e.hif.link = true) ∧
  (∀ (s : State) (r : WRelay) (a : Nat) (ws : List Word), s.managerHears = true → s.way.relay = some r → (a ≠ r.addr ∨ ws.length ≠ r.count) → exec (.relayReplyReceived a ws) s = .next ({ s with sup := { s.sup with fastOn := true } } : State).settle) ∧
  (∀ (s : State) (w : Word), s.hostAlive = true → s.isManager = true → F.WAY_RSTCMD_KEY.get w = 0xD2 → F.WAY_RSTCMD_ADDR.get w ≠ 0 →
    ((s.wrec (F.WAY_RSTCMD_ADDR.get w)).st ≠ 0 → exec (.wayRstcmd w) s = .next ({ s.clocked with way := { s.way with resets := s.way.resets.filter (·.1 ≠ F.WAY_RSTCMD_ADDR.get w) ++
      [(F.WAY_RSTCMD_ADDR.get w, if (s.wrec (F.WAY_RSTCMD_ADDR.get w)).w2 then (s.wrec (F.WAY_RSTCMD_ADDR.get w)).ident % 256 else 0, 3)] } } : State).settle) ∧
    ((s.wrec (F.WAY_RSTCMD_ADDR.get w)).st = 0 → exec (.wayRstcmd w) s = .next (s.clocked.p F.WAY_MSTAT_RSTREF 1).settle)) ∧
  (∀ (s : State) (w : Word), s.hostAlive = true → s.isManager = true → F.WAY_RSTCMD_KEY.get w ≠ 0xD2 → exec (.wayRstcmd w) s = .next s.framed.settle) ∧
  (∀ (s : State) (w : Word), s.hostAlive = true → s.isManager = false → exec (.wayRstcmd w) s = .fault (.undefinedWrite A.WAY_RSTCMD))

/-- R471, R480: a valid milestone is the turn's, ends ORPHAN and counts towards two in a row, which one that does not follow starts afresh before they are reached; it moves an unadmitted worker's join on. R474, R488: a GRANT for an admitted worker is taken
with the lease that its request asked for, and ends the request outstanding. R476, R477: an ACCEPT of its own JOIN admits the worker with no grant.
R471, R475: an admitted worker sends a frame of six bytes in its slot, once in a turn: with nothing to leave, release or ask for, its STATUS. R476: an unadmitted worker whose wait is over sends JOIN and waits for its answer, two milestones at most; the
random wait ends with a new JOIN, and the second after a refusal with listening anew.
R480: three turns without a milestone make it an orphan, with its admission and grant ended and source 114. R488: the end of a lease ends the grant, and a lease about to end is asked for again while a stroke is active.
R467: a rejected frame is counted, and the seventeenth of a second raises source 117. R493: a relay request reads its words, and the reply carries them, where the worker is admitted at W2; at W1 none is sent.
That two milestones in a row are asked for once, and the phases of a join (log entry 73), that the second of source 117 is one of the RTC (log entry 41), and which worker answers a relay (log entry 74) are the model's readings (DEDUCED).
Says complete: milestoneReceived, workerSlotSend, joinSend, joinRetry, wayOrphan, leaseEnd, leaseRenewalDue, waylineFrameError, relayRequestReceived. -/
def Obligations.WorkerTurns : Prop :=
  (∀ (s : State) (t fv sh d : Nat), s.isWorker = true → s.wayOn = true → d = (match s.way.lastTurn with | some u => (t + 32 - u) % 32 | none => 0) →
    ∃ e : State, exec (.milestoneReceived t fv sh ⟨0, 0, 0⟩ ⟨0, 0, 0⟩) s = .next e.settle ∧ e.way.fresh = true ∧ e.way.lastTurn = some (t % 32) ∧ e.b F.WAY_STAT_ORPHAN = false ∧ e.admitted = s.admitted ∧ e.rn A.WAY_GRANT = s.rn A.WAY_GRANT ∧
      e.way.consec = (if d = 1 then min 2 (s.way.consec + 1) else if s.way.consec = 2 then 2 else 1) ∧ e.way.join = (if s.admitted then s.way.join else s.way.join.next (d = 1) d s.wayAddr)) ∧
  (∀ (s : State) (t fv sh d : Nat), s.isWorker = true → s.wayOn = true → s.wayAddr ≠ 0 → s.admitted = true → d < 65536 → s.way.leases.getD (d / 4096 % 16) 0 ≠ 0 →
    ∃ e : State, exec (.milestoneReceived t fv sh ⟨1, s.wayAddr, d⟩ ⟨0, 0, 0⟩) s = .next e.settle ∧ e.rn A.WAY_GRANT = d ∧ e.way.leaseMs = 100 * s.way.leases.getD (d / 4096 % 16) 0 ∧ e.way.out = (if d / 4096 % 16 = s.way.rseq then none else s.way.out)) ∧
  (∀ (s : State) (t fv sh n l : Nat), s.isWorker = true → s.wayOn = true → s.wayAddr ≠ 0 → s.admitted = false → n < 256 → s.way.join = .sent n false l →
    ∃ e : State, exec (.milestoneReceived t fv sh ⟨3, s.wayAddr, n⟩ ⟨0, 0, 0⟩) s = .next e.settle ∧ e.admitted = true ∧ e.rn A.WAY_GRANT = 0 ∧ e.b F.WAY_STAT_VER = false) ∧
  (∀ s : State, s.isWorker = true → s.running = true → s.admitted = true → s.turnHeard = true → s.way.fresh = true → ∃ e : State, exec .workerSlotSend s = .next e.settle ∧ e.way.fresh = false ∧ e.way.sent.length = 6 ∧
    (s.way.leaveDue = false → s.stk.tollRel = false → s.stk.tollReq = none → s.way.out = none →
      e = { s with sup := { s.sup with fastOn := true }, way := { s.way with fresh := false, sent := e.way.sent } } ∧ e.way.sent.take 5 = BitVec.ofNat 8 s.wayAddr :: leBytes 4 s.statusPayload)) ∧
  (∀ s : State, s.isWorker = true → s.running = true → s.admitted = false → s.wayAddr ≠ 0 → s.turnHeard = true → s.way.fresh = true → s.way.join = .ready 0 →
    ∃ e : State, exec .joinSend s = .next e.settle ∧ e = { s with sup := { s.sup with fastOn := true }, way := { s.way with fresh := false, join := e.way.join, sent := e.way.sent }, freeCtr := s.freeCtr + 1 } ∧
      (∃ n, n < 256 ∧ e.way.join = .sent n s.offersW2 2) ∧ e.way.sent.length = (if s.offersW2 then 12 else 3)) ∧
  (∀ s : State, (s.way.join = .waiting → exec .joinRetry s = .next ({ s with way := { s.way with join := .ready 0 } } : State).settle) ∧ (s.way.join = .refused → exec .joinRetry s = .next ({ s with way := { s.way with join := .listen 0 } } : State).settle)) ∧
  (∀ s : State, s.isWorker = true → s.wayOn = true → s.way.lastTurn.isSome = true → s.b F.WAY_STAT_ORPHAN = false →
    ∃ e : State, exec .wayOrphan s = .next e.settle ∧ e = { s with regs := e.regs, hif := e.hif, flt := { s.flt with raised := s.flt.raised ++ [⟨114, .detector, s.power.code⟩] }, mrq := e.mrq, way := e.way } ∧
      (∀ a, a ≠ A.WAY_STAT → a ≠ A.WAY_GRANT → a ≠ A.WAY_CNTORPH → e.rd a = s.rd a) ∧ e.b F.WAY_STAT_ORPHAN = true ∧ e.admitted = false ∧ e.rn A.WAY_GRANT = 0 ∧ e.rn A.WAY_CNTORPH = min 65535 (s.rn A.WAY_CNTORPH + 1) ∧ e.way.consec = 0) ∧
  (∀ s : State, s.isWorker = true → exec .leaseEnd s = .next (if s.grantTolls = 0 then s else { s.wn A.WAY_GRANT 0 with way := { s.way with kept := false } } : State).settle) ∧
  (∀ s : State, s.isWorker = true → s.grantTolls ≠ 0 →
    (s.strokeActive = true → ∃ e : State, exec .leaseRenewalDue s = .next e.settle ∧ e = { s with stk := { s.stk with tollReq := e.stk.tollReq }, freeCtr := e.freeCtr } ∧ e.stk.tollReq.isSome = true) ∧
    (s.strokeActive = false → exec .leaseRenewalDue s = .next s.settle)) ∧
  (∀ s : State, s.running = true → s.isWorker = true → ∃ e : State, exec .waylineFrameError s = .next e.settle ∧
    e = { s with regs := e.regs, sup := { s.sup with fastOn := true }, flt := { s.flt with raised := s.flt.raised ++ (if s.way.errSec = s.rtcSec ∧ s.way.errCnt = 16 then [⟨117, .detector, s.power.code⟩] else []) }, way := e.way } ∧
    (∀ a, a ≠ A.WAY_CNTCRC → e.rd a = s.rd a) ∧ e.rn A.WAY_CNTCRC = min 65535 (s.rn A.WAY_CNTCRC + 1) ∧ e.way = { s.way with errSec := s.rtcSec, errCnt := if s.way.errSec = s.rtcSec then s.way.errCnt + 1 else 1 }) ∧
  (∀ (s : State) (a : Word) (n : Nat), s.isWorker = true → s.running = true → s.admitted = true → s.turnHeard = true →
    (s.b F.WAY_STAT_VER = true → ∃ e : State, exec (.relayRequestReceived a n) s = .next e.settle ∧ e.way.sent.length = 3 + 2 * n ∧ ((e.way.sent.drop 2).take (2 * n)) = ((s.readWords .relay a.toNat n).1.map (fun w => leBytes 2 w.toNat)).flatten) ∧
    (s.b F.WAY_STAT_VER = false → exec (.relayRequestReceived a n) s = .next ({ s with sup := { s.sup with fastOn := true } } : State).settle))

/-! ### The measurement converter -/

/-- R522, R535, R536: a round starts with its key, with the entries that its dividers and the state select; a start during a round is marked. R523, R532, R537: an injected request of the host queues behind at most three others, is held behind a
calibration step, and is dropped with a mark where four wait; a word without the key asks for nothing; the flush key empties the queue.
R530 to R532: a calibration key makes a step pending; where one is pending or running, or background calibration is on, it is marked as ignored. The step starts with A and B free and no earlier request left; its end gives the zero of A and B, or, at full
scale with a zero taken, their coefficients, and releases the requests that it held. R533: a background calibration takes the slice whose turn it is, where that converts nothing, and ends with its offset.
Says complete: adcRoundStart, adcInj, injFlush, calZero, calFull, calStepStart, calStepEnd, bgCalStart, bgCalDone. -/
def Obligations.AdcRequestsAndCalibration : Prop :=
  (∀ s : State, s.running = true → s.sup.vioh = true → s.adc.round.isSome = true → exec (.adcRoundStart 0xAD01#16) s = .next (s.clocked.p F.ADC_STAT_RNDOVR 1).settle) ∧
  (∀ (s : State) (es : List Nat), s.running = true → s.sup.vioh = true → s.adc.round = none → s.g F.ADC_CFG_SEQLEN ≤ 32 →
    es = (List.range (s.g F.ADC_CFG_SEQLEN)).filter (fun k => (s.power ≠ .watch || s.b (F.ADC_SEQ_WATCH k)) && s.adc.rounds % 4 ^ s.g (F.ADC_SEQ_DIV k) = 0) → es ≠ [] →
    exec (.adcRoundStart 0xAD01#16) s = .next ({ s.clocked with adc := { s.adc with round := some es, conv := [] } } : State).settle) ∧
  (∀ (s : State) (w : Word), s.running = true → s.sup.vioh = true → F.ADC_INJ_KEY.get w = 9 →
    (s.injPend < 4 → s.calBusy = false → exec (.adcInj w) s = .next ({ s.clocked with adc := { s.adc with inj := s.adc.inj ++ [(F.ADC_INJ_CH.get w, F.ADC_INJ_NAVG.get w, true)] } } : State).settle) ∧
    (s.injPend < 4 → s.calBusy = true → exec (.adcInj w) s = .next ({ s.clocked with adc := { s.adc with held := s.adc.held ++ [(F.ADC_INJ_CH.get w, F.ADC_INJ_NAVG.get w, true)] } } : State).settle) ∧
    (4 ≤ s.injPend → exec (.adcInj w) s = .next (s.clocked.p F.ADC_STAT_INJOVF 1).settle)) ∧
  (∀ (s : State) (w : Word), F.ADC_INJ_KEY.get w ≠ 9 → exec (.adcInj w) s = .next s.framed.settle) ∧
  (∀ s : State, s.hostAlive = true → exec (.injFlush 0xAD04#16) s = .next ({ s.clocked with adc := { s.adc with inj := [], held := [] } } : State).settle) ∧
  (∀ s : State, s.running = true → s.sup.vioh = true →
    (s.calBusy = false → s.b F.ADC_CFG_BGCAL = false → exec (.calZero 0xAD02#16) s = .next ({ s.clocked.p F.ADC_CALSTAT_PEND 1 with adc := { s.adc with calFull := false } } : State).settle ∧
      exec (.calFull 0xAD03#16) s = .next ({ s.clocked.p F.ADC_CALSTAT_PEND 1 with adc := { s.adc with calFull := true } } : State).settle) ∧
    (s.calBusy = true ∨ s.b F.ADC_CFG_BGCAL = true → exec (.calZero 0xAD02#16) s = .next (s.clocked.p F.ADC_CALSTAT_IGN 1).settle ∧ exec (.calFull 0xAD03#16) s = .next (s.clocked.p F.ADC_CALSTAT_IGN 1).settle)) ∧
  (∀ s : State, s.running = true → s.b F.ADC_CALSTAT_PEND = true → s.sliceFree 0 = true → s.sliceFree 1 = true → s.adc.inj = [] → (s.adc.avgs.any (fun v => decide (v.src ≠ .round))) = false →
    ∃ e : State, exec .calStepStart s = .next e.settle ∧ e = { s with regs := e.regs, adc := { s.adc with slices := (s.adc.slices.set 0 (some .cal)).set 1 (some .cal) } } ∧ (∀ a, a ≠ A.ADC_CALSTAT → e.rd a = s.rd a) ∧
      e.b F.ADC_CALSTAT_RUN = true ∧ e.b F.ADC_CALSTAT_PEND = false) ∧
  (∀ s : State, s.sliceFree 0 = false ∨ s.sliceFree 1 = false ∨ s.adc.inj ≠ [] → exec .calStepStart s = .next s.settle) ∧
  (∀ (s : State) (a b : Nat), s.b F.ADC_CALSTAT_RUN = true → s.adc.calFull = false →
    ∃ e : State, exec (.calStepEnd a b) s = .next e.settle ∧
      e = { s with regs := e.regs, adc := { s.adc with zero := some ((a : Rat) / 4, (b : Rat) / 4), slices := (s.adc.slices.set 0 none).set 1 none, inj := s.adc.inj ++ s.adc.held, held := [] } } ∧ (∀ a, a ≠ A.ADC_CALSTAT → e.rd a = s.rd a) ∧
      e.b F.ADC_CALSTAT_RUN = false ∧ e.b F.ADC_CALSTAT_CALDONE = true ∧ e.b F.ADC_CALSTAT_ZDONE = true ∧ e.g F.ADC_CALSTAT_LAST = 1) ∧
  (∀ (s : State) (a b : Nat) (za zb : Rat), s.b F.ADC_CALSTAT_RUN = true → s.adc.calFull = true → s.adc.zero = some (za, zb) → (a : Rat) / 4 ≠ za → (b : Rat) / 4 ≠ zb →
    ∃ e : State, exec (.calStepEnd a b) s = .next e.settle ∧ e = { s with regs := e.regs, adc := { s.adc with slices := (s.adc.slices.set 0 none).set 1 none, inj := s.adc.inj ++ s.adc.held, held := [] } } ∧
      (∀ x, x ≠ A.ADC_CALSTAT → (∀ k, k < 4 → x ≠ A.ADC_COEF k) → e.rd x = s.rd x) ∧ e.b F.ADC_CALSTAT_RUN = false ∧ e.b F.ADC_CALSTAT_CALDONE = true ∧ e.g F.ADC_CALSTAT_LAST = 2 ∧
      e.ri (A.ADC_COEF 0) = clamp (-32768) 32767 (nearR za) ∧ e.ri (A.ADC_COEF 2) = clamp (-32768) 32767 (nearR zb) ∧
      (e.rn (A.ADC_COEF 1) : Int) = clamp 0 65535 (nearR ((32768 * s.rn A.ADC_CALREF : Nat) / ((a : Rat) / 4 - za))) ∧ (e.rn (A.ADC_COEF 3) : Int) = clamp 0 65535 (nearR ((32768 * s.rn A.ADC_CALREF : Nat) / ((b : Rat) / 4 - zb)))) ∧
  (∀ s : State, s.running = true → s.b F.ADC_CFG_BGCAL = true → s.g F.ADC_STAT_BGSLICE = 0 → s.adc.bgNext < 3 → s.sliceFree s.adc.bgNext = true →
    ∃ e : State, exec .bgCalStart s = .next e.settle ∧ e = { s with regs := e.regs, adc := { s.adc with slices := s.adc.slices.set s.adc.bgNext (some .bg), bgNext := (s.adc.bgNext + 1) % 3 } } ∧ (∀ a, a ≠ A.ADC_STAT → e.rd a = s.rd a) ∧
      e.g F.ADC_STAT_BGSLICE = s.adc.bgNext + 1) ∧
  (∀ s : State, s.sliceFree s.adc.bgNext = false → exec .bgCalStart s = .next s.settle) ∧
  (∀ (s : State) (k sum : Nat), s.g F.ADC_STAT_BGSLICE = k + 1 →
    ∃ e : State, exec (.bgCalDone sum) s = .next e.settle ∧ e = { s with regs := e.regs, adc := { s.adc with slices := s.adc.slices.set k none }, freeCtr := s.freeCtr + 1 } ∧ (∀ a, a ≠ A.ADC_STAT → a ≠ A.ADC_COEF (2 * k) → a ≠ A.ADC_COEF (2 * k + 1) → e.rd a = s.rd a) ∧
      e.g F.ADC_STAT_BGSLICE = 0 ∧ e.ri (A.ADC_COEF (2 * k)) = clamp (-32768) 32767 (nearR ((sum : Rat) / 4)))

/-- R521, R522, R525: with all slices free, no calibration step running and no burst due, A takes the oldest injected request first, then the conversion of a stream that is due, then the round's next entry, with the coefficients and the band of its start.
With no place free, or with a calibration step running, nothing starts.
R525, R526: a conversion that completes an average of one conversion stores the corrected value, limited to its word, with the sequence number advanced, the slice that converted and the request's status; of an average of several, the next starts on the same slice, and the last stores the mean, with slice 3 where they differ; one of a stream joins the
stream's interval; one of a burst whose capture has ended, and a slice that converts nothing, give nothing. R529: each window on the channel counts and judges the result, and the result's WOUT tells whether one is out.
R533: while A or B is under background calibration, S serves in its place.
R527: a read of RES_LO returns it and keeps RES_HI for the next read of it, which returns what was kept.
Says complete: adcConversionStart, adcConversionDone, adcResLoRead, adcResHiRead. -/
def Obligations.AdcConversions : Prop :=
  (∀ (s : State) (recent : Bool) (st : Option Nat), s.running = true → s.adc.slices = [none, none, none] → s.g F.ADC_STAT_BGSLICE = 0 → s.b F.ADC_CALSTAT_RUN = false → s.stk.burstLeft = 0 →
    (∀ (ch n : Nat) (host : Bool) (r : List (Nat × Nat × Bool)), s.adc.inj = (ch, n, host) :: r → ∃ e : State, exec (.adcConversionStart recent st) s = .next e.settle ∧
      e = { s with adc := { s.adc with inj := r, slices := [some (.conv s.adc.key (s.coefOfs 0) (s.coefGain 0) s.cbNow), none, none], key := s.adc.key + 1, avgs := e.adc.avgs } } ∧ e.adc.avgs.length = s.adc.avgs.length + 1) ∧
    (∀ i, s.adc.inj = [] → st = some i → s.streamMay i = true → exec (.adcConversionStart recent st) s = .next ({ s with adc := { s.adc with slices := [some (.stream i (s.coefOfs 0) (s.coefGain 0) s.cbNow), none, none] } } : State).settle) ∧
    (∀ (x : Nat) (r : List Nat), s.adc.inj = [] → st = none → s.calBusy = false → s.adc.avgs = [] → s.adc.round = some (x :: r) → ∃ e : State, exec (.adcConversionStart recent st) s = .next e.settle ∧
      e = { s with adc := { s.adc with round := some r, slices := [some (.conv s.adc.key (s.coefOfs 0) (s.coefGain 0) s.cbNow), none, none], key := s.adc.key + 1, avgs := [⟨s.adc.key, .round, s.g (F.ADC_SEQ_CH x), s.g (F.ADC_SEQ_NAVG x), 2 ^ s.g (F.ADC_SEQ_NAVG x) - 1, [], recent⟩] } })) ∧
  (∀ (s : State) (recent : Bool) (st : Option Nat), s.freePlace = none ∨ s.b F.ADC_CALSTAT_RUN = true → exec (.adcConversionStart recent st) s = .next s.settle) ∧
  (∀ (s : State) (k code late key ch : Nat) (o g cb : Int), s.running = true → s.adc.slices.length = 3 → s.adc.slices.getD k none = some (.conv key o g cb) → s.adc.avgs = [⟨key, .host, ch, 0, 0, [], false⟩] → chReserved ch = false → ch < 64 → ch ≠ 46 →
    ∃ e : State, exec (.adcConversionDone k code late) s = .next e.settle ∧ e = { s with regs := e.regs, adc := { s.adc with slices := s.adc.slices.set k none, avgs := [], winCnt := e.adc.winCnt } } ∧ e.ri (A.ADC_RES (2 * ch)) = (BitVec.ofInt 16 (resWord ch (corrected code o g cb))).toInt ∧
      e.rn (A.ADC_RES (2 * ch + 1)) = 4096 * ((s.rn (A.ADC_RES (2 * ch + 1)) / 4096 + 1) % 16) + 2048 + 512 * k + 256 + 128 * ((s.winsOn ch).any e.winOut).toNat ∧ e.rn A.ADC_INJSTAT = 32768 + 1024 + ch ∧
      (∀ a, a ≠ A.ADC_RES (2 * ch) → a ≠ A.ADC_RES (2 * ch + 1) → a ≠ A.ADC_INJSTAT → a ≠ A.ADC_WINSTAT → e.rd a = s.rd a) ∧
      (∀ w, w < 8 → w ∉ s.winsOn ch → e.winOut w = s.winOut w ∧ e.bit A.ADC_WINSTAT (8 + w) = s.bit A.ADC_WINSTAT (8 + w) ∧ e.adc.winCnt.getD w 0 = s.adc.winCnt.getD w 0) ∧
      (s.adc.winCnt.length = 8 → ∀ (w : Nat) (out : Bool), w ∈ s.winsOn ch →
        out = (if chBipolar ch then decide (e.ri (A.ADC_RES (2 * ch)) < s.ri (A.ADC_WINLO w)) || decide (s.ri (A.ADC_WINHI w) < e.ri (A.ADC_RES (2 * ch))) else decide (e.rn (A.ADC_RES (2 * ch)) < s.rn (A.ADC_WINLO w)) || decide (s.rn (A.ADC_WINHI w) < e.rn (A.ADC_RES (2 * ch)))) →
        (out = s.winOut w → e.winOut w = s.winOut w ∧ e.adc.winCnt.getD w 0 = 0) ∧
        (out ≠ s.winOut w → s.adc.winCnt.getD w 0 < s.g (F.ADC_WINCFG_CNT w) → e.winOut w = s.winOut w ∧ e.adc.winCnt.getD w 0 = s.adc.winCnt.getD w 0 + 1) ∧
        (out ≠ s.winOut w → s.g (F.ADC_WINCFG_CNT w) ≤ s.adc.winCnt.getD w 0 → e.winOut w = out ∧ e.adc.winCnt.getD w 0 = 0) ∧
        e.bit A.ADC_WINSTAT (8 + w) = (s.bit A.ADC_WINSTAT (8 + w) || (out && !s.winOut w && decide (s.g (F.ADC_WINCFG_CNT w) ≤ s.adc.winCnt.getD w 0))))) ∧
  (∀ (s : State) (k code late key ch navg left : Nat) (o g cb : Int) (vals : List (Nat × Rat)) (fr : Bool), s.running = true → s.adc.slices.length = 3 → s.adc.slices.getD k none = some (.conv key o g cb) → s.adc.avgs = [⟨key, .host, ch, navg, left + 1, vals, fr⟩] → vals.length + 1 < 2 ^ navg →
    exec (.adcConversionDone k code late) s = .next ({ s with adc := { s.adc with slices := s.adc.slices.set k (some (.conv key (s.coefOfs k) (s.coefGain k) s.cbNow)), avgs := [⟨key, .host, ch, navg, left, vals ++ [(k, corrected code o g cb)], fr⟩] } } : State).settle) ∧
  (∀ (s : State) (k code late key ch navg : Nat) (o g cb : Int) (vals : List (Nat × Rat)), s.running = true → s.adc.slices.length = 3 → s.adc.slices.getD k none = some (.conv key o g cb) → s.adc.avgs = [⟨key, .host, ch, navg, 0, vals, false⟩] → vals.length + 1 = 2 ^ navg →
    chReserved ch = false → ch < 64 → ch ≠ 46 → navg < 8 → s.winsOn ch = [] →
    ∃ e : State, exec (.adcConversionDone k code late) s = .next e.settle ∧ e = { s with regs := e.regs, adc := { s.adc with slices := s.adc.slices.set k none, avgs := [] } } ∧
      e.ri (A.ADC_RES (2 * ch)) = (BitVec.ofInt 16 (resWord ch (((vals.map (·.2)).foldl (· + ·) 0 + corrected code o g cb) / ((2 ^ navg : Nat) : Rat)))).toInt ∧
      e.rn (A.ADC_RES (2 * ch + 1)) = 4096 * ((s.rn (A.ADC_RES (2 * ch + 1)) / 4096 + 1) % 16) + 2048 + 512 * (if vals.all (fun v => v.1 = k) then k else 3) + 256 + navg ∧ e.rn A.ADC_INJSTAT = 32768 + 4096 * navg + 1024 + ch ∧
      (∀ a, a ≠ A.ADC_RES (2 * ch) → a ≠ A.ADC_RES (2 * ch + 1) → a ≠ A.ADC_INJSTAT → e.rd a = s.rd a)) ∧
  (∀ (s : State) (recent : Bool) (st : Option Nat) (ch n : Nat) (host : Bool) (r : List (Nat × Nat × Bool)), s.running = true → s.b F.ADC_CALSTAT_RUN = false → s.stk.burstLeft = 0 → s.adc.inj = (ch, n, host) :: r →
    (s.adc.slices = [some .bg, none, none] → s.g F.ADC_STAT_BGSLICE = 1 → ∃ e : State, exec (.adcConversionStart recent st) s = .next e.settle ∧
      e = { s with adc := { s.adc with inj := r, slices := [some .bg, none, some (.conv s.adc.key (s.coefOfs 2) (s.coefGain 2) s.cbNow)], key := s.adc.key + 1, avgs := e.adc.avgs } } ∧ e.adc.avgs.length = s.adc.avgs.length + 1) ∧
    (∀ j : SliceJob, s.adc.slices = [some j, some .bg, none] → s.g F.ADC_STAT_BGSLICE = 2 → ∃ e : State, exec (.adcConversionStart recent st) s = .next e.settle ∧
      e = { s with adc := { s.adc with inj := r, slices := [some j, some .bg, some (.conv s.adc.key (s.coefOfs 2) (s.coefGain 2) s.cbNow)], key := s.adc.key + 1, avgs := e.adc.avgs } } ∧ e.adc.avgs.length = s.adc.avgs.length + 1)) ∧
  (∀ (s : State) (k code late : Nat), s.running = true → s.adc.slices.getD k none = some .spent → exec (.adcConversionDone k code late) s = .next ({ s with adc := { s.adc with slices := s.adc.slices.set k none } } : State).settle) ∧
  (∀ (s : State) (k code late i : Nat) (o g cb : Int), s.running = true → s.adc.slices.getD k none = some (.stream i o g cb) → chReserved (s.g (F.STK_CAP_SRC i)) = false →
    exec (.adcConversionDone k code late) s = .next (({ s with adc := { s.adc with slices := s.adc.slices.set k none } } : State).streamTake i (resWord (s.g (F.STK_CAP_SRC i)) (corrected code o g cb))).settle) ∧
  (∀ (s : State) (k code late : Nat), s.adc.slices.getD k none = none → exec (.adcConversionDone k code late) s = .next s.settle) ∧
  (∀ (s : State) (c : Nat), c < 64 → s.hostAlive = true →
    (∃ e : State, exec (.adcResLoRead c) s = .next e.settle ∧ e = { s.clocked with hif := e.hif, adc := { s.adc with hostSh := some (c, s.rd (A.ADC_RES (2 * c + 1))) } } ∧ e.hif.reply.words = [s.rd (A.ADC_RES (2 * c))]) ∧
    (∀ w : Word, s.adc.hostSh = some (c, w) → ∃ e : State, exec (.adcResHiRead c) s = .next e.settle ∧ e = { s.clocked with hif := e.hif, adc := { s.adc with hostSh := none } } ∧ e.hif.reply.words = [w]))

/-! ### The throttle and the real-time clock -/

/-- R581: after GRACE with the request standing the throttle is enforced, counted, with source 82 and a packet; without both nothing happens, and nothing while the throttle state is held (R577). R580, R581: after RELT with the request gone it is released with a packet, and while a die sensor is substituted
only the wait ends.
R600, R602: an LF edge with no trim, no alarm and nothing pending adds two units of 1/65,536 s, modulo 2^56; without power to the island nothing counts. R604, R613: a key captures the staging words as a set or a step, or asks for what is pending to be
discarded, and any other word changes nothing; at the next edge a pending set replaces the count, a pending step is added to what the edge makes of it, each with PEND cleared and TSET and STEPD set, and a cancel clears PEND alone.
R603, R611: a read of RTC_SEC0 returns the low seconds and keeps the whole count for the port; the read of RTC_FRAC that follows returns the fraction of what was kept, and one with nothing kept that of the count.
That an LF edge counts only where the RTC's island is fed (log entry 68), and that a RELT which passes under a substitution is remembered (log entry 67), are the model's readings (DEDUCED).
Says complete: throttleEnforce, throttleRelease, rtcTick, rtcSet, rtcStep, rtcCancel, rtcPendingApply, rtcSec0Read, rtcFracRead. -/
def Obligations.ThrottleAndRtc : Prop :=
  (∀ s : State, s.thm.held = false → s.b F.THM_STAT_THRREQ = true → s.b F.THM_STAT_GRACE = true →
    ∃ e : State, exec .throttleEnforce s = .next e.settle ∧ e = { s with regs := e.regs, hif := e.hif, flt := { s.flt with raised := s.flt.raised ++ [⟨82, .detector, s.power.code⟩] }, mrq := { s.mrq with outbox := s.mrq.outbox ++ [.thermal 1] } } ∧
      (∀ a, a ≠ A.THM_STAT → a ≠ A.THM_CNTTHR → e.rd a = s.rd a) ∧ e.b F.THM_STAT_THRENF = true ∧ e.b F.THM_STAT_GRACE = false ∧ e.rn A.THM_CNTTHR = min 65535 (s.rn A.THM_CNTTHR + 1)) ∧
  (∀ s : State, s.thm.held = true ∨ s.b F.THM_STAT_THRREQ = false ∨ s.b F.THM_STAT_GRACE = false → exec .throttleEnforce s = .next s.settle) ∧
  (∀ s : State, s.thm.held = false → s.b F.THM_STAT_RELAX = true → s.b F.THM_STAT_THRREQ = false →
    (s.anySubst = false → ∃ e : State, exec .throttleRelease s = .next e.settle ∧ e = { s with regs := e.regs, hif := e.hif, mrq := { s.mrq with outbox := s.mrq.outbox ++ [.thermal 2] }, thm := e.thm } ∧ (∀ a, a ≠ A.THM_STAT → e.rd a = s.rd a) ∧
      e.b F.THM_STAT_THRENF = false ∧ e.b F.THM_STAT_RELAX = false) ∧
    (s.anySubst = true → exec .throttleRelease s = .next ({ s.p F.THM_STAT_RELAX 0 with thm := { s.thm with relaxed := true } } : State).settle)) ∧
  (∀ s : State, s.thm.held = true ∨ s.b F.THM_STAT_RELAX = false ∨ s.b F.THM_STAT_THRREQ = true → exec .throttleRelease s = .next s.settle) ∧
  (∀ s : State, s.rtcAlive = true → s.rtcx.pend = none → s.rn A.RTC_TRIM % 512 = 0 → s.rtcx.acc < 1000000 → s.almEn 0 = false → s.almEn 1 = false →
    exec .rtcTick s = .next ({ s with ticks := s.ticks + 1, rtc := (s.rtc + 2) % 72057594037927936 } : State).settle) ∧
  (∀ s : State, s.rtcAlive = false → exec .rtcTick s = .next s.settle) ∧
  (∀ s : State, s.hostAlive = true → exec (.rtcSet 0x57E1#16) s = .next ({ s.clocked.p F.RTC_STAT_PEND 1 with rtcx := { s.rtcx with pend := some (.set s.staged) } } : State).settle ∧
    exec (.rtcStep 0x57E2#16) s = .next ({ s.clocked.p F.RTC_STAT_PEND 1 with rtcx := { s.rtcx with pend := some (.step s.staged) } } : State).settle ∧
    exec (.rtcCancel 0x57E0#16) s = .next (if s.rtcx.pend.isSome then { s.clocked with rtcx := { s.rtcx with pend := some .cancel } } else s.clocked : State).settle) ∧
  (∀ (s : State) (w : Word), w ≠ 0x57E0#16 → w ≠ 0x57E1#16 → w ≠ 0x57E2#16 → exec (.rtcSet w) s = .next s.framed.settle ∧ exec (.rtcStep w) s = .next s.framed.settle ∧ exec (.rtcCancel w) s = .next s.framed.settle) ∧
  (∀ (s : State) (step : Bool) (v : Nat), s.rtcAlive = true → s.rtcx.pend = some (if step then .step v else .set v) → s.rn A.RTC_TRIM % 512 = 0 → s.rtcx.acc < 1000000 → s.almEn 0 = false → s.almEn 1 = false →
    ∃ e : State, exec .rtcPendingApply s = .next e.settle ∧ e = { s with regs := e.regs, rtc := (if step then s.rtc + 2 + v else v) % 72057594037927936, rtcx := { s.rtcx with pend := none }, ticks := s.ticks + 1 } ∧
      (∀ a, a ≠ A.RTC_STAT → e.rd a = s.rd a) ∧ e.b F.RTC_STAT_PEND = false ∧ e.b F.RTC_STAT_TSET = true ∧ e.b F.RTC_STAT_STEPD = true) ∧
  (∀ s : State, s.rtcx.pend = none → exec .rtcPendingApply s = .next s.settle) ∧
  (∀ s : State, s.hostAlive = true → ∃ e : State, exec .rtcSec0Read s = .next e.settle ∧ e = { s.clocked with hif := e.hif, rtcx := { s.rtcx with hostSh := some s.rtc } } ∧ e.hif.reply.words = [BitVec.ofNat 16 (s.rtc / 65536 % 65536)]) ∧
  (∀ s : State, s.hostAlive = true → ∃ e : State, exec .rtcFracRead s = .next e.settle ∧ e = { s.clocked with hif := e.hif, rtcx := { s.rtcx with hostSh := none } } ∧
    e.hif.reply.words = [BitVec.ofNat 16 ((match s.rtcx.hostSh with | some c => c | none => s.rtc) % 65536)]) ∧
  (∀ s : State, s.rtcAlive = true → s.rtcx.pend = some .cancel → s.rn A.RTC_TRIM % 512 = 0 → s.rtcx.acc < 1000000 → s.almEn 0 = false → s.almEn 1 = false →
    exec .rtcPendingApply s = .next ({ s.p F.RTC_STAT_PEND 0 with ticks := s.ticks + 1, rtc := (s.rtc + 2) % 72057594037927936, rtcx := { s.rtcx with pend := none } } : State).settle)
end

