-- ==== Sys2Proof/Laws/Ops.lean ====
section
/-! SUPPORT. What the shared operations over the state can do: a change under a condition, a change for each member of a list, a free value, an engine's trigger, and how a command ends. -/
namespace Sys2Proof.Machine

/-! ### Changes under a condition and along a list -/

@[simp] theorem State.when_true (s : State) (f : State → State) : s.when true f = f s := rfl
@[simp] theorem State.when_false (s : State) (f : State → State) : s.when false f = s := rfl

/-- What a change keeps, it keeps under any condition. -/
theorem State.when_keeps {β : Type} (g : State → β) {f : State → State} (h : ∀ s, g (f s) = g s) (s : State) (c : Bool) : g (s.when c f) = g s := by
  cases c <;> simp [h]

@[simp] theorem State.each_nil {α : Type} (s : State) (f : State → α → State) : s.each [] f = s := rfl
@[simp] theorem State.each_cons {α : Type} (s : State) (a : α) (l : List α) (f : State → α → State) : s.each (a :: l) f = (f s a).each l f := rfl

/-- A property that each change keeps holds after all of them. -/
theorem State.each_induct {α : Type} (P : State → Prop) {f : State → α → State} (h : ∀ s a, P s → P (f s a)) (l : List α) (s : State) (hs : P s) : P (s.each l f) := by
  induction l generalizing s with
  | nil => exact hs
  | cons a r ih => exact ih _ (h s a hs)

/-- What each change keeps, all of them keep. -/
theorem State.each_keeps {α β : Type} (g : State → β) {f : State → α → State} (h : ∀ s a, g (f s a) = g s) (l : List α) (s : State) : g (s.each l f) = g s :=
  State.each_induct (fun t => g t = g s) (fun t a e => (h t a).trans e) l s rfl

/-! ### Free values -/

/-- A free value lies below its bound; nothing else is known of it. -/
theorem State.free_lt (s : State) {n : Nat} (h : 0 < n) : (s.free n).1 < n := Nat.mod_lt _ h

/-- Taking a free value changes the model's own counter only. -/
theorem State.free_snd (s : State) (n : Nat) : (s.free n).2 = { s with freeCtr := s.freeCtr + 1 } := rfl

/-- So does an open choice. -/
theorem State.choice_snd (s : State) : s.choice.2 = { s with freeCtr := s.freeCtr + 1 } := rfl

/-! ### Triggers (R147 to R149) -/

/-- A stopped engine takes no trigger. -/
theorem trigEngine_stopped (t : Nat) (due : Bool) {e : Engine} (h : e.mode = .stopped) : trigEngine t due e = e := by
  unfold trigEngine; rw [h]

/-- An idle engine keeps a trigger pending. -/
theorem trigEngine_idle (t : Nat) (due : Bool) {e : Engine} (h : e.mode = .idle) : trigEngine t due e = { e with pend := insertOnce t e.pend } := by
  unfold trigEngine; rw [h]

/-- A halted engine keeps a trigger pending too, trigger 1 among them. -/
theorem trigEngine_halted (t : Nat) (due : Bool) {e : Engine} (h : e.halted = true) (hs : e.mode ≠ .stopped) : trigEngine t due e = { e with pend := insertOnce t e.pend } := by
  unfold trigEngine
  cases hm : e.mode <;> simp_all

/-! ### The end of a command -/

/-- A command that takes place ends in a next state. -/
@[simp] theorem done_eq (s : State) : done s = .next s.settle := rfl

/-- A command whose effect may be undefined ends in a next state where it is defined. -/
@[simp] theorem ran_ok (s : State) : ran (.ok s) = .next s.settle := rfl

/-- It stops with the fault's name where it is not. -/
@[simp] theorem ran_error (f : Fault) : ran (.error f) = .fault f := rfl

/-- It is never refused. -/
theorem ran_not_refused (r : Except Fault State) (x : Refusal) : ran r ≠ .refused x := by cases r <;> simp [ran, done]

/-! ### Operations that stand still -/

/-- The charger's precedence stays as it is where its conditions do. -/
theorem State.precFollow_stands {s : State} (h : s.hasPrec = s.b F.CHG_STAT_PREC) : s.precFollow = s := by simp [State.precFollow, h]

/-- A rounding left open moves the counter of the free choices, and nothing else. -/
theorem State.roundOpen_snd (s : State) (x : Rat) : (s.roundOpen x).2 = { s with freeCtr := (s.roundOpen x).2.freeCtr } := by
  unfold State.roundOpen
  split <;> rfl

/-- What a change of the precedence may touch. -/
theorem State.precFollow_frame (s : State) : ∃ (r : RegFile) (c : Charger) (n : Nat), s.precFollow = { s with regs := r, chg := c, freeCtr := n } := by
  by_cases h : s.hasPrec = s.b F.CHG_STAT_PREC
  · exact ⟨s.regs, s.chg, s.freeCtr, State.precFollow_stands h⟩
  · simp only [State.precFollow, h, if_false]
    rw [State.roundOpen_snd s]
    exact ⟨_, _, _, rfl⟩

/-- A STROKE pulse is ignored outside the states with engines. -/
theorem State.pinHint_ignored {s : State} (w : Nat) (h : s.running = false) : s.pinHint w = s := by simp [State.pinHint, h]

end Sys2Proof.Machine
end

