-- ==== Sys2Proof/Laws/RegFile.lean ====
section
/-! SUPPORT. The laws of the register file: what a read gives after a write, the canonical form that every operation keeps, and what a field reads after a field is written. -/
namespace Sys2Proof.Machine

/-! ### Reading after writing -/

theorem RegFile.get_insert_same (m : RegFile) (a : Nat) (v : Word) : (m.insert a v).get a = v := by
  induction m with
  | nil => simp [RegFile.insert, RegFile.get]
  | cons e r ih =>
    obtain ⟨b, w⟩ := e
    simp only [RegFile.insert]
    split
    · simp [RegFile.get]
    · split
      · simp [RegFile.get]
      · simp [RegFile.get, *]

theorem RegFile.get_insert_ne (m : RegFile) {a b : Nat} (v : Word) (h : a ≠ b) : (m.insert b v).get a = m.get a := by
  induction m with
  | nil => simp [RegFile.insert, RegFile.get, h]
  | cons e r ih =>
    obtain ⟨c, w⟩ := e
    simp only [RegFile.insert]
    split
    · subst c; simp [RegFile.get, h]
    · split
      · simp [RegFile.get, h]
      · simp only [RegFile.get, ih]

theorem RegFile.get_erase_same (m : RegFile) (a : Nat) : (m.erase a).get a = resetWord a := by
  induction m with
  | nil => rfl
  | cons e r ih =>
    obtain ⟨b, w⟩ := e
    by_cases h : b = a
    · simpa [RegFile.erase, h] using ih
    · have h' : a ≠ b := fun e => h e.symm
      simpa [RegFile.erase, h, h', RegFile.get] using ih

theorem RegFile.get_erase_ne (m : RegFile) {a b : Nat} (h : a ≠ b) : (m.erase b).get a = m.get a := by
  induction m with
  | nil => rfl
  | cons e r ih =>
    obtain ⟨c, w⟩ := e
    by_cases hc : c = b
    · subst c; simpa [RegFile.erase, RegFile.get, h] using ih
    · simp only [RegFile.erase, List.filter_cons, bne_iff_ne, ne_eq, hc, not_false_eq_true, ↓reduceIte, RegFile.get]
      simpa [RegFile.erase] using congrArg (fun x => if a = c then w else x) ih

theorem RegFile.get_set_same (m : RegFile) (a : Nat) (v : Word) : (m.set a v).get a = v := by
  unfold RegFile.set; split
  · rw [RegFile.get_erase_same]; exact (‹v = resetWord a›).symm
  · exact RegFile.get_insert_same m a v

theorem RegFile.get_set_ne (m : RegFile) {a b : Nat} (v : Word) (h : a ≠ b) : (m.set b v).get a = m.get a := by
  unfold RegFile.set; split
  · exact RegFile.get_erase_ne m h
  · exact RegFile.get_insert_ne m v h

theorem RegFile.get_keep (m : RegFile) (f : Nat → Bool) (a : Nat) : (m.keep f).get a = if f a then m.get a else resetWord a := by
  induction m with
  | nil => simp [RegFile.keep, RegFile.get]
  | cons e r ih =>
    obtain ⟨b, w⟩ := e
    simp only [RegFile.keep] at ih
    by_cases hb : f b <;> by_cases hab : a = b <;> simp_all [RegFile.keep, RegFile.get]

/-! ### The canonical form -/

theorem RegFile.okFrom_mono {m : RegFile} {a b : Nat} (h : a ≤ b) (hm : RegFile.okFrom b m = true) : RegFile.okFrom a m = true := by
  cases m with
  | nil => rfl
  | cons e r =>
    obtain ⟨c, w⟩ := e
    simp only [RegFile.okFrom, Bool.and_eq_true, decide_eq_true_eq] at hm ⊢
    exact ⟨⟨by omega, hm.1.2⟩, hm.2⟩

theorem RegFile.okFrom_filter {m : RegFile} {lo : Nat} (f : Nat × Word → Bool) (hm : RegFile.okFrom lo m = true) : RegFile.okFrom lo (m.filter f) = true := by
  induction m generalizing lo with
  | nil => rfl
  | cons e r ih =>
    obtain ⟨b, w⟩ := e
    simp only [RegFile.okFrom, Bool.and_eq_true, decide_eq_true_eq] at hm
    rw [List.filter_cons]; split
    · simp only [RegFile.okFrom, Bool.and_eq_true, decide_eq_true_eq]; exact ⟨hm.1, ih hm.2⟩
    · exact RegFile.okFrom_mono (by omega) (ih hm.2)

theorem RegFile.okFrom_insert {m : RegFile} {lo a : Nat} {v : Word} (hv : v ≠ resetWord a) (ha : lo ≤ a) (hm : RegFile.okFrom lo m = true) :
    RegFile.okFrom lo (m.insert a v) = true := by
  induction m generalizing lo with
  | nil => simp [RegFile.insert, RegFile.okFrom, hv, ha]
  | cons e r ih =>
    obtain ⟨b, w⟩ := e
    simp only [RegFile.okFrom, Bool.and_eq_true, decide_eq_true_eq] at hm
    simp only [RegFile.insert]
    split
    · subst a; simp [RegFile.okFrom, hv, ha, hm.2]
    · split
      · simp [RegFile.okFrom, hv, ha, hm.1.2, hm.2]; omega
      · simp only [RegFile.okFrom, Bool.and_eq_true, decide_eq_true_eq]; exact ⟨hm.1, ih (by omega) hm.2⟩

/-- A write keeps the canonical form. -/
theorem RegFile.wf_set {m : RegFile} (a : Nat) (v : Word) (hm : m.wf = true) : (m.set a v).wf = true := by
  unfold RegFile.set; split
  · exact RegFile.okFrom_filter _ hm
  · exact RegFile.okFrom_insert ‹_› (Nat.zero_le a) hm

/-- So does the reset of a class of registers. -/
theorem RegFile.wf_keep {m : RegFile} (f : Nat → Bool) (hm : m.wf = true) : (m.keep f).wf = true := RegFile.okFrom_filter _ hm

/-! ### Fields -/

theorem Fld.put_lt (f : Fld) (w : Word) (v : Nat) (h : f.lsb + f.width ≤ 16) :
    w.toNat % 2 ^ f.lsb + 2 ^ f.lsb * (v % 2 ^ f.width) + 2 ^ (f.lsb + f.width) * (w.toNat / 2 ^ (f.lsb + f.width)) < 2 ^ 16 := by
  obtain ⟨a, l, n⟩ := f
  simp only at h ⊢
  have hx : w.toNat % 2 ^ l < 2 ^ l := Nat.mod_lt _ (by positivity)
  have hv : v % 2 ^ n < 2 ^ n := Nat.mod_lt _ (by positivity)
  have h1 : w.toNat / 2 ^ (l + n) < 2 ^ (16 - (l + n)) := by
    apply Nat.div_lt_of_lt_mul; rw [← pow_add, show l + n + (16 - (l + n)) = 16 by omega]; exact w.isLt
  have h2 : w.toNat % 2 ^ l + 2 ^ l * (v % 2 ^ n) < 2 ^ (l + n) := by
    have := Nat.mul_le_mul_left (2 ^ l) (Nat.succ_le_of_lt hv)
    rw [pow_add]; rw [Nat.mul_succ] at this; omega
  calc _ < 2 ^ (l + n) + 2 ^ (l + n) * (w.toNat / 2 ^ (l + n)) := by omega
    _ = 2 ^ (l + n) * (w.toNat / 2 ^ (l + n) + 1) := by ring
    _ ≤ 2 ^ (l + n) * 2 ^ (16 - (l + n)) := Nat.mul_le_mul_left _ h1
    _ = 2 ^ 16 := by rw [← pow_add]; congr 1; omega

/-- A field reads what was written to it, narrowed to its width. -/
theorem Fld.get_put (f : Fld) (w : Word) (v : Nat) (h : f.lsb + f.width ≤ 16) : f.get (f.put w v) = v % 2 ^ f.width := by
  have hlt := f.put_lt w v h
  obtain ⟨a, l, n⟩ := f
  have hl : 0 < 2 ^ l := by positivity
  have hx : w.toNat % 2 ^ l < 2 ^ l := Nat.mod_lt _ hl
  simp only [Fld.get, Fld.put, BitVec.toNat_ofNat, Nat.mod_eq_of_lt hlt]
  rw [pow_add, Nat.add_assoc, Nat.mul_assoc, ← Nat.mul_add, Nat.add_mul_div_left _ _ hl, Nat.div_eq_of_lt hx, Nat.zero_add, Nat.add_mul_mod_self_left,
    Nat.mod_mod]

/-- A field keeps its value when a field beside it in the same word is written. -/
theorem Fld.get_put_beside (f g : Fld) (w : Word) (v : Nat) (h : f.lsb + f.width ≤ 16) (hd : g.lsb + g.width ≤ f.lsb ∨ f.lsb + f.width ≤ g.lsb) :
    g.get (f.put w v) = g.get w := by
  have hlt := f.put_lt w v h
  obtain ⟨a, l, n⟩ := f
  obtain ⟨b, k, m⟩ := g
  simp only at hd
  have hl : 0 < 2 ^ l := by positivity
  have hx : w.toNat % 2 ^ l < 2 ^ l := Nat.mod_lt _ hl
  simp only [Fld.get, Fld.put, BitVec.toNat_ofNat, Nat.mod_eq_of_lt hlt]
  rcases hd with hd | hd
  · have key : ∀ y z : Nat, y % 2 ^ l = z % 2 ^ l → y / 2 ^ k % 2 ^ m = z / 2 ^ k % 2 ^ m := by
      intro y z e
      have e' : y % 2 ^ (k + m) = z % 2 ^ (k + m) := by
        have hdv : 2 ^ (k + m) ∣ 2 ^ l := pow_dvd_pow 2 hd
        rw [← Nat.mod_mod_of_dvd y hdv, e, Nat.mod_mod_of_dvd z hdv]
      rw [← Nat.mod_mul_right_div_self, ← Nat.mod_mul_right_div_self, ← pow_add, e']
    apply key
    rw [pow_add, Nat.add_assoc, Nat.mul_assoc, ← Nat.mul_add, Nat.add_mul_mod_self_left, Nat.mod_mod]
  · have hv : v % 2 ^ n < 2 ^ n := Nat.mod_lt _ (by positivity)
    have h2 : w.toNat % 2 ^ l + 2 ^ l * (v % 2 ^ n) < 2 ^ (l + n) := by
      have := Nat.mul_le_mul_left (2 ^ l) (Nat.succ_le_of_lt hv)
      rw [pow_add]; rw [Nat.mul_succ] at this; omega
    have key : ∀ y z : Nat, y / 2 ^ (l + n) = z / 2 ^ (l + n) → y / 2 ^ k = z / 2 ^ k := by
      intro y z e
      obtain ⟨j, rfl⟩ : ∃ j, k = l + n + j := ⟨k - (l + n), by omega⟩
      rw [pow_add, ← Nat.div_div_eq_div_mul, ← Nat.div_div_eq_div_mul, e]
    rw [key _ w.toNat]
    rw [Nat.add_mul_div_left _ _ (by positivity), Nat.div_eq_of_lt h2, Nat.zero_add]

end Sys2Proof.Machine
end

