-- ==== Sys2Proof/Laws/State.lean ====
section
/-! SUPPORT. What each update of the state leaves of every other field: one lemma for each field and each update, and what registers and fields read after a write. -/
namespace Sys2Proof.Machine

/-! ### Registers -/

@[simp] theorem State.rd_wr_same (s : State) (a : Nat) (v : Word) : (s.wr a v).rd a = v := RegFile.get_set_same _ _ _

theorem State.rd_wr_ne (s : State) {a b : Nat} (v : Word) (h : a ≠ b) : (s.wr b v).rd a = s.rd a := RegFile.get_set_ne _ _ h

theorem State.rd_wr (s : State) (a b : Nat) (v : Word) : (s.wr b v).rd a = if a = b then v else s.rd a := by
  split
  · subst a; exact State.rd_wr_same s b v
  · exact State.rd_wr_ne s v ‹_›

theorem State.rd_p (s : State) (f : Fld) (v a : Nat) : (s.p f v).rd a = if a = f.addr then f.put (s.rd f.addr) v else s.rd a := State.rd_wr s a f.addr _

theorem State.rd_p_ne (s : State) {f : Fld} (v : Nat) {a : Nat} (h : a ≠ f.addr) : (s.p f v).rd a = s.rd a := State.rd_wr_ne s _ h

/-- A field reads what was written to it. -/
theorem State.g_p_same (s : State) (f : Fld) (v : Nat) (h : f.lsb + f.width ≤ 16) : (s.p f v).g f = v % 2 ^ f.width := by
  unfold State.g State.p; rw [State.rd_wr_same]; exact f.get_put _ _ h

/-- A field of another word keeps its value. -/
theorem State.g_p_ne (s : State) {f g : Fld} (v : Nat) (h : g.addr ≠ f.addr) : (s.p f v).g g = s.g g := by
  unfold State.g; rw [State.rd_p_ne s v h]

/-- A field beside it in the same word keeps its value. -/
theorem State.g_p_beside (s : State) {f g : Fld} (v : Nat) (h : f.lsb + f.width ≤ 16) (hd : g.lsb + g.width ≤ f.lsb ∨ f.lsb + f.width ≤ g.lsb) :
    (s.p f v).g g = s.g g := by
  by_cases ha : g.addr = f.addr
  · unfold State.g State.p; rw [ha, State.rd_wr_same]; exact f.get_put_beside g _ _ h hd
  · exact State.g_p_ne s v ha

/-- A count goes up by one, and stays at 65,535. -/
theorem State.rn_inc (s : State) (a : Nat) : (s.inc a).rn a = min 65535 (s.rn a + 1) := by
  have hb : s.rn a < 65536 := (s.rd a).isLt
  unfold State.inc; split
  · unfold State.rn State.wn; rw [State.rd_wr_same, BitVec.toNat_ofNat]; unfold State.rn at *; omega
  · omega

/-- No other word changes with a count. -/
theorem State.rd_inc_ne (s : State) {a b : Nat} (h : a ≠ b) : (s.inc b).rd a = s.rd a := by
  unfold State.inc; split
  · exact State.rd_wr_ne s _ h
  · rfl

/-! ### What a register update leaves -/

@[simp] theorem State.wr_pending (s : State) (a : Nat) (v : Word) : (s.wr a v).pending = s.pending := rfl
@[simp] theorem State.wr_pins (s : State) (a : Nat) (v : Word) : (s.wr a v).pins = s.pins := rfl
@[simp] theorem State.wr_power (s : State) (a : Nat) (v : Word) : (s.wr a v).power = s.power := rfl
@[simp] theorem State.wr_sup (s : State) (a : Nat) (v : Word) : (s.wr a v).sup = s.sup := rfl
@[simp] theorem State.wr_ctl (s : State) (a : Nat) (v : Word) : (s.wr a v).ctl = s.ctl := rfl
@[simp] theorem State.wr_hif (s : State) (a : Nat) (v : Word) : (s.wr a v).hif = s.hif := rfl
@[simp] theorem State.wr_eng (s : State) (a : Nat) (v : Word) : (s.wr a v).eng = s.eng := rfl
@[simp] theorem State.wr_tim (s : State) (a : Nat) (v : Word) : (s.wr a v).tim = s.tim := rfl
@[simp] theorem State.wr_dom (s : State) (a : Nat) (v : Word) : (s.wr a v).dom = s.dom := rfl
@[simp] theorem State.wr_mon (s : State) (a : Nat) (v : Word) : (s.wr a v).mon = s.mon := rfl
@[simp] theorem State.wr_flt (s : State) (a : Nat) (v : Word) : (s.wr a v).flt = s.flt := rfl
@[simp] theorem State.wr_mrq (s : State) (a : Nat) (v : Word) : (s.wr a v).mrq = s.mrq := rfl
@[simp] theorem State.wr_nvm (s : State) (a : Nat) (v : Word) : (s.wr a v).nvm = s.nvm := rfl
@[simp] theorem State.wr_line (s : State) (a : Nat) (v : Word) : (s.wr a v).line = s.line := rfl
@[simp] theorem State.wr_lock (s : State) (a : Nat) (v : Word) : (s.wr a v).lock = s.lock := rfl
@[simp] theorem State.wr_drv (s : State) (a : Nat) (v : Word) : (s.wr a v).drv = s.drv := rfl
@[simp] theorem State.wr_stk (s : State) (a : Nat) (v : Word) : (s.wr a v).stk = s.stk := rfl
@[simp] theorem State.wr_chg (s : State) (a : Nat) (v : Word) : (s.wr a v).chg = s.chg := rfl
@[simp] theorem State.wr_gau (s : State) (a : Nat) (v : Word) : (s.wr a v).gau = s.gau := rfl
@[simp] theorem State.wr_rtc (s : State) (a : Nat) (v : Word) : (s.wr a v).rtc = s.rtc := rfl
@[simp] theorem State.wr_rtcx (s : State) (a : Nat) (v : Word) : (s.wr a v).rtcx = s.rtcx := rfl
@[simp] theorem State.wr_adc (s : State) (a : Nat) (v : Word) : (s.wr a v).adc = s.adc := rfl
@[simp] theorem State.wr_thm (s : State) (a : Nat) (v : Word) : (s.wr a v).thm = s.thm := rfl
@[simp] theorem State.wr_way (s : State) (a : Nat) (v : Word) : (s.wr a v).way = s.way := rfl
@[simp] theorem State.wr_ticks (s : State) (a : Nat) (v : Word) : (s.wr a v).ticks = s.ticks := rfl
@[simp] theorem State.wr_freeCtr (s : State) (a : Nat) (v : Word) : (s.wr a v).freeCtr = s.freeCtr := rfl
@[simp] theorem State.p_pending (s : State) (f : Fld) (v : Nat) : (s.p f v).pending = s.pending := rfl
@[simp] theorem State.p_pins (s : State) (f : Fld) (v : Nat) : (s.p f v).pins = s.pins := rfl
@[simp] theorem State.p_power (s : State) (f : Fld) (v : Nat) : (s.p f v).power = s.power := rfl
@[simp] theorem State.p_sup (s : State) (f : Fld) (v : Nat) : (s.p f v).sup = s.sup := rfl
@[simp] theorem State.p_ctl (s : State) (f : Fld) (v : Nat) : (s.p f v).ctl = s.ctl := rfl
@[simp] theorem State.p_hif (s : State) (f : Fld) (v : Nat) : (s.p f v).hif = s.hif := rfl
@[simp] theorem State.p_eng (s : State) (f : Fld) (v : Nat) : (s.p f v).eng = s.eng := rfl
@[simp] theorem State.p_tim (s : State) (f : Fld) (v : Nat) : (s.p f v).tim = s.tim := rfl
@[simp] theorem State.p_dom (s : State) (f : Fld) (v : Nat) : (s.p f v).dom = s.dom := rfl
@[simp] theorem State.p_mon (s : State) (f : Fld) (v : Nat) : (s.p f v).mon = s.mon := rfl
@[simp] theorem State.p_flt (s : State) (f : Fld) (v : Nat) : (s.p f v).flt = s.flt := rfl
@[simp] theorem State.p_mrq (s : State) (f : Fld) (v : Nat) : (s.p f v).mrq = s.mrq := rfl
@[simp] theorem State.p_nvm (s : State) (f : Fld) (v : Nat) : (s.p f v).nvm = s.nvm := rfl
@[simp] theorem State.p_line (s : State) (f : Fld) (v : Nat) : (s.p f v).line = s.line := rfl
@[simp] theorem State.p_lock (s : State) (f : Fld) (v : Nat) : (s.p f v).lock = s.lock := rfl
@[simp] theorem State.p_drv (s : State) (f : Fld) (v : Nat) : (s.p f v).drv = s.drv := rfl
@[simp] theorem State.p_stk (s : State) (f : Fld) (v : Nat) : (s.p f v).stk = s.stk := rfl
@[simp] theorem State.p_chg (s : State) (f : Fld) (v : Nat) : (s.p f v).chg = s.chg := rfl
@[simp] theorem State.p_gau (s : State) (f : Fld) (v : Nat) : (s.p f v).gau = s.gau := rfl
@[simp] theorem State.p_rtc (s : State) (f : Fld) (v : Nat) : (s.p f v).rtc = s.rtc := rfl
@[simp] theorem State.p_rtcx (s : State) (f : Fld) (v : Nat) : (s.p f v).rtcx = s.rtcx := rfl
@[simp] theorem State.p_adc (s : State) (f : Fld) (v : Nat) : (s.p f v).adc = s.adc := rfl
@[simp] theorem State.p_thm (s : State) (f : Fld) (v : Nat) : (s.p f v).thm = s.thm := rfl
@[simp] theorem State.p_way (s : State) (f : Fld) (v : Nat) : (s.p f v).way = s.way := rfl
@[simp] theorem State.p_ticks (s : State) (f : Fld) (v : Nat) : (s.p f v).ticks = s.ticks := rfl
@[simp] theorem State.p_freeCtr (s : State) (f : Fld) (v : Nat) : (s.p f v).freeCtr = s.freeCtr := rfl
@[simp] theorem State.pb_pending (s : State) (f : Fld) (v : Bool) : (s.pb f v).pending = s.pending := rfl
@[simp] theorem State.pb_pins (s : State) (f : Fld) (v : Bool) : (s.pb f v).pins = s.pins := rfl
@[simp] theorem State.pb_power (s : State) (f : Fld) (v : Bool) : (s.pb f v).power = s.power := rfl
@[simp] theorem State.pb_sup (s : State) (f : Fld) (v : Bool) : (s.pb f v).sup = s.sup := rfl
@[simp] theorem State.pb_ctl (s : State) (f : Fld) (v : Bool) : (s.pb f v).ctl = s.ctl := rfl
@[simp] theorem State.pb_hif (s : State) (f : Fld) (v : Bool) : (s.pb f v).hif = s.hif := rfl
@[simp] theorem State.pb_eng (s : State) (f : Fld) (v : Bool) : (s.pb f v).eng = s.eng := rfl
@[simp] theorem State.pb_tim (s : State) (f : Fld) (v : Bool) : (s.pb f v).tim = s.tim := rfl
@[simp] theorem State.pb_dom (s : State) (f : Fld) (v : Bool) : (s.pb f v).dom = s.dom := rfl
@[simp] theorem State.pb_mon (s : State) (f : Fld) (v : Bool) : (s.pb f v).mon = s.mon := rfl
@[simp] theorem State.pb_flt (s : State) (f : Fld) (v : Bool) : (s.pb f v).flt = s.flt := rfl
@[simp] theorem State.pb_mrq (s : State) (f : Fld) (v : Bool) : (s.pb f v).mrq = s.mrq := rfl
@[simp] theorem State.pb_nvm (s : State) (f : Fld) (v : Bool) : (s.pb f v).nvm = s.nvm := rfl
@[simp] theorem State.pb_line (s : State) (f : Fld) (v : Bool) : (s.pb f v).line = s.line := rfl
@[simp] theorem State.pb_lock (s : State) (f : Fld) (v : Bool) : (s.pb f v).lock = s.lock := rfl
@[simp] theorem State.pb_drv (s : State) (f : Fld) (v : Bool) : (s.pb f v).drv = s.drv := rfl
@[simp] theorem State.pb_stk (s : State) (f : Fld) (v : Bool) : (s.pb f v).stk = s.stk := rfl
@[simp] theorem State.pb_chg (s : State) (f : Fld) (v : Bool) : (s.pb f v).chg = s.chg := rfl
@[simp] theorem State.pb_gau (s : State) (f : Fld) (v : Bool) : (s.pb f v).gau = s.gau := rfl
@[simp] theorem State.pb_rtc (s : State) (f : Fld) (v : Bool) : (s.pb f v).rtc = s.rtc := rfl
@[simp] theorem State.pb_rtcx (s : State) (f : Fld) (v : Bool) : (s.pb f v).rtcx = s.rtcx := rfl
@[simp] theorem State.pb_adc (s : State) (f : Fld) (v : Bool) : (s.pb f v).adc = s.adc := rfl
@[simp] theorem State.pb_thm (s : State) (f : Fld) (v : Bool) : (s.pb f v).thm = s.thm := rfl
@[simp] theorem State.pb_way (s : State) (f : Fld) (v : Bool) : (s.pb f v).way = s.way := rfl
@[simp] theorem State.pb_ticks (s : State) (f : Fld) (v : Bool) : (s.pb f v).ticks = s.ticks := rfl
@[simp] theorem State.pb_freeCtr (s : State) (f : Fld) (v : Bool) : (s.pb f v).freeCtr = s.freeCtr := rfl
@[simp] theorem State.wn_pending (s : State) (a v : Nat) : (s.wn a v).pending = s.pending := rfl
@[simp] theorem State.wn_pins (s : State) (a v : Nat) : (s.wn a v).pins = s.pins := rfl
@[simp] theorem State.wn_power (s : State) (a v : Nat) : (s.wn a v).power = s.power := rfl
@[simp] theorem State.wn_sup (s : State) (a v : Nat) : (s.wn a v).sup = s.sup := rfl
@[simp] theorem State.wn_ctl (s : State) (a v : Nat) : (s.wn a v).ctl = s.ctl := rfl
@[simp] theorem State.wn_hif (s : State) (a v : Nat) : (s.wn a v).hif = s.hif := rfl
@[simp] theorem State.wn_eng (s : State) (a v : Nat) : (s.wn a v).eng = s.eng := rfl
@[simp] theorem State.wn_tim (s : State) (a v : Nat) : (s.wn a v).tim = s.tim := rfl
@[simp] theorem State.wn_dom (s : State) (a v : Nat) : (s.wn a v).dom = s.dom := rfl
@[simp] theorem State.wn_mon (s : State) (a v : Nat) : (s.wn a v).mon = s.mon := rfl
@[simp] theorem State.wn_flt (s : State) (a v : Nat) : (s.wn a v).flt = s.flt := rfl
@[simp] theorem State.wn_mrq (s : State) (a v : Nat) : (s.wn a v).mrq = s.mrq := rfl
@[simp] theorem State.wn_nvm (s : State) (a v : Nat) : (s.wn a v).nvm = s.nvm := rfl
@[simp] theorem State.wn_line (s : State) (a v : Nat) : (s.wn a v).line = s.line := rfl
@[simp] theorem State.wn_lock (s : State) (a v : Nat) : (s.wn a v).lock = s.lock := rfl
@[simp] theorem State.wn_drv (s : State) (a v : Nat) : (s.wn a v).drv = s.drv := rfl
@[simp] theorem State.wn_stk (s : State) (a v : Nat) : (s.wn a v).stk = s.stk := rfl
@[simp] theorem State.wn_chg (s : State) (a v : Nat) : (s.wn a v).chg = s.chg := rfl
@[simp] theorem State.wn_gau (s : State) (a v : Nat) : (s.wn a v).gau = s.gau := rfl
@[simp] theorem State.wn_rtc (s : State) (a v : Nat) : (s.wn a v).rtc = s.rtc := rfl
@[simp] theorem State.wn_rtcx (s : State) (a v : Nat) : (s.wn a v).rtcx = s.rtcx := rfl
@[simp] theorem State.wn_adc (s : State) (a v : Nat) : (s.wn a v).adc = s.adc := rfl
@[simp] theorem State.wn_thm (s : State) (a v : Nat) : (s.wn a v).thm = s.thm := rfl
@[simp] theorem State.wn_way (s : State) (a v : Nat) : (s.wn a v).way = s.way := rfl
@[simp] theorem State.wn_ticks (s : State) (a v : Nat) : (s.wn a v).ticks = s.ticks := rfl
@[simp] theorem State.wn_freeCtr (s : State) (a v : Nat) : (s.wn a v).freeCtr = s.freeCtr := rfl
@[simp] theorem State.wi_pending (s : State) (a : Nat) (v : Int) : (s.wi a v).pending = s.pending := rfl
@[simp] theorem State.wi_pins (s : State) (a : Nat) (v : Int) : (s.wi a v).pins = s.pins := rfl
@[simp] theorem State.wi_power (s : State) (a : Nat) (v : Int) : (s.wi a v).power = s.power := rfl
@[simp] theorem State.wi_sup (s : State) (a : Nat) (v : Int) : (s.wi a v).sup = s.sup := rfl
@[simp] theorem State.wi_ctl (s : State) (a : Nat) (v : Int) : (s.wi a v).ctl = s.ctl := rfl
@[simp] theorem State.wi_hif (s : State) (a : Nat) (v : Int) : (s.wi a v).hif = s.hif := rfl
@[simp] theorem State.wi_eng (s : State) (a : Nat) (v : Int) : (s.wi a v).eng = s.eng := rfl
@[simp] theorem State.wi_tim (s : State) (a : Nat) (v : Int) : (s.wi a v).tim = s.tim := rfl
@[simp] theorem State.wi_dom (s : State) (a : Nat) (v : Int) : (s.wi a v).dom = s.dom := rfl
@[simp] theorem State.wi_mon (s : State) (a : Nat) (v : Int) : (s.wi a v).mon = s.mon := rfl
@[simp] theorem State.wi_flt (s : State) (a : Nat) (v : Int) : (s.wi a v).flt = s.flt := rfl
@[simp] theorem State.wi_mrq (s : State) (a : Nat) (v : Int) : (s.wi a v).mrq = s.mrq := rfl
@[simp] theorem State.wi_nvm (s : State) (a : Nat) (v : Int) : (s.wi a v).nvm = s.nvm := rfl
@[simp] theorem State.wi_line (s : State) (a : Nat) (v : Int) : (s.wi a v).line = s.line := rfl
@[simp] theorem State.wi_lock (s : State) (a : Nat) (v : Int) : (s.wi a v).lock = s.lock := rfl
@[simp] theorem State.wi_drv (s : State) (a : Nat) (v : Int) : (s.wi a v).drv = s.drv := rfl
@[simp] theorem State.wi_stk (s : State) (a : Nat) (v : Int) : (s.wi a v).stk = s.stk := rfl
@[simp] theorem State.wi_chg (s : State) (a : Nat) (v : Int) : (s.wi a v).chg = s.chg := rfl
@[simp] theorem State.wi_gau (s : State) (a : Nat) (v : Int) : (s.wi a v).gau = s.gau := rfl
@[simp] theorem State.wi_rtc (s : State) (a : Nat) (v : Int) : (s.wi a v).rtc = s.rtc := rfl
@[simp] theorem State.wi_rtcx (s : State) (a : Nat) (v : Int) : (s.wi a v).rtcx = s.rtcx := rfl
@[simp] theorem State.wi_adc (s : State) (a : Nat) (v : Int) : (s.wi a v).adc = s.adc := rfl
@[simp] theorem State.wi_thm (s : State) (a : Nat) (v : Int) : (s.wi a v).thm = s.thm := rfl
@[simp] theorem State.wi_way (s : State) (a : Nat) (v : Int) : (s.wi a v).way = s.way := rfl
@[simp] theorem State.wi_ticks (s : State) (a : Nat) (v : Int) : (s.wi a v).ticks = s.ticks := rfl
@[simp] theorem State.wi_freeCtr (s : State) (a : Nat) (v : Int) : (s.wi a v).freeCtr = s.freeCtr := rfl
@[simp] theorem State.pbit_pending (s : State) (a k : Nat) (v : Bool) : (s.pbit a k v).pending = s.pending := rfl
@[simp] theorem State.pbit_pins (s : State) (a k : Nat) (v : Bool) : (s.pbit a k v).pins = s.pins := rfl
@[simp] theorem State.pbit_power (s : State) (a k : Nat) (v : Bool) : (s.pbit a k v).power = s.power := rfl
@[simp] theorem State.pbit_sup (s : State) (a k : Nat) (v : Bool) : (s.pbit a k v).sup = s.sup := rfl
@[simp] theorem State.pbit_ctl (s : State) (a k : Nat) (v : Bool) : (s.pbit a k v).ctl = s.ctl := rfl
@[simp] theorem State.pbit_hif (s : State) (a k : Nat) (v : Bool) : (s.pbit a k v).hif = s.hif := rfl
@[simp] theorem State.pbit_eng (s : State) (a k : Nat) (v : Bool) : (s.pbit a k v).eng = s.eng := rfl
@[simp] theorem State.pbit_tim (s : State) (a k : Nat) (v : Bool) : (s.pbit a k v).tim = s.tim := rfl
@[simp] theorem State.pbit_dom (s : State) (a k : Nat) (v : Bool) : (s.pbit a k v).dom = s.dom := rfl
@[simp] theorem State.pbit_mon (s : State) (a k : Nat) (v : Bool) : (s.pbit a k v).mon = s.mon := rfl
@[simp] theorem State.pbit_flt (s : State) (a k : Nat) (v : Bool) : (s.pbit a k v).flt = s.flt := rfl
@[simp] theorem State.pbit_mrq (s : State) (a k : Nat) (v : Bool) : (s.pbit a k v).mrq = s.mrq := rfl
@[simp] theorem State.pbit_nvm (s : State) (a k : Nat) (v : Bool) : (s.pbit a k v).nvm = s.nvm := rfl
@[simp] theorem State.pbit_line (s : State) (a k : Nat) (v : Bool) : (s.pbit a k v).line = s.line := rfl
@[simp] theorem State.pbit_lock (s : State) (a k : Nat) (v : Bool) : (s.pbit a k v).lock = s.lock := rfl
@[simp] theorem State.pbit_drv (s : State) (a k : Nat) (v : Bool) : (s.pbit a k v).drv = s.drv := rfl
@[simp] theorem State.pbit_stk (s : State) (a k : Nat) (v : Bool) : (s.pbit a k v).stk = s.stk := rfl
@[simp] theorem State.pbit_chg (s : State) (a k : Nat) (v : Bool) : (s.pbit a k v).chg = s.chg := rfl
@[simp] theorem State.pbit_gau (s : State) (a k : Nat) (v : Bool) : (s.pbit a k v).gau = s.gau := rfl
@[simp] theorem State.pbit_rtc (s : State) (a k : Nat) (v : Bool) : (s.pbit a k v).rtc = s.rtc := rfl
@[simp] theorem State.pbit_rtcx (s : State) (a k : Nat) (v : Bool) : (s.pbit a k v).rtcx = s.rtcx := rfl
@[simp] theorem State.pbit_adc (s : State) (a k : Nat) (v : Bool) : (s.pbit a k v).adc = s.adc := rfl
@[simp] theorem State.pbit_thm (s : State) (a k : Nat) (v : Bool) : (s.pbit a k v).thm = s.thm := rfl
@[simp] theorem State.pbit_way (s : State) (a k : Nat) (v : Bool) : (s.pbit a k v).way = s.way := rfl
@[simp] theorem State.pbit_ticks (s : State) (a k : Nat) (v : Bool) : (s.pbit a k v).ticks = s.ticks := rfl
@[simp] theorem State.pbit_freeCtr (s : State) (a k : Nat) (v : Bool) : (s.pbit a k v).freeCtr = s.freeCtr := rfl

/-! ### What an update of a block's record leaves -/

@[simp] theorem State.setDom_pending (s : State) (n : Nat) (f : Domain → Domain) : (s.setDom n f).pending = s.pending := rfl
@[simp] theorem State.setDom_pins (s : State) (n : Nat) (f : Domain → Domain) : (s.setDom n f).pins = s.pins := rfl
@[simp] theorem State.setDom_regs (s : State) (n : Nat) (f : Domain → Domain) : (s.setDom n f).regs = s.regs := rfl
@[simp] theorem State.setDom_power (s : State) (n : Nat) (f : Domain → Domain) : (s.setDom n f).power = s.power := rfl
@[simp] theorem State.setDom_sup (s : State) (n : Nat) (f : Domain → Domain) : (s.setDom n f).sup = s.sup := rfl
@[simp] theorem State.setDom_ctl (s : State) (n : Nat) (f : Domain → Domain) : (s.setDom n f).ctl = s.ctl := rfl
@[simp] theorem State.setDom_hif (s : State) (n : Nat) (f : Domain → Domain) : (s.setDom n f).hif = s.hif := rfl
@[simp] theorem State.setDom_eng (s : State) (n : Nat) (f : Domain → Domain) : (s.setDom n f).eng = s.eng := rfl
@[simp] theorem State.setDom_tim (s : State) (n : Nat) (f : Domain → Domain) : (s.setDom n f).tim = s.tim := rfl
@[simp] theorem State.setDom_mon (s : State) (n : Nat) (f : Domain → Domain) : (s.setDom n f).mon = s.mon := rfl
@[simp] theorem State.setDom_flt (s : State) (n : Nat) (f : Domain → Domain) : (s.setDom n f).flt = s.flt := rfl
@[simp] theorem State.setDom_mrq (s : State) (n : Nat) (f : Domain → Domain) : (s.setDom n f).mrq = s.mrq := rfl
@[simp] theorem State.setDom_nvm (s : State) (n : Nat) (f : Domain → Domain) : (s.setDom n f).nvm = s.nvm := rfl
@[simp] theorem State.setDom_line (s : State) (n : Nat) (f : Domain → Domain) : (s.setDom n f).line = s.line := rfl
@[simp] theorem State.setDom_lock (s : State) (n : Nat) (f : Domain → Domain) : (s.setDom n f).lock = s.lock := rfl
@[simp] theorem State.setDom_drv (s : State) (n : Nat) (f : Domain → Domain) : (s.setDom n f).drv = s.drv := rfl
@[simp] theorem State.setDom_stk (s : State) (n : Nat) (f : Domain → Domain) : (s.setDom n f).stk = s.stk := rfl
@[simp] theorem State.setDom_chg (s : State) (n : Nat) (f : Domain → Domain) : (s.setDom n f).chg = s.chg := rfl
@[simp] theorem State.setDom_gau (s : State) (n : Nat) (f : Domain → Domain) : (s.setDom n f).gau = s.gau := rfl
@[simp] theorem State.setDom_rtc (s : State) (n : Nat) (f : Domain → Domain) : (s.setDom n f).rtc = s.rtc := rfl
@[simp] theorem State.setDom_rtcx (s : State) (n : Nat) (f : Domain → Domain) : (s.setDom n f).rtcx = s.rtcx := rfl
@[simp] theorem State.setDom_adc (s : State) (n : Nat) (f : Domain → Domain) : (s.setDom n f).adc = s.adc := rfl
@[simp] theorem State.setDom_thm (s : State) (n : Nat) (f : Domain → Domain) : (s.setDom n f).thm = s.thm := rfl
@[simp] theorem State.setDom_way (s : State) (n : Nat) (f : Domain → Domain) : (s.setDom n f).way = s.way := rfl
@[simp] theorem State.setDom_ticks (s : State) (n : Nat) (f : Domain → Domain) : (s.setDom n f).ticks = s.ticks := rfl
@[simp] theorem State.setDom_freeCtr (s : State) (n : Nat) (f : Domain → Domain) : (s.setDom n f).freeCtr = s.freeCtr := rfl
@[simp] theorem State.setDom_rd (s : State) (n : Nat) (f : Domain → Domain) (x : Nat) : (s.setDom n f).rd x = s.rd x := rfl
@[simp] theorem State.setDom_g (s : State) (n : Nat) (f : Domain → Domain) (x : Fld) : (s.setDom n f).g x = s.g x := rfl
@[simp] theorem State.setDom_b (s : State) (n : Nat) (f : Domain → Domain) (x : Fld) : (s.setDom n f).b x = s.b x := rfl
@[simp] theorem State.setEng_pending (s : State) (n : Nat) (f : Engine → Engine) : (s.setEng n f).pending = s.pending := rfl
@[simp] theorem State.setEng_pins (s : State) (n : Nat) (f : Engine → Engine) : (s.setEng n f).pins = s.pins := rfl
@[simp] theorem State.setEng_regs (s : State) (n : Nat) (f : Engine → Engine) : (s.setEng n f).regs = s.regs := rfl
@[simp] theorem State.setEng_power (s : State) (n : Nat) (f : Engine → Engine) : (s.setEng n f).power = s.power := rfl
@[simp] theorem State.setEng_sup (s : State) (n : Nat) (f : Engine → Engine) : (s.setEng n f).sup = s.sup := rfl
@[simp] theorem State.setEng_ctl (s : State) (n : Nat) (f : Engine → Engine) : (s.setEng n f).ctl = s.ctl := rfl
@[simp] theorem State.setEng_hif (s : State) (n : Nat) (f : Engine → Engine) : (s.setEng n f).hif = s.hif := rfl
@[simp] theorem State.setEng_tim (s : State) (n : Nat) (f : Engine → Engine) : (s.setEng n f).tim = s.tim := rfl
@[simp] theorem State.setEng_dom (s : State) (n : Nat) (f : Engine → Engine) : (s.setEng n f).dom = s.dom := rfl
@[simp] theorem State.setEng_mon (s : State) (n : Nat) (f : Engine → Engine) : (s.setEng n f).mon = s.mon := rfl
@[simp] theorem State.setEng_flt (s : State) (n : Nat) (f : Engine → Engine) : (s.setEng n f).flt = s.flt := rfl
@[simp] theorem State.setEng_mrq (s : State) (n : Nat) (f : Engine → Engine) : (s.setEng n f).mrq = s.mrq := rfl
@[simp] theorem State.setEng_nvm (s : State) (n : Nat) (f : Engine → Engine) : (s.setEng n f).nvm = s.nvm := rfl
@[simp] theorem State.setEng_line (s : State) (n : Nat) (f : Engine → Engine) : (s.setEng n f).line = s.line := rfl
@[simp] theorem State.setEng_lock (s : State) (n : Nat) (f : Engine → Engine) : (s.setEng n f).lock = s.lock := rfl
@[simp] theorem State.setEng_drv (s : State) (n : Nat) (f : Engine → Engine) : (s.setEng n f).drv = s.drv := rfl
@[simp] theorem State.setEng_stk (s : State) (n : Nat) (f : Engine → Engine) : (s.setEng n f).stk = s.stk := rfl
@[simp] theorem State.setEng_chg (s : State) (n : Nat) (f : Engine → Engine) : (s.setEng n f).chg = s.chg := rfl
@[simp] theorem State.setEng_gau (s : State) (n : Nat) (f : Engine → Engine) : (s.setEng n f).gau = s.gau := rfl
@[simp] theorem State.setEng_rtc (s : State) (n : Nat) (f : Engine → Engine) : (s.setEng n f).rtc = s.rtc := rfl
@[simp] theorem State.setEng_rtcx (s : State) (n : Nat) (f : Engine → Engine) : (s.setEng n f).rtcx = s.rtcx := rfl
@[simp] theorem State.setEng_adc (s : State) (n : Nat) (f : Engine → Engine) : (s.setEng n f).adc = s.adc := rfl
@[simp] theorem State.setEng_thm (s : State) (n : Nat) (f : Engine → Engine) : (s.setEng n f).thm = s.thm := rfl
@[simp] theorem State.setEng_way (s : State) (n : Nat) (f : Engine → Engine) : (s.setEng n f).way = s.way := rfl
@[simp] theorem State.setEng_ticks (s : State) (n : Nat) (f : Engine → Engine) : (s.setEng n f).ticks = s.ticks := rfl
@[simp] theorem State.setEng_freeCtr (s : State) (n : Nat) (f : Engine → Engine) : (s.setEng n f).freeCtr = s.freeCtr := rfl
@[simp] theorem State.setEng_rd (s : State) (n : Nat) (f : Engine → Engine) (x : Nat) : (s.setEng n f).rd x = s.rd x := rfl
@[simp] theorem State.setEng_g (s : State) (n : Nat) (f : Engine → Engine) (x : Fld) : (s.setEng n f).g x = s.g x := rfl
@[simp] theorem State.setEng_b (s : State) (n : Nat) (f : Engine → Engine) (x : Fld) : (s.setEng n f).b x = s.b x := rfl
@[simp] theorem State.setCtl_pending (s : State) (f : Control → Control) : (s.setCtl f).pending = s.pending := rfl
@[simp] theorem State.setCtl_pins (s : State) (f : Control → Control) : (s.setCtl f).pins = s.pins := rfl
@[simp] theorem State.setCtl_regs (s : State) (f : Control → Control) : (s.setCtl f).regs = s.regs := rfl
@[simp] theorem State.setCtl_power (s : State) (f : Control → Control) : (s.setCtl f).power = s.power := rfl
@[simp] theorem State.setCtl_sup (s : State) (f : Control → Control) : (s.setCtl f).sup = s.sup := rfl
@[simp] theorem State.setCtl_ctl (s : State) (f : Control → Control) : (s.setCtl f).ctl = f s.ctl := rfl
@[simp] theorem State.setCtl_hif (s : State) (f : Control → Control) : (s.setCtl f).hif = s.hif := rfl
@[simp] theorem State.setCtl_eng (s : State) (f : Control → Control) : (s.setCtl f).eng = s.eng := rfl
@[simp] theorem State.setCtl_tim (s : State) (f : Control → Control) : (s.setCtl f).tim = s.tim := rfl
@[simp] theorem State.setCtl_dom (s : State) (f : Control → Control) : (s.setCtl f).dom = s.dom := rfl
@[simp] theorem State.setCtl_mon (s : State) (f : Control → Control) : (s.setCtl f).mon = s.mon := rfl
@[simp] theorem State.setCtl_flt (s : State) (f : Control → Control) : (s.setCtl f).flt = s.flt := rfl
@[simp] theorem State.setCtl_mrq (s : State) (f : Control → Control) : (s.setCtl f).mrq = s.mrq := rfl
@[simp] theorem State.setCtl_nvm (s : State) (f : Control → Control) : (s.setCtl f).nvm = s.nvm := rfl
@[simp] theorem State.setCtl_line (s : State) (f : Control → Control) : (s.setCtl f).line = s.line := rfl
@[simp] theorem State.setCtl_lock (s : State) (f : Control → Control) : (s.setCtl f).lock = s.lock := rfl
@[simp] theorem State.setCtl_drv (s : State) (f : Control → Control) : (s.setCtl f).drv = s.drv := rfl
@[simp] theorem State.setCtl_stk (s : State) (f : Control → Control) : (s.setCtl f).stk = s.stk := rfl
@[simp] theorem State.setCtl_chg (s : State) (f : Control → Control) : (s.setCtl f).chg = s.chg := rfl
@[simp] theorem State.setCtl_gau (s : State) (f : Control → Control) : (s.setCtl f).gau = s.gau := rfl
@[simp] theorem State.setCtl_rtc (s : State) (f : Control → Control) : (s.setCtl f).rtc = s.rtc := rfl
@[simp] theorem State.setCtl_rtcx (s : State) (f : Control → Control) : (s.setCtl f).rtcx = s.rtcx := rfl
@[simp] theorem State.setCtl_adc (s : State) (f : Control → Control) : (s.setCtl f).adc = s.adc := rfl
@[simp] theorem State.setCtl_thm (s : State) (f : Control → Control) : (s.setCtl f).thm = s.thm := rfl
@[simp] theorem State.setCtl_way (s : State) (f : Control → Control) : (s.setCtl f).way = s.way := rfl
@[simp] theorem State.setCtl_ticks (s : State) (f : Control → Control) : (s.setCtl f).ticks = s.ticks := rfl
@[simp] theorem State.setCtl_freeCtr (s : State) (f : Control → Control) : (s.setCtl f).freeCtr = s.freeCtr := rfl
@[simp] theorem State.setCtl_rd (s : State) (f : Control → Control) (x : Nat) : (s.setCtl f).rd x = s.rd x := rfl
@[simp] theorem State.setCtl_g (s : State) (f : Control → Control) (x : Fld) : (s.setCtl f).g x = s.g x := rfl
@[simp] theorem State.setCtl_b (s : State) (f : Control → Control) (x : Fld) : (s.setCtl f).b x = s.b x := rfl
@[simp] theorem State.setSup_pending (s : State) (f : Supply → Supply) : (s.setSup f).pending = s.pending := rfl
@[simp] theorem State.setSup_pins (s : State) (f : Supply → Supply) : (s.setSup f).pins = s.pins := rfl
@[simp] theorem State.setSup_regs (s : State) (f : Supply → Supply) : (s.setSup f).regs = s.regs := rfl
@[simp] theorem State.setSup_power (s : State) (f : Supply → Supply) : (s.setSup f).power = s.power := rfl
@[simp] theorem State.setSup_sup (s : State) (f : Supply → Supply) : (s.setSup f).sup = f s.sup := rfl
@[simp] theorem State.setSup_ctl (s : State) (f : Supply → Supply) : (s.setSup f).ctl = s.ctl := rfl
@[simp] theorem State.setSup_hif (s : State) (f : Supply → Supply) : (s.setSup f).hif = s.hif := rfl
@[simp] theorem State.setSup_eng (s : State) (f : Supply → Supply) : (s.setSup f).eng = s.eng := rfl
@[simp] theorem State.setSup_tim (s : State) (f : Supply → Supply) : (s.setSup f).tim = s.tim := rfl
@[simp] theorem State.setSup_dom (s : State) (f : Supply → Supply) : (s.setSup f).dom = s.dom := rfl
@[simp] theorem State.setSup_mon (s : State) (f : Supply → Supply) : (s.setSup f).mon = s.mon := rfl
@[simp] theorem State.setSup_flt (s : State) (f : Supply → Supply) : (s.setSup f).flt = s.flt := rfl
@[simp] theorem State.setSup_mrq (s : State) (f : Supply → Supply) : (s.setSup f).mrq = s.mrq := rfl
@[simp] theorem State.setSup_nvm (s : State) (f : Supply → Supply) : (s.setSup f).nvm = s.nvm := rfl
@[simp] theorem State.setSup_line (s : State) (f : Supply → Supply) : (s.setSup f).line = s.line := rfl
@[simp] theorem State.setSup_lock (s : State) (f : Supply → Supply) : (s.setSup f).lock = s.lock := rfl
@[simp] theorem State.setSup_drv (s : State) (f : Supply → Supply) : (s.setSup f).drv = s.drv := rfl
@[simp] theorem State.setSup_stk (s : State) (f : Supply → Supply) : (s.setSup f).stk = s.stk := rfl
@[simp] theorem State.setSup_chg (s : State) (f : Supply → Supply) : (s.setSup f).chg = s.chg := rfl
@[simp] theorem State.setSup_gau (s : State) (f : Supply → Supply) : (s.setSup f).gau = s.gau := rfl
@[simp] theorem State.setSup_rtc (s : State) (f : Supply → Supply) : (s.setSup f).rtc = s.rtc := rfl
@[simp] theorem State.setSup_rtcx (s : State) (f : Supply → Supply) : (s.setSup f).rtcx = s.rtcx := rfl
@[simp] theorem State.setSup_adc (s : State) (f : Supply → Supply) : (s.setSup f).adc = s.adc := rfl
@[simp] theorem State.setSup_thm (s : State) (f : Supply → Supply) : (s.setSup f).thm = s.thm := rfl
@[simp] theorem State.setSup_way (s : State) (f : Supply → Supply) : (s.setSup f).way = s.way := rfl
@[simp] theorem State.setSup_ticks (s : State) (f : Supply → Supply) : (s.setSup f).ticks = s.ticks := rfl
@[simp] theorem State.setSup_freeCtr (s : State) (f : Supply → Supply) : (s.setSup f).freeCtr = s.freeCtr := rfl
@[simp] theorem State.setSup_rd (s : State) (f : Supply → Supply) (x : Nat) : (s.setSup f).rd x = s.rd x := rfl
@[simp] theorem State.setSup_g (s : State) (f : Supply → Supply) (x : Fld) : (s.setSup f).g x = s.g x := rfl
@[simp] theorem State.setSup_b (s : State) (f : Supply → Supply) (x : Fld) : (s.setSup f).b x = s.b x := rfl
@[simp] theorem State.setLine_pending (s : State) (f : Line → Line) : (s.setLine f).pending = s.pending := rfl
@[simp] theorem State.setLine_pins (s : State) (f : Line → Line) : (s.setLine f).pins = s.pins := rfl
@[simp] theorem State.setLine_regs (s : State) (f : Line → Line) : (s.setLine f).regs = s.regs := rfl
@[simp] theorem State.setLine_power (s : State) (f : Line → Line) : (s.setLine f).power = s.power := rfl
@[simp] theorem State.setLine_sup (s : State) (f : Line → Line) : (s.setLine f).sup = s.sup := rfl
@[simp] theorem State.setLine_ctl (s : State) (f : Line → Line) : (s.setLine f).ctl = s.ctl := rfl
@[simp] theorem State.setLine_hif (s : State) (f : Line → Line) : (s.setLine f).hif = s.hif := rfl
@[simp] theorem State.setLine_eng (s : State) (f : Line → Line) : (s.setLine f).eng = s.eng := rfl
@[simp] theorem State.setLine_tim (s : State) (f : Line → Line) : (s.setLine f).tim = s.tim := rfl
@[simp] theorem State.setLine_dom (s : State) (f : Line → Line) : (s.setLine f).dom = s.dom := rfl
@[simp] theorem State.setLine_mon (s : State) (f : Line → Line) : (s.setLine f).mon = s.mon := rfl
@[simp] theorem State.setLine_flt (s : State) (f : Line → Line) : (s.setLine f).flt = s.flt := rfl
@[simp] theorem State.setLine_mrq (s : State) (f : Line → Line) : (s.setLine f).mrq = s.mrq := rfl
@[simp] theorem State.setLine_nvm (s : State) (f : Line → Line) : (s.setLine f).nvm = s.nvm := rfl
@[simp] theorem State.setLine_line (s : State) (f : Line → Line) : (s.setLine f).line = f s.line := rfl
@[simp] theorem State.setLine_lock (s : State) (f : Line → Line) : (s.setLine f).lock = s.lock := rfl
@[simp] theorem State.setLine_drv (s : State) (f : Line → Line) : (s.setLine f).drv = s.drv := rfl
@[simp] theorem State.setLine_stk (s : State) (f : Line → Line) : (s.setLine f).stk = s.stk := rfl
@[simp] theorem State.setLine_chg (s : State) (f : Line → Line) : (s.setLine f).chg = s.chg := rfl
@[simp] theorem State.setLine_gau (s : State) (f : Line → Line) : (s.setLine f).gau = s.gau := rfl
@[simp] theorem State.setLine_rtc (s : State) (f : Line → Line) : (s.setLine f).rtc = s.rtc := rfl
@[simp] theorem State.setLine_rtcx (s : State) (f : Line → Line) : (s.setLine f).rtcx = s.rtcx := rfl
@[simp] theorem State.setLine_adc (s : State) (f : Line → Line) : (s.setLine f).adc = s.adc := rfl
@[simp] theorem State.setLine_thm (s : State) (f : Line → Line) : (s.setLine f).thm = s.thm := rfl
@[simp] theorem State.setLine_way (s : State) (f : Line → Line) : (s.setLine f).way = s.way := rfl
@[simp] theorem State.setLine_ticks (s : State) (f : Line → Line) : (s.setLine f).ticks = s.ticks := rfl
@[simp] theorem State.setLine_freeCtr (s : State) (f : Line → Line) : (s.setLine f).freeCtr = s.freeCtr := rfl
@[simp] theorem State.setLine_rd (s : State) (f : Line → Line) (x : Nat) : (s.setLine f).rd x = s.rd x := rfl
@[simp] theorem State.setLine_g (s : State) (f : Line → Line) (x : Fld) : (s.setLine f).g x = s.g x := rfl
@[simp] theorem State.setLine_b (s : State) (f : Line → Line) (x : Fld) : (s.setLine f).b x = s.b x := rfl
@[simp] theorem State.setDrv_pending (s : State) (f : Drive → Drive) : (s.setDrv f).pending = s.pending := rfl
@[simp] theorem State.setDrv_pins (s : State) (f : Drive → Drive) : (s.setDrv f).pins = s.pins := rfl
@[simp] theorem State.setDrv_regs (s : State) (f : Drive → Drive) : (s.setDrv f).regs = s.regs := rfl
@[simp] theorem State.setDrv_power (s : State) (f : Drive → Drive) : (s.setDrv f).power = s.power := rfl
@[simp] theorem State.setDrv_sup (s : State) (f : Drive → Drive) : (s.setDrv f).sup = s.sup := rfl
@[simp] theorem State.setDrv_ctl (s : State) (f : Drive → Drive) : (s.setDrv f).ctl = s.ctl := rfl
@[simp] theorem State.setDrv_hif (s : State) (f : Drive → Drive) : (s.setDrv f).hif = s.hif := rfl
@[simp] theorem State.setDrv_eng (s : State) (f : Drive → Drive) : (s.setDrv f).eng = s.eng := rfl
@[simp] theorem State.setDrv_tim (s : State) (f : Drive → Drive) : (s.setDrv f).tim = s.tim := rfl
@[simp] theorem State.setDrv_dom (s : State) (f : Drive → Drive) : (s.setDrv f).dom = s.dom := rfl
@[simp] theorem State.setDrv_mon (s : State) (f : Drive → Drive) : (s.setDrv f).mon = s.mon := rfl
@[simp] theorem State.setDrv_flt (s : State) (f : Drive → Drive) : (s.setDrv f).flt = s.flt := rfl
@[simp] theorem State.setDrv_mrq (s : State) (f : Drive → Drive) : (s.setDrv f).mrq = s.mrq := rfl
@[simp] theorem State.setDrv_nvm (s : State) (f : Drive → Drive) : (s.setDrv f).nvm = s.nvm := rfl
@[simp] theorem State.setDrv_line (s : State) (f : Drive → Drive) : (s.setDrv f).line = s.line := rfl
@[simp] theorem State.setDrv_lock (s : State) (f : Drive → Drive) : (s.setDrv f).lock = s.lock := rfl
@[simp] theorem State.setDrv_drv (s : State) (f : Drive → Drive) : (s.setDrv f).drv = f s.drv := rfl
@[simp] theorem State.setDrv_stk (s : State) (f : Drive → Drive) : (s.setDrv f).stk = s.stk := rfl
@[simp] theorem State.setDrv_chg (s : State) (f : Drive → Drive) : (s.setDrv f).chg = s.chg := rfl
@[simp] theorem State.setDrv_gau (s : State) (f : Drive → Drive) : (s.setDrv f).gau = s.gau := rfl
@[simp] theorem State.setDrv_rtc (s : State) (f : Drive → Drive) : (s.setDrv f).rtc = s.rtc := rfl
@[simp] theorem State.setDrv_rtcx (s : State) (f : Drive → Drive) : (s.setDrv f).rtcx = s.rtcx := rfl
@[simp] theorem State.setDrv_adc (s : State) (f : Drive → Drive) : (s.setDrv f).adc = s.adc := rfl
@[simp] theorem State.setDrv_thm (s : State) (f : Drive → Drive) : (s.setDrv f).thm = s.thm := rfl
@[simp] theorem State.setDrv_way (s : State) (f : Drive → Drive) : (s.setDrv f).way = s.way := rfl
@[simp] theorem State.setDrv_ticks (s : State) (f : Drive → Drive) : (s.setDrv f).ticks = s.ticks := rfl
@[simp] theorem State.setDrv_freeCtr (s : State) (f : Drive → Drive) : (s.setDrv f).freeCtr = s.freeCtr := rfl
@[simp] theorem State.setDrv_rd (s : State) (f : Drive → Drive) (x : Nat) : (s.setDrv f).rd x = s.rd x := rfl
@[simp] theorem State.setDrv_g (s : State) (f : Drive → Drive) (x : Fld) : (s.setDrv f).g x = s.g x := rfl
@[simp] theorem State.setDrv_b (s : State) (f : Drive → Drive) (x : Fld) : (s.setDrv f).b x = s.b x := rfl
@[simp] theorem State.setStk_pending (s : State) (f : Stroke → Stroke) : (s.setStk f).pending = s.pending := rfl
@[simp] theorem State.setStk_pins (s : State) (f : Stroke → Stroke) : (s.setStk f).pins = s.pins := rfl
@[simp] theorem State.setStk_regs (s : State) (f : Stroke → Stroke) : (s.setStk f).regs = s.regs := rfl
@[simp] theorem State.setStk_power (s : State) (f : Stroke → Stroke) : (s.setStk f).power = s.power := rfl
@[simp] theorem State.setStk_sup (s : State) (f : Stroke → Stroke) : (s.setStk f).sup = s.sup := rfl
@[simp] theorem State.setStk_ctl (s : State) (f : Stroke → Stroke) : (s.setStk f).ctl = s.ctl := rfl
@[simp] theorem State.setStk_hif (s : State) (f : Stroke → Stroke) : (s.setStk f).hif = s.hif := rfl
@[simp] theorem State.setStk_eng (s : State) (f : Stroke → Stroke) : (s.setStk f).eng = s.eng := rfl
@[simp] theorem State.setStk_tim (s : State) (f : Stroke → Stroke) : (s.setStk f).tim = s.tim := rfl
@[simp] theorem State.setStk_dom (s : State) (f : Stroke → Stroke) : (s.setStk f).dom = s.dom := rfl
@[simp] theorem State.setStk_mon (s : State) (f : Stroke → Stroke) : (s.setStk f).mon = s.mon := rfl
@[simp] theorem State.setStk_flt (s : State) (f : Stroke → Stroke) : (s.setStk f).flt = s.flt := rfl
@[simp] theorem State.setStk_mrq (s : State) (f : Stroke → Stroke) : (s.setStk f).mrq = s.mrq := rfl
@[simp] theorem State.setStk_nvm (s : State) (f : Stroke → Stroke) : (s.setStk f).nvm = s.nvm := rfl
@[simp] theorem State.setStk_line (s : State) (f : Stroke → Stroke) : (s.setStk f).line = s.line := rfl
@[simp] theorem State.setStk_lock (s : State) (f : Stroke → Stroke) : (s.setStk f).lock = s.lock := rfl
@[simp] theorem State.setStk_drv (s : State) (f : Stroke → Stroke) : (s.setStk f).drv = s.drv := rfl
@[simp] theorem State.setStk_stk (s : State) (f : Stroke → Stroke) : (s.setStk f).stk = f s.stk := rfl
@[simp] theorem State.setStk_chg (s : State) (f : Stroke → Stroke) : (s.setStk f).chg = s.chg := rfl
@[simp] theorem State.setStk_gau (s : State) (f : Stroke → Stroke) : (s.setStk f).gau = s.gau := rfl
@[simp] theorem State.setStk_rtc (s : State) (f : Stroke → Stroke) : (s.setStk f).rtc = s.rtc := rfl
@[simp] theorem State.setStk_rtcx (s : State) (f : Stroke → Stroke) : (s.setStk f).rtcx = s.rtcx := rfl
@[simp] theorem State.setStk_adc (s : State) (f : Stroke → Stroke) : (s.setStk f).adc = s.adc := rfl
@[simp] theorem State.setStk_thm (s : State) (f : Stroke → Stroke) : (s.setStk f).thm = s.thm := rfl
@[simp] theorem State.setStk_way (s : State) (f : Stroke → Stroke) : (s.setStk f).way = s.way := rfl
@[simp] theorem State.setStk_ticks (s : State) (f : Stroke → Stroke) : (s.setStk f).ticks = s.ticks := rfl
@[simp] theorem State.setStk_freeCtr (s : State) (f : Stroke → Stroke) : (s.setStk f).freeCtr = s.freeCtr := rfl
@[simp] theorem State.setStk_rd (s : State) (f : Stroke → Stroke) (x : Nat) : (s.setStk f).rd x = s.rd x := rfl
@[simp] theorem State.setStk_g (s : State) (f : Stroke → Stroke) (x : Fld) : (s.setStk f).g x = s.g x := rfl
@[simp] theorem State.setStk_b (s : State) (f : Stroke → Stroke) (x : Fld) : (s.setStk f).b x = s.b x := rfl
@[simp] theorem State.setChgR_pending (s : State) (f : Charger → Charger) : (s.setChgR f).pending = s.pending := rfl
@[simp] theorem State.setChgR_pins (s : State) (f : Charger → Charger) : (s.setChgR f).pins = s.pins := rfl
@[simp] theorem State.setChgR_regs (s : State) (f : Charger → Charger) : (s.setChgR f).regs = s.regs := rfl
@[simp] theorem State.setChgR_power (s : State) (f : Charger → Charger) : (s.setChgR f).power = s.power := rfl
@[simp] theorem State.setChgR_sup (s : State) (f : Charger → Charger) : (s.setChgR f).sup = s.sup := rfl
@[simp] theorem State.setChgR_ctl (s : State) (f : Charger → Charger) : (s.setChgR f).ctl = s.ctl := rfl
@[simp] theorem State.setChgR_hif (s : State) (f : Charger → Charger) : (s.setChgR f).hif = s.hif := rfl
@[simp] theorem State.setChgR_eng (s : State) (f : Charger → Charger) : (s.setChgR f).eng = s.eng := rfl
@[simp] theorem State.setChgR_tim (s : State) (f : Charger → Charger) : (s.setChgR f).tim = s.tim := rfl
@[simp] theorem State.setChgR_dom (s : State) (f : Charger → Charger) : (s.setChgR f).dom = s.dom := rfl
@[simp] theorem State.setChgR_mon (s : State) (f : Charger → Charger) : (s.setChgR f).mon = s.mon := rfl
@[simp] theorem State.setChgR_flt (s : State) (f : Charger → Charger) : (s.setChgR f).flt = s.flt := rfl
@[simp] theorem State.setChgR_mrq (s : State) (f : Charger → Charger) : (s.setChgR f).mrq = s.mrq := rfl
@[simp] theorem State.setChgR_nvm (s : State) (f : Charger → Charger) : (s.setChgR f).nvm = s.nvm := rfl
@[simp] theorem State.setChgR_line (s : State) (f : Charger → Charger) : (s.setChgR f).line = s.line := rfl
@[simp] theorem State.setChgR_lock (s : State) (f : Charger → Charger) : (s.setChgR f).lock = s.lock := rfl
@[simp] theorem State.setChgR_drv (s : State) (f : Charger → Charger) : (s.setChgR f).drv = s.drv := rfl
@[simp] theorem State.setChgR_stk (s : State) (f : Charger → Charger) : (s.setChgR f).stk = s.stk := rfl
@[simp] theorem State.setChgR_chg (s : State) (f : Charger → Charger) : (s.setChgR f).chg = f s.chg := rfl
@[simp] theorem State.setChgR_gau (s : State) (f : Charger → Charger) : (s.setChgR f).gau = s.gau := rfl
@[simp] theorem State.setChgR_rtc (s : State) (f : Charger → Charger) : (s.setChgR f).rtc = s.rtc := rfl
@[simp] theorem State.setChgR_rtcx (s : State) (f : Charger → Charger) : (s.setChgR f).rtcx = s.rtcx := rfl
@[simp] theorem State.setChgR_adc (s : State) (f : Charger → Charger) : (s.setChgR f).adc = s.adc := rfl
@[simp] theorem State.setChgR_thm (s : State) (f : Charger → Charger) : (s.setChgR f).thm = s.thm := rfl
@[simp] theorem State.setChgR_way (s : State) (f : Charger → Charger) : (s.setChgR f).way = s.way := rfl
@[simp] theorem State.setChgR_ticks (s : State) (f : Charger → Charger) : (s.setChgR f).ticks = s.ticks := rfl
@[simp] theorem State.setChgR_freeCtr (s : State) (f : Charger → Charger) : (s.setChgR f).freeCtr = s.freeCtr := rfl
@[simp] theorem State.setChgR_rd (s : State) (f : Charger → Charger) (x : Nat) : (s.setChgR f).rd x = s.rd x := rfl
@[simp] theorem State.setChgR_g (s : State) (f : Charger → Charger) (x : Fld) : (s.setChgR f).g x = s.g x := rfl
@[simp] theorem State.setChgR_b (s : State) (f : Charger → Charger) (x : Fld) : (s.setChgR f).b x = s.b x := rfl
@[simp] theorem State.setGau_pending (s : State) (f : Gauge → Gauge) : (s.setGau f).pending = s.pending := rfl
@[simp] theorem State.setGau_pins (s : State) (f : Gauge → Gauge) : (s.setGau f).pins = s.pins := rfl
@[simp] theorem State.setGau_regs (s : State) (f : Gauge → Gauge) : (s.setGau f).regs = s.regs := rfl
@[simp] theorem State.setGau_power (s : State) (f : Gauge → Gauge) : (s.setGau f).power = s.power := rfl
@[simp] theorem State.setGau_sup (s : State) (f : Gauge → Gauge) : (s.setGau f).sup = s.sup := rfl
@[simp] theorem State.setGau_ctl (s : State) (f : Gauge → Gauge) : (s.setGau f).ctl = s.ctl := rfl
@[simp] theorem State.setGau_hif (s : State) (f : Gauge → Gauge) : (s.setGau f).hif = s.hif := rfl
@[simp] theorem State.setGau_eng (s : State) (f : Gauge → Gauge) : (s.setGau f).eng = s.eng := rfl
@[simp] theorem State.setGau_tim (s : State) (f : Gauge → Gauge) : (s.setGau f).tim = s.tim := rfl
@[simp] theorem State.setGau_dom (s : State) (f : Gauge → Gauge) : (s.setGau f).dom = s.dom := rfl
@[simp] theorem State.setGau_mon (s : State) (f : Gauge → Gauge) : (s.setGau f).mon = s.mon := rfl
@[simp] theorem State.setGau_flt (s : State) (f : Gauge → Gauge) : (s.setGau f).flt = s.flt := rfl
@[simp] theorem State.setGau_mrq (s : State) (f : Gauge → Gauge) : (s.setGau f).mrq = s.mrq := rfl
@[simp] theorem State.setGau_nvm (s : State) (f : Gauge → Gauge) : (s.setGau f).nvm = s.nvm := rfl
@[simp] theorem State.setGau_line (s : State) (f : Gauge → Gauge) : (s.setGau f).line = s.line := rfl
@[simp] theorem State.setGau_lock (s : State) (f : Gauge → Gauge) : (s.setGau f).lock = s.lock := rfl
@[simp] theorem State.setGau_drv (s : State) (f : Gauge → Gauge) : (s.setGau f).drv = s.drv := rfl
@[simp] theorem State.setGau_stk (s : State) (f : Gauge → Gauge) : (s.setGau f).stk = s.stk := rfl
@[simp] theorem State.setGau_chg (s : State) (f : Gauge → Gauge) : (s.setGau f).chg = s.chg := rfl
@[simp] theorem State.setGau_gau (s : State) (f : Gauge → Gauge) : (s.setGau f).gau = f s.gau := rfl
@[simp] theorem State.setGau_rtc (s : State) (f : Gauge → Gauge) : (s.setGau f).rtc = s.rtc := rfl
@[simp] theorem State.setGau_rtcx (s : State) (f : Gauge → Gauge) : (s.setGau f).rtcx = s.rtcx := rfl
@[simp] theorem State.setGau_adc (s : State) (f : Gauge → Gauge) : (s.setGau f).adc = s.adc := rfl
@[simp] theorem State.setGau_thm (s : State) (f : Gauge → Gauge) : (s.setGau f).thm = s.thm := rfl
@[simp] theorem State.setGau_way (s : State) (f : Gauge → Gauge) : (s.setGau f).way = s.way := rfl
@[simp] theorem State.setGau_ticks (s : State) (f : Gauge → Gauge) : (s.setGau f).ticks = s.ticks := rfl
@[simp] theorem State.setGau_freeCtr (s : State) (f : Gauge → Gauge) : (s.setGau f).freeCtr = s.freeCtr := rfl
@[simp] theorem State.setGau_rd (s : State) (f : Gauge → Gauge) (x : Nat) : (s.setGau f).rd x = s.rd x := rfl
@[simp] theorem State.setGau_g (s : State) (f : Gauge → Gauge) (x : Fld) : (s.setGau f).g x = s.g x := rfl
@[simp] theorem State.setGau_b (s : State) (f : Gauge → Gauge) (x : Fld) : (s.setGau f).b x = s.b x := rfl
@[simp] theorem State.setThm_pending (s : State) (f : Thm → Thm) : (s.setThm f).pending = s.pending := rfl
@[simp] theorem State.setThm_pins (s : State) (f : Thm → Thm) : (s.setThm f).pins = s.pins := rfl
@[simp] theorem State.setThm_regs (s : State) (f : Thm → Thm) : (s.setThm f).regs = s.regs := rfl
@[simp] theorem State.setThm_power (s : State) (f : Thm → Thm) : (s.setThm f).power = s.power := rfl
@[simp] theorem State.setThm_sup (s : State) (f : Thm → Thm) : (s.setThm f).sup = s.sup := rfl
@[simp] theorem State.setThm_ctl (s : State) (f : Thm → Thm) : (s.setThm f).ctl = s.ctl := rfl
@[simp] theorem State.setThm_hif (s : State) (f : Thm → Thm) : (s.setThm f).hif = s.hif := rfl
@[simp] theorem State.setThm_eng (s : State) (f : Thm → Thm) : (s.setThm f).eng = s.eng := rfl
@[simp] theorem State.setThm_tim (s : State) (f : Thm → Thm) : (s.setThm f).tim = s.tim := rfl
@[simp] theorem State.setThm_dom (s : State) (f : Thm → Thm) : (s.setThm f).dom = s.dom := rfl
@[simp] theorem State.setThm_mon (s : State) (f : Thm → Thm) : (s.setThm f).mon = s.mon := rfl
@[simp] theorem State.setThm_flt (s : State) (f : Thm → Thm) : (s.setThm f).flt = s.flt := rfl
@[simp] theorem State.setThm_mrq (s : State) (f : Thm → Thm) : (s.setThm f).mrq = s.mrq := rfl
@[simp] theorem State.setThm_nvm (s : State) (f : Thm → Thm) : (s.setThm f).nvm = s.nvm := rfl
@[simp] theorem State.setThm_line (s : State) (f : Thm → Thm) : (s.setThm f).line = s.line := rfl
@[simp] theorem State.setThm_lock (s : State) (f : Thm → Thm) : (s.setThm f).lock = s.lock := rfl
@[simp] theorem State.setThm_drv (s : State) (f : Thm → Thm) : (s.setThm f).drv = s.drv := rfl
@[simp] theorem State.setThm_stk (s : State) (f : Thm → Thm) : (s.setThm f).stk = s.stk := rfl
@[simp] theorem State.setThm_chg (s : State) (f : Thm → Thm) : (s.setThm f).chg = s.chg := rfl
@[simp] theorem State.setThm_gau (s : State) (f : Thm → Thm) : (s.setThm f).gau = s.gau := rfl
@[simp] theorem State.setThm_rtc (s : State) (f : Thm → Thm) : (s.setThm f).rtc = s.rtc := rfl
@[simp] theorem State.setThm_rtcx (s : State) (f : Thm → Thm) : (s.setThm f).rtcx = s.rtcx := rfl
@[simp] theorem State.setThm_adc (s : State) (f : Thm → Thm) : (s.setThm f).adc = s.adc := rfl
@[simp] theorem State.setThm_thm (s : State) (f : Thm → Thm) : (s.setThm f).thm = f s.thm := rfl
@[simp] theorem State.setThm_way (s : State) (f : Thm → Thm) : (s.setThm f).way = s.way := rfl
@[simp] theorem State.setThm_ticks (s : State) (f : Thm → Thm) : (s.setThm f).ticks = s.ticks := rfl
@[simp] theorem State.setThm_freeCtr (s : State) (f : Thm → Thm) : (s.setThm f).freeCtr = s.freeCtr := rfl
@[simp] theorem State.setThm_rd (s : State) (f : Thm → Thm) (x : Nat) : (s.setThm f).rd x = s.rd x := rfl
@[simp] theorem State.setThm_g (s : State) (f : Thm → Thm) (x : Fld) : (s.setThm f).g x = s.g x := rfl
@[simp] theorem State.setThm_b (s : State) (f : Thm → Thm) (x : Fld) : (s.setThm f).b x = s.b x := rfl
@[simp] theorem State.setRtc_pending (s : State) (f : RtcX → RtcX) : (s.setRtc f).pending = s.pending := rfl
@[simp] theorem State.setRtc_pins (s : State) (f : RtcX → RtcX) : (s.setRtc f).pins = s.pins := rfl
@[simp] theorem State.setRtc_regs (s : State) (f : RtcX → RtcX) : (s.setRtc f).regs = s.regs := rfl
@[simp] theorem State.setRtc_power (s : State) (f : RtcX → RtcX) : (s.setRtc f).power = s.power := rfl
@[simp] theorem State.setRtc_sup (s : State) (f : RtcX → RtcX) : (s.setRtc f).sup = s.sup := rfl
@[simp] theorem State.setRtc_ctl (s : State) (f : RtcX → RtcX) : (s.setRtc f).ctl = s.ctl := rfl
@[simp] theorem State.setRtc_hif (s : State) (f : RtcX → RtcX) : (s.setRtc f).hif = s.hif := rfl
@[simp] theorem State.setRtc_eng (s : State) (f : RtcX → RtcX) : (s.setRtc f).eng = s.eng := rfl
@[simp] theorem State.setRtc_tim (s : State) (f : RtcX → RtcX) : (s.setRtc f).tim = s.tim := rfl
@[simp] theorem State.setRtc_dom (s : State) (f : RtcX → RtcX) : (s.setRtc f).dom = s.dom := rfl
@[simp] theorem State.setRtc_mon (s : State) (f : RtcX → RtcX) : (s.setRtc f).mon = s.mon := rfl
@[simp] theorem State.setRtc_flt (s : State) (f : RtcX → RtcX) : (s.setRtc f).flt = s.flt := rfl
@[simp] theorem State.setRtc_mrq (s : State) (f : RtcX → RtcX) : (s.setRtc f).mrq = s.mrq := rfl
@[simp] theorem State.setRtc_nvm (s : State) (f : RtcX → RtcX) : (s.setRtc f).nvm = s.nvm := rfl
@[simp] theorem State.setRtc_line (s : State) (f : RtcX → RtcX) : (s.setRtc f).line = s.line := rfl
@[simp] theorem State.setRtc_lock (s : State) (f : RtcX → RtcX) : (s.setRtc f).lock = s.lock := rfl
@[simp] theorem State.setRtc_drv (s : State) (f : RtcX → RtcX) : (s.setRtc f).drv = s.drv := rfl
@[simp] theorem State.setRtc_stk (s : State) (f : RtcX → RtcX) : (s.setRtc f).stk = s.stk := rfl
@[simp] theorem State.setRtc_chg (s : State) (f : RtcX → RtcX) : (s.setRtc f).chg = s.chg := rfl
@[simp] theorem State.setRtc_gau (s : State) (f : RtcX → RtcX) : (s.setRtc f).gau = s.gau := rfl
@[simp] theorem State.setRtc_rtc (s : State) (f : RtcX → RtcX) : (s.setRtc f).rtc = s.rtc := rfl
@[simp] theorem State.setRtc_rtcx (s : State) (f : RtcX → RtcX) : (s.setRtc f).rtcx = f s.rtcx := rfl
@[simp] theorem State.setRtc_adc (s : State) (f : RtcX → RtcX) : (s.setRtc f).adc = s.adc := rfl
@[simp] theorem State.setRtc_thm (s : State) (f : RtcX → RtcX) : (s.setRtc f).thm = s.thm := rfl
@[simp] theorem State.setRtc_way (s : State) (f : RtcX → RtcX) : (s.setRtc f).way = s.way := rfl
@[simp] theorem State.setRtc_ticks (s : State) (f : RtcX → RtcX) : (s.setRtc f).ticks = s.ticks := rfl
@[simp] theorem State.setRtc_freeCtr (s : State) (f : RtcX → RtcX) : (s.setRtc f).freeCtr = s.freeCtr := rfl
@[simp] theorem State.setRtc_rd (s : State) (f : RtcX → RtcX) (x : Nat) : (s.setRtc f).rd x = s.rd x := rfl
@[simp] theorem State.setRtc_g (s : State) (f : RtcX → RtcX) (x : Fld) : (s.setRtc f).g x = s.g x := rfl
@[simp] theorem State.setRtc_b (s : State) (f : RtcX → RtcX) (x : Fld) : (s.setRtc f).b x = s.b x := rfl
@[simp] theorem State.setAdc_pending (s : State) (f : Adc → Adc) : (s.setAdc f).pending = s.pending := rfl
@[simp] theorem State.setAdc_pins (s : State) (f : Adc → Adc) : (s.setAdc f).pins = s.pins := rfl
@[simp] theorem State.setAdc_regs (s : State) (f : Adc → Adc) : (s.setAdc f).regs = s.regs := rfl
@[simp] theorem State.setAdc_power (s : State) (f : Adc → Adc) : (s.setAdc f).power = s.power := rfl
@[simp] theorem State.setAdc_sup (s : State) (f : Adc → Adc) : (s.setAdc f).sup = s.sup := rfl
@[simp] theorem State.setAdc_ctl (s : State) (f : Adc → Adc) : (s.setAdc f).ctl = s.ctl := rfl
@[simp] theorem State.setAdc_hif (s : State) (f : Adc → Adc) : (s.setAdc f).hif = s.hif := rfl
@[simp] theorem State.setAdc_eng (s : State) (f : Adc → Adc) : (s.setAdc f).eng = s.eng := rfl
@[simp] theorem State.setAdc_tim (s : State) (f : Adc → Adc) : (s.setAdc f).tim = s.tim := rfl
@[simp] theorem State.setAdc_dom (s : State) (f : Adc → Adc) : (s.setAdc f).dom = s.dom := rfl
@[simp] theorem State.setAdc_mon (s : State) (f : Adc → Adc) : (s.setAdc f).mon = s.mon := rfl
@[simp] theorem State.setAdc_flt (s : State) (f : Adc → Adc) : (s.setAdc f).flt = s.flt := rfl
@[simp] theorem State.setAdc_mrq (s : State) (f : Adc → Adc) : (s.setAdc f).mrq = s.mrq := rfl
@[simp] theorem State.setAdc_nvm (s : State) (f : Adc → Adc) : (s.setAdc f).nvm = s.nvm := rfl
@[simp] theorem State.setAdc_line (s : State) (f : Adc → Adc) : (s.setAdc f).line = s.line := rfl
@[simp] theorem State.setAdc_lock (s : State) (f : Adc → Adc) : (s.setAdc f).lock = s.lock := rfl
@[simp] theorem State.setAdc_drv (s : State) (f : Adc → Adc) : (s.setAdc f).drv = s.drv := rfl
@[simp] theorem State.setAdc_stk (s : State) (f : Adc → Adc) : (s.setAdc f).stk = s.stk := rfl
@[simp] theorem State.setAdc_chg (s : State) (f : Adc → Adc) : (s.setAdc f).chg = s.chg := rfl
@[simp] theorem State.setAdc_gau (s : State) (f : Adc → Adc) : (s.setAdc f).gau = s.gau := rfl
@[simp] theorem State.setAdc_rtc (s : State) (f : Adc → Adc) : (s.setAdc f).rtc = s.rtc := rfl
@[simp] theorem State.setAdc_rtcx (s : State) (f : Adc → Adc) : (s.setAdc f).rtcx = s.rtcx := rfl
@[simp] theorem State.setAdc_adc (s : State) (f : Adc → Adc) : (s.setAdc f).adc = f s.adc := rfl
@[simp] theorem State.setAdc_thm (s : State) (f : Adc → Adc) : (s.setAdc f).thm = s.thm := rfl
@[simp] theorem State.setAdc_way (s : State) (f : Adc → Adc) : (s.setAdc f).way = s.way := rfl
@[simp] theorem State.setAdc_ticks (s : State) (f : Adc → Adc) : (s.setAdc f).ticks = s.ticks := rfl
@[simp] theorem State.setAdc_freeCtr (s : State) (f : Adc → Adc) : (s.setAdc f).freeCtr = s.freeCtr := rfl
@[simp] theorem State.setAdc_rd (s : State) (f : Adc → Adc) (x : Nat) : (s.setAdc f).rd x = s.rd x := rfl
@[simp] theorem State.setAdc_g (s : State) (f : Adc → Adc) (x : Fld) : (s.setAdc f).g x = s.g x := rfl
@[simp] theorem State.setAdc_b (s : State) (f : Adc → Adc) (x : Fld) : (s.setAdc f).b x = s.b x := rfl
@[simp] theorem State.setNvm_pending (s : State) (f : Nvm → Nvm) : (s.setNvm f).pending = s.pending := rfl
@[simp] theorem State.setNvm_pins (s : State) (f : Nvm → Nvm) : (s.setNvm f).pins = s.pins := rfl
@[simp] theorem State.setNvm_regs (s : State) (f : Nvm → Nvm) : (s.setNvm f).regs = s.regs := rfl
@[simp] theorem State.setNvm_power (s : State) (f : Nvm → Nvm) : (s.setNvm f).power = s.power := rfl
@[simp] theorem State.setNvm_sup (s : State) (f : Nvm → Nvm) : (s.setNvm f).sup = s.sup := rfl
@[simp] theorem State.setNvm_ctl (s : State) (f : Nvm → Nvm) : (s.setNvm f).ctl = s.ctl := rfl
@[simp] theorem State.setNvm_hif (s : State) (f : Nvm → Nvm) : (s.setNvm f).hif = s.hif := rfl
@[simp] theorem State.setNvm_eng (s : State) (f : Nvm → Nvm) : (s.setNvm f).eng = s.eng := rfl
@[simp] theorem State.setNvm_tim (s : State) (f : Nvm → Nvm) : (s.setNvm f).tim = s.tim := rfl
@[simp] theorem State.setNvm_dom (s : State) (f : Nvm → Nvm) : (s.setNvm f).dom = s.dom := rfl
@[simp] theorem State.setNvm_mon (s : State) (f : Nvm → Nvm) : (s.setNvm f).mon = s.mon := rfl
@[simp] theorem State.setNvm_flt (s : State) (f : Nvm → Nvm) : (s.setNvm f).flt = s.flt := rfl
@[simp] theorem State.setNvm_mrq (s : State) (f : Nvm → Nvm) : (s.setNvm f).mrq = s.mrq := rfl
@[simp] theorem State.setNvm_nvm (s : State) (f : Nvm → Nvm) : (s.setNvm f).nvm = f s.nvm := rfl
@[simp] theorem State.setNvm_line (s : State) (f : Nvm → Nvm) : (s.setNvm f).line = s.line := rfl
@[simp] theorem State.setNvm_lock (s : State) (f : Nvm → Nvm) : (s.setNvm f).lock = s.lock := rfl
@[simp] theorem State.setNvm_drv (s : State) (f : Nvm → Nvm) : (s.setNvm f).drv = s.drv := rfl
@[simp] theorem State.setNvm_stk (s : State) (f : Nvm → Nvm) : (s.setNvm f).stk = s.stk := rfl
@[simp] theorem State.setNvm_chg (s : State) (f : Nvm → Nvm) : (s.setNvm f).chg = s.chg := rfl
@[simp] theorem State.setNvm_gau (s : State) (f : Nvm → Nvm) : (s.setNvm f).gau = s.gau := rfl
@[simp] theorem State.setNvm_rtc (s : State) (f : Nvm → Nvm) : (s.setNvm f).rtc = s.rtc := rfl
@[simp] theorem State.setNvm_rtcx (s : State) (f : Nvm → Nvm) : (s.setNvm f).rtcx = s.rtcx := rfl
@[simp] theorem State.setNvm_adc (s : State) (f : Nvm → Nvm) : (s.setNvm f).adc = s.adc := rfl
@[simp] theorem State.setNvm_thm (s : State) (f : Nvm → Nvm) : (s.setNvm f).thm = s.thm := rfl
@[simp] theorem State.setNvm_way (s : State) (f : Nvm → Nvm) : (s.setNvm f).way = s.way := rfl
@[simp] theorem State.setNvm_ticks (s : State) (f : Nvm → Nvm) : (s.setNvm f).ticks = s.ticks := rfl
@[simp] theorem State.setNvm_freeCtr (s : State) (f : Nvm → Nvm) : (s.setNvm f).freeCtr = s.freeCtr := rfl
@[simp] theorem State.setNvm_rd (s : State) (f : Nvm → Nvm) (x : Nat) : (s.setNvm f).rd x = s.rd x := rfl
@[simp] theorem State.setNvm_g (s : State) (f : Nvm → Nvm) (x : Fld) : (s.setNvm f).g x = s.g x := rfl
@[simp] theorem State.setNvm_b (s : State) (f : Nvm → Nvm) (x : Fld) : (s.setNvm f).b x = s.b x := rfl
@[simp] theorem State.setWay_pending (s : State) (f : Way → Way) : (s.setWay f).pending = s.pending := rfl
@[simp] theorem State.setWay_pins (s : State) (f : Way → Way) : (s.setWay f).pins = s.pins := rfl
@[simp] theorem State.setWay_regs (s : State) (f : Way → Way) : (s.setWay f).regs = s.regs := rfl
@[simp] theorem State.setWay_power (s : State) (f : Way → Way) : (s.setWay f).power = s.power := rfl
@[simp] theorem State.setWay_sup (s : State) (f : Way → Way) : (s.setWay f).sup = s.sup := rfl
@[simp] theorem State.setWay_ctl (s : State) (f : Way → Way) : (s.setWay f).ctl = s.ctl := rfl
@[simp] theorem State.setWay_hif (s : State) (f : Way → Way) : (s.setWay f).hif = s.hif := rfl
@[simp] theorem State.setWay_eng (s : State) (f : Way → Way) : (s.setWay f).eng = s.eng := rfl
@[simp] theorem State.setWay_tim (s : State) (f : Way → Way) : (s.setWay f).tim = s.tim := rfl
@[simp] theorem State.setWay_dom (s : State) (f : Way → Way) : (s.setWay f).dom = s.dom := rfl
@[simp] theorem State.setWay_mon (s : State) (f : Way → Way) : (s.setWay f).mon = s.mon := rfl
@[simp] theorem State.setWay_flt (s : State) (f : Way → Way) : (s.setWay f).flt = s.flt := rfl
@[simp] theorem State.setWay_mrq (s : State) (f : Way → Way) : (s.setWay f).mrq = s.mrq := rfl
@[simp] theorem State.setWay_nvm (s : State) (f : Way → Way) : (s.setWay f).nvm = s.nvm := rfl
@[simp] theorem State.setWay_line (s : State) (f : Way → Way) : (s.setWay f).line = s.line := rfl
@[simp] theorem State.setWay_lock (s : State) (f : Way → Way) : (s.setWay f).lock = s.lock := rfl
@[simp] theorem State.setWay_drv (s : State) (f : Way → Way) : (s.setWay f).drv = s.drv := rfl
@[simp] theorem State.setWay_stk (s : State) (f : Way → Way) : (s.setWay f).stk = s.stk := rfl
@[simp] theorem State.setWay_chg (s : State) (f : Way → Way) : (s.setWay f).chg = s.chg := rfl
@[simp] theorem State.setWay_gau (s : State) (f : Way → Way) : (s.setWay f).gau = s.gau := rfl
@[simp] theorem State.setWay_rtc (s : State) (f : Way → Way) : (s.setWay f).rtc = s.rtc := rfl
@[simp] theorem State.setWay_rtcx (s : State) (f : Way → Way) : (s.setWay f).rtcx = s.rtcx := rfl
@[simp] theorem State.setWay_adc (s : State) (f : Way → Way) : (s.setWay f).adc = s.adc := rfl
@[simp] theorem State.setWay_thm (s : State) (f : Way → Way) : (s.setWay f).thm = s.thm := rfl
@[simp] theorem State.setWay_way (s : State) (f : Way → Way) : (s.setWay f).way = f s.way := rfl
@[simp] theorem State.setWay_ticks (s : State) (f : Way → Way) : (s.setWay f).ticks = s.ticks := rfl
@[simp] theorem State.setWay_freeCtr (s : State) (f : Way → Way) : (s.setWay f).freeCtr = s.freeCtr := rfl
@[simp] theorem State.setWay_rd (s : State) (f : Way → Way) (x : Nat) : (s.setWay f).rd x = s.rd x := rfl
@[simp] theorem State.setWay_g (s : State) (f : Way → Way) (x : Fld) : (s.setWay f).g x = s.g x := rfl
@[simp] theorem State.setWay_b (s : State) (f : Way → Way) (x : Fld) : (s.setWay f).b x = s.b x := rfl
@[simp] theorem State.setFlt_pending (s : State) (f : Flt → Flt) : (s.setFlt f).pending = s.pending := rfl
@[simp] theorem State.setFlt_pins (s : State) (f : Flt → Flt) : (s.setFlt f).pins = s.pins := rfl
@[simp] theorem State.setFlt_regs (s : State) (f : Flt → Flt) : (s.setFlt f).regs = s.regs := rfl
@[simp] theorem State.setFlt_power (s : State) (f : Flt → Flt) : (s.setFlt f).power = s.power := rfl
@[simp] theorem State.setFlt_sup (s : State) (f : Flt → Flt) : (s.setFlt f).sup = s.sup := rfl
@[simp] theorem State.setFlt_ctl (s : State) (f : Flt → Flt) : (s.setFlt f).ctl = s.ctl := rfl
@[simp] theorem State.setFlt_hif (s : State) (f : Flt → Flt) : (s.setFlt f).hif = s.hif := rfl
@[simp] theorem State.setFlt_eng (s : State) (f : Flt → Flt) : (s.setFlt f).eng = s.eng := rfl
@[simp] theorem State.setFlt_tim (s : State) (f : Flt → Flt) : (s.setFlt f).tim = s.tim := rfl
@[simp] theorem State.setFlt_dom (s : State) (f : Flt → Flt) : (s.setFlt f).dom = s.dom := rfl
@[simp] theorem State.setFlt_mon (s : State) (f : Flt → Flt) : (s.setFlt f).mon = s.mon := rfl
@[simp] theorem State.setFlt_flt (s : State) (f : Flt → Flt) : (s.setFlt f).flt = f s.flt := rfl
@[simp] theorem State.setFlt_mrq (s : State) (f : Flt → Flt) : (s.setFlt f).mrq = s.mrq := rfl
@[simp] theorem State.setFlt_nvm (s : State) (f : Flt → Flt) : (s.setFlt f).nvm = s.nvm := rfl
@[simp] theorem State.setFlt_line (s : State) (f : Flt → Flt) : (s.setFlt f).line = s.line := rfl
@[simp] theorem State.setFlt_lock (s : State) (f : Flt → Flt) : (s.setFlt f).lock = s.lock := rfl
@[simp] theorem State.setFlt_drv (s : State) (f : Flt → Flt) : (s.setFlt f).drv = s.drv := rfl
@[simp] theorem State.setFlt_stk (s : State) (f : Flt → Flt) : (s.setFlt f).stk = s.stk := rfl
@[simp] theorem State.setFlt_chg (s : State) (f : Flt → Flt) : (s.setFlt f).chg = s.chg := rfl
@[simp] theorem State.setFlt_gau (s : State) (f : Flt → Flt) : (s.setFlt f).gau = s.gau := rfl
@[simp] theorem State.setFlt_rtc (s : State) (f : Flt → Flt) : (s.setFlt f).rtc = s.rtc := rfl
@[simp] theorem State.setFlt_rtcx (s : State) (f : Flt → Flt) : (s.setFlt f).rtcx = s.rtcx := rfl
@[simp] theorem State.setFlt_adc (s : State) (f : Flt → Flt) : (s.setFlt f).adc = s.adc := rfl
@[simp] theorem State.setFlt_thm (s : State) (f : Flt → Flt) : (s.setFlt f).thm = s.thm := rfl
@[simp] theorem State.setFlt_way (s : State) (f : Flt → Flt) : (s.setFlt f).way = s.way := rfl
@[simp] theorem State.setFlt_ticks (s : State) (f : Flt → Flt) : (s.setFlt f).ticks = s.ticks := rfl
@[simp] theorem State.setFlt_freeCtr (s : State) (f : Flt → Flt) : (s.setFlt f).freeCtr = s.freeCtr := rfl
@[simp] theorem State.setFlt_rd (s : State) (f : Flt → Flt) (x : Nat) : (s.setFlt f).rd x = s.rd x := rfl
@[simp] theorem State.setFlt_g (s : State) (f : Flt → Flt) (x : Fld) : (s.setFlt f).g x = s.g x := rfl
@[simp] theorem State.setFlt_b (s : State) (f : Flt → Flt) (x : Fld) : (s.setFlt f).b x = s.b x := rfl
@[simp] theorem State.setHif_pending (s : State) (f : Hif → Hif) : (s.setHif f).pending = s.pending := rfl
@[simp] theorem State.setHif_pins (s : State) (f : Hif → Hif) : (s.setHif f).pins = s.pins := rfl
@[simp] theorem State.setHif_regs (s : State) (f : Hif → Hif) : (s.setHif f).regs = s.regs := rfl
@[simp] theorem State.setHif_power (s : State) (f : Hif → Hif) : (s.setHif f).power = s.power := rfl
@[simp] theorem State.setHif_sup (s : State) (f : Hif → Hif) : (s.setHif f).sup = s.sup := rfl
@[simp] theorem State.setHif_ctl (s : State) (f : Hif → Hif) : (s.setHif f).ctl = s.ctl := rfl
@[simp] theorem State.setHif_hif (s : State) (f : Hif → Hif) : (s.setHif f).hif = f s.hif := rfl
@[simp] theorem State.setHif_eng (s : State) (f : Hif → Hif) : (s.setHif f).eng = s.eng := rfl
@[simp] theorem State.setHif_tim (s : State) (f : Hif → Hif) : (s.setHif f).tim = s.tim := rfl
@[simp] theorem State.setHif_dom (s : State) (f : Hif → Hif) : (s.setHif f).dom = s.dom := rfl
@[simp] theorem State.setHif_mon (s : State) (f : Hif → Hif) : (s.setHif f).mon = s.mon := rfl
@[simp] theorem State.setHif_flt (s : State) (f : Hif → Hif) : (s.setHif f).flt = s.flt := rfl
@[simp] theorem State.setHif_mrq (s : State) (f : Hif → Hif) : (s.setHif f).mrq = s.mrq := rfl
@[simp] theorem State.setHif_nvm (s : State) (f : Hif → Hif) : (s.setHif f).nvm = s.nvm := rfl
@[simp] theorem State.setHif_line (s : State) (f : Hif → Hif) : (s.setHif f).line = s.line := rfl
@[simp] theorem State.setHif_lock (s : State) (f : Hif → Hif) : (s.setHif f).lock = s.lock := rfl
@[simp] theorem State.setHif_drv (s : State) (f : Hif → Hif) : (s.setHif f).drv = s.drv := rfl
@[simp] theorem State.setHif_stk (s : State) (f : Hif → Hif) : (s.setHif f).stk = s.stk := rfl
@[simp] theorem State.setHif_chg (s : State) (f : Hif → Hif) : (s.setHif f).chg = s.chg := rfl
@[simp] theorem State.setHif_gau (s : State) (f : Hif → Hif) : (s.setHif f).gau = s.gau := rfl
@[simp] theorem State.setHif_rtc (s : State) (f : Hif → Hif) : (s.setHif f).rtc = s.rtc := rfl
@[simp] theorem State.setHif_rtcx (s : State) (f : Hif → Hif) : (s.setHif f).rtcx = s.rtcx := rfl
@[simp] theorem State.setHif_adc (s : State) (f : Hif → Hif) : (s.setHif f).adc = s.adc := rfl
@[simp] theorem State.setHif_thm (s : State) (f : Hif → Hif) : (s.setHif f).thm = s.thm := rfl
@[simp] theorem State.setHif_way (s : State) (f : Hif → Hif) : (s.setHif f).way = s.way := rfl
@[simp] theorem State.setHif_ticks (s : State) (f : Hif → Hif) : (s.setHif f).ticks = s.ticks := rfl
@[simp] theorem State.setHif_freeCtr (s : State) (f : Hif → Hif) : (s.setHif f).freeCtr = s.freeCtr := rfl
@[simp] theorem State.setHif_rd (s : State) (f : Hif → Hif) (x : Nat) : (s.setHif f).rd x = s.rd x := rfl
@[simp] theorem State.setHif_g (s : State) (f : Hif → Hif) (x : Fld) : (s.setHif f).g x = s.g x := rfl
@[simp] theorem State.setHif_b (s : State) (f : Hif → Hif) (x : Fld) : (s.setHif f).b x = s.b x := rfl
@[simp] theorem State.raise_pending (s : State) (n : Nat) : (s.raise n).pending = s.pending := rfl
@[simp] theorem State.raise_pins (s : State) (n : Nat) : (s.raise n).pins = s.pins := rfl
@[simp] theorem State.raise_regs (s : State) (n : Nat) : (s.raise n).regs = s.regs := rfl
@[simp] theorem State.raise_power (s : State) (n : Nat) : (s.raise n).power = s.power := rfl
@[simp] theorem State.raise_sup (s : State) (n : Nat) : (s.raise n).sup = s.sup := rfl
@[simp] theorem State.raise_ctl (s : State) (n : Nat) : (s.raise n).ctl = s.ctl := rfl
@[simp] theorem State.raise_hif (s : State) (n : Nat) : (s.raise n).hif = s.hif := rfl
@[simp] theorem State.raise_eng (s : State) (n : Nat) : (s.raise n).eng = s.eng := rfl
@[simp] theorem State.raise_tim (s : State) (n : Nat) : (s.raise n).tim = s.tim := rfl
@[simp] theorem State.raise_dom (s : State) (n : Nat) : (s.raise n).dom = s.dom := rfl
@[simp] theorem State.raise_mon (s : State) (n : Nat) : (s.raise n).mon = s.mon := rfl
@[simp] theorem State.raise_mrq (s : State) (n : Nat) : (s.raise n).mrq = s.mrq := rfl
@[simp] theorem State.raise_nvm (s : State) (n : Nat) : (s.raise n).nvm = s.nvm := rfl
@[simp] theorem State.raise_line (s : State) (n : Nat) : (s.raise n).line = s.line := rfl
@[simp] theorem State.raise_lock (s : State) (n : Nat) : (s.raise n).lock = s.lock := rfl
@[simp] theorem State.raise_drv (s : State) (n : Nat) : (s.raise n).drv = s.drv := rfl
@[simp] theorem State.raise_stk (s : State) (n : Nat) : (s.raise n).stk = s.stk := rfl
@[simp] theorem State.raise_chg (s : State) (n : Nat) : (s.raise n).chg = s.chg := rfl
@[simp] theorem State.raise_gau (s : State) (n : Nat) : (s.raise n).gau = s.gau := rfl
@[simp] theorem State.raise_rtc (s : State) (n : Nat) : (s.raise n).rtc = s.rtc := rfl
@[simp] theorem State.raise_rtcx (s : State) (n : Nat) : (s.raise n).rtcx = s.rtcx := rfl
@[simp] theorem State.raise_adc (s : State) (n : Nat) : (s.raise n).adc = s.adc := rfl
@[simp] theorem State.raise_thm (s : State) (n : Nat) : (s.raise n).thm = s.thm := rfl
@[simp] theorem State.raise_way (s : State) (n : Nat) : (s.raise n).way = s.way := rfl
@[simp] theorem State.raise_ticks (s : State) (n : Nat) : (s.raise n).ticks = s.ticks := rfl
@[simp] theorem State.raise_freeCtr (s : State) (n : Nat) : (s.raise n).freeCtr = s.freeCtr := rfl
@[simp] theorem State.raise_rd (s : State) (n : Nat) (x : Nat) : (s.raise n).rd x = s.rd x := rfl
@[simp] theorem State.raise_g (s : State) (n : Nat) (x : Fld) : (s.raise n).g x = s.g x := rfl
@[simp] theorem State.raise_b (s : State) (n : Nat) (x : Fld) : (s.raise n).b x = s.b x := rfl
@[simp] theorem State.raiseBy_pending (s : State) (o : Origin) (n : Nat) : (s.raiseBy o n).pending = s.pending := rfl
@[simp] theorem State.raiseBy_pins (s : State) (o : Origin) (n : Nat) : (s.raiseBy o n).pins = s.pins := rfl
@[simp] theorem State.raiseBy_regs (s : State) (o : Origin) (n : Nat) : (s.raiseBy o n).regs = s.regs := rfl
@[simp] theorem State.raiseBy_power (s : State) (o : Origin) (n : Nat) : (s.raiseBy o n).power = s.power := rfl
@[simp] theorem State.raiseBy_sup (s : State) (o : Origin) (n : Nat) : (s.raiseBy o n).sup = s.sup := rfl
@[simp] theorem State.raiseBy_ctl (s : State) (o : Origin) (n : Nat) : (s.raiseBy o n).ctl = s.ctl := rfl
@[simp] theorem State.raiseBy_hif (s : State) (o : Origin) (n : Nat) : (s.raiseBy o n).hif = s.hif := rfl
@[simp] theorem State.raiseBy_eng (s : State) (o : Origin) (n : Nat) : (s.raiseBy o n).eng = s.eng := rfl
@[simp] theorem State.raiseBy_tim (s : State) (o : Origin) (n : Nat) : (s.raiseBy o n).tim = s.tim := rfl
@[simp] theorem State.raiseBy_dom (s : State) (o : Origin) (n : Nat) : (s.raiseBy o n).dom = s.dom := rfl
@[simp] theorem State.raiseBy_mon (s : State) (o : Origin) (n : Nat) : (s.raiseBy o n).mon = s.mon := rfl
@[simp] theorem State.raiseBy_mrq (s : State) (o : Origin) (n : Nat) : (s.raiseBy o n).mrq = s.mrq := rfl
@[simp] theorem State.raiseBy_nvm (s : State) (o : Origin) (n : Nat) : (s.raiseBy o n).nvm = s.nvm := rfl
@[simp] theorem State.raiseBy_line (s : State) (o : Origin) (n : Nat) : (s.raiseBy o n).line = s.line := rfl
@[simp] theorem State.raiseBy_lock (s : State) (o : Origin) (n : Nat) : (s.raiseBy o n).lock = s.lock := rfl
@[simp] theorem State.raiseBy_drv (s : State) (o : Origin) (n : Nat) : (s.raiseBy o n).drv = s.drv := rfl
@[simp] theorem State.raiseBy_stk (s : State) (o : Origin) (n : Nat) : (s.raiseBy o n).stk = s.stk := rfl
@[simp] theorem State.raiseBy_chg (s : State) (o : Origin) (n : Nat) : (s.raiseBy o n).chg = s.chg := rfl
@[simp] theorem State.raiseBy_gau (s : State) (o : Origin) (n : Nat) : (s.raiseBy o n).gau = s.gau := rfl
@[simp] theorem State.raiseBy_rtc (s : State) (o : Origin) (n : Nat) : (s.raiseBy o n).rtc = s.rtc := rfl
@[simp] theorem State.raiseBy_rtcx (s : State) (o : Origin) (n : Nat) : (s.raiseBy o n).rtcx = s.rtcx := rfl
@[simp] theorem State.raiseBy_adc (s : State) (o : Origin) (n : Nat) : (s.raiseBy o n).adc = s.adc := rfl
@[simp] theorem State.raiseBy_thm (s : State) (o : Origin) (n : Nat) : (s.raiseBy o n).thm = s.thm := rfl
@[simp] theorem State.raiseBy_way (s : State) (o : Origin) (n : Nat) : (s.raiseBy o n).way = s.way := rfl
@[simp] theorem State.raiseBy_ticks (s : State) (o : Origin) (n : Nat) : (s.raiseBy o n).ticks = s.ticks := rfl
@[simp] theorem State.raiseBy_freeCtr (s : State) (o : Origin) (n : Nat) : (s.raiseBy o n).freeCtr = s.freeCtr := rfl
@[simp] theorem State.raiseBy_rd (s : State) (o : Origin) (n : Nat) (x : Nat) : (s.raiseBy o n).rd x = s.rd x := rfl
@[simp] theorem State.raiseBy_g (s : State) (o : Origin) (n : Nat) (x : Fld) : (s.raiseBy o n).g x = s.g x := rfl
@[simp] theorem State.raiseBy_b (s : State) (o : Origin) (n : Nat) (x : Fld) : (s.raiseBy o n).b x = s.b x := rfl
@[simp] theorem State.post_pending (s : State) (b : PktBody) : (s.post b).pending = s.pending := rfl
@[simp] theorem State.post_pins (s : State) (b : PktBody) : (s.post b).pins = s.pins := rfl
@[simp] theorem State.post_regs (s : State) (b : PktBody) : (s.post b).regs = s.regs := rfl
@[simp] theorem State.post_power (s : State) (b : PktBody) : (s.post b).power = s.power := rfl
@[simp] theorem State.post_sup (s : State) (b : PktBody) : (s.post b).sup = s.sup := rfl
@[simp] theorem State.post_ctl (s : State) (b : PktBody) : (s.post b).ctl = s.ctl := rfl
@[simp] theorem State.post_hif (s : State) (b : PktBody) : (s.post b).hif = s.hif := rfl
@[simp] theorem State.post_eng (s : State) (b : PktBody) : (s.post b).eng = s.eng := rfl
@[simp] theorem State.post_tim (s : State) (b : PktBody) : (s.post b).tim = s.tim := rfl
@[simp] theorem State.post_dom (s : State) (b : PktBody) : (s.post b).dom = s.dom := rfl
@[simp] theorem State.post_mon (s : State) (b : PktBody) : (s.post b).mon = s.mon := rfl
@[simp] theorem State.post_flt (s : State) (b : PktBody) : (s.post b).flt = s.flt := rfl
@[simp] theorem State.post_nvm (s : State) (b : PktBody) : (s.post b).nvm = s.nvm := rfl
@[simp] theorem State.post_line (s : State) (b : PktBody) : (s.post b).line = s.line := rfl
@[simp] theorem State.post_lock (s : State) (b : PktBody) : (s.post b).lock = s.lock := rfl
@[simp] theorem State.post_drv (s : State) (b : PktBody) : (s.post b).drv = s.drv := rfl
@[simp] theorem State.post_stk (s : State) (b : PktBody) : (s.post b).stk = s.stk := rfl
@[simp] theorem State.post_chg (s : State) (b : PktBody) : (s.post b).chg = s.chg := rfl
@[simp] theorem State.post_gau (s : State) (b : PktBody) : (s.post b).gau = s.gau := rfl
@[simp] theorem State.post_rtc (s : State) (b : PktBody) : (s.post b).rtc = s.rtc := rfl
@[simp] theorem State.post_rtcx (s : State) (b : PktBody) : (s.post b).rtcx = s.rtcx := rfl
@[simp] theorem State.post_adc (s : State) (b : PktBody) : (s.post b).adc = s.adc := rfl
@[simp] theorem State.post_thm (s : State) (b : PktBody) : (s.post b).thm = s.thm := rfl
@[simp] theorem State.post_way (s : State) (b : PktBody) : (s.post b).way = s.way := rfl
@[simp] theorem State.post_ticks (s : State) (b : PktBody) : (s.post b).ticks = s.ticks := rfl
@[simp] theorem State.post_freeCtr (s : State) (b : PktBody) : (s.post b).freeCtr = s.freeCtr := rfl
@[simp] theorem State.post_rd (s : State) (b : PktBody) (x : Nat) : (s.post b).rd x = s.rd x := rfl
@[simp] theorem State.post_g (s : State) (b : PktBody) (x : Fld) : (s.post b).g x = s.g x := rfl
@[simp] theorem State.post_b (s : State) (b : PktBody) (x : Fld) : (s.post b).b x = s.b x := rfl

end Sys2Proof.Machine
end

