-- ==== Sys2Proof/Tests/Slice0.lean ====
section
/-! SUPPORT. Small tests: ill-formed commands refused, worked examples of the spec, and for every statement of Certificates/Slice0/Obligations.lean that has hypotheses a state and operands, for each of its clauses, that
meet all of them together. -/
namespace Sys2Proof.Tests
open Sys2Proof.Machine
set_option Elab.async false

/-- A step's word (R154). -/
def encStep (st : EngStep) : Nat :=
  match st with
  | .end_ => 0
  | .enable kd m => 0x10000000 + kd * 0x1000000 + m
  | .disable kd m nd => 0x20000000 + kd * 0x1000000 + nd.toNat * 0x10000 + m
  | .set i v => 0x30000000 + i * 0x10000 + v
  | .wait lf n => 0x40000000 + lf.toNat * 0x1000000 + n
  | .waitc inv c t => 0x50000000 + inv.toNat * 0x8000000 + c * 0x10000 + t
  | .check inv act stop c op => 0x60000000 + inv.toNat * 0x8000000 + act.toNat * 0x4000000 + stop.toNat * 0x2000000 + c * 0x10000 + op
  | .jump inv en c t => 0x70000000 + inv.toNat * 0x8000000 + en.toNat * 0x4000000 + c * 0x10000 + t
  | .signal kd op => 0x80000000 + kd * 0x1000000 + op
  | .sync clr f => 0x90000000 + clr.toNat * 0x100 + f
  | .loop second n t => 0xA0000000 + second.toNat * 0x1000000 + n * 0x10000 + t

/-- A step stored where engine k stands. -/
def putStep (s : State) (k : Nat) (st : EngStep) : State :=
  s.w32 (A.ENG_STEP (2 * (s.g (F.ENG_BASE_BASE k) + (s.engAt k).pc))) (encStep st)

/-- A device in RUN: its line on, a pack fitted, P3 selected, every engine at a step of a program of four, all domains used and DRIVE on with six phases. A manager, with worker 1 admitted. -/
def base : State :=
  let s : State :=
    { State.reset with
      power := .run, eng := List.replicate 12 ⟨.run, 0, [], 0, 0, false, false, false⟩, dom := List.replicate 10 { Domain.init with ssEnded := true }
      sup := { State.reset.sup with pack := true, battMv := 30000, lineDv := 1100, vbk175 := true, vbk150 := true }
      line := { State.reset.line with present := true, qual := true, fullOn := true }
      nvm := { State.reset.nvm with bootStep := 9, vnvm := false }
      way := { State.reset.way with recs := ⟨1, true, 0, 0, 0, false⟩ :: List.replicate 30 ⟨0, false, 0, 0, 0, false⟩ } }
  let s := (List.range 12).foldl (fun s k => s.wn (A.ENG_LEN k) 4) s
  let s := domains.foldl (fun s n => s.p (F.DOM_CFG_USED n) 1) s
  let s := ((s.p F.HIF_VER_VER 3).p F.SYS_STRAP_ROLE 1).p F.DRV_PHCFG_FITTED 63
  ((((s.p F.DRV_PHEN_EN 63).p F.DRV_STAT_MODE 3).p F.DRV_SHED_EN 1).p F.DRV_SHED_MINACT 2).p (F.DOM_STAT_CMDON 1) 1

/-- The state that an outcome answers, and `base` where it answers none. -/
def nextOf (o : Host.Outcome State Fault Refusal) : State :=
  match o with
  | .next t => t
  | _ => base

/-- Whether an outcome answers a state. -/
def isNext (o : Host.Outcome State Fault Refusal) : Bool :=
  match o with
  | .next _ => true
  | _ => false

theorem next_of_isNext (o : Host.Outcome State Fault Refusal) (h : isNext o = true) : o = .next (nextOf o) := by
  cases o with
  | next t => rfl
  | fault f => cases h
  | refused r => cases h

/-- Whether an outcome is the fault f. -/
def stopsWith (f : Fault) (o : Host.Outcome State Fault Refusal) : Bool :=
  match o with
  | .fault g => decide (g = f)
  | _ => false

theorem fault_of_stopsWith (f : Fault) (o : Host.Outcome State Fault Refusal) (h : stopsWith f o = true) : o = .fault f := by
  cases o with
  | next t => cases h
  | fault g => rw [show g = f from of_decide_eq_true h]
  | refused r => cases h

/-- The reason with which a frame's checks end. -/
def reasonOf (x : Except Nat Command) : Option Nat :=
  match x with
  | .ok _ => none
  | .error r => some r

theorem error_of_reasonOf (r : Nat) (x : Except Nat Command) (h : reasonOf x = some r) : x = .error r := by
  cases x with
  | ok c => cases h
  | error e => rw [show e = r from Option.some.inj h]

/-- A device in HIBERNATE with nothing left to do. -/
def still : State := { State.reset with power := .hibernate, hif := { State.reset.hif with seen := State.liveBits { State.reset with power := .hibernate } } }

/-- `base` with its live status bits seen and the charger's watchdog running. -/
def seen : State :=
  let s := base.p F.CHG_TMRCFG_WDTO 1
  { s with hif := { s.hif with seen := s.liveBits }, chg := { s.chg with wdRun := true } }

/-! ### Ill-formed commands -/

/-- A command frame of no bytes. -/
def noFrame : Frame := ⟨0, false, [], false, 0, false⟩

/-- Of every check of WellFormed.lean one command that it refuses. -/
theorem test_illFormed_power_host :
    [Instr.learnedReadDone [] [], .fflogReadDone [], .verifyReadDone [], .wakePinEdge 0 true, .wakePinEdge 3 true, .thermalShutdown 8, .shutdownRelease 8, .reservedOpcode 0xF0 noFrame, .statusPoll 128 0].all
      (fun c => !c.wf) = true := by
  decide

theorem test_illFormed_engines_domains :
    [Instr.engineStart 12, .set 12, .waitc 12 State.reset.pins, .loop 12, .engStall 12, .timerExpiry 4, .softStartEnd 1, .softStartEnd 11, .inputLockoutChange 1 0, .currentLimitActs 1, .powerGood 0, .underVoltageReport 11,
     .comparatorChange 16 0 ⟨[], false⟩, .blankingEnd 16 0 ⟨[], false⟩, .resetOutputRelease 3, .supervisionTick [(16, 0)] ⟨[], false⟩, .dvsSetpointWrite 3 0, .dvsTargetReached 6, .domCntclr 0 0].all (fun c => !c.wf) = true := by
  decide

theorem test_illFormed_drive_stroke_gauge :
    [Instr.balanceUpdate [] 0, .driveFastLimit 0 0, .hiccupEntry 0, .openPhaseDetect 7 0, .senseFailDetect 1 0 0, .senseFailDetect 1 4 0, .phaseRetire [7], .provingSample 3 0 0, .streamInterval 8 0,
     .coulombResult 32768, .chargerStepSample 1 0 0, .authResponseRead []].all (fun c => !c.wf) = true := by
  decide

theorem test_illFormed_wayline_adc_faults :
    [Instr.milestoneReceived 32 0 0 ⟨0, 0, 0⟩ ⟨0, 0, 0⟩, .milestoneReceived 0 65536 0 ⟨0, 0, 0⟩ ⟨0, 0, 0⟩, .milestoneReceived 0 0 65536 ⟨0, 0, 0⟩ ⟨0, 0, 0⟩, .milestoneReceived 0 0 0 ⟨8, 0, 0⟩ ⟨0, 0, 0⟩,
     .milestoneReceived 0 0 0 ⟨0, 0, 0⟩ ⟨0, 32, 0⟩, .statusFrameReceived 0 0, .statusFrameReceived 1 4294967296, .joinFrameReceived 32 0 none, .joinFrameReceived 1 256 none, .joinFrameReceived 1 0 (some 18446744073709551616),
     .leaveFrameReceived 0, .workerAbsent 32, .relayRequestReceived 0 17, .relayReplyReceived 1 [], .adcConversionStart false (some 8), .adcConversionDone 3 0 0, .adcConversionDone 0 4096 0, .adcResLoRead 64,
     .calStepEnd 262081 0, .bgCalDone 262081, .fltFrc 8 0].all (fun c => !c.wf) = true := by
  decide

/-! ### Worked examples of the spec -/

/-- R118. -/
theorem test_crc8_check : crc8 [0x31, 0x32, 0x33, 0x34, 0x35, 0x36, 0x37, 0x38, 0x39] = 0x20 := by decide +kernel

/-- R75. -/
theorem test_crc32_check : crc32 [0x31, 0x32, 0x33, 0x34, 0x35, 0x36, 0x37, 0x38, 0x39] = 0xCBF43926 := by decide +kernel

/-- 05_waymark_engines.md, the example after R171: JUMP 16, ENABLE kind 1 of CORE_A and CORE_B, SYNC of F1 with CLR, WAIT 2,000 µs. -/
theorem test_steps : [0x70000010, 0x11000018, 0x90000101, 0x400007D0].map decodeStep =
    [.ok (.jump false false 0 16), .ok (.enable 1 0x18), .ok (.sync true 1), .ok (.wait false 2000)] := by rfl

/-- R153 to R163: a step of every opcode at the ends of its fields, from the tables of 05_waymark_engines.md. -/
theorem test_step_words : [0x100003FF, 0x14000000, 0x200103FF, 0x304901FF, 0x41FFFFFF, 0x58FFFFFF, 0x68FF0FFF, 0x6EFF007F, 0x7CFF0FFF, 0x8101FFFF, 0x86000002, 0x9000011F].map decodeStep =
    [.ok (.enable 0 1023), .ok (.enable 4 0), .ok (.disable 0 1023 true), .ok (.set 0x49 511), .ok (.wait true 16777215), .ok (.waitc true 255 65535), .ok (.check true false false 255 4095), .ok (.check true true true 255 127),
     .ok (.jump true true 255 4095), .ok (.signal 1 131071), .ok (.signal 6 2), .ok (.sync true 31)] := by rfl

/-- The example of 04_host_interface.md: the read of SYS_STATE in RUN, its command CRC and the CRC of its reply. -/
theorem test_rd_frame : crc8 [0x01, 0x01, 0x00, 0x01] = 0x79 ∧ replyCrc 0 [0x00A5] = 0xEE ∧ (opOf 0x01).isSome = true := by decide +kernel

/-- R121: the words that a RD of SYS_STATE returns in that state. -/
theorem test_sys_state : (base.readWords .host 0x0100 1).1 = [0x00A5] := by decide +kernel

/-- The example after R525: code 2,979 on channel 22 with the default coefficients. -/
theorem test_adc_example : resWord 22 (corrected 2979 (State.reset.coefOfs 0) (State.reset.coefGain 0) 0) = 0xBA30 := by decide +kernel

/-- The example of 19_millrace_queue.md: the header of the fault packet and the payload of the retirement packet. -/
theorem test_packet_words : (header { State.reset with mrq := { State.reset.mrq with seq := 3 } } 1 0x03 2 13).head? = some 0x43080DA0 ∧ PktBody.payload State.reset (.retirement 3 1 0 3 300) = [0x3430012C] := by decide +kernel

/-- The example after R84: a setpoint of 2,200 within a window up to 2,000. -/
theorem test_clamp_example : ({ base with nvm := { base.nvm with windows := [(A.DRV_VSET, 0, 12, false, 1600, 2000)] } }.clampField (2200, false) F.DRV_VSET_CODE) = (2000, true) := by decide +kernel

/-- R149: trigger 1 pre-empts a running entry and discards a pending trigger 0. -/
theorem test_trigger_one : trigEngine 1 false ⟨.run, 9, [0, 5], 3, 4, false, false, false⟩ = ⟨.idle, 9, [1, 5], 3, 4, false, false, true⟩ := by decide

/-- R345: the bands of a STROKE pulse just inside their 2 µs of uncertainty, just outside, and within, where the open choice says which. -/
theorem test_pulse_bands :
    [121, 979, 2021, 4979, 10021, 19979, 30021, 49979].map (fun w => pulseBand w false) = [some (false, 0), some (false, 0), some (false, 1), some (false, 1), some (true, 0), some (true, 0), some (true, 1), some (true, 1)] ∧
    [79, 1021, 1979, 5021, 9979, 20021, 29979, 50021].all (fun w => pulseBand w true = none) = true ∧
    [80, 1020, 1980, 5020, 9980, 20020, 29980, 50020].all (fun w => (pulseBand w true).isSome && (pulseBand w false).isNone) = true := by decide +kernel

/-- R22, R24, R27: the level bands in mV, at their edges. -/
theorem test_levels : [99, 100, 309, 311, 1500, 1501].map sixLevel = [0, 1, 1, 2, 4, 5] ∧ [67, 68, 219, 221, 1520, 1521].map eightLevel = [0, 1, 1, 2, 6, 7] := by decide +kernel

/-- FIPS 180-4, the example of one block: the digest of "abc" (R450). -/
theorem test_sha256_abc :
    sha256 [0x61, 0x62, 0x63] = [0xba, 0x78, 0x16, 0xbf, 0x8f, 0x01, 0xcf, 0xea, 0x41, 0x41, 0x40, 0xde, 0x5d, 0xae, 0x22, 0x23, 0xb0, 0x03, 0x61, 0xa3, 0x96, 0x17, 0x7a, 0x9c, 0xb4, 0x10, 0xff, 0x61, 0xf2, 0x00, 0x15, 0xad] := by
  decide +kernel

/-! ### What meets the hypotheses -/

theorem test_meets_Crc8Closes : ∃ (bs : List Byte) (b : Byte), crc8 (bs ++ [b]) = 0 :=
  ⟨[0x31], crc8 [0x31], by decide +kernel⟩

theorem test_meets_StepEncodings :
    (∃ kind mask : Nat, kind = 4 ∧ mask = 0) ∧ (∃ kind mask : Nat, kind = 3 ∧ mask < 65536) ∧ (∃ kind mask : Nat, kind = 0 ∧ mask < 1024) ∧ (∃ i v : Nat, 0x41 ≤ i ∧ i ≤ 0x49 ∧ i ≠ 0x48 ∧ v < 512) ∧ (∃ n : Nat, n < 2 ^ 24) ∧
    (∃ c t : Nat, c < 256 ∧ t < 65536) ∧ (∃ c t : Nat, c < 256 ∧ t < 4096) ∧ (∃ c src : Nat, c < 256 ∧ src < 128) ∧ (∃ kind op : Nat, kind = 6 ∧ (op = 1 ∨ op = 2)) ∧ (∃ f : Nat, f < 32) ∧ (∃ w : Nat, w < 2 ^ 32 ∧ 11 ≤ w / 2 ^ 28) :=
  ⟨⟨4, 0, by decide⟩, ⟨3, 65535, by decide⟩, ⟨0, 1023, by decide⟩, ⟨0x49, 511, by decide⟩, ⟨16777215, by decide⟩, ⟨255, 65535, by decide⟩, ⟨255, 4095, by decide⟩, ⟨255, 127, by decide⟩, ⟨6, 2, by decide⟩, ⟨31, by decide⟩, ⟨0xB0000000, by decide⟩⟩

theorem test_meets_TriggerRules : ∃ (t u : Nat) (e : Engine), e.mode ≠ .stopped ∧ u ∈ e.pend ∧ u ≠ 0 ∧ t ≠ u :=
  ⟨1, 5, ⟨.run, 9, [0, 5], 3, 4, false, false, false⟩, by decide⟩

/-- A device that takes STROKE pulses. -/
def pulsed : State := (base.p F.STK_CFG_PINEN 1).pb (F.DOM_STAT_CMDON 1) true

/-- The clauses of StrokeHintsAndEnds on a STROKE pulse, at both ends of every range of widths. -/
theorem test_meets_StrokeHintsAndEnds_edges :
    (pulsed.running = true ∧ pulsed.b F.STK_CFG_PINEN = true ∧ pulsed.sup.vioh = true ∧ pulsed.power = .run ∧ pulsed.cmdOn 1 = true ∧ pulsed.preArmed = false ∧ pulsed.strokeRuns = false) ∧
    (∀ x ∈ ([(121, false, 0), (979, false, 0), (2021, false, 1), (4979, false, 1), (10021, true, 0), (19979, true, 0), (30021, true, 1), (49979, true, 1)] : List (Nat × Bool × Nat)),
      120 < x.1 ∧ x.1 < 980 ∧ x.2.1 = false ∧ x.2.2 = 0 ∨ 2020 < x.1 ∧ x.1 < 4980 ∧ x.2.1 = false ∧ x.2.2 = 1 ∨ 10020 < x.1 ∧ x.1 < 19980 ∧ x.2.1 = true ∧ x.2.2 = 0 ∨ 30020 < x.1 ∧ x.1 < 49980 ∧ x.2.1 = true ∧ x.2.2 = 1) ∧
    (∀ w ∈ [11, 79, 1021, 1979, 5021, 9979, 20021, 29979, 50021], 10 < w ∧ w < 80 ∨ 1020 < w ∧ w < 1980 ∨ 5020 < w ∧ w < 9980 ∨ 20020 < w ∧ w < 29980 ∨ 50020 < w) ∧
    (∀ x ∈ ([(80, false, 0), (120, false, 0), (980, false, 0), (1020, false, 0), (1980, false, 1), (2020, false, 1), (4980, false, 1), (5020, false, 1), (9980, true, 0), (10020, true, 0), (19980, true, 0), (20020, true, 0), (29980, true, 1), (30020, true, 1),
        (49980, true, 1), (50020, true, 1)] : List (Nat × Bool × Nat)),
      (80 ≤ x.1 ∧ x.1 ≤ 120 ∨ 980 ≤ x.1 ∧ x.1 ≤ 1020) ∧ x.2.1 = false ∧ x.2.2 = 0 ∨ (1980 ≤ x.1 ∧ x.1 ≤ 2020 ∨ 4980 ≤ x.1 ∧ x.1 ≤ 5020) ∧ x.2.1 = false ∧ x.2.2 = 1 ∨
      (9980 ≤ x.1 ∧ x.1 ≤ 10020 ∨ 19980 ≤ x.1 ∧ x.1 ≤ 20020) ∧ x.2.1 = true ∧ x.2.2 = 0 ∨ (29980 ≤ x.1 ∧ x.1 ≤ 30020 ∨ 49980 ≤ x.1 ∧ x.1 ≤ 50020) ∧ x.2.1 = true ∧ x.2.2 = 1) ∧
    (10 ≤ 10 ∧ ({ pulsed with power := .fault } : State).running = false) := by
  decide +kernel


theorem test_meets_StepTakesFront :
    (∃ (s : State) (c : Instr) (r : List Instr), s.pending = c :: r) ∧
    (∃ (s : State), s.pending = [] ∧ s.ctl.seqOff = []) ∧
    (∃ (s : State), s.pending = [] ∧ s.ctl.seqOff ≠ []) :=
  ⟨⟨(let s := base; let c : Instr := .pinReset; let r : List Instr := [.nop ⟨0, false, [], false, 0, false⟩]; { s with pending := c :: r }), .pinReset, [.nop ⟨0, false, [], false, 0, false⟩], by decide +kernel⟩,
    ⟨(let s := base; { s with ctl := { s.ctl with seqOff := [] } }), by decide +kernel⟩,
    ⟨(let s := base; let s := s.p (F.DOM_STAT_CMDON 3) 1; let s := s.p (F.DOM_STAT_RANK 3) 1; { s with ctl := { s.ctl with seqOff := [3] } }), by decide +kernel⟩⟩

theorem test_meets_EveryStepCloses : ∃ s t : State, s.closed = true ∧ step s = .next t := ⟨State.reset, State.reset, by decide +kernel, rfl⟩

theorem test_meets_FaultsOnlyWhereUndefined : ∃ (c : Instr) (s : State) (f : Fault), exec c s = .fault f ∧ s.mayStop c f = true :=
  ⟨.wayRstcmd 0x01#16, base.p F.SYS_STRAP_ROLE 2, .undefinedWrite A.WAY_RSTCMD, fault_of_stopsWith _ _ (by decide +kernel), by decide +kernel⟩

theorem test_meets_LiveChangeSetsAttn : ∃ (c : Instr) (s t : State), s.closed = true ∧ s.aoOn = true ∧ exec c s = .next t ∧ t.aoOn = true ∧ t.liveBits ≠ s.liveBits :=
  ⟨.chgWatchdogExpiry, seen, nextOf (exec .chgWatchdogExpiry seen), by decide +kernel, by decide +kernel, next_of_isNext _ (by decide +kernel), by decide +kernel, by decide +kernel⟩

theorem test_meets_StepKeepsWf : ∃ (c : Instr) (s t : State), s.wf = true ∧ exec c s = .next t :=
  ⟨.chgWatchdogExpiry, seen, nextOf (exec .chgWatchdogExpiry seen), by decide +kernel, next_of_isNext _ (by decide +kernel)⟩

theorem test_meets_SettleFrame :
    (∃ s : State, s.aoOn = false) ∧ (∃ s : State, s.power = .boot) ∧ (∃ s : State, s.hif.attn = true) ∧ (∃ s : State, s.flt.raised = [] ∧ s.settle.power = s.power ∧ (s.line.t4Due = false ∨ s.weirForcedOn = false)) ∧
    (∃ s : State, s.aoOn = true ∧ s.power ≠ .boot ∧ s.flt.raised = [] ∧ s.mrq.outbox = [] ∧ s.mrq.opened = [] ∧ s.followUp = s ∧ s.followOn = s ∧ s.liveBits = s.hif.seen) :=
  ⟨⟨{ base with power := .dead }, by decide +kernel⟩,
    ⟨State.reset, rfl⟩,
    ⟨{ base with hif := { base.hif with attn := true } }, by decide +kernel⟩,
    ⟨base, by decide +kernel⟩,
    ⟨still, by decide +kernel⟩⟩

theorem test_meets_SuppliesAndClocks :
    (∃ (s : State), (s.power = .dead ∨ s.power = .vbkupOnly)) ∧
    (∃ (s : State) (mv : Nat), s.aoOn = true ∧ s.sup.vbk175 = true ∧ mv < 1750) ∧
    (∃ (s : State), s.aoOn = true ∧ s.b F.SYS_CFG_LFXTAL = true ∧ s.sup.xtalGiven = false) ∧
    (∃ (s : State), s.aoOn = true) ∧
    (∃ (s : State), s.aoOn = true ∧ s.power ≠ .run ∧ s.power ≠ .boot ∧ s.power ≠ .powerUp ∧ s.power ≠ .powerDown ∧ s.fastDemand = false) ∧
    (∃ (s : State) (c : Instr), s.aoOn = true ∧ (c = .aoBrownout ∨ ∃ l b, c = .preregStop l b)) ∧
    (∃ (s : State), (s.power = .dead ∨ s.power = .vbkupOnly) ∧ s.sup.starting = true) :=
  ⟨⟨(let s := base; { s with power := .dead }), by decide +kernel⟩,
    ⟨(let s := base; { s with sup := { s.sup with vbk175 := true } }), 1600, by decide +kernel⟩,
    ⟨(let s := base; let s := s.p F.SYS_CFG_LFXTAL 1; { s with sup := { s.sup with xtalGiven := false } }), by decide +kernel⟩,
    ⟨base, by decide +kernel⟩,
    ⟨(let s := base; { s.p (F.DOM_STAT_CMDON 1) 0 with power := .watch }), by decide +kernel⟩,
    ⟨base, .preregStop 0 0, by decide +kernel, .inr ⟨0, 0, rfl⟩⟩,
    ⟨(let s := base; let s := { s with power := .dead }; let s := { s with sup := { s.sup with starting := true } }; { s with power := .dead, sup := { s.sup with starting := true } }), by decide +kernel⟩⟩

theorem test_meets_BootReads :
    (∃ (s : State) (a : List Byte) (b : List Byte), s.power = .boot ∧ s.ctl.resetting = none ∧ s.nvm.bootStep = 0 ∧ imgState a ≠ 1 ∧ imgState b ≠ 1) ∧
    (∃ (s : State) (a : List Byte) (b : List Byte) (x : List Byte), s.power = .boot ∧ s.ctl.resetting = none ∧ s.nvm.bootStep = 0 ∧ (imgState a = 1 ∧ x = a ∨ imgState a ≠ 1 ∧ imgState b = 1 ∧ x = b) ∧ leAt x 3 1 = 3 ∧ leAt x 4 2 = 16 ∧ leAt x 12 2 = 0) ∧
    (∃ (s : State), s.power = .boot ∧ s.ctl.resetting = none ∧ s.nvm.bootStep = 1) ∧
    (∃ (s : State), s.power = .boot ∧ s.ctl.resetting = none ∧ s.nvm.bootStep = 2 ∧ s.flt.held = [] ∧ s.flt.raised = []) ∧
    (∃ (s : State) (a : List Byte) (b : List Byte) (x : List Byte), s.power = .boot ∧ s.ctl.resetting = none ∧ s.nvm.bootStep = 0 ∧ (imgState a = 1 ∧ x = a ∨ imgState a ≠ 1 ∧ imgState b = 1 ∧ x = b) ∧ leAt x 3 1 = 3 ∧ leAt x 4 2 = 24 ∧ leAt x 12 2 = 1 ∧ leAt x 14 2 = 4 ∧ leAt x 16 2 = A.DRV_VSET ∧ leAt x 18 2 ≤ 2400 ∧ leAt x 20 2 = 0) ∧
    (∃ (s : State) (a : List Byte) (b : List Byte) (x : List Byte), s.power = .boot ∧ s.ctl.resetting = none ∧ s.nvm.bootStep = 0 ∧ (imgState a = 1 ∧ x = a ∨ imgState a ≠ 1 ∧ imgState b = 1 ∧ x = b) ∧ leAt x 3 1 = 2 ∧ leAt x 4 2 = 24 ∧ leAt x 12 2 = 1 ∧ leAt x 14 2 = 4 ∧ (leAt x 16 2 = 0x70 ∨ leAt x 16 2 = 0x46) ∧ leAt x 18 2 ≤ 2400 ∧ leAt x 20 2 = 0) ∧
    (∃ (s : State) (r : Raise), s.power = .boot ∧ s.ctl.resetting = none ∧ s.nvm.bootStep = 2 ∧ s.flt.held = [r] ∧ s.flt.raised = [] ∧ s.srcEn r.source = true ∧ 2 ≤ s.appliedClass r) :=
  ⟨⟨(let s := base; let s := { s with power := .boot }; let s := { s with ctl := { s.ctl with resetting := none } }; { s with nvm := { s.nvm with bootStep := 0 } }), [], [], by decide +kernel⟩,
    ⟨(let s := base; let s := { s with power := .boot }; let s := { s with ctl := { s.ctl with resetting := none } }; { s with nvm := { s.nvm with bootStep := 0 } }), [], [83, 72, 85, 3, 16, 0, 52, 18, 130, 119, 123, 195, 0, 0, 0, 0], [83, 72, 85, 3, 16, 0, 52, 18, 130, 119, 123, 195, 0, 0, 0, 0], by decide +kernel⟩,
    ⟨(let s := base; let s := { s with power := .boot }; let s := { s with ctl := { s.ctl with resetting := none } }; { s with nvm := { s.nvm with bootStep := 1 } }), by decide +kernel⟩,
    ⟨(let s := base; let s := { s with power := .boot }; let s := { s with ctl := { s.ctl with resetting := none } }; let s := { s with nvm := { s.nvm with bootStep := 2 } }; let s := { s with flt := { s.flt with held := [] } }; { s with flt := { s.flt with raised := [] } }), by decide +kernel⟩,
    ⟨(let s := base; let s := { s with power := .boot }; let s := { s with ctl := { s.ctl with resetting := none } }; { s with nvm := { s.nvm with bootStep := 0 } }), [83, 72, 85, 3, 24, 0, 52, 18, 0, 62, 81, 164, 1, 0, 4, 0, 1, 4, 176, 4, 0, 0, 0, 0], [], [83, 72, 85, 3, 24, 0, 52, 18, 0, 62, 81, 164, 1, 0, 4, 0, 1, 4, 176, 4, 0, 0, 0, 0], by decide +kernel⟩,
    ⟨(let s := base; let s := { s with power := .boot }; let s := { s with ctl := { s.ctl with resetting := none } }; { s with nvm := { s.nvm with bootStep := 0 } }), [], [83, 72, 85, 2, 24, 0, 52, 18, 94, 64, 66, 183, 1, 0, 4, 0, 112, 0, 176, 4, 0, 0, 0, 0], [83, 72, 85, 2, 24, 0, 52, 18, 94, 64, 66, 183, 1, 0, 4, 0, 112, 0, 176, 4, 0, 0, 0, 0], by decide +kernel⟩,
    ⟨(let s := base; let r : Raise := ⟨5, .detector, 1⟩; let s := { s with power := .boot }; let s := { s with ctl := { s.ctl with resetting := none } }; let s := { s with nvm := { s.nvm with bootStep := 2 } }; let s := { s with flt := { s.flt with held := [r] } }; let s := { s with flt := { s.flt with raised := [] } }; (({ s with flt := { s.flt with held := [r] } } : State).pbit (A.FLT_EN 0) 5 true).p ⟨A.FLT_CLS 0, 10, 2⟩ 3), ⟨5, .detector, 1⟩, by decide +kernel⟩⟩

theorem test_meets_ResetsEnterBoot :
    (∃ (s : State) (c : Instr) (pin : Bool), (c = .pinReset ∧ pin = true ∧ s.aoOn = true ∨ c = .sysReset 0xA5C3#16 ∧ pin = false ∧ s.hostAlive = true)) ∧
    (∃ (w : Word), w ≠ 0xA5C3#16) ∧
    (∃ (s : State), s.ctl.resetting = some .host) ∧
    (∃ (s : State), s.ctl.resetting = some .pin) :=
  ⟨⟨base, .pinReset, true, by decide +kernel⟩,
    ⟨1#16, by decide +kernel⟩,
    ⟨(let s := base; { s with ctl := { s.ctl with resetting := some .host } }), by decide +kernel⟩,
    ⟨(let s := base; { s with ctl := { s.ctl with resetting := some .pin } }), by decide +kernel⟩⟩

theorem test_meets_ControlRequests :
    (∃ (s : State), s.sup.vioh = true ∧ s.power = .watch) ∧
    (∃ (s : State), s.sup.vioh = true ∧ s.power = .run ∧ s.strokeActive = false) ∧
    (∃ (s : State), s.sup.vioh = true ∧ (s.power = .run ∨ s.power = .watch)) ∧
    (∃ (s : State), s.sup.vioh = true ∧ s.power = .hibernate) ∧
    (∃ (s : State), s.sup.vioh = true ∧ (s.power = .run ∨ s.power = .watch) ∧ s.line.qual = false ∧ s.present = true) ∧
    (∃ (s : State), s.line.qual = true) :=
  ⟨⟨(let s := base; let s := { s with sup := { s.sup with vioh := true } }; { s with power := .watch }), by decide +kernel⟩,
    ⟨(let s := base; let s := { s with sup := { s.sup with vioh := true } }; { s with power := .run }), by decide +kernel⟩,
    ⟨(let s := base; let s := { s with sup := { s.sup with vioh := true } }; { s with power := .run }), by decide +kernel⟩,
    ⟨(let s := base; let s := { s with sup := { s.sup with vioh := true } }; { s with power := .hibernate }), by decide +kernel⟩,
    ⟨(let s := base; let s := { s with sup := { s.sup with vioh := true } }; let s := { s with power := .run }; { s with line := { s.line with qual := false } }), by decide +kernel⟩,
    ⟨(let s := base; { s with line := { s.line with qual := true } }), by decide +kernel⟩⟩

theorem test_meets_WakesAndPushButton :
    (∃ (s : State) (pin : Nat) (mode : Nat) (rising : Bool), s.power = .hibernate ∧ (pin = 1 ∧ s.g F.SYS_WAKECFG_WAKE1_MODE = mode ∨ pin = 2 ∧ s.g F.SYS_WAKECFG_WAKE2_MODE = mode) ∧ (mode = 1 ∧ rising = true ∨ mode = 2 ∧ rising = false ∨ mode = 3)) ∧
    (∃ (s : State) (pin : Nat) (mode : Nat) (rising : Bool), s.power = .hibernate ∧ (pin = 1 ∧ s.g F.SYS_WAKECFG_WAKE1_MODE = mode ∨ pin = 2 ∧ s.g F.SYS_WAKECFG_WAKE2_MODE = mode) ∧ (mode = 0 ∨ mode = 1 ∧ rising = false ∨ mode = 2 ∧ rising = true)) ∧
    (∃ (s : State) (code : Nat), s.power = .hibernate ∧ s.ctl.onReq = some code ∧ code < 16) ∧
    (∃ (s : State), s.power = .run ∧ s.ctl.pb = .up) ∧
    (∃ (s : State), s.power = .powerDown ∧ s.ctl.pb = .up ∧ s.ctl.pbFreed = true ∧ s.ctl.forced = true) ∧
    (∃ (s : State), s.power ≠ .boot) ∧
    (∃ (s : State), s.power = .run ∧ s.ctl.pb = .held ∧ s.b F.SYS_PBCFG_PB_LONG_EN = true) ∧
    (∃ (s : State), (s.power = .run ∨ s.power = .watch) ∧ s.ctl.pb = .warned ∧ s.b F.SYS_PBCFG_PB_LONG_EN = true) ∧
    (∃ (s : State) (ms : Nat), s.power = .run ∧ s.ctl.pb = .held ∧ 50 ≤ ms ∧ ms ≤ 2000) ∧
    (∃ (s : State), s.power = .ship ∧ 5000 ≤ s.sup.battMv) :=
  ⟨⟨(let s := base; let s := { s with power := .hibernate }; s.p F.SYS_WAKECFG_WAKE2_MODE 2), 2, 2, false, by decide +kernel⟩,
    ⟨(let s := base; let s := { s with power := .hibernate }; s.p F.SYS_WAKECFG_WAKE1_MODE 1), 1, 1, false, by decide +kernel⟩,
    ⟨(let s := base; let s := { s with power := .hibernate }; { s with ctl := { s.ctl with onReq := some 3 } }), 3, by decide +kernel⟩,
    ⟨(let s := base; let s := { s with power := .run }; { s with ctl := { s.ctl with pb := .up } }), by decide +kernel⟩,
    ⟨(let s := base; let s := { s with power := .powerDown }; let s := { s with ctl := { s.ctl with pb := .up } }; let s := { s with ctl := { s.ctl with pbFreed := true } }; { s with ctl := { s.ctl with forced := true } }), by decide +kernel⟩,
    ⟨base, by decide +kernel⟩,
    ⟨(let s := base; let s := { s with power := .run }; let s := { s with ctl := { s.ctl with pb := .held } }; s.p F.SYS_PBCFG_PB_LONG_EN 1), by decide +kernel⟩,
    ⟨(let s := base; let s := { s with power := .run }; let s := { s with ctl := { s.ctl with pb := .warned } }; s.p F.SYS_PBCFG_PB_LONG_EN 1), by decide +kernel⟩,
    ⟨(let s := base; let s := { s with power := .run }; { s with ctl := { s.ctl with pb := .held } }), 50, by decide +kernel⟩,
    ⟨(let s := base; { s with power := .ship }), by decide +kernel⟩⟩

theorem test_meets_HoldThermalWatchdog :
    (∃ (s : State), (s.power = .run ∨ s.power = .watch) ∧ s.ctl.holdWarn = true) ∧
    (∃ (s : State) (k : Nat), s.power = .run ∧ k < 8 ∧ s.flt.raised = [] ∧ s.ctl.thRestarts < 3 ∧ s.srcCls (64 + k) < 2 ∧ s.srcCls 121 < 2 ∧ s.srcCls 122 < 2) ∧
    (∃ (s : State) (k : Nat), s.power = .fault ∧ k < 8) ∧
    (∃ (s : State), s.power = .thermalOff ∧ s.allCool = true ∧ s.ctl.thFrom = .run) ∧
    (∃ (s : State), s.power = .thermalOff ∧ s.allCool = true ∧ s.ctl.thFrom = .powerDown ∧ s.flt.incident = none ∧ s.ctl.latched = none ∧ s.ctl.shipping = false) ∧
    (∃ (s : State), s.running = true) :=
  ⟨⟨(let s := base; let s := { s with power := .run }; { s with ctl := { s.ctl with holdWarn := true } }), by decide +kernel⟩,
    ⟨(let s := base; let s := { s with power := .run }; { s with flt := { s.flt with raised := [] } }), 1, by decide +kernel⟩,
    ⟨(let s := base; { s with power := .fault }), 1, by decide +kernel⟩,
    ⟨(let s := base; let s := { s with power := .thermalOff }; { s with ctl := { s.ctl with thFrom := .run } }), by decide +kernel⟩,
    ⟨(let s := base; let s := { s with power := .thermalOff }; let s := { s with ctl := { s.ctl with thFrom := .powerDown } }; let s := { s with flt := { s.flt with incident := none } }; let s := { s with ctl := { s.ctl with latched := none } }; let s := { s with ctl := { s.ctl with shipping := false } }; { s.wn A.THM_SDSTAT 0 with ctl := { s.ctl with thFrom := .powerDown } }), by decide +kernel⟩,
    ⟨base, by decide +kernel⟩⟩

/-- A device in FAULT with a press of the push-button at the front of its queue. -/
def failed : State := { base with power := .fault, pending := [.pbPress] }

theorem test_meets_FaultStays :
    (∃ (s : State) (c : Instr), s.power = .fault ∧ ∃ w, c = .sysShip w) ∧ (∃ s t : State, s.power = .fault ∧ step s = .next t) ∧
    (∃ s t : State, s.power = .fault ∧ (∀ c, s.pending.head? = some c → (∀ l b, c ≠ .preregStop l b) ∧ c ≠ .aoBrownout ∧ c ≠ .pinReset ∧ c ≠ .sysReset 0xA5C3#16 ∧ (∀ a, a.toNat = A.SYS_RESET → c ≠ .registerWrite a 0xA5C3#16) ∧
      (∀ f, c ≠ .wr f) ∧ ∀ u v n a0 a1, c ≠ .milestoneReceived u v n a0 a1) ∧ step s = .next t) ∧
    (∃ s : State, s.power = .fault ∧ s.sup.vioh = true) :=
  ⟨⟨failed, .sysShip 0x5A3C, by decide +kernel, _, rfl⟩,
    ⟨failed, nextOf (step failed), by decide +kernel, next_of_isNext _ (by decide +kernel)⟩,
    ⟨failed, nextOf (step failed), by decide +kernel,
      fun c h => by
        have e : c = .pbPress := by simpa [failed] using h.symm
        subst e
        refine ⟨?_, ?_, ?_, ?_, ?_, ?_, ?_⟩ <;> (intros; intro k; cases k),
      next_of_isNext _ (by decide +kernel)⟩,
    ⟨failed, by decide +kernel⟩⟩

theorem test_meets_FramesAccepted :
    (∃ (s : State), s.hostAlive = true ∧ s.isI2c = false ∧ 2 ≤ s.version) ∧
    (∃ (s : State) (c : Byte) (taken : Nat), s.hostAlive = true ∧ s.isI2c = false ∧ 2 ≤ s.version ∧ 1 ≤ c.toNat ∧ c.toNat ≤ 16 ∧ 2 * c.toNat ≤ taken) ∧
    (∃ (s : State) (c : Byte) (taken : Nat), s.hostAlive = true ∧ s.isI2c = false ∧ 2 ≤ s.version ∧ 1 ≤ c.toNat ∧ 2 * c.toNat ≤ taken) ∧
    (∃ (s : State) (hi : Byte) (lo : Byte) (c : Byte) (taken : Nat), s.hostAlive = true ∧ s.isI2c = false ∧ 2 ≤ s.version ∧ s.version = 3 ∧ 1 ≤ c.toNat ∧ c.toNat ≤ 8 ∧ beNat hi lo + 2 * c.toNat ≤ 65536 ∧ 4 * c.toNat ≤ taken) ∧
    (∃ (s : State) (k : Byte), s.hostAlive = true ∧ s.isI2c = false ∧ 2 ≤ s.version ∧ k.toNat < 16) ∧
    (∃ (s : State) (v : Byte), s.hostAlive = true ∧ s.isI2c = false ∧ 1 ≤ s.version ∧ 1 ≤ v.toNat ∧ v.toNat ≤ 3) ∧
    (∃ (s : State), s.hostAlive = true ∧ s.isI2c = false ∧ 1 ≤ s.version) ∧
    (∃ (s : State), s.hostAlive = true ∧ s.isI2c = false ∧ s.version = 1) ∧
    (∃ (s : State) (k : Nat) (ws : List Word), s.hostAlive = true ∧ s.isI2c = false ∧ 2 ≤ s.version ∧ ws ≠ [] ∧ k + ws.length ≤ 16) ∧
    (∃ (s : State), s.hostAlive = true ∧ s.isI2c = true ∧ 2 ≤ s.version) ∧
    (∃ (s : State) (f : Frame), s.isI2c = true ∧ f.target ≠ s.i2cAddr) :=
  ⟨⟨base, by decide +kernel⟩,
    ⟨base, 4#8, 64, by decide +kernel⟩,
    ⟨base, 4#8, 64, by decide +kernel⟩,
    ⟨base, 0x01#8, 0x10#8, 4#8, 64, by decide +kernel⟩,
    ⟨base, 1#8, by decide +kernel⟩,
    ⟨base, 1#8, by decide +kernel⟩,
    ⟨base, by decide +kernel⟩,
    ⟨(let s := base; s.p F.HIF_VER_VER 1), by decide +kernel⟩,
    ⟨base, 3, [0x1234#16, 0xFFFF#16, 0#16], by decide +kernel⟩,
    ⟨(let s := base; s.p F.SYS_STRAP_HSEL 3), by decide +kernel⟩,
    ⟨(let s := base; s.p F.SYS_STRAP_HSEL 3), ⟨0x22, false, [0, 0, 0], false, 0, false⟩, by decide +kernel⟩⟩

theorem test_meets_OtherFrames :
    (∃ (s : State) (c : Byte) (taken : Nat) (p : Packet), s.hostAlive = true ∧ s.isI2c = false ∧ 2 ≤ s.version ∧ 2 ≤ c.toNat ∧ c.toNat ≤ 64 ∧ 4 * c.toNat + 1 ≤ taken ∧ s.mrq.head = some p ∧ p.words.length ≤ c.toNat) ∧
    (∃ (s : State) (c : Byte), s.hostAlive = true ∧ s.isI2c = false ∧ 2 ≤ s.version ∧ 2 ≤ c.toNat ∧ c.toNat ≤ 64) ∧
    (∃ (s : State) (c : Byte) (w : Byte), s.hostAlive = true ∧ s.isI2c = false ∧ s.version = 3 ∧ s.isManager = true ∧ s.b F.HIF_RLYSTAT_BUSY = false ∧ 1 ≤ c.toNat ∧ c.toNat ≤ 16 ∧ 1 ≤ w.toNat ∧ w.toNat ≤ 31 ∧ (s.wrec w.toNat).st = 1 ∧ (s.wrec w.toNat).w2 = true) ∧
    (∃ (s : State) (op : Byte) (f : Frame), s.hostAlive = true ∧ s.isI2c = false ∧ s.sup.fastOn = true ∧ f.opCut = false ∧ opOf op.toNat = none) ∧
    (∃ (s : State), s.hostAlive = true ∧ s.isI2c = true) ∧
    (∃ (s : State) (target : Nat), s.isI2c = true ∧ target ≠ s.i2cAddr) ∧
    (∃ (s : State), s.isI2c = false) :=
  ⟨⟨(let s := base; { s with mrq := { s.mrq with pkts := [⟨1, [1#32, 2#32, 3#32]⟩] } }), 3, 13, ⟨1, [1#32, 2#32, 3#32]⟩, by decide +kernel⟩,
    ⟨base, 2#8, by decide +kernel⟩,
    ⟨(let s := base; s.p F.HIF_RLYSTAT_BUSY 0), 16, 1, by decide +kernel⟩,
    ⟨(let s := base; { s with sup := { s.sup with fastOn := true } }), 0x55#8, ⟨0,false,[],false,0,false⟩, by decide +kernel⟩,
    ⟨(let s := base; s.p F.SYS_STRAP_HSEL 2), by decide +kernel⟩,
    ⟨(let s := base; s.p F.SYS_STRAP_HSEL 2), 0x4A, by decide +kernel⟩,
    ⟨base, by decide +kernel⟩⟩

/-- A command frame of a RD of SYS_STATE, its CRC spoilt. -/
def spoilt : Frame := ⟨0, false, [0x01, 0x00, 0x01, 0x7A], false, 8, false⟩

theorem test_meets_RejectedFrameHasNoEffect :
    (∃ (s : State) (f : Frame) (r : Nat), s.hostAlive = true ∧ s.selects f.target = true ∧ (s.isI2c && f.noRead) = false ∧ f.opCut = false ∧
      ∀ c ∈ ([0x00, 0x01, 0x02, 0x03, 0x20, 0x10, 0x11, 0x21, 0xF0, 0xF1] : List Byte), s.checkFrame c f = .error r) ∧
    (∃ (s : State) (f : Frame) (r : Nat), s.hostAlive = true ∧ s.selects f.target = true ∧ (s.isI2c && f.noRead) = false ∧ f.opCut = false ∧ s.checkFrame 0x01 f = .error r) :=
  ⟨⟨base, noFrame, 5, by decide +kernel, by decide +kernel, by decide +kernel, by decide +kernel, fun c h => error_of_reasonOf 5 _ ((by decide +kernel : ∀ c ∈ ([0x00, 0x01, 0x02, 0x03, 0x20, 0x10, 0x11, 0x21, 0xF0, 0xF1] : List Byte), reasonOf (base.checkFrame c noFrame) = some 5) c h)⟩,
    ⟨base, spoilt, 3, by decide +kernel, by decide +kernel, by decide +kernel, by decide +kernel, error_of_reasonOf 3 _ (by decide +kernel)⟩⟩

theorem test_meets_FrameChecks :
    (∃ (v : Nat), 1 ≤ v) ∧
    (∃ (s : State) (f : Frame), f.tooSoon = true ∧ s.isI2c = false ∧ s.sup.fastOn = false) ∧
    (∃ (s : State) (f : Frame), (f.tooSoon = false ∨ s.isI2c = true ∨ s.sup.fastOn = true) ∧ f.opCut = true) ∧
    (∃ (s : State) (code : Byte) (f : Frame), (f.tooSoon = false ∨ s.isI2c = true ∨ s.sup.fastOn = true) ∧ f.opCut = false ∧ opOf code.toNat = none) ∧
    (∃ (s : State) (code : Byte) (f : Frame) (o : Op), (f.tooSoon = false ∨ s.isI2c = true ∨ s.sup.fastOn = true) ∧ f.opCut = false ∧ opOf code.toNat = some o ∧ s.version < o.since) ∧
    (∃ (s : State) (code : Byte) (f : Frame) (o : Op), (f.tooSoon = false ∨ s.isI2c = true ∨ s.sup.fastOn = true) ∧ f.opCut = false ∧ opOf code.toNat = some o ∧ o.since ≤ s.version ∧ f.body.length < 2) ∧
    (∃ (s : State) (code : Byte) (f : Frame) (o : Op) (hi : Byte) (lo : Byte) (r : List Byte), (f.tooSoon = false ∨ s.isI2c = true ∨ s.sup.fastOn = true) ∧ f.opCut = false ∧ opOf code.toNat = some o ∧ o.since ≤ s.version ∧ f.body = hi :: lo :: r ∧ o.addrOk (beNat hi lo) = false) ∧
    (∃ (s : State) (code : Byte) (f : Frame) (o : Op) (hi : Byte) (lo : Byte) (r : List Byte), (f.tooSoon = false ∨ s.isI2c = true ∨ s.sup.fastOn = true) ∧ f.opCut = false ∧ opOf code.toNat = some o ∧ o.since ≤ s.version ∧ f.body = hi :: lo :: r ∧ o.addrOk (beNat hi lo) = true ∧ r = []) ∧
    (∃ (s : State) (code : Byte) (f : Frame) (o : Op) (hi : Byte) (lo : Byte) (r : List Byte) (c : Byte) (d : List Byte), (f.tooSoon = false ∨ s.isI2c = true ∨ s.sup.fastOn = true) ∧ f.opCut = false ∧ opOf code.toNat = some o ∧ o.since ≤ s.version ∧ f.body = hi :: lo :: r ∧ o.addrOk (beNat hi lo) = true ∧ r = c :: d ∧ o.cntOk s.version (beNat hi lo) c.toNat = false) ∧
    (∃ (s : State) (code : Byte) (f : Frame) (o : Op) (hi : Byte) (lo : Byte) (r : List Byte) (c : Byte) (d : List Byte), (f.tooSoon = false ∨ s.isI2c = true ∨ s.sup.fastOn = true) ∧ f.opCut = false ∧ opOf code.toNat = some o ∧ o.since ≤ s.version ∧ f.body = hi :: lo :: r ∧ o.addrOk (beNat hi lo) = true ∧ r = c :: d ∧ o.cntOk s.version (beNat hi lo) c.toNat = true ∧ d.length < 2 * o.dataWords c.toNat) ∧
    (∃ (s : State) (code : Byte) (f : Frame) (o : Op) (hi : Byte) (lo : Byte) (r : List Byte) (c : Byte) (d : List Byte), (f.tooSoon = false ∨ s.isI2c = true ∨ s.sup.fastOn = true) ∧ f.opCut = false ∧ opOf code.toNat = some o ∧ o.since ≤ s.version ∧ f.body = hi :: lo :: r ∧ o.addrOk (beNat hi lo) = true ∧ r = c :: d ∧ o.cntOk s.version (beNat hi lo) c.toNat = true ∧ 2 * o.dataWords c.toNat ≤ d.length ∧ o = .select ∧ (d.getD 0 0 ≠ 0x5E ∨ d.getD 1 0 = 0 ∨ 3 < (d.getD 1 0).toNat)) ∧
    (∃ (s : State) (code : Byte) (f : Frame) (o : Op) (hi : Byte) (lo : Byte) (r : List Byte) (c : Byte) (d : List Byte), (f.tooSoon = false ∨ s.isI2c = true ∨ s.sup.fastOn = true) ∧ f.opCut = false ∧ opOf code.toNat = some o ∧ o.since ≤ s.version ∧ f.body = hi :: lo :: r ∧ o.addrOk (beNat hi lo) = true ∧ r = c :: d ∧ o.cntOk s.version (beNat hi lo) c.toNat = true ∧ 2 * o.dataWords c.toNat ≤ d.length ∧ o = .rly ∧ 32 ≤ beNat (d.getD 0 0) (d.getD 1 0)) ∧
    (∃ (s : State) (code : Byte) (f : Frame) (o : Op) (hi : Byte) (lo : Byte) (r : List Byte) (c : Byte) (d : List Byte), (f.tooSoon = false ∨ s.isI2c = true ∨ s.sup.fastOn = true) ∧ f.opCut = false ∧ opOf code.toNat = some o ∧ o.since ≤ s.version ∧ f.body = hi :: lo :: r ∧ o.addrOk (beNat hi lo) = true ∧ r = c :: d ∧ o.cntOk s.version (beNat hi lo) c.toNat = true ∧ 2 * o.dataWords c.toNat ≤ d.length ∧ o = .rly ∧ beNat (d.getD 0 0) (d.getD 1 0) < 32 ∧ s.isManager = false) ∧
    (∃ (s : State) (code : Byte) (f : Frame) (o : Op) (hi : Byte) (lo : Byte) (r : List Byte) (c : Byte) (d : List Byte), (f.tooSoon = false ∨ s.isI2c = true ∨ s.sup.fastOn = true) ∧ f.opCut = false ∧ opOf code.toNat = some o ∧ o.since ≤ s.version ∧ f.body = hi :: lo :: r ∧ o.addrOk (beNat hi lo) = true ∧ r = c :: d ∧ o.cntOk s.version (beNat hi lo) c.toNat = true ∧ 2 * o.dataWords c.toNat ≤ d.length ∧ (o = .select → d.getD 0 0 = 0x5E ∧ 1 ≤ (d.getD 1 0).toNat ∧ (d.getD 1 0).toNat ≤ 3) ∧ (o = .rly → beNat (d.getD 0 0) (d.getD 1 0) < 32 ∧ s.isManager = true) ∧ o.crc s.version = true ∧ d.length = 2 * o.dataWords c.toNat) ∧
    (∃ (s : State) (code : Byte) (f : Frame) (o : Op) (hi : Byte) (lo : Byte) (r : List Byte) (c : Byte) (d : List Byte) (x : Byte), (f.tooSoon = false ∨ s.isI2c = true ∨ s.sup.fastOn = true) ∧ f.opCut = false ∧ opOf code.toNat = some o ∧ o.since ≤ s.version ∧ f.body = hi :: lo :: r ∧ o.addrOk (beNat hi lo) = true ∧ r = c :: d ∧ o.cntOk s.version (beNat hi lo) c.toNat = true ∧ 2 * o.dataWords c.toNat ≤ d.length ∧ (o = .select → d.getD 0 0 = 0x5E ∧ 1 ≤ (d.getD 1 0).toNat ∧ (d.getD 1 0).toNat ≤ 3) ∧ (o = .rly → beNat (d.getD 0 0) (d.getD 1 0) < 32 ∧ s.isManager = true) ∧ o.crc s.version = true ∧ d[2 * o.dataWords c.toNat]? = some x ∧ x ≠ crc8 (code :: f.body.take (3 + 2 * o.dataWords c.toNat))) ∧
    (∃ (s : State) (code : Byte) (f : Frame) (o : Op) (hi : Byte) (lo : Byte) (r : List Byte) (c : Byte) (d : List Byte), (f.tooSoon = false ∨ s.isI2c = true ∨ s.sup.fastOn = true) ∧ f.opCut = false ∧ opOf code.toNat = some o ∧ o.since ≤ s.version ∧ f.body = hi :: lo :: r ∧ o.addrOk (beNat hi lo) = true ∧ r = c :: d ∧ o.cntOk s.version (beNat hi lo) c.toNat = true ∧ 2 * o.dataWords c.toNat ≤ d.length ∧ (o = .select → d.getD 0 0 = 0x5E ∧ 1 ≤ (d.getD 1 0).toNat ∧ (d.getD 1 0).toNat ≤ 3) ∧ (o = .rly → beNat (d.getD 0 0) (d.getD 1 0) < 32 ∧ s.isManager = true) ∧ (o.crc s.version = false ∨ d[2 * o.dataWords c.toNat]? = some (crc8 (code :: f.body.take (3 + 2 * o.dataWords c.toNat))))) :=
  ⟨⟨2, by decide +kernel⟩,
    ⟨(let s := base; let s := { s with sup := { s.sup with fastOn := false } }; { s with sup := { s.sup with fastOn := false } }), ⟨0, false, [], true, 0, false⟩, by decide +kernel⟩,
    ⟨base, ⟨0, true, [], false, 0, false⟩, by decide +kernel⟩,
    ⟨base, 4#8, ⟨0, false, [], false, 0, false⟩, by decide +kernel⟩,
    ⟨(let s := base; s.p F.HIF_VER_VER 1), 3#8, ⟨0, false, [], false, 0, false⟩, .rdb, by decide +kernel⟩,
    ⟨base, 3#8, ⟨0, false, [1], false, 0, false⟩, .rdb, by decide +kernel⟩,
    ⟨base, 0x10#8, ⟨0, false, [0, 2], false, 0, false⟩, .qpop, 0#8, 2#8, [], by decide +kernel⟩,
    ⟨base, 0x10#8, ⟨0, false, [0, 1], false, 0, false⟩, .qpop, 0#8, 1#8, [], by decide +kernel⟩,
    ⟨base, 0x10#8, ⟨0, false, [0, 1, 65, 7], false, 0, false⟩, .qpop, 0#8, 1#8, [65, 7], 65#8, [7], by decide +kernel⟩,
    ⟨base, 0x02#8, ⟨0, false, [0, 1, 2, 7, 7, 7], false, 0, false⟩, .wr, 0#8, 1#8, [2, 7, 7, 7], 2#8, [7, 7, 7], by decide +kernel⟩,
    ⟨base, 0xF1#8, ⟨0, false, [0, 0, 1, 0x5E, 4], false, 0, false⟩, .select, 0#8, 0#8, [1, 0x5E, 4], 1#8, [0x5E, 4], by decide +kernel⟩,
    ⟨(let s := base; s.p F.HIF_VER_VER 3), 0x21#8, ⟨0, false, [0, 0, 1, 0, 32], false, 0, false⟩, .rly, 0#8, 0#8, [1, 0, 32], 1#8, [0, 32], by decide +kernel⟩,
    ⟨(let s := base; (s.p F.HIF_VER_VER 3).p F.SYS_STRAP_ROLE 2), 0x21#8, ⟨0, false, [0, 0, 1, 0, 31], false, 0, false⟩, .rly, 0#8, 0#8, [1, 0, 31], 1#8, [0, 31], by decide +kernel⟩,
    ⟨base, 0x02#8, ⟨0, false, [0, 1, 1, 7, 7], false, 0, false⟩, .wr, 0#8, 1#8, [1, 7, 7], 1#8, [7, 7], by decide +kernel⟩,
    ⟨base, 0x02#8, ⟨0, false, [0, 1, 1, 7, 7, 0], false, 0, false⟩, .wr, 0#8, 1#8, [1, 7, 7, 0], 1#8, [7, 7, 0], 0#8, by decide +kernel⟩,
    ⟨(let s := base; ((s.p F.HIF_VER_VER 3).p F.SYS_STRAP_ROLE 1).p F.HIF_RLYSTAT_BUSY 1), 0x21#8, ⟨0, false, [0, 0, 1, 0, 31, crc8 [0x21, 0, 0, 1, 0, 31]], false, 0, false⟩, .rly, 0#8, 0#8, [1, 0, 31, crc8 [0x21, 0, 0, 1, 0, 31]], 1#8, [0, 31, crc8 [0x21, 0, 0, 1, 0, 31]], by decide +kernel⟩⟩

theorem test_meets_HostWriteStores :
    (∃ (s : State) (k : Nat), k < 16 ∧ s.hostAlive = true) ∧
    (∃ (s : State) (a : Word), s.hostAlive = true ∧ mapped a.toNat = false) ∧
    (∃ (s : State), s.hostAlive = false) ∧
    (∃ (s : State), s.hostAlive = true) ∧
    (∃ (s : State) (a : Nat), mapped a = true ∧ s.power = .boot ∧ survivalOf a = .config) ∧
    (∃ (s : State) (a : Nat) (w : Word), mapped a = true ∧ (s.power ≠ .boot ∨ survivalOf a ≠ .config) ∧ s.writeKey a w = none ∧ s.writeBarred a w = none ∧ a ∉ [A.DRV_VSET, A.DRV_PHEN, A.CMP_PWR, A.WAY_STAT, A.RTC_ALMCFG] ++ (List.range 8).flatMap (fun k => [A.RTC_A0 k, A.RTC_A1 k, A.ADC_WINCFG k]) ++ domains.map A.DOM_VSET ∧ (a < A.STK_REC 0 ∨ A.STK_REC 32767 < a)) ∧
    (∃ (s : State) (t : State) (u : State) (a : Nat) (w : Word) (ws : List Word), s.hostWrite a w = .ok t ∧ t.hostWrites (a + 1) ws = .ok u) :=
  ⟨⟨base, 15, by decide +kernel⟩,
    ⟨base, 0xFFFF#16, by decide +kernel⟩,
    ⟨(let s := base; { s with power := .dead }), by decide +kernel⟩,
    ⟨base, by decide +kernel⟩,
    ⟨(let s := base; { s with power := .boot }), A.SYS_CFG, by decide +kernel⟩,
    ⟨base, A.SYS_EVAR 3, 7#16, by decide +kernel⟩,
    ⟨base, (base.wr (A.SYS_EVAR 3) 7#16), ((base.wr (A.SYS_EVAR 3) 7#16).wr (A.SYS_EVAR 4) 8#16), A.SYS_EVAR 3, 7#16, [8#16], by decide +kernel⟩⟩

theorem test_meets_LiveViews :
    (∃ (s : State) (a : Nat), mapped a = true ∧ a ≠ A.HIF_ERR ∧ a ≠ A.GAU_ACC0 ∧ (a < A.RTC_SEC 0 ∨ A.RTC_FRAC < a) ∧ (a < A.ADC_RES 0 ∨ A.ADC_RES 127 < a) ∧ (s.isManager = true ∨ a < A.WAY_MCFG ∨ A.WAY_W 123 < a)) ∧
    (∃ (s : State) (a : Nat) (k : Nat), (∀ i, i < k → mapped (a + i) = true ∧ a + i ≠ A.HIF_ERR ∧ a + i ≠ A.GAU_ACC0 ∧ (a + i < A.RTC_SEC 0 ∨ A.RTC_FRAC < a + i) ∧ (a + i < A.ADC_RES 0 ∨ A.ADC_RES 127 < a + i) ∧
      (s.isManager = true ∨ a + i < A.WAY_MCFG ∨ A.WAY_W 123 < a + i))) ∧
    (∃ (s : State) (k : Nat), k < 6 ∧ s.phActive.testBit k = false) ∧
    (∃ (s : State), s.standing = true) ∧
    (∃ (n : Nat), n ∈ domains) ∧
    (∃ (k : Nat), k < 16) ∧
    (∃ (s : State), (∀ p ∈ s.mrq.pkts, p.cls < 4)) ∧
    (∃ (s : State), s.wayOn = true) ∧
    (∃ (s : State), s.wayOn = false) ∧
    (∃ (s : State) (a : Nat), s.isManager = false ∧ A.WAY_MCFG ≤ a ∧ a ≤ A.WAY_W 123) ∧
    (∃ (k : Nat), k < 12) ∧
    (∃ (t : Nat), t < 4) :=
  ⟨⟨base, A.DRV_STAT, by decide +kernel⟩,
    ⟨base, A.SYS_EVAR 0, 9, by decide +kernel⟩,
    ⟨(let s := base; s.p F.DRV_PHSTAT_SHED 32), 5, by decide +kernel⟩,
    ⟨base, by decide +kernel⟩,
    ⟨10, by decide +kernel⟩,
    ⟨1, by decide +kernel⟩,
    ⟨base, by decide +kernel⟩,
    ⟨base, by decide +kernel⟩,
    ⟨(let s := base; { s with power := .hibernate }), by decide +kernel⟩,
    ⟨(let s := base; s.p F.SYS_STRAP_ROLE 0), A.WAY_MCFG + 7, by decide +kernel⟩,
    ⟨3, by decide +kernel⟩,
    ⟨3, by decide +kernel⟩⟩

theorem test_meets_AccessTypes :
    (∃ (a : Nat) (i : Nat), i < 16 ∧ (rwMask a).testBit i = false ∨ ((w1cMask a).testBit i = false ∧ (w1sMask a).testBit i = false)) ∧
    (∃ (s : State) (f : Fld) (w : Word) (lo : Nat) (hi : Nat), f.lsb + f.width ≤ 16 ∧ s.nvm.windows.find? (fun x => x.1 = f.addr && x.2.1 = f.lsb && x.2.2.1 = f.width) = some (f.addr, f.lsb, f.width, false, lo, hi) ∧ lo ≤ hi ∧ hi < 2 ^ f.width ∧ f.get w < lo) ∧
    (∃ (s : State) (f : Fld) (w : Word) (lo : Nat) (hi : Nat), f.lsb + f.width ≤ 16 ∧ s.nvm.windows.find? (fun x => x.1 = f.addr && x.2.1 = f.lsb && x.2.2.1 = f.width) = some (f.addr, f.lsb, f.width, false, lo, hi) ∧ lo ≤ hi ∧ hi < 2 ^ f.width ∧ hi < f.get w) ∧
    (∃ (s : State) (f : Fld) (w : Word) (lo : Nat) (hi : Nat), f.lsb + f.width ≤ 16 ∧ s.nvm.windows.find? (fun x => x.1 = f.addr && x.2.1 = f.lsb && x.2.2.1 = f.width) = some (f.addr, f.lsb, f.width, false, lo, hi) ∧ lo ≤ hi ∧ hi < 2 ^ f.width ∧ lo ≤ f.get w ∧ f.get w ≤ hi) ∧
    (∃ (s : State) (f : Fld) (lo : Nat) (hi : Nat) (g : Fld), f.lsb + f.width ≤ 16 ∧ s.nvm.windows.find? (fun x => x.1 = f.addr && x.2.1 = f.lsb && x.2.2.1 = f.width) = some (f.addr, f.lsb, f.width, false, lo, hi) ∧ lo ≤ hi ∧ hi < 2 ^ f.width ∧ (g.lsb + g.width ≤ f.lsb ∨ f.lsb + f.width ≤ g.lsb)) :=
  ⟨⟨0x0110, 3, by decide +kernel⟩,
    ⟨(let s := base; { s with nvm := { s.nvm with windows := [(0x0500, 4, 6, false, 5, 40)] } }), ⟨0x0500, 4, 6⟩, 0x001F#16, 5, 40, by decide +kernel⟩,
    ⟨(let s := base; { s with nvm := { s.nvm with windows := [(0x0500, 4, 6, false, 5, 40)] } }), ⟨0x0500, 4, 6⟩, 0x02FF#16, 5, 40, by decide +kernel⟩,
    ⟨(let s := base; { s with nvm := { s.nvm with windows := [(0x0500, 4, 6, false, 5, 40)] } }), ⟨0x0500, 4, 6⟩, 0x028F#16, 5, 40, by decide +kernel⟩,
    ⟨(let s := base; { s with nvm := { s.nvm with windows := [(0x0500, 4, 6, false, 5, 40)] } }), ⟨0x0500, 4, 6⟩, 5, 40, ⟨0, 0, 4⟩, by decide +kernel⟩⟩

theorem test_meets_CollectorAndQueueKeys :
    (∃ (s : State) (k : Nat), k < 8 ∧ s.hostAlive = true ∧ s.b F.FLT_TEST_ARM = true) ∧
    (∃ (s : State), s.b F.FLT_TEST_ARM = false) ∧
    (∃ (s : State) (w : Word), s.hostAlive = true ∧ F.FLT_TEST_DRYHIT.get w = 0 ∧ F.FLT_TEST_KEY.get w = 0xF7) ∧
    (∃ (w : Word), F.FLT_TEST_DRYHIT.get w = 0 ∧ F.FLT_TEST_KEY.get w ≠ 0xF7) ∧
    (∃ (s : State), s.hostAlive = true ∧ (∀ c ∈ ([0, 1, 2, 3] : List Nat), s.mrq.ptrsAgree c = true)) ∧
    (∃ (s : State), s.hostAlive = true) ∧
    (∃ (w : Word), w ≠ 0xD5C1#16 ∧ w ≠ 0xC1EA#16) :=
  ⟨⟨(let s := base; s.p F.FLT_TEST_ARM 1), 1, by decide +kernel⟩,
    ⟨(let s := base; s.p F.FLT_TEST_ARM 0), by decide +kernel⟩,
    ⟨base, 0xF703#16, by decide +kernel⟩,
    ⟨1#16, by decide +kernel⟩,
    ⟨base, by decide +kernel⟩,
    ⟨base, by decide +kernel⟩,
    ⟨1#16, by decide +kernel⟩⟩

theorem test_meets_RaiseTaken :
    (∃ (s : State) (r : Raise), r.source < 128 ∧ s.srcEn r.source = true) ∧
    (∃ (s : State) (r : Raise), r.source < 128 ∧ s.srcEn r.source = false ∧ (10 ≤ r.source ∨ r.origin ≠ .engine)) ∧
    (∃ (l : List Taken) (t : Taken), strongest l = some t) :=
  ⟨⟨(let s := base; (s.pbit (A.FLT_EN 2) 14 true).p ⟨A.FLT_CLS 5, 12, 2⟩ 2), ⟨46, .detector, 5⟩, by decide +kernel⟩,
    ⟨(let s := base; s.pbit (A.FLT_EN 2) 14 false), ⟨46, .detector, 5⟩, by decide +kernel⟩,
    ⟨[⟨2, 5, 0⟩, ⟨3, 9, 0⟩, ⟨3, 7, 0⟩], ⟨3, 7, 0⟩, by decide +kernel⟩⟩

theorem test_meets_QueueOrder :
    (∃ (q : Mrq) (p : Packet), (∀ x ∈ q.pkts, x.cls ≤ 3) ∧ q.head = some p) ∧
    (∃ (q : Mrq), (∀ x ∈ q.pkts, x.cls ≤ 3)) ∧
    (∃ (s : State) (p : Packet), s.mrq.head = some p ∧ s.mrq.ptrsAgree p.cls = true) ∧
    (∃ (s : State), s.mrq.head = none) :=
  ⟨⟨{ Mrq.init with pkts := [⟨2, []⟩, ⟨1, [1#32]⟩, ⟨1, []⟩] }, ⟨1, [1#32]⟩, by decide +kernel⟩,
    ⟨{ Mrq.init with pkts := [⟨2, []⟩, ⟨1, [1#32]⟩, ⟨1, []⟩] }, by decide +kernel⟩,
    ⟨(let s := base; { s with mrq := { s.mrq with pkts := [⟨2, [9#32]⟩, ⟨1, [1#32, 2#32, 3#32]⟩, ⟨1, [4#32]⟩] } }), ⟨1, [1#32, 2#32, 3#32]⟩, by decide +kernel⟩,
    ⟨base, by decide +kernel⟩⟩

theorem test_meets_SendOrDrop :
    (∃ (s : State) (b : PktBody), b.kind.2.1 ≠ 0x09 ∧ s.mrq.ptrsAgree (b.cls s) = true ∧ s.mrq.ptrsAgree 0 = true ∧ b.cls s < 4 ∧ s.mrq.room (b.cls s) ((b.payload s).length + 2) = true) ∧
    (∃ (s : State) (b : PktBody), b.kind.2.1 ≠ 0x09 ∧ s.mrq.ptrsAgree (b.cls s) = true ∧ s.mrq.ptrsAgree 0 = true ∧ b.cls s < 4 ∧ s.mrq.room (b.cls s) ((b.payload s).length + 2) = false) ∧
    (∃ (s : State) (c : Nat), s.mrq.ptrsAgree c = true ∧ s.mrq.ptrsAgree 0 = true ∧ s.mrq.closing = [c]) ∧
    (∃ (s : State), s.mrq.ptrsAgree (s.g F.STK_CFG_PKTCLS) = true ∧ s.mrq.ptrsAgree 0 = true ∧ s.mrq.room (s.g F.STK_CFG_PKTCLS) strokePktLen = true) ∧
    (∃ (s : State), s.mrq.ptrsAgree (s.g F.STK_CFG_PKTCLS) = true ∧ s.mrq.ptrsAgree 0 = true ∧ s.mrq.room (s.g F.STK_CFG_PKTCLS) strokePktLen = false) :=
  ⟨⟨base, .pushButton 60 5, by decide +kernel⟩,
    ⟨(let s := base; { s with mrq := { s.mrq with pkts := [⟨1, List.replicate 4000 0#32⟩] } }), .pushButton 60 5, by decide +kernel⟩,
    ⟨(let s := base; let s := { s with mrq := { s.mrq with closing := [2] } }; { s with mrq := { s.mrq with closing := [2] } }), 2, by decide +kernel⟩,
    ⟨base, by decide +kernel⟩,
    ⟨(let s := base; { s with mrq := { s.mrq with pkts := [⟨s.g F.STK_CFG_PKTCLS, List.replicate 4000 0#32⟩] } }), by decide +kernel⟩⟩

theorem test_meets_CountClears :
    (∃ (s : State) (a : Nat), a ∈ [A.DRV_CNTCLR, A.STK_CNTCLR, A.WAY_CNTCLR, A.THM_CNTCLR, A.FLT_CNTCLR] ++ domains.map A.DOM_CNTCLR ∧ s.rd a = 0) ∧
    (∃ (s : State) (n : Nat), n ∈ domains ∧ s.hostAlive = true) ∧
    (∃ (w : Word), w ≠ 0xC1EA#16) ∧
    (∃ (s : State), s.hostAlive = true) :=
  ⟨⟨base, A.FLT_CNTCLR, by decide +kernel⟩,
    ⟨base, 10, by decide +kernel⟩,
    ⟨1#16, by decide +kernel⟩,
    ⟨base, by decide +kernel⟩⟩

theorem test_meets_RewindLeavesNoTrace : ∃ (s : State), s.mrq.openCls = none ∧ s.mrq.rp = s.mrq.rp2 ∧ s.mrq.wp = s.mrq.wp2 ∧ s.openStroke.1 = true :=
  ⟨(let s := base; let s := { s with mrq := { s.mrq with openCls := none } }; let s := { s with mrq := { s.mrq with rp := s.mrq.rp2 } }; let s := { s with mrq := { s.mrq with wp := s.mrq.wp2 } }; { s with mrq := { s.mrq with wp := s.mrq.wp2 } }), by decide +kernel⟩

theorem test_meets_LearnedKeys :
    (∃ (s : State), s.hostAlive = true ∧ s.power ≠ .boot) ∧
    (∃ (s : State), s.power = .boot) ∧
    (∃ (w : Word), w ≠ 0xE1A5#16 ∧ w ≠ 0xE1F0#16 ∧ w ≠ 0x3C96#16) ∧
    (∃ (s : State), s.rd A.SYS_LDCTRL = 0) :=
  ⟨⟨base, by decide +kernel⟩,
    ⟨(let s := base; { s with power := .boot }), by decide +kernel⟩,
    ⟨1#16, by decide +kernel⟩,
    ⟨base, by decide +kernel⟩⟩

theorem test_meets_NvmBus :
    (∃ (s : State), s.aoOn = true ∧ s.b F.SYS_LDSTAT_DIRTY = true ∧ s.isNor = false ∧ s.wbActive = false ∧ s.mayWrite = true) ∧
    (∃ (s : State) (u : NvmUse) (l1 : List NvmUse) (l2 : List NvmUse), s.aoOn = true ∧ s.power ≠ .boot ∧ s.nvm.vnvm = true ∧ s.nvm.ready = true ∧ s.nvm.cur = none ∧ s.nvm.waiting.filter s.nvmEligible = l1 ++ u :: l2 ∧ (∀ v ∈ l1, u.rank < v.rank) ∧ (∀ v ∈ l2, u.rank ≤ v.rank)) ∧
    (∃ (s : State), s.aoOn = true ∧ s.nvm.vnvm = true) ∧
    (∃ (s : State), s.power ≠ .boot ∧ s.nvm.cur = none ∧ s.nvm.waiting = [] ∧ s.gau.stage ≠ .challenged) ∧
    (∃ (s : State), s.nvm.cur = some .writeBack ∧ s.nvm.wbStage = .commit) ∧
    (∃ (s : State) (k : Nat), s.nvm.cur = some .writeBack ∧ s.nvm.wbStage = .data k ∧ s.mayWrite = true ∧ s.nvm.wbCut = false) ∧
    (∃ (s : State) (k : Nat), s.nvm.cur = some .writeBack ∧ s.nvm.wbStage = .data k ∧ (s.mayWrite = false ∨ s.nvm.wbCut = true)) ∧
    (∃ (s : State) (bs : List Byte) (rest : List (List Byte)), s.nvm.cur = some .record ∧ s.nvm.records = bs :: rest ∧ s.nvm.ring.length = 128 ∧ bs.length = 13) ∧
    (∃ (s : State) (k : Nat), s.nvm.cur = some .eraseLog ∧ s.nvm.logLeft = k + 1 ∧ k < s.logPages ∧ s.nvm.ring.length = 128) ∧
    (∃ (s : State) (k : Nat), s.nvm.cur = some .eraseLearned ∧ s.nvm.ldLeft = k + 1 ∧ (∀ v ∈ s.nvm.waiting, v ≠ .record)) ∧
    (∃ (s : State), s.nvm.cur = some .eraseLog) ∧
    (∃ (s : State), s.nvm.cur = some .writeBack ∧ s.nvm.wbStage = .verify ∧ s.nvm.wbSeq < 4294967296) ∧
    (∃ (s : State) (bs : List Byte), s.nvm.cur = some .copyB ∧ (s.nvm.cbBytes ++ bs.take 256).length < 8) :=
  ⟨⟨(let s := base; s.p F.SYS_LDSTAT_DIRTY 1), by decide +kernel⟩,
    ⟨(let s := base; let u : NvmUse := .eraseLearned; let l1 : List NvmUse := [.copyB]; let l2 : List NvmUse := [.eraseLog]; let s := { s with nvm := { s.nvm with vnvm := true } }; let s := { s with nvm := { s.nvm with ready := true } }; let s := { s with nvm := { s.nvm with cur := none } }; { s with nvm := { s.nvm with waiting := l1 ++ u :: l2, vnvm := true, ready := true, cur := none } }), .eraseLearned, [.copyB], [.eraseLog], by decide +kernel⟩,
    ⟨(let s := base; { s with nvm := { s.nvm with vnvm := true } }), by decide +kernel⟩,
    ⟨(let s := base; let s := { s with nvm := { s.nvm with cur := none } }; { s with nvm := { s.nvm with waiting := [] } }), by decide +kernel⟩,
    ⟨(let s := base; let s := { s with nvm := { s.nvm with cur := some .writeBack } }; { s with nvm := { s.nvm with wbStage := .commit } }), by decide +kernel⟩,
    ⟨(let s := base; let s := { s with nvm := { s.nvm with cur := some .writeBack } }; let s := { s with nvm := { s.nvm with wbStage := .data 3 } }; { s with nvm := { s.nvm with wbCut := false } }), 3, by decide +kernel⟩,
    ⟨(let s := base; let s := { s with nvm := { s.nvm with cur := some .writeBack } }; let s := { s with nvm := { s.nvm with wbStage := .data 3 } }; { s with nvm := { s.nvm with wbCut := true } }), 3, by decide +kernel⟩,
    ⟨(let s := base; let bs : List Byte := List.replicate 13 7#8; let rest : List (List Byte) := [List.replicate 13 9#8]; let s := { s with nvm := { s.nvm with cur := some .record } }; let s := { s with nvm := { s.nvm with records := bs :: rest } }; { s with nvm := { s.nvm with ring := List.replicate 128 0xFFFF, records := bs :: rest, cur := some .record } }), List.replicate 13 7#8, [List.replicate 13 9#8], by decide +kernel⟩,
    ⟨(let s := base; let s := { s with nvm := { s.nvm with cur := some .eraseLog } }; let s := { s with nvm := { s.nvm with logLeft := 3 + 1 } }; { s with nvm := { s.nvm with ring := (List.range 128).map (· + 5), cur := some .eraseLog, logLeft := 3 + 1 } }), 3, by decide +kernel⟩,
    ⟨(let s := base; let s := { s with nvm := { s.nvm with cur := some .eraseLearned } }; let s := { s with nvm := { s.nvm with ldLeft := 3 + 1 } }; { s with nvm := { s.nvm with cur := some .eraseLearned, ldLeft := 3 + 1 } }), 3, by decide +kernel⟩,
    ⟨(let s := base; { s with nvm := { s.nvm with cur := some .eraseLog } }), by decide +kernel⟩,
    ⟨(let s := base; let s := { s with nvm := { s.nvm with cur := some .writeBack } }; { s with nvm := { s.nvm with wbStage := .verify } }), by decide +kernel⟩,
    ⟨(let s := base; { s with nvm := { s.nvm with cur := some .copyB } }), [1,2,3], by decide +kernel⟩⟩

theorem test_meets_EngineStartsGoesOnEnds :
    (∃ (s : State) (k : Nat) (n : Nat), k < s.eng.length ∧ (s.engAt k).pc + n < s.engLen k) ∧
    (∃ (s : State) (k : Nat) (n : Nat), k < s.eng.length ∧ s.engLen k ≤ (s.engAt k).pc + n ∧ k ≠ 0) ∧
    (∃ (s : State) (k : Nat) (t : Nat), s.mayStart k = true ∧ (if (s.engAt k).pre then some 1 else (s.engAt k).pend.head?) = some t ∧ t < s.engLen k) ∧
    (∃ (s : State) (k : Nat) (t : Nat), k ≠ 0 ∧ s.mayStart k = true ∧ (if (s.engAt k).pre then some 1 else (s.engAt k).pend.head?) = some t ∧ s.engLen k ≤ t) ∧
    (∃ (s : State) (k : Nat), k ≠ 0 ∧ s.mayStep k = true ∧ s.stepAt k = .ok .end_) ∧
    (∃ (s : State), s.power = .powerUp ∧ s.mayStep 0 = true ∧ s.stepAt 0 = .ok .end_) ∧
    (∃ (s : State), s.power = .powerDown ∧ s.ctl.entryWaits = none ∧ s.mayStep 0 = true ∧ s.stepAt 0 = .ok .end_ ∧ s.flt.raised = [] ∧ s.mrq.outbox = []) ∧
    (∃ (s : State) (r : Raise), s.power = .powerDown ∧ s.mrq.outbox = [] ∧ s.flt.raised = [r] ∧ s.srcEn r.source = true ∧ 2 ≤ s.appliedClass r) :=
  ⟨⟨base, 1, 1, by decide +kernel⟩,
    ⟨base, 3, 4, by decide +kernel⟩,
    ⟨(let s := base; s.setEng 3 (fun e => { e with mode := .idle, pend := [0, 2] })), 3, 0, by decide +kernel⟩,
    ⟨(let s := base; s.setEng 3 (fun e => { e with mode := .idle, pend := [31] })), 3, 31, by decide +kernel⟩,
    ⟨base, 1, by decide +kernel⟩,
    ⟨(let s := base; { s with power := .powerUp }), by decide +kernel⟩,
    ⟨(let s := base; let s := { s with power := .powerDown }; let s := { s with ctl := { s.ctl with entryWaits := none } }; let s := { s with flt := { s.flt with raised := [] } }; { s with mrq := { s.mrq with outbox := [] } }), by decide +kernel⟩,
    ⟨(let s := base; let r : Raise := ⟨5, .detector, 6⟩; let s := { s with power := .powerDown }; let s := { s with mrq := { s.mrq with outbox := [] } }; let s := { s with flt := { s.flt with raised := [r] } }; (({ s with flt := { s.flt with raised := [r] } } : State).pbit (A.FLT_EN 0) 5 true).p ⟨A.FLT_CLS 0, 10, 2⟩ 3), ⟨5, .detector, 6⟩, by decide +kernel⟩⟩

theorem test_meets_ConditionTable :
    (∃ (s : State) (k : Nat) (j : Nat), s.ctl.stepEng = some j ∧ j < k) ∧
    (∃ (s : State) (k : Nat) (j : Nat), (s.ctl.stepEng = none ∨ (s.ctl.stepEng = some j ∧ k ≤ j))) ∧
    (∃ (c : Nat), c ∈ [0x0B, 0x0F, 0x1A, 0x1F, 0x2A, 0x2F, 0x75, 0x7F, 0x94, 0x97, 0xAA, 0xAF, 0xBC, 0xBF, 0xC7, 0xD4, 0xDF, 0xE5, 0xFF]) :=
  ⟨⟨(let s := base; let s := { s with ctl := { s.ctl with stepEng := some 2 } }; { s with ctl := { s.ctl with stepEng := some 2 } }), 5, 2, by decide +kernel⟩,
    ⟨(let s := base; let s := { s with ctl := { s.ctl with stepEng := none } }; { s with ctl := { s.ctl with stepEng := some 5 } }), 5, 5, by decide +kernel⟩,
    ⟨0xC7, by decide +kernel⟩⟩

theorem test_meets_EnableAndDisable :
    (∃ (s : State) (k : Nat) (mask : Nat), s.mayStep k = true ∧ s.stepAt k = .ok (.enable 0 mask) ∧ s.unusedIn (maskDomains mask) = false) ∧
    (∃ (s : State) (k : Nat) (mask : Nat), s.mayStep k = true ∧ s.stepAt k = .ok (.enable 1 mask)) ∧
    (∃ (s : State) (k : Nat) (mask : Nat), s.mayStep k = true ∧ s.stepAt k = .ok (.enable 2 mask)) ∧
    (∃ (s : State) (k : Nat) (mask : Nat), s.mayStep k = true ∧ s.stepAt k = .ok (.enable 3 mask)) ∧
    (∃ (s : State) (k : Nat) (mask : Nat), s.mayStep k = true ∧ s.stepAt k = .ok (.enable 4 mask) ∧ s.unusedIn (maskDomains (s.g F.SYS_SHEDMASK_SHED)) = false) ∧
    (∃ (s : State) (k : Nat) (mask : Nat) (nodis : Bool), s.mayStep k = true ∧ s.stepAt k = .ok (.disable 0 mask nodis)) ∧
    (∃ (s : State) (k : Nat) (mask : Nat) (nodis : Bool), s.mayStep k = true ∧ s.stepAt k = .ok (.disable 1 mask nodis)) ∧
    (∃ (s : State) (k : Nat) (mask : Nat) (nodis : Bool), s.mayStep k = true ∧ s.stepAt k = .ok (.disable 2 mask nodis)) ∧
    (∃ (s : State) (k : Nat) (mask : Nat) (nodis : Bool), s.mayStep k = true ∧ s.stepAt k = .ok (.disable 3 mask nodis)) ∧
    (∃ (s : State) (k : Nat) (mask : Nat) (nodis : Bool), s.mayStep k = true ∧ s.stepAt k = .ok (.disable 4 mask nodis)) ∧
    (∃ (mask : Nat), mask < 65536) ∧
    (∃ (n : Nat), n ∈ domains) ∧
    (∃ (s : State) (ns : List Nat), (∀ n ∈ ns, n ∈ domains) ∧ s.topRank < 15) ∧
    (∃ (s : State) (n : Nat), n ∈ domains ∧ s.cmdOn n = true) :=
  ⟨⟨(let s := base; putStep s 1 (.enable 0 1)), 1, 1, by decide +kernel⟩,
    ⟨(let s := base; putStep s 1 (.enable 1 1)), 1, 1, by decide +kernel⟩,
    ⟨(let s := base; putStep s 1 (.enable 2 1)), 1, 1, by decide +kernel⟩,
    ⟨(let s := base; putStep s 1 (.enable 3 1)), 1, 1, by decide +kernel⟩,
    ⟨(let s := base; putStep s 1 (.enable 4 0)), 1, 0, by decide +kernel⟩,
    ⟨(let s := base; let nodis : Bool := true; putStep s 1 (.disable 0 1 nodis)), 1, 1, true, by decide +kernel⟩,
    ⟨(let s := base; let nodis : Bool := false; putStep s 1 (.disable 1 7 nodis)), 1, 7, false, by decide +kernel⟩,
    ⟨(let s := base; let nodis : Bool := false; putStep s 1 (.disable 2 5 nodis)), 1, 5, false, by decide +kernel⟩,
    ⟨(let s := base; let nodis : Bool := false; putStep s 1 (.disable 3 5 nodis)), 1, 5, false, by decide +kernel⟩,
    ⟨(let s := base; let nodis : Bool := false; putStep s 1 (.disable 4 0 nodis)), 1, 0, false, by decide +kernel⟩,
    ⟨0x8421, by decide +kernel⟩,
    ⟨3, by decide +kernel⟩,
    ⟨base, [2,3,1], by decide +kernel⟩,
    ⟨(let s := base; s.pb (F.DOM_STAT_CMDON 9) true), 9, by decide +kernel⟩⟩

theorem test_meets_SetWaitAndFlow :
    (∃ (s : State) (k : Nat) (i : Nat) (v : Nat), i < 16 ∧ s.mayStep k = true ∧ s.stepAt k = .ok (.set (0x10 + i) v)) ∧
    (∃ (s : State) (k : Nat) (n : Nat) (lf : Bool), s.mayStep k = true ∧ s.stepAt k = .ok (.wait lf n) ∧ 0 < n) ∧
    (∃ (s : State) (k : Nat) (n : Nat) (lf : Bool), s.waitsFor k .time = true ∧ s.stepAt k = .ok (.wait lf n)) ∧
    (∃ (s : State) (k : Nat) (c : Nat) (t : Nat) (inv : Bool), s.mayStep k = true ∧ s.stepAt k = .ok (.waitc inv c t)) ∧
    (∃ (s : State) (k : Nat) (c : Nat) (t : Nat) (inv : Bool) (pins : PinSample), let u := (s.setPins pins).openStep k; s.waitsFor k .cond = true ∧ s.stepAt k = .ok (.waitc inv c t) ∧ u.cond c ≠ inv) ∧
    (∃ (s : State) (k : Nat) (c : Nat) (t : Nat) (inv : Bool), s.waitsFor k .cond = true ∧ s.stepAt k = .ok (.waitc inv c t) ∧ 0 < t) ∧
    (∃ (s : State) (k : Nat) (c : Nat) (op : Nat) (inv : Bool) (stop : Bool), s.mayStep k = true ∧ s.stepAt k = .ok (.check inv true stop c op)) ∧
    (∃ (s : State) (k : Nat) (c : Nat) (target : Nat) (inv : Bool), s.mayStep k = true ∧ s.stepAt k = .ok (.check inv false false c target) ∧ target < s.engLen k) ∧
    (∃ (s : State) (k : Nat) (c : Nat) (target : Nat) (inv : Bool) (en : Bool), s.mayStep k = true ∧ s.stepAt k = .ok (.jump inv en c target) ∧ target < s.engLen k) ∧
    (∃ (s : State) (k : Nat) (f : Nat) (clr : Bool), s.mayStep k = true ∧ s.stepAt k = .ok (.sync clr f)) ∧
    (∃ (s : State) (k : Nat) (f : Nat) (clr : Bool), s.waitsFor k .flag = true ∧ s.stepAt k = .ok (.sync clr f) ∧ s.flag f = true) :=
  ⟨⟨(let s := base; putStep s 1 (.set (0x10 + 1) 1)), 1, 1, 1, by decide +kernel⟩,
    ⟨(let s := base; let lf : Bool := true; putStep s 1 (.wait lf 1)), 1, 1, true, by decide +kernel⟩,
    ⟨(let s := base; let lf : Bool := true; let s := putStep s 1 (.wait lf 1); s.setEng 1 (fun e => { e with mode := .wait .time })), 1, 1, true, by decide +kernel⟩,
    ⟨(let s := base; let inv : Bool := true; putStep s 1 (.waitc inv 1 1)), 1, 1, 1, true, by decide +kernel⟩,
    ⟨(let s := base; let inv : Bool := true; let s := putStep s 1 (.waitc inv 1 1); s.setEng 1 (fun e => { e with mode := .wait .cond })), 1, 1, 1, true, State.reset.pins, by decide +kernel⟩,
    ⟨(let s := base; let c : Nat := 0x01; let inv : Bool := true; let s := putStep s 1 (.waitc inv c 1); s.setEng 1 (fun e => { e with mode := .wait .cond })), 1, 0x01, 1, true, by decide +kernel⟩,
    ⟨(let s := base; let inv : Bool := true; let stop : Bool := true; putStep s 1 (.check inv true stop 1 1)), 1, 1, 1, true, true, by decide +kernel⟩,
    ⟨(let s := base; let inv : Bool := true; putStep s 1 (.check inv false false 1 1)), 1, 1, 1, true, by decide +kernel⟩,
    ⟨(let s := base; let inv : Bool := true; let en : Bool := true; putStep s 1 (.jump inv en 1 1)), 1, 1, 1, true, true, by decide +kernel⟩,
    ⟨(let s := base; let clr : Bool := true; putStep s 1 (.sync clr 1)), 1, 1, true, by decide +kernel⟩,
    ⟨(let s := base; let clr : Bool := true; let s := putStep s 1 (.sync clr 17); let s := s.setFlags 1 2 true; s.setEng 1 (fun e => { e with mode := .wait .flag })), 1, 17, true, by decide +kernel⟩⟩

theorem test_meets_LoopCounts :
    (∃ (s : State) (k : Nat) (n : Nat) (target : Nat) (second : Bool), s.mayStep k = true ∧ s.stepAt k = .ok (.loop second n target) ∧ target < s.engLen k ∧ (if second then (s.engAt k).l1 else (s.engAt k).l0) = 0) ∧
    (∃ (s : State) (k : Nat) (n : Nat) (target : Nat) (second : Bool), s.mayStep k = true ∧ s.stepAt k = .ok (.loop second n target) ∧ (s.engAt k).pc + 1 < s.engLen k ∧ (if second then (s.engAt k).l1 else (s.engAt k).l0) = 1) ∧
    (∃ (s : State) (k : Nat) (n : Nat) (target : Nat) (second : Bool), s.mayStep k = true ∧ s.stepAt k = .ok (.loop second n target) ∧ target < s.engLen k ∧ 2 ≤ (if second then (s.engAt k).l1 else (s.engAt k).l0)) ∧
    (∃ (s : State) (k : Nat) (n : Nat) (target : Nat) (second : Bool), s.mayStep k = true ∧ s.stepAt k = .ok (.loop second n target) ∧ s.engLen k ≤ target ∧ (if second then (s.engAt k).l1 else (s.engAt k).l0) ≠ 1) ∧
    (∃ (n : Nat) (target : Nat), 1 ≤ n ∧ n < 256 ∧ target < 4096) ∧
    (∃ (s : State) (k : Nat) (target : Nat) (second : Bool), s.mayStep k = true ∧ target < 4096 ∧ s.g (F.ENG_BASE_BASE k) + (s.engAt k).pc < 4096 ∧ s.stepWord k = 10 * 2 ^ 28 + (if second then 2 ^ 24 else 0) + target) :=
  ⟨⟨(let s := base; let second : Bool := true; putStep s 1 (.loop second 1 1)), 1, 1, 1, true, by decide +kernel⟩,
    ⟨(let s := base; let second : Bool := true; let s := putStep s 3 (.loop second 5 3); s.setEng 3 (fun e => { e with l1 := 1 })), 3, 5, 3, true, by decide +kernel⟩,
    ⟨(let s := base; let second : Bool := false; let s := putStep s 3 (.loop second 5 3); s.setEng 3 (fun e => { e with l0 := 7 })), 3, 5, 3, false, by decide +kernel⟩,
    ⟨(let s := base; let second : Bool := false; let s := putStep s 3 (.loop second 5 90); s.setEng 3 (fun e => { e with l0 := 7 })), 3, 5, 90, false, by decide +kernel⟩,
    ⟨5, 90, by decide +kernel⟩,
    ⟨(let s := base; let second : Bool := false; putStep s 3 (.loop second 0 90)), 3, 90, false, by decide +kernel⟩⟩

theorem test_meets_Signals :
    (∃ (s : State) (k : Nat) (op : Nat), s.mayStep k = true ∧ s.stepAt k = .ok (.signal 0 op)) ∧
    (∃ (s : State) (k : Nat) (op : Nat), s.mayStep k = true ∧ s.stepAt k = .ok (.signal 1 op)) ∧
    (∃ (s : State) (k : Nat) (op : Nat), s.mayStep k = true ∧ s.stepAt k = .ok (.signal 2 op)) ∧
    (∃ (s : State) (k : Nat) (op : Nat), s.mayStep k = true ∧ s.stepAt k = .ok (.signal 3 op)) ∧
    (∃ (s : State) (k : Nat) (op : Nat), s.mayStep k = true ∧ s.stepAt k = .ok (.signal 4 op)) ∧
    (∃ (s : State) (k : Nat) (op : Nat), s.mayStep k = true ∧ s.stepAt k = .ok (.signal 5 op)) ∧
    (∃ (s : State) (k : Nat), s.mayStep k = true ∧ s.stepAt k = .ok (.signal 6 1) ∧ k = 0 ∧ s.power = .watch) ∧
    (∃ (s : State) (k : Nat) (op : Nat), s.mayStep k = true ∧ s.stepAt k = .ok (.signal 6 op) ∧ (k ≠ 0 ∨ s.power = .powerDown ∨ (s.power = .watch ∧ op = 2))) ∧
    (∃ (s : State) (k : Nat) (op : Nat), s.mayStep k = true ∧ s.stepAt k = .ok (.signal 6 op) ∧ k = 0 ∧ s.power = .powerUp) ∧
    (∃ (s : State) (k : Nat), s.mayStep k = true ∧ s.stepAt k = .ok (.signal 6 1) ∧ k = 0 ∧ s.power = .run) ∧
    (∃ (s : State) (k : Nat), s.mayStep k = true ∧ s.stepAt k = .ok (.signal 6 2) ∧ k = 0 ∧ s.power = .run ∧ s.strokeActive = false) ∧
    (∃ (s : State) (k : Nat), s.mayStep k = true ∧ s.stepAt k = .ok (.signal 6 2) ∧ k = 0 ∧ s.power = .run ∧ s.strokeActive = true) :=
  ⟨⟨(let s := base; putStep s 1 (.signal 0 1)), 1, 1, by decide +kernel⟩,
    ⟨(let s := base; putStep s 1 (.signal 1 1)), 1, 1, by decide +kernel⟩,
    ⟨(let s := base; let op : Nat := 0x100; putStep s 1 (.signal 2 op)), 1, 0x100, by decide +kernel⟩,
    ⟨(let s := base; putStep s 1 (.signal 3 1)), 1, 1, by decide +kernel⟩,
    ⟨(let s := base; putStep s 1 (.signal 4 1)), 1, 1, by decide +kernel⟩,
    ⟨(let s := base; putStep s 1 (.signal 5 1)), 1, 1, by decide +kernel⟩,
    ⟨(let s := base; let s := putStep s 0 (.signal 6 1); { s with power := .watch }), 0, by decide +kernel⟩,
    ⟨(let s := base; putStep s 3 (.signal 6 2)), 3, 2, by decide +kernel⟩,
    ⟨(let s := base; let s := putStep s 0 (.signal 6 2); { s with power := .powerUp }), 0, 2, by decide +kernel⟩,
    ⟨(let s := base; let s := putStep s 0 (.signal 6 1); { s with power := .run }), 0, by decide +kernel⟩,
    ⟨(let s := base; let s := putStep s 0 (.signal 6 2); { s with power := .run }), 0, by decide +kernel⟩,
    ⟨(let s := base; let s := putStep s 0 (.signal 6 2); let s := { s with power := .run }; s.p F.STK_STAT_RUNNING 1), 0, by decide +kernel⟩⟩

theorem test_meets_EngineEvents :
    (∃ (s : State) (k : Nat) (st : EngStep), s.mayStep k = true ∧ s.stepAt k = .ok st ∧ st.lasts = false) ∧
    (∃ (s : State) (t : Nat), s.aoOn = true ∧ (s.timAt t).running = true) ∧
    (∃ (s : State), s.running = true ∧ s.hkPeriod ≠ 0) ∧
    (∃ (s : State), s.aliveRuns = true) ∧
    (∃ (s : State) (w : Word), s.hostAlive = true ∧ s.running = true ∧ F.ENG_TRIG_KEY.get w = 0x7E ∧ F.ENG_TRIG_ENGINE.get w ≤ 11) ∧
    (∃ (w : Word), F.ENG_TRIG_KEY.get w ≠ 0x7E) ∧
    (∃ (s : State) (w : Word) (k : Nat), s.hostAlive = true ∧ s.running = true ∧ k ≤ 11 ∧ k < s.eng.length ∧ F.ENG_DBG_SEL.get w = k ∧ F.ENG_DBG_KEY.get w = 0xD ∧ F.ENG_DBG_HALT.get w = 1 ∧ F.ENG_DBG_STEP.get w = 0 ∧ F.ENG_DBG_RESUME.get w = 0) ∧
    (∃ (s : State) (w : Word) (k : Nat), s.hostAlive = true ∧ s.running = true ∧ k ≤ 11 ∧ k < s.eng.length ∧ F.ENG_DBG_SEL.get w = k ∧ F.ENG_DBG_KEY.get w = 0xD ∧ F.ENG_DBG_HALT.get w = 0 ∧ F.ENG_DBG_STEP.get w = 1 ∧ F.ENG_DBG_RESUME.get w = 0 ∧ (s.engAt k).halted = true ∧ (s.engAt k).stepping = false ∧ (s.engAt k).pend = [] ∧ (s.engAt k).mode = .wait .time) ∧
    (∃ (s : State) (w : Word) (k : Nat) (i : Nat) (v : Nat), s.hostAlive = true ∧ s.running = true ∧ k ≤ 11 ∧ k < s.eng.length ∧ F.ENG_DBG_SEL.get w = k ∧ F.ENG_DBG_KEY.get w = 0xD ∧ F.ENG_DBG_HALT.get w = 0 ∧ F.ENG_DBG_STEP.get w = 1 ∧ F.ENG_DBG_RESUME.get w = 0 ∧ (s.engAt k).halted = true ∧ (s.engAt k).stepping = false ∧ (s.engAt k).pend = [] ∧ (s.engAt k).mode = .run ∧ (s.engAt k).pre = false ∧ s.stepAt k = .ok (.set (0x10 + i) v) ∧ i < 16 ∧ v < 65536 ∧ (s.engAt k).pc + 1 < s.engLen k) ∧
    (∃ (s : State) (w : Word) (k : Nat), s.hostAlive = true ∧ s.running = true ∧ k ≤ 11 ∧ k < s.eng.length ∧ F.ENG_DBG_SEL.get w = k ∧ F.ENG_DBG_KEY.get w = 0xD ∧ F.ENG_DBG_HALT.get w = 0 ∧ F.ENG_DBG_STEP.get w = 0 ∧ F.ENG_DBG_RESUME.get w = 1 ∧ (s.engAt k).halted = true ∧ (s.engAt k).pend = []) ∧
    (∃ (s : State) (w : Word) (k : Nat), s.hostAlive = true ∧ s.running = true ∧ k ≤ 11 ∧ k < s.eng.length ∧ F.ENG_DBG_SEL.get w = k ∧ F.ENG_DBG_KEY.get w ≠ 0xD) :=
  ⟨⟨(let s := base; let st : EngStep := .set 16 3; putStep s 1 st), 1, .set 16 3, by decide +kernel⟩,
    ⟨(let s := base; { s with tim := s.tim.modify 1 (fun _ => ⟨true, false, 5, 0⟩) }), 1, by decide +kernel⟩,
    ⟨base, by decide +kernel⟩,
    ⟨(let s := base; s.p F.FLT_CFG_ALVEN 1), by decide +kernel⟩,
    ⟨base, 0x7E04#16, by decide +kernel⟩,
    ⟨1#16, by decide +kernel⟩,
    ⟨base, 0xD023#16, 3, by decide +kernel⟩,
    ⟨(let s := base; s.setEng 3 (fun _ => ⟨.wait .time, 0, [], 0, 0, true, false, false⟩)), 0xD043#16, 3, by decide +kernel⟩,
    ⟨(let s := base; let s := putStep s 3 (.set (0x10 + 15) 65535); let s := s.setEng 3 (fun _ => ⟨.run, 0, [], 0, 0, true, false, false⟩); putStep s 3 (.set (0x10 + 15) 65535)), 0xD043#16, 3, 15, 65535, by decide +kernel⟩,
    ⟨(let s := base; s.setEng 3 (fun _ => ⟨.wait .time, 0, [], 0, 0, true, false, false⟩)), 0xD083#16, 3, by decide +kernel⟩,
    ⟨base, 0xC083#16, 3, by decide +kernel⟩⟩

theorem test_meets_DomainReports :
    (∃ (s : State) (n : Nat), n ≠ 1 ∧ s.cmdOn n = true ∧ (s.domAt n).ss = true ∧ (s.b (F.DOM_SLEW_TRACK n) = false ∨ (n ≠ 4 ∧ n ≠ 5))) ∧
    (∃ (s : State) (n : Nat), s.mayBeGood n = true ∧ s.pg n = false) ∧
    (∃ (s : State), s.dom.length = 10) ∧
    (∃ (n : Nat), n ∈ domains ∧ n ≠ 1 ∧ n ≠ 9) ∧
    (∃ (s : State) (n : Nat), n ∈ domains ∧ (s.power = .powerUp ∨ s.power = .run ∨ s.power = .watch) ∧ s.uvDue n = true ∧ s.sampled (n - 1) = false) ∧
    (∃ (s : State) (n : Nat) (mv : Nat) (sw : Switching), n ∈ domains ∧ (s.power = .powerUp ∨ s.power = .run ∨ s.power = .watch) ∧ s.reports n = true ∧ (s.domAt n).ovRep = false ∧ (n = 9 → s.lockHolds = true → sw.lockOn = true) ∧ s.sampled (n - 1) = false ∧ (s.switched sw).blanked (n - 1) = false ∧ s.judgeOver (n - 1) (s.stepOf (n - 1)) (s.monInput (n - 1) mv) = true) ∧
    (∃ (s : State) (n : Nat), n ∈ domains ∧ s.power = .powerDown ∧ s.uvDue n = true ∧ s.sampled (n - 1) = false ∧ s.dom.length = 10) ∧
    (∃ (s : State) (n : Nat) (mv : Nat) (sw : Switching), n ∈ domains ∧ s.power = .powerDown ∧ s.reports n = true ∧ (s.domAt n).ovRep = false ∧ (n = 9 → s.lockHolds = true → sw.lockOn = true) ∧ s.sampled (n - 1) = false ∧ s.dom.length = 10 ∧ (s.switched sw).blanked (n - 1) = false ∧ s.judgeOver (n - 1) (s.stepOf (n - 1)) (s.monInput (n - 1) mv) = true) ∧
    (∃ (s : State) (r : Raise), s.power = .powerDown ∧ 10 ≤ r.source ∧ r.source ≤ 29) ∧
    (∃ (s : State) (n : Nat), s.sampled (n - 1) = true) ∧
    (∃ (s : State) (n : Nat) (mv : Nat) (sw : Switching), let ov := s.judgeOver (n - 1) (s.stepOf (n - 1)) mv; let un := s.judgeUnder (n - 1) (s.stepOf (n - 1)) mv; n ∈ domains ∧ (s.power = .powerUp ∨ s.power = .run ∨ s.power = .watch) ∧ s.reports n = true ∧ (n = 9 → s.lockHolds = true → sw.lockOn = true) ∧ s.monPowered (n - 1) = true ∧ (∀ j ∈ List.range 16, (s.monPowered j && s.sampled j) = decide (j = n - 1)) ∧ (s.switched sw).blanked (n - 1) = false ∧ ov = true ∧ (s.domAt n).ovRep = false ∧ (un = false ∨ (s.domAt n).wasGood = false)) ∧
    (∃ (s : State) (n : Nat) (mv : Nat) (sw : Switching), let ov := s.judgeOver (n - 1) (s.stepOf (n - 1)) mv; let un := s.judgeUnder (n - 1) (s.stepOf (n - 1)) mv; n ∈ domains ∧ (s.power = .powerUp ∨ s.power = .run ∨ s.power = .watch) ∧ s.reports n = true ∧ (n = 9 → s.lockHolds = true → sw.lockOn = true) ∧ s.monPowered (n - 1) = true ∧ (∀ j ∈ List.range 16, (s.monPowered j && s.sampled j) = decide (j = n - 1)) ∧ (s.switched sw).blanked (n - 1) = false ∧ ov = false ∧ un = true ∧ (s.domAt n).wasGood = true ∧ (s.domAt n).uvRep = false ∧ (n = 1 → s.weirOn = false)) :=
  ⟨⟨(let s := base; let s := s.pb (F.DOM_STAT_CMDON 3) true; let s := s.p (F.DOM_SLEW_TRACK 3) 0; s.setDom 3 (fun d => { d with ss := true })), 3, by decide +kernel⟩,
    ⟨(let s := base; (s.p (F.DOM_STAT_CMDON 3) 1).wn A.CMP_UNDER 0), 3, by decide +kernel⟩,
    ⟨base, by decide +kernel⟩,
    ⟨3, by decide +kernel⟩,
    ⟨(let s := base; let s := { s with power := .powerUp }; (((s.p (F.DOM_STAT_CMDON 3) 1).p (F.DOM_CFG_USED 3) 1).setDom 3 (fun d => { d with wasGood := true })).wn A.CMP_UNDER 4), 3, by decide +kernel⟩,
    ⟨(let s := base; let s := { s with power := .powerUp }; ((s.p (F.DOM_STAT_CMDON 3) 1).p (F.DOM_CFG_USED 3) 1).p (F.DOM_STAT_MASKED 3) 0), 3, 65000, ⟨[], true⟩, by decide +kernel⟩,
    ⟨(let s := base; let s := { s with power := .powerDown }; ((((s.p (F.DOM_STAT_CMDON 3) 1).p (F.DOM_CFG_USED 3) 1).p (F.DOM_STAT_MASKED 3) 0).setDom 3 (fun d => { d with wasGood := true })).wn A.CMP_UNDER 4), 3, by decide +kernel⟩,
    ⟨(let s := base; let s := { s with power := .powerDown }; ((s.p (F.DOM_STAT_CMDON 3) 1).p (F.DOM_CFG_USED 3) 1).p (F.DOM_STAT_MASKED 3) 0), 3, 65000, ⟨[], true⟩, by decide +kernel⟩,
    ⟨(let s := base; { s with power := .powerDown }), ⟨29, .detector, 6⟩, by decide +kernel⟩,
    ⟨(let s := base; (((((List.range 16).foldl (fun (s : State) k => s.p (F.CMP_CFG_MODE k) 0) s).p (F.CMP_CFG_MODE 2) 2).p (F.DOM_STAT_CMDON 3) 1).p (F.DOM_CFG_USED 3) 1).setMonPower 4 true), 3, by decide +kernel⟩,
    ⟨(let s := base; let s := { s with power := .powerUp }; (((((List.range 16).foldl (fun (s : State) k => s.p (F.CMP_CFG_MODE k) 0) s).p (F.CMP_CFG_MODE 2) 2).p (F.DOM_STAT_CMDON 3) 1).p (F.DOM_CFG_USED 3) 1).setMonPower 4 true), 3, 65000, ⟨[], true⟩, by decide +kernel⟩,
    ⟨(let s := base; let s := { s with power := .powerUp }; ((((((((List.range 16).foldl (fun (s : State) k => s.p (F.CMP_CFG_MODE k) 0) s).p (F.CMP_CFG_MODE 2) 2).p (F.DOM_STAT_CMDON 3) 1).p (F.DOM_CFG_USED 3) 1).setMonPower 4 true).setDom 3 (fun d => { d with wasGood := true }))).wn (A.CMP_LO 2) 500), 3, 0, ⟨[], true⟩, by decide +kernel⟩⟩

theorem test_meets_MonitorJudges :
    (∃ (s : State) (k : Nat) (mv : Nat) (sw : Switching), k < 10 ∧ s.monPowered k = true ∧ (k = 8 → s.lockHolds = true → sw.lockOn = true) ∧ s.sampled k = false ∧ (s.switched sw).blanked k = false ∧ s.judgeOver k (s.stepOf k) (s.monInput k mv) = false) ∧
    (∃ (s : State), s.lockHolds = true) ∧
    (∃ (s : State) (k : Nat) (sw : Switching), s.running = true ∧ 10 ≤ k ∧ k < 16 ∧ s.monPowered k = true ∧ (∀ j ∈ List.range 16, (s.monPowered j && s.sampled j) = decide (j = k)) ∧ (s.switched sw).blanked k = false) ∧
    (∃ (s : State) (k : Nat) (sw : Switching), 10 ≤ k ∧ k < 16 ∧ s.monPowered k = true ∧ s.sampled k = false ∧ (s.switched sw).blanked k = false) ∧
    (∃ (s : State) (k : Nat) (sw : Switching), (s.switched sw).blanked k = true) ∧
    (∃ (s : State) (k : Nat), 10 ≤ k ∧ k < 16 ∧ s.monPowered k = true ∧ s.sampled k = false) ∧
    (∃ (s : State), (∀ k ∈ List.range 16, s.sampled k = false)) :=
  ⟨⟨(let s := base; s.setMonPower 2 true), 1, 0, ⟨[], true⟩, by decide +kernel⟩,
    ⟨(let s := base; s.p F.DOM9_LSTAT_PHASE 2), by decide +kernel⟩,
    ⟨(let s := base; ((((s.p (F.CMP_CFG_MODE 12) 2).p (F.CMP_CFG_MODE 13) 0).p (F.CMP_CFG_MODE 14) 0).p (F.CMP_CFG_MODE 15) 0).setMonPower 0x1000 true), 12, ⟨[], false⟩, by decide +kernel⟩,
    ⟨(let s := base; (s.p (F.CMP_CFG_MODE 12) 0).setMonPower 0x1000 true), 12, ⟨[], false⟩, by decide +kernel⟩,
    ⟨(let s := base; { s with mon := { s.mon with blank := 2 } }), 1, ⟨[], true⟩, by decide +kernel⟩,
    ⟨(let s := base; (s.p (F.CMP_CFG_MODE 12) 0).setMonPower 0x1000 true), 12, by decide +kernel⟩,
    ⟨base, by decide +kernel⟩⟩

theorem test_meets_RegulatorEvents :
    (∃ (s : State) (n : Nat) (mv : Nat), s.running = true ∧ n ∈ domains ∧ n ≠ 1 ∧ n ≠ 9 ∧ s.lockedOut n = false ∧ s.cmdOn n = true ∧ s.maskedDom n = false ∧ mv < (if n = 2 ∨ n = 10 then 6500 else 4300)) ∧
    (∃ (s : State) (n : Nat) (mv : Nat), s.running = true ∧ n ∈ domains ∧ n ≠ 1 ∧ n ≠ 9 ∧ s.lockedOut n = true ∧ s.cmdOn n = true ∧ (if n = 2 ∨ n = 10 then 7000 else 4600) < mv) ∧
    (∃ (s : State) (n : Nat), s.running = true ∧ n ∈ domains ∧ n ≠ 1 ∧ n ≠ 9 ∧ s.cmdOn n = false) ∧
    (∃ (s : State) (n : Nat) (mv : Nat), s.running = true ∧ n ∈ domains ∧ n ≠ 1 ∧ n ≠ 9 ∧ (s.lockedOut n = false ∧ (if n = 2 ∨ n = 10 then 6500 else 4300) ≤ mv ∨ s.lockedOut n = true ∧ mv ≤ (if n = 2 ∨ n = 10 then 7000 else 4600))) ∧
    (∃ (s : State) (mv : Nat), s.running = true ∧ s.cmdOn 9 = true ∧ s.lockedOut 9 = false ∧ s.maskedDom 9 = false ∧ mv < 6500) ∧
    (∃ (s : State) (mv : Nat), s.running = true ∧ s.cmdOn 9 = true ∧ s.lockedOut 9 = true ∧ s.b F.DOM9_LSTAT_SCLATCH = false ∧ 7000 < mv) ∧
    (∃ (s : State) (mv : Nat), s.running = true ∧ s.cmdOn 9 = true ∧ (s.lockedOut 9 = false ∧ 6500 ≤ mv ∨ s.lockedOut 9 = true ∧ mv ≤ 7000)) ∧
    (∃ (s : State) (n : Nat), n ≠ 1 ∧ n ≠ 9 ∧ s.cmdOn n = true) ∧
    (∃ (s : State) (n : Nat) (c : Nat), (n = 4 ∨ n = 5) ∧ s.cmdOn n = true ∧ (s.domAt n).ssEnded = true ∧ s.dom.length = 10 ∧ c < 512 ∧ s.g (F.DOM_VACT_CODE n) ≠ c) ∧
    (∃ (s : State) (n : Nat), (n = 4 ∨ n = 5) ∧ (s.domAt n).slew = .slewing ∧ s.dom.length = 10) ∧
    (∃ (s : State) (n : Nat), (n = 4 ∨ n = 5) ∧ (s.domAt n).slew = .settling ∧ s.dom.length = 10 ∧ s.over (n - 1) = false ∧ s.sampled (n - 1) = false) ∧
    (∃ (s : State) (n : Nat) (w : Word), (n = 4 ∨ n = 5) ∧ s.hostAlive = true ∧ s.power ≠ .boot ∧ s.cmdOn n = false ∧ s.nvm.windows = [] ∧ (F.DOM_VSET_CODE n).get w ≤ 150) ∧
    (∃ (s : State) (w : Word), s.hostAlive = true ∧ s.power ≠ .boot ∧ s.drvOn = false ∧ s.nvm.windows = [] ∧ F.DRV_VSET_CODE.get w ≤ 2400) ∧
    (∃ (s : State) (n : Nat) (lo : Nat) (hi : Nat), (n = 4 ∨ n = 5) ∧ s.hostAlive = true ∧ s.power ≠ .boot ∧ s.cmdOn n = false ∧ s.nvm.windows.find? (fun x => x.1 = A.DOM_VSET n && x.2.1 = 0 && x.2.2.1 = 9) = some (A.DOM_VSET n, 0, 9, false, lo, hi) ∧ lo ≤ hi ∧ hi ≤ 150) ∧
    (∃ (s : State) (lo : Nat) (hi : Nat), s.hostAlive = true ∧ s.power ≠ .boot ∧ s.drvOn = false ∧ s.nvm.windows.find? (fun x => x.1 = A.DRV_VSET && x.2.1 = 0 && x.2.2.1 = 12) = some (A.DRV_VSET, 0, 12, false, lo, hi) ∧ lo ≤ hi ∧ hi ≤ 2400) ∧
    (∃ (s : State) (n : Nat), s.running = false ∧ (n = 2 ∨ n = 9 ∨ n = 10)) ∧
    (∃ (s : State) (n : Nat), s.running = false ∧ n ≠ 2 ∧ n ≠ 9 ∧ n ≠ 10) :=
  ⟨⟨(let s := base; let s := s.pb (F.DOM_STAT_CMDON 3) true; (((s.p (F.DOM_STAT_CMDON 3) 1).p (F.DOM_CFG_USED 3) 1).p (F.DOM_STAT_MASKED 3) 0).p (F.DOM_RSTAT_UVLO 3) 0), 3, 4299, by decide +kernel⟩,
    ⟨(let s := base; let s := s.pb (F.DOM_STAT_CMDON 2) true; (((s.p (F.DOM_STAT_CMDON 2) 1).p (F.DOM_CFG_USED 2) 1).p (F.DOM_STAT_MASKED 2) 0).p (F.DOM_RSTAT_UVLO 2) 1), 2, 7001, by decide +kernel⟩,
    ⟨(let s := base; let s := s.pb (F.DOM_STAT_CMDON 10) false; s.p (F.DOM_STAT_CMDON 10) 0), 10, by decide +kernel⟩,
    ⟨(let s := base; s.p (F.DOM_RSTAT_UVLO 4) 1), 4, 4600, by decide +kernel⟩,
    ⟨(let s := base; let s := s.pb (F.DOM_STAT_CMDON 9) true; (((s.p (F.DOM_STAT_CMDON 9) 1).p (F.DOM_CFG_USED 9) 1).p (F.DOM_STAT_MASKED 9) 0).p F.DOM9_LSTAT_UVLO 0), 6499, by decide +kernel⟩,
    ⟨(let s := base; let s := s.pb (F.DOM_STAT_CMDON 9) true; let s := s.p F.DOM9_LSTAT_SCLATCH 0; (((s.p (F.DOM_STAT_CMDON 9) 1).p (F.DOM_CFG_USED 9) 1).p (F.DOM_STAT_MASKED 9) 0).p F.DOM9_LSTAT_UVLO 1), 7001, by decide +kernel⟩,
    ⟨(let s := base; let s := s.pb (F.DOM_STAT_CMDON 9) true; (((s.p (F.DOM_STAT_CMDON 9) 1).p (F.DOM_CFG_USED 9) 1).p (F.DOM_STAT_MASKED 9) 0).p F.DOM9_LSTAT_UVLO 0), 6500, by decide +kernel⟩,
    ⟨(let s := base; let s := s.pb (F.DOM_STAT_CMDON 3) true; s.p (F.DOM_STAT_CMDON 3) 1), 3, by decide +kernel⟩,
    ⟨(let s := base; s.pb (F.DOM_STAT_CMDON 4) true), 4, 33, by decide +kernel⟩,
    ⟨(let s := base; s.setDom 5 (fun d => { d with slew := .slewing })), 5, by decide +kernel⟩,
    ⟨(let s := base; s.setDom 5 (fun d => { d with slew := .settling })), 5, by decide +kernel⟩,
    ⟨(let s := base; let s := s.pb (F.DOM_STAT_CMDON 4) false; { s with nvm := { s.nvm with windows := [] } }), 4, 60#16, by decide +kernel⟩,
    ⟨(let s := base; let s := s.pb (F.DOM_STAT_CMDON 1) false; { s with nvm := { s.nvm with windows := [] } }), 1#16, by decide +kernel⟩,
    ⟨(let s := base; let s := s.pb (F.DOM_STAT_CMDON 4) false; { s with nvm := { s.nvm with windows := [(A.DOM_VSET 4, 0, 9, false, 70, 100)] } }), 4, 70, 100, by decide +kernel⟩,
    ⟨(let s := base; let s := s.pb (F.DOM_STAT_CMDON 1) false; { s with nvm := { s.nvm with windows := [(A.DRV_VSET, 0, 12, false, 1600, 2000)] } }), 1600, 2000, by decide +kernel⟩,
    ⟨(let s := base; { s with power := .fault }), 9, by decide +kernel⟩,
    ⟨(let s := base; { s with power := .fault }), 3, by decide +kernel⟩⟩

theorem test_meets_LockAndProgramLimits :
    (∃ (s : State), s.cmdOn 9 = true ∧ s.g F.DOM9_LSTAT_PHASE = 1) ∧
    (∃ (s : State), s.cmdOn 9 = true ∧ s.g F.DOM9_LSTAT_PHASE = 2) ∧
    (∃ (s : State), s.g F.DOM9_LSTAT_PHASE = 3) ∧
    (∃ (s : State), s.power = .powerUp ∧ s.ctl.puRaised = false ∧ s.g F.DOM_SEQCFG_PUMAX ≠ 0) ∧
    (∃ (s : State), (s.ctl.puRaised = true ∨ s.g F.DOM_SEQCFG_PUMAX = 0)) ∧
    (∃ (s : State), s.power = .powerDown ∧ s.ctl.entryWaits = none ∧ s.g F.DOM_SEQCFG_PDMAX ≠ 0) ∧
    (∃ (s : State), s.g F.DOM_SEQCFG_PDMAX = 0) :=
  ⟨⟨(let s := base; let s := s.pb (F.DOM_STAT_CMDON 9) true; s.p F.DOM9_LSTAT_PHASE 1), by decide +kernel⟩,
    ⟨(let s := base; let s := s.pb (F.DOM_STAT_CMDON 9) true; s.p F.DOM9_LSTAT_PHASE 2), by decide +kernel⟩,
    ⟨(let s := base; s.p F.DOM9_LSTAT_PHASE 3), by decide +kernel⟩,
    ⟨(let s := base; let s := { s with power := .powerUp }; let s := { s with ctl := { s.ctl with puRaised := false } }; s.p F.DOM_SEQCFG_PUMAX 1), by decide +kernel⟩,
    ⟨(let s := base; { s with ctl := { s.ctl with puRaised := true } }), by decide +kernel⟩,
    ⟨(let s := base; let s := { s with power := .powerDown }; let s := { s with ctl := { s.ctl with entryWaits := none } }; s.p F.DOM_SEQCFG_PDMAX 1), by decide +kernel⟩,
    ⟨(let s := base; s.p F.DOM_SEQCFG_PDMAX 0), by decide +kernel⟩⟩

theorem test_meets_LineQualifiesAndIsLost :
    (∃ (s : State), s.aoOn = true ∧ s.line.present = false) ∧
    (∃ (s : State), s.line.reading = true) ∧
    (∃ (s : State), s.line.present = true) ∧
    (∃ (s : State), s.power = .run ∧ s.line.qualifying = true ∧ s.line.inWin = true ∧ s.line.reading = false ∧ s.srcKind ≠ 0 ∧ s.line.fullOn = false ∧ s.line.inrush = .none) ∧
    (∃ (s : State), s.line.inrush = .stagger) ∧
    (∃ (s : State), s.line.inrush = .charging) ∧
    (∃ (s : State), s.line.qual = true ∧ s.line.fullOn = true) ∧
    (∃ (s : State) (dv : Nat), s.aoOn = true ∧ s.line.present = true ∧ s.line.qual = true ∧ dv + s.srcHys < s.srcVlo ∧ dv ≤ s.srcVhi) ∧
    (∃ (s : State), s.aoOn = true ∧ s.line.present = true ∧ s.line.qual = true) ∧
    (∃ (s : State), s.aoOn = true ∧ s.line.present = true ∧ s.line.qual = false ∧ s.line.implaus = false) :=
  ⟨⟨(let s := base; { s with line := { s.line with present := false } }), by decide +kernel⟩,
    ⟨(let s := base; { s with line := { s.line with reading := true } }), by decide +kernel⟩,
    ⟨(let s := base; { s with line := { s.line with present := true } }), by decide +kernel⟩,
    ⟨(let s := base; let s := { s with power := .run }; let s := { s with line := { s.line with qualifying := true } }; let s := { s with line := { s.line with inWin := true } }; let s := { s with line := { s.line with reading := false } }; let s := { s with line := { s.line with fullOn := false } }; { s with line := { s.line with inrush := .none } }), by decide +kernel⟩,
    ⟨(let s := base; { s with line := { s.line with inrush := .stagger } }), by decide +kernel⟩,
    ⟨(let s := base; { s with line := { s.line with inrush := .charging } }), by decide +kernel⟩,
    ⟨(let s := base; let s := { s with line := { s.line with qual := true } }; { s with line := { s.line with fullOn := true } }), by decide +kernel⟩,
    ⟨(let s := base; let s := { s with line := { s.line with present := true } }; let s := { s with line := { s.line with qual := true } }; ((s.wn (A.LIN_SRCTAB 0) 3).wn (A.LIN_SRCTAB 1) 200).wn (A.LIN_SRCTAB 2) 10), 100, by decide +kernel⟩,
    ⟨(let s := base; let s := { s with line := { s.line with present := true } }; { s with line := { s.line with qual := true } }), by decide +kernel⟩,
    ⟨(let s := base; let s := { s with line := { s.line with present := true } }; let s := { s with line := { s.line with qual := false } }; { s with line := { s.line with implaus := false } }), by decide +kernel⟩⟩

theorem test_meets_SluiceTrips :
    (∃ (s : State) (dv : Nat), s.line.present = true ∧ s.line.ov = false ∧ s.srcVov < dv) ∧
    (∃ (s : State) (c : Instr) (src : Nat) (cause : Nat), (c = .lineShortCircuit ∧ src = 46 ∧ cause = 5 ∧ s.sluiceBusy = true ∨ c = .soaExpiry ∧ src = 45 ∧ cause = 4 ∧ s.line.inrush = .charging)) ∧
    (∃ (s : State), s.aoOn = true ∧ s.line.retry = true ∧ s.line.present = true ∧ s.line.latch = false) ∧
    (∃ (s : State), s.line.fullOn = true) ∧
    (∃ (s : State), s.hostAlive = true ∧ s.line.latch = true) ∧
    (∃ (s : State), s.hostAlive = true) ∧
    (∃ (w : Word), w ≠ 0x9C3A#16 ∧ w ≠ 0xC1EA#16) :=
  ⟨⟨(let s := base; let s := { s with line := { s.line with present := true } }; { s with line := { s.line with ov := false } }), 5000, by decide +kernel⟩,
    ⟨(let s := base; s.p F.LIN_CFG0_RETRIES 3), .lineShortCircuit, 46, 5, by decide +kernel⟩,
    ⟨(let s := base; let s := { s with line := { s.line with retry := true } }; let s := { s with line := { s.line with present := true } }; { s with line := { s.line with latch := false } }), by decide +kernel⟩,
    ⟨(let s := base; { s with line := { s.line with fullOn := true } }), by decide +kernel⟩,
    ⟨(let s := base; { s with line := { s.line with latch := true } }), by decide +kernel⟩,
    ⟨base, by decide +kernel⟩,
    ⟨1#16, by decide +kernel⟩⟩

theorem test_meets_WeirEvents :
    (∃ (s : State) (v : Nat) (b : Nat), s.weirOn = false ∧ s.running = true ∧ s.sup.pack = true ∧ s.line.weirHeld = false ∧ s.weirForcedOn = false ∧ v + 20 ≤ b ∧ (s.g F.WEIR_CFG_TKO = 255 ∨ v < 12000 + 200 * s.g F.WEIR_CFG_TKO)) ∧
    (∃ (s : State), s.weirOn = true) ∧
    (∃ (s : State) (c : Instr) (src : Nat), s.weirOn = true ∧ (c = .weirTakeoverFail ∧ src = 49 ∧ s.b F.WEIR_STAT_TKLIM = true ∨ c = .weirShortCircuit ∧ src = 50)) ∧
    (∃ (s : State), s.line.handback = true ∧ s.line.fullOn = true ∧ s.strokeRuns = true ∨ s.weirMode ≠ .auto) ∧
    (∃ (s : State), s.line.handback = true ∧ s.line.fullOn = true ∧ s.strokeRuns = false ∧ s.weirMode = .auto) ∧
    (∃ (s : State), s.line.hbWait = true ∧ s.line.fullOn = true ∧ s.strokeRuns = false ∧ s.weirMode = .auto) ∧
    (∃ (s : State), s.weirMode = .forcedOff) :=
  ⟨⟨(let s := base; let s := s.pb F.WEIR_STAT_COND false; let s := { s with sup := { s.sup with pack := true } }; let s := { s with line := { s.line with weirHeld := false } }; s.p F.WEIR_CFG_TKO 255), 10, 30000, by decide +kernel⟩,
    ⟨(let s := base; s.pb F.WEIR_STAT_COND true), by decide +kernel⟩,
    ⟨(let s := base; s.pb F.WEIR_STAT_COND true), .weirShortCircuit, 50, by decide +kernel⟩,
    ⟨(let s := base; let s := { s with line := { s.line with handback := true } }; let s := { s with line := { s.line with fullOn := true } }; s.p F.STK_STAT_RUNNING 1), by decide +kernel⟩,
    ⟨(let s := base; let s := { s with line := { s.line with handback := true } }; { s with line := { s.line with fullOn := true } }), by decide +kernel⟩,
    ⟨(let s := base; let s := { s with line := { s.line with hbWait := true } }; { s with line := { s.line with fullOn := true } }), by decide +kernel⟩,
    ⟨(let s := base; { s with sup := { s.sup with pack := false } }), by decide +kernel⟩⟩

theorem test_meets_DriveFramesAndLimits :
    (∃ (s : State), s.drvOn = true) ∧
    (∃ (s : State), s.drvOn = false) ∧
    (∃ (s : State), s.drvOn = true ∧ (∀ x ∈ s.drv.trims, (-1 / 20 : Rat) ≤ x ∧ x ≤ 1 / 20)) ∧
    (∃ (s : State) (period : Nat), s.drvOn = true ∧ s.g F.DRV_SYNC_MODE = 1 ∧ s.inPullRange period = true) ∧
    (∃ (s : State), s.drvOn = true ∧ s.g F.DRV_SYNC_MODE = 1 ∧ s.drv.syncGone = false) ∧
    (∃ (s : State), s.drv.syncGone = true) ∧
    (∃ (s : State) (k : Nat) (cs : Int), s.retCause k ≠ 3 ∧ s.detCause k ≠ 3 ∧ s.switches k = true ∧ (s.g F.DRV_IPHSC_ILIM : Rat) / 10 < s.iphOf cs) ∧
    (∃ (s : State) (k : Nat) (cs : Int), s.retCause k ≠ 3 ∧ s.detCause k ≠ 3 ∧ s.switches k = false ∨ s.iphOf cs ≤ (s.g F.DRV_IPHSC_ILIM : Rat) / 10) ∧
    (∃ (s : State) (k : Nat), s.regulates = true ∧ inMask s.phActive k = true ∧ (s.g F.DRV_OCCFG_OCMODE = 1 ∨ s.g F.DRV_OCCFG_OCMODE = 2)) ∧
    (∃ (s : State), s.drvOn = true ∧ s.g F.DRV_STAT_MODE = 5 ∧ s.over 0 = false ∧ s.sampled 0 = false) ∧
    (∃ (s : State), s.regulates = true ∧ s.g F.DRV_STAT_LIMBY = 1 ∧ s.drv.ovlRaised = false) ∧
    (∃ (s : State), s.regulates = true ∧ s.g F.DRV_STAT_LIMBY = 1 ∧ s.drv.ovlRaised = true) ∧
    (∃ (s : State), s.drvOn = true ∧ s.drv.sumRaised = false) ∧
    (∃ (s : State), s.drvOn = true ∧ s.drv.sumRaised = true) ∧
    (∃ (s : State), s.g F.DRV_OCCFG_OCMODE = 0) :=
  ⟨⟨(let s := base; s.pb (F.DOM_STAT_CMDON 1) true), by decide +kernel⟩,
    ⟨(let s := base; s.pb (F.DOM_STAT_CMDON 1) false), by decide +kernel⟩,
    ⟨(let s := base; s.pb (F.DOM_STAT_CMDON 1) true), by decide +kernel⟩,
    ⟨(let s := base; let s := s.pb (F.DOM_STAT_CMDON 1) true; let s := s.p F.DRV_SYNC_MODE 1; s.p F.DRV_FSW_DIV 96), 1000, by decide +kernel⟩,
    ⟨(let s := base; let s := s.pb (F.DOM_STAT_CMDON 1) true; let s := s.p F.DRV_SYNC_MODE 1; { s with drv := { s.drv with syncGone := false } }), by decide +kernel⟩,
    ⟨(let s := base; { s with drv := { s.drv with syncGone := true } }), by decide +kernel⟩,
    ⟨base, 6, 10000000, by decide +kernel⟩,
    ⟨base, 1, 0, by decide +kernel⟩,
    ⟨(let s := base; s.p F.DRV_OCCFG_OCMODE 1), 6, by decide +kernel⟩,
    ⟨(let s := base; let s := s.pb (F.DOM_STAT_CMDON 1) true; s.p F.DRV_STAT_MODE 5), by decide +kernel⟩,
    ⟨(let s := base; let s := s.p F.DRV_STAT_LIMBY 1; { s with drv := { s.drv with ovlRaised := false } }), by decide +kernel⟩,
    ⟨(let s := base; let s := s.p F.DRV_STAT_LIMBY 1; { s with drv := { s.drv with ovlRaised := true } }), by decide +kernel⟩,
    ⟨(let s := base; let s := s.pb (F.DOM_STAT_CMDON 1) true; { s with drv := { s.drv with sumRaised := false } }), by decide +kernel⟩,
    ⟨(let s := base; let s := s.pb (F.DOM_STAT_CMDON 1) true; { s with drv := { s.drv with sumRaised := true } }), by decide +kernel⟩,
    ⟨(let s := base; s.p F.DRV_OCCFG_OCMODE 0), by decide +kernel⟩⟩

theorem test_meets_DrivePhases :
    (∃ (s : State) (dcs : Int), s.mayShed = true ∧ s.g F.DRV_SHED_MINACT < ones6 s.phActive ∧ s.g F.DRV_SHED_MINACT ≤ ones6 (s.phRemain.land (63 - 2 ^ Nat.log2 s.phActive)) ∧ 10 * s.ioutOf dcs < 8 * ((ones6 s.phActive : Rat) - 1) * s.ished) ∧
    (∃ (s : State) (dcs : Int), s.mayShed = true ∧ ones6 s.phActive ≤ s.g F.DRV_SHED_MINACT ∨ ones6 (s.phRemain.land (63 - 2 ^ Nat.log2 s.phActive)) < s.g F.DRV_SHED_MINACT ∨ 8 * ((ones6 s.phActive : Rat) - 1) * s.ished ≤ 10 * s.ioutOf dcs) ∧
    (∃ (s : State) (dcs : Int) (k : Nat), s.mayShed = true ∧ k < 6 ∧ s.phSvc.testBit k = true ∧ (s.g F.DRV_PHSTAT_SHED).testBit k = true ∧ (∀ j, j < k → (s.phSvc.testBit j && (s.g F.DRV_PHSTAT_SHED).testBit j) = false) ∧ (ones6 s.phActive : Rat) * s.ished < s.ioutOf dcs) ∧
    (∃ (s : State) (dcs : Int) (k : Nat), s.mayShed = true ∧ k < 6 ∧ s.phSvc.testBit k = true ∧ (s.g F.DRV_PHSTAT_SHED).testBit k = true ∧ (∀ j, j < k → (s.phSvc.testBit j && (s.g F.DRV_PHSTAT_SHED).testBit j) = false) ∧ s.ioutOf dcs ≤ (ones6 s.phActive : Rat) * s.ished) ∧
    (∃ (s : State), s.strokeActive = false) ∧
    (∃ (s : State), s.strokeActive = true) ∧
    (∃ (s : State) (k : Nat) (io : Nat), s.drvOn = true ∧ inMask s.phActive k = true ∧ (∀ d ∈ s.drv.det, d.phase ≠ k) ∧ s.retCause k = 0 ∧ 0 < s.phaseDuty k ∧ s.itotEff * 2 < (io : Rat)) ∧
    (∃ (s : State) (k : Nat) (io : Nat), s.phaseDuty k ≤ 0 ∨ (io : Rat) ≤ s.itotEff * 2) ∧
    (∃ (s : State) (k : Nat) (t : Nat), s.drvOn = true ∧ inMask s.phActive k = true ∧ s.drv.det = [] ∧ s.retCause k = 0 ∧ (t = 2 → s.switches k = true)) ∧
    (∃ (s : State) (k : Nat), s.switches k = false) ∧
    (∃ (s : State) (k : Nat) (io : Nat), 1 ≤ k ∧ k ≤ 6 ∧ s.drvOn = true ∧ s.drv.det = [⟨k, 1, 0, io⟩]) ∧
    (∃ (s : State), s.hostAlive = true ∧ s.drvOn = false) ∧
    (∃ (s : State) (w : Word), s.drvOn = true ∨ w ≠ 0x5E7A#16) :=
  ⟨⟨base, 0, by decide +kernel⟩,
    ⟨(let s := base; s.p F.DRV_SHED_MINACT 6), 0, by decide +kernel⟩,
    ⟨(let s := base; { s.p F.DRV_PHSTAT_SHED 0x30 with drv := { s.drv with shedNext := 0x30 } }), 1000000000, 4, by decide +kernel⟩,
    ⟨(let s := base; { s.p F.DRV_PHSTAT_SHED 0x30 with drv := { s.drv with shedNext := 0x30 } }), 0, 4, by decide +kernel⟩,
    ⟨base, by decide +kernel⟩,
    ⟨(let s := base; s.p F.STK_STAT_RUNNING 1), by decide +kernel⟩,
    ⟨(let s := base; let s := s.pb (F.DOM_STAT_CMDON 1) true; { s with drv := { s.drv with duty := 1/2 } }), 3, 100, by decide +kernel⟩,
    ⟨base, 1, 1, by decide +kernel⟩,
    ⟨(let s := base; let s := s.pb (F.DOM_STAT_CMDON 1) true; { s with drv := { s.drv with det := [] } }), 3, 2, by decide +kernel⟩,
    ⟨(let s := base; s.p F.DRV_STAT_MODE 5), 3, by decide +kernel⟩,
    ⟨(let s := base; let s := s.pb (F.DOM_STAT_CMDON 1) true; { s with drv := { s.drv with det := [⟨6, 1, 0, 10⟩] } }), 6, 10, by decide +kernel⟩,
    ⟨(let s := base; s.pb (F.DOM_STAT_CMDON 1) false), by decide +kernel⟩,
    ⟨(let s := base; s.pb (F.DOM_STAT_CMDON 1) true), 1#16, by decide +kernel⟩⟩

theorem test_meets_DriveSlews :
    (∃ (s : State), s.drvOn = true ∧ (s.domAt 1).ss = true ∧ s.dom.length = 10 ∧ s.g F.DRV_STAT_MODE = 2 ∧ s.vTarget ≤ s.drv.vref ∧ (s.drv.ssRet = false ∨ s.drv.vref = s.vTarget)) ∧
    (∃ (s : State), s.drvOn = true ∧ (s.domAt 1).ss = true ∧ s.dom.length = 10 ∧ s.g F.DRV_STAT_MODE = 2 ∧ s.drv.ssRet = true ∧ s.vTarget < s.drv.vref) ∧
    (∃ (s : State), s.drvOn = true ∧ (s.domAt 1).ss = true ∧ s.g F.DRV_STAT_MODE = 4 ∧ s.weirOn = true ∧ s.b F.WEIR_STAT_TKLIM = false ∧ (s.drv.ssRet = false ∨ s.drv.vref ≤ s.vTarget)) ∧
    (∃ (s : State), (s.g F.DRV_STAT_MODE = 2 ∧ s.drv.vref < s.vTarget ∨ s.g F.DRV_STAT_MODE = 4 ∧ s.b F.WEIR_STAT_TKLIM = true ∨ s.g F.DRV_STAT_MODE = 1)) ∧
    (∃ (s : State) (tmax : Bool), s.drvOn = true ∧ (s.domAt 1).slew = .slewing ∧ s.drv.vref = s.vTarget ∧ (tmax = true ∨ 98 * s.vTarget ≤ 100 * ((s.drv.vdrv : Rat) / 1000) ∧ 100 * ((s.drv.vdrv : Rat) / 1000) ≤ 102 * s.vTarget)) ∧
    (∃ (s : State), s.drvOn = true ∧ (s.domAt 1).slew = .settling ∧ s.over 0 = false ∧ s.sampled 0 = false ∧ s.dom.length = 10) :=
  ⟨⟨(let s := base; let s := s.pb (F.DOM_STAT_CMDON 1) true; let s := s.p F.DRV_STAT_MODE 2; let s := { s with drv := { s.drv with ssRet := false } }; { s.setDom 1 (fun d => { d with ss := true }) with drv := { s.drv with vref := s.vTarget } }), by decide +kernel⟩,
    ⟨(let s := base; let s := s.pb (F.DOM_STAT_CMDON 1) true; let s := s.p F.DRV_STAT_MODE 2; let s := { s with drv := { s.drv with ssRet := true } }; { s.setDom 1 (fun d => { d with ss := true }) with drv := { s.drv with vref := s.vTarget + 1 } }), by decide +kernel⟩,
    ⟨(let s := base; let s := s.pb (F.DOM_STAT_CMDON 1) true; let s := s.p F.DRV_STAT_MODE 4; let s := s.pb F.WEIR_STAT_COND true; let s := s.p F.WEIR_STAT_TKLIM 0; let s := { s with drv := { s.drv with ssRet := false } }; { s.setDom 1 (fun d => { d with ss := true }) with drv := { s.drv with ssRet := false } }), by decide +kernel⟩,
    ⟨(let s := base; s.p F.DRV_STAT_MODE 1), by decide +kernel⟩,
    ⟨(let s := base; let s := s.pb (F.DOM_STAT_CMDON 1) true; let s := { s with drv := { s.drv with vref := s.vTarget } }; let s := s.setDom 1 (fun d => { d with slew := .slewing }); { s with drv := { s.drv with vref := s.vTarget } }), true, by decide +kernel⟩,
    ⟨(let s := base; let s := s.pb (F.DOM_STAT_CMDON 1) true; s.setDom 1 (fun d => { d with slew := .settling })), by decide +kernel⟩⟩

theorem test_meets_StrokeHintsAndEnds :
    (∃ (s : State) (w : Word), s.hostAlive = true ∧ s.power = .run ∧ s.cmdOn 1 = true ∧ s.preArmed = false ∧ s.strokeRuns = false ∧ F.STK_CMD_KEY.get w = 5 ∧ F.STK_CMD_KIND.get w ≠ 3 ∧ F.STK_CMD_OP.get w = 1) ∧
    (∃ (s : State) (w : Word), s.hostAlive = true ∧ s.power = .run ∧ s.cmdOn 1 = true ∧ s.preArmed = false ∧ s.strokeRuns = false ∧ F.STK_CMD_KEY.get w = 5 ∧ F.STK_CMD_KIND.get w ≠ 3 ∧ F.STK_CMD_OP.get w = 2) ∧
    (∃ (s : State) (w : Word), s.hostAlive = true ∧ s.cmdOn 1 = false ∧ F.STK_CMD_KEY.get w = 5 ∧ F.STK_CMD_KIND.get w ≠ 3 ∧ F.STK_CMD_OP.get w = 1) ∧
    (∃ (s : State) (w : Word), s.hostAlive = true ∧ s.cmdOn 1 = false ∧ F.STK_CMD_KEY.get w = 5 ∧ F.STK_CMD_KIND.get w ≠ 3 ∧ F.STK_CMD_OP.get w = 2) ∧
    (∃ (s : State) (w : Word), s.hostAlive = true ∧ s.cmdOn 1 = false ∧ F.STK_CMD_KEY.get w = 5 ∧ F.STK_CMD_KIND.get w ≠ 3 ∧ F.STK_CMD_OP.get w = 3) ∧
    (∃ (s : State) (w : Word), s.hostAlive = true ∧ s.cmdOn 1 = false ∧ F.STK_CMD_KEY.get w = 5 ∧ F.STK_CMD_KIND.get w ≠ 3 ∧ F.STK_CMD_OP.get w = 4) ∧
    (∃ (w : Word), F.STK_CMD_KEY.get w ≠ 5 ∨ F.STK_CMD_KIND.get w = 3) ∧
    (∃ (s : State) (width : Nat) (d : Nat) (em : Bool), s.b F.STK_CFG_PINEN = true ∧ s.sup.vioh = true ∧ s.power = .run ∧ s.cmdOn 1 = true ∧ s.preArmed = false ∧ s.strokeRuns = false ∧ (120 < width ∧ width < 980 ∧ em = false ∧ d = 0 ∨ 2020 < width ∧ width < 4980 ∧ em = false ∧ d = 1 ∨ 10020 < width ∧ width < 19980 ∧ em = true ∧ d = 0 ∨ 30020 < width ∧ width < 49980 ∧ em = true ∧ d = 1)) ∧
    (∃ (s : State) (width : Nat), s.running = true ∧ s.b F.STK_CFG_PINEN = true ∧ s.sup.vioh = true ∧ (10 < width ∧ width < 80 ∨ 1020 < width ∧ width < 1980 ∨ 5020 < width ∧ width < 9980 ∨ 20020 < width ∧ width < 29980 ∨ 50020 < width)) ∧
    (∃ (s : State) (width : Nat) (d : Nat) (em : Bool), s.running = true ∧ s.b F.STK_CFG_PINEN = true ∧ s.sup.vioh = true ∧ ((80 ≤ width ∧ width ≤ 120 ∨ 980 ≤ width ∧ width ≤ 1020) ∧ em = false ∧ d = 0 ∨ (1980 ≤ width ∧ width ≤ 2020 ∨ 4980 ≤ width ∧ width ≤ 5020) ∧ em = false ∧ d = 1 ∨
      (9980 ≤ width ∧ width ≤ 10020 ∨ 19980 ≤ width ∧ width ≤ 20020) ∧ em = true ∧ d = 0 ∨ (29980 ≤ width ∧ width ≤ 30020 ∨ 49980 ≤ width ∧ width ≤ 50020) ∧ em = true ∧ d = 1)) ∧
    (∃ (s : State) (width : Nat), s.running = false ∨ s.b F.STK_CFG_PINEN = false ∨ s.sup.vioh = false ∨ width ≤ 10) ∧
    (∃ (s : State) (w : Word), s.hostAlive = true ∧ s.power = .run ∧ s.cmdOn 1 = true ∧ s.strokeRuns = true ∧ F.STK_CMD_KEY.get w = 5 ∧ F.STK_CMD_KIND.get w ≠ 3 ∧ F.STK_CMD_OP.get w = 3) ∧
    (∃ (s : State), s.strokeRuns = true ∧ 200 ≤ s.stk.below) ∧
    (∃ (s : State), s.strokeRuns = true ∧ s.stk.below < 200) ∧
    (∃ (s : State) (w : Word), s.hostAlive = true ∧ s.power = .run ∧ s.cmdOn 1 = true ∧ s.preArmed = true ∧ F.STK_CMD_KEY.get w = 5 ∧ F.STK_CMD_KIND.get w ≠ 3 ∧ F.STK_CMD_OP.get w = 4) ∧
    (∃ (s : State) (w : Word), s.hostAlive = true ∧ s.power = .run ∧ s.cmdOn 1 = true ∧ s.preArmed = true ∧ F.STK_CMD_KEY.get w = 5 ∧ F.STK_CMD_KIND.get w ≠ 3 ∧ F.STK_CMD_OP.get w = 3 ∧ s.strokeRuns = false) ∧
    (∃ (s : State), s.preArmed = true) ∧
    (∃ (s : State), s.preArmed = false) :=
  ⟨⟨(let s := base; let s := { s with power := .run }; s.pb (F.DOM_STAT_CMDON 1) true), 0x5001#16, by decide +kernel⟩,
    ⟨(let s := base; let s := { s with power := .run }; s.pb (F.DOM_STAT_CMDON 1) true), 0x5002#16, by decide +kernel⟩,
    ⟨(let s := base; s.pb (F.DOM_STAT_CMDON 1) false), 0x5001#16, by decide +kernel⟩,
    ⟨(let s := base; s.pb (F.DOM_STAT_CMDON 1) false), 0x5002#16, by decide +kernel⟩,
    ⟨(let s := base; s.pb (F.DOM_STAT_CMDON 1) false), 0x5003#16, by decide +kernel⟩,
    ⟨(let s := base; s.pb (F.DOM_STAT_CMDON 1) false), 0x5004#16, by decide +kernel⟩,
    ⟨1#16, by decide +kernel⟩,
    ⟨(let s := base; let s := s.p F.STK_CFG_PINEN 1; let s := { s with sup := { s.sup with vioh := true } }; let s := { s with power := .run }; s.pb (F.DOM_STAT_CMDON 1) true), 979, 0, false, by decide +kernel⟩,
    ⟨(let s := base; let s := s.p F.STK_CFG_PINEN 1; { s with sup := { s.sup with vioh := true } }), 79, by decide +kernel⟩,
    ⟨(let s := base; let s := s.p F.STK_CFG_PINEN 1; { s with sup := { s.sup with vioh := true } }), 120, 0, false, by decide +kernel⟩,
    ⟨(let s := base; { s with power := .fault }), 500, by decide +kernel⟩,
    ⟨(let s := base; let s := { s with power := .run }; let s := s.pb (F.DOM_STAT_CMDON 1) true; s.p F.STK_STAT_RUNNING 1), 0x5003#16, by decide +kernel⟩,
    ⟨(let s := base; { s.p F.STK_STAT_RUNNING 1 with stk := { s.stk with below := 200 } }), by decide +kernel⟩,
    ⟨(let s := base; s.p F.STK_STAT_RUNNING 1), by decide +kernel⟩,
    ⟨(let s := base; let s := { s with power := .run }; let s := s.pb (F.DOM_STAT_CMDON 1) true; s.p F.STK_STAT_PREARM 1), 0x5004#16, by decide +kernel⟩,
    ⟨(let s := base; let s := { s with power := .run }; let s := s.pb (F.DOM_STAT_CMDON 1) true; s.p F.STK_STAT_PREARM 1), 0x5003#16, by decide +kernel⟩,
    ⟨(let s := base; s.p F.STK_STAT_PREARM 1), by decide +kernel⟩,
    ⟨base, by decide +kernel⟩⟩

theorem test_meets_StrokeSamples :
    (∃ (s : State), s.aoOn = true) ∧
    (∃ (s : State) (x : Sample) (y : Sample) (r : List Sample), s.stk.hist = y :: x :: r ∧ s.strokeRuns = false ∧ 2 ≤ s.stk.above ∧ s.power = .run ∧ s.cmdOn 1 = true ∧ s.preArmed = true) ∧
    (∃ (s : State) (x : Sample) (y : Sample) (r : List Sample), s.stk.hist = y :: x :: r ∧ s.strokeRuns = false ∧ 2 ≤ s.stk.above ∧ s.power = .run ∧ s.cmdOn 1 = true ∧ s.preArmed = false ∧ s.b F.STK_DETCFG_AUTO = true) ∧
    (∃ (s : State), s.stk.above < 2) ∧
    (∃ (s : State) (k : Nat) (x : Int) (r : List Int), s.b (F.STK_CAP_EN k) = true ∧ s.b F.STK_RECSTAT_CAPT = true ∧ s.stk.smp.getD k [] = x :: r ∧ s.g (F.STK_CAP_STAT k) = 1) ∧
    (∃ (s : State) (k : Nat) (x : Int) (r : List Int), s.b (F.STK_CAP_EN k) = true ∧ s.b F.STK_RECSTAT_CAPT = true ∧ s.stk.smp.getD k [] = x :: r ∧ s.g (F.STK_CAP_STAT k) = 2) ∧
    (∃ (s : State) (k : Nat) (x : Int) (r : List Int), s.b (F.STK_CAP_EN k) = true ∧ s.b F.STK_RECSTAT_CAPT = true ∧ s.stk.smp.getD k [] = x :: r ∧ s.g (F.STK_CAP_STAT k) = 0 ∧ r = []) ∧
    (∃ (s : State) (k : Nat), s.stk.smp.getD k [] = []) ∧
    (∃ (s : State), s.b F.STK_RECSTAT_CAPT = true ∧ 4095 ≤ s.stk.since + (s.ticksPerMs : Int)) ∧
    (∃ (s : State), s.stk.since + (s.ticksPerMs : Int) < 4095) ∧
    (∃ (s : State) (delta : Nat) (tag : Nat) (value : Nat), s.b F.STK_RECSTAT_CAPT = true ∧ s.g F.STK_RECSTAT_CAPBANK = 0 ∧ s.g (F.STK_RECCNT_COUNT 0) < 8191 ∧ value < 65536 ∧ 16 * delta + tag < 65536) :=
  ⟨⟨base, by decide +kernel⟩,
    ⟨(let s := base; let x : Sample := ⟨100, 500, 24000, 0, 30000, false⟩; let y : Sample := ⟨200, 500, 24000, 0, 30000, false⟩; let r : List Sample := []; let s := { s with stk := { s.stk with hist := y :: x :: r } }; let s := { s with power := .run }; let s := s.pb (F.DOM_STAT_CMDON 1) true; { s.p F.STK_STAT_PREARM 1 with stk := { s.stk with above := 2, hist := [y, x] } }), ⟨100, 500, 24000, 0, 30000, false⟩, ⟨200, 500, 24000, 0, 30000, false⟩, [], by decide +kernel⟩,
    ⟨(let s := base; let x : Sample := ⟨100, 500, 24000, 0, 30000, false⟩; let y : Sample := ⟨200, 500, 24000, 0, 30000, false⟩; let r : List Sample := []; let s := { s with stk := { s.stk with hist := y :: x :: r } }; let s := { s with power := .run }; let s := s.pb (F.DOM_STAT_CMDON 1) true; let s := s.p F.STK_DETCFG_AUTO 1; { s.p F.STK_DETCFG_AUTO 1 with stk := { s.stk with above := 2, hist := [y, x] } }), ⟨100, 500, 24000, 0, 30000, false⟩, ⟨200, 500, 24000, 0, 30000, false⟩, [], by decide +kernel⟩,
    ⟨base, by decide +kernel⟩,
    ⟨(let s := base; let s := s.p (F.STK_CAP_EN 2) 1; let s := s.p F.STK_RECSTAT_CAPT 1; let s := s.p (F.STK_CAP_STAT 2) 1; { s with stk := { s.stk with smp := s.stk.smp.set 2 [-5, 7, -9] } }), 2, -5, [7, -9], by decide +kernel⟩,
    ⟨(let s := base; let s := s.p (F.STK_CAP_EN 2) 1; let s := s.p F.STK_RECSTAT_CAPT 1; let s := s.p (F.STK_CAP_STAT 2) 2; { s with stk := { s.stk with smp := s.stk.smp.set 2 [-5, 7, -9] } }), 2, -5, [7, -9], by decide +kernel⟩,
    ⟨(let s := base; let s := s.p (F.STK_CAP_EN 2) 1; let s := s.p F.STK_RECSTAT_CAPT 1; let s := s.p (F.STK_CAP_STAT 2) 0; { s with stk := { s.stk with smp := s.stk.smp.set 2 [-5] } }), 2, -5, [], by decide +kernel⟩,
    ⟨base, 1, by decide +kernel⟩,
    ⟨(let s := base; let s := s.p F.STK_RECSTAT_CAPT 1; { s with stk := { s.stk with since := 4095 } }), by decide +kernel⟩,
    ⟨base, by decide +kernel⟩,
    ⟨(let s := base; let s := s.p F.STK_RECSTAT_CAPT 1; s.p F.STK_RECSTAT_CAPBANK 0), 4095, 15, 65535, by decide +kernel⟩⟩

theorem test_meets_ProvingAndStrokeKeys :
    (∃ (s : State), s.b F.STK_STAT_BATTPH = true) ∧
    (∃ (s : State), s.b F.STK_STAT_BATTPH = false) ∧
    (∃ (s : State) (k : Nat) (v0 : Nat) (i0 : Rat), k ≤ 2 ∧ s.b F.STK_STAT_BATTPH = true ∧ s.gaugeLearns = true ∧ s.stk.pre = some (v0, i0)) ∧
    (∃ (s : State) (w : Word) (d : Nat), s.hostAlive = true ∧ (w = 0x1E01#16 ∧ d = 0 ∨ w = 0x1E02#16 ∧ d = 1)) ∧
    (∃ (s : State), s.hostAlive = true) ∧
    (∃ (w : Word), w ≠ 0x1E01#16 ∧ w ≠ 0x1E02#16 ∧ w ≠ 0x1E03#16) :=
  ⟨⟨(let s := base; s.p F.STK_STAT_BATTPH 1), by decide +kernel⟩,
    ⟨(let s := base; s.p F.STK_STAT_BATTPH 0), by decide +kernel⟩,
    ⟨(let s := base; let s := s.p F.STK_STAT_BATTPH 1; { s with stk := { s.stk with pre := some (1, 0) } }), 1, 1, 0, by decide +kernel⟩,
    ⟨base, 0x1E02#16, 1, by decide +kernel⟩,
    ⟨base, by decide +kernel⟩,
    ⟨1#16, by decide +kernel⟩⟩

theorem test_meets_BatteryAndCharge :
    (∃ (s : State), s.aoOn = true ∧ s.present = false) ∧
    (∃ (s : State), s.present = true) ∧
    (∃ (s : State), s.aoOn = true ∧ s.present = true) ∧
    (∃ (s : State), s.present = false) ∧
    (∃ (s : State), s.aoOn = true) ∧
    (∃ (s : State), s.g F.CHG_STAT_STATE = 6 ∧ s.gaugeRuns = false) ∧
    (∃ (s : State), s.g F.CHG_STAT_STATE = 6 ∧ s.gaugeRuns = true ∧ s.frozen = false) ∧
    (∃ (s : State), s.g F.CHG_STAT_STATE ≠ 6) ∧
    (∃ (s : State), s.g F.CHG_STAT_STATE = 8) ∧
    (∃ (s : State), s.g F.CHG_STAT_STATE ≠ 8) :=
  ⟨⟨(let s := base; { s.p F.GAU_CFG_AUTHEN 1 with sup := { s.sup with pack := false } }), by decide +kernel⟩,
    ⟨base, by decide +kernel⟩,
    ⟨base, by decide +kernel⟩,
    ⟨(let s := base; { s with sup := { s.sup with pack := false } }), by decide +kernel⟩,
    ⟨base, by decide +kernel⟩,
    ⟨(let s := base; let s := s.p F.CHG_STAT_STATE 6; { s with power := .hibernate, chg := { s.chg with phase := 6 } }), by decide +kernel⟩,
    ⟨(let s := base; s.p F.CHG_STAT_STATE 6), by decide +kernel⟩,
    ⟨base, by decide +kernel⟩,
    ⟨(let s := base; s.p F.CHG_STAT_STATE 8), by decide +kernel⟩,
    ⟨base, by decide +kernel⟩⟩

theorem test_meets_ChargerFaultsAndKeys :
    (∃ (s : State), s.aoOn = true ∧ s.present = true) ∧
    (∃ (s : State), s.chg.sw = true ∧ (s.chg.ocTimes.filter (fun t => s.ticks < t + 1966080)).length < 2) ∧
    (∃ (s : State), s.chg.sw = true ∧ 2 ≤ (s.chg.ocTimes.filter (fun t => s.ticks < t + 1966080)).length) ∧
    (∃ (s : State), s.chg.sw = false) ∧
    (∃ (s : State), s.line.chgOk = true ∧ s.chg.vinRaised = false) ∧
    (∃ (s : State), s.line.chgOk = true ∧ s.chg.vinRaised = true) ∧
    (∃ (s : State), s.line.chgOk = false) ∧
    (∃ (s : State), s.g F.CHG_TMRCFG_WDTO ≠ 0 ∧ (s.power = .run ∨ s.power = .watch) ∧ s.chg.wdRun = true) ∧
    (∃ (s : State), s.chg.wdRun = false) ∧
    (∃ (s : State), s.hostAlive = true) ∧
    (∃ (w : Word), w ≠ 0xC4A9#16 ∧ w ≠ 0xA93C#16 ∧ w ≠ 0xC1EA#16) ∧
    (∃ (s : State), s.aoOn = true) :=
  ⟨⟨base, by decide +kernel⟩,
    ⟨(let s := base; { s with chg := { s.chg with sw := true } }), by decide +kernel⟩,
    ⟨(let s := base; let s := { s with chg := { s.chg with sw := true } }; { s with chg := { s.chg with sw := true, ocTimes := [0, 0] } }), by decide +kernel⟩,
    ⟨(let s := base; { s with chg := { s.chg with sw := false } }), by decide +kernel⟩,
    ⟨(let s := base; let s := { s with line := { s.line with chgOk := true } }; { s with chg := { s.chg with vinRaised := false } }), by decide +kernel⟩,
    ⟨(let s := base; let s := { s with line := { s.line with chgOk := true } }; { s with chg := { s.chg with vinRaised := true } }), by decide +kernel⟩,
    ⟨(let s := base; { s with line := { s.line with chgOk := false } }), by decide +kernel⟩,
    ⟨(let s := base; let s := s.p F.CHG_TMRCFG_WDTO 1; let s := { s with power := .run }; { s with chg := { s.chg with wdRun := true } }), by decide +kernel⟩,
    ⟨(let s := base; { s with chg := { s.chg with wdRun := false } }), by decide +kernel⟩,
    ⟨base, by decide +kernel⟩,
    ⟨7#16, by decide +kernel⟩,
    ⟨base, by decide +kernel⟩⟩

theorem test_meets_GaugeAndAuthentication :
    (∃ (s : State) (q : Nat) (d : Nat), s.aoOn = true ∧ shuntQ (s.g F.GAU_CFG_RSH) = some q ∧ deadband (s.g F.GAU_CFG_DEADBAND) = some d) ∧
    (∃ (s : State), s.aoOn = true ∧ s.gau.full = true) ∧
    (∃ (s : State), s.hostAlive = true) ∧
    (∃ (s : State), s.aoOn = true) ∧
    (∃ (s : State), s.gaugeRuns = true ∧ s.present = true ∧ s.frozen = false ∧ s.g F.GAU_STAT_FLOW = 2 ∧ 5 < s.socCc) ∧
    (∃ (s : State), s.gaugeRuns = false ∨ s.present = false ∨ s.frozen = true ∨ s.g F.GAU_STAT_FLOW ≠ 2 ∨ s.socCc ≤ 5) ∧
    (∃ (s : State), s.gaugeRuns = true ∧ s.present = true ∧ s.frozen = false ∧ s.atRest = true ∧ s.b F.GAU_STAT_REST = false) ∧
    (∃ (s : State), s.atRest = false) ∧
    (∃ (s : State) (c : ChgStep), s.gau.chgStep = some c) ∧
    (∃ (s : State), s.gau.chgStep = none) ∧
    (∃ (s : State), s.running = true ∧ s.present = true ∧ s.gau.stage = .idle ∧ s.b F.GAU_CFG_AUTHEN = true ∧ s.sup.vioh = true) ∧
    (∃ (s : State), s.running = true ∧ s.present = true ∧ s.gau.stage = .idle ∧ s.b F.GAU_CFG_AUTHEN = true ∧ s.gau.authAt.isSome = true) ∧
    (∃ (s : State), s.gaugeRuns = true ∧ s.gau.stage = .challenged ∧ s.g F.GAU_AUTHSTAT_TRY < 3) ∧
    (∃ (s : State), s.gaugeRuns = true ∧ s.gau.stage = .challenged ∧ s.g F.GAU_AUTHSTAT_TRY = 3) ∧
    (∃ (s : State), s.gaugeRuns = true ∧ s.gau.stage = .failed ∧ s.present = true ∧ s.g F.GAU_AUTHSTAT_TRY < 3) ∧
    (∃ (s : State), s.hostAlive = true ∧ s.power ≠ .boot) :=
  ⟨⟨(let s := base; (s.p F.GAU_CFG_RSH 2).p F.GAU_CFG_DEADBAND 1), 4, 5, by decide +kernel⟩,
    ⟨(let s := base; { s with gau := { s.gau with full := true } }), by decide +kernel⟩,
    ⟨base, by decide +kernel⟩,
    ⟨base, by decide +kernel⟩,
    ⟨(let s := base; let s := s.p F.GAU_STAT_FLOW 2; { s.wn A.GAU_FCC 100 with gau := { s.gau with qrem := 50 } }), by decide +kernel⟩,
    ⟨base, by decide +kernel⟩,
    ⟨(let s := base; s.p F.GAU_STAT_REST 0), by decide +kernel⟩,
    ⟨(let s := base; { s with chg := { s.chg with sw := true } }), by decide +kernel⟩,
    ⟨(let s := base; let c : ChgStep := ⟨30000, 2500, true, some 10, 0, 3⟩; { s with gau := { s.gau with chgStep := some c } }), ⟨30000, 2500, true, some 10, 0, 3⟩, by decide +kernel⟩,
    ⟨(let s := base; { s with gau := { s.gau with chgStep := none } }), by decide +kernel⟩,
    ⟨(let s := base; let s := { s with gau := { s.gau with stage := .idle } }; let s := s.p F.GAU_CFG_AUTHEN 1; { s with sup := { s.sup with vioh := true } }), by decide +kernel⟩,
    ⟨(let s := base; let s := { s with gau := { s.gau with stage := .idle } }; let s := s.p F.GAU_CFG_AUTHEN 1; { s with gau := { s.gau with authAt := some 5 } }), by decide +kernel⟩,
    ⟨(let s := base; { s with gau := { s.gau with stage := .challenged } }), by decide +kernel⟩,
    ⟨(let s := base; let s := { s with gau := { s.gau with stage := .challenged } }; s.p F.GAU_AUTHSTAT_TRY 3), by decide +kernel⟩,
    ⟨(let s := base; { s with gau := { s.gau with stage := .failed } }), by decide +kernel⟩,
    ⟨base, by decide +kernel⟩⟩

theorem test_meets_ManagerRules :
    (∃ (s : State) (a : Nat), s.managerHears = true ∧ 1 ≤ a ∧ a ≤ 31 ∧ s.way.recs.length = 31 ∧ (s.wrec a).st = 1) ∧
    (∃ (s : State) (a : Nat), s.managerHears = true ∧ 1 ≤ a ∧ a ≤ 31 ∧ (s.wrec a).st = 1) ∧
    (∃ (s : State) (a : Nat), s.managerHears = true ∧ 1 ≤ a ∧ a ≤ 31) ∧
    (∃ (s : State), s.isManager = false) ∧
    (∃ (s : State) (a : Nat), s.managerHears = true ∧ 1 ≤ a ∧ a ≤ 31 ∧ s.way.recs.length = 31 ∧ (s.wrec a).st = 1 ∧ (s.wrec a).heard = false ∧ 2 ≤ (s.wrec a).missed) ∧
    (∃ (s : State), s.isManager = true ∧ s.running = true ∧ s.way.silent = false) ∧
    (∃ (s : State), s.managerHears = true) ∧
    (∃ (s : State) (r : WRelay), s.isManager = true ∧ s.running = true ∧ s.way.silent = false ∧ s.way.relay = some r) ∧
    (∃ (s : State) (r : WRelay) (ws : List Word), s.managerHears = true ∧ s.way.relay = some r ∧ r.used ≠ 0 ∧ ws.length = r.count ∧ r.count ≤ 16) ∧
    (∃ (s : State) (r : WRelay) (a : Nat) (ws : List Word), s.managerHears = true ∧ s.way.relay = some r ∧ (a ≠ r.addr ∨ ws.length ≠ r.count)) ∧
    (∃ (s : State) (w : Word), s.hostAlive = true ∧ s.isManager = true ∧ F.WAY_RSTCMD_KEY.get w = 0xD2 ∧ F.WAY_RSTCMD_ADDR.get w ≠ 0 ∧ (s.wrec (F.WAY_RSTCMD_ADDR.get w)).st ≠ 0) ∧
    (∃ (s : State) (w : Word), s.hostAlive = true ∧ s.isManager = true ∧ F.WAY_RSTCMD_KEY.get w = 0xD2 ∧ F.WAY_RSTCMD_ADDR.get w ≠ 0 ∧ (s.wrec (F.WAY_RSTCMD_ADDR.get w)).st = 0) ∧
    (∃ (s : State) (w : Word), s.hostAlive = true ∧ s.isManager = true ∧ F.WAY_RSTCMD_KEY.get w ≠ 0xD2) ∧
    (∃ (s : State), s.hostAlive = true ∧ s.isManager = false) :=
  ⟨⟨base, 1, by decide +kernel⟩,
    ⟨base, 1, by decide +kernel⟩,
    ⟨base, 1, by decide +kernel⟩,
    ⟨(let s := base; s.p F.SYS_STRAP_ROLE 2), by decide +kernel⟩,
    ⟨(let s := base; { s with way := { s.way with recs := s.way.recs.set 0 ⟨1, true, 0, 0, 3, false⟩ } }), 1, by decide +kernel⟩,
    ⟨(let s := base; let s := { s with way := { s.way with silent := false } }; { s with way := { s.way with joins := [(3, 7, none)] } }), by decide +kernel⟩,
    ⟨base, by decide +kernel⟩,
    ⟨(let s := base; let r : WRelay := ⟨1, 0x100, 2, 2⟩; let s := { s with way := { s.way with silent := false } }; { s with way := { s.way with relay := some r } }), ⟨1, 0x100, 2, 2⟩, by decide +kernel⟩,
    ⟨(let s := base; let r : WRelay := ⟨1, 0x100, 2, 1⟩; { s with way := { s.way with relay := some r } }), ⟨1, 0x100, 2, 1⟩, [0xABCD#16, 7#16], by decide +kernel⟩,
    ⟨(let s := base; let r : WRelay := ⟨1, 0x100, 2, 1⟩; { s with way := { s.way with relay := some r } }), ⟨1, 0x100, 2, 1⟩, 1, [0xABCD#16], by decide +kernel⟩,
    ⟨base, 0xD201#16, by decide +kernel⟩,
    ⟨base, 0xD21F#16, by decide +kernel⟩,
    ⟨base, 0xD101#16, by decide +kernel⟩,
    ⟨(let s := base; s.p F.SYS_STRAP_ROLE 2), by decide +kernel⟩⟩

theorem test_meets_WorkerTurns :
    (∃ (s : State) (t : Nat) (d : Nat), s.isWorker = true ∧ s.wayOn = true ∧ d = (match s.way.lastTurn with | some u => (t + 32 - u) % 32 | none => 0)) ∧
    (∃ (s : State) (d : Nat), s.isWorker = true ∧ s.wayOn = true ∧ s.wayAddr ≠ 0 ∧ s.admitted = true ∧ d < 65536 ∧ s.way.leases.getD (d / 4096 % 16) 0 ≠ 0) ∧
    (∃ (s : State) (n : Nat) (l : Nat), s.isWorker = true ∧ s.wayOn = true ∧ s.wayAddr ≠ 0 ∧ s.admitted = false ∧ n < 256 ∧ s.way.join = .sent n false l) ∧
    (∃ (s : State), s.isWorker = true ∧ s.running = true ∧ s.admitted = true ∧ s.turnHeard = true ∧ s.way.fresh = true) ∧
    (∃ (s : State), s.isWorker = true ∧ s.running = true ∧ s.admitted = false ∧ s.wayAddr ≠ 0 ∧ s.turnHeard = true ∧ s.way.fresh = true ∧ s.way.join = .ready 0) ∧
    (∃ (s : State), s.way.join = .waiting) ∧
    (∃ (s : State), s.way.join = .refused) ∧
    (∃ (s : State), s.isWorker = true ∧ s.wayOn = true ∧ s.way.lastTurn.isSome = true ∧ s.b F.WAY_STAT_ORPHAN = false) ∧
    (∃ (s : State), s.isWorker = true) ∧
    (∃ (s : State), s.isWorker = true ∧ s.grantTolls ≠ 0 ∧ s.strokeActive = true) ∧
    (∃ (s : State), s.isWorker = true ∧ s.grantTolls ≠ 0 ∧ s.strokeActive = false) ∧
    (∃ (s : State), s.running = true ∧ s.isWorker = true) ∧
    (∃ (s : State), s.isWorker = true ∧ s.running = true ∧ s.admitted = true ∧ s.turnHeard = true ∧ s.b F.WAY_STAT_VER = true) ∧
    (∃ (s : State), s.isWorker = true ∧ s.running = true ∧ s.admitted = true ∧ s.turnHeard = true ∧ s.b F.WAY_STAT_VER = false) :=
  ⟨⟨(let s := base; let s := (((s.p F.SYS_STRAP_ROLE 2).p F.WAY_CFG_ADDR 3).p F.WAY_STAT_ADMIT 1); { s with way := { s.way with consec := 2, fresh := true, lastTurn := some 4, leases := List.replicate 16 20 } }), 5, 1, by decide +kernel⟩,
    ⟨(let s := base; let s := (((s.p F.SYS_STRAP_ROLE 2).p F.WAY_CFG_ADDR 3).p F.WAY_STAT_ADMIT 1); { s with way := { s.way with consec := 2, fresh := true, lastTurn := some 4, leases := List.replicate 16 20 } }), 0x1005, by decide +kernel⟩,
    ⟨(let s := base; let s := { s with way := { s.way with join := .sent 255 false 1 } }; let s := ((s.p F.SYS_STRAP_ROLE 2).p F.WAY_CFG_ADDR 3); { s with way := { s.way with join := .sent 255 false 1 } }), 255, 1, by decide +kernel⟩,
    ⟨(let s := base; let s := { s with way := { s.way with fresh := true } }; let s := (((s.p F.SYS_STRAP_ROLE 2).p F.WAY_CFG_ADDR 3).p F.WAY_STAT_ADMIT 1); { s with way := { s.way with consec := 2, fresh := true, lastTurn := some 4, leases := List.replicate 16 20 } }), by decide +kernel⟩,
    ⟨(let s := base; let s := { s with way := { s.way with fresh := true } }; let s := { s with way := { s.way with join := .ready 0 } }; let s := ((s.p F.SYS_STRAP_ROLE 2).p F.WAY_CFG_ADDR 3); { s with way := { s.way with consec := 2, fresh := true, lastTurn := some 4, join := .ready 0 } }), by decide +kernel⟩,
    ⟨(let s := base; { s with way := { s.way with join := .waiting } }), by decide +kernel⟩,
    ⟨(let s := base; { s with way := { s.way with join := .refused } }), by decide +kernel⟩,
    ⟨(let s := base; let s := s.p F.WAY_STAT_ORPHAN 0; let s := (((s.p F.SYS_STRAP_ROLE 2).p F.WAY_CFG_ADDR 3).p F.WAY_STAT_ADMIT 1); { s with way := { s.way with consec := 2, fresh := true, lastTurn := some 4, leases := List.replicate 16 20 } }), by decide +kernel⟩,
    ⟨(let s := base; s.p F.SYS_STRAP_ROLE 2), by decide +kernel⟩,
    ⟨(let s := base; ((s.p F.SYS_STRAP_ROLE 2).p F.WAY_GRANT_TOLLS 5).p F.STK_STAT_RUNNING 1), by decide +kernel⟩,
    ⟨(let s := base; (s.p F.SYS_STRAP_ROLE 2).p F.WAY_GRANT_TOLLS 5), by decide +kernel⟩,
    ⟨(let s := base; { s.p F.SYS_STRAP_ROLE 2 with way := { s.way with errCnt := 16 } }), by decide +kernel⟩,
    ⟨(let s := base; let s := s.p F.WAY_STAT_VER 1; (let s := (((s.p F.SYS_STRAP_ROLE 2).p F.WAY_CFG_ADDR 3).p F.WAY_STAT_ADMIT 1); { s with way := { s.way with consec := 2, fresh := true, lastTurn := some 4, leases := List.replicate 16 20 } }).p F.WAY_STAT_VER 1), by decide +kernel⟩,
    ⟨(let s := base; let s := s.p F.WAY_STAT_VER 0; let s := (((s.p F.SYS_STRAP_ROLE 2).p F.WAY_CFG_ADDR 3).p F.WAY_STAT_ADMIT 1); { s with way := { s.way with consec := 2, fresh := true, lastTurn := some 4, leases := List.replicate 16 20 } }), by decide +kernel⟩⟩

theorem test_meets_AdcRequestsAndCalibration :
    (∃ (s : State), s.running = true ∧ s.sup.vioh = true ∧ s.adc.round.isSome = true) ∧
    (∃ (s : State) (es : List Nat), s.running = true ∧ s.sup.vioh = true ∧ s.adc.round = none ∧ s.g F.ADC_CFG_SEQLEN ≤ 32 ∧ es = (List.range (s.g F.ADC_CFG_SEQLEN)).filter (fun k => (s.power ≠ .watch || s.b (F.ADC_SEQ_WATCH k)) && s.adc.rounds % 4 ^ s.g (F.ADC_SEQ_DIV k) = 0) ∧ es ≠ []) ∧
    (∃ (s : State) (w : Word), s.running = true ∧ s.sup.vioh = true ∧ F.ADC_INJ_KEY.get w = 9 ∧ s.injPend < 4 ∧ s.calBusy = false) ∧
    (∃ (s : State) (w : Word), s.running = true ∧ s.sup.vioh = true ∧ F.ADC_INJ_KEY.get w = 9 ∧ s.injPend < 4 ∧ s.calBusy = true) ∧
    (∃ (s : State) (w : Word), s.running = true ∧ s.sup.vioh = true ∧ F.ADC_INJ_KEY.get w = 9 ∧ 4 ≤ s.injPend) ∧
    (∃ (w : Word), F.ADC_INJ_KEY.get w ≠ 9) ∧
    (∃ (s : State), s.hostAlive = true) ∧
    (∃ (s : State), s.running = true ∧ s.sup.vioh = true ∧ s.calBusy = false ∧ s.b F.ADC_CFG_BGCAL = false) ∧
    (∃ (s : State), s.running = true ∧ s.sup.vioh = true ∧ s.calBusy = true ∨ s.b F.ADC_CFG_BGCAL = true) ∧
    (∃ (s : State), s.running = true ∧ s.b F.ADC_CALSTAT_PEND = true ∧ s.sliceFree 0 = true ∧ s.sliceFree 1 = true ∧ s.adc.inj = [] ∧ (s.adc.avgs.any (fun v => decide (v.src ≠ .round))) = false) ∧
    (∃ (s : State), s.sliceFree 0 = false ∨ s.sliceFree 1 = false ∨ s.adc.inj ≠ []) ∧
    (∃ (s : State), s.b F.ADC_CALSTAT_RUN = true ∧ s.adc.calFull = false) ∧
    (∃ (s : State) (a : Nat) (b : Nat) (za : Rat) (zb : Rat), s.b F.ADC_CALSTAT_RUN = true ∧ s.adc.calFull = true ∧ s.adc.zero = some (za, zb) ∧ (a : Rat) / 4 ≠ za ∧ (b : Rat) / 4 ≠ zb) ∧
    (∃ (s : State), s.running = true ∧ s.b F.ADC_CFG_BGCAL = true ∧ s.g F.ADC_STAT_BGSLICE = 0 ∧ s.adc.bgNext < 3 ∧ s.sliceFree s.adc.bgNext = true) ∧
    (∃ (s : State), s.sliceFree s.adc.bgNext = false) ∧
    (∃ (s : State) (k : Nat), s.g F.ADC_STAT_BGSLICE = k + 1) :=
  ⟨⟨(let s := base; let s := { s with sup := { s.sup with vioh := true } }; { s with adc := { s.adc with round := some [0] } }), by decide +kernel⟩,
    ⟨(let s := base; let s := { s with sup := { s.sup with vioh := true } }; let s := { s with adc := { s.adc with round := none } }; { s.p F.ADC_CFG_SEQLEN 2 with adc := { s.adc with round := none } }), [0, 1], by decide +kernel⟩,
    ⟨(let s := base; { s with sup := { s.sup with vioh := true } }), 0x9005#16, by decide +kernel⟩,
    ⟨(let s := base; let s := { s with sup := { s.sup with vioh := true } }; s.p F.ADC_CALSTAT_RUN 1), 0x9005#16, by decide +kernel⟩,
    ⟨(let s := base; let s := { s with sup := { s.sup with vioh := true } }; { s with adc := { s.adc with inj := List.replicate 3 (1, 0, true), held := [(2, 0, true)] } }), 0x9005#16, by decide +kernel⟩,
    ⟨1#16, by decide +kernel⟩,
    ⟨base, by decide +kernel⟩,
    ⟨(let s := base; let s := { s with sup := { s.sup with vioh := true } }; s.p F.ADC_CFG_BGCAL 0), by decide +kernel⟩,
    ⟨(let s := base; let s := { s with sup := { s.sup with vioh := true } }; s.p F.ADC_CALSTAT_RUN 1), by decide +kernel⟩,
    ⟨(let s := base; let s := s.p F.ADC_CALSTAT_PEND 1; { s with adc := { s.adc with inj := [] } }), by decide +kernel⟩,
    ⟨(let s := base; { s with adc := { s.adc with slices := [some .cal, none, none] } }), by decide +kernel⟩,
    ⟨(let s := base; let s := s.p F.ADC_CALSTAT_RUN 1; { s with adc := { s.adc with calFull := false } }), by decide +kernel⟩,
    ⟨(let s := base; let s := s.p F.ADC_CALSTAT_RUN 1; let s := { s with adc := { s.adc with calFull := true } }; let s := { s with adc := { s.adc with zero := some (5, 9) } }; s.wn A.ADC_CALREF 60000), 64000, 60000, 5, 9, by decide +kernel⟩,
    ⟨(let s := base; let s := s.p F.ADC_CFG_BGCAL 1; s.p F.ADC_STAT_BGSLICE 0), by decide +kernel⟩,
    ⟨(let s := base; { s with adc := { s.adc with slices := [some .cal, some .cal, some .cal] } }), by decide +kernel⟩,
    ⟨(let s := base; s.p F.ADC_STAT_BGSLICE 3), 2, by decide +kernel⟩⟩

theorem test_meets_AdcConversions :
    (∃ (s : State) (ch : Nat) (n : Nat) (host : Bool) (r : List (Nat × Nat × Bool)), s.running = true ∧ s.adc.slices = [none, none, none] ∧ s.g F.ADC_STAT_BGSLICE = 0 ∧ s.b F.ADC_CALSTAT_RUN = false ∧ s.stk.burstLeft = 0 ∧ s.adc.inj = (ch, n, host) :: r) ∧
    (∃ (s : State) (st : Option Nat) (i : Nat), s.running = true ∧ s.adc.slices = [none, none, none] ∧ s.g F.ADC_STAT_BGSLICE = 0 ∧ s.b F.ADC_CALSTAT_RUN = false ∧ s.stk.burstLeft = 0 ∧ s.adc.inj = [] ∧ st = some i ∧ s.streamMay i = true) ∧
    (∃ (s : State) (st : Option Nat) (x : Nat) (r : List Nat), s.running = true ∧ s.adc.slices = [none, none, none] ∧ s.g F.ADC_STAT_BGSLICE = 0 ∧ s.b F.ADC_CALSTAT_RUN = false ∧ s.stk.burstLeft = 0 ∧ s.adc.inj = [] ∧ st = none ∧ s.calBusy = false ∧ s.adc.avgs = [] ∧ s.adc.round = some (x :: r)) ∧
    (∃ (s : State), s.freePlace = none ∨ s.b F.ADC_CALSTAT_RUN = true) ∧
    (∃ (s : State) (k : Nat) (key : Nat) (ch : Nat) (o : Int) (g : Int) (cb : Int), s.running = true ∧ s.adc.slices.length = 3 ∧ s.adc.slices.getD k none = some (.conv key o g cb) ∧ s.adc.avgs = [⟨key, .host, ch, 0, 0, [], false⟩] ∧ chReserved ch = false ∧ ch < 64 ∧ ch ≠ 46) ∧
    (∃ (s : State) (k : Nat) (key : Nat) (ch : Nat) (navg : Nat) (left : Nat) (o : Int) (g : Int) (cb : Int) (vals : List (Nat × Rat)) (fr : Bool), s.running = true ∧ s.adc.slices.length = 3 ∧ s.adc.slices.getD k none = some (.conv key o g cb) ∧ s.adc.avgs = [⟨key, .host, ch, navg, left + 1, vals, fr⟩] ∧ vals.length + 1 < 2 ^ navg) ∧
    (∃ (s : State) (k : Nat) (key : Nat) (ch : Nat) (navg : Nat) (o : Int) (g : Int) (cb : Int) (vals : List (Nat × Rat)), s.running = true ∧ s.adc.slices.length = 3 ∧ s.adc.slices.getD k none = some (.conv key o g cb) ∧ s.adc.avgs = [⟨key, .host, ch, navg, 0, vals, false⟩] ∧ vals.length + 1 = 2 ^ navg ∧ chReserved ch = false ∧ ch < 64 ∧ ch ≠ 46 ∧ navg < 8 ∧ s.winsOn ch = []) ∧
    (∃ (s : State) (ch : Nat) (n : Nat) (host : Bool) (r : List (Nat × Nat × Bool)), s.running = true ∧ s.b F.ADC_CALSTAT_RUN = false ∧ s.stk.burstLeft = 0 ∧ s.adc.inj = (ch, n, host) :: r ∧ s.adc.slices = [some .bg, none, none] ∧ s.g F.ADC_STAT_BGSLICE = 1) ∧
    (∃ (s : State) (ch : Nat) (n : Nat) (host : Bool) (r : List (Nat × Nat × Bool)) (j : SliceJob), s.running = true ∧ s.b F.ADC_CALSTAT_RUN = false ∧ s.stk.burstLeft = 0 ∧ s.adc.inj = (ch, n, host) :: r ∧ s.adc.slices = [some j, some .bg, none] ∧ s.g F.ADC_STAT_BGSLICE = 2) ∧
    (∃ (s : State) (k : Nat), s.running = true ∧ s.adc.slices.getD k none = some .spent) ∧
    (∃ (s : State) (k : Nat) (i : Nat) (o : Int) (g : Int) (cb : Int), s.running = true ∧ s.adc.slices.getD k none = some (.stream i o g cb) ∧ chReserved (s.g (F.STK_CAP_SRC i)) = false) ∧
    (∃ (s : State) (k : Nat), s.adc.slices.getD k none = none) ∧
    (∃ (s : State) (c : Nat), c < 64 ∧ s.hostAlive = true) ∧
    (∃ (s : State) (c : Nat) (w : Word), c < 64 ∧ s.hostAlive = true ∧ s.adc.hostSh = some (c, w)) :=
  ⟨⟨(let s := base; let host : Bool := true; let r : List (Nat × Nat × Bool) := []; let s := { s with adc := { s.adc with slices := [none, none, none] } }; let s := s.p F.ADC_STAT_BGSLICE 0; let s := s.p F.ADC_CALSTAT_RUN 0; let s := { s with stk := { s.stk with burstLeft := 0 } }; { s with adc := { s.adc with inj := (1, 1, host) :: r } }), 1, 1, true, [], by decide +kernel⟩,
    ⟨(let s := base; let s := { s with adc := { s.adc with slices := [none, none, none] } }; let s := s.p F.ADC_STAT_BGSLICE 0; let s := s.p F.ADC_CALSTAT_RUN 0; let s := { s with stk := { s.stk with burstLeft := 0 } }; let s := { s with adc := { s.adc with inj := [] } }; { ((s.p (F.STK_CAP_EN 2) 1).p F.STK_RECSTAT_CAPT 1).p (F.STK_CAP_SRC 2) 5 with adc := { s.adc with slices := [none, none, none], inj := [] }, stk := { s.stk with burstLeft := 0 } }), some 2, 2, by decide +kernel⟩,
    ⟨(let s := base; let r : List Nat := []; let s := { s with adc := { s.adc with slices := [none, none, none] } }; let s := s.p F.ADC_STAT_BGSLICE 0; let s := s.p F.ADC_CALSTAT_RUN 0; let s := { s with stk := { s.stk with burstLeft := 0 } }; let s := { s with adc := { s.adc with inj := [] } }; let s := { s with adc := { s.adc with avgs := [] } }; { s with adc := { s.adc with round := some (1 :: r) } }), none, 1, [], by decide +kernel⟩,
    ⟨(let s := base; s.p F.ADC_CALSTAT_RUN 1), by decide +kernel⟩,
    ⟨(let s := base; let cb : Int := -7; let s := { s with adc := { s.adc with avgs := [⟨7, .host, 5, 0, 0, [], false⟩] } }; let s := (((s.p (F.ADC_WINCFG_EN 2) 1).p (F.ADC_WINCFG_CH 2) 5).p (F.ADC_WINCFG_EN 6) 1).p (F.ADC_WINCFG_CH 6) 5; { s with adc := { s.adc with slices := ([none, none, none] : List (Option SliceJob)).set 1 (some (.conv 7 4 32000 cb)), avgs := [⟨7, .host, 5, 0, 0, [], false⟩] } }), 1, 7, 5, 4, 32000, -7, by decide +kernel⟩,
    ⟨(let s := base; let cb : Int := -7; let vals : List (Nat × Rat) := [(1, 5), (1, 7)]; let fr : Bool := true; let s := { s with adc := { s.adc with avgs := [⟨7, .host, 5, 2, 2 + 1, vals, fr⟩] } }; { s with adc := { s.adc with slices := ([none, none, none] : List (Option SliceJob)).set 1 (some (.conv 7 4 32000 cb)), avgs := [⟨7, .host, 5, 2, 2 + 1, vals, fr⟩] } }), 1, 7, 5, 2, 2, 4, 32000, -7, [(1, 5), (1, 7)], true, by decide +kernel⟩,
    ⟨(let s := base; let cb : Int := -7; let vals : List (Nat × Rat) := [(2, 5), (2, 7), (2, 1000)]; let s := { s with adc := { s.adc with avgs := [⟨7, .host, 5, 2, 0, vals, false⟩] } }; { s with adc := { s.adc with slices := ([none, none, none] : List (Option SliceJob)).set 2 (some (.conv 7 4 32000 cb)), avgs := [⟨7, .host, 5, 2, 0, vals, false⟩] } }), 2, 7, 5, 2, 4, 32000, -7, [(2, 5), (2, 7), (2, 1000)], by decide +kernel⟩,
    ⟨(let s := base; let host : Bool := true; let r : List (Nat × Nat × Bool) := [(3, 0, false)]; let s := s.p F.ADC_CALSTAT_RUN 0; let s := { s with stk := { s.stk with burstLeft := 0 } }; let s := { s with adc := { s.adc with inj := (5, 2, host) :: r } }; let s := { s with adc := { s.adc with slices := [some .bg, none, none] } }; let s := s.p F.ADC_STAT_BGSLICE 1; { s.p F.ADC_STAT_BGSLICE 1 with adc := { s.adc with inj := (5, 2, host) :: r, slices := [some .bg, none, none] } }), 5, 2, true, [(3, 0, false)], by decide +kernel⟩,
    ⟨(let s := base; let host : Bool := true; let r : List (Nat × Nat × Bool) := [(3, 0, false)]; let j : SliceJob := .spent; let s := s.p F.ADC_CALSTAT_RUN 0; let s := { s with stk := { s.stk with burstLeft := 0 } }; let s := { s with adc := { s.adc with inj := (5, 2, host) :: r } }; let s := { s with adc := { s.adc with slices := [some j, some .bg, none] } }; let s := s.p F.ADC_STAT_BGSLICE 2; { s.p F.ADC_STAT_BGSLICE 2 with adc := { s.adc with inj := (5, 2, host) :: r, slices := [some .spent, some .bg, none] } }), 5, 2, true, [(3, 0, false)], .spent, by decide +kernel⟩,
    ⟨(let s := base; { s with adc := { s.adc with slices := [none, some .spent, none] } }), 1, by decide +kernel⟩,
    ⟨(let s := base; let cb : Int := -7; { ((s.p (F.STK_CAP_EN 2) 1).p F.STK_RECSTAT_CAPT 1).p (F.STK_CAP_SRC 2) 26 with adc := { s.adc with slices := [none, some (.stream 2 4 32000 cb), none] } }), 1, 2, 4, 32000, -7, by decide +kernel⟩,
    ⟨base, 1, by decide +kernel⟩,
    ⟨base, 1, by decide +kernel⟩,
    ⟨(let s := base; let w : Word := 1#16; { s with adc := { s.adc with hostSh := some (1, w) } }), 1, 1#16, by decide +kernel⟩⟩

theorem test_meets_ThrottleAndRtc :
    (∃ (s : State), s.thm.held = false ∧ s.b F.THM_STAT_THRREQ = true ∧ s.b F.THM_STAT_GRACE = true) ∧
    (∃ (s : State), s.thm.held = true ∨ s.b F.THM_STAT_THRREQ = false ∨ s.b F.THM_STAT_GRACE = false) ∧
    (∃ (s : State), s.thm.held = false ∧ s.b F.THM_STAT_RELAX = true ∧ s.b F.THM_STAT_THRREQ = false ∧ s.anySubst = false) ∧
    (∃ (s : State), s.thm.held = false ∧ s.b F.THM_STAT_RELAX = true ∧ s.b F.THM_STAT_THRREQ = false ∧ s.anySubst = true) ∧
    (∃ (s : State), s.thm.held = true ∨ s.b F.THM_STAT_RELAX = false ∨ s.b F.THM_STAT_THRREQ = true) ∧
    (∃ (s : State), s.rtcAlive = true ∧ s.rtcx.pend = none ∧ s.rn A.RTC_TRIM % 512 = 0 ∧ s.rtcx.acc < 1000000 ∧ s.almEn 0 = false ∧ s.almEn 1 = false) ∧
    (∃ (s : State), s.rtcAlive = false) ∧
    (∃ (s : State), s.hostAlive = true) ∧
    (∃ (w : Word), w ≠ 0x57E0#16 ∧ w ≠ 0x57E1#16 ∧ w ≠ 0x57E2#16) ∧
    (∃ (s : State) (step : Bool) (v : Nat), s.rtcAlive = true ∧ s.rtcx.pend = some (if step then .step v else .set v) ∧ s.rn A.RTC_TRIM % 512 = 0 ∧ s.rtcx.acc < 1000000 ∧ s.almEn 0 = false ∧ s.almEn 1 = false) ∧
    (∃ (s : State), s.rtcx.pend = none) ∧
    (∃ (s : State), s.rtcAlive = true ∧ s.rtcx.pend = some .cancel ∧ s.rn A.RTC_TRIM % 512 = 0 ∧ s.rtcx.acc < 1000000 ∧ s.almEn 0 = false ∧ s.almEn 1 = false) :=
  ⟨⟨(let s := base; let s := { s with thm := { s.thm with held := false } }; let s := s.p F.THM_STAT_THRREQ 1; s.p F.THM_STAT_GRACE 1), by decide +kernel⟩,
    ⟨(let s := base; { s with thm := { s.thm with held := true } }), by decide +kernel⟩,
    ⟨(let s := base; let s := { s with thm := { s.thm with held := false } }; let s := s.p F.THM_STAT_RELAX 1; s.p F.THM_STAT_THRREQ 0), by decide +kernel⟩,
    ⟨(let s := base; let s := { s with thm := { s.thm with held := false } }; let s := s.p F.THM_STAT_RELAX 1; let s := s.p F.THM_STAT_THRREQ 0; s.p F.THM_SFAIL_SUBST 1), by decide +kernel⟩,
    ⟨(let s := base; { s with thm := { s.thm with held := true } }), by decide +kernel⟩,
    ⟨(let s := base; { s with rtcx := { s.rtcx with pend := none } }), by decide +kernel⟩,
    ⟨(let s := base; { s with power := .dead, sup := { s.sup with vbk150 := false, starting := false } }), by decide +kernel⟩,
    ⟨base, by decide +kernel⟩,
    ⟨1#16, by decide +kernel⟩,
    ⟨(let s := base; let step : Bool := true; { s with rtcx := { s.rtcx with pend := some (if step then .step 1 else .set 1) } }), true, 1, by decide +kernel⟩,
    ⟨(let s := base; { s with rtcx := { s.rtcx with pend := none } }), by decide +kernel⟩,
    ⟨(let s := base; { s with rtcx := { s.rtcx with pend := some .cancel } }), by decide +kernel⟩⟩

end Sys2Proof.Tests
end

section
/-! PROOFS. The write-only registers that clear counts: R215, R341, R392, R507, R598, R646. -/
namespace Sys2Proof.Machine

/-! ### A run of words cleared -/

@[simp] theorem State.zeros_zero (s : State) (a : Nat) : s.zeros a 0 = s := rfl

theorem State.zeros_succ (s : State) (a n : Nat) : s.zeros a (n + 1) = (s.wr a 0).zeros (a + 1) n := rfl

/-- Clearing a run of words changes the register file only. -/
theorem State.zeros_eq (s : State) (a n : Nat) : s.zeros a n = { s with regs := (s.zeros a n).regs } := by
  induction n generalizing s a with
  | zero => rfl
  | succ n ih => rw [State.zeros_succ, ih (s.wr a 0)]; rfl

theorem State.rd_zeros (s : State) (a n x : Nat) : (s.zeros a n).rd x = if a ≤ x ∧ x < a + n then 0 else s.rd x := by
  induction n generalizing s a with
  | zero =>
    have hempty : ¬ (a ≤ x ∧ x < a + 0) := by omega
    rw [State.zeros_zero, if_neg hempty]
  | succ n ih =>
    rw [State.zeros_succ, ih, State.rd_wr]
    by_cases hx : x = a
    · subst hx
      have hfirst : x ≤ x ∧ x < x + (n + 1) := by omega
      rw [if_pos rfl, if_pos hfirst, ite_self]
    · have hrest : (a + 1 ≤ x ∧ x < a + 1 + n) ↔ (a ≤ x ∧ x < a + (n + 1)) := by omega
      simp only [hx, hrest, if_false]

theorem State.rd_zeros_inside (s : State) (a : Nat) {n k : Nat} (hk : k < n) : (s.zeros a n).rd (a + k) = 0 := by
  rw [State.rd_zeros, if_pos ⟨Nat.le_add_right a k, Nat.add_lt_add_left hk a⟩]

theorem State.rd_zeros_outside (s : State) {a n x : Nat} (h : ∀ k, k < n → x ≠ a + k) : (s.zeros a n).rd x = s.rd x := by
  have hout : ¬ (a ≤ x ∧ x < a + n) := fun ⟨hlo, hhi⟩ => h (x - a) (by omega) (by omega)
  rw [State.rd_zeros, if_neg hout]

/-! ### A host write that a row of its own stands for -/

/-- R36, R39: where the interface is alive, so is AO, and the frame starts the fast oscillator. -/
theorem State.demandFast_of_hostAlive {s : State} (h : s.hostAlive = true) : s.demandFast = s.clocked := by
  obtain ⟨hao, -⟩ := Bool.and_eq_true_iff.mp h
  rw [State.demandFast, hao]; rfl

theorem hostDone_of_hostAlive {s : State} (f : State → State) (h : s.hostAlive = true) : hostDone s f = .next (f s.clocked).settle := by
  rw [hostDone, if_pos h, State.demandFast_of_hostAlive h, done_eq]

/-- A write that changes nothing leaves what its frame has done. -/
theorem hostDone_of_unchanged (s : State) {f : State → State} (hf : ∀ t, f t = t) : hostDone s f = .next s.framed.settle := by
  unfold State.framed
  split
  next h => rw [hostDone_of_hostAlive f h, hf]
  next h => rw [hostDone, if_neg h, done_eq]

/-! ### The six rows -/

/-- What a write of w to a register that clears the n counts from address a on does. -/
def State.clearCounts (s : State) (a n : Nat) (w : Word) : State := if w = clearKey then s.zeros a n else s

theorem exec_domCntclr (s : State) (n : Nat) (w : Word) : exec (.domCntclr n w) s = hostDone s (·.clearCounts (A.DOM_CNT n 0) 6 w) := rfl
theorem exec_drvCntclr (s : State) (w : Word) : exec (.drvCntclr w) s = hostDone s (·.clearCounts A.DRV_CNTRET 3 w) := rfl
theorem exec_stkCntclr (s : State) (w : Word) : exec (.stkCntclr w) s = hostDone s (·.clearCounts (A.STK_CNT 0) 7 w) := rfl
theorem exec_wayCntclr (s : State) (w : Word) : exec (.wayCntclr w) s = hostDone s (·.clearCounts A.WAY_CNTCRC 2 w) := rfl
theorem exec_thmCntclr (s : State) (w : Word) : exec (.thmCntclr w) s = hostDone s (·.clearCounts A.THM_CNTSD 2 w) := rfl
theorem exec_fltCntclr (s : State) (w : Word) : exec (.fltCntclr w) s = hostDone s (·.clearCounts (A.FLT_CNT 0) 128 w) := rfl

theorem hostDone_clearCounts_key {s : State} (h : s.hostAlive = true) (a n : Nat) :
    hostDone s (·.clearCounts a n 0xC1EA#16) = .next (s.clocked.zeros a n).settle :=
  hostDone_of_hostAlive _ h

theorem hostDone_clearCounts_other (s : State) (a n : Nat) {w : Word} (hw : w ≠ 0xC1EA#16) :
    hostDone s (·.clearCounts a n w) = .next s.framed.settle :=
  hostDone_of_unchanged s fun _ => if_neg hw

/-- The key clears the n counts from address a on and changes nothing else of what the frame finds. -/
theorem hostDone_clearCounts_frame {s : State} (h : s.hostAlive = true) (a n : Nat) :
    ∃ e : State, hostDone s (·.clearCounts a n 0xC1EA#16) = .next e.settle ∧ e = { s.clocked with regs := e.regs } ∧
      (∀ k, k < n → e.rd (a + k) = 0) ∧ (∀ x, (∀ k, k < n → x ≠ a + k) → e.rd x = s.rd x) :=
  ⟨s.clocked.zeros a n, hostDone_clearCounts_key h a n, State.zeros_eq _ a n,
    fun _ hk => State.rd_zeros_inside _ a hk, fun _ hx => State.rd_zeros_outside s.clocked hx⟩

/-! ### What these registers read -/

/-- The addresses of the registers that clear counts. -/
def clearRegs : List Nat := [A.DRV_CNTCLR, A.STK_CNTCLR, A.WAY_CNTCLR, A.THM_CNTCLR, A.FLT_CNTCLR] ++ domains.map A.DOM_CNTCLR

/-- R14: a word without a bit that a host write stores, clears or sets keeps what it holds. -/
theorem storedWord_of_masks_zero {a : Nat} (hrw : rwMask a = 0) (hc : w1cMask a = 0) (hs : w1sMask a = 0) (old w : Word) :
    storedWord a old w = old := by
  have hones : ~~~(0#16) = BitVec.allOnes 16 := rfl
  simp only [storedWord, hrw, hc, hs, BitVec.zero_and, BitVec.and_zero, BitVec.or_zero, hones, BitVec.and_allOnes]

/-- R121, R142: the address is mapped, outside the Wayline manager's block, and a read of it has no side effect. -/
def plainRead (a : Nat) : Bool :=
  mapped a && !(decide (A.WAY_MCFG ≤ a) && decide (a ≤ A.WAY_W 123)) && a != A.HIF_ERR && a != A.GAU_ACC0 &&
    !(decide (A.RTC_SEC 0 ≤ a) && decide (a ≤ A.RTC_FRAC)) && !(decide (A.ADC_RES 0 ≤ a) && decide (a ≤ A.ADC_RES 127))

theorem State.readWord_of_plainRead {a : Nat} (s : State) (m : ReadMode) (h : plainRead a = true) : s.readWord m a = (s.viewWord a, s) := by
  simp only [plainRead, Bool.and_eq_true, Bool.not_eq_true', bne_iff_ne, ne_eq] at h
  obtain ⟨⟨⟨⟨⟨hmap, hway⟩, herr⟩, hacc⟩, hrtc⟩, hadc⟩ := h
  simp [State.readWord, hmap, hway, herr, hacc, hrtc, hadc, Bool.and_assoc]

/-- The stored word is what reads where no side effect and no live word stands in its place. -/
theorem State.readWords_one_of_plainRead {a : Nat} (s : State) (m : ReadMode) (h : plainRead a = true) (hv : s.view a = none) :
    (s.readWords m a 1).1 = [s.rd a] := by
  simp [State.readWords, State.readWord_of_plainRead s m h, State.viewWord, hv]

/-- R213, R245, R249: word 8 of a domain's block of 32 is not one that reads live. -/
theorem State.viewDom_of_mod_eq_eight (s : State) (n : Nat) {a : Nat} (h : a % 32 = 8) : s.viewDom n a = none := by
  have hstat : a ≠ A.DOM_STAT n := by unfold A.DOM_STAT domBase; omega
  have hlim : a ≠ A.DOM9_LSTAT := by unfold A.DOM9_LSTAT; omega
  have hreg : a ≠ A.DOM_RSTAT n := by unfold A.DOM_RSTAT domBase; omega
  simp [State.viewDom, hstat, hlim, hreg]

theorem State.viewDoms_of_mod_eq_eight (s : State) {a : Nat} (h : a % 32 = 8) : s.viewDoms a = none := by
  have hpg : a ≠ A.DOM_PGSUM := by unfold A.DOM_PGSUM; omega
  have hseq : a ≠ A.DOM_SEQSTAT := by unfold A.DOM_SEQSTAT; omega
  simp only [State.viewDoms, hpg, hseq, s.viewDom_of_mod_eq_eight _ h, if_false, ite_self]

theorem State.view_domCntclr (s : State) {n : Nat} (hn : n ∈ domains) : s.view (A.DOM_CNTCLR n) = none := by
  have hrange : 1 ≤ n ∧ n ≤ 10 := (by decide : ∀ m ∈ domains, 1 ≤ m ∧ m ≤ 10) n hn
  have hlo : ¬ A.DOM_CNTCLR n < 0x200 := by unfold A.DOM_CNTCLR domBase; omega
  have hhi : A.DOM_CNTCLR n < 0x400 := by unfold A.DOM_CNTCLR domBase; omega
  have hmod : A.DOM_CNTCLR n % 32 = 8 := by unfold A.DOM_CNTCLR domBase; omega
  rw [State.view, if_neg hlo, if_pos hhi, s.viewDoms_of_mod_eq_eight hmod]

/-- R498: WAY_CNTCLR lies below the manager's block, and no other word of the Wayline's live ones stands there. -/
theorem State.view_wayCntclr (s : State) : s.view A.WAY_CNTCLR = none := by
  have hbelow : (!s.isManager && decide (A.WAY_MCFG ≤ A.WAY_CNTCLR) && decide (A.WAY_CNTCLR ≤ A.WAY_W 123)) = false := by cases s.isManager <;> rfl
  have hway : s.viewWay A.WAY_CNTCLR = none := by rw [State.viewWay, hbelow]; rfl
  exact hway

theorem State.view_clearReg (s : State) {a : Nat} (ha : a ∈ clearRegs) : s.view a = none := by
  rcases List.mem_append.mp ha with hblock | hdom
  · simp only [List.mem_cons, List.not_mem_nil, or_false] at hblock
    rcases hblock with rfl | rfl | rfl | rfl | rfl
    · rfl
    · rfl
    · exact s.view_wayCntclr
    · rfl
    · rfl
  · obtain ⟨n, hn, rfl⟩ := List.mem_map.mp hdom
    exact s.view_domCntclr hn

/-- No bit of a register that clears counts is stored, cleared or set by a host write; it resets to zero and reads plainly. -/
theorem clearRegs_map : ∀ a ∈ clearRegs, resetWord a = 0 ∧ rwMask a = 0 ∧ w1cMask a = 0 ∧ w1sMask a = 0 ∧ plainRead a = true := by
  decide

theorem clearReg_reads_zero {a : Nat} (ha : a ∈ clearRegs) :
    resetWord a = 0 ∧ (∀ old w : Word, storedWord a old w = old) ∧ ∀ s : State, s.rd a = 0 → (s.readWords .host a 1).1 = [0] := by
  obtain ⟨hreset, hrw, hc, hs, hplain⟩ := clearRegs_map a ha
  refine ⟨hreset, storedWord_of_masks_zero hrw hc hs, fun s hz => ?_⟩
  rw [s.readWords_one_of_plainRead .host hplain (s.view_clearReg ha), hz]

/-- Settles O27: each of the six rows is a keyed clear of a run of counts, and each of the registers is a word without a bit that a host write changes. -/
theorem countClears : Obligations.CountClears := by
  unfold Obligations.CountClears
  exact ⟨fun _ ha => clearReg_reads_zero ha,
    fun s n _ h => hostDone_clearCounts_frame h (A.DOM_CNT n 0) 6,
    fun s n _ hw => hostDone_clearCounts_other s (A.DOM_CNT n 0) 6 hw,
    fun _ h => hostDone_clearCounts_key h A.DRV_CNTRET 3,
    fun s _ hw => hostDone_clearCounts_other s A.DRV_CNTRET 3 hw,
    fun _ h => hostDone_clearCounts_frame h (A.STK_CNT 0) 7,
    fun s _ hw => hostDone_clearCounts_other s (A.STK_CNT 0) 7 hw,
    fun _ h => hostDone_clearCounts_key h A.WAY_CNTCRC 2,
    fun s _ hw => hostDone_clearCounts_other s A.WAY_CNTCRC 2 hw,
    fun _ h => hostDone_clearCounts_key h A.THM_CNTSD 2,
    fun s _ hw => hostDone_clearCounts_other s A.THM_CNTSD 2 hw,
    fun _ h => hostDone_clearCounts_frame h (A.FLT_CNT 0) 128,
    fun s _ hw => hostDone_clearCounts_other s (A.FLT_CNT 0) 128 hw⟩

end Sys2Proof.Machine
end

section
/-! PROOFS. The millrace queue: the words that packets hold, the pointer check, opening and dropping (R652, R653), commit (R655), and the stroke summary packet opened and rewound (R654, R656). -/
namespace Sys2Proof.Machine

/-! ### The words that packets hold -/

theorem openWords_append (l : List OpenPkt) (o : OpenPkt) (c : Nat) : openWords (l ++ [o]) c = openWords l c + if o.cls = c then o.len else 0 := by
  by_cases h : o.cls = c <;> simp [openWords, List.filter_append, h]

/-- A write pointer that advances moves no word of any class. -/
@[simp] theorem Mrq.words_advWp (q : Mrq) (c L d : Nat) : (q.advWp c L).words d = q.words d := rfl

theorem Mrq.words_addOpened (q : Mrq) (o : OpenPkt) (d : Nat) :
    Mrq.words { q with opened := q.opened ++ [o] } d = q.words d + if o.cls = d then o.len else 0 := by
  simp only [Mrq.words, openWords_append]; omega

/-- R654: the open stroke summary packet holds its words in its own class. -/
theorem Mrq.words_openCls {q : Mrq} (h : q.openCls = none) (c d : Nat) :
    Mrq.words { q with openCls := some c } d = q.words d + if c = d then strokePktLen else 0 := by
  simp only [Mrq.words, h, Option.some.injEq, reduceCtorEq, if_false]; omega

/-- R654: a stroke summary that closes hands its words over to the packet that is to commit. -/
theorem Mrq.words_closing_opened {q : Mrq} {c : Nat} (h : q.closing = [c]) (b : PktBody) (d : Nat) :
    Mrq.words { q with closing := [], opened := q.opened ++ [⟨b, c, strokePktLen⟩] } d = q.words d := by
  simp only [Mrq.words, openWords_append, h, List.count_nil, List.count_singleton, beq_iff_eq]
  by_cases hcd : c = d
  · simp only [hcd, if_true]; omega
  · simp only [hcd, if_false]; omega

/-- R652: where there is room for a packet, its words are free, of whatever class it is. -/
theorem Mrq.le_free_of_room {q : Mrq} {c L : Nat} (h : q.room c L = true) : L ≤ q.free := by
  unfold Mrq.room at h
  split at h
  · exact of_decide_eq_true h
  · exact le_trans (Nat.le_add_right _ _) (of_decide_eq_true h)

/-- R665: a stroke summary packet of one of the four classes takes its words from the free ones. -/
theorem Mrq.free_openCls {q : Mrq} {c : Nat} (h : q.openCls = none) (hc : c < 4) (hroom : q.room c strokePktLen = true) :
    Mrq.free { q with openCls := some c } + strokePktLen = q.free := by
  have hle := Mrq.le_free_of_room hroom
  have hlen : strokePktLen = 8 := rfl
  have hsum : (if c = 0 then 8 else 0) + (if c = 1 then 8 else 0) + (if c = 2 then 8 else 0) + (if c = 3 then 8 else 0) = 8 := by
    interval_cases c <;> rfl
  simp only [Mrq.free, Mrq.words_openCls h, hlen] at hle ⊢
  omega

/-! ### The pointer check (R663) -/

theorem State.checkPtrs_of_agree {s : State} {c : Nat} (hc : s.mrq.ptrsAgree c = true) (h0 : s.mrq.ptrsAgree 0 = true) : s.checkPtrs c = s := by
  rw [State.checkPtrs, hc, h0]; rfl

theorem Mrq.ptrsAgree_of_copies_eq {q : Mrq} (hr : q.rp = q.rp2) (hw : q.wp = q.wp2) (c : Nat) : q.ptrsAgree c = true := by
  simp [Mrq.ptrsAgree, hr, hw]

/-! ### A packet that finds no room (R653) -/

theorem mrqDrop_ne_mrqStat {c : Nat} (hc : c < 4) : A.MRQ_DROP c ≠ A.MRQ_STAT := by
  interval_cases c <;> decide

theorem mrqDrop_ne_engStat {c : Nat} (hc : c < 4) : A.MRQ_DROP c ≠ F.ENG_STAT_PKTLOST.addr := by
  interval_cases c <;> decide

/-- A count changes the register file only. -/
theorem State.inc_eq (s : State) (a : Nat) : s.inc a = { s with regs := (s.inc a).regs } := by
  unfold State.inc; split <;> rfl

/-- A drop of class c is counted, and DROP sets. -/
def State.countDrop (s : State) (c : Nat) : State := (s.inc (A.MRQ_DROP c)).p F.MRQ_STAT_DROP 1

theorem State.countDrop_eq (s : State) (c : Nat) : s.countDrop c = { s with regs := (s.countDrop c).regs } := by
  rw [State.countDrop, s.inc_eq]; rfl

theorem State.rn_countDrop (s : State) {c : Nat} (hc : c < 4) : (s.countDrop c).rn (A.MRQ_DROP c) = min 65535 (s.rn (A.MRQ_DROP c) + 1) := by
  rw [← State.rn_inc, State.rn, State.countDrop, State.rd_p_ne _ _ (mrqDrop_ne_mrqStat hc)]; rfl

theorem State.g_countDrop (s : State) (c : Nat) : (s.countDrop c).g F.MRQ_STAT_DROP = 1 := State.g_p_same _ _ 1 (by decide)

theorem State.rd_countDrop_ne (s : State) {c a : Nat} (hd : a ≠ A.MRQ_DROP c) (hs : a ≠ A.MRQ_STAT) : (s.countDrop c).rd a = s.rd a := by
  rw [State.countDrop, State.rd_p_ne _ _ hs, State.rd_inc_ne _ hd]

/-- The registers that a drop changes: an engine's report sets PKTLOST too (R162). -/
def State.dropMarks (s : State) (c : Nat) (b : PktBody) : State :=
  match b with
  | .engReport _ _ _ _ => (s.countDrop c).p F.ENG_STAT_PKTLOST 1
  | _ => s.countDrop c

theorem State.dropMarks_eq (s : State) (c : Nat) (b : PktBody) : s.dropMarks c b = { s with regs := (s.dropMarks c b).regs } := by
  unfold State.dropMarks; rw [s.countDrop_eq]; split <;> rfl

theorem State.rn_dropMarks (s : State) {c : Nat} (b : PktBody) (hc : c < 4) :
    (s.dropMarks c b).rn (A.MRQ_DROP c) = min 65535 (s.rn (A.MRQ_DROP c) + 1) := by
  rw [← s.rn_countDrop hc]
  unfold State.dropMarks State.rn
  split
  · rw [State.rd_p_ne _ _ (mrqDrop_ne_engStat hc)]
  · rfl

theorem State.g_dropMarks (s : State) (c : Nat) (b : PktBody) : (s.dropMarks c b).g F.MRQ_STAT_DROP = 1 := by
  rw [← s.g_countDrop c]
  unfold State.dropMarks
  split
  · exact State.g_p_ne _ _ (by decide)
  · rfl

/-- The fault packet of source 122 does not raise its own source again. -/
theorem State.dropPacket_own (s : State) (c applied configured : Nat) (o : Origin) (st n band : Nat) :
    s.dropPacket c (.fault applied configured o st 122 n band) = s.dropMarks c (.fault applied configured o st 122 n band) := rfl

theorem State.dropPacket_raises (s : State) (c : Nat) {b : PktBody} (hb : ∀ a k o st n band, b ≠ .fault a k o st 122 n band) :
    s.dropPacket c b = (s.dropMarks c b).raise 122 := by
  cases b with
  | fault a k o st source n band =>
    have hsource : source ≠ 122 := fun h => hb a k o st n band (by rw [h])
    simp [State.dropPacket, State.dropMarks, State.countDrop]
  | _ => rfl

/-- Whatever the packet, its drop changes registers and what is raised, and nothing else. -/
theorem State.dropPacket_eq (s : State) (c : Nat) (b : PktBody) : s.dropPacket c b = { s.dropMarks c b with flt := (s.dropPacket c b).flt } := by
  by_cases hb : ∀ a k o st n band, b ≠ .fault a k o st 122 n band
  · rw [s.dropPacket_raises c hb]; rfl
  · push Not at hb
    obtain ⟨a, k, o, st, n, band, rfl⟩ := hb
    rw [s.dropPacket_own]

theorem State.dropPacket_mrq (s : State) (c : Nat) (b : PktBody) : (s.dropPacket c b).mrq = s.mrq := by
  rw [s.dropPacket_eq, s.dropMarks_eq]

theorem State.rn_dropPacket (s : State) {c : Nat} (b : PktBody) (hc : c < 4) :
    (s.dropPacket c b).rn (A.MRQ_DROP c) = min 65535 (s.rn (A.MRQ_DROP c) + 1) := by
  rw [s.dropPacket_eq]; exact s.rn_dropMarks b hc

theorem State.g_dropPacket (s : State) (c : Nat) (b : PktBody) : (s.dropPacket c b).g F.MRQ_STAT_DROP = 1 := by
  rw [s.dropPacket_eq]; exact s.g_dropMarks c b

theorem State.dropPacket_raised (s : State) (c : Nat) {b : PktBody} (hb : ∀ a k o st n band, b ≠ .fault a k o st 122 n band) :
    (s.dropPacket c b).flt.raised = s.flt.raised ++ [⟨122, .detector, s.power.code⟩] := by
  rw [s.dropPacket_raises c hb, s.dropMarks_eq]; rfl

theorem State.dropPacket_own_raised (s : State) (c applied configured : Nat) (o : Origin) (st n band : Nat) :
    (s.dropPacket c (.fault applied configured o st 122 n band)).flt.raised = s.flt.raised := by
  rw [s.dropPacket_own, s.dropMarks_eq]

/-! ### Opening (R652, R654) -/

/-- The length of a packet with its header, as it is opened. -/
def PktBody.len (s : State) (b : PktBody) : Nat := (b.payload s).length + 2

/-- Any packet but a stroke summary opens where it has room, and is dropped where it has none. -/
theorem State.openPacket_of_agree {s : State} {b : PktBody} (hb : b.kind.2.1 ≠ 0x09) (hc : s.mrq.ptrsAgree (b.cls s) = true) (h0 : s.mrq.ptrsAgree 0 = true) :
    s.openPacket b = if s.mrq.room (b.cls s) (b.len s) then ({ s with mrq := s.mrq.advWp (b.cls s) (b.len s) } : State).addOpen ⟨b, b.cls s, b.len s⟩ else s.dropPacket (b.cls s) b := by
  unfold State.openPacket
  split
  next => exact absurd rfl hb
  next => simp only [State.checkPtrs_of_agree hc h0]; rfl

/-- A stroke summary that has closed is opened for commit with the words that it holds. -/
theorem State.openPacket_stroke {s : State} {c : Nat} (ws : List (BitVec 32)) (hc : s.mrq.ptrsAgree c = true) (h0 : s.mrq.ptrsAgree 0 = true)
    (hclosing : s.mrq.closing = [c]) :
    s.openPacket (.stroke c ws) = { s with mrq := { s.mrq with closing := [], opened := s.mrq.opened ++ [⟨.stroke c ws, c, strokePktLen⟩] } } := by
  rw [State.openPacket, State.openClosing, State.checkPtrs_of_agree hc h0, hclosing]
  simp [State.addOpen]

/-! ### Commit (R655) -/

theorem insertByProducer_perm (o : OpenPkt) (l : List OpenPkt) : (insertByProducer o l).Perm (o :: l) := by
  induction l with
  | nil => rfl
  | cons c r ih =>
    unfold insertByProducer
    split
    · rfl
    · exact (ih.cons c).trans (.swap o c r)

theorem foldl_insertByProducer_perm (l acc : List OpenPkt) : (l.foldl (fun acc o => insertByProducer o acc) acc).Perm (l ++ acc) := by
  induction l generalizing acc with
  | nil => rfl
  | cons o r ih => exact (ih _).trans (((insertByProducer_perm o acc).append_left r).trans List.perm_middle)

/-- The order of commit loses no packet and adds none. -/
theorem byProducer_perm (l : List OpenPkt) : (byProducer l).Perm l := by
  simpa [byProducer] using foldl_insertByProducer_perm l []

/-- What a packet carries rests on registers and the units' state, not on the queue or the host interface. -/
theorem PktBody.payload_of_queue (s : State) (q : Mrq) (h : Hif) (b : PktBody) : b.payload { s with mrq := q, hif := h } = b.payload s := by
  cases b <;> rfl

/-- The committed packet that an open one becomes. -/
def OpenPkt.packet (s : State) (o : OpenPkt) : Packet := ⟨o.cls, header s o.cls o.body.kind.2.1 (o.body.payload s).length o.body.kind.2.2 ++ o.body.payload s⟩

/-- One open packet commits. -/
def State.commitOne (s : State) (o : OpenPkt) : State := s.commitPacket o.cls o.body.kind.2.1 o.body.kind.2.2 (o.body.payload s)

/-- The packets that a run of open ones become, each with the SEQ it finds. -/
def State.commitRun (s : State) (l : List OpenPkt) : List Packet :=
  match l with
  | [] => []
  | o :: r => o.packet s :: (s.commitOne o).commitRun r

theorem State.commitOne_eq (s : State) (o : OpenPkt) :
    s.commitOne o = { s with mrq := { s.mrq with pkts := s.mrq.pkts ++ [o.packet s], seq := s.mrq.seq + 1 }, hif := { s.hif with attn := true } } := rfl

theorem State.each_commitOne (s : State) (l : List OpenPkt) :
    s.each l State.commitOne =
      { s with mrq := { s.mrq with pkts := s.mrq.pkts ++ s.commitRun l, seq := s.mrq.seq + l.length }, hif := { s.hif with attn := s.hif.attn || !l.isEmpty } } := by
  induction l generalizing s with
  | nil => simp [State.commitRun]
  | cons o r ih =>
    rw [State.each_cons, ih, State.commitRun]
    simp [State.commitOne_eq, Nat.add_assoc, Nat.add_comm 1]

theorem State.map_cls_commitRun (s : State) (l : List OpenPkt) : (s.commitRun l).map Packet.cls = l.map OpenPkt.cls := by
  induction l generalizing s with
  | nil => rfl
  | cons o r ih => rw [State.commitRun, List.map_cons, ih]; rfl

/-- After its header of two words each packet carries its payload, as the registers stood before any of them committed. -/
theorem State.map_payload_commitRun (s : State) (l : List OpenPkt) : (s.commitRun l).map (fun p => p.words.drop 2) = l.map (fun o => o.body.payload s) := by
  induction l generalizing s with
  | nil => rfl
  | cons o r ih =>
    have hrest : ∀ u : OpenPkt, u.body.payload (s.commitOne o) = u.body.payload s := fun u => u.body.payload_of_queue s _ _
    simp only [State.commitRun, List.map_cons, ih, hrest]
    rfl

theorem State.two_le_length_of_mem_commitRun {s : State} {l : List OpenPkt} {p : Packet} (h : p ∈ s.commitRun l) : 2 ≤ p.words.length := by
  induction l generalizing s with
  | nil => exact absurd h List.not_mem_nil
  | cons o r ih =>
    rcases List.mem_cons.mp h with rfl | hr
    · exact Nat.le_add_left 2 (o.body.payload s).length
    · exact ih hr

/-- The state in which the packets of a step time commit. -/
def State.openedTaken (s : State) : State := { s with mrq := { s.mrq with opened := [] } }

theorem State.commitOpened_eq (s : State) :
    s.commitOpened =
      { s with
          mrq := { s.mrq with opened := [], pkts := s.mrq.pkts ++ s.openedTaken.commitRun (byProducer s.mrq.opened), seq := s.mrq.seq + s.mrq.opened.length },
          hif := { s.hif with attn := s.hif.attn || !s.mrq.opened.isEmpty } } := by
  have hperm := byProducer_perm s.mrq.opened
  rw [← hperm.length_eq, ← hperm.isEmpty_eq]
  exact s.openedTaken.each_commitOne _

/-! ### The stroke summary packet (R654, R656) -/

theorem State.pktCls_lt (s : State) : s.g F.STK_CFG_PKTCLS < 4 := Nat.mod_lt _ (by decide)

/-- The queue with a stroke summary packet of class c opened. -/
def Mrq.withStroke (q : Mrq) (c : Nat) : Mrq := { q.advWp c strokePktLen with openCls := some c }

theorem State.openStroke_of_room {s : State} (hc : s.mrq.ptrsAgree (s.g F.STK_CFG_PKTCLS) = true) (h0 : s.mrq.ptrsAgree 0 = true)
    (hroom : s.mrq.room (s.g F.STK_CFG_PKTCLS) strokePktLen = true) : s.openStroke = (true, { s with mrq := s.mrq.withStroke (s.g F.STK_CFG_PKTCLS) }) := by
  simp only [State.openStroke, State.checkPtrs_of_agree hc h0, hroom, if_true]; rfl

theorem State.openStroke_of_no_room {s : State} (hc : s.mrq.ptrsAgree (s.g F.STK_CFG_PKTCLS) = true) (h0 : s.mrq.ptrsAgree 0 = true)
    (hroom : s.mrq.room (s.g F.STK_CFG_PKTCLS) strokePktLen = false) : s.openStroke = (false, (s.countDrop (s.g F.STK_CFG_PKTCLS)).raise 122) := by
  simp only [State.openStroke, State.checkPtrs_of_agree hc h0, hroom, Bool.false_eq_true, if_false]; rfl

theorem State.rewindStroke_of_open {s : State} {c : Nat} (h : s.mrq.openCls = some c) (hc : s.mrq.ptrsAgree c = true) (h0 : s.mrq.ptrsAgree 0 = true) :
    s.rewindStroke = { s with mrq := { s.mrq.advWp c (queueWords - strokePktLen) with openCls := none } } := by
  simp only [State.rewindStroke, h, State.checkPtrs_of_agree hc h0]

/-- Pointers whose copies agree move together as a stroke summary packet opens. -/
theorem Mrq.ptrsAgree_withStroke {q : Mrq} (hr : q.rp = q.rp2) (hw : q.wp = q.wp2) (c d : Nat) : (q.withStroke c).ptrsAgree d = true :=
  Mrq.ptrsAgree_of_copies_eq (q := q.withStroke c) hr (by simp only [Mrq.withStroke, Mrq.advWp, hw]) d

/-! ### The four parts of R652 to R655 -/

/-- R652: a packet that has room holds its words in its class; SEQ and the committed packets stay. -/
theorem State.openPacket_room {s : State} {b : PktBody} (hb : b.kind.2.1 ≠ 0x09) (hc : s.mrq.ptrsAgree (b.cls s) = true) (h0 : s.mrq.ptrsAgree 0 = true)
    (hroom : s.mrq.room (b.cls s) (b.len s) = true) :
    s.openPacket b = { s with mrq := (s.openPacket b).mrq } ∧ (s.openPacket b).mrq.opened = s.mrq.opened ++ [⟨b, b.cls s, b.len s⟩] ∧ (s.openPacket b).mrq.pkts = s.mrq.pkts ∧
      (s.openPacket b).mrq.seq = s.mrq.seq ∧ (s.openPacket b).mrq.words (b.cls s) = s.mrq.words (b.cls s) + b.len s := by
  rw [State.openPacket_of_agree hb hc h0, hroom, if_pos rfl]
  have hwords := Mrq.words_addOpened (s.mrq.advWp (b.cls s) (b.len s)) ⟨b, b.cls s, b.len s⟩ (b.cls s)
  rw [if_pos rfl] at hwords
  exact ⟨rfl, rfl, rfl, rfl, hwords⟩

/-- R653: a packet without room is counted and reported, and the queue keeps what it holds. -/
theorem State.openPacket_no_room {s : State} {b : PktBody} (hb : b.kind.2.1 ≠ 0x09) (hc : s.mrq.ptrsAgree (b.cls s) = true) (h0 : s.mrq.ptrsAgree 0 = true)
    (hroom : s.mrq.room (b.cls s) (b.len s) = false) : s.openPacket b = s.dropPacket (b.cls s) b := by
  rw [State.openPacket_of_agree hb hc h0, hroom, if_neg Bool.false_ne_true]

/-- R653: a stroke summary that finds no room as it is to be opened is dropped like any other packet. -/
theorem State.openStroke_dropped {s : State} (hc : s.mrq.ptrsAgree (s.g F.STK_CFG_PKTCLS) = true) (h0 : s.mrq.ptrsAgree 0 = true)
    (hroom : s.mrq.room (s.g F.STK_CFG_PKTCLS) strokePktLen = false) :
    s.openStroke.1 = false ∧ s.openStroke.2 = { s with regs := s.openStroke.2.regs, flt := { s.flt with raised := s.flt.raised ++ [⟨122, .detector, s.power.code⟩] } } ∧
      s.openStroke.2.rn (A.MRQ_DROP (s.g F.STK_CFG_PKTCLS)) = min 65535 (s.rn (A.MRQ_DROP (s.g F.STK_CFG_PKTCLS)) + 1) ∧ s.openStroke.2.g F.MRQ_STAT_DROP = 1 ∧
      ∀ x, x ≠ A.MRQ_DROP (s.g F.STK_CFG_PKTCLS) → x ≠ A.MRQ_STAT → s.openStroke.2.rd x = s.rd x := by
  rw [State.openStroke_of_no_room hc h0 hroom]
  refine ⟨rfl, ?_, s.rn_countDrop s.pktCls_lt, s.g_countDrop _, fun _ => s.rd_countDrop_ne⟩
  rw [s.countDrop_eq]; rfl

/-- R655: every open packet commits, in its order. -/
theorem State.commitOpened_pkts (s : State) :
    ∃ l : List Packet, s.commitOpened.mrq.pkts = s.mrq.pkts ++ l ∧ l.map Packet.cls = (byProducer s.mrq.opened).map OpenPkt.cls ∧
      l.map (fun p => p.words.drop 2) = (byProducer s.mrq.opened).map (fun o => o.body.payload s) ∧ ∀ p ∈ l, 2 ≤ p.words.length := by
  have hpayload : ∀ o : OpenPkt, o.body.payload s.openedTaken = o.body.payload s := fun o => o.body.payload_of_queue s _ s.hif
  refine ⟨s.openedTaken.commitRun (byProducer s.mrq.opened), by rw [s.commitOpened_eq], State.map_cls_commitRun _ _, ?_, fun _ => State.two_le_length_of_mem_commitRun⟩
  rw [State.map_payload_commitRun]
  exact List.map_congr_left fun o _ => hpayload o

/-! ### The obligations -/

/-- Settles O28: with the pointers' copies agreed the packet opens with its words taken from the free ones, and its rewind gives them back and touches nothing else. -/
theorem rewindLeavesNoTrace : Obligations.RewindLeavesNoTrace := by
  unfold Obligations.RewindLeavesNoTrace
  intro s hnone hr hw hopened
  have hagree := Mrq.ptrsAgree_of_copies_eq hr hw
  have hroom : s.mrq.room (s.g F.STK_CFG_PKTCLS) strokePktLen = true := by
    by_contra hno
    rw [State.openStroke_of_no_room (hagree _) (hagree 0) (Bool.eq_false_of_not_eq_true hno)] at hopened
    exact Bool.false_ne_true hopened
  have hagree' := Mrq.ptrsAgree_withStroke hr hw (s.g F.STK_CFG_PKTCLS)
  rw [State.openStroke_of_room (hagree _) (hagree 0) hroom,
    State.rewindStroke_of_open (c := s.g F.STK_CFG_PKTCLS) rfl (hagree' _) (hagree' 0)]
  have hback : Mrq.free { s.mrq with openCls := none } = s.mrq.free := by rw [← hnone]
  exact ⟨rfl, Mrq.free_openCls hnone s.pktCls_lt hroom, rfl, hback, rfl, rfl, rfl, rfl, rfl, rfl⟩

/-- Settles O26: a packet is opened or dropped by its room, a stroke summary keeps the words that it holds, and the run of open packets commits one by one in its order. -/
theorem sendOrDrop : Obligations.SendOrDrop := by
  unfold Obligations.SendOrDrop
  refine ⟨fun s b hb hc h0 hcls => ⟨State.openPacket_room hb hc h0, fun hroom => ?_⟩, fun s c ws hc h0 hclosing => ?_, fun s => ?_,
    fun s hc h0 => ⟨fun hroom => ?_, State.openStroke_dropped hc h0⟩⟩
  · rw [State.openPacket_no_room hb hc h0 hroom]
    refine ⟨s.dropPacket_mrq _ b, s.rn_dropPacket b hcls, s.g_dropPacket _ b, s.dropPacket_raised _, ?_⟩
    rintro a k o st n band rfl
    exact s.dropPacket_own_raised _ a k o st n band
  · rw [State.openPacket_stroke ws hc h0 hclosing]
    exact ⟨rfl, Mrq.words_closing_opened hclosing _⟩
  · refine ⟨?_, ?_, ?_, s.commitOpened_pkts⟩ <;> rw [s.commitOpened_eq]
  · rw [State.openStroke_of_room hc h0 hroom]
    exact ⟨rfl, rfl, rfl, rfl⟩

end Sys2Proof.Machine
end

section
/-! PROOFS. What an operation keeps: the form of the state and the live bits as they were last seen. The rules for the state's own updates. -/
namespace Sys2Proof.Machine

/-! ### What every operation keeps -/

/-- The parts of the state that its form and the live bits' latest view speak of. -/
def State.core (s : State) : RegFile × List Engine × List EngTimer × List Domain × List Bool × List (Option SliceJob) × List WRec × Nat :=
  (s.regs, s.eng, s.tim, s.dom, s.rtcx.was, s.adc.slices, s.way.recs, s.hif.seen)

/-- What an operation keeps: with `κ` the form of the state, and with `ν = some n` the live bits n as they were last seen (R130). -/
structure State.Sound (κ : Bool) (ν : Option Nat) (s : State) : Prop where
  form : κ = true → s.wf = true
  view : ∀ n, ν = some n → s.hif.seen = n

section
variable {κ : Bool} {ν : Option Nat} {s t : State}

theorem State.wf_iff (s : State) : s.wf = true ↔ s.regs.wf = true ∧ s.dom.length = 10 ∧ s.eng.length = 12 ∧ s.tim.length = 4 ∧ s.rtcx.was.length = 2 ∧ s.adc.slices.length = 3 ∧ s.way.recs.length = 31 := by
  simp [State.wf, and_assoc]

/-- A change that keeps the register file's form and the lists' lengths keeps the form of the state. -/
theorem State.Sound.of_lengths (h : s.Sound κ ν) (hr : s.regs.wf = true → t.regs.wf = true) (hd : t.dom.length = s.dom.length) (he : t.eng.length = s.eng.length) (ht : t.tim.length = s.tim.length)
    (hw : t.rtcx.was.length = s.rtcx.was.length) (ha : t.adc.slices.length = s.adc.slices.length) (hy : t.way.recs.length = s.way.recs.length) (hs : t.hif.seen = s.hif.seen) : t.Sound κ ν := by
  refine ⟨fun hf => ?_, fun n hn => hs.trans (h.view n hn)⟩
  obtain ⟨h1, h2, h3, h4, h5, h6, h7⟩ := s.wf_iff.mp (h.form hf)
  exact t.wf_iff.mpr ⟨hr h1, hd.trans h2, he.trans h3, ht.trans h4, hw.trans h5, ha.trans h6, hy.trans h7⟩

/-- A change that touches none of those parts. -/
theorem State.Sound.of_core (h : s.Sound κ ν) (e : t.core = s.core) : t.Sound κ ν := by
  simp only [State.core, Prod.mk.injEq] at e
  obtain ⟨hr, he, ht, hd, hw, ha, hy, hs⟩ := e
  exact h.of_lengths (fun hf => by rw [hr]; exact hf) (by rw [hd]) (by rw [he]) (by rw [ht]) (by rw [hw]) (by rw [ha]) (by rw [hy]) hs

theorem State.Sound.ite {c : Prop} [Decidable c] (hs : s.Sound κ ν) (ht : t.Sound κ ν) : (if c then s else t).Sound κ ν := by
  split
  · exact hs
  · exact ht

theorem State.Sound.when (h : s.Sound κ ν) {c : Bool} {f : State → State} (hf : ∀ t : State, t.Sound κ ν → (f t).Sound κ ν) : (s.when c f).Sound κ ν := by
  cases c
  · exact h
  · exact hf s h

theorem State.Sound.each {α : Type} (h : s.Sound κ ν) {l : List α} {f : State → α → State} (hf : ∀ (t : State) (a : α), t.Sound κ ν → (f t a).Sound κ ν) : (s.each l f).Sound κ ν :=
  State.each_induct (·.Sound κ ν) hf l s h

theorem State.Sound.ite_snd {α : Type} {c : Prop} [Decidable c] {x y : α × State} (hx : x.2.Sound κ ν) (hy : y.2.Sound κ ν) : (if c then x else y).2.Sound κ ν := by
  split
  · exact hx
  · exact hy

theorem State.Sound.ite_fst {α : Type} {c : Prop} [Decidable c] {x y : State × α} (hx : x.1.Sound κ ν) (hy : y.1.Sound κ ν) : (if c then x else y).1.Sound κ ν := by
  split
  · exact hx
  · exact hy

theorem State.Sound.foldl {α : Type} (h : s.Sound κ ν) {l : List α} {f : State → α → State} (hf : ∀ (t : State) (a : α), t.Sound κ ν → (f t a).Sound κ ν) : (l.foldl f s).Sound κ ν :=
  h.each hf

theorem State.Sound.foldl_snd {α β : Type} {x : α × State} (h : x.2.Sound κ ν) {l : List β} {f : α × State → β → α × State}
    (hf : ∀ (y : α × State) (b : β), y.2.Sound κ ν → (f y b).2.Sound κ ν) : (l.foldl f x).2.Sound κ ν := by
  induction l generalizing x with
  | nil => exact h
  | cons b r ih => exact ih (hf x b h)

theorem State.Sound.foldl_fst {α β : Type} {x : State × α} (h : x.1.Sound κ ν) {l : List β} {f : State × α → β → State × α}
    (hf : ∀ (y : State × α) (b : β), y.1.Sound κ ν → (f y b).1.Sound κ ν) : (l.foldl f x).1.Sound κ ν := by
  induction l generalizing x with
  | nil => exact h
  | cons b r ih => exact ih (hf x b h)

/-- A change that gives the lists their lengths anew. -/
theorem State.Sound.of_wf (h : s.Sound κ ν) (hw : s.wf = true → t.wf = true) (hs : t.hif.seen = s.hif.seen) : t.Sound κ ν :=
  ⟨fun hf => hw (h.form hf), fun n hn => hs.trans (h.view n hn)⟩

/-- A change of the parts beside those. -/
theorem State.Sound.beside (h : s.Sound κ ν) {pending : List Instr} {pins : PinSample} {power : Power} {sup : Supply} {ctl : Control} {mon : Mon} {flt : Flt} {mrq : Mrq} {nvm : Nvm} {line : Line} {lock : Lock}
    {drv : Drive} {stk : Stroke} {chg : Charger} {gau : Gauge} {rtc : Nat} {thm : Thm} {ticks freeCtr : Nat} :
    ({ s with pending := pending, pins := pins, power := power, sup := sup, ctl := ctl, mon := mon, flt := flt, mrq := mrq, nvm := nvm, line := line, lock := lock, drv := drv, stk := stk, chg := chg, gau := gau, rtc := rtc,
              thm := thm, ticks := ticks, freeCtr := freeCtr } : State).Sound κ ν := h.of_core rfl

/-- A change of the host interface that leaves the live bits as they were last seen. -/
theorem State.Sound.besideHif (h : s.Sound κ ν) {hif : Hif} (hs : hif.seen = s.hif.seen) : ({ s with hif := hif } : State).Sound κ ν :=
  h.of_lengths id rfl rfl rfl rfl rfl rfl hs

/-- A free value or an open choice moves the model's own counter. -/
theorem State.Sound.drawn (h : s.Sound κ ν) : ({ s with freeCtr := s.freeCtr + 1 } : State).Sound κ ν := h.of_core rfl

theorem State.Sound.wr (h : s.Sound κ ν) {a : Nat} {x : Word} : (s.wr a x).Sound κ ν :=
  h.of_lengths (RegFile.wf_set a x) rfl rfl rfl rfl rfl rfl rfl

/-- Of the register file some words return to their reset words. -/
theorem State.Sound.keep (h : s.Sound κ ν) {f : Nat → Bool} {nvm : Nvm} : ({ s with regs := s.regs.keep f, nvm := nvm } : State).Sound κ ν :=
  h.of_lengths (RegFile.wf_keep f) rfl rfl rfl rfl rfl rfl rfl

/-- Each engine takes a change. -/
theorem State.Sound.mapEng (h : s.Sound κ ν) {f : Engine → Engine} : ({ s with eng := s.eng.map f } : State).Sound κ ν :=
  h.of_lengths id rfl (List.length_map ..) rfl rfl rfl rfl rfl

/-- A timer takes a change. -/
theorem State.Sound.modifyTim (h : s.Sound κ ν) {k : Nat} {f : EngTimer → EngTimer} : ({ s with tim := s.tim.modify k f } : State).Sound κ ν :=
  h.of_lengths id rfl rfl (List.length_modify ..) rfl rfl rfl rfl

theorem State.Sound.setEng (h : s.Sound κ ν) {k : Nat} {f : Engine → Engine} : (s.setEng k f).Sound κ ν :=
  h.of_lengths id rfl (List.length_modify ..) rfl rfl rfl rfl rfl

theorem State.Sound.setDom (h : s.Sound κ ν) {n : Nat} {f : Domain → Domain} : (s.setDom n f).Sound κ ν :=
  h.of_lengths id (List.length_modify ..) rfl rfl rfl rfl rfl rfl

theorem State.Sound.setRtc (h : s.Sound κ ν) {f : RtcX → RtcX} (hf : (f s.rtcx).was.length = s.rtcx.was.length) : (s.setRtc f).Sound κ ν :=
  h.of_lengths id rfl rfl rfl hf rfl rfl rfl

theorem State.Sound.setAdc (h : s.Sound κ ν) {f : Adc → Adc} (hf : (f s.adc).slices.length = s.adc.slices.length) : (s.setAdc f).Sound κ ν :=
  h.of_lengths id rfl rfl rfl rfl hf rfl rfl

theorem State.Sound.setWay (h : s.Sound κ ν) {f : Way → Way} (hf : (f s.way).recs.length = s.way.recs.length) : (s.setWay f).Sound κ ν :=
  h.of_lengths id rfl rfl rfl rfl rfl hf rfl

theorem State.Sound.setHif (h : s.Sound κ ν) {f : Hif → Hif} (hf : (f s.hif).seen = s.hif.seen) : (s.setHif f).Sound κ ν :=
  h.of_lengths id rfl rfl rfl rfl rfl rfl hf

end
end Sys2Proof.Machine
end

section
/-! PROOFS. Each function of the model on the state keeps them (a lemma for each, in the order of the definitions). -/
namespace Sys2Proof.Machine

section
variable {κ : Bool} {ν : Option Nat} {s : State}

theorem State.Sound.setCtl (h : s.Sound κ ν) {f : Control → Control} : (s.setCtl f).Sound κ ν := by
  unfold State.setCtl
  exact h.beside

theorem State.Sound.endStep (h : s.Sound κ ν) : s.endStep.Sound κ ν := by
  unfold State.endStep
  exact h.setCtl

theorem State.Sound.commitPacket (h : s.Sound κ ν) {cls : Nat} {type : Nat} {producer : Nat} {payload : List (BitVec 32)} : (s.commitPacket cls type producer payload).Sound κ ν := by
  unfold State.commitPacket
  exact h.of_core (by rfl)

theorem State.Sound.commitOpened (h : s.Sound κ ν) : s.commitOpened.Sound κ ν := by
  unfold State.commitOpened
  exact h.beside.each (fun _ _ ht => ht.commitPacket)

theorem State.Sound.p (h : s.Sound κ ν) {f : Fld} {v : Nat} : (s.p f v).Sound κ ν := by
  unfold State.p
  exact h.wr

theorem State.Sound.wn (h : s.Sound κ ν) {a : Nat} {v : Nat} : (s.wn a v).Sound κ ν := by
  unfold State.wn
  exact h.wr

theorem State.Sound.inc (h : s.Sound κ ν) {a : Nat} : (s.inc a).Sound κ ν := by
  unfold State.inc
  exact .ite h.wn h

theorem State.Sound.raiseBy (h : s.Sound κ ν) {o : Origin} {n : Nat} : (s.raiseBy o n).Sound κ ν := by
  unfold State.raiseBy
  exact h.beside

theorem State.Sound.raise (h : s.Sound κ ν) {n : Nat} : (s.raise n).Sound κ ν := by
  unfold State.raise
  exact h.raiseBy

theorem State.Sound.queueReset (h : s.Sound κ ν) : s.queueReset.Sound κ ν := by
  unfold State.queueReset
  exact (((((h.when (fun _ ht => ht.p)).inc).p).beside).commitPacket).raise

theorem State.Sound.checkPtrs (h : s.Sound κ ν) {cls : Nat} : (s.checkPtrs cls).Sound κ ν := by
  unfold State.checkPtrs
  exact .ite h h.queueReset

theorem State.Sound.addOpen (h : s.Sound κ ν) {o : OpenPkt} : (s.addOpen o).Sound κ ν := by
  unfold State.addOpen
  exact h.beside

theorem State.Sound.openClosing (h : s.Sound κ ν) {cls : Nat} {b : PktBody} : (s.openClosing cls b).Sound κ ν := by
  unfold State.openClosing
  exact .ite h.checkPtrs.beside.addOpen h.checkPtrs

theorem State.Sound.dropPacket (h : s.Sound κ ν) {cls : Nat} {b : PktBody} : (s.dropPacket cls b).Sound κ ν := by
  unfold State.dropPacket
  dsimp only
  split
  · split
    · exact h.inc.p.p
    · exact h.inc.p
  · exact State.Sound.raise (by
      split
      · exact h.inc.p.p
      · exact h.inc.p)

theorem State.Sound.openPacket (h : s.Sound κ ν) {b : PktBody} : (s.openPacket b).Sound κ ν := by
  unfold State.openPacket
  split
  · exact h.openClosing
  · exact .ite h.checkPtrs.beside.addOpen h.checkPtrs.dropPacket

theorem State.Sound.openPosted (h : s.Sound κ ν) : s.openPosted.Sound κ ν := by
  unfold State.openPosted
  exact (h.beside.each (fun _ _ ht => ht.checkPtrs)).each (fun _ _ ht => ht.openPacket)

theorem State.Sound.commitPosted (h : s.Sound κ ν) : s.commitPosted.Sound κ ν := by
  unfold State.commitPosted
  exact h.openPosted.commitOpened

theorem State.Sound.commitAll (h : s.Sound κ ν) : s.commitAll.Sound κ ν := by
  unfold State.commitAll
  exact .ite h (.ite h.commitPosted h.beside)

theorem State.Sound.setFlt (h : s.Sound κ ν) {f : Flt → Flt} : (s.setFlt f).Sound κ ν := by
  unfold State.setFlt
  exact h.beside

theorem State.Sound.countNoStart (h : s.Sound κ ν) {r : Raise} : (s.countNoStart r).Sound κ ν := by
  unfold State.countNoStart
  exact h.when (fun _ ht => ht.inc)

theorem State.Sound.pb (h : s.Sound κ ν) {f : Fld} {v : Bool} : (s.pb f v).Sound κ ν := by
  unfold State.pb
  exact h.p

theorem State.Sound.pbit (h : s.Sound κ ν) {a : Nat} {k : Nat} {v : Bool} : (s.pbit a k v).Sound κ ν := by
  unfold State.pbit
  exact h.pb

theorem State.Sound.setSticky (h : s.Sound κ ν) {n : Nat} : (s.setSticky n).Sound κ ν := by
  unfold State.setSticky
  exact h.pbit

theorem State.Sound.post (h : s.Sound κ ν) {b : PktBody} : (s.post b).Sound κ ν := by
  unfold State.post
  exact h.beside

theorem State.Sound.setNvm (h : s.Sound κ ν) {f : Nvm → Nvm} : (s.setNvm f).Sound κ ν := by
  unfold State.setNvm
  exact h.beside

theorem State.Sound.nvmRequest (h : s.Sound κ ν) {u : NvmUse} : (s.nvmRequest u).Sound κ ν := by
  unfold State.nvmRequest
  exact h.setNvm

theorem State.Sound.queueRecord (h : s.Sound κ ν) {kind : FailKind} {i : Incident} : (s.queueRecord kind i).Sound κ ν := by
  unfold State.queueRecord
  exact .ite h h.setNvm.nvmRequest

theorem State.Sound.takeRaise {x : State × List Taken} (h : x.1.Sound κ ν) {r : Raise} : (State.takeRaise x r).1.Sound κ ν := by
  have hc : (x.1.countNoStart r).Sound κ ν := h.countNoStart
  unfold State.takeRaise
  refine .ite_fst ?_ ?_
  · have hp := fun c => (hc.setSticky (n := r.source)).inc (a := A.FLT_CNT r.source) |>.when (c := c) (f := (·.p F.FLT_TEST_DRYHIT 1)) fun _ ht => ht.p
    exact .ite (State.Sound.ite (((hp _).besideHif (by rfl)).post) (hp _)).queueRecord (.ite (((hp _).besideHif (by rfl)).post) (hp _))
  · exact hc

theorem State.Sound.takeRaises (h : s.Sound κ ν) {rs : List Raise} : (s.takeRaises rs).1.Sound κ ν :=
  State.Sound.foldl_fst h fun _ _ ht => ht.takeRaise

theorem State.Sound.collect (h : s.Sound κ ν) : s.collect.1.Sound κ ν := by
  unfold State.collect
  refine .ite_fst h (.ite_fst ?_ (.ite_fst ?_ ?_))
  · dsimp only
    exact h.setFlt
  · dsimp only
    exact h.setFlt
  · exact State.Sound.takeRaises h.setFlt

theorem State.Sound.gather (h : s.Sound κ ν) {follow : State → State} (hfollow : ∀ t : State, t.Sound κ ν → (follow t).Sound κ ν) {fuel : Nat} {l : List Taken} :
    (s.gather follow fuel l).1.Sound κ ν := by
  induction fuel generalizing s l with
  | zero => exact h
  | succ n ih =>
    have hs := (hfollow _ h.collect).when (c := (follow s.collect.1).aoOn && (follow s.collect.1).power ≠ .boot) fun _ ht => ht.openPosted
    exact .ite_fst hs (ih hs)

theorem State.Sound.fieldFollow (h : s.Sound κ ν) {vdrvMv : Nat} : (s.fieldFollow vdrvMv).Sound κ ν := by
  unfold State.fieldFollow
  exact .ite h.p h.p

theorem State.Sound.supplyFollow (h : s.Sound κ ν) : s.supplyFollow.Sound κ ν := by
  unfold State.supplyFollow
  exact .ite (.ite h.setCtl (.ite h.setCtl (.ite h.setCtl h))) h

theorem State.Sound.setGau (h : s.Sound κ ν) {f : Gauge → Gauge} : (s.setGau f).Sound κ ν := by
  unfold State.setGau
  exact h.beside

theorem State.Sound.restFollow (h : s.Sound κ ν) : s.restFollow.Sound κ ν := by
  unfold State.restFollow
  exact (h.when (fun _ ht => ht.p)).setGau

theorem State.Sound.choice (h : s.Sound κ ν) : s.choice.2.Sound κ ν := by
  unfold State.choice
  exact h.beside

theorem State.Sound.roundOpen (h : s.Sound κ ν) {x : Rat} : (s.roundOpen x).2.Sound κ ν := by
  unfold State.roundOpen
  refine .ite_snd ?_ ?_
  · exact h
  · exact h.drawn

theorem State.Sound.setChgR (h : s.Sound κ ν) {f : Charger → Charger} : (s.setChgR f).Sound κ ν := by
  unfold State.setChgR
  exact h.beside

theorem State.Sound.precFollow (h : s.Sound κ ν) : s.precFollow.Sound κ ν := by
  unfold State.precFollow
  exact .ite h h.roundOpen.pb.pb.p.setChgR

theorem State.Sound.setChg (h : s.Sound κ ν) : s.setChg.Sound κ ν := by
  unfold State.setChg
  exact h.of_core (by rfl)

theorem State.Sound.gaugeEvent (h : s.Sound κ ν) {ev : Nat} {detail : Nat} {cls : Nat} : (s.gaugeEvent ev detail cls).Sound κ ν := by
  unfold State.gaugeEvent
  exact h.setChg.post

theorem State.Sound.judgeReserve (h : s.Sound κ ν) : s.judgeReserve.Sound κ ν := by
  unfold State.judgeReserve
  exact .ite h.pb (h.pb.setGau.gaugeEvent.when (fun _ ht => ht.raise))

theorem State.Sound.reserveLost (h : s.Sound κ ν) : s.reserveLost.Sound κ ν := by
  unfold State.reserveLost
  exact .ite h h.p.judgeReserve

theorem State.Sound.startCycle (h : s.Sound κ ν) : s.startCycle.Sound κ ν := by
  unfold State.startCycle
  exact h.setChgR.inc

theorem State.Sound.chgShareOff (h : s.Sound κ ν) : s.chgShareOff.Sound κ ν := by
  unfold State.chgShareOff
  exact h.p.p.p.wn.setChgR

theorem State.Sound.chgTimer (h : s.Sound κ ν) : s.chgTimer.Sound κ ν := by
  unfold State.chgTimer
  exact h.wn

theorem State.Sound.chargerStopped (h : s.Sound κ ν) : s.chargerStopped.Sound κ ν := by
  unfold State.chargerStopped
  exact .ite h.setGau h

theorem State.Sound.stageFollow (h : s.Sound κ ν) : s.stageFollow.Sound κ ν := by
  unfold State.stageFollow
  exact (h.when (fun _ ht => ht.chargerStopped)).setChgR

theorem State.Sound.judgeCharger (h : s.Sound κ ν) : s.judgeCharger.Sound κ ν := by
  unfold State.judgeCharger
  refine .ite ?_ ?_
  · exact ((((((((((h.when (fun _ ht => ht.p)).when (fun _ ht => ht.setChgR)).when (fun _ ht => ht.startCycle)).when (fun _ ht => ht.setChgR)).p).p).pb).pb).when (fun _ ht => ht.chgShareOff)).stageFollow).chgTimer
  · exact ((((((((((((h.when (fun _ ht => ht.p)).when (fun _ ht => ht.setChgR)).when (fun _ ht => ht.startCycle)).when (fun _ ht => ht.setChgR)).p).p).pb).pb).when (fun _ ht => ht.chgShareOff)).stageFollow).chgTimer).setChg).post

theorem State.Sound.setStk (h : s.Sound κ ν) {f : Stroke → Stroke} : (s.setStk f).Sound κ ν := by
  unfold State.setStk
  exact h.beside

theorem State.Sound.setDrv (h : s.Sound κ ν) {f : Drive → Drive} : (s.setDrv f).Sound κ ν := by
  unfold State.setDrv
  exact h.beside

theorem State.Sound.retarget (h : s.Sound κ ν) {fast : Bool} : (s.retarget fast).Sound κ ν := by
  unfold State.retarget
  exact .ite h (.ite h.p.p (.ite h.p.p.p.setDom.setDrv h.p.p.setDrv))

theorem State.Sound.recPut (h : s.Sound κ ν) {delta : Nat} {tag : Nat} {value : Nat} : (s.recPut delta tag value).Sound κ ν := by
  unfold State.recPut
  exact .ite (.ite h.wn.wn.p.p.p h.wn.wn.p) h

theorem State.Sound.recAdd (h : s.Sound κ ν) {tag : Nat} {value : Nat} {late : Nat} : (s.recAdd tag value late).Sound κ ν := by
  unfold State.recAdd
  exact ((h.foldl (fun _ _ ht => ht.recPut)).recPut).setStk

theorem State.Sound.marker (h : s.Sound κ ν) {code : Nat} : (s.marker code).Sound κ ν := by
  unfold State.marker
  exact h.recAdd

theorem State.Sound.weirOff (h : s.Sound κ ν) : s.weirOff.Sound κ ν := by
  unfold State.weirOff
  exact h.p.p

theorem State.Sound.handOff (h : s.Sound κ ν) : s.handOff.Sound κ ν := by
  unfold State.handOff
  exact .ite h (.ite h.weirOff.setDrv h)

theorem State.Sound.free (h : s.Sound κ ν) {n : Nat} : (s.free n).2.Sound κ ν := by
  unfold State.free
  exact h.beside

theorem State.Sound.burst (h : s.Sound κ ν) {bit : Nat} : (s.burst bit).Sound κ ν := by
  unfold State.burst
  exact .ite (((State.Sound.ite_snd h h.drawn).marker).setStk) h

theorem State.Sound.endBattPhase (h : s.Sound κ ν) {cause : Option Nat} : (s.endBattPhase cause).Sound κ ν := by
  unfold State.endBattPhase
  refine .ite ?_ ?_
  · exact ((State.Sound.marker (by
      split
      · exact h.p.setStk.inc.p.p.setStk.retarget.when (fun _ ht => ht.raise)
      · exact h.p.setStk.p.setStk.retarget.marker)).burst).handOff
  · exact h

theorem State.Sound.phaseGuard (h : s.Sound κ ν) : s.phaseGuard.Sound κ ν := by
  unfold State.phaseGuard
  exact .ite (.ite h.endBattPhase (.ite h.endBattPhase h)) h

theorem State.Sound.drvWait (h : s.Sound κ ν) {mode : Nat} : (s.drvWait mode).Sound κ ν := by
  unfold State.drvWait
  exact h.p.setDom

theorem State.Sound.drvWeirChange (h : s.Sound κ ν) : s.drvWeirChange.Sound κ ν := by
  unfold State.drvWeirChange
  exact .ite h.drvWait h

theorem State.Sound.setLine (h : s.Sound κ ν) {f : Line → Line} : (s.setLine f).Sound κ ν := by
  unfold State.setLine
  exact h.beside

theorem State.Sound.trig (h : s.Sound κ ν) {k : Nat} {t : Nat} : (s.trig k t).Sound κ ν := by
  unfold State.trig
  exact h.setEng

theorem State.Sound.dropRank (h : s.Sound κ ν) {n : Nat} : (s.dropRank n).Sound κ ν := by
  unfold State.dropRank
  exact .ite h.p (h.p.each (fun _ _ ht => State.Sound.ite ht.p ht))

theorem State.Sound.pgFall (h : s.Sound κ ν) {n : Nat} : (s.pgFall n).Sound κ ν := by
  unfold State.pgFall
  exact h.p.setDom

theorem State.Sound.drvStop (h : s.Sound κ ν) {disch : Bool} : (s.drvStop disch).Sound κ ν := by
  unfold State.drvStop
  exact h.setDom.p.p.p.p.wn.p.setDrv

theorem State.Sound.rewindStroke (h : s.Sound κ ν) : s.rewindStroke.Sound κ ν := by
  unfold State.rewindStroke
  split
  · exact h
  · dsimp only
    split
    · exact h.checkPtrs
    · exact h.checkPtrs.beside

theorem State.Sound.burstStop (h : s.Sound κ ν) : s.burstStop.Sound κ ν :=
  h.of_lengths id rfl rfl rfl rfl (List.length_map ..) rfl rfl

theorem State.Sound.handBack (h : s.Sound κ ν) : s.handBack.Sound κ ν := by
  unfold State.handBack
  exact .ite h.setLine.weirOff.p h.setLine

theorem State.Sound.goWatch (h : s.Sound κ ν) : s.goWatch.Sound κ ν := by
  unfold State.goWatch
  exact h.beside.trig

theorem State.Sound.strokeIdle (h : s.Sound κ ν) : s.strokeIdle.Sound κ ν := by
  unfold State.strokeIdle
  refine .ite ?_ ?_
  · refine .ite ?_ ?_
    · exact ((h.p.p.p.setStk.when (fun _ ht => ht.handBack)).setStk).goWatch
    · exact (h.p.p.p.setStk.when (fun _ ht => ht.handBack)).setStk
  · exact h.p.p.p.setStk.when (fun _ ht => ht.handBack)

theorem State.Sound.releaseToll (h : s.Sound κ ν) : s.releaseToll.Sound κ ν := by
  unfold State.releaseToll
  exact .ite h.setStk h

theorem State.Sound.endEmergency (h : s.Sound κ ν) : s.endEmergency.Sound κ ν := by
  unfold State.endEmergency
  exact h.p.when (fun _ ht => ht.handOff)

theorem State.Sound.cancelStroke (h : s.Sound κ ν) {aband : Bool} {fast : Bool} : (s.cancelStroke aband fast).Sound κ ν := by
  unfold State.cancelStroke
  exact h.p.pb.burstStop.rewindStroke.setStk.retarget.endEmergency.releaseToll.trig.strokeIdle

theorem State.Sound.abandonStroke (h : s.Sound κ ν) : s.abandonStroke.Sound κ ν := by
  unfold State.abandonStroke
  exact .ite h.endBattPhase.cancelStroke h

theorem State.Sound.blankEdge (h : s.Sound κ ν) {hit : Nat → Nat → Bool} : (s.blankEdge hit).Sound κ ν := by
  unfold State.blankEdge
  exact .ite h h.beside

theorem State.Sound.lockEdge (h : s.Sound κ ν) : s.lockEdge.Sound κ ν := by
  unfold State.lockEdge
  exact h.blankEdge

theorem State.Sound.lockHalt (h : s.Sound κ ν) {phase : Nat} : (s.lockHalt phase).Sound κ ν := by
  unfold State.lockHalt
  exact h.p.when (fun _ ht => ht.lockEdge)

theorem State.Sound.lockDemag (h : s.Sound κ ν) {clamp : Bool} : (s.lockDemag clamp).Sound κ ν := by
  unfold State.lockDemag
  exact h.beside.lockHalt

theorem State.Sound.regStop (h : s.Sound κ ν) {n : Nat} {disch : Bool} : (s.regStop n disch).Sound κ ν := by
  unfold State.regStop
  exact .ite (.ite h.setDom.p.lockDemag h.setDom.p) (h.setDom.p.pb.when (fun _ ht => ht.p))

theorem State.Sound.monRestart (h : s.Sound κ ν) {k : Nat} : (s.monRestart k).Sound κ ν := by
  unfold State.monRestart
  exact h.beside.pbit.pbit

theorem State.Sound.domOff (h : s.Sound κ ν) {n : Nat} {disch : Bool} : (s.domOff n disch).Sound κ ν := by
  unfold State.domOff
  refine .ite ?_ ?_
  · exact (State.Sound.ite h.pgFall.p.dropRank.abandonStroke.drvStop h.pgFall.p.dropRank.regStop).when (fun _ ht => ht.monRestart)
  · exact h

theorem State.Sound.shedOff (h : s.Sound κ ν) : s.shedOff.Sound κ ν := by
  unfold State.shedOff
  exact h.each (fun _ _ ht => ht.domOff.p)

theorem State.Sound.trigger4 (h : s.Sound κ ν) : s.trigger4.Sound κ ν := by
  unfold State.trigger4
  exact h.shedOff.trig

theorem State.Sound.weirStart (h : s.Sound κ ν) : s.weirStart.Sound κ ν := by
  unfold State.weirStart
  exact (State.Sound.ite ((h.setLine.p.pb.when (fun _ ht => ht.inc)).p) (State.Sound.ite (((h.setLine.p.pb.when (fun _ ht => ht.inc)).setLine).trigger4) (h.setLine.p.pb.when (fun _ ht => ht.inc)))).drvWeirChange

theorem State.Sound.weirFollow (h : s.Sound κ ν) : s.weirFollow.Sound κ ν := by
  unfold State.weirFollow
  split
  · exact h.weirOff.setLine
  · exact .ite h h.weirStart
  · exact h.setLine.when (fun _ ht => ht.handBack)

theorem State.Sound.putR (h : s.Sound κ ν) {a : Nat} {x : Rat} : (s.putR a x).Sound κ ν := by
  unfold State.putR
  exact h.roundOpen.wn

theorem State.Sound.updateReserve (h : s.Sound κ ν) : s.updateReserve.Sound κ ν := by
  unfold State.updateReserve
  exact h.putR.putR.p.p.judgeReserve

theorem State.Sound.reserveFollow (h : s.Sound κ ν) : s.reserveFollow.Sound κ ν := by
  unfold State.reserveFollow
  exact .ite (h.setGau.when (fun _ ht => ht.updateReserve)) h

theorem State.Sound.followUp (h : s.Sound κ ν) : s.followUp.Sound κ ν := by
  unfold State.followUp
  exact h.when (fun _ ht => ht.reserveFollow.weirFollow.drvWeirChange.phaseGuard.judgeCharger.reserveLost.precFollow.restFollow.supplyFollow.fieldFollow)

theorem State.Sound.tryWriteBack (h : s.Sound κ ν) : s.tryWriteBack.Sound κ ν := by
  unfold State.tryWriteBack
  exact .ite (.ite h (.ite h.setNvm.nvmRequest h.setNvm)) h.setNvm

theorem State.Sound.setSup (h : s.Sound κ ν) {f : Supply → Supply} : (s.setSup f).Sound κ ν := by
  unfold State.setSup
  exact h.beside

theorem State.Sound.fastFollow (h : s.Sound κ ν) : s.fastFollow.Sound κ ν := by
  unfold State.fastFollow
  exact h.when (fun _ ht => ht.setSup)

theorem State.Sound.snapshot (h : s.Sound κ ν) {event : Nat} : (s.snapshot event).Sound κ ν := by
  unfold State.snapshot
  exact .ite ((h.each (fun _ _ ht => ht.wr)).wn) h

theorem State.Sound.openSluice (h : s.Sound κ ν) {cause : Nat} : (s.openSluice cause).Sound κ ν := by
  unfold State.openSluice
  exact h.setLine

theorem State.Sound.clearShed (h : s.Sound κ ν) : s.clearShed.Sound κ ν := by
  unfold State.clearShed
  exact h.each (fun _ _ ht => ht.p)

theorem State.Sound.setLockout (h : s.Sound κ ν) {n : Nat} {v : Bool} : (s.setLockout n v).Sound κ ν := by
  unfold State.setLockout
  exact .ite h.pb h.pb

theorem State.Sound.lockoutsFresh (h : s.Sound κ ν) {v : Bool} : (s.lockoutsFresh v).Sound κ ν := by
  unfold State.lockoutsFresh
  exact h.each (fun _ _ ht => ht.setLockout)

theorem State.Sound.adcStop (h : s.Sound κ ν) : s.adcStop.Sound κ ν := by
  have hidle : (s.setAdc fun a => { a with slices := [none, none, none], avgs := [], inj := [], held := [], round := none, conv := [] }).Sound κ ν := by
    refine h.of_wf (fun hf => ?_) rfl
    obtain ⟨hr, hd, he, ht, hw, -, hy⟩ := s.wf_iff.mp hf
    exact (State.wf_iff _).mpr ⟨hr, hd, he, ht, hw, rfl, hy⟩
  exact hidle.p.p.p

theorem State.Sound.stopAlive (h : s.Sound κ ν) {cause : Nat} : (s.stopAlive cause).Sound κ ν := by
  unfold State.stopAlive
  exact h.beside

theorem State.Sound.stopRun (h : s.Sound κ ν) {cause : Nat} : (s.stopRun cause).Sound κ ν := by
  have hoff := h.setStk (f := fun k => { k with heldWatch := false }) |>.abandonStroke |>.mapEng (f := Engine.stop) |>.clearShed |>.openSluice (cause := 6) |>.weirOff
  exact (hoff.each fun _ _ ht => ht.monRestart).lockoutsFresh.adcStop.setGau.p.stopAlive

theorem State.Sound.enterFault (h : s.Sound κ ν) {inc : Incident} {now : List Nat} : (s.enterFault inc now).Sound κ ν := by
  unfold State.enterFault
  exact (((h.snapshot.queueRecord.beside.stopRun.setCtl.each (fun _ _ ht => ht.domOff)).each (fun _ _ ht => ht.domOff)).setCtl).pb

theorem State.Sound.firstLatched (h : s.Sound κ ν) {i : Incident} : (s.firstLatched i).Sound κ ν := by
  unfold State.firstLatched
  exact h.wn

theorem State.Sound.leavePowerDown (h : s.Sound κ ν) {entry : State → State} (hentry : ∀ t : State, t.Sound κ ν → (entry t).Sound κ ν) : (s.leavePowerDown entry).Sound κ ν := by
  unfold State.leavePowerDown
  split
  · exact h.enterFault
  · split
    · exact h.firstLatched.enterFault
    · exact hentry s h

theorem State.Sound.allOff (h : s.Sound κ ν) : s.allOff.Sound κ ν := by
  unfold State.allOff
  exact h.each (fun _ _ ht => ht.domOff)

theorem State.Sound.bktsCapture (h : s.Sound κ ν) : s.bktsCapture.Sound κ ν := by
  unfold State.bktsCapture
  exact .ite h h.wn.wn.wn.wn

theorem State.Sound.beginQualification (h : s.Sound κ ν) : s.beginQualification.Sound κ ν := by
  unfold State.beginQualification
  exact .ite (.ite h.setLine h) h

theorem State.Sound.endLatch (h : s.Sound κ ν) : s.endLatch.Sound κ ν := by
  unfold State.endLatch
  exact .ite h.setLine.beginQualification h

theorem State.Sound.wbBusy (h : s.Sound κ ν) : s.wbBusy.Sound κ ν := by
  unfold State.wbBusy
  exact h.pb

theorem State.Sound.wipe (h : s.Sound κ ν) : s.wipe.Sound κ ν := by
  have hr := (h.keep (nvm := s.nvm) (f := fun a => survivalOf a ≠ .volatile)).wr (a := A.SYS_STRAP) (x := s.rd A.SYS_STRAP) |>.p (f := F.CHG_STAT_STATE) (v := s.g F.CHG_STAT_STATE)
  refine hr.of_wf (fun hf => ?_) rfl
  obtain ⟨hregs, -, -, -, hw, -, -⟩ := (State.wf_iff _).mp hf
  exact (State.wf_iff _).mpr ⟨hregs, rfl, rfl, rfl, hw, rfl, rfl⟩

theorem State.Sound.goDark (h : s.Sound κ ν) {p : Power} : (s.goDark p).Sound κ ν := by
  unfold State.goDark
  exact (((((h.allOff.beside.stopRun.when (fun _ ht => ht.bktsCapture)).commitPosted).wipe).wbBusy).when (fun _ ht => ht.setLine)).endLatch

theorem State.Sound.rtcLose (h : s.Sound κ ν) : s.rtcLose.Sound κ ν := by
  unfold State.rtcLose
  exact ((h.of_core (by rfl)).wn).wn

theorem State.Sound.islandDark (h : s.Sound κ ν) : s.islandDark.Sound κ ν := by
  unfold State.islandDark
  exact h.when (fun _ ht => ht.rtcLose.setSup)

theorem State.Sound.enterShip (h : s.Sound κ ν) : s.enterShip.Sound κ ν := by
  unfold State.enterShip
  exact h.snapshot.goDark.wr.beside.setCtl.setSup.islandDark

theorem State.Sound.enterHibernate (h : s.Sound κ ν) : s.enterHibernate.Sound κ ν := by
  unfold State.enterHibernate
  exact (h.snapshot.when (fun _ ht => ht.p.setCtl)).goDark

theorem State.Sound.enterTarget (h : s.Sound κ ν) : s.enterTarget.Sound κ ν := by
  unfold State.enterTarget
  exact .ite h.enterShip h.enterHibernate

theorem State.Sound.finishEntry (h : s.Sound κ ν) : s.finishEntry.Sound κ ν := by
  unfold State.finishEntry
  exact .ite (h.leavePowerDown (fun _ ht => ht.enterTarget)) h

theorem State.Sound.wantCopyB (h : s.Sound κ ν) : s.wantCopyB.Sound κ ν := by
  unfold State.wantCopyB
  exact .ite h.nvmRequest h

theorem State.Sound.wbWatch (h : s.Sound κ ν) : s.wbWatch.Sound κ ν := by
  unfold State.wbWatch
  split
  · exact h.when (fun _ ht => ht.setNvm)
  · exact h.when (fun _ ht => ht.setNvm)
  · exact h
  · exact h

theorem State.Sound.followOn (h : s.Sound κ ν) : s.followOn.Sound κ ν := by
  unfold State.followOn
  exact h.when (fun _ ht => ((((ht.when (fun _ ht1 => ht1.setNvm.tryWriteBack)).wbWatch).wantCopyB).finishEntry).fastFollow)

theorem State.Sound.beginIncident (h : s.Sound κ ν) {t : Taken} : (s.beginIncident t).Sound κ ν := by
  unfold State.beginIncident
  split
  · exact h
  · exact h.setFlt.wn

theorem State.Sound.react (h : s.Sound κ ν) {l : List Taken} : (s.react l).Sound κ ν := by
  unfold State.react
  split
  · exact h
  · dsimp only
    split
    · exact .ite h.beginIncident.enterFault h.beginIncident.setCtl
    · exact .ite h.beginIncident.enterFault h.beginIncident.setCtl
    · exact .ite h.beginIncident.enterFault h.beginIncident.setCtl
    · exact .ite h.beginIncident.enterFault h.beginIncident.setCtl
    · exact h.beginIncident.enterFault
    · exact h.beginIncident.enterFault
    · exact h
    · exact h
    · exact h
    · exact h
    · exact h

theorem State.Sound.judgePass (h : s.Sound κ ν) : s.judgePass.Sound κ ν := by
  have hg : (s.gather State.followUp 8 []).1.Sound κ ν := h.gather fun _ ht => ht.followUp
  exact (hg.react.when fun _ ht => ht.followUp).followOn

theorem State.Sound.judgeAll (h : s.Sound κ ν) {fuel : Nat} : (s.judgeAll fuel).Sound κ ν := by
  induction fuel generalizing s with
  | zero => exact h
  | succ n ih => exact .ite h.judgePass (ih h.judgePass)

theorem State.Sound.preregStart (h : s.Sound κ ν) {lineDv : Nat} {battMv : Nat} : (s.preregStart lineDv battMv).Sound κ ν := by
  unfold State.preregStart
  exact .ite h.setSup.setSup h.setSup

theorem State.Sound.almArm (h : s.Sound κ ν) {a : Nat} : (s.almArm a).Sound κ ν := by
  unfold State.almArm
  exact h.setRtc (by simp)

theorem State.Sound.findLine (h : s.Sound κ ν) : s.findLine.Sound κ ν := by
  unfold State.findLine
  exact h.setLine

theorem State.Sound.latchStraps (h : s.Sound κ ν) {t : Straps} : (s.latchStraps t).Sound κ ν := by
  unfold State.latchStraps
  exact h.wn

/-- The parts are those of a reset, but for the registers, the alarms and the host interface. -/
theorem State.Sound.of_reset {t : State} (h : s.Sound κ ν) (hr : s.regs.wf = true → t.regs.wf = true) (hd : t.dom = State.reset.dom) (he : t.eng = State.reset.eng) (ht : t.tim = State.reset.tim)
    (hw : t.rtcx.was = s.rtcx.was) (ha : t.adc = State.reset.adc) (hy : t.way = State.reset.way) (hs : ν = none ∨ t.hif.seen = s.hif.seen) : t.Sound κ ν := by
  refine ⟨fun hf => ?_, fun n hn => ?_⟩
  · obtain ⟨hregs, -, -, -, hwas, -, -⟩ := s.wf_iff.mp (h.form hf)
    exact t.wf_iff.mpr ⟨hr hregs, by rw [hd]; rfl, by rw [he]; rfl, by rw [ht]; rfl, by rw [hw]; exact hwas, by rw [ha]; rfl, by rw [hy]; rfl⟩
  · rcases hs with rfl | hs
    · exact nomatch hn
    · exact hs.trans (h.view n hn)

/-- A BOOT that is entered with AO held leaves the live bits as they were last seen; one after a loss of AO starts them anew. -/
theorem State.Sound.boot (h : s.Sound κ ν) {via : BootFrom} {keepK : Bool} (hν : ν = none ∨ via = .wake ∨ via = .reset) : (s.boot via keepK).Sound κ ν := by
  unfold State.boot
  refine .ite ?_ (State.Sound.setLine (State.Sound.endLatch (State.Sound.p ?_)))
  all_goals exact h.of_reset (fun hf => by dsimp only; exact RegFile.wf_keep _ hf) rfl rfl rfl rfl rfl rfl (hν.imp_right fun hvia => by rcases hvia with rfl | rfl <;> rfl)

theorem State.Sound.coldBoot (h : s.Sound κ none) {via : BootFrom} : (s.coldBoot via).Sound κ none := by
  unfold State.coldBoot
  exact State.Sound.setSup (State.Sound.wn (h.setCtl.boot (.inl rfl)))

theorem State.power_of_aoOn {s : State} (h : s.aoOn = true) : s.power ≠ .dead ∧ s.power ≠ .vbkupOnly ∧ s.power ≠ .ship := by
  simpa [State.aoOn, and_assoc] using h

theorem State.aoReady_of_aoOn (h : s.aoOn = true) (t : Straps) (pack : Bool) : s.aoReady t pack = s := by
  obtain ⟨hdead, hvbk, hship⟩ := State.power_of_aoOn h
  simp [State.aoReady, hdead, hvbk, hship]

/-- With AO powered no other AO ready follows. -/
theorem State.Sound.aoReady (h : s.Sound κ ν) (hao : ν = none ∨ s.aoOn = true) {strap : Straps} {pack : Bool} : (s.aoReady strap pack).Sound κ ν := by
  rcases hao with rfl | hao
  · unfold State.aoReady
    refine .ite h.setSup.latchStraps.findLine.beginQualification.almArm.almArm (.ite ?_ h)
    exact (State.Sound.ite h.setSup.coldBoot (h.setSup.p.p.pb.p.boot (.inl rfl))).latchStraps.setCtl.findLine.beginQualification.almArm.almArm
  · rw [State.aoReady_of_aoOn hao]
    exact h

theorem State.Sound.rtcDiscard (h : s.Sound κ ν) : s.rtcDiscard.Sound κ ν := by
  unfold State.rtcDiscard
  exact (h.setRtc (by simp)).p

theorem State.Sound.aoLoss (h : s.Sound κ ν) : s.aoLoss.Sound κ ν := by
  unfold State.aoLoss
  refine State.Sound.islandDark (State.Sound.rtcDiscard (State.Sound.setSup ?_))
  exact State.Sound.keep (State.Sound.wipe (State.Sound.beside (State.Sound.setCtl (h.snapshot.setNvm.beside.when fun _ ht => ht.bktsCapture))))

theorem State.Sound.shipAoLoss (h : s.Sound κ ν) : s.shipAoLoss.Sound κ ν := by
  unfold State.shipAoLoss
  exact h.beside.islandDark

theorem State.Sound.preregStop (h : s.Sound κ ν) {lineDv : Nat} {battMv : Nat} : (s.preregStop lineDv battMv).Sound κ ν := by
  unfold State.preregStop
  exact .ite h.setSup.aoLoss (.ite h.setSup.shipAoLoss h.setSup)

theorem State.Sound.vbkupLevel (h : s.Sound κ ν) {mv : Nat} : (s.vbkupLevel mv).Sound κ ν := by
  unfold State.vbkupLevel
  refine .ite ?_ ?_
  · exact h.setSup.when (fun _ ht => ht.raise)
  · exact .ite ((h.setSup.setSup.when (fun _ ht => ht.islandDark)).beside) (h.setSup.setSup.when (fun _ ht => ht.islandDark))

theorem State.Sound.drvLineLost (h : s.Sound κ ν) : s.drvLineLost.Sound κ ν := by
  unfold State.drvLineLost
  exact .ite h.drvWait.p.p.wn.setDrv h

theorem State.Sound.lineLossSupply (h : s.Sound κ ν) : s.lineLossSupply.Sound κ ν := by
  unfold State.lineLossSupply
  exact .ite (.ite h.setCtl (.ite h.setCtl h)) h

theorem State.Sound.lineLost (h : s.Sound κ ν) {cause : Nat} : (s.lineLost cause).Sound κ ν := by
  unfold State.lineLost
  exact (State.Sound.ite (State.Sound.ite ((((h.openSluice.setLine.inc.post.when (fun _ ht => ht.setStk.marker)).drvLineLost).when (fun _ ht => ht.releaseToll)).trigger4) ((((h.openSluice.setLine.inc.post.when (fun _ ht => ht.setStk.marker)).drvLineLost).when (fun _ ht => ht.releaseToll)).setLine)) (((h.openSluice.setLine.inc.post.when (fun _ ht => ht.setStk.marker)).drvLineLost).when (fun _ ht => ht.releaseToll))).lineLossSupply

theorem State.Sound.lineLostAgain (h : s.Sound κ ν) {cause : Nat} : (s.lineLostAgain cause).Sound κ ν := by
  unfold State.lineLostAgain
  exact h.lineLost.beginQualification

theorem State.Sound.lineOv (h : s.Sound κ ν) {dv : Nat} : (s.lineOv dv).Sound κ ν := by
  unfold State.lineOv
  exact .ite (.ite h.setSup.setLine.inc.raise.lineLostAgain h.setSup.setLine.inc.raise.openSluice) h.setSup

theorem State.Sound.defaultConfig (h : s.Sound κ ν) : s.defaultConfig.Sound κ ν :=
  h.keep.setNvm

theorem State.Sound.mirrorOcv (h : s.Sound κ ν) : s.mirrorOcv.Sound κ ν := by
  unfold State.mirrorOcv
  exact h.each (fun _ _ ht => ht.wn)

theorem State.Sound.w32 (h : s.Sound κ ν) {a : Nat} {v : Nat} : (s.w32 a v).Sound κ ν := by
  unfold State.w32
  exact h.wn.wn

theorem State.Sound.bodyWords (h : s.Sound κ ν) {n : Nat} {body : List Byte} : (s.bodyWords n body).2.Sound κ ν := by
  unfold State.bodyWords
  exact h.beside

theorem State.Sound.wrs (h : s.Sound κ ν) {a : Nat} {ws : List Word} : (s.wrs a ws).Sound κ ν := by
  induction ws generalizing s a with
  | nil => exact h
  | cons x r ih => exact ih h.wr

theorem State.Sound.putWords (h : s.Sound κ ν) {a : Nat} {l : List Nat} : (s.putWords a l).Sound κ ν := by
  unfold State.putWords
  exact h.wrs

theorem State.Sound.sealWindows (h : s.Sound κ ν) {fmt2 : Bool} : (s.sealWindows fmt2).Sound κ ν := by
  unfold State.sealWindows
  exact h.setNvm

theorem State.Sound.followWindow (h : s.Sound κ ν) : s.followWindow.Sound κ ν := by
  unfold State.followWindow
  exact h.setLine.setLine

theorem State.Sound.readStraps (h : s.Sound κ ν) {t : Straps} : (s.readStraps t).Sound κ ν := by
  unfold State.readStraps
  exact h.when (fun _ ht => ht.latchStraps.setCtl)

theorem State.Sound.packDefaults (h : s.Sound κ ν) : s.packDefaults.Sound κ ν := by
  unfold State.packDefaults
  exact h.wn.w32.each (fun _ _ ht => ht.wn)

theorem State.Sound.unpackSlot (h : s.Sound κ ν) {bs : List Byte} : (s.unpackSlot bs).Sound κ ν := by
  unfold State.unpackSlot
  refine .ite (State.Sound.putWords (State.Sound.w32 (State.Sound.wn ?_))) (State.Sound.packDefaults ?_)
  all_goals exact h.wn.wn.putWords.putWords.putWords.putWords.wn.wn.putWords.setGau

theorem State.Sound.learnDefaults (h : s.Sound κ ν) : s.learnDefaults.Sound κ ν := by
  unfold State.learnDefaults
  exact h.wn.wn.putWords.putWords.putWords.putWords.wn.wn.putWords.setGau.packDefaults

theorem State.Sound.resolveLearned (h : s.Sound κ ν) {a : List Byte} {b : List Byte} : (s.resolveLearned a b).Sound κ ν := by
  unfold State.resolveLearned
  exact ((((State.Sound.ite h.unpackSlot (State.Sound.ite h.unpackSlot h.learnDefaults)).w32).wn).setNvm).when (fun _ ht => ht.raise)

theorem State.Sound.takeTick (h : s.Sound κ ν) : s.takeTick.Sound κ ν := by
  unfold State.takeTick
  exact h.wn

theorem State.Sound.startAdmission (h : s.Sound κ ν) : s.startAdmission.Sound κ ν := by
  unfold State.startAdmission
  exact .ite h.setLine h

theorem State.Sound.dirty (h : s.Sound κ ν) : s.dirty.Sound κ ν := by
  unfold State.dirty
  exact h.p.beside

theorem State.Sound.thawGauge (h : s.Sound κ ν) : s.thawGauge.Sound κ ν := by
  unfold State.thawGauge
  exact .ite h.p.gaugeEvent h

theorem State.Sound.freeBytes (h : s.Sound κ ν) {n : Nat} : (s.freeBytes n).2.Sound κ ν := by
  unfold State.freeBytes
  exact State.Sound.foldl_snd h (fun _ _ ht => ht.drawn)

theorem State.Sound.authAttempt (h : s.Sound κ ν) : s.authAttempt.Sound κ ν := by
  have hb : (s.freeBytes 16).2.Sound κ ν := h.freeBytes
  unfold State.authAttempt
  exact State.Sound.setGau (State.Sound.beside hb.p.p)

theorem State.Sound.authStart (h : s.Sound κ ν) : s.authStart.Sound κ ν := by
  unfold State.authStart
  refine .ite ?_ ?_
  · exact h.setGau
  · refine .ite ?_ ?_
    · exact h
    · refine .ite ?_ ?_
      · exact ((State.Sound.ite h.setGau.p h.setGau.p.pbit.pbit.dirty).when (fun _ ht => ht.gaugeEvent)).thawGauge
      · exact ((h.setGau.when (fun _ ht => ht.p)).p).authAttempt

theorem State.Sound.enterPowerUp (h : s.Sound κ ν) : s.enterPowerUp.Sound κ ν := by
  have hon : ({ { s with power := .powerUp } with eng := s.eng.map fun e => { Engine.stop e with mode := .idle } } : State).Sound κ ν := h.beside.mapEng
  exact (hon.setCtl.p.each fun _ _ ht => ht.monRestart).lockoutsFresh.takeTick.trig.startAdmission.when fun _ ht => ht.authStart

theorem State.Sound.endBoot (h : s.Sound κ ν) : s.endBoot.Sound κ ν := by
  unfold State.endBoot
  dsimp only
  split
  · exact ((((((((h.post.when (fun _ ht => ht.wn.setRtc (by simp))).setNvm).setFlt).takeRaises).openPosted).setFlt).takeRaises).beginIncident).enterFault
  · refine .ite ?_ ?_
    · exact (((((((h.post.when (fun _ ht => ht.wn.setRtc (by simp))).setNvm).setFlt).takeRaises).openPosted).setFlt).takeRaises).enterPowerUp
    · exact (((((((h.post.when (fun _ ht => ht.wn.setRtc (by simp))).setNvm).setFlt).takeRaises).openPosted).setFlt).takeRaises).enterHibernate

theorem State.Sound.ffStatus (h : s.Sound κ ν) : s.ffStatus.Sound κ ν := by
  unfold State.ffStatus
  exact h.wn

theorem State.Sound.setRing (h : s.Sound κ ν) {ws : List Nat} : (s.setRing ws).Sound κ ν := by
  unfold State.setRing
  exact h.setNvm.putWords.ffStatus

theorem State.Sound.scanLog (h : s.Sound κ ν) {ring : List Byte} : (s.scanLog ring).Sound κ ν := by
  unfold State.scanLog
  exact h.setRing.setNvm

theorem State.Sound.demandFast (h : s.Sound κ ν) : s.demandFast.Sound κ ν := by
  unfold State.demandFast
  exact h.when (fun _ ht => ht.setSup)

theorem State.Sound.takeAll (h : s.Sound κ ν) : s.takeAll.Sound κ ν := by
  unfold State.takeAll
  exact h.setFlt.takeRaises

theorem State.Sound.takeReset (h : s.Sound κ ν) {k : ResetKind} : (s.takeReset k).Sound κ ν := by
  unfold State.takeReset
  exact .ite ((((h.when fun _ ht => ht.takeAll).snapshot.p.p.pb.p.setNvm.setCtl.allOff).boot (.inr (.inr rfl))).setCtl) h

theorem State.Sound.writeSysReset (h : s.Sound κ ν) {w : Word} : (s.writeSysReset w).Sound κ ν := by
  unfold State.writeSysReset
  exact .ite h.takeReset h

theorem State.Sound.beginPowerDown (h : s.Sound κ ν) {src : Nat} : (s.beginPowerDown src).Sound κ ν := by
  unfold State.beginPowerDown
  exact h.setStk.abandonStroke.beside.p.setEng.trig.setCtl.when (fun _ ht => ht.setWay (by simp))

theorem State.Sound.shipKey (h : s.Sound κ ν) : s.shipKey.Sound κ ν := by
  unfold State.shipKey
  refine .ite ?_ ?_
  · exact h
  · split
    · exact h.beginPowerDown
    · exact h.beginPowerDown
    · exact h.enterShip
    · exact h
    · exact h
    · exact h
    · exact h
    · exact h
    · exact h
    · exact h
    · exact h

theorem State.Sound.writeSysShip (h : s.Sound κ ν) {w : Word} : (s.writeSysShip w).Sound κ ν := by
  unfold State.writeSysShip
  exact .ite h.shipKey h

theorem State.Sound.pbRelease (h : s.Sound κ ν) {ms : Nat} : (s.pbRelease ms).Sound κ ν := by
  unfold State.pbRelease
  exact .ite ((h.setCtl.of_core (by rfl)).post) h.setCtl

theorem State.Sound.wake (h : s.Sound κ ν) {code : Nat} : (s.wake code).Sound κ ν := by
  unfold State.wake
  exact h.p.p.setCtl.boot (.inr (.inl rfl))

theorem State.Sound.wakeSource (h : s.Sound κ ν) {code : Nat} : (s.wakeSource code).Sound κ ν := by
  unfold State.wakeSource
  split
  · exact .ite h.wake h
  · exact .ite (.ite h.p.p h.p) h
  · exact .ite h.setCtl h
  · exact .ite h.setCtl h
  · exact .ite h.setCtl h
  · exact .ite h.setCtl h
  · exact .ite h.setCtl h
  · exact h
  · exact h
  · exact h
  · exact h

theorem State.Sound.offRequest (h : s.Sound κ ν) {src : Nat} : (s.offRequest src).Sound κ ν := by
  unfold State.offRequest
  split
  · exact h.p.beginPowerDown
  · exact h.beginPowerDown
  · exact h.beginPowerDown
  · exact h.setCtl
  · exact h
  · exact h
  · exact h
  · exact h
  · exact h
  · exact h
  · exact h

theorem State.Sound.holdEnds (h : s.Sound κ ν) {h : HoldFor} : (s.holdEnds h).Sound κ ν := by
  unfold State.holdEnds
  split <;> exact .ite h.setCtl.offRequest h

theorem State.Sound.holdWay (h : s.Sound κ ν) : s.holdWay.Sound κ ν := by
  unfold State.holdWay
  exact h.when (fun _ ht => ht.wn.wn.wn.wn)

theorem State.Sound.enterThermalOff (h : s.Sound κ ν) {source : Nat} : (s.enterThermalOff source).Sound κ ν := by
  unfold State.enterThermalOff
  refine .ite ?_ ?_
  · exact h.snapshot.queueRecord.holdWay.allOff.beside.beside.stopRun.setCtl
  · exact h.snapshot.queueRecord.holdWay.allOff.beside.beside.stopRun.setCtl.setFlt.setCtl

theorem State.Sound.thermalShutdown (h : s.Sound κ ν) {k : Nat} : (s.thermalShutdown k).Sound κ ν := by
  have hp := h.when (c := s.aoFed) fun _ ht => ht.pbit (a := A.THM_SDSTAT) (k := k) (v := true) |>.pbit (a := A.THM_SDSTAT) (k := 8 + k) (v := true)
  unfold State.thermalShutdown
  dsimp only
  split
  · exact hp
  · exact hp
  · exact hp
  · exact hp.allOff.setCtl.p.raise
  · exact hp.raise
  · have hg := (hp.inc (a := A.THM_CNTSD)).raise (n := 64 + k) |>.gather (follow := id) (fuel := 8) (l := []) fun _ ht => ht
    refine .ite (.ite hp.inc.setFlt.takeRaises.enterFault hp.inc.setFlt.enterThermalOff) ?_
    split
    · exact hg.beginIncident.allOff.enterFault
    · exact .ite hg.allOff.enterFault hg.enterThermalOff

theorem State.Sound.shutdownRelease (h : s.Sound κ ν) {k : Nat} : (s.shutdownRelease k).Sound κ ν := by
  unfold State.shutdownRelease
  exact h.pbit

theorem State.Sound.answer (h : s.Sound κ ν) {r : Reply} {out : List Byte} : (s.answer r out).Sound κ ν := by
  unfold State.answer
  exact h.setHif (by simp)

theorem State.Sound.reject (h : s.Sound κ ν) {code : Nat} : (s.reject code).Sound κ ν := by
  unfold State.reject
  exact .ite ((h.p.p.setHif (by simp)).raise) (h.p.p.setHif (by simp))

theorem State.Sound.readHifErr (h : s.Sound κ ν) : s.readHifErr.2.Sound κ ν := by
  unfold State.readHifErr
  exact h.p

theorem State.Sound.accWords (h : s.Sound κ ν) : s.accWords.2.Sound κ ν := by
  unfold State.accWords
  exact h.roundOpen

theorem State.Sound.latchAcc (h : s.Sound κ ν) : s.latchAcc.Sound κ ν := by
  unfold State.latchAcc
  exact h.accWords.wn.wn.wn

theorem State.Sound.readAcc (h : s.Sound κ ν) : s.readAcc.2.Sound κ ν := by
  unfold State.readAcc
  exact h.latchAcc

theorem State.Sound.setShadow (h : s.Sound κ ν) {p : Port} {v : Option Nat} : (s.setShadow p v).Sound κ ν := by
  unfold State.setShadow
  split <;> exact h.setRtc (by simp)

theorem State.Sound.rtcRead (h : s.Sound κ ν) {p : Port} {k : Nat} : (s.rtcRead p k).2.Sound κ ν := by
  unfold State.rtcRead
  split
  · exact h.setShadow
  · exact h.setShadow
  · exact h

theorem State.Sound.readRtc (h : s.Sound κ ν) {m : ReadMode} {k : Nat} : (s.readRtc m k).2.Sound κ ν := by
  unfold State.readRtc
  split
  · exact h.rtcRead
  · exact h.rtcRead
  · exact h

theorem State.Sound.setAdcShadow (h : s.Sound κ ν) {p : Port} {v : Option (Nat × Word)} : (s.setAdcShadow p v).Sound κ ν := by
  unfold State.setAdcShadow
  split <;> exact h.setAdc (by simp)

theorem State.Sound.resHiRead (h : s.Sound κ ν) {p : Port} {c : Nat} : (s.resHiRead p c).2.Sound κ ν := by
  unfold State.resHiRead
  split
  · refine .ite_snd ?_ ?_
    · exact h.setAdcShadow
    · exact h
  · exact h

theorem State.Sound.resLoRead (h : s.Sound κ ν) {p : Port} {c : Nat} : (s.resLoRead p c).2.Sound κ ν := by
  unfold State.resLoRead
  exact h.setAdcShadow

theorem State.Sound.readRes (h : s.Sound κ ν) {m : ReadMode} {c : Nat} {hi : Bool} : (s.readRes m c hi).2.Sound κ ν := by
  unfold State.readRes
  split
  · refine .ite_snd ?_ ?_
    · exact h.resHiRead
    · exact h.resLoRead
  · refine .ite_snd ?_ ?_
    · exact h.resHiRead
    · exact h.resLoRead
  · exact h

theorem State.Sound.readWord (h : s.Sound κ ν) {m : ReadMode} {a : Nat} : (s.readWord m a).2.Sound κ ν := by
  unfold State.readWord
  refine .ite_snd ?_ ?_
  · exact h
  · refine .ite_snd ?_ ?_
    · exact h.drawn
    · refine .ite_snd ?_ ?_
      · exact h.readHifErr
      · refine .ite_snd ?_ ?_
        · exact h.readAcc
        · refine .ite_snd ?_ ?_
          · exact h.readRtc
          · refine .ite_snd ?_ ?_
            · exact h.readRes
            · exact h

theorem State.Sound.readWords (h : s.Sound κ ν) {m : ReadMode} {a : Nat} {n : Nat} : (s.readWords m a n).2.Sound κ ν := by
  induction n generalizing s a with
  | zero => exact h
  | succ k ih => exact ih h.readWord

theorem State.Sound.popHead (h : s.Sound κ ν) : s.popHead.Sound κ ν := by
  unfold State.popHead
  split
  · exact h
  · exact .ite ((h.of_core (by rfl)).beside) ((h.of_core (by rfl)).queueReset)

theorem State.Sound.popReply (h : s.Sound κ ν) {n : Nat} {taken : Nat} : (s.popReply n taken).2.Sound κ ν := by
  unfold State.popReply
  split
  · exact h
  · exact State.Sound.ite h.popHead h

theorem State.Sound.readEffect (h : s.Sound κ ν) {c : Command} {taken : Nat} : (s.readEffect c taken).2.Sound κ ν := by
  unfold State.readEffect
  dsimp only
  split
  · exact h.readWords
  · exact h.readWords
  · exact h.readWords
  · refine .ite_snd ?_ ?_
    · exact h.popReply
    · exact h
  · exact h
  · exact h
  · exact h
  · exact h
  · exact h
  · exact h

theorem State.Sound.accept (h : s.Sound κ ν) : s.accept.Sound κ ν := by
  unfold State.accept
  exact h.setHif (by simp)

theorem State.Sound.acknowledge (h : s.Sound κ ν) : s.acknowledge.Sound κ ν := by
  unfold State.acknowledge
  exact h.of_core (by rfl)

theorem State.Sound.writeHifAck (h : s.Sound κ ν) {w : Word} : (s.writeHifAck w).Sound κ ν := by
  unfold State.writeHifAck
  exact .ite h.acknowledge h

theorem State.Sound.goRun (h : s.Sound κ ν) : s.goRun.Sound κ ν := by
  unfold State.goRun
  exact h.beside.trig

theorem State.Sound.requestState (h : s.Sound κ ν) {t : Target} {host : Bool} : (s.requestState t host).Sound κ ν := by
  unfold State.requestState
  split
  · exact h.setCtl
  · split
    · exact h.setStk
    · exact .ite h.setStk h.goWatch
  · split
    · exact h.goRun
    · exact h
  · exact .ite h.setCtl h
  · exact .ite h.setCtl.wake h
  · exact h
  · exact h
  · exact h
  · exact h
  · exact h
  · exact h

theorem State.Sound.requestOff (h : s.Sound κ ν) : s.requestOff.Sound κ ν := by
  unfold State.requestOff
  exact h.offRequest

theorem State.Sound.writeSysCtrl (h : s.Sound κ ν) {w : Word} : (s.writeSysCtrl w).Sound κ ν := by
  unfold State.writeSysCtrl
  split
  · exact h.requestState
  · exact h.requestState
  · exact h.requestOff
  · exact h

theorem State.Sound.stopWriteBack (h : s.Sound κ ν) : s.stopWriteBack.Sound κ ν := by
  unfold State.stopWriteBack
  exact ((h.when (fun _ ht => ht.p)).setNvm).wbBusy

theorem State.Sound.eraseLearned (h : s.Sound κ ν) : s.eraseLearned.Sound κ ν := by
  unfold State.eraseLearned
  exact ((((h.when (fun _ ht => ht.stopWriteBack)).learnDefaults).dirty).w32).nvmRequest

theorem State.Sound.eraseLog (h : s.Sound κ ν) : s.eraseLog.Sound κ ν := by
  unfold State.eraseLog
  exact h.nvmRequest

theorem State.Sound.wantWriteBack (h : s.Sound κ ν) : s.wantWriteBack.Sound κ ν := by
  unfold State.wantWriteBack
  exact h.beside

theorem State.Sound.writeLdCtrl (h : s.Sound κ ν) {w : Word} : (s.writeLdCtrl w).Sound κ ν := by
  unfold State.writeLdCtrl
  exact .ite h (.ite h.eraseLearned (.ite h.eraseLog (.ite h.wantWriteBack h)))

theorem State.Sound.resetTrims (h : s.Sound κ ν) : s.resetTrims.Sound κ ν := by
  unfold State.resetTrims
  exact h.setDrv.each (fun _ _ ht => ht.wn)

theorem State.Sound.trimFollow (h : s.Sound κ ν) : s.trimFollow.Sound κ ν := by
  unfold State.trimFollow
  exact h.when (fun _ ht => ht.resetTrims)

theorem State.Sound.writePhCtl (h : s.Sound κ ν) {w : Word} : (s.writePhCtl w).Sound κ ν := by
  unfold State.writePhCtl
  exact .ite h.p.wr.setDrv.trimFollow h

theorem State.Sound.zeros (h : s.Sound κ ν) {a : Nat} {n : Nat} : (s.zeros a n).Sound κ ν := by
  unfold State.zeros
  exact h.wrs

theorem State.Sound.writeDrvCntclr (h : s.Sound κ ν) {w : Word} : (s.writeDrvCntclr w).Sound κ ν := by
  unfold State.writeDrvCntclr
  exact .ite h.zeros h

theorem State.Sound.clearLatch (h : s.Sound κ ν) : s.clearLatch.Sound κ ν := by
  unfold State.clearLatch
  exact (h.when (fun _ ht => ht.post)).endLatch

theorem State.Sound.lineCounters (h : s.Sound κ ν) : s.lineCounters.Sound κ ν := by
  unfold State.lineCounters
  exact h.wr.wr.wr.wr

theorem State.Sound.writeLinCtrl (h : s.Sound κ ν) {w : Word} : (s.writeLinCtrl w).Sound κ ν := by
  unfold State.writeLinCtrl
  exact .ite h.clearLatch (.ite h.lineCounters h)

theorem State.Sound.ignoreHint (h : s.Sound κ ν) : s.ignoreHint.Sound κ ν := by
  unfold State.ignoreHint
  exact h.p

theorem State.Sound.recComplete (h : s.Sound κ ν) : s.recComplete.Sound κ ν := by
  unfold State.recComplete
  exact h.p.pb.p.p.burstStop

theorem State.Sound.compareRef (h : s.Sound κ ν) {dir : Nat} {xs : List Rat} {m : Nat} : (s.compareRef dir xs m).2.Sound κ ν := by
  unfold State.compareRef
  exact State.Sound.ite_snd ((State.Sound.ite_snd h.drawn h).drawn) (State.Sound.ite_snd h.drawn h)

theorem State.Sound.wi (h : s.Sound κ ν) {a : Nat} {v : Int} : (s.wi a v).Sound κ ν := by
  unfold State.wi
  exact h.wr

theorem State.Sound.inc32 (h : s.Sound κ ν) {a : Nat} : (s.inc32 a).Sound κ ν := by
  unfold State.inc32
  exact .ite h.w32 h

theorem State.Sound.emergencySummary (h : s.Sound κ ν) {pk : Int} {chg : Int} : (s.emergencySummary pk chg).Sound κ ν := by
  unfold State.emergencySummary
  exact h.setGau

theorem State.Sound.commitStroke (h : s.Sound κ ν) {payload : List (BitVec 32)} : (s.commitStroke payload).Sound κ ν := by
  unfold State.commitStroke
  split
  · exact h
  · exact h.beside.post

theorem State.Sound.learn (h : s.Sound κ ν) {dir : Nat} {xs : List Rat} {den : Nat} : (s.learn dir xs den).Sound κ ν := by
  unfold State.learn
  exact (((h.foldl (fun _ _ ht => ht.roundOpen.wi)).inc).dirty).when (fun _ ht => ht.wantWriteBack)

theorem State.Sound.finishStroke (h : s.Sound κ ν) {superseded : Bool} : (s.finishStroke superseded).Sound κ ν := by
  unfold State.finishStroke
  have h4 := (h.endBattPhase (cause := none)).setGau (f := fun g => { g with resDue := true }) |>.when (c := superseded) (f := (·.marker 9)) (fun _ ht => ht.marker) |>.marker (code := 10) |>.recComplete
  have hpk : ∀ t : State, t.Sound κ ν → ∀ o : Option Int, (match o with | some p => (p, t) | none => let (f, t) := t.free 65536; ((f : Int) - 32768, t)).2.Sound κ ν := by
    intro t ht o
    cases o with
    | none => exact ht.drawn
    | some p => exact ht
  refine State.Sound.when (State.Sound.when (State.Sound.when (State.Sound.when (State.Sound.when (State.Sound.commitStroke ?_) fun _ ht => ht.learn) fun _ ht => ht.learn) fun _ ht => ht.setStk) fun _ ht => ht.inc) fun _ ht => ht.raise
  refine State.Sound.when (State.Sound.when (State.Sound.when ?_ fun _ ht => ht.inc32) fun _ ht => ht.inc.emergencySummary) fun _ ht => ht.p
  exact (hpk _ (State.Sound.ite_snd h4.compareRef h4) _).roundOpen.roundOpen.roundOpen.wn.wn.wn.wn.wn.wn.wi.wn

theorem State.Sound.recOpen (h : s.Sound κ ν) : s.recOpen.Sound κ ν := by
  unfold State.recOpen
  exact ((((((((State.Sound.ite_snd h h.drawn).p).p).p).p).p).wn).burstStop).setStk

theorem State.Sound.judgeGuards (h : s.Sound κ ν) : s.judgeGuards.Sound κ ν := by
  unfold State.judgeGuards
  exact .ite h.setStk.p h

theorem State.Sound.openStroke (h : s.Sound κ ν) : s.openStroke.2.Sound κ ν := by
  unfold State.openStroke
  refine .ite_snd ?_ ?_
  · exact h.checkPtrs.beside
  · exact h.checkPtrs.inc.p.raise

theorem State.Sound.tollFor (h : s.Sound κ ν) {gone : Nat} : (s.tollFor gone).2.Sound κ ν := by
  unfold State.tollFor
  refine .ite_snd ?_ ?_
  · exact h
  · exact State.Sound.ite_snd h.drawn h

theorem State.Sound.requestToll (h : s.Sound κ ν) : s.requestToll.Sound κ ν := by
  unfold State.requestToll
  exact .ite h.tollFor.setStk h

theorem State.Sound.prearm (h : s.Sound κ ν) {emerg : Bool} {dir : Nat} {proving : Bool} : (s.prearm emerg dir proving).Sound κ ν := by
  unfold State.prearm
  exact ((((((h.setStk.p.p.retarget.setDrv.trig.when (fun _ ht => ht.p)).judgeGuards).recOpen).marker).openStroke).when (fun _ ht => ht.p)).requestToll

theorem State.Sound.beginBattPhase (h : s.Sound κ ν) {pre : Option Sample} : (s.beginBattPhase pre).Sound κ ν := by
  unfold State.beginBattPhase
  exact h.p.setStk.retarget.marker.burst

theorem State.Sound.strokeTakes (h : s.Sound κ ν) {x : Sample} {ph : Bool} : (s.strokeTakes x ph).Sound κ ν := by
  unfold State.strokeTakes
  exact h.setStk

theorem State.Sound.startStroke (h : s.Sound κ ν) {ts : Nat} {seed : List Sample} {pre : Option Sample} : (s.startStroke ts seed pre).Sound κ ν := by
  unfold State.startStroke
  dsimp only
  split
  · exact (((h.p.p.setStk.setDrv.judgeGuards.when (fun _ ht => ht.p.setStk.beginBattPhase)).marker).burst).blankEdge
  · exact (((((h.p.p.setStk.setDrv.judgeGuards.when (fun _ ht => ht.p.setStk.beginBattPhase)).marker).burst).blankEdge).strokeTakes).foldl (fun _ _ ht => ht.setStk.strokeTakes)

theorem State.Sound.supersede (h : s.Sound κ ν) {emerg : Bool} {dir : Nat} {proving : Bool} : (s.supersede emerg dir proving).Sound κ ν := by
  unfold State.supersede
  exact (((((((((h.when (fun _ ht => ht.p)).endBattPhase).finishStroke).when (fun _ ht => ht.endEmergency)).releaseToll).trig).p).when (fun _ ht => ht.handBack)).prearm).startStroke

theorem State.Sound.mergeHint (h : s.Sound κ ν) {emerg : Bool} {dir : Nat} {proving : Bool} : (s.mergeHint emerg dir proving).Sound κ ν := by
  unfold State.mergeHint
  exact ((((h.setStk.p.when (fun _ ht => ht.p)).trig).judgeGuards).marker).requestToll

theorem State.Sound.takeHint (h : s.Sound κ ν) {go : Bool} {emerg : Bool} {dir : Nat} {proving : Bool} : (s.takeHint go emerg dir proving).Sound κ ν := by
  unfold State.takeHint
  refine .ite ?_ ?_
  · exact h.ignoreHint
  · refine .ite ?_ ?_
    · exact (State.Sound.ite ((State.Sound.ite h.goRun h).supersede) (State.Sound.ite ((State.Sound.ite h.goRun h).mergeHint) ((State.Sound.ite h.goRun h).prearm))).startStroke
    · refine .ite ?_ ?_
      · exact (State.Sound.ite h.goRun h).supersede
      · exact .ite ((State.Sound.ite h.goRun h).mergeHint) ((State.Sound.ite h.goRun h).prearm)

theorem State.Sound.endStroke (h : s.Sound κ ν) : s.endStroke.Sound κ ν := by
  unfold State.endStroke
  exact h.finishStroke.setStk.retarget.endEmergency.releaseToll.trig.strokeIdle

theorem State.Sound.cmdEnd (h : s.Sound κ ν) : s.cmdEnd.Sound κ ν := by
  unfold State.cmdEnd
  exact .ite h.ignoreHint (.ite h.endStroke (.ite h.cancelStroke h.ignoreHint))

theorem State.Sound.cmdCancel (h : s.Sound κ ν) : s.cmdCancel.Sound κ ν := by
  unfold State.cmdCancel
  exact .ite h.cancelStroke h.ignoreHint

theorem State.Sound.strokeCommand (h : s.Sound κ ν) {w : Word} : (s.strokeCommand w).Sound κ ν := by
  unfold State.strokeCommand
  refine .ite ?_ ?_
  · exact h
  · split
    · exact h.takeHint
    · exact h.takeHint
    · exact h.cmdEnd
    · exact h.cmdCancel
    · exact h

theorem State.Sound.restartRef (h : s.Sound κ ν) {dir : Nat} : (s.restartRef dir).Sound κ ν := by
  unfold State.restartRef
  exact (h.each (fun _ _ ht => ht.wn)).dirty

theorem State.Sound.writeRefCtl (h : s.Sound κ ν) {w : Word} : (s.writeRefCtl w).Sound κ ν := by
  unfold State.writeRefCtl
  exact .ite h.restartRef (.ite h.restartRef (.ite h.restartRef.restartRef h))

theorem State.Sound.writeStkCntclr (h : s.Sound κ ν) {w : Word} : (s.writeStkCntclr w).Sound κ ν := by
  unfold State.writeStkCntclr
  exact .ite h.zeros h

theorem State.Sound.writeChgKey (h : s.Sound κ ν) {w : Word} : (s.writeChgKey w).Sound κ ν := by
  unfold State.writeChgKey
  exact .ite h.setChgR (.ite (.ite h.setChgR h) (.ite h.zeros h))

theorem State.Sound.writeGauCtrl (h : s.Sound κ ν) {w : Word} : (s.writeGauCtrl w).Sound κ ν := by
  unfold State.writeGauCtrl
  exact .ite h (.ite h.authStart (.ite h.p h))

theorem State.Sound.seqLen (h : s.Sound κ ν) : s.seqLen.2.Sound κ ν := by
  unfold State.seqLen
  refine .ite_snd ?_ ?_
  · exact h
  · exact h.drawn

theorem State.Sound.tsRead (h : s.Sound κ ν) {k : Nat} : (s.tsRead k).2.Sound κ ν := by
  unfold State.tsRead
  exact h.roundOpen

theorem State.Sound.setThm (h : s.Sound κ ν) {f : Thm → Thm} : (s.setThm f).Sound κ ν := by
  unfold State.setThm
  exact h.beside

theorem State.Sound.failSensor (h : s.Sound κ ν) {k : Nat} {cause : Nat} : (s.failSensor k cause).Sound κ ν := by
  unfold State.failSensor
  exact h.pbit.pbit.p.setThm.raise

theorem State.Sound.judgeSensor (h : s.Sound κ ν) {k : Nat} : (s.judgeSensor k).Sound κ ν := by
  unfold State.judgeSensor
  refine .ite ?_ ?_
  · exact .ite h.setThm.pbit.wi h.setThm
  · exact .ite h.setThm.failSensor (.ite h.setThm.failSensor (.ite h.setThm.failSensor h.setThm.wi))

theorem State.Sound.substitute (h : s.Sound κ ν) {convd : List Nat} {k : Nat} : (s.substitute convd k).Sound κ ν := by
  unfold State.substitute
  exact h.wi

theorem State.Sound.zoneUpdate (h : s.Sound κ ν) {t : Option Int} {short : Bool} : (s.zoneUpdate t short).Sound κ ν := by
  unfold State.zoneUpdate
  refine .ite ?_ ?_
  · exact h.p.setChgR
  · refine .ite ?_ ?_
    · exact (h.p.when (fun _ ht => ht.p.raise)).setChgR
    · dsimp only
      split
      · exact h.setChgR
      · exact h.setChgR.p.setChgR

theorem State.Sound.judgeNtc (h : s.Sound κ ν) {k : Nat} : (s.judgeNtc k).Sound κ ν := by
  unfold State.judgeNtc
  extract_lets n en put off bad
  have hput : ∀ (t : State) (st : Nat) (x : Int), t.Sound κ ν → (put t st x).Sound κ ν := fun _ _ _ ht => ht.p.wi
  have hbad : ∀ st, (bad s st).Sound κ ν := fun st => .ite (hput s st (-32768) h).zoneUpdate ((hput s st (-32768) h).when fun _ ht => ht.raise).setThm
  refine .ite ((hput s 3 (-32768) h).when fun _ ht => ht.zoneUpdate) ?_
  generalize ntcRead n = reading
  cases reading with
  | open_ => exact hbad 1
  | short => exact hbad 2
  | valid =>
    have hr := h.roundOpen (x := 8 * ntcTemp n s.beta)
    revert hr
    rcases s.roundOpen (8 * ntcTemp n s.beta) with ⟨x, t⟩
    intro hr
    have hvalid := hput t 0 (clamp (-32767) 32767 x) hr
    exact .ite hvalid.wi.zoneUpdate hvalid.setThm

theorem State.Sound.judgeHot (h : s.Sound κ ν) : s.judgeHot.Sound κ ν := by
  unfold State.judgeHot
  dsimp only
  split
  · exact h
  · exact h.wi.p

theorem State.Sound.thermalEvent (h : s.Sound κ ν) {cls : Nat} : (s.thermalEvent cls).Sound κ ν := by
  unfold State.thermalEvent
  exact (h.of_core (by rfl)).post

theorem State.Sound.setBand (h : s.Sound κ ν) {b : Nat} : (s.setBand b).Sound κ ν := by
  unfold State.setBand
  exact .ite h ((h.p.each (fun _ _ ht => ht.trig)).thermalEvent)

theorem State.Sound.judgeBand (h : s.Sound κ ν) {all : Bool} : (s.judgeBand all).Sound κ ν := by
  unfold State.judgeBand
  exact .ite (.ite h.setThm.setBand h) h.setBand

theorem State.Sound.tthr (h : s.Sound κ ν) : s.tthr.2.Sound κ ν := by
  unfold State.tthr
  refine .ite_snd ?_ ?_
  · exact h
  · exact h.drawn

theorem State.Sound.liftThrottle (h : s.Sound κ ν) : s.liftThrottle.Sound κ ν := by
  unfold State.liftThrottle
  exact h.p.p.setThm.thermalEvent

theorem State.Sound.judgeThrottle (h : s.Sound κ ν) : s.judgeThrottle.Sound κ ν := by
  unfold State.judgeThrottle
  refine .ite ?_ ?_
  · exact .ite h.tthr.pb h.tthr.pb.p.p.setThm.pb.raise.thermalEvent
  · exact .ite h.tthr.pb.p.p.pb.thermalEvent (.ite h.tthr.pb.liftThrottle h.tthr.pb)

theorem State.Sound.judgeHeat (h : s.Sound κ ν) {ts : List Nat} {thr : Bool} : (s.judgeHeat ts thr).Sound κ ν := by
  unfold State.judgeHeat
  exact .ite h ((State.Sound.ite h.setThm h.setThm.judgeBand).when (fun _ ht => ht.judgeThrottle))

theorem State.Sound.thermalRound (h : s.Sound κ ν) {chs : List Nat} : (s.thermalRound chs).Sound κ ν := by
  unfold State.thermalRound
  exact (State.Sound.ite ((((h.foldl (fun _ _ ht => ht.tsRead.setThm)).each (fun _ _ ht => ht.judgeSensor)).each (fun _ _ ht => ht.substitute)).each (fun _ _ ht => ht.judgeNtc)) (((((h.foldl (fun _ _ ht => ht.tsRead.setThm)).each (fun _ _ ht => ht.judgeSensor)).each (fun _ _ ht => ht.substitute)).each (fun _ _ ht => ht.judgeNtc)).judgeHot)).judgeHeat

theorem State.Sound.roundEnd (h : s.Sound κ ν) : s.roundEnd.Sound κ ν := by
  unfold State.roundEnd
  exact .ite (((h.setAdc (by simp)).p).thermalRound) h

theorem State.Sound.roundStart (h : s.Sound κ ν) : s.roundStart.Sound κ ν := by
  unfold State.roundStart
  exact .ite h (.ite h.p ((h.seqLen.setAdc (by simp)).roundEnd))

theorem State.Sound.calKey (h : s.Sound κ ν) {full : Bool} : (s.calKey full).Sound κ ν := by
  unfold State.calKey
  exact .ite h (.ite h.p (h.p.setAdc (by simp)))

theorem State.Sound.injFlush (h : s.Sound κ ν) : s.injFlush.Sound κ ν := by
  unfold State.injFlush
  exact h.setAdc (by simp)

theorem State.Sound.writeAdcCmd (h : s.Sound κ ν) {w : Word} : (s.writeAdcCmd w).Sound κ ν := by
  unfold State.writeAdcCmd
  exact .ite h.roundStart (.ite h.calKey (.ite h.calKey (.ite h.injFlush h)))

theorem State.Sound.inject (h : s.Sound κ ν) {ch : Nat} {navg : Nat} {host : Bool} : (s.inject ch navg host).Sound κ ν := by
  unfold State.inject
  exact .ite h (.ite h.p (.ite (h.setAdc (by simp)) (h.setAdc (by simp))))

theorem State.Sound.injWrite (h : s.Sound κ ν) {w : Word} : (s.injWrite w).Sound κ ν := by
  unfold State.injWrite
  exact .ite h.inject h

theorem State.Sound.writeThmCntclr (h : s.Sound κ ν) {w : Word} : (s.writeThmCntclr w).Sound κ ν := by
  unfold State.writeThmCntclr
  exact .ite h.zeros h

theorem State.Sound.rtcCapture (h : s.Sound κ ν) {step : Bool} : (s.rtcCapture step).Sound κ ν := by
  unfold State.rtcCapture
  exact (h.setRtc (by simp)).p

theorem State.Sound.rtcCancel (h : s.Sound κ ν) : s.rtcCancel.Sound κ ν := by
  unfold State.rtcCancel
  exact h.when (fun _ ht => ht.setRtc (by simp))

theorem State.Sound.writeSetGo (h : s.Sound κ ν) {w : Word} : (s.writeSetGo w).Sound κ ν := by
  unfold State.writeSetGo
  exact .ite h.rtcCapture (.ite h.rtcCapture (.ite h.rtcCancel h))

theorem State.Sound.writeFltTest (h : s.Sound κ ν) {w : Word} : (s.writeFltTest w).Sound κ ν := by
  unfold State.writeFltTest
  exact .ite (((State.Sound.ite h.p h).p).p) (.ite h.p h)

theorem State.Sound.writeFltCntclr (h : s.Sound κ ν) {w : Word} : (s.writeFltCntclr w).Sound κ ν := by
  unfold State.writeFltCntclr
  exact .ite h.zeros h

theorem State.Sound.writeForce (h : s.Sound κ ν) {k : Nat} {w : Word} : (s.writeForce k w).Sound κ ν := by
  unfold State.writeForce
  exact .ite (h.each (fun _ _ ht => State.Sound.ite ht.raiseBy ht)) h

theorem State.Sound.flushQueue (h : s.Sound κ ν) : s.flushQueue.Sound κ ν := by
  unfold State.flushQueue
  exact .ite h.beside h.queueReset

theorem State.Sound.writeMrqCtl (h : s.Sound κ ν) {w : Word} : (s.writeMrqCtl w).Sound κ ν := by
  unfold State.writeMrqCtl
  exact .ite h.flushQueue (.ite h.zeros.wr h)

theorem State.Sound.writeWayCntclr (h : s.Sound κ ν) {w : Word} : (s.writeWayCntclr w).Sound κ ν := by
  unfold State.writeWayCntclr
  exact .ite h.zeros h

theorem State.Sound.resetCommand (h : s.Sound κ ν) {w : Word} : (s.resetCommand w).Sound κ ν := by
  unfold State.resetCommand
  exact .ite h (.ite h.p (h.setWay (by simp)))

theorem State.Sound.setFlags (h : s.Sound κ ν) {gr : Nat} {mask : Nat} {v : Bool} : (s.setFlags gr mask v).Sound κ ν := by
  unfold State.setFlags
  exact h.wn

theorem State.Sound.engTrigger (h : s.Sound κ ν) {w : Word} : (s.engTrigger w).Sound κ ν := by
  unfold State.engTrigger
  exact .ite h.trig h

theorem State.Sound.dbgSelect (h : s.Sound κ ν) {w : Word} : (s.dbgSelect w).Sound κ ν := by
  unfold State.dbgSelect
  exact h.p

theorem State.Sound.halt (h : s.Sound κ ν) {k : Nat} : (s.halt k).Sound κ ν := by
  unfold State.halt
  exact h.setEng.setCtl

theorem State.Sound.sample (h : s.Sound κ ν) : s.sample.Sound κ ν := by
  unfold State.sample
  exact h.setCtl

theorem State.Sound.endPowerUp (h : s.Sound κ ν) : s.endPowerUp.Sound κ ν := by
  unfold State.endPowerUp
  exact .ite h.setCtl.setChgR.goWatch h.setCtl.setChgR.beside

theorem State.Sound.entryOrWait (h : s.Sound κ ν) : s.entryOrWait.Sound κ ν := by
  unfold State.entryOrWait
  exact .ite h.setCtl.tryWriteBack h.enterTarget

theorem State.Sound.endPowerDown (h : s.Sound κ ν) : s.endPowerDown.Sound κ ν := by
  have hg : (s.gather id 8 []).1.Sound κ ν := h.gather fun _ ht => ht
  exact .ite (hg.react.leavePowerDown fun _ ht => ht.entryOrWait) hg.react

theorem State.Sound.endProgram (h : s.Sound κ ν) {k : Nat} : (s.endProgram k).Sound κ ν := by
  unfold State.endProgram
  exact .ite (.ite h.setEng.endPowerUp (.ite h.setEng.endPowerDown h.setEng)) h.setEng

theorem State.Sound.startEngine (h : s.Sound κ ν) {k : Nat} : (s.startEngine k).Sound κ ν := by
  unfold State.startEngine
  split
  · exact h
  · exact .ite h.setEng.endProgram h.setEng

theorem State.Sound.advance (h : s.Sound κ ν) {k : Nat} {n : Nat} : (s.advance k n).Sound κ ν := by
  unfold State.advance
  exact .ite h.endProgram h.setEng

theorem State.Sound.drvDecide (h : s.Sound κ ν) : s.drvDecide.Sound κ ν := by
  unfold State.drvDecide
  exact .ite h.p.setDom.setDrv.setDrv (.ite h.p.setDom h.p.setDom)

theorem State.Sound.drvStart (h : s.Sound κ ν) : s.drvStart.Sound κ ν := by
  unfold State.drvStart
  exact h.setDom.p.p.setDrv.setDrv.trimFollow.drvDecide

theorem State.Sound.turnOn (h : s.Sound κ ν) {n : Nat} : (s.turnOn n).Sound κ ν := by
  unfold State.turnOn
  exact h.blankEdge

theorem State.Sound.lockStart (h : s.Sound κ ν) : s.lockStart.Sound κ ν := by
  unfold State.lockStart
  exact h.beside.p.turnOn

theorem State.Sound.regStart (h : s.Sound κ ν) {n : Nat} : (s.regStart n).Sound κ ν := by
  unfold State.regStart
  exact .ite (.ite h.setDom.p.beside h.setDom.p.beside.lockStart.setDom) (.ite h.setDom.p.wn h.setDom.p.wn.setDom)

theorem State.Sound.domStart (h : s.Sound κ ν) {r : Nat} {n : Nat} : (s.domStart r n).Sound κ ν := by
  unfold State.domStart
  exact .ite h.p.p.p.inc32.monRestart.drvStart h.p.p.p.inc32.monRestart.regStart

theorem State.Sound.domsOn (h : s.Sound κ ν) {ns : List Nat} : (s.domsOn ns).Sound κ ν := by
  unfold State.domsOn
  exact h.each (fun _ _ ht => ht.domStart)

theorem State.Sound.holdResets (h : s.Sound κ ν) {mask : Nat} {low : Bool} : (s.holdResets mask low).Sound κ ν := by
  unfold State.holdResets
  exact h.beside

theorem State.Sound.setMonPower (h : s.Sound κ ν) {mask : Nat} {on : Bool} : (s.setMonPower mask on).Sound κ ν := by
  unfold State.setMonPower
  exact h.wn.each (fun _ _ ht => State.Sound.ite ht ht.monRestart)

theorem State.Sound.setVset (h : s.Sound κ ν) {n : Nat} {code : Nat} : (s.setVset n code).Sound κ ν := by
  unfold State.setVset
  exact .ite (.ite h.p (.ite h.p.p.p.setDom h.p.p)) h.p

theorem State.Sound.setIndex (h : s.Sound κ ν) {i : Nat} {v : Nat} : (s.setIndex i v).Sound κ ν := by
  unfold State.setIndex
  refine .ite ?_ ?_
  · exact h.wn
  · refine .ite ?_ ?_
    · exact h.wn
    · refine .ite ?_ ?_
      · exact h.wn
      · refine .ite ?_ ?_
        · exact h.p.retarget
        · exact .ite h.setVset (.ite h.p (.ite h.p (.ite h.p (.ite h.p (.ite h.inject (.ite h.roundStart h.wn))))))

theorem State.Sound.beginWait (h : s.Sound κ ν) {k : Nat} {w : Waiting} : (s.beginWait k w).Sound κ ν := by
  unfold State.beginWait
  exact h.setEng

theorem State.Sound.doWait (h : s.Sound κ ν) {k : Nat} {count : Nat} : (s.doWait k count).Sound κ ν := by
  unfold State.doWait
  exact .ite h.advance h.beginWait

theorem State.Sound.doWaitc (h : s.Sound κ ν) {k : Nat} {inv : Bool} {c : Nat} : (s.doWaitc k inv c).Sound κ ν := by
  unfold State.doWaitc
  exact .ite h.advance h.beginWait

theorem State.Sound.startTimer (h : s.Sound κ ν) {t : Nat} {ms : Nat} : (s.startTimer t ms).Sound κ ν :=
  h.modifyTim

theorem State.Sound.doSignal (h : s.Sound κ ν) {k : Nat} {kind : Nat} {op : Nat} : (s.doSignal k kind op).Sound κ ν := by
  unfold State.doSignal
  split
  · exact h.setFlags
  · exact h.setFlags
  · exact h.setCtl
  · exact h.raiseBy
  · exact h.post
  · exact h.startTimer
  · exact .ite h.requestState h

theorem State.Sound.passSync (h : s.Sound κ ν) {k : Nat} {clr : Bool} {f : Nat} : (s.passSync k clr f).Sound κ ν := by
  unfold State.passSync
  exact (h.when (fun _ ht => ht.setFlags)).advance

theorem State.Sound.doSync (h : s.Sound κ ν) {k : Nat} {clr : Bool} {f : Nat} : (s.doSync k clr f).Sound κ ν := by
  unfold State.doSync
  exact .ite h.passSync h.beginWait

theorem State.Sound.resume (h : s.Sound κ ν) {k : Nat} : (s.resume k).Sound κ ν := by
  unfold State.resume
  exact .ite h.setEng h

theorem State.Sound.writeDomCntclr (h : s.Sound κ ν) {n : Nat} {w : Word} : (s.writeDomCntclr n w).Sound κ ν := by
  unfold State.writeDomCntclr
  exact .ite h.zeros h

theorem State.Sound.setLink (h : s.Sound κ ν) : s.setLink.Sound κ ν := by
  unfold State.setLink
  exact h.of_core (by rfl)

theorem State.Sound.linkFollow (h : s.Sound κ ν) (_hbefore : before.Sound κ ν) : (s.linkFollow before).Sound κ ν := by
  unfold State.linkFollow
  exact .ite h h.setLink.post

theorem State.Sound.winRestart (h : s.Sound κ ν) {k : Nat} : (s.winRestart k).Sound κ ν := by
  unfold State.winRestart
  exact (h.setAdc (by simp)).pbit

theorem State.Sound.afterStore (h : s.Sound κ ν) {a : Nat} {old : Word} : (s.afterStore a old).Sound κ ν := by
  unfold State.afterStore
  refine .ite ?_ ?_
  · exact h.retarget
  · refine .ite ?_ ?_
    · exact h.trimFollow
    · refine .ite ?_ ?_
      · exact h.wr.setMonPower.setMonPower
      · refine .ite ?_ ?_
        · exact h.linkFollow h.wr
        · refine .ite ?_ ?_
          · exact h.each (fun _ _ ht => State.Sound.ite ht.almArm ht)
          · refine .ite ?_ ?_
            · exact h.almArm
            · refine .ite ?_ ?_
              · exact h.almArm
              · split
                · exact h.winRestart
                · split
                  · exact h.setVset
                  · exact h

theorem State.Sound.relayEnd (h : s.Sound κ ν) {result : Nat} : (s.relayEnd result).Sound κ ν := by
  unfold State.relayEnd
  exact (((h.setWay (by simp)).p).p).setLink

theorem State.Sound.relayStart (h : s.Sound κ ν) {worker : Nat} {addr : Nat} {cnt : Nat} : (s.relayStart worker addr cnt).Sound κ ν := by
  unfold State.relayStart
  refine .ite ?_ ?_
  · exact (h.p.p.p.wn.zeros.setWay (by simp)).relayEnd
  · exact .ite ((h.p.p.p.wn.zeros.setWay (by simp)).relayEnd) (h.p.p.p.wn.zeros.setWay (by simp))

theorem State.Sound.poll (h : s.Sound κ ν) {target : Nat} {taken : Nat} : (s.poll target taken).Sound κ ν := by
  unfold State.poll
  exact .ite h.demandFast.accept.answer h

theorem State.Sound.busTimeout (h : s.Sound κ ν) : s.busTimeout.Sound κ ν := by
  unfold State.busTimeout
  exact .ite h.demandFast.reject.answer h

theorem State.Sound.readOne (h : s.Sound κ ν) {a : Nat} : (s.readOne a).Sound κ ν := by
  unfold State.readOne
  exact .ite h.demandFast.readWord.accept.answer h

theorem State.Sound.endWriteBack (h : s.Sound κ ν) {retry : Bool} : (s.endWriteBack retry).Sound κ ν := by
  unfold State.endWriteBack
  exact h.pb.setNvm

theorem State.Sound.nvmFree (h : s.Sound κ ν) : s.nvmFree.Sound κ ν := by
  unfold State.nvmFree
  exact h.setNvm

theorem State.Sound.verifyDone (h : s.Sound κ ν) {bs : List Byte} : (s.verifyDone bs).Sound κ ν := by
  unfold State.verifyDone
  exact .ite (.ite h.p.pb.w32.setNvm.wbBusy h.endWriteBack.wbBusy.raise) (.ite h.nvmFree.wbBusy h)

theorem State.Sound.copyBChunk (h : s.Sound κ ν) {bs : List Byte} : (s.copyBChunk bs).Sound κ ν := by
  unfold State.copyBChunk
  exact .ite (.ite (h.nvmFree.setNvm.p.setNvm.when (fun _ ht => ht.raise)) h.nvmFree.setNvm) h

theorem State.Sound.keepStep (h : s.Sound κ ν) {k : Nat} : (s.keepStep k).Sound κ ν := by
  unfold State.keepStep
  exact h.setCtl

theorem State.Sound.openStep (h : s.Sound κ ν) {k : Nat} : (s.openStep k).Sound κ ν := by
  unfold State.openStep
  exact (h.when (fun _ ht => ht.sample)).setCtl

theorem State.Sound.setPins (h : s.Sound κ ν) {p : PinSample} : (s.setPins p).Sound κ ν := by
  unfold State.setPins
  exact h.beside.when (fun _ ht => ht.setCtl)

theorem State.Sound.engStalled (h : s.Sound κ ν) {k : Nat} : (s.engStalled k).Sound κ ν := by
  unfold State.engStalled
  exact .ite h.stopAlive.raise h

theorem State.Sound.timerDone (h : s.Sound κ ν) {t : Nat} : (s.timerDone t).Sound κ ν := by
  unfold State.timerDone
  exact .ite h.modifyTim h

theorem State.Sound.hkTick (h : s.Sound κ ν) : s.hkTick.Sound κ ν := by
  unfold State.hkTick
  exact .ite (.ite h.p h.trig) h

theorem State.Sound.aliveToggle (h : s.Sound κ ν) : s.aliveToggle.Sound κ ν := by
  unfold State.aliveToggle
  exact .ite h.setCtl h

theorem State.Sound.aliveMiss (h : s.Sound κ ν) : s.aliveMiss.Sound κ ν := by
  unfold State.aliveMiss
  exact .ite h.stopAlive.raise h

theorem State.Sound.gaugeRestart (h : s.Sound κ ν) : s.gaugeRestart.Sound κ ν := by
  unfold State.gaugeRestart
  exact h.setGau.setStk.reserveLost

theorem State.Sound.linkRestart (h : s.Sound κ ν) : s.linkRestart.Sound κ ν := by
  unfold State.linkRestart
  exact (State.Sound.ite (h.p.setWay (by simp)) h).linkFollow h

theorem State.Sound.track (h : s.Sound κ ν) {n : Nat} : (s.track n).Sound κ ν := by
  unfold State.track
  exact .ite h.wn.wn h

theorem State.Sound.softStartEnd (h : s.Sound κ ν) {n : Nat} : (s.softStartEnd n).Sound κ ν := by
  unfold State.softStartEnd
  exact .ite h.setDom.track h

theorem State.Sound.becomeGood (h : s.Sound κ ν) {n : Nat} : (s.becomeGood n).Sound κ ν := by
  unfold State.becomeGood
  exact .ite h.p.setDom h

theorem State.Sound.reportDom (h : s.Sound κ ν) {off : State → Nat → State} (hoff : ∀ (t : State) (a1 : Nat), t.Sound κ ν → (off t a1).Sound κ ν) {n : Nat} {ov : Bool} :
    (s.reportDom off n ov).Sound κ ν := by
  unfold State.reportDom
  have hr : (if ov then ((s.pgFall n).inc (A.DOM_CNT n 1)).setDom n (fun d => { d with ovRep := true }) else ((s.pgFall n).inc (A.DOM_CNT n 0)).setDom n (fun d => { d with uvRep := true })).Sound κ ν :=
    .ite h.pgFall.inc.setDom h.pgFall.inc.setDom
  exact .ite (State.Sound.ite (hoff _ n hr).inc.beside (hoff _ n hr).inc).raise hr.trig.raise

theorem State.Sound.afterJudge (h : s.Sound κ ν) {off : State → Nat → State} (hoff : ∀ (t : State) (a1 : Nat), t.Sound κ ν → (off t a1).Sound κ ν) {k : Nat} : (s.afterJudge off k).Sound κ ν := by
  unfold State.afterJudge
  exact .ite ((h.when (fun _ ht => ht.reportDom hoff)).when (fun _ ht => ht.reportDom hoff)) h

theorem State.Sound.takeStates (h : s.Sound κ ν) {k : Nat} {u : Bool} {o : Bool} : (s.takeStates k u o).Sound κ ν := by
  unfold State.takeStates
  refine .ite ?_ ?_
  · exact ((((h.when (fun _ ht => ht.pbit)).when (fun _ ht => ht.pbit)).pbit).pbit).setDom
  · exact (((h.when (fun _ ht => ht.pbit)).when (fun _ ht => ht.pbit)).pbit).pbit

theorem State.Sound.judge (h : s.Sound κ ν) {off : State → Nat → State} (hoff : ∀ (t : State) (a1 : Nat), t.Sound κ ν → (off t a1).Sound κ ν) {k : Nat} {mv : Nat} : (s.judge off k mv).Sound κ ν := by
  unfold State.judge
  exact .ite (h.takeStates.afterJudge hoff) h

theorem State.Sound.comparator (h : s.Sound κ ν) {off : State → Nat → State} (hoff : ∀ (t : State) (a1 : Nat), t.Sound κ ν → (off t a1).Sound κ ν) {k : Nat} {mv : Nat} : (s.comparator off k mv).Sound κ ν := by
  unfold State.comparator
  exact .ite h (h.judge hoff)

theorem State.Sound.lockSwitch (h : s.Sound κ ν) {on : Bool} : (s.lockSwitch on).Sound κ ν := by
  unfold State.lockSwitch
  exact h.beside.when (fun _ ht => State.Sound.ite ht.turnOn ht.lockEdge)

theorem State.Sound.highSideOn (h : s.Sound κ ν) {n : Nat} : (s.highSideOn n).Sound κ ν := by
  unfold State.highSideOn
  exact .ite h.lockSwitch.lockSwitch h.turnOn

theorem State.Sound.switched (h : s.Sound κ ν) {sw : Switching} : (s.switched sw).Sound κ ν := by
  unfold State.switched
  exact (h.each (fun _ _ ht => ht.highSideOn)).lockSwitch

theorem State.Sound.offNow (h : s.Sound κ ν) {n : Nat} : (Machine.offNow s n).Sound κ ν :=
  h.domOff

theorem State.Sound.blankEnd (h : s.Sound κ ν) {off : State → Nat → State} (hoff : ∀ (t : State) (a1 : Nat), t.Sound κ ν → (off t a1).Sound κ ν) {k : Nat} {mv : Nat} : (s.blankEnd off k mv).Sound κ ν := by
  unfold State.blankEnd
  exact (State.Sound.ite (h.beside.judge hoff) h.beside).afterJudge hoff

theorem State.Sound.supervise (h : s.Sound κ ν) {off : State → Nat → State} (hoff : ∀ (t : State) (a1 : Nat), t.Sound κ ν → (off t a1).Sound κ ν) {inputs : List (Nat × Nat)} : (s.supervise off inputs).Sound κ ν := by
  unfold State.supervise
  exact h.foldl (fun _ _ ht => State.Sound.ite (by
    split
    · exact .ite ht.beside (ht.judge hoff)
    · exact ht.beside) ht)

theorem State.Sound.unmask (h : s.Sound κ ν) {off : State → Nat → State} (hoff : ∀ (t : State) (a1 : Nat), t.Sound κ ν → (off t a1).Sound κ ν) {n : Nat} : (s.unmask off n).Sound κ ν := by
  unfold State.unmask
  exact h.p.setDom.afterJudge hoff

theorem State.Sound.lockoutChange (h : s.Sound κ ν) {off : State → Nat → State} (hoff : ∀ (t : State) (a1 : Nat), t.Sound κ ν → (off t a1).Sound κ ν) {n : Nat} {under : Bool} : (s.lockoutChange off n under).Sound κ ν := by
  unfold State.lockoutChange
  refine .ite ?_ ?_
  · refine .ite ?_ ?_
    · exact (h.setLockout.setDom.when (fun _ ht => ht.lockHalt)).when (fun _ ht => ht.unmask hoff)
    · exact .ite h.setLockout (h.setLockout.setDom.when (fun _ ht => ht.lockStart))
  · exact h.setLockout

theorem State.Sound.inputLevel (h : s.Sound κ ν) {n : Nat} {mv : Nat} : (s.inputLevel n mv).Sound κ ν := by
  unfold State.inputLevel
  exact .ite ((h.when (fun _ ht => ht.setDrv)).lockoutChange (fun _ _ ht => ht.offNow)) (h.when (fun _ ht => ht.setDrv))

theorem State.Sound.lockChop (h : s.Sound κ ν) : s.lockChop.Sound κ ν := by
  unfold State.lockChop
  exact h.lockSwitch.lockSwitch

theorem State.Sound.limitActs (h : s.Sound κ ν) {n : Nat} : (s.limitActs n).Sound κ ν := by
  unfold State.limitActs
  exact h.setDom.when (fun _ ht => ht.lockChop)

theorem State.Sound.dvsDone (h : s.Sound κ ν) {n : Nat} : (s.dvsDone n).Sound κ ν := by
  unfold State.dvsDone
  exact ((h.unmask (fun _ _ ht => ht.offNow)).p).when (fun _ ht => ht.post)

theorem State.Sound.lockShort (h : s.Sound κ ν) {consecutive : Bool} : (s.lockShort consecutive).Sound κ ν := by
  unfold State.lockShort
  exact .ite (.ite h.beside.p.lockSwitch.p.lockDemag h.beside.p.lockChop) h

theorem State.Sound.powerDownTimeout (h : s.Sound κ ν) : s.powerDownTimeout.Sound κ ν := by
  have hg : ((s.raise 31).gather id 8 []).1.Sound κ ν := h.raise.gather fun _ ht => ht
  unfold State.powerDownTimeout
  refine .ite (State.Sound.enterFault ?_) h
  dsimp only
  split
  · exact hg.setFlt.firstLatched
  · exact hg.beginIncident

theorem State.Sound.linePresent (h : s.Sound κ ν) {dv : Nat} : (s.linePresent dv).Sound κ ν := by
  unfold State.linePresent
  exact .ite h.setSup.setLine.beginQualification h.setSup

theorem State.Sound.lineAbsent (h : s.Sound κ ν) {dv : Nat} : (s.lineAbsent dv).Sound κ ν := by
  unfold State.lineAbsent
  exact .ite (((h.setSup.when (fun _ ht => ht.lineLost)).setLine).clearLatch) h.setSup

theorem State.Sound.srcidRead (h : s.Sound κ ν) {mv : Nat} : (s.srcidRead mv).Sound κ ν := by
  unfold State.srcidRead
  exact .ite h.p.setLine.followWindow.lineOv h

theorem State.Sound.lineLevel (h : s.Sound κ ν) {dv : Nat} : (s.lineLevel dv).Sound κ ν := by
  unfold State.lineLevel
  exact h.setSup.followWindow

theorem State.Sound.windowChange (h : s.Sound κ ν) {dv : Nat} : (s.windowChange dv).Sound κ ν := by
  unfold State.windowChange
  exact .ite h.lineLevel h.setSup

theorem State.Sound.shipExit (h : s.Sound κ none) {code : Nat} : (s.shipExit code).Sound κ none := by
  unfold State.shipExit
  exact (State.Sound.ite (h.setSup.setCtl.boot (.inl rfl)) h.setSup.coldBoot).p.p.almArm.almArm

theorem State.Sound.endSuppression (h : s.Sound κ ν) : s.endSuppression.Sound κ ν := by
  unfold State.endSuppression
  exact h.setCtl

/-- With AO powered the qualified line ends no SHIP. -/
theorem State.Sound.lineQualified (h : s.Sound κ ν) (hao : ν = none ∨ s.aoOn = true) : s.lineQualified.Sound κ ν := by
  unfold State.lineQualified
  refine .ite ?_ h
  dsimp only
  split
  next hship =>
    rcases hao with rfl | hao
    · exact h.setLine.setChgR.shipExit
    · exact absurd hship (State.power_of_aoOn hao).2.2
  next => exact h.setLine.setChgR.post.startAdmission.wakeSource.endSuppression

theorem State.Sound.lineLoss (h : s.Sound κ ν) {dv : Nat} : (s.lineLoss dv).Sound κ ν := by
  unfold State.lineLoss
  exact .ite h.setSup.lineLostAgain.followWindow (h.setSup.when (fun _ ht => ht.followWindow))

theorem State.Sound.failedAdmission (h : s.Sound κ ν) : s.failedAdmission.Sound κ ν := by
  unfold State.failedAdmission
  exact .ite h.setLine.setLine.raise.post h.setLine.setLine

theorem State.Sound.lineShort (h : s.Sound κ ν) : s.lineShort.Sound κ ν := by
  unfold State.lineShort
  exact .ite h.inc.raise.lineLost.failedAdmission h

theorem State.Sound.staggerEnd (h : s.Sound κ ν) : s.staggerEnd.Sound κ ν := by
  unfold State.staggerEnd
  exact .ite h.setLine h

theorem State.Sound.soaExpiry (h : s.Sound κ ν) : s.soaExpiry.Sound κ ν := by
  unfold State.soaExpiry
  exact .ite h.inc.raise.lineLost.failedAdmission h

theorem State.Sound.markActive (h : s.Sound κ ν) {code : Nat} : (s.markActive code).Sound κ ν := by
  unfold State.markActive
  exact h.when (fun _ ht => ht.marker)

theorem State.Sound.drvWaited (h : s.Sound κ ν) : s.drvWaited.Sound κ ν := by
  unfold State.drvWaited
  exact h.drvDecide.setDrv

theorem State.Sound.drvResume (h : s.Sound κ ν) : s.drvResume.Sound κ ν := by
  unfold State.drvResume
  exact (State.Sound.ite h.p.setDom.setDrv h.p.setDom.setDrv.p.setDom).setDrv

theorem State.Sound.drvSluiceOn (h : s.Sound κ ν) : s.drvSluiceOn.Sound κ ν := by
  unfold State.drvSluiceOn
  exact .ite h.drvWaited (.ite h.drvResume h)

theorem State.Sound.rerequest (h : s.Sound κ ν) : s.rerequest.Sound κ ν := by
  unfold State.rerequest
  exact h.when (fun _ ht => ht.requestToll)

theorem State.Sound.shedRestore (h : s.Sound κ ν) : s.shedRestore.Sound κ ν := by
  unfold State.shedRestore
  exact h.domsOn

theorem State.Sound.trigger5 (h : s.Sound κ ν) : s.trigger5.Sound κ ν := by
  unfold State.trigger5
  exact h.shedRestore.trig

theorem State.Sound.sluiceOn (h : s.Sound κ ν) : s.sluiceOn.Sound κ ν := by
  unfold State.sluiceOn
  exact .ite ((h.setLine.drvSluiceOn.markActive.when (fun _ ht => ht.rerequest)).when (fun _ ht => ht.trigger5)) h

theorem State.Sound.retryEnd (h : s.Sound κ ν) : s.retryEnd.Sound κ ν := by
  unfold State.retryEnd
  exact .ite h.setLine.beginQualification h

theorem State.Sound.retryClear (h : s.Sound κ ν) : s.retryClear.Sound κ ν := by
  unfold State.retryClear
  exact h.when (fun _ ht => ht.setLine)

theorem State.Sound.lineImplausible (h : s.Sound κ ν) : s.lineImplausible.Sound κ ν := by
  unfold State.lineImplausible
  exact .ite (h.setLine.when (fun _ ht => ht.raise)) h

theorem State.Sound.chgOkSet (h : s.Sound κ ν) : s.chgOkSet.Sound κ ν := by
  unfold State.chgOkSet
  exact h.when (fun _ ht => ht.setLine)

theorem State.Sound.busLevels (h : s.Sound κ ν) {vdrv : Nat} {batt : Nat} : (s.busLevels vdrv batt).Sound κ ν := by
  unfold State.busLevels
  exact h.setDrv.setSup

theorem State.Sound.weirTurnOn (h : s.Sound κ ν) {vdrv : Nat} {batt : Nat} : (s.weirTurnOn vdrv batt).Sound κ ν := by
  unfold State.weirTurnOn
  exact .ite h.busLevels.weirStart h.busLevels

theorem State.Sound.weirReverse (h : s.Sound κ ν) {vdrv : Nat} {batt : Nat} : (s.weirReverse vdrv batt).Sound κ ν := by
  unfold State.weirReverse
  exact .ite ((h.busLevels.weirOff.when (fun _ ht => ht.p.setLine)).drvWeirChange) h.busLevels

theorem State.Sound.takeoverDone (h : s.Sound κ ν) {vdrv : Nat} {batt : Nat} : (s.takeoverDone vdrv batt).Sound κ ν := by
  unfold State.takeoverDone
  exact h.busLevels.p

theorem State.Sound.weirTrip (h : s.Sound κ ν) {flag : Fld} {source : Nat} : (s.weirTrip flag source).Sound κ ν := by
  unfold State.weirTrip
  exact h.p.setLine.weirOff.drvWeirChange.raise

theorem State.Sound.takeoverFail (h : s.Sound κ ν) : s.takeoverFail.Sound κ ν := by
  unfold State.takeoverFail
  exact .ite h.weirTrip h

theorem State.Sound.weirShort (h : s.Sound κ ν) : s.weirShort.Sound κ ν := by
  unfold State.weirShort
  exact .ite h.weirTrip h

theorem State.Sound.handbackDue (h : s.Sound κ ν) : s.handbackDue.Sound κ ν := by
  unfold State.handbackDue
  exact .ite (.ite h.setLine h.handBack.drvWeirChange) h

theorem State.Sound.moveVref (h : s.Sound κ ν) : s.moveVref.Sound κ ν := by
  unfold State.moveVref
  exact .ite h.setDrv h

theorem State.Sound.syncFree (h : s.Sound κ ν) : s.syncFree.Sound κ ν := by
  unfold State.syncFree
  exact .ite h h.p.p.setDrv

theorem State.Sound.sumFrame (h : s.Sound κ ν) {agrees : Bool} : (s.sumFrame agrees).Sound κ ν := by
  unfold State.sumFrame
  exact h.setDrv

theorem State.Sound.setShed (h : s.Sound κ ν) {m : Nat} : (s.setShed m).Sound κ ν := by
  unfold State.setShed
  exact h.p.setDrv

theorem State.Sound.frameAngles (h : s.Sound κ ν) : s.frameAngles.Sound κ ν := by
  unfold State.frameAngles
  exact h.setShed.trimFollow.setDrv

theorem State.Sound.takeDeadTimes (h : s.Sound κ ν) : s.takeDeadTimes.Sound κ ν := by
  unfold State.takeDeadTimes
  exact h.wn

theorem State.Sound.wordOpen (h : s.Sound κ ν) {lo : Int} {hi : Int} {x : Rat} : (s.wordOpen lo hi x).2.Sound κ ν := by
  unfold State.wordOpen
  refine .ite_snd ?_ ?_
  · exact h.roundOpen
  · exact h.roundOpen.drawn

theorem State.Sound.controlLaw (h : s.Sound κ ν) {iout : Rat} {iin : Rat} : (s.controlLaw iout iin).Sound κ ν := by
  unfold State.controlLaw
  exact h.setDrv.p.pb.p.roundOpen.p.wordOpen.wi

theorem State.Sound.holdMeasures (h : s.Sound κ ν) {vdrvMv : Nat} {iout : Rat} {iin : Rat} : (s.holdMeasures vdrvMv iout iin).Sound κ ν := by
  unfold State.holdMeasures
  exact h.wordOpen.wordOpen.wordOpen.wi.wi.wi

theorem State.Sound.frameBlank (h : s.Sound κ ν) : s.frameBlank.Sound κ ν := by
  unfold State.frameBlank
  exact h.when (fun _ ht => ht.turnOn)

theorem State.Sound.strokeCurrent (h : s.Sound κ ν) : s.strokeCurrent.2.Sound κ ν := by
  unfold State.strokeCurrent
  exact h.roundOpen

theorem State.Sound.streamTake (h : s.Sound κ ν) {k : Nat} {v : Int} : (s.streamTake k v).Sound κ ν := by
  unfold State.streamTake
  exact h.when (fun _ ht => ht.setStk)

theorem State.Sound.streamFrame (h : s.Sound κ ν) : s.streamFrame.Sound κ ν := by
  unfold State.streamFrame
  refine .ite ?_ ?_
  · exact h.strokeCurrent.roundOpen.each (fun _ _ ht => by
      split
      · exact ht.streamTake
      · exact ht.streamTake
      · exact ht)
  · exact h

theorem State.Sound.driveFrame (h : s.Sound κ ν) {vdrv : Nat} {dcs : Int} {lsense : Int} {vlsrc : Nat} {sumAgrees : Bool} {sample : Bool} : (s.driveFrame vdrv dcs lsense vlsrc sumAgrees sample).Sound κ ν := by
  unfold State.driveFrame
  refine .ite ?_ ?_
  · exact (((h.setDrv.takeDeadTimes.frameAngles.sumFrame.syncFree.moveVref.when (fun _ ht => ht.controlLaw)).when (fun _ ht => ht.holdMeasures)).streamFrame).frameBlank
  · exact h

theorem State.Sound.balance (h : s.Sound κ ν) {ibars : List Rat} {iout : Rat} : (s.balance ibars iout).Sound κ ν := by
  unfold State.balance
  refine .ite ?_ ?_
  · exact h.each (fun _ _ ht => ht.wordOpen.wi)
  · exact ((h.each (fun _ _ ht => ht.wordOpen.wi)).setDrv).each (fun _ _ ht => ht.roundOpen.wi)

theorem State.Sound.putPeriod (h : s.Sound κ ν) {period : Nat} : (s.putPeriod period).Sound κ ν := by
  unfold State.putPeriod
  exact .ite h.roundOpen.p h.roundOpen.drawn.p

theorem State.Sound.syncOpen (h : s.Sound κ ν) : s.syncOpen.Sound κ ν := by
  unfold State.syncOpen
  exact h.drawn.drawn.drawn.drawn.pb.p.setDrv

theorem State.Sound.syncEdge (h : s.Sound κ ν) {err : Int} {period : Nat} : (s.syncEdge err period).Sound κ ν := by
  unfold State.syncEdge
  exact .ite (.ite ((State.Sound.ite h.setDrv.p (State.Sound.ite h.setDrv.p h.setDrv)).putPeriod) h.syncOpen) h

theorem State.Sound.syncLost (h : s.Sound κ ν) : s.syncLost.Sound κ ν := by
  unfold State.syncLost
  exact .ite h.setDrv.p.p.p.inc.raise h

theorem State.Sound.hiccup (h : s.Sound κ ν) {k : Nat} : (s.hiccup k).Sound κ ν := by
  unfold State.hiccup
  exact .ite h.p.p.p.wn.setDrv.inc.raise h

theorem State.Sound.hiccupOver (h : s.Sound κ ν) : s.hiccupOver.Sound κ ν := by
  unfold State.hiccupOver
  exact (h.when (fun _ ht => ht.unmask (fun _ _ ht1 => ht1.offNow))).when (fun _ ht => ht.drvDecide)

theorem State.Sound.shedPhase (h : s.Sound κ ν) {iout : Rat} : (s.shedPhase iout).Sound κ ν := by
  unfold State.shedPhase
  exact .ite h.setDrv h

theorem State.Sound.readdPhase (h : s.Sound κ ν) {iout : Rat} : (s.readdPhase iout).Sound κ ν := by
  unfold State.readdPhase
  refine .ite ?_ ?_
  · split
    · exact h.setDrv
    · exact h
  · exact h

theorem State.Sound.detectPhase (h : s.Sound κ ν) {k : Nat} {cause : Nat} {test : Nat} {iout : Nat} : (s.detectPhase k cause test iout).Sound κ ν := by
  unfold State.detectPhase
  exact .ite h.setDrv.trimFollow h

theorem State.Sound.keepMinAct (h : s.Sound κ ν) : s.keepMinAct.Sound κ ν := by
  unfold State.keepMinAct
  exact h.each (fun _ _ ht => State.Sound.ite ht.setShed ht)

theorem State.Sound.retireOne (h : s.Sound κ ν) {d : Detected} : (s.retireOne d).Sound κ ν := by
  unfold State.retireOne
  exact (State.Sound.ite h.p h.p.p.setShed).inc

theorem State.Sound.retirePhases (h : s.Sound κ ν) {ks : List Nat} : (s.retirePhases ks).Sound κ ν := by
  unfold State.retirePhases
  refine .ite ?_ ?_
  · exact h
  · exact (((((h.each (fun _ _ ht => ht.retireOne)).keepMinAct).setDrv).resetTrims).each (fun _ _ ht => ht.raise.post)).when (fun _ ht => ht.raise)

theorem State.Sound.retireAt (h : s.Sound κ ν) {ks : List Nat} : (s.retireAt ks).Sound κ ν := by
  unfold State.retireAt
  exact .ite (h.retirePhases.when (fun _ ht => (ht.each (fun _ _ ht1 => ht1.marker)).setStk)) h

theorem State.Sound.ssSlew (h : s.Sound κ ν) : s.ssSlew.Sound κ ν := by
  unfold State.ssSlew
  exact h.p.setDom.setDrv

theorem State.Sound.drvSoftStartEnd (h : s.Sound κ ν) : s.drvSoftStartEnd.Sound κ ν := by
  unfold State.drvSoftStartEnd
  exact .ite ((h.setDom.setDrv.when (fun _ ht => ht.p)).when (fun _ ht => ht.ssSlew)) h

theorem State.Sound.driveSlewEnd (h : s.Sound κ ν) : s.driveSlewEnd.Sound κ ν := by
  unfold State.driveSlewEnd
  exact (((h.unmask (fun _ _ ht => ht.offNow)).setDrv).p).when (fun _ ht => ht.post)

theorem State.Sound.pinHint (h : s.Sound κ ν) {width : Nat} : (s.pinHint width).Sound κ ν := by
  unfold State.pinHint
  refine .ite ?_ ?_
  · dsimp only
    split
    · exact h.drawn.takeHint
    · exact h.drawn.p
  · exact h

theorem State.Sound.chargerMeasured (h : s.Sound κ ν) : s.chargerMeasured.Sound κ ν := by
  unfold State.chargerMeasured
  exact h.roundOpen.wi

theorem State.Sound.strokeSample (h : s.Sound κ ν) {battMv : Nat} : (s.strokeSample battMv).Sound κ ν := by
  unfold State.strokeSample
  exact .ite h.strokeCurrent.beside.wn.setStk.setStk.strokeTakes h.strokeCurrent.beside.wn.setStk.setStk

theorem State.Sound.startDetect (h : s.Sound κ ν) : s.startDetect.Sound κ ν := by
  unfold State.startDetect
  split
  · exact .ite h (.ite h.startStroke (.ite ((h.setStk.p.recOpen.openStroke.when (fun _ ht => ht.p)).startStroke) h))
  · exact h

theorem State.Sound.endDetect (h : s.Sound κ ν) : s.endDetect.Sound κ ν := by
  unfold State.endDetect
  exact .ite h.endStroke h

theorem State.Sound.setZEntry (h : s.Sound κ ν) {c : Nat} {p : Nat} {k : Nat} {v : Nat} : (s.setZEntry c p k v).Sound κ ν := by
  unfold State.setZEntry
  exact h.p

theorem State.Sound.zLearn (h : s.Sound κ ν) {col : Nat} {pt : Nat} {k : Nat} {origin : Nat} {mohm : Rat} : (s.zLearn col pt k origin mohm).Sound κ ν := by
  unfold State.zLearn
  exact ((h.roundOpen.setZEntry.when (fun _ ht => ht.dirty)).wn).wn

theorem State.Sound.provingSample (h : s.Sound κ ν) {k : Nat} {battMv : Nat} {ib : Int} : (s.provingSample k battMv ib).Sound κ ν := by
  unfold State.provingSample
  refine .ite ?_ ?_
  · split
    · split
      · exact h.zLearn
      · exact h
    · exact h
  · exact h

theorem State.Sound.streamOut (h : s.Sound κ ν) {k : Nat} {late : Nat} : (s.streamOut k late).Sound κ ν := by
  unfold State.streamOut
  dsimp only
  split
  · exact h.setStk
  · refine .ite (State.Sound.recAdd ?_) h.setStk
    split
    · exact State.Sound.roundOpen h.setStk
    · dsimp only
      exact h.setStk
    · dsimp only
      exact h.setStk
    · exact State.Sound.drawn h.setStk

theorem State.Sound.extendTime (h : s.Sound κ ν) : s.extendTime.Sound κ ν := by
  unfold State.extendTime
  exact .ite h.recPut.setStk h

theorem State.Sound.batteryIn (h : s.Sound κ ν) {battMv : Nat} : (s.batteryIn battMv).Sound κ ν := by
  unfold State.batteryIn
  exact .ite h h.beside.setChgR.authStart

theorem State.Sound.freezeGauge (h : s.Sound κ ν) : s.freezeGauge.Sound κ ν := by
  unfold State.freezeGauge
  exact .ite h.setGau.p.p h.setGau.p.p.p.gaugeEvent

theorem State.Sound.batteryOut (h : s.Sound κ ν) : s.batteryOut.Sound κ ν := by
  unfold State.batteryOut
  exact .ite h.beside.setChgR.inc.p.raise.weirOff.phaseGuard.freezeGauge.reserveLost h

theorem State.Sound.phaseChange (h : s.Sound κ ν) {battMv : Nat} : (s.phaseChange battMv).Sound κ ν := by
  unfold State.phaseChange
  exact .ite h.beside.setChgR h.beside

theorem State.Sound.dirtySince (h : s.Sound κ ν) (_hold : old.Sound κ ν) {as : List Nat} : (s.dirtySince old as).Sound κ ν := by
  unfold State.dirtySince
  exact h.when (fun _ ht => ht.dirty)

theorem State.Sound.acceptCapacity (h : s.Sound κ ν) {cand : Rat} : (s.acceptCapacity cand).Sound κ ν := by
  unfold State.acceptCapacity
  exact (((h.putR.pbit.p.dirtySince h).wantWriteBack).gaugeEvent).when (fun _ ht => ht.raise)

theorem State.Sound.takeAnchor (h : s.Sound κ ν) {soc : Rat} : (s.takeAnchor soc).Sound κ ν := by
  unfold State.takeAnchor
  exact (((State.Sound.p (by
    split
    · exact .ite (.ite h.acceptCapacity h) h
    · exact h)).setGau).putR).putR

theorem State.Sound.chargeDone (h : s.Sound κ ν) : s.chargeDone.Sound κ ν := by
  unfold State.chargeDone
  exact .ite ((h.when (fun _ ht => ht.takeAnchor)).setChgR) h

theorem State.Sound.chargerFault (h : s.Sound κ ν) {flag : Fld} {source : Nat} : (s.chargerFault flag source).Sound κ ν := by
  unfold State.chargerFault
  exact h.setChgR.p.raise

theorem State.Sound.stageOverCurrent (h : s.Sound κ ν) : s.stageOverCurrent.Sound κ ν := by
  unfold State.stageOverCurrent
  exact .ite h.setChgR.chargerFault h.setChgR

theorem State.Sound.vinTooLow (h : s.Sound κ ν) : s.vinTooLow.Sound κ ν := by
  unfold State.vinTooLow
  exact .ite ((h.when (fun _ ht => ht.p.raise)).setChgR) h

theorem State.Sound.chgWatchdog (h : s.Sound κ ν) : s.chgWatchdog.Sound κ ν := by
  unfold State.chgWatchdog
  exact .ite h.p.p.p.setChgR.p.raise h

theorem State.Sound.chargeMa (h : s.Sound κ ν) {cs : Int} : (s.chargeMa cs).2.Sound κ ν := by
  unfold State.chargeMa
  split
  · exact h
  · exact h.drawn

theorem State.Sound.shareLine (h : s.Sound κ ν) {cs : Int} {battMv : Nat} {vlsrcMv : Nat} {lsense : Int} {vloop : Int} : (s.shareLine cs battMv vlsrcMv lsense vloop).Sound κ ν := by
  unfold State.shareLine
  exact .ite h.beside.chargeMa.setChgR.setChgR.pb.pb.pb.roundOpen.pb.p h.beside.chargeMa.setChgR

theorem State.Sound.coulombMa (h : s.Sound κ ν) {raw : Int} : (s.coulombMa raw).2.Sound κ ν := by
  unfold State.coulombMa
  split
  · exact h
  · exact h.drawn

theorem State.Sound.inDeadband (h : s.Sound κ ν) {raw : Int} : (s.inDeadband raw).2.Sound κ ν := by
  unfold State.inDeadband
  split
  · exact h
  · exact h.drawn

theorem State.Sound.coulombResult (h : s.Sound κ ν) {raw : Int} : (s.coulombResult raw).Sound κ ν := by
  unfold State.coulombResult
  exact h.coulombMa.inDeadband.setGau

theorem State.Sound.spoilPair (h : s.Sound κ ν) : s.spoilPair.Sound κ ν := by
  unfold State.spoilPair
  exact h.setGau

theorem State.Sound.chgSecond (h : s.Sound κ ν) : s.chgSecond.Sound κ ν := by
  unfold State.chgSecond
  exact (State.Sound.ite h.setChgR (State.Sound.ite h.setChgR h)).chgTimer

theorem State.Sound.countCycles (h : s.Sound κ ν) {dis : Rat} : (s.countCycles dis).Sound κ ν := by
  unfold State.countCycles
  exact .ite h (.ite (h.setGau.w32.dirtySince h) h.setGau)

theorem State.Sound.estimate (h : s.Sound κ ν) {socv : Rat} : (s.estimate socv).Sound κ ν := by
  unfold State.estimate
  exact h.setGau.p

theorem State.Sound.setDis (h : s.Sound κ ν) {d : Nat} : (s.setDis d).Sound κ ν := by
  unfold State.setDis
  exact .ite h h.p.gaugeEvent

theorem State.Sound.gaugeSecond (h : s.Sound κ ν) {battMv : Nat} : (s.gaugeSecond battMv).Sound κ ν := by
  unfold State.gaugeSecond
  refine .ite ?_ ?_
  · exact (State.Sound.ite (((((State.Sound.ite ((h.beside.setGau.setGau.roundOpen.wi.putR.p.p.setGau.when (fun _ ht => ht.countCycles)).estimate) (State.Sound.ite ((((((h.beside.setGau.setGau.roundOpen.wi.putR.p.p.setGau.when (fun _ ht => ht.countCycles)).setGau).setGau).setDis).raise).spoilPair) (((h.beside.setGau.setGau.roundOpen.wi.putR.p.p.setGau.when (fun _ ht => ht.countCycles)).setGau).setGau))).putR).putR).putR).putR) h.beside.setGau.setGau.roundOpen.wi.putR.p.p).updateReserve
  · exact h.beside.setGau

theorem State.Sound.voltageEmpty (h : s.Sound κ ν) : s.voltageEmpty.Sound κ ν := by
  unfold State.voltageEmpty
  exact .ite h.setDis.raise.spoilPair h

theorem State.Sound.restPoint (h : s.Sound κ ν) {battMv : Nat} : (s.restPoint battMv).Sound κ ν := by
  unfold State.restPoint
  exact .ite ((h.p.when (fun _ ht => ht.takeAnchor)).when (fun _ ht => ht.setDis.p)) h

theorem State.Sound.chargerStep (h : s.Sound κ ν) {k : Nat} {battMv : Nat} {ib : Int} : (s.chargerStep k battMv ib).Sound κ ν := by
  unfold State.chargerStep
  split
  · refine .ite ?_ ?_
    · exact h.setGau
    · refine .ite ?_ ?_
      · refine .ite ?_ ?_
        · dsimp only
          split
          · exact State.Sound.zLearn (by
              split
              · exact h.setGau.zLearn
              · exact h.setGau)
          · split
            · exact h.setGau.zLearn
            · exact h.setGau
        · exact h.setGau
      · exact h
  · exact h

theorem State.Sound.askEstimate (h : s.Sound κ ν) : s.askEstimate.Sound κ ν := by
  unfold State.askEstimate
  exact h.setGau

theorem State.Sound.packFailed (h : s.Sound κ ν) : s.packFailed.Sound κ ν := by
  unfold State.packFailed
  exact ((((((State.Sound.ite h.p.p.setGau.pbit.dirty h.p.p.setGau).gaugeEvent).when (fun _ ht => ht.gaugeEvent)).askEstimate).thawGauge).raise).reserveLost

theorem State.Sound.attemptFailed (h : s.Sound κ ν) {cause : Nat} : (s.attemptFailed cause).Sound κ ν := by
  unfold State.attemptFailed
  exact .ite h.p.setGau.packFailed h.p.setGau

theorem State.Sound.swapRecords (h : s.Sound κ ν) : s.swapRecords.Sound κ ν := by
  unfold State.swapRecords
  exact h.putWords.putWords.putWords.putWords.wn.wn.w32.wn.setGau

theorem State.Sound.newRecord (h : s.Sound κ ν) {sn : List Nat} : (s.newRecord sn).Sound κ ν := by
  unfold State.newRecord
  exact (((((h.when (fun _ ht => ht.swapRecords)).putWords).packDefaults).restartRef).restartRef).wn

theorem State.Sound.packPassed (h : s.Sound κ ν) {sn : List Nat} : (s.packPassed sn).Sound κ ν := by
  unfold State.packPassed
  refine .ite ?_ ?_
  · exact ((State.Sound.ite h.p.p.p.setGau.gaugeEvent h.p.p.p.setGau.gaugeEvent.pbit.dirty).when (fun _ ht => ht.gaugeEvent)).thawGauge
  · refine .ite ?_ ?_
    · exact h.p.p.p.setGau.gaugeEvent.swapRecords.pbit.askEstimate.dirty.wantWriteBack.gaugeEvent.thawGauge
    · exact h.p.p.p.setGau.gaugeEvent.newRecord.p.askEstimate.dirty.wantWriteBack.gaugeEvent.thawGauge.raise

theorem State.Sound.authResponse (h : s.Sound κ ν) {resp : List Byte} : (s.authResponse resp).Sound κ ν := by
  unfold State.authResponse
  exact .ite (.ite h.attemptFailed (.ite h.packPassed h.attemptFailed)) h

theorem State.Sound.attemptEnds (h : s.Sound κ ν) {cause : Nat} : (s.attemptEnds cause).Sound κ ν := by
  unfold State.attemptEnds
  exact h.when (fun _ ht => ht.attemptFailed)

theorem State.Sound.authRetry (h : s.Sound κ ν) : s.authRetry.Sound κ ν := by
  unfold State.authRetry
  exact .ite h.authAttempt h

theorem State.Sound.wayFrame (h : s.Sound κ ν) : s.wayFrame.Sound κ ν := by
  unfold State.wayFrame
  exact h.when (fun _ ht => ht.demandFast)

theorem State.Sound.workerSummary (h : s.Sound κ ν) {ev : Nat} {addr : Nat} {cls : Nat} : (s.workerSummary ev addr cls).Sound κ ν := by
  unfold State.workerSummary
  exact h.pbit.setLink.post

theorem State.Sound.reclaim (h : s.Sound κ ν) {a : Nat} : (s.reclaim a).Sound κ ν := by
  unfold State.reclaim
  exact .ite ((h.setWay (by simp)).wn) (h.setWay (by simp))

theorem State.Sound.setRec (h : s.Sound κ ν) {a : Nat} {f : WRec → WRec} : (s.setRec a f).Sound κ ν := by
  unfold State.setRec
  exact .ite h (h.setWay (by simp))

theorem State.Sound.decideJoin (h : s.Sound κ ν) {a : Nat} {nonce : Nat} {ident : Option Nat} : (s.decideJoin a nonce ident).Sound κ ν := by
  unfold State.decideJoin
  refine .ite ?_ ?_
  · refine .ite ?_ ?_
    · exact ((h.setWay (by simp)).raise).workerSummary
    · exact (((h.when (fun _ ht => ht.reclaim)).setRec).setWay (by simp)).workerSummary
  · exact h

theorem State.Sound.decideJoins (h : s.Sound κ ν) : s.decideJoins.Sound κ ν := by
  unfold State.decideJoins
  exact (h.setWay (by simp)).each (fun _ _ ht => ht.decideJoin)

theorem State.Sound.dropPend (h : s.Sound κ ν) {a : Nat} : (s.dropPend a).Sound κ ν := by
  unfold State.dropPend
  exact h.setWay (by simp)

theorem State.Sound.clearLedger (h : s.Sound κ ν) : s.clearLedger.Sound κ ν := by
  unfold State.clearLedger
  exact (((h.each (fun _ _ ht => ht.reclaim)).each (fun _ _ ht => State.Sound.ite ht.dropPend ht)).when (fun _ ht => ht.setStk.setWay (by simp))).setWay (by simp)

theorem State.Sound.relayFollow (h : s.Sound κ ν) : s.relayFollow.Sound κ ν := by
  unfold State.relayFollow
  split
  · exact .ite h.relayEnd h
  · exact h

theorem State.Sound.deemAbsent (h : s.Sound κ ν) {a : Nat} : (s.deemAbsent a).Sound κ ν := by
  unfold State.deemAbsent
  exact h.setRec.dropPend.raise.workerSummary.relayFollow

theorem State.Sound.workerAbsent (h : s.Sound κ ν) {a : Nat} : (s.workerAbsent a).Sound κ ν := by
  unfold State.workerAbsent
  exact .ite h.deemAbsent h

theorem State.Sound.countTurn (h : s.Sound κ ν) : s.countTurn.Sound κ ν := by
  unfold State.countTurn
  exact (h.each (fun _ _ ht => ht.workerAbsent)).setWay (by simp)

theorem State.Sound.grantNow (h : s.Sound κ ν) {p : WPend} : (s.grantNow p).Sound κ ν := by
  unfold State.grantNow
  exact .ite (((h.dropPend.setWay (by simp)).wn).setWay (by simp)) ((h.dropPend.setWay (by simp)).setWay (by simp))

theorem State.Sound.walk (h : s.Sound κ ν) {l : List WPend} : (s.walk l).Sound κ ν := by
  induction l generalizing s with
  | nil => exact h
  | cons p r ih => exact .ite (ih h.grantNow) h

theorem State.Sound.takeAnswers (h : s.Sound κ ν) : s.takeAnswers.2.Sound κ ν := by
  unfold State.takeAnswers
  dsimp only
  exact h.setWay (by rfl)

theorem State.Sound.putPend (h : s.Sound κ ν) {p : WPend} : (s.putPend p).Sound κ ν := by
  unfold State.putPend
  split
  · exact .ite h (h.setWay (by simp))
  · exact h.setWay (by simp)

theorem State.Sound.ownRequest (h : s.Sound κ ν) : s.ownRequest.Sound κ ν := by
  unfold State.ownRequest
  split
  · exact h
  · exact (h.setStk.setWay (by simp)).putPend

theorem State.Sound.turnOrigin (h : s.Sound κ ν) : s.turnOrigin.Sound κ ν := by
  unfold State.turnOrigin
  exact .ite (((h.countTurn.clearLedger.decideJoins.walk.takeAnswers.setWay (by simp)).p).ownRequest) h

theorem State.Sound.rtcMilestone (h : s.Sound κ ν) {off : Int} : (s.rtcMilestone off).Sound κ ν := by
  unfold State.rtcMilestone
  split
  · exact h
  · exact (h.setRtc (by simp)).p

theorem State.Sound.followTrim (h : s.Sound κ ν) {ofs : Int} {at_ : Int} : (s.followTrim ofs at_).Sound κ ν := by
  unfold State.followTrim
  exact h.p

theorem State.Sound.followPair (h : s.Sound κ ν) {ofs : Int} {at_ : Int} : (s.followPair ofs at_).Sound κ ν := by
  unfold State.followPair
  refine .ite ?_ ?_
  · exact .ite ((h.setWay (by simp)).setWay (by simp)) ((((h.setWay (by simp)).setWay (by simp)).rtcMilestone).p)
  · exact .ite ((((h.setWay (by simp)).setWay (by simp)).followTrim).setWay (by simp)) ((h.setWay (by simp)).setWay (by simp))

theorem State.Sound.milestoneTime (h : s.Sound κ ν) {turn : Nat} {fracver : Nat} {sech : Nat} : (s.milestoneTime turn fracver sech).Sound κ ν := by
  unfold State.milestoneTime
  refine .ite ?_ ?_
  · exact h.setWay (by simp)
  · split
    · exact .ite ((h.setWay (by simp)).followPair) (h.setWay (by simp))
    · exact h

theorem State.Sound.takeGrant (h : s.Sound κ ν) {data : Nat} : (s.takeGrant data).Sound κ ν := by
  unfold State.takeGrant
  exact ((State.Sound.ite_snd h.drawn h).wn).setWay (by simp)

theorem State.Sound.dropGrant (h : s.Sound κ ν) : s.dropGrant.Sound κ ν := by
  unfold State.dropGrant
  exact h.wn.setWay (by simp)

theorem State.Sound.workerTakes (h : s.Sound κ ν) {a : Answer} : (s.workerTakes a).1.Sound κ ν := by
  unfold State.workerTakes
  refine .ite_fst h ?_
  split
  · exact h.takeGrant
  · dsimp only
    exact h.dropGrant.p.p.setWay (by rfl)
  · refine .ite_fst ?_ h
    dsimp only
    exact h.dropGrant.p.p.setWay (by rfl)
  · refine .ite_fst ?_ h
    dsimp only
    exact h.p.raise.setWay (by rfl)
  · exact h
  · exact h

theorem State.Sound.milestoneReceived (h : s.Sound κ ν) {turn : Nat} {fracver : Nat} {sech : Nat} {a0 : Answer} {a1 : Answer} : (s.milestoneReceived turn fracver sech a0 a1).1.Sound κ ν := by
  unfold State.milestoneReceived
  refine .ite_fst ?_ ?_
  · exact ((((((h.setWay (by simp)).p).milestoneTime).workerTakes).workerTakes).when (fun _ ht => ht.setWay (by simp))).linkFollow h
  · exact h

theorem State.Sound.milestone (h : s.Sound κ ν) {turn : Nat} {fracver : Nat} {sech : Nat} {a0 : Answer} {a1 : Answer} : (s.milestone turn fracver sech a0 a1).Sound κ ν := by
  unfold State.milestone
  exact h.milestoneReceived.when (fun _ ht => ht.takeReset)

theorem State.Sound.workerSend (h : s.Sound κ ν) {type : Nat} {payload : Nat} : (s.workerSend type payload).Sound κ ν := by
  unfold State.workerSend
  exact h.setWay (by simp)

theorem State.Sound.raiseRequest (h : s.Sound κ ν) : s.raiseRequest.Sound κ ν := by
  unfold State.raiseRequest
  split
  · exact h
  · exact h.setStk.setWay (by simp)

theorem State.Sound.slotSend (h : s.Sound κ ν) : s.slotSend.Sound κ ν := by
  unfold State.slotSend
  refine .ite ?_ ?_
  · refine .ite ?_ ?_
    · exact h.workerSend.dropGrant.setStk.setWay (by simp)
    · refine .ite ?_ ?_
      · exact h.workerSend.dropGrant.setStk.setWay (by simp)
      · dsimp only
        split <;> exact h.setStk.raiseRequest.workerSend
  · exact h

theorem State.Sound.joinSend (h : s.Sound κ ν) : s.joinSend.Sound κ ν := by
  unfold State.joinSend
  exact .ite (h.drawn.setWay (by simp)) h

theorem State.Sound.joinRetry (h : s.Sound κ ν) : s.joinRetry.Sound κ ν := by
  unfold State.joinRetry
  split
  · exact h.setWay (by simp)
  · exact h.setWay (by simp)
  · exact h
  · exact h
  · exact h

theorem State.Sound.dismiss (h : s.Sound κ ν) {a : Nat} : (s.dismiss a).Sound κ ν := by
  unfold State.dismiss
  exact (State.Sound.ite h (h.setWay (by simp))).workerSummary

theorem State.Sound.workerFrame (h : s.Sound κ ν) {a : Nat} {f : State → State} (hf : ∀ t : State, t.Sound κ ν → (f t).Sound κ ν) : (s.workerFrame a f).Sound κ ν := by
  unfold State.workerFrame
  exact .ite (.ite (hf _ h.setRec) h.dismiss) h

theorem State.Sound.statusFrame (h : s.Sound κ ν) {a : Nat} {payload : Nat} : (s.statusFrame a payload).Sound κ ν := by
  unfold State.statusFrame
  exact h.workerFrame (fun _ ht => State.Sound.ite ht.setRec ht.setRec.workerSummary)

theorem State.Sound.requestFrame (h : s.Sound κ ν) {a : Nat} {payload : Nat} : (s.requestFrame a payload).Sound κ ν := by
  unfold State.requestFrame
  exact h.workerFrame (fun _ ht => ht.putPend)

theorem State.Sound.releaseFrame (h : s.Sound κ ν) {a : Nat} {payload : Nat} : (s.releaseFrame a payload).Sound κ ν := by
  unfold State.releaseFrame
  exact h.workerFrame (fun _ ht => ht.setWay (by simp))

theorem State.Sound.leaveFrame (h : s.Sound κ ν) {a : Nat} : (s.leaveFrame a).Sound κ ν := by
  unfold State.leaveFrame
  exact h.workerFrame (fun _ ht => ht.setRec.reclaim.dropPend.workerSummary.relayFollow)

theorem State.Sound.joinFrame (h : s.Sound κ ν) {a : Nat} {nonce : Nat} {ident : Option Nat} : (s.joinFrame a nonce ident).Sound κ ν := by
  unfold State.joinFrame
  exact .ite (h.setWay (by simp)) h

theorem State.Sound.frameError (h : s.Sound κ ν) : s.frameError.Sound κ ν := by
  unfold State.frameError
  exact .ite ((h.inc.setWay (by simp)).when (fun _ ht => ht.raise)) h

theorem State.Sound.wayOrphan (h : s.Sound κ ν) : s.wayOrphan.Sound κ ν := by
  unfold State.wayOrphan
  exact .ite ((((h.dropGrant.p.p.setWay (by simp)).inc).raise).linkFollow h) h

theorem State.Sound.foreignMilestone (h : s.Sound κ ν) : s.foreignMilestone.Sound κ ν := by
  unfold State.foreignMilestone
  exact .ite (h.raise.p.setWay (by simp)) h

theorem State.Sound.silenceEnd (h : s.Sound κ ν) : s.silenceEnd.Sound κ ν := by
  unfold State.silenceEnd
  exact .ite (h.setWay (by simp)) h

theorem State.Sound.leaseEnd (h : s.Sound κ ν) : s.leaseEnd.Sound κ ν := by
  unfold State.leaseEnd
  exact .ite h.dropGrant h

theorem State.Sound.leaseRenewal (h : s.Sound κ ν) : s.leaseRenewal.Sound κ ν := by
  unfold State.leaseRenewal
  exact .ite h.tollFor.setStk h

theorem State.Sound.relayWindow (h : s.Sound κ ν) : s.relayWindow.Sound κ ν := by
  unfold State.relayWindow
  split
  · exact h
  · exact .ite h (.ite h.relayEnd (.ite h.relayEnd (h.setWay (by simp))))

theorem State.Sound.answerRelay (h : s.Sound κ ν) {addr : Nat} {count : Nat} : (s.answerRelay addr count).Sound κ ν := by
  unfold State.answerRelay
  exact .ite (h.readWords.setWay (by simp)) h

theorem State.Sound.relayReply (h : s.Sound κ ν) {a : Nat} {words : List Word} : (s.relayReply a words).Sound κ ν := by
  unfold State.relayReply
  split
  · exact h
  · exact .ite h.wrs.relayEnd h

theorem State.Sound.setSlice (h : s.Sound κ ν) {k : Nat} {j : Option SliceJob} : (s.setSlice k j).Sound κ ν := by
  unfold State.setSlice
  exact h.setAdc (by simp)

theorem State.Sound.startConv (h : s.Sound κ ν) {k : Nat} {key : Nat} : (s.startConv k key).Sound κ ν := by
  unfold State.startConv
  exact h.setSlice.setAdc (by simp)

theorem State.Sound.startAvg (h : s.Sound κ ν) {k : Nat} {src : AdcSrc} {ch : Nat} {navg : Nat} {recent : Bool} : (s.startAvg k src ch navg recent).Sound κ ν := by
  unfold State.startAvg
  exact (h.setAdc (by simp)).startConv

theorem State.Sound.roundNext (h : s.Sound κ ν) {k : Nat} {recent : Bool} : (s.roundNext k recent).Sound κ ν := by
  unfold State.roundNext
  refine .ite ?_ ?_
  · exact h
  · split
    · exact h.startConv
    · split
      · exact (h.setAdc (by simp)).startAvg
      · exact h

theorem State.Sound.schedule (h : s.Sound κ ν) {recent : Bool} {stream : Option Nat} : (s.schedule recent stream).Sound κ ν := by
  unfold State.schedule
  split
  · exact h
  · refine .ite ?_ ?_
    · exact h
    · refine .ite ?_ ?_
      · exact .ite (h.setSlice.setSlice.setAdc (by simp)) h
      · split
        · exact (h.setAdc (by simp)).startAvg
        · split
          · exact h.setSlice
          · exact h.roundNext

theorem State.Sound.winJudge (h : s.Sound κ ν) {k : Nat} : (s.winJudge k).Sound κ ν := by
  unfold State.winJudge
  exact .ite (((h.setAdc (by simp)).pbit).when (fun _ ht => ht.pbit)) (h.setAdc (by simp))

theorem State.Sound.readback (h : s.Sound κ ν) {fresh : Bool} : (s.readback fresh).Sound κ ν := by
  unfold State.readback
  refine .ite ?_ ?_
  · refine .ite ?_ ?_
    · exact ((State.Sound.ite h.p (State.Sound.ite h.p.p.p.raise h.p)).p).when (fun _ ht => ht.p)
    · exact .ite h.p (.ite h.p.p.p.raise h.p)
  · exact h

theorem State.Sound.avgDone (h : s.Sound κ ν) {v : AdcAvg} : (s.avgDone v).Sound κ ν := by
  unfold State.avgDone
  refine .ite ?_ ?_
  · exact ((((((((State.Sound.ite_snd h.drawn h).wi).wn).each (fun _ _ ht => ht.winJudge)).pbit).when (fun _ ht => ht.readback)).setAdc (by simp)).when (fun _ ht => ht.setThm)).roundEnd
  · exact ((((((((State.Sound.ite_snd h.drawn h).wi).wn).each (fun _ _ ht => ht.winJudge)).pbit).when (fun _ ht => ht.readback)).setAdc (by simp)).when (fun _ ht => ht.setThm)).wn

theorem State.Sound.captured (h : s.Sound κ ν) {ch : Nat} {code : Nat} {ofs : Int} {gain : Int} {cb : Int} : (s.captured ch code ofs gain cb).2.Sound κ ν := by
  unfold State.captured
  refine .ite_snd ?_ ?_
  · exact h.drawn
  · exact h

theorem State.Sound.burstSample (h : s.Sound κ ν) {value : Nat} {late : Nat} : (s.burstSample value late).Sound κ ν := by
  unfold State.burstSample
  exact .ite h ((State.Sound.ite h.recAdd h.recPut).setStk)

theorem State.Sound.convDone (h : s.Sound κ ν) {k : Nat} {code : Nat} {late : Nat} : (s.convDone k code late).Sound κ ν := by
  unfold State.convDone
  split
  · dsimp only
    split
    · exact h.setSlice.setAdc (by simp)
    · refine .ite ?_ ?_
      · exact (h.setSlice.setAdc (by simp)).avgDone
      · exact .ite ((h.setSlice.setAdc (by simp)).startConv) (h.setSlice.setAdc (by simp))
  · exact h.captured.setSlice.streamTake
  · exact h.setSlice
  · refine .ite ?_ ?_
    · exact h
    · exact .ite ((((h.setAdc (by simp)).captured).burstSample).setAdc (by simp)) (((h.setAdc (by simp)).captured).burstSample)
  · exact h

theorem State.Sound.calStart (h : s.Sound κ ν) : s.calStart.Sound κ ν := by
  unfold State.calStart
  exact .ite h.setSlice.setSlice.p.p h

theorem State.Sound.calGain (h : s.Sound κ ν) {f : Rat} {z : Rat} : (s.calGain f z).2.Sound κ ν := by
  unfold State.calGain
  refine .ite_snd ?_ ?_
  · exact h.drawn
  · exact h

theorem State.Sound.calEnd (h : s.Sound κ ν) {sumA : Nat} {sumB : Nat} : (s.calEnd sumA sumB).Sound κ ν := by
  unfold State.calEnd
  refine .ite ?_ ?_
  · exact ((((((State.Sound.ite h.calGain.calGain.wi.wn.wi.wn ((h.setAdc (by simp)).p)).p).p).p).setSlice).setSlice).setAdc (by simp)
  · exact h

theorem State.Sound.bgStart (h : s.Sound κ ν) : s.bgStart.Sound κ ν := by
  unfold State.bgStart
  exact .ite (h.setSlice.p.setAdc (by simp)) h

theorem State.Sound.bgEnd (h : s.Sound κ ν) {groundSum : Nat} : (s.bgEnd groundSum).Sound κ ν := by
  unfold State.bgEnd
  exact .ite h h.drawn.wi.wn.p.setSlice

theorem State.Sound.enforceThrottle (h : s.Sound κ ν) : s.enforceThrottle.Sound κ ν := by
  unfold State.enforceThrottle
  exact .ite h.p.p.inc.raise.thermalEvent h

theorem State.Sound.releaseThrottle (h : s.Sound κ ν) : s.releaseThrottle.Sound κ ν := by
  unfold State.releaseThrottle
  exact .ite (.ite h.p.setThm h.liftThrottle) h

theorem State.Sound.trimEdge (h : s.Sound κ ν) : s.trimEdge.2.Sound κ ν := by
  unfold State.trimEdge
  refine .ite_snd h.drawn ?_
  refine .ite_snd ?_ ?_
  · dsimp only
    exact h.setRtc (by rfl)
  · dsimp only
    exact h.setRtc (by rfl)

theorem State.Sound.almFire (h : s.Sound κ ν) {a : Nat} {late : Bool} : (s.almFire a late).Sound κ ν := by
  unfold State.almFire
  exact .ite ((h.pbit.when (fun _ ht => ht.pbit)).post) (h.pbit.when (fun _ ht => ht.pbit))

theorem State.Sound.almJump (h : s.Sound κ ν) {c0 : Nat} {fwd : Option Nat} : (s.almJump c0 fwd).2.Sound κ ν := by
  refine State.Sound.foldl_snd h fun y a ht => .ite_snd ?_ ht
  have hset : (y.2.setRtc fun r => { r with was := r.was.set a (y.2.almMatch a y.2.rtc) }).Sound κ ν := ht.setRtc List.length_set
  dsimp only
  split
  · exact hset.almFire
  · exact hset

theorem State.Sound.rtcApply (h : s.Sound κ ν) {step : Bool} {v : Nat} : (s.rtcApply step v).2.Sound κ ν := by
  unfold State.rtcApply
  refine .ite_snd ?_ ?_
  · exact (((((h.trimEdge.setRtc (by simp)).beside).p).p).p).almJump
  · exact ((((((h.trimEdge.setRtc (by simp)).setRtc (by simp)).beside).p).p).p).almJump

theorem State.Sound.almEdge (h : s.Sound κ ν) : s.almEdge.2.Sound κ ν := by
  refine State.Sound.foldl_snd h fun y a ht => .ite_snd ?_ ht
  have hset : (y.2.setRtc fun r => { r with was := r.was.set a (y.2.almMatch a y.2.rtc) }).Sound κ ν := ht.setRtc List.length_set
  exact .ite_snd hset.almFire hset

theorem State.Sound.lfEdge (h : s.Sound κ ν) : s.lfEdge.2.Sound κ ν := by
  unfold State.lfEdge
  dsimp only
  split
  · exact h.beside.rtcApply
  · exact h.beside.rtcApply
  · exact (((h.beside.when (fun _ ht => ht.rtcDiscard)).trimEdge).beside).almEdge

theorem State.Sound.lfTick (h : s.Sound κ ν) : s.lfTick.Sound κ ν := by
  unfold State.lfTick
  exact .ite (h.lfEdge.each (fun _ _ ht => ht.wakeSource)) h

theorem State.Sound.brownOut (h : s.Sound κ ν) : s.brownOut.Sound κ ν := by
  unfold State.brownOut
  exact .ite h.aoLoss.setSup (.ite h.shipAoLoss h)

theorem State.Sound.viohLoss (h : s.Sound κ ν) : s.viohLoss.Sound κ ν := by
  unfold State.viohLoss
  exact h.setSup.wn.when (fun _ ht => ht.raise)

theorem State.Sound.crystalStable (h : s.Sound κ ν) : s.crystalStable.Sound κ ν := by
  unfold State.crystalStable
  exact .ite h.p h

theorem State.Sound.crystalFail (h : s.Sound κ ν) : s.crystalFail.Sound κ ν := by
  unfold State.crystalFail
  exact .ite (h.p.p.setSup.when (fun _ ht => ht.raise)) h

theorem State.Sound.fastFail (h : s.Sound κ ν) : s.fastFail.Sound κ ν := by
  unfold State.fastFail
  exact .ite h.stopAlive.raise h

theorem State.Sound.minOff (h : s.Sound κ ν) : s.minOff.Sound κ ν := by
  unfold State.minOff
  split
  · exact h.wake
  · exact h

theorem State.Sound.pbPress (h : s.Sound κ ν) : s.pbPress.Sound κ ν := by
  unfold State.pbPress
  refine .ite ?_ ?_
  · refine .ite ?_ ?_
    · split
      · exact ((h.setCtl.when (fun _ ht => ht.endSuppression)).setCtl).wake
      · exact .ite (((h.setCtl.when (fun _ ht => ht.endSuppression)).p).p) ((h.setCtl.when (fun _ ht => ht.endSuppression)).p)
      · exact (h.setCtl.when (fun _ ht => ht.endSuppression)).setCtl
      · exact .ite ((h.setCtl.when (fun _ ht => ht.endSuppression)).setCtl) (h.setCtl.when (fun _ ht => ht.endSuppression))
      · exact h.setCtl
      · exact h.setCtl
      · exact h.setCtl
      · exact h.setCtl.when (fun _ ht => ht.endSuppression)
      · exact h.setCtl.when (fun _ ht => ht.endSuppression)
      · exact h.setCtl.when (fun _ ht => ht.endSuppression)
      · exact h.setCtl.when (fun _ ht => ht.endSuppression)
    · exact h.setCtl.when (fun _ ht => ht.endSuppression)
  · exact h

theorem State.Sound.pbWarn (h : s.Sound κ ν) : s.pbWarn.Sound κ ν := by
  unfold State.pbWarn
  exact .ite h.setCtl h

theorem State.Sound.pbForceOff (h : s.Sound κ ν) : s.pbForceOff.Sound κ ν := by
  unfold State.pbForceOff
  exact .ite (.ite h.setCtl.setCtl.offRequest.setCtl h.setCtl) h

theorem State.Sound.pbShipHold (h : s.Sound κ ν) (hao : ν = none ∨ s.aoOn = true) : s.pbShipHold.Sound κ ν := by
  unfold State.pbShipHold
  split
  next hship =>
    rcases hao with rfl | hao
    · exact h.setCtl.shipExit
    · exact absurd (by simpa using hship) fun hs : s.power = .ship ∧ _ => (State.power_of_aoOn hao).2.2 hs.1
  next => exact h

theorem State.Sound.bootAgain (h : s.Sound κ ν) : s.bootAgain.Sound κ ν := by
  unfold State.bootAgain
  exact h.beside.setNvm.wbBusy.setChgR.beside

theorem State.Sound.thermalRestart (h : s.Sound κ ν) : s.thermalRestart.Sound κ ν := by
  unfold State.thermalRestart
  refine .ite ?_ h
  dsimp only
  split
  · exact h.setCtl.bootAgain
  · exact (h.setCtl.leavePowerDown fun _ ht => ht.enterTarget).when fun _ ht => ht.setCtl
  · split
    · exact h.setCtl.snapshot.goDark.setCtl
    · exact (h.setCtl.snapshot.goDark.setCtl.each fun _ _ ht => ht.p).wake
  · exact h.setCtl.gaugeRestart.linkRestart.enterPowerUp

theorem State.Sound.beginWriteBack (h : s.Sound κ ν) : s.beginWriteBack.Sound κ ν := by
  unfold State.beginWriteBack
  exact h.setNvm

theorem State.Sound.nvmGrant (h : s.Sound κ ν) : s.nvmGrant.Sound κ ν := by
  unfold State.nvmGrant
  refine .ite ?_ ?_
  · split
    · exact h
    · exact State.Sound.wbBusy (by
        split
        · split
          · exact .ite h.setNvm.beginWriteBack h.setNvm.setNvm
          · exact .ite h.setNvm h.setNvm.endWriteBack
          · exact .ite h.setNvm h.setNvm.endWriteBack
          · exact h.setNvm
        · exact .ite h.setNvm.setNvm h.setNvm
        · exact .ite h.setNvm.setNvm h.setNvm
        · exact h.setNvm
        · exact h.setNvm)
  · exact h

theorem State.Sound.vnvmOff (h : s.Sound κ ν) : s.vnvmOff.Sound κ ν := by
  unfold State.vnvmOff
  exact .ite h.setNvm h

theorem State.Sound.recordDone (h : s.Sound κ ν) : s.recordDone.Sound κ ν := by
  unfold State.recordDone
  split
  · exact h.nvmFree
  · exact .ite h.setNvm.putWords.ffStatus.nvmFree.setNvm h.setNvm.putWords.ffStatus.nvmFree.setNvm.nvmRequest

theorem State.Sound.nvmYield (h : s.Sound κ ν) : s.nvmYield.Sound κ ν := by
  unfold State.nvmYield
  split
  · exact h
  · exact .ite h.setNvm h

theorem State.Sound.wbPageDone (h : s.Sound κ ν) : s.wbPageDone.Sound κ ν := by
  unfold State.wbPageDone
  dsimp only
  split
  · exact h.nvmFree
  · exact .ite h.endWriteBack h.setNvm.nvmYield
  · exact h.setNvm.nvmYield
  · exact h

theorem State.Sound.blankLog (h : s.Sound κ ν) {k : Nat} {n : Nat} : (s.blankLog k n).Sound κ ν := by
  unfold State.blankLog
  exact h.setRing

theorem State.Sound.slotsErased (h : s.Sound κ ν) : s.slotsErased.Sound κ ν := by
  unfold State.slotsErased
  exact h.setNvm

theorem State.Sound.pageStep (h : s.Sound κ ν) : s.pageStep.Sound κ ν := by
  unfold State.pageStep
  split
  · exact h.recordDone
  · exact h.wbPageDone
  · exact .ite h.blankLog.setNvm.nvmFree h.blankLog.setNvm.nvmYield
  · exact .ite h.slotsErased.setNvm.nvmFree h.slotsErased.setNvm.nvmYield
  · exact h

theorem State.Sound.pageDone (h : s.Sound κ ν) : s.pageDone.Sound κ ν := by
  unfold State.pageDone
  exact .ite h.pageStep.wbBusy h

theorem State.Sound.moreRecords (h : s.Sound κ ν) : s.moreRecords.Sound κ ν := by
  unfold State.moreRecords
  exact .ite h h.nvmRequest

theorem State.Sound.pollTimeout (h : s.Sound κ ν) : s.pollTimeout.Sound κ ν := by
  unfold State.pollTimeout
  split
  · exact h.nvmFree.setNvm.moreRecords.raise
  · exact h.endWriteBack.wbBusy.raise
  · exact h.nvmFree.setNvm.wbBusy.raise
  · exact h.slotsErased.nvmFree.setNvm.wbBusy.raise
  · exact h

theorem State.Sound.haltSlot (h : s.Sound κ ν) : s.haltSlot.Sound κ ν := by
  unfold State.haltSlot
  split
  · exact h
  · exact ((h.each (fun _ _ ht => ht.domOff)).setCtl).pb

end
end Sys2Proof.Machine
end

section
/-! PROOFS. So do the operations whose result may be undefined: the image, engine steps, debug, host writes and frames. -/
namespace Sys2Proof.Machine

section
variable {κ : Bool} {ν : Option Nat} {s : State}

/-! ### What an operation without a defined result keeps where it has one -/

/-- Where the result is defined, it keeps what a sound state has. -/
def OkSound (κ : Bool) (ν : Option Nat) (r : Except Fault State) : Prop := ∀ t, r = .ok t → t.Sound κ ν

theorem State.Sound.ok (h : s.Sound κ ν) : OkSound κ ν (.ok s) := fun _ ht => Except.ok.inj ht ▸ h

theorem OkSound.error {e : Fault} : OkSound κ ν (.error e) := fun _ ht => nomatch ht

theorem OkSound.ite {c : Prop} [Decidable c] {x y : Except Fault State} (hx : OkSound κ ν x) (hy : OkSound κ ν y) : OkSound κ ν (if c then x else y) := by
  split
  · exact hx
  · exact hy

theorem OkSound.bind {x : Except Fault State} (hx : OkSound κ ν x) {f : State → Except Fault State} (hf : ∀ t : State, t.Sound κ ν → OkSound κ ν (f t)) :
    OkSound κ ν (match (generalizing := false) x with | .error e => .error e | .ok t => f t) := by
  cases x with
  | error e => exact .error
  | ok t => exact hf t (hx t rfl)

theorem OkSound.map {x : Except Fault State} (hx : OkSound κ ν x) {f : State → State} (hf : ∀ t : State, t.Sound κ ν → (f t).Sound κ ν) : OkSound κ ν (x.map f) := by
  cases x with
  | error e => exact .error
  | ok t => exact (hf t (hx t rfl)).ok

/-- Where there is a result, and it is defined. -/
def OptSound (κ : Bool) (ν : Option Nat) (r : Option (Except Fault State)) : Prop := ∀ x, r = some x → OkSound κ ν x

theorem OkSound.some {x : Except Fault State} (h : OkSound κ ν x) : OptSound κ ν (some x) := fun _ hy => Option.some.inj hy ▸ h

theorem OptSound.none : OptSound κ ν none := fun _ hx => nomatch hx

theorem OptSound.ite {c : Prop} [Decidable c] {x y : Option (Except Fault State)} (hx : OptSound κ ν x) (hy : OptSound κ ν y) : OptSound κ ν (if c then x else y) := by
  split
  · exact hx
  · exact hy

/-- Where there is a next state. -/
def SomeSound (κ : Bool) (ν : Option Nat) (r : Option State) : Prop := ∀ t, r = some t → t.Sound κ ν

theorem State.Sound.some (h : s.Sound κ ν) : SomeSound κ ν (some s) := fun _ ht => Option.some.inj ht ▸ h

theorem SomeSound.none : SomeSound κ ν none := fun _ ht => nomatch ht

theorem SomeSound.ite {c : Prop} [Decidable c] {x y : Option State} (hx : SomeSound κ ν x) (hy : SomeSound κ ν y) : SomeSound κ ν (if c then x else y) := by
  split
  · exact hx
  · exact hy

/-! ### The image (R74 to R84) -/

theorem State.Sound.loadEntry (h : s.Sound κ ν) {a v : Nat} : OkSound κ ν (s.loadEntry a v) := by
  unfold State.loadEntry
  exact .ite h.wn.ok .error

theorem State.Sound.regLoad {s : State} (h : s.Sound κ ν) {fmt2 : Bool} : (ws : List Nat) → OkSound κ ν (s.regLoad fmt2 ws)
  | [] => h.ok
  | [_] => h.ok
  | a :: v :: r => by
    unfold State.regLoad
    refine .ite ?_ (.bind h.loadEntry fun t ht => ht.regLoad r)
    split
    · exact h.regLoad r
    · exact .bind h.loadEntry fun t ht => ht.regLoad r

theorem State.Sound.loadProgram (h : s.Sound κ ν) {body : List Byte} : OkSound κ ν (s.loadProgram body) := by
  unfold State.loadProgram
  exact .ite .error (.ite .error (State.Sound.ite_snd h.drawn h).bodyWords.wn.wn.putWords.ok)

theorem State.Sound.loadWindows {s : State} (h : s.Sound κ ν) : (ws : List Nat) → OkSound κ ν (s.loadWindows ws)
  | [] => h.ok
  | [_] => h.ok
  | [_, _] => h.ok
  | [_, _, _] => h.ok
  | a :: lw :: lo :: hi :: r => by
    unfold State.loadWindows
    exact .ite .error (.ite .error (h.setNvm.loadWindows r))

theorem State.Sound.loadTable (h : s.Sound κ ν) {a len : Nat} {body : List Byte} : OkSound κ ν (s.loadTable a len body) := by
  unfold State.loadTable
  exact .ite h.putWords.ok .error

theorem State.Sound.loadWayline (h : s.Sound κ ν) {body : List Byte} : OkSound κ ν (s.loadWayline body) := by
  unfold State.loadWayline
  exact .ite h.wn.wn.wn.wn.ok .error

theorem State.Sound.loadClasses (h : s.Sound κ ν) {body : List Byte} : OkSound κ ν (s.loadClasses body) := by
  unfold State.loadClasses
  exact .ite h.putWords.putWords.ok .error

theorem State.Sound.loadSection (h : s.Sound κ ν) {fmt2 : Bool} {typ : Nat} {body : List Byte} : OkSound κ ν (s.loadSection fmt2 typ body) := by
  unfold State.loadSection
  exact .ite (h.regLoad _) (.ite h.loadProgram (.ite h.loadTable (.ite h.loadClasses (.ite h.ok (.ite (h.loadWindows _) (.ite h.loadTable (.ite h.loadTable (.ite h.loadTable
    (.ite h.loadWayline (.ite h.loadTable h.ok))))))))))

theorem State.Sound.loadSections (h : s.Sound κ ν) {fmt2 : Bool} {bs : List Byte} {fuel : Nat} : OkSound κ ν (s.loadSections fmt2 bs fuel) := by
  induction fuel generalizing s bs with
  | zero => exact h.ok
  | succ k ih => exact .ite h.ok (.ite h.ok (.ite .error (.bind h.loadSection fun _ ht => ih ht)))

theorem State.Sound.applyImage (h : s.Sound κ ν) {a b : List Byte} : OkSound κ ν (s.applyImage a b) := by
  unfold State.applyImage
  refine .ite ((h.defaultConfig.setNvm.wn.wn.w32.setChgR.mirrorOcv).raise.ok) ?_
  refine .bind (State.Sound.loadSections ((h.defaultConfig.setNvm.wn.wn.w32).when fun _ ht => ht.raise)) fun t ht => ?_
  have hl : (t.when (!t.b F.SYS_CFG_LFXTAL) (·.p F.SYS_CLK_LFSRC 0)).Sound κ ν := ht.when fun _ hu => hu.p
  have hf := State.Sound.foldl (f := fun s n => s.p (F.DOM_CFG_USED n) 0) (l := [7, 8, 9, 10]) (hl.p (f := F.ADC_CFG_BGCAL) (v := 1)) fun _ _ hu => hu.p
  exact .ite .error (State.Sound.ite hf hl).sealWindows.mirrorOcv.setChgR.followWindow.ok

/-! ### Engine steps (R153 to R164) -/

theorem State.Sound.jumpTo (h : s.Sound κ ν) {k target : Nat} : OkSound κ ν (s.jumpTo k target) := by
  unfold State.jumpTo
  exact .ite .error h.setEng.ok

theorem State.Sound.doEnable (h : s.Sound κ ν) {k kind mask : Nat} : OkSound κ ν (s.doEnable k kind mask) := by
  unfold State.doEnable
  extract_lets on
  have hon : ∀ ns, OkSound κ ν (on ns) := fun ns => .ite .error h.domsOn.advance.ok
  split
  · exact hon _
  · exact (h.each fun _ _ ht => ht.trig).advance.ok
  · exact h.holdResets.advance.ok
  · exact h.setMonPower.advance.ok
  · exact hon _

theorem State.Sound.doDisable (h : s.Sound κ ν) {k kind mask : Nat} {nodis : Bool} : OkSound κ ν (s.doDisable k kind mask nodis) := by
  unfold State.doDisable
  split
  · exact (h.each fun _ _ ht => ht.domOff).advance.ok
  · exact (h.each fun _ _ ht => ht.trig).advance.ok
  · exact h.holdResets.advance.ok
  · exact h.setMonPower.advance.ok
  · exact h.shedOff.advance.ok

theorem State.Sound.doSet (h : s.Sound κ ν) {k i v : Nat} : OkSound κ ν (s.doSet k i v) := by
  unfold State.doSet
  exact .ite .error h.setIndex.advance.ok

theorem State.Sound.doCheck (h : s.Sound κ ν) {k : Nat} {inv act stop : Bool} {c op : Nat} : OkSound κ ν (s.doCheck k inv act stop c op) := by
  unfold State.doCheck
  exact .ite h.advance.ok (.ite h.jumpTo (State.Sound.ite h.raiseBy.endProgram h.raiseBy.advance).ok)

theorem State.Sound.doJump (h : s.Sound κ ν) {k : Nat} {inv en : Bool} {c target : Nat} : OkSound κ ν (s.doJump k inv en c target) := by
  unfold State.doJump
  exact .ite h.jumpTo h.advance.ok

theorem State.Sound.doLoop (h : s.Sound κ ν) {k : Nat} {second : Bool} {count target : Nat} : OkSound κ ν (s.doLoop k second count target) := by
  unfold State.doLoop
  exact .ite h.setEng.jumpTo (.ite h.setEng.advance.ok h.setEng.jumpTo)

theorem State.Sound.doStep (h : s.Sound κ ν) {k : Nat} (st : EngStep) : OkSound κ ν (s.doStep k st) := by
  cases st with
  | end_ => exact h.endProgram.ok
  | enable kind mask => exact h.doEnable
  | disable kind mask nodis => exact h.doDisable
  | set i v => exact h.doSet
  | wait unit count => exact h.doWait.ok
  | waitc inv c timeout => exact h.doWaitc.ok
  | check inv act stop c op => exact h.doCheck
  | jump inv en c target => exact h.doJump
  | signal kind op => exact h.doSignal.advance.ok
  | sync clr f => exact h.doSync.ok
  | loop second count target => exact h.doLoop

/-- A row of an engine keeps what each step that it executes keeps. -/
theorem State.Sound.engRow (h : s.Sound κ ν) {k : Nat} {f : State → EngStep → Option (Except Fault State)} (hf : ∀ (t : State) st, t.Sound κ ν → OptSound κ ν (f t st)) : OkSound κ ν (s.engRow k f) := by
  unfold State.engRow
  refine .ite ?_ h.ok
  split
  · exact .error
  · next st _ =>
    cases hr : f (s.openStep k) st with
    | none => exact h.ok
    | some r => exact hf _ _ h.openStep r hr

/-- A row that ends a wait keeps what its end keeps. -/
theorem State.Sound.waitRow (h : s.Sound κ ν) {k : Nat} {wt : Waiting} {f : State → EngStep → Option State} (hf : ∀ (t : State) st, t.Sound κ ν → SomeSound κ ν (f t st)) : OkSound κ ν (s.waitRow k wt f) := by
  unfold State.waitRow
  refine .ite ?_ h.ok
  split
  · exact .error
  · next st _ =>
    cases hr : f (s.openStep k) st with
    | none => exact h.ok
    | some u => exact (hf _ _ h.openStep u hr).ok

theorem State.Sound.enableRow (h : s.Sound κ ν) {k kind : Nat} : OkSound κ ν (s.enableRow k kind) :=
  h.engRow fun _ st ht => match st with
    | .enable _ _ => .ite ht.doEnable.some .none
    | .end_ | .disable .. | .set .. | .wait .. | .waitc .. | .check .. | .jump .. | .signal .. | .sync .. | .loop .. => .none

theorem State.Sound.disableRow (h : s.Sound κ ν) {k kind : Nat} : OkSound κ ν (s.disableRow k kind) :=
  h.engRow fun _ st ht => match st with
    | .disable _ _ _ => .ite ht.doDisable.some .none
    | .end_ | .enable .. | .set .. | .wait .. | .waitc .. | .check .. | .jump .. | .signal .. | .sync .. | .loop .. => .none

theorem State.Sound.signalRow (h : s.Sound κ ν) {k kind : Nat} : OkSound κ ν (s.signalRow k kind) :=
  h.engRow fun _ st ht => match st with
    | .signal _ _ => .ite ht.doSignal.advance.ok.some .none
    | .end_ | .enable .. | .disable .. | .set .. | .wait .. | .waitc .. | .check .. | .jump .. | .sync .. | .loop .. => .none

theorem State.Sound.waitcRow (h : s.Sound κ ν) {k : Nat} : OkSound κ ν (s.waitcRow k) :=
  h.engRow fun _ st ht => match st with
    | .waitc _ _ _ => ht.doWaitc.ok.some
    | .end_ | .enable .. | .disable .. | .set .. | .wait .. | .check .. | .jump .. | .signal .. | .sync .. | .loop .. => .none

theorem State.Sound.checkRow (h : s.Sound κ ν) {k : Nat} : OkSound κ ν (s.checkRow k) :=
  h.engRow fun _ st ht => match st with
    | .check _ _ _ _ _ => ht.doCheck.some
    | .end_ | .enable .. | .disable .. | .set .. | .wait .. | .waitc .. | .jump .. | .signal .. | .sync .. | .loop .. => .none

theorem State.Sound.jumpRow (h : s.Sound κ ν) {k : Nat} : OkSound κ ν (s.jumpRow k) :=
  h.engRow fun _ st ht => match st with
    | .jump _ _ _ _ => ht.doJump.some
    | .end_ | .enable .. | .disable .. | .set .. | .wait .. | .waitc .. | .check .. | .signal .. | .sync .. | .loop .. => .none

theorem State.Sound.waitcMet (h : s.Sound κ ν) {k : Nat} : OkSound κ ν (s.waitcMet k) :=
  h.waitRow fun _ st ht => match st with
    | .waitc _ _ _ => .ite ht.advance.some .none
    | .end_ | .enable .. | .disable .. | .set .. | .wait .. | .check .. | .jump .. | .signal .. | .sync .. | .loop .. => .none

/-! ### Debug (R169) -/

theorem State.Sound.dbgStep (h : s.Sound κ ν) {k : Nat} : OkSound κ ν (s.dbgStep k) := by
  unfold State.dbgStep
  refine .ite ?_ h.ok
  have ht := (h.sample.setEng (k := k) (f := Engine.preempt)).when (c := ((s.sample.setEng k Engine.preempt).engAt k).mode = .idle) (f := (·.startEngine k)) fun _ ht => ht.startEngine
  dsimp only
  split
  · split
    · exact .error
    · exact ht.doStep _
  · exact ht.setEng.ok
  · exact ht.ok
  · exact ht.ok

theorem State.Sound.dbgWrite (h : s.Sound κ ν) {w : Word} : OkSound κ ν (s.dbgWrite w) := by
  unfold State.dbgWrite
  refine .ite (.ite ?_ h.dbgSelect.ok) h.ok
  have ht := (h.dbgSelect (w := w)).when (c := F.ENG_DBG_HALT.get w = 1) (f := (·.halt (F.ENG_DBG_SEL.get w))) fun _ ht => ht.halt
  exact .bind (.ite ht.dbgStep ht.ok) fun _ hu => (hu.when fun _ hx => hx.resume).ok

/-! ### Host writes (R14, R120) -/

theorem State.Sound.writeRstCmd (h : s.Sound κ ν) {w : Word} : OkSound κ ν (s.writeRstCmd w) := by
  unfold State.writeRstCmd
  exact .ite h.resetCommand.ok .error

theorem State.Sound.writeKey (h : s.Sound κ ν) {a : Nat} {w : Word} : OptSound κ ν (s.writeKey a w) := by
  unfold State.writeKey
  refine .ite h.writeHifAck.ok.some <| .ite h.writeSysCtrl.ok.some <| .ite h.writeSysReset.ok.some <| .ite h.writeSysShip.ok.some <| .ite h.writeLdCtrl.ok.some <|
    .ite h.writePhCtl.ok.some <| .ite h.writeDrvCntclr.ok.some <| .ite h.writeLinCtrl.ok.some <| .ite h.strokeCommand.ok.some <| .ite h.writeRefCtl.ok.some <|
    .ite h.writeStkCntclr.ok.some <| .ite h.writeChgKey.ok.some <| .ite h.writeGauCtrl.ok.some <| .ite h.writeAdcCmd.ok.some <| .ite h.injWrite.ok.some <|
    .ite h.writeThmCntclr.ok.some <| .ite h.writeSetGo.ok.some <| .ite h.writeFltTest.ok.some <| .ite h.writeFltCntclr.ok.some <| .ite h.writeForce.ok.some <|
    .ite h.writeMrqCtl.ok.some <| .ite h.writeWayCntclr.ok.some <| .ite h.writeRstCmd.some <| .ite h.setFlags.ok.some <| .ite h.setFlags.ok.some <|
    .ite h.setFlags.ok.some <| .ite h.setFlags.ok.some <| .ite h.engTrigger.ok.some <| .ite h.dbgWrite.some ?_
  split
  · exact h.writeDomCntclr.ok.some
  · exact .none

theorem State.Sound.writeBarred (h : s.Sound κ ν) {a : Nat} {w : Word} : OptSound κ ν (s.writeBarred a w) := by
  unfold State.writeBarred
  exact .ite h.ok.some (.ite OkSound.error.some (.ite OkSound.error.some .none))

theorem State.Sound.storeWord (h : s.Sound κ ν) {a : Nat} {w : Word} : OkSound κ ν (s.storeWord a w) := by
  unfold State.storeWord
  split
  · next r hr => exact h.writeBarred r hr
  · exact .ite .error (.ite h.drawn.wn.ok (h.wr.afterStore.when fun _ ht => ht.p).ok)

theorem State.Sound.hostWrite (h : s.Sound κ ν) {a : Nat} {w : Word} : OkSound κ ν (s.hostWrite a w) := by
  unfold State.hostWrite
  refine .ite .error (.ite h.ok ?_)
  split
  · next r hr => exact h.writeKey r hr
  · exact h.storeWord

theorem State.Sound.hostWrites (h : s.Sound κ ν) {a : Nat} {ws : List Word} : OkSound κ ν (s.hostWrites a ws) := by
  induction ws generalizing s a with
  | nil => exact h.ok
  | cons w r ih => exact .bind h.hostWrite fun _ ht => ih ht

/-! ### Frames (R114 to R132) -/

theorem State.Sound.writeEffect (h : s.Sound κ ν) {c : Command} : OkSound κ ν (s.writeEffect c) := by
  unfold State.writeEffect
  dsimp only
  split
  · exact h.hostWrites
  · exact h.acknowledge.ok
  · exact h.relayStart.ok
  · exact h.p.ok
  all_goals exact h.ok

theorem State.Sound.runFrame (h : s.Sound κ ν) {code : Byte} {f : Frame} : OkSound κ ν (s.runFrame code f) := by
  unfold State.runFrame
  refine .ite h.ok ?_
  split
  · exact (State.Sound.ite h.demandFast.reject h.demandFast.reject.answer).ok
  · refine .ite (.ite h.demandFast.ok (State.Sound.ite h.demandFast.readEffect.accept h.demandFast.readEffect.accept.answer).ok) ?_
    exact .bind h.demandFast.writeEffect fun _ ht => (State.Sound.ite ht.accept ht.accept.answer).ok

end
end Sys2Proof.Machine
end

section
/-! PROOFS. So does every command. -/
namespace Sys2Proof.Machine

section
variable {κ : Bool} {ν : Option Nat} {s : State}

/-! ### What every command keeps -/

/-- How a command ends: with its step time from a sound state, or with one of the faults that φ names; it is never refused. -/
def Ends (κ : Bool) (ν : Option Nat) (φ : Fault → Prop) (r : Result) : Prop :=
  match r with
  | .next t => ∃ e : State, e.Sound κ ν ∧ t = e.settle
  | .fault f => φ f
  | .refused _ => False

/-- A command stops with no other faults than those that φ names. -/
def FaultsIn (φ : Fault → Prop) (r : Result) : Prop := ∀ e, r = .fault e → φ e

variable {φ : Fault → Prop}

theorem Ends.done (h : s.Sound κ ν) : Ends κ ν φ (done s) := ⟨s, h, rfl⟩

theorem Ends.ite {c : Prop} [Decidable c] {x y : Result} (hx : Ends κ ν φ x) (hy : Ends κ ν φ y) : Ends κ ν φ (if c then x else y) := by
  split
  · exact hx
  · exact hy

theorem Ends.ran {r : Except Fault State} (h : OkSound κ ν r) (hφ : FaultsIn φ (ran r)) : Ends κ ν φ (ran r) := by
  cases r with
  | error e => exact hφ e rfl
  | ok t => exact .done (h t rfl)

theorem Ends.hostDone (h : s.Sound κ ν) {f : State → State} (hf : ∀ t : State, t.Sound κ ν → (f t).Sound κ ν) : Ends κ ν φ (hostDone s f) :=
  .ite (.done (hf _ h.demandFast)) (.done h)

theorem Ends.hostRan (h : s.Sound κ ν) {f : State → Except Fault State} (hf : ∀ t : State, t.Sound κ ν → OkSound κ ν (f t)) (hφ : FaultsIn φ (hostRan s f)) : Ends κ ν φ (hostRan s f) := by
  unfold Machine.hostRan at *
  split
  next ha => exact .ran (hf _ h.demandFast) fun e he => hφ e ((if_pos ha).trans he)
  next => exact .done h

/-! ### The rows of steps that have no definition of their own -/

/-- The row of the SET step (R156). -/
theorem Ends.set (h : s.Sound κ ν) {k : Nat} (hφ : FaultsIn φ (execSet k s)) : Ends κ ν φ (execSet k s) :=
  .ran (h.engRow fun _ st ht => match st with
    | .set _ _ => ht.doSet.some
    | .end_ | .enable .. | .disable .. | .wait .. | .waitc .. | .check .. | .jump .. | .signal .. | .sync .. | .loop .. => .none) hφ

/-- The row of the WAIT step (R157). -/
theorem Ends.wait (h : s.Sound κ ν) {k : Nat} (hφ : FaultsIn φ (execWait k s)) : Ends κ ν φ (execWait k s) :=
  .ran (h.engRow fun _ st ht => match st with
    | .wait _ _ => ht.doWait.ok.some
    | .end_ | .enable .. | .disable .. | .set .. | .waitc .. | .check .. | .jump .. | .signal .. | .sync .. | .loop .. => .none) hφ

/-- The timeout of a WAITC (R158). -/
theorem Ends.waitcTimeout (h : s.Sound κ ν) {k : Nat} (hφ : FaultsIn φ (execWaitcTimeout k s)) : Ends κ ν φ (execWaitcTimeout k s) :=
  .ran (h.waitRow fun _ st ht => match st with
    | .waitc _ _ _ => .ite .none ht.advance.some
    | .end_ | .enable .. | .disable .. | .set .. | .wait .. | .check .. | .jump .. | .signal .. | .sync .. | .loop .. => .none) hφ

/-- The row of the SYNC step (R163). -/
theorem Ends.sync (h : s.Sound κ ν) {k : Nat} (hφ : FaultsIn φ (execSync k s)) : Ends κ ν φ (execSync k s) :=
  .ran (h.engRow fun _ st ht => match st with
    | .sync _ _ => ht.doSync.ok.some
    | .end_ | .enable .. | .disable .. | .set .. | .wait .. | .waitc .. | .check .. | .jump .. | .signal .. | .loop .. => .none) hφ

/-- The release of a SYNC (R163). -/
theorem Ends.syncRelease (h : s.Sound κ ν) {k : Nat} (hφ : FaultsIn φ (execSyncRelease k s)) : Ends κ ν φ (execSyncRelease k s) :=
  .ran (h.waitRow fun _ st ht => match st with
    | .sync _ _ => .ite ht.passSync.some .none
    | .end_ | .enable .. | .disable .. | .set .. | .wait .. | .waitc .. | .check .. | .jump .. | .signal .. | .loop .. => .none) hφ

/-- The row of the LOOP step (R164). -/
theorem Ends.loop (h : s.Sound κ ν) {k : Nat} (hφ : FaultsIn φ (execLoop k s)) : Ends κ ν φ (execLoop k s) :=
  .ran (h.engRow fun _ st ht => match st with
    | .loop _ _ _ => ht.doLoop.some
    | .end_ | .enable .. | .disable .. | .set .. | .wait .. | .waitc .. | .check .. | .jump .. | .signal .. | .sync .. => .none) hφ

/-! ### Every command -/

theorem Ends.preregStart (h : s.Sound κ ν) {lineDv battMv : Nat} : Ends κ ν φ (execPreregStart lineDv battMv s) :=
  .done h.preregStart

theorem Ends.aoReady (h : s.Sound κ ν) (hao : ν = none ∨ s.aoOn = true) {straps : Straps} {pack : Bool} : Ends κ ν φ (execAoReady straps pack s) :=
  .done (h.aoReady hao)

theorem Ends.preregStop (h : s.Sound κ ν) {lineDv battMv : Nat} : Ends κ ν φ (execPreregStop lineDv battMv s) :=
  .done h.preregStop

theorem Ends.vbkupLevelChange (h : s.Sound κ ν) {mv : Nat} : Ends κ ν φ (execVbkupLevelChange mv s) :=
  .done h.vbkupLevel

theorem Ends.imageReadDone (h : s.Sound κ ν) {copyA copyB : List Byte} {straps : Straps} (hφ : FaultsIn φ (execImageReadDone copyA copyB straps s)) : Ends κ ν φ (execImageReadDone copyA copyB straps s) := by
  unfold execImageReadDone at *
  split
  next ha => exact .ran (.map h.readStraps.applyImage fun _ ht => ht.lineOv) fun e he => hφ e ((if_pos ha).trans he)
  next => exact .done h

theorem Ends.learnedReadDone (h : s.Sound κ ν) {slotA slotB : List Byte} : Ends κ ν φ (execLearnedReadDone slotA slotB s) :=
  .ite (.done h.resolveLearned) (.done h)

theorem Ends.fflogReadDone (h : s.Sound κ ν) {ring : List Byte} : Ends κ ν φ (execFflogReadDone ring s) :=
  .ite (.done h.scanLog.endBoot) (.done h)

theorem Ends.sysReset (h : s.Sound κ ν) {w : Word} : Ends κ ν φ (execSysReset w s) :=
  .hostDone h (fun _ ht => ht.writeSysReset)

theorem Ends.sysShip (h : s.Sound κ ν) {w : Word} : Ends κ ν φ (execSysShip w s) :=
  .hostDone h (fun _ ht => ht.writeSysShip)

theorem Ends.pbRelease (h : s.Sound κ ν) {ms : Nat} : Ends κ ν φ (execPbRelease ms s) :=
  .done h.pbRelease

theorem Ends.wakePinEdge (h : s.Sound κ ν) {pin : Nat} {rising : Bool} : Ends κ ν φ (execWakePinEdge pin rising s) :=
  .done (h.when (fun _ ht => ht.wakeSource))

theorem Ends.pfwHoldExpiry (h : s.Sound κ ν) {cause : HoldFor} : Ends κ ν φ (execPfwHoldExpiry cause s) :=
  .done h.holdEnds

theorem Ends.thermalShutdown (h : s.Sound κ ν) {k : Nat} : Ends κ ν φ (execThermalShutdown k s) :=
  .done h.thermalShutdown

theorem Ends.shutdownRelease (h : s.Sound κ ν) {k : Nat} : Ends κ ν φ (execShutdownRelease k s) :=
  .done h.shutdownRelease

theorem Ends.nop (h : s.Sound κ ν) {f : Frame} (hφ : FaultsIn φ (execNop f s)) : Ends κ ν φ (execNop f s) :=
  .ran h.runFrame hφ

theorem Ends.rd (h : s.Sound κ ν) {f : Frame} (hφ : FaultsIn φ (execRd f s)) : Ends κ ν φ (execRd f s) :=
  .ran h.runFrame hφ

theorem Ends.wr (h : s.Sound κ ν) {f : Frame} (hφ : FaultsIn φ (execWr f s)) : Ends κ ν φ (execWr f s) :=
  .ran h.runFrame hφ

theorem Ends.rdb (h : s.Sound κ ν) {f : Frame} (hφ : FaultsIn φ (execRdb f s)) : Ends κ ν φ (execRdb f s) :=
  .ran h.runFrame hφ

theorem Ends.rd32 (h : s.Sound κ ν) {f : Frame} (hφ : FaultsIn φ (execRd32 f s)) : Ends κ ν φ (execRd32 f s) :=
  .ran h.runFrame hφ

theorem Ends.qpop (h : s.Sound κ ν) {f : Frame} (hφ : FaultsIn φ (execQpop f s)) : Ends κ ν φ (execQpop f s) :=
  .ran h.runFrame hφ

theorem Ends.qpopReread (h : s.Sound κ ν) {f : Frame} (hφ : FaultsIn φ (execQpopReread f s)) : Ends κ ν φ (execQpopReread f s) :=
  .ran h.runFrame hφ

theorem Ends.ack (h : s.Sound κ ν) {f : Frame} (hφ : FaultsIn φ (execAck f s)) : Ends κ ν φ (execAck f s) :=
  .ran h.runFrame hφ

theorem Ends.rly (h : s.Sound κ ν) {f : Frame} (hφ : FaultsIn φ (execRly f s)) : Ends κ ν φ (execRly f s) :=
  .ran h.runFrame hφ

theorem Ends.hello (h : s.Sound κ ν) {f : Frame} (hφ : FaultsIn φ (execHello f s)) : Ends κ ν φ (execHello f s) :=
  .ran h.runFrame hφ

theorem Ends.select (h : s.Sound κ ν) {f : Frame} (hφ : FaultsIn φ (execSelect f s)) : Ends κ ν φ (execSelect f s) :=
  .ran h.runFrame hφ

theorem Ends.reservedOpcode (h : s.Sound κ ν) {op : Byte} {f : Frame} (hφ : FaultsIn φ (execReservedOpcode op f s)) : Ends κ ν φ (execReservedOpcode op f s) :=
  .ran h.runFrame hφ

theorem Ends.statusPoll (h : s.Sound κ ν) {target taken : Nat} : Ends κ ν φ (execStatusPoll target taken s) :=
  .done h.poll

theorem Ends.i2cBusTimeout (h : s.Sound κ ν) : Ends κ ν φ (execI2cBusTimeout s) :=
  .done h.busTimeout

theorem Ends.registerWrite (h : s.Sound κ ν) {addr value : Word} (hφ : FaultsIn φ (execRegisterWrite addr value s)) : Ends κ ν φ (execRegisterWrite addr value s) :=
  .hostRan h (fun _ ht => ht.hostWrite) hφ

theorem Ends.hifAck (h : s.Sound κ ν) {w : Word} : Ends κ ν φ (execHifAck w s) :=
  .hostDone h (fun _ ht => ht.writeHifAck)

theorem Ends.hifErrRead (h : s.Sound κ ν) : Ends κ ν φ (execHifErrRead s) :=
  .done h.readOne

theorem Ends.ldErase (h : s.Sound κ ν) {w : Word} : Ends κ ν φ (execLdErase w s) :=
  .hostDone h (fun _ ht => ht.writeLdCtrl)

theorem Ends.fflogErase (h : s.Sound κ ν) {w : Word} : Ends κ ν φ (execFflogErase w s) :=
  .hostDone h (fun _ ht => ht.writeLdCtrl)

theorem Ends.writebackRequest (h : s.Sound κ ν) {w : Word} : Ends κ ν φ (execWritebackRequest w s) :=
  .hostDone h (fun _ ht => ht.writeLdCtrl)

theorem Ends.verifyReadDone (h : s.Sound κ ν) {bytes : List Byte} : Ends κ ν φ (execVerifyReadDone bytes s) :=
  .done h.verifyDone

theorem Ends.copyBChunkDone (h : s.Sound κ ν) {bytes : List Byte} : Ends κ ν φ (execCopyBChunkDone bytes s) :=
  .done h.copyBChunk

theorem Ends.engineStart (h : s.Sound κ ν) {k : Nat} : Ends κ ν φ (execEngineStart k s) :=
  .done (h.when (fun _ ht => ht.keepStep.startEngine))

theorem Ends.engEnd (h : s.Sound κ ν) {k : Nat} (hφ : FaultsIn φ (execEngEnd k s)) : Ends κ ν φ (execEngEnd k s) :=
  .ran (h.engRow fun _ _ ht => .ite ht.endProgram.ok.some .none) hφ

theorem Ends.enableDomain (h : s.Sound κ ν) {k : Nat} (hφ : FaultsIn φ (execEnableDomain k s)) : Ends κ ν φ (execEnableDomain k s) :=
  .ran h.enableRow hφ

theorem Ends.enableSequence (h : s.Sound κ ν) {k : Nat} (hφ : FaultsIn φ (execEnableSequence k s)) : Ends κ ν φ (execEnableSequence k s) :=
  .ran h.enableRow hφ

theorem Ends.enableResetRelease (h : s.Sound κ ν) {k : Nat} (hφ : FaultsIn φ (execEnableResetRelease k s)) : Ends κ ν φ (execEnableResetRelease k s) :=
  .ran h.enableRow hφ

theorem Ends.enableMonitor (h : s.Sound κ ν) {k : Nat} (hφ : FaultsIn φ (execEnableMonitor k s)) : Ends κ ν φ (execEnableMonitor k s) :=
  .ran h.enableRow hφ

theorem Ends.enableShedSet (h : s.Sound κ ν) {k : Nat} (hφ : FaultsIn φ (execEnableShedSet k s)) : Ends κ ν φ (execEnableShedSet k s) :=
  .ran h.enableRow hφ

theorem Ends.disableDomain (h : s.Sound κ ν) {k : Nat} (hφ : FaultsIn φ (execDisableDomain k s)) : Ends κ ν φ (execDisableDomain k s) :=
  .ran h.disableRow hφ

theorem Ends.disableSequence (h : s.Sound κ ν) {k : Nat} (hφ : FaultsIn φ (execDisableSequence k s)) : Ends κ ν φ (execDisableSequence k s) :=
  .ran h.disableRow hφ

theorem Ends.disableReset (h : s.Sound κ ν) {k : Nat} (hφ : FaultsIn φ (execDisableReset k s)) : Ends κ ν φ (execDisableReset k s) :=
  .ran h.disableRow hφ

theorem Ends.disableMonitor (h : s.Sound κ ν) {k : Nat} (hφ : FaultsIn φ (execDisableMonitor k s)) : Ends κ ν φ (execDisableMonitor k s) :=
  .ran h.disableRow hφ

theorem Ends.disableShedSet (h : s.Sound κ ν) {k : Nat} (hφ : FaultsIn φ (execDisableShedSet k s)) : Ends κ ν φ (execDisableShedSet k s) :=
  .ran h.disableRow hφ

theorem Ends.waitExpiry (h : s.Sound κ ν) {k : Nat} (hφ : FaultsIn φ (execWaitExpiry k s)) : Ends κ ν φ (execWaitExpiry k s) :=
  .ran (h.waitRow fun _ _ ht => ht.advance.some) hφ

theorem Ends.waitc (h : s.Sound κ ν) {k : Nat} {pins : PinSample} (hφ : FaultsIn φ (execWaitc k pins s)) : Ends κ ν φ (execWaitc k pins s) :=
  .ran h.setPins.waitcRow hφ

theorem Ends.waitcConditionMet (h : s.Sound κ ν) {k : Nat} {pins : PinSample} (hφ : FaultsIn φ (execWaitcConditionMet k pins s)) : Ends κ ν φ (execWaitcConditionMet k pins s) :=
  .ran h.setPins.waitcMet hφ

theorem Ends.check (h : s.Sound κ ν) {k : Nat} {pins : PinSample} (hφ : FaultsIn φ (execCheck k pins s)) : Ends κ ν φ (execCheck k pins s) :=
  .ran h.setPins.checkRow hφ

theorem Ends.jump (h : s.Sound κ ν) {k : Nat} {pins : PinSample} (hφ : FaultsIn φ (execJump k pins s)) : Ends κ ν φ (execJump k pins s) :=
  .ran h.setPins.jumpRow hφ

theorem Ends.signalSetFlags (h : s.Sound κ ν) {k : Nat} (hφ : FaultsIn φ (execSignalSetFlags k s)) : Ends κ ν φ (execSignalSetFlags k s) :=
  .ran h.signalRow hφ

theorem Ends.signalClearFlags (h : s.Sound κ ν) {k : Nat} (hφ : FaultsIn φ (execSignalClearFlags k s)) : Ends κ ν φ (execSignalClearFlags k s) :=
  .ran h.signalRow hφ

theorem Ends.signalDrivePin (h : s.Sound κ ν) {k : Nat} (hφ : FaultsIn φ (execSignalDrivePin k s)) : Ends κ ν φ (execSignalDrivePin k s) :=
  .ran h.signalRow hφ

theorem Ends.signalRaiseSource (h : s.Sound κ ν) {k : Nat} (hφ : FaultsIn φ (execSignalRaiseSource k s)) : Ends κ ν φ (execSignalRaiseSource k s) :=
  .ran h.signalRow hφ

theorem Ends.signalPostReport (h : s.Sound κ ν) {k : Nat} (hφ : FaultsIn φ (execSignalPostReport k s)) : Ends κ ν φ (execSignalPostReport k s) :=
  .ran h.signalRow hφ

theorem Ends.signalStartTimer (h : s.Sound κ ν) {k : Nat} (hφ : FaultsIn φ (execSignalStartTimer k s)) : Ends κ ν φ (execSignalStartTimer k s) :=
  .ran h.signalRow hφ

theorem Ends.signalRequestState (h : s.Sound κ ν) {k : Nat} (hφ : FaultsIn φ (execSignalRequestState k s)) : Ends κ ν φ (execSignalRequestState k s) :=
  .ran h.signalRow hφ

theorem Ends.engStall (h : s.Sound κ ν) {k : Nat} : Ends κ ν φ (execEngStall k s) :=
  .done h.engStalled

theorem Ends.timerExpiry (h : s.Sound κ ν) {t : Nat} : Ends κ ν φ (execTimerExpiry t s) :=
  .done h.timerDone

theorem Ends.hkTick (h : s.Sound κ ν) : Ends κ ν φ (execHkTick s) :=
  .done h.hkTick

theorem Ends.aliveToggle (h : s.Sound κ ν) : Ends κ ν φ (execAliveToggle s) :=
  .done h.aliveToggle

theorem Ends.aliveMiss (h : s.Sound κ ν) : Ends κ ν φ (execAliveMiss s) :=
  .done h.aliveMiss

theorem Ends.engTrig (h : s.Sound κ ν) {w : Word} : Ends κ ν φ (execEngTrig w s) :=
  .hostDone h (fun _ ht => ht.engTrigger)

theorem Ends.engDbgHalt (h : s.Sound κ ν) {w : Word} (hφ : FaultsIn φ (execEngDbgHalt w s)) : Ends κ ν φ (execEngDbgHalt w s) :=
  .hostRan h (fun _ ht => ht.dbgWrite) hφ

theorem Ends.engDbgStep (h : s.Sound κ ν) {w : Word} {pins : PinSample} (hφ : FaultsIn φ (execEngDbgStep w pins s)) : Ends κ ν φ (execEngDbgStep w pins s) :=
  .hostRan h (fun _ ht => ht.setPins.dbgWrite) hφ

theorem Ends.engDbgResume (h : s.Sound κ ν) {w : Word} (hφ : FaultsIn φ (execEngDbgResume w s)) : Ends κ ν φ (execEngDbgResume w s) :=
  .hostRan h (fun _ ht => ht.dbgWrite) hφ

theorem Ends.controllerWatchdog (h : s.Sound κ ν) {gauge : Bool} : Ends κ ν φ (execControllerWatchdog gauge s) :=
  .ite (.done (h.when (fun _ ht => ht.gaugeRestart.raise))) (.done (h.when (fun _ ht => ht.linkRestart.raise)))

theorem Ends.softStartEnd (h : s.Sound κ ν) {n : Nat} : Ends κ ν φ (execSoftStartEnd n s) :=
  .done h.softStartEnd

theorem Ends.powerGood (h : s.Sound κ ν) {n : Nat} : Ends κ ν φ (execPowerGood n s) :=
  .done h.becomeGood

theorem Ends.comparatorChange (h : s.Sound κ ν) {k mv : Nat} {sw : Switching} : Ends κ ν φ (execComparatorChange k mv sw s) :=
  .done (h.switched.comparator (fun _ _ ht => ht.offNow))

theorem Ends.underVoltageReport (h : s.Sound κ ν) {n : Nat} : Ends κ ν φ (execUnderVoltageReport n s) :=
  .done (h.when (fun _ ht => ht.reportDom (fun _ _ ht1 => ht1.offNow)))

theorem Ends.resetOutputRelease (h : s.Sound κ ν) {i : Nat} : Ends κ ν φ (execResetOutputRelease i s) :=
  .done (h.each (fun _ _ ht => State.Sound.ite ht.setDom ht))

theorem Ends.blankingEnd (h : s.Sound κ ν) {k mv : Nat} {sw : Switching} : Ends κ ν φ (execBlankingEnd k mv sw s) :=
  .done (h.switched.blankEnd (fun _ _ ht => ht.offNow))

theorem Ends.supervisionTick (h : s.Sound κ ν) {inputs : List (Nat × Nat)} {sw : Switching} : Ends κ ν φ (execSupervisionTick inputs sw s) :=
  .done ((h.switched.supervise (fun _ _ ht => ht.offNow)).when (fun _ ht => ht.takeTick))

theorem Ends.generalTimerExpiry (h : s.Sound κ ν) : Ends κ ν φ (execGeneralTimerExpiry s) :=
  .done h.blankEdge

theorem Ends.inputLockoutChange (h : s.Sound κ ν) {n mv : Nat} : Ends κ ν φ (execInputLockoutChange n mv s) :=
  .done h.inputLevel

theorem Ends.dischargeEnd (h : s.Sound κ ν) {n : Nat} : Ends κ ν φ (execDischargeEnd n s) :=
  .done (State.Sound.ite h.setDrv (State.Sound.ite h h.p))

theorem Ends.currentLimitActs (h : s.Sound κ ν) {n : Nat} : Ends κ ν φ (execCurrentLimitActs n s) :=
  .done (h.when (fun _ ht => ht.limitActs))

theorem Ends.dvsSetpointWrite (h : s.Sound κ ν) {n : Nat} {w : Word} (hφ : FaultsIn φ (execDvsSetpointWrite n w s)) : Ends κ ν φ (execDvsSetpointWrite n w s) :=
  .hostRan h (fun _ ht => ht.hostWrite) hφ

theorem Ends.dvsTargetReached (h : s.Sound κ ν) {n : Nat} : Ends κ ν φ (execDvsTargetReached n s) :=
  .done (h.when (fun _ ht => ht.track.setDom))

theorem Ends.dvsSlewDone (h : s.Sound κ ν) {n : Nat} : Ends κ ν φ (execDvsSlewDone n s) :=
  .done (h.when (fun _ ht => ht.dvsDone))

theorem Ends.lockPullinEnd (h : s.Sound κ ν) {vdrv : Nat} : Ends κ ν φ (execLockPullinEnd vdrv s) :=
  .done (h.when (fun _ ht => ht.beside.p.lockEdge))

theorem Ends.lockShortCircuit (h : s.Sound κ ν) {consecutive : Bool} : Ends κ ν φ (execLockShortCircuit consecutive s) :=
  .done h.lockShort

theorem Ends.lockDemagEnd (h : s.Sound κ ν) : Ends κ ν φ (execLockDemagEnd s) :=
  .done (h.when (fun _ ht => ht.p))

theorem Ends.domCntclr (h : s.Sound κ ν) {n : Nat} {w : Word} : Ends κ ν φ (execDomCntclr n w s) :=
  .hostDone h (fun _ ht => ht.writeDomCntclr)

theorem Ends.pumaxExpiry (h : s.Sound κ ν) : Ends κ ν φ (execPumaxExpiry s) :=
  .done (h.when (fun _ ht => ht.setCtl.raise))

theorem Ends.pdmaxExpiry (h : s.Sound κ ν) : Ends κ ν φ (execPdmaxExpiry s) :=
  .done h.powerDownTimeout

theorem Ends.linePresent (h : s.Sound κ ν) {dv : Nat} : Ends κ ν φ (execLinePresent dv s) :=
  .done h.linePresent

theorem Ends.lineNotPresent (h : s.Sound κ ν) {dv : Nat} : Ends κ ν φ (execLineNotPresent dv s) :=
  .done h.lineAbsent

theorem Ends.srcidReadDone (h : s.Sound κ ν) {mv : Nat} : Ends κ ν φ (execSrcidReadDone mv s) :=
  .done h.srcidRead

theorem Ends.lineWindowChange (h : s.Sound κ ν) {dv : Nat} : Ends κ ν φ (execLineWindowChange dv s) :=
  .done h.windowChange

theorem Ends.lineQualified (h : s.Sound κ ν) (hao : ν = none ∨ s.aoOn = true) : Ends κ ν φ (execLineQualified s) :=
  .done (h.lineQualified hao)

theorem Ends.lineLoss (h : s.Sound κ ν) {dv : Nat} : Ends κ ν φ (execLineLoss dv s) :=
  .done h.lineLoss

theorem Ends.lineOvOpening (h : s.Sound κ ν) {dv : Nat} : Ends κ ν φ (execLineOvOpening dv s) :=
  .done h.lineOv

theorem Ends.lineShortCircuit (h : s.Sound κ ν) : Ends κ ν φ (execLineShortCircuit s) :=
  .done h.lineShort

theorem Ends.staggerEnd (h : s.Sound κ ν) : Ends κ ν φ (execStaggerEnd s) :=
  .done h.staggerEnd

theorem Ends.soaExpiry (h : s.Sound κ ν) : Ends κ ν φ (execSoaExpiry s) :=
  .done h.soaExpiry

theorem Ends.sluiceFullyOn (h : s.Sound κ ν) {vdrv : Nat} : Ends κ ν φ (execSluiceFullyOn vdrv s) :=
  .done h.setDrv.sluiceOn

theorem Ends.retryDelayEnd (h : s.Sound κ ν) : Ends κ ν φ (execRetryDelayEnd s) :=
  .done h.retryEnd

theorem Ends.retryCountClear (h : s.Sound κ ν) : Ends κ ν φ (execRetryCountClear s) :=
  .done h.retryClear

theorem Ends.lineImplausible (h : s.Sound κ ν) : Ends κ ν φ (execLineImplausible s) :=
  .done h.lineImplausible

theorem Ends.chgokSet (h : s.Sound κ ν) : Ends κ ν φ (execChgokSet s) :=
  .done h.chgOkSet

theorem Ends.linLatchClear (h : s.Sound κ ν) {w : Word} : Ends κ ν φ (execLinLatchClear w s) :=
  .hostDone h (fun _ ht => ht.writeLinCtrl)

theorem Ends.linCounterClear (h : s.Sound κ ν) {w : Word} : Ends κ ν φ (execLinCounterClear w s) :=
  .hostDone h (fun _ ht => ht.writeLinCtrl)

theorem Ends.weirTurnOn (h : s.Sound κ ν) {vdrv batt : Nat} : Ends κ ν φ (execWeirTurnOn vdrv batt s) :=
  .done h.weirTurnOn

theorem Ends.weirReverseBlock (h : s.Sound κ ν) {vdrv batt : Nat} : Ends κ ν φ (execWeirReverseBlock vdrv batt s) :=
  .done h.weirReverse

theorem Ends.weirTakeoverDone (h : s.Sound κ ν) {vdrv batt : Nat} : Ends κ ν φ (execWeirTakeoverDone vdrv batt s) :=
  .done h.takeoverDone

theorem Ends.weirTakeoverFail (h : s.Sound κ ν) : Ends κ ν φ (execWeirTakeoverFail s) :=
  .done h.takeoverFail

theorem Ends.weirShortCircuit (h : s.Sound κ ν) : Ends κ ν φ (execWeirShortCircuit s) :=
  .done h.weirShort

theorem Ends.weirHandback (h : s.Sound κ ν) : Ends κ ν φ (execWeirHandback s) :=
  .done h.handbackDue

theorem Ends.driveFrame (h : s.Sound κ ν) {vdrv : Nat} {dcs lsense : Int} {vlsrc : Nat} {sumAgrees sample : Bool} : Ends κ ν φ (execDriveFrame vdrv dcs lsense vlsrc sumAgrees sample s) :=
  .done h.driveFrame

theorem Ends.balanceUpdate (h : s.Sound κ ν) {cs : List Int} {dcs : Int} : Ends κ ν φ (execBalanceUpdate cs dcs s) :=
  .done (h.when (fun _ ht => ht.balance))

theorem Ends.syncInEdge (h : s.Sound κ ν) {err : Int} {period : Nat} : Ends κ ν φ (execSyncInEdge err period s) :=
  .done h.syncEdge

theorem Ends.syncLoss (h : s.Sound κ ν) : Ends κ ν φ (execSyncLoss s) :=
  .done h.syncLost

theorem Ends.driveFastLimit (h : s.Sound κ ν) {k : Nat} {cs : Int} : Ends κ ν φ (execDriveFastLimit k cs s) :=
  .done (h.when (fun _ ht => ht.setDom))

theorem Ends.hiccupEntry (h : s.Sound κ ν) {k : Nat} : Ends κ ν φ (execHiccupEntry k s) :=
  .done h.hiccup

theorem Ends.hiccupEnd (h : s.Sound κ ν) : Ends κ ν φ (execHiccupEnd s) :=
  .done (h.when (fun _ ht => ht.hiccupOver))

theorem Ends.driveOverload (h : s.Sound κ ν) : Ends κ ν φ (execDriveOverload s) :=
  .done (h.when (fun _ ht => ht.setDrv.raise))

theorem Ends.phaseShed (h : s.Sound κ ν) {dcs : Int} : Ends κ ν φ (execPhaseShed dcs s) :=
  .done h.shedPhase

theorem Ends.phaseReadd (h : s.Sound κ ν) {dcs : Int} : Ends κ ν φ (execPhaseReadd dcs s) :=
  .done h.readdPhase

theorem Ends.sheddingResume (h : s.Sound κ ν) : Ends κ ν φ (execSheddingResume s) :=
  .done (h.when (fun _ ht => ht.setDrv))

theorem Ends.openPhaseDetect (h : s.Sound κ ν) {k iout : Nat} : Ends κ ν φ (execOpenPhaseDetect k iout s) :=
  .done (h.when (fun _ ht => ht.detectPhase))

theorem Ends.senseFailDetect (h : s.Sound κ ν) {k test iout : Nat} : Ends κ ν φ (execSenseFailDetect k test iout s) :=
  .done (h.when (fun _ ht => ht.detectPhase))

theorem Ends.senseSumFail (h : s.Sound κ ν) : Ends κ ν φ (execSenseSumFail s) :=
  .done (h.when (fun _ ht => ht.setDrv.raise))

theorem Ends.phaseRetire (h : s.Sound κ ν) {ks : List Nat} : Ends κ ν φ (execPhaseRetire ks s) :=
  .done h.retireAt

theorem Ends.driveSoftStartEnd (h : s.Sound κ ν) : Ends κ ν φ (execDriveSoftStartEnd s) :=
  .done h.drvSoftStartEnd

theorem Ends.driveSetpointWrite (h : s.Sound κ ν) {w : Word} (hφ : FaultsIn φ (execDriveSetpointWrite w s)) : Ends κ ν φ (execDriveSetpointWrite w s) :=
  .hostRan h (fun _ ht => ht.hostWrite) hφ

theorem Ends.driveTargetReached (h : s.Sound κ ν) {tmax : Bool} : Ends κ ν φ (execDriveTargetReached tmax s) :=
  .done (h.when (fun _ ht => ht.setDom))

theorem Ends.driveSlewDone (h : s.Sound κ ν) : Ends κ ν φ (execDriveSlewDone s) :=
  .done (h.when (fun _ ht => ht.driveSlewEnd))

theorem Ends.phaseReinstate (h : s.Sound κ ν) {w : Word} : Ends κ ν φ (execPhaseReinstate w s) :=
  .hostDone h (fun _ ht => ht.writePhCtl)

theorem Ends.drvCntclr (h : s.Sound κ ν) {w : Word} : Ends κ ν φ (execDrvCntclr w s) :=
  .hostDone h (fun _ ht => ht.writeDrvCntclr)

theorem Ends.strokePinHint (h : s.Sound κ ν) {width : Nat} : Ends κ ν φ (execStrokePinHint width s) :=
  .done h.pinHint

theorem Ends.stkHint (h : s.Sound κ ν) {w : Word} : Ends κ ν φ (execStkHint w s) :=
  .hostDone h (fun _ ht => ht.strokeCommand)

theorem Ends.stkGo (h : s.Sound κ ν) {w : Word} : Ends κ ν φ (execStkGo w s) :=
  .hostDone h (fun _ ht => ht.strokeCommand)

theorem Ends.stkEnd (h : s.Sound κ ν) {w : Word} : Ends κ ν φ (execStkEnd w s) :=
  .hostDone h (fun _ ht => ht.strokeCommand)

theorem Ends.stkCancel (h : s.Sound κ ν) {w : Word} : Ends κ ν φ (execStkCancel w s) :=
  .hostDone h (fun _ ht => ht.strokeCommand)

theorem Ends.prearmTimeout (h : s.Sound κ ν) : Ends κ ν φ (execPrearmTimeout s) :=
  .done (h.when (fun _ ht => ht.cancelStroke))

theorem Ends.strokeSample (h : s.Sound κ ν) {battMv : Nat} : Ends κ ν φ (execStrokeSample battMv s) :=
  .done (h.when (fun _ ht => ht.strokeSample.chargerMeasured))

theorem Ends.strokeStartDetect (h : s.Sound κ ν) : Ends κ ν φ (execStrokeStartDetect s) :=
  .done h.startDetect

theorem Ends.strokeEndDetect (h : s.Sound κ ν) : Ends κ ν φ (execStrokeEndDetect s) :=
  .done h.endDetect

theorem Ends.provingSample (h : s.Sound κ ν) {k battMv : Nat} {ib : Int} : Ends κ ν φ (execProvingSample k battMv ib s) :=
  .done h.provingSample

theorem Ends.batteryPhaseEnd (h : s.Sound κ ν) : Ends κ ν φ (execBatteryPhaseEnd s) :=
  .done h.endBattPhase

theorem Ends.streamInterval (h : s.Sound κ ν) {k late : Nat} : Ends κ ν φ (execStreamInterval k late s) :=
  .done h.streamOut

theorem Ends.recorderTimeExtension (h : s.Sound κ ν) : Ends κ ν φ (execRecorderTimeExtension s) :=
  .done h.extendTime

theorem Ends.stkRefctl (h : s.Sound κ ν) {w : Word} : Ends κ ν φ (execStkRefctl w s) :=
  .hostDone h (fun _ ht => ht.writeRefCtl)

theorem Ends.stkCntclr (h : s.Sound κ ν) {w : Word} : Ends κ ν φ (execStkCntclr w s) :=
  .hostDone h (fun _ ht => ht.writeStkCntclr)

theorem Ends.batteryInserted (h : s.Sound κ ν) {battMv : Nat} : Ends κ ν φ (execBatteryInserted battMv s) :=
  .done (h.when (fun _ ht => ht.batteryIn))

theorem Ends.batteryRemoved (h : s.Sound κ ν) : Ends κ ν φ (execBatteryRemoved s) :=
  .done (h.when (fun _ ht => ht.batteryOut))

theorem Ends.presenceProbe (h : s.Sound κ ν) : Ends κ ν φ (execPresenceProbe s) :=
  .done h

theorem Ends.chargePhaseChange (h : s.Sound κ ν) {battMv : Nat} : Ends κ ν φ (execChargePhaseChange battMv s) :=
  .done (h.when (fun _ ht => ht.phaseChange))

theorem Ends.chargeTermination (h : s.Sound κ ν) : Ends κ ν φ (execChargeTermination s) :=
  .done h.chargeDone

theorem Ends.topoffEnd (h : s.Sound κ ν) : Ends κ ν φ (execTopoffEnd s) :=
  .done (h.when (fun _ ht => ht.setChgR))

theorem Ends.rechargeStart (h : s.Sound κ ν) : Ends κ ν φ (execRechargeStart s) :=
  .done (h.when (fun _ ht => ht.startCycle))

theorem Ends.prechargeTimerExpiry (h : s.Sound κ ν) : Ends κ ν φ (execPrechargeTimerExpiry s) :=
  .done (h.when (fun _ ht => ht.chargerFault))

theorem Ends.safetyTimerExpiry (h : s.Sound κ ν) : Ends κ ν φ (execSafetyTimerExpiry s) :=
  .done (h.when (fun _ ht => ht.chargerFault))

theorem Ends.chgBatOv (h : s.Sound κ ν) : Ends κ ν φ (execChgBatOv s) :=
  .done (h.when (fun _ ht => ht.setChgR.p.raise))

theorem Ends.chgBatOvRecover (h : s.Sound κ ν) : Ends κ ν φ (execChgBatOvRecover s) :=
  .done h.setChgR

theorem Ends.chgStageOc (h : s.Sound κ ν) : Ends κ ν φ (execChgStageOc s) :=
  .done (h.when (fun _ ht => ht.stageOverCurrent))

theorem Ends.chgStageRestart (h : s.Sound κ ν) : Ends κ ν φ (execChgStageRestart s) :=
  .done h.setChgR

theorem Ends.chgVinLow (h : s.Sound κ ν) : Ends κ ν φ (execChgVinLow s) :=
  .done h.vinTooLow

theorem Ends.chgVinLowRecover (h : s.Sound κ ν) : Ends κ ν φ (execChgVinLowRecover s) :=
  .done h.setChgR

theorem Ends.chgWatchdogExpiry (h : s.Sound κ ν) : Ends κ ν φ (execChgWatchdogExpiry s) :=
  .done h.chgWatchdog

theorem Ends.chgWdKick (h : s.Sound κ ν) {w : Word} : Ends κ ν φ (execChgWdKick w s) :=
  .hostDone h (fun _ ht => ht.writeChgKey)

theorem Ends.chgFaultRetry (h : s.Sound κ ν) {w : Word} : Ends κ ν φ (execChgFaultRetry w s) :=
  .hostDone h (fun _ ht => ht.writeChgKey)

theorem Ends.chgCntClear (h : s.Sound κ ν) {w : Word} : Ends κ ν φ (execChgCntClear w s) :=
  .hostDone h (fun _ ht => ht.writeChgKey)

theorem Ends.chargerAllowanceUpdate (h : s.Sound κ ν) {cs : Int} {battMv vlsrc : Nat} {lsense vloop : Int} : Ends κ ν φ (execChargerAllowanceUpdate cs battMv vlsrc lsense vloop s) :=
  .done (h.when (fun _ ht => ht.shareLine))

theorem Ends.coulombResult (h : s.Sound κ ν) {raw : Int} : Ends κ ν φ (execCoulombResult raw s) :=
  .done (h.when (fun _ ht => ht.coulombResult))

theorem Ends.ccRange (h : s.Sound κ ν) : Ends κ ν φ (execCcRange s) :=
  .done (h.when (fun _ ht => ht.setGau.spoilPair.raise))

theorem Ends.gauAccRead (h : s.Sound κ ν) : Ends κ ν φ (execGauAccRead s) :=
  .done h.readOne

theorem Ends.gaugeSecond (h : s.Sound κ ν) {battMv : Nat} : Ends κ ν φ (execGaugeSecond battMv s) :=
  .done (h.when (fun _ ht => ht.gaugeSecond.chgSecond))

theorem Ends.voltageSaysEmpty (h : s.Sound κ ν) : Ends κ ν φ (execVoltageSaysEmpty s) :=
  .done h.voltageEmpty

theorem Ends.restPoint (h : s.Sound κ ν) {battMv : Nat} : Ends κ ν φ (execRestPoint battMv s) :=
  .done h.restPoint

theorem Ends.chargerStepSample (h : s.Sound κ ν) {k battMv : Nat} {ib : Int} : Ends κ ν φ (execChargerStepSample k battMv ib s) :=
  .done h.chargerStep

theorem Ends.authRequest (h : s.Sound κ ν) {w : Word} : Ends κ ν φ (execAuthRequest w s) :=
  .hostDone h (fun _ ht => ht.writeGauCtrl)

theorem Ends.relearnSet (h : s.Sound κ ν) {w : Word} : Ends κ ν φ (execRelearnSet w s) :=
  .hostDone h (fun _ ht => ht.writeGauCtrl)

theorem Ends.authPeriodic (h : s.Sound κ ν) : Ends κ ν φ (execAuthPeriodic s) :=
  .done (h.when (fun _ ht => ht.authStart))

theorem Ends.authResponseRead (h : s.Sound κ ν) {resp : List Byte} : Ends κ ν φ (execAuthResponseRead resp s) :=
  .done (h.when (fun _ ht => ht.authResponse))

theorem Ends.authReadRetry (h : s.Sound κ ν) {expired : Bool} : Ends κ ν φ (execAuthReadRetry expired s) :=
  .done (h.when (fun _ ht => ht.attemptEnds))

theorem Ends.authBusHeld (h : s.Sound κ ν) : Ends κ ν φ (execAuthBusHeld s) :=
  .done h.attemptEnds

theorem Ends.authAttemptRetry (h : s.Sound κ ν) : Ends κ ν φ (execAuthAttemptRetry s) :=
  .done h.authRetry

theorem Ends.turnOrigin (h : s.Sound κ ν) : Ends κ ν φ (execTurnOrigin s) :=
  .done h.turnOrigin.wayFrame

theorem Ends.milestoneReceived (h : s.Sound κ ν) {turn fracver sech : Nat} {a0 a1 : Answer} : Ends κ ν φ (execMilestoneReceived turn fracver sech a0 a1 s) :=
  .done h.milestone.wayFrame

theorem Ends.workerSlotSend (h : s.Sound κ ν) : Ends κ ν φ (execWorkerSlotSend s) :=
  .done h.slotSend.wayFrame

theorem Ends.joinSend (h : s.Sound κ ν) : Ends κ ν φ (execJoinSend s) :=
  .done h.joinSend.wayFrame

theorem Ends.joinRetry (h : s.Sound κ ν) : Ends κ ν φ (execJoinRetry s) :=
  .done h.joinRetry

theorem Ends.statusFrameReceived (h : s.Sound κ ν) {a payload : Nat} : Ends κ ν φ (execStatusFrameReceived a payload s) :=
  .done h.statusFrame.wayFrame

theorem Ends.requestFrameReceived (h : s.Sound κ ν) {a payload : Nat} : Ends κ ν φ (execRequestFrameReceived a payload s) :=
  .done h.requestFrame.wayFrame

theorem Ends.releaseFrameReceived (h : s.Sound κ ν) {a payload : Nat} : Ends κ ν φ (execReleaseFrameReceived a payload s) :=
  .done h.releaseFrame.wayFrame

theorem Ends.leaveFrameReceived (h : s.Sound κ ν) {a : Nat} : Ends κ ν φ (execLeaveFrameReceived a s) :=
  .done h.leaveFrame.wayFrame

theorem Ends.joinFrameReceived (h : s.Sound κ ν) {a nonce : Nat} {ident : Option Nat} : Ends κ ν φ (execJoinFrameReceived a nonce ident s) :=
  .done h.joinFrame.wayFrame

theorem Ends.waylineFrameError (h : s.Sound κ ν) : Ends κ ν φ (execWaylineFrameError s) :=
  .done h.frameError.wayFrame

theorem Ends.workerAbsent (h : s.Sound κ ν) {a : Nat} : Ends κ ν φ (execWorkerAbsent a s) :=
  .done h.workerAbsent

theorem Ends.wayOrphan (h : s.Sound κ ν) : Ends κ ν φ (execWayOrphan s) :=
  .done h.wayOrphan

theorem Ends.foreignMilestone (h : s.Sound κ ν) : Ends κ ν φ (execForeignMilestone s) :=
  .done h.foreignMilestone.wayFrame

theorem Ends.managerSilenceEnd (h : s.Sound κ ν) : Ends κ ν φ (execManagerSilenceEnd s) :=
  .done h.silenceEnd

theorem Ends.leaseEnd (h : s.Sound κ ν) : Ends κ ν φ (execLeaseEnd s) :=
  .done h.leaseEnd

theorem Ends.leaseRenewalDue (h : s.Sound κ ν) : Ends κ ν φ (execLeaseRenewalDue s) :=
  .done h.leaseRenewal

theorem Ends.relayWindow (h : s.Sound κ ν) : Ends κ ν φ (execRelayWindow s) :=
  .done h.relayWindow.wayFrame

theorem Ends.relayRequestReceived (h : s.Sound κ ν) {addr : Word} {count : Nat} : Ends κ ν φ (execRelayRequestReceived addr count s) :=
  .done h.answerRelay.wayFrame

theorem Ends.relayReplyReceived (h : s.Sound κ ν) {a : Nat} {words : List Word} : Ends κ ν φ (execRelayReplyReceived a words s) :=
  .done h.relayReply.wayFrame

theorem Ends.wayRstcmd (h : s.Sound κ ν) {w : Word} (hφ : FaultsIn φ (execWayRstcmd w s)) : Ends κ ν φ (execWayRstcmd w s) :=
  .hostRan h (fun _ ht => ht.writeRstCmd) hφ

theorem Ends.wayCntclr (h : s.Sound κ ν) {w : Word} : Ends κ ν φ (execWayCntclr w s) :=
  .hostDone h (fun _ ht => ht.writeWayCntclr)

theorem Ends.adcRoundStart (h : s.Sound κ ν) {w : Word} : Ends κ ν φ (execAdcRoundStart w s) :=
  .hostDone h (fun _ ht => ht.writeAdcCmd)

theorem Ends.adcInj (h : s.Sound κ ν) {w : Word} : Ends κ ν φ (execAdcInj w s) :=
  .hostDone h (fun _ ht => ht.injWrite)

theorem Ends.injFlush (h : s.Sound κ ν) {w : Word} : Ends κ ν φ (execInjFlush w s) :=
  .hostDone h (fun _ ht => ht.writeAdcCmd)

theorem Ends.adcConversionStart (h : s.Sound κ ν) {recent : Bool} {stream : Option Nat} : Ends κ ν φ (execAdcConversionStart recent stream s) :=
  .done (h.when (fun _ ht => ht.schedule))

theorem Ends.adcConversionDone (h : s.Sound κ ν) {slice code late : Nat} : Ends κ ν φ (execAdcConversionDone slice code late s) :=
  .done (h.when (fun _ ht => ht.convDone))

theorem Ends.adcResLoRead (h : s.Sound κ ν) {c : Nat} : Ends κ ν φ (execAdcResLoRead c s) :=
  .done h.readOne

theorem Ends.adcResHiRead (h : s.Sound κ ν) {c : Nat} : Ends κ ν φ (execAdcResHiRead c s) :=
  .done h.readOne

theorem Ends.calZero (h : s.Sound κ ν) {w : Word} : Ends κ ν φ (execCalZero w s) :=
  .hostDone h (fun _ ht => ht.writeAdcCmd)

theorem Ends.calFull (h : s.Sound κ ν) {w : Word} : Ends κ ν φ (execCalFull w s) :=
  .hostDone h (fun _ ht => ht.writeAdcCmd)

theorem Ends.calStepStart (h : s.Sound κ ν) : Ends κ ν φ (execCalStepStart s) :=
  .done (h.when (fun _ ht => ht.calStart))

theorem Ends.calStepEnd (h : s.Sound κ ν) {sumA sumB : Nat} : Ends κ ν φ (execCalStepEnd sumA sumB s) :=
  .done h.calEnd

theorem Ends.bgCalStart (h : s.Sound κ ν) : Ends κ ν φ (execBgCalStart s) :=
  .done h.bgStart

theorem Ends.bgCalDone (h : s.Sound κ ν) {sum : Nat} : Ends κ ν φ (execBgCalDone sum s) :=
  .done h.bgEnd

theorem Ends.throttleEnforce (h : s.Sound κ ν) : Ends κ ν φ (execThrottleEnforce s) :=
  .done h.enforceThrottle

theorem Ends.throttleRelease (h : s.Sound κ ν) : Ends κ ν φ (execThrottleRelease s) :=
  .done h.releaseThrottle

theorem Ends.thmCntclr (h : s.Sound κ ν) {w : Word} : Ends κ ν φ (execThmCntclr w s) :=
  .hostDone h (fun _ ht => ht.writeThmCntclr)

theorem Ends.rtcTick (h : s.Sound κ ν) : Ends κ ν φ (execRtcTick s) :=
  .done h.lfTick

theorem Ends.rtcSet (h : s.Sound κ ν) {w : Word} : Ends κ ν φ (execRtcSet w s) :=
  .hostDone h (fun _ ht => ht.writeSetGo)

theorem Ends.rtcStep (h : s.Sound κ ν) {w : Word} : Ends κ ν φ (execRtcStep w s) :=
  .hostDone h (fun _ ht => ht.writeSetGo)

theorem Ends.rtcCancel (h : s.Sound κ ν) {w : Word} : Ends κ ν φ (execRtcCancel w s) :=
  .hostDone h (fun _ ht => ht.writeSetGo)

theorem Ends.rtcPendingApply (h : s.Sound κ ν) : Ends κ ν φ (execRtcPendingApply s) :=
  .done (h.when (fun _ ht => ht.lfTick))

theorem Ends.rtcSec0Read (h : s.Sound κ ν) : Ends κ ν φ (execRtcSec0Read s) :=
  .done h.readOne

theorem Ends.rtcFracRead (h : s.Sound κ ν) : Ends κ ν φ (execRtcFracRead s) :=
  .done h.readOne

theorem Ends.fltFrc (h : s.Sound κ ν) {k : Nat} {w : Word} : Ends κ ν φ (execFltFrc k w s) :=
  .hostDone h (fun _ ht => ht.writeForce)

theorem Ends.fltTest (h : s.Sound κ ν) {w : Word} : Ends κ ν φ (execFltTest w s) :=
  .hostDone h (fun _ ht => ht.writeFltTest)

theorem Ends.fltCntclr (h : s.Sound κ ν) {w : Word} : Ends κ ν φ (execFltCntclr w s) :=
  .hostDone h (fun _ ht => ht.writeFltCntclr)

theorem Ends.queueFlush (h : s.Sound κ ν) {w : Word} : Ends κ ν φ (execQueueFlush w s) :=
  .hostDone h (fun _ ht => ht.writeMrqCtl)

theorem Ends.mrqCounterClear (h : s.Sound κ ν) {w : Word} : Ends κ ν φ (execMrqCounterClear w s) :=
  .hostDone h (fun _ ht => ht.writeMrqCtl)

theorem Ends.aoBrownout (h : s.Sound κ ν) : Ends κ ν φ (execAoBrownout s) :=
  .done h.brownOut

theorem Ends.viohLoss (h : s.Sound κ ν) : Ends κ ν φ (execViohLoss s) :=
  .done h.viohLoss

theorem Ends.viohReturn (h : s.Sound κ ν) : Ends κ ν φ (execViohReturn s) :=
  .done h.setSup

theorem Ends.crystalStable (h : s.Sound κ ν) : Ends κ ν φ (execCrystalStable s) :=
  .done h.crystalStable

theorem Ends.lfXtalFail (h : s.Sound κ ν) : Ends κ ν φ (execLfXtalFail s) :=
  .done h.crystalFail

theorem Ends.fastOscStart (h : s.Sound κ ν) : Ends κ ν φ (execFastOscStart s) :=
  .done h.demandFast

theorem Ends.fastOscIdleStop (h : s.Sound κ ν) : Ends κ ν φ (execFastOscIdleStop s) :=
  .done (h.when (fun _ ht => ht.setSup))

theorem Ends.fastOscFail (h : s.Sound κ ν) : Ends κ ν φ (execFastOscFail s) :=
  .done h.fastFail

theorem Ends.pinReset (h : s.Sound κ ν) : Ends κ ν φ (execPinReset s) :=
  .done h.takeReset

theorem Ends.resetShutdownEnd (h : s.Sound κ ν) : Ends κ ν φ (execResetShutdownEnd s) :=
  .done (h.when (fun _ ht => ht.setCtl))

theorem Ends.mrNRelease (h : s.Sound κ ν) : Ends κ ν φ (execMrNRelease s) :=
  .done h.setCtl

theorem Ends.sysCtrlReqRun (h : s.Sound κ ν) : Ends κ ν φ (execSysCtrlReqRun s) :=
  .hostDone h (fun _ ht => ht.writeSysCtrl)

theorem Ends.sysCtrlReqWatch (h : s.Sound κ ν) : Ends κ ν φ (execSysCtrlReqWatch s) :=
  .hostDone h (fun _ ht => ht.writeSysCtrl)

theorem Ends.sysCtrlReqHibernate (h : s.Sound κ ν) : Ends κ ν φ (execSysCtrlReqHibernate s) :=
  .hostDone h (fun _ ht => ht.writeSysCtrl)

theorem Ends.minOffExpiry (h : s.Sound κ ν) : Ends κ ν φ (execMinOffExpiry s) :=
  .done h.minOff

theorem Ends.pbPress (h : s.Sound κ ν) : Ends κ ν φ (execPbPress s) :=
  .done h.pbPress

theorem Ends.pbLongWarning (h : s.Sound κ ν) : Ends κ ν φ (execPbLongWarning s) :=
  .done h.pbWarn

theorem Ends.pbForceOff (h : s.Sound κ ν) : Ends κ ν φ (execPbForceOff s) :=
  .done h.pbForceOff

theorem Ends.pbShipHold (h : s.Sound κ ν) (hao : ν = none ∨ s.aoOn = true) : Ends κ ν φ (execPbShipHold s) :=
  .done (h.pbShipHold hao)

theorem Ends.thermalRestart (h : s.Sound κ ν) : Ends κ ν φ (execThermalRestart s) :=
  .done h.thermalRestart

theorem Ends.thrstWindowExpiry (h : s.Sound κ ν) : Ends κ ν φ (execThrstWindowExpiry s) :=
  .done h.setCtl

theorem Ends.ldPeriodExpiry (h : s.Sound κ ν) : Ends κ ν φ (execLdPeriodExpiry s) :=
  .done (h.when (fun _ ht => ht.tryWriteBack))

theorem Ends.writeBackRetry (h : s.Sound κ ν) : Ends κ ν φ (execWriteBackRetry s) :=
  .done (h.when (fun _ ht => ht.tryWriteBack))

theorem Ends.nvmAccessStart (h : s.Sound κ ν) : Ends κ ν φ (execNvmAccessStart s) :=
  .done (h.when (fun _ ht => ht.nvmGrant))

theorem Ends.vnvmReady (h : s.Sound κ ν) : Ends κ ν φ (execVnvmReady s) :=
  .done (h.when (fun _ ht => ht.setNvm))

theorem Ends.vnvmOff (h : s.Sound κ ν) : Ends κ ν φ (execVnvmOff s) :=
  .done h.vnvmOff

theorem Ends.pageProgramDone (h : s.Sound κ ν) : Ends κ ν φ (execPageProgramDone s) :=
  .done h.pageDone

theorem Ends.nvmPollTimeout (h : s.Sound κ ν) : Ends κ ν φ (execNvmPollTimeout s) :=
  .done h.pollTimeout

/-- The commands whose result may be undefined: the image read, host writes, frames and the rows of engine steps. -/
def mayFault (c : Instr) : Bool :=
  match c with
  | .set .. | .wait .. | .waitcTimeout .. | .sync .. | .syncRelease .. | .loop .. | .imageReadDone .. | .nop .. | .rd .. | .wr .. | .rdb .. | .rd32 .. | .qpop .. | .qpopReread .. | .ack ..
  | .rly .. | .hello .. | .select .. | .reservedOpcode .. | .registerWrite .. | .engEnd .. | .enableDomain .. | .enableSequence .. | .enableResetRelease .. | .enableMonitor ..
  | .enableShedSet .. | .disableDomain .. | .disableSequence .. | .disableReset .. | .disableMonitor .. | .disableShedSet .. | .waitExpiry .. | .waitc .. | .waitcConditionMet .. | .check ..
  | .jump .. | .signalSetFlags .. | .signalClearFlags .. | .signalDrivePin .. | .signalRaiseSource .. | .signalPostReport .. | .signalStartTimer .. | .signalRequestState .. | .engDbgHalt ..
  | .engDbgStep .. | .engDbgResume .. | .dvsSetpointWrite .. | .driveSetpointWrite .. | .wayRstcmd .. => true
  | _ => false

/-- Every command; three of them begin AO's first BOOT and leave the live bits as they were last seen only with AO powered already. -/
theorem exec_ends (h : s.Sound κ ν) (hao : ν = none ∨ s.aoOn = true) (c : Instr) (hφ : mayFault c = true → FaultsIn φ (exec c s)) : Ends κ ν φ (exec c s) :=
  match c with
  | .preregStart _ _ => .preregStart h
  | .aoReady _ _ => .aoReady h hao
  | .preregStop _ _ => .preregStop h
  | .vbkupLevelChange _ => .vbkupLevelChange h
  | .imageReadDone _ _ _ => .imageReadDone h (hφ rfl)
  | .learnedReadDone _ _ => .learnedReadDone h
  | .fflogReadDone _ => .fflogReadDone h
  | .sysReset _ => .sysReset h
  | .sysShip _ => .sysShip h
  | .pbRelease _ => .pbRelease h
  | .wakePinEdge _ _ => .wakePinEdge h
  | .pfwHoldExpiry _ => .pfwHoldExpiry h
  | .thermalShutdown _ => .thermalShutdown h
  | .shutdownRelease _ => .shutdownRelease h
  | .nop _ => .nop h (hφ rfl)
  | .rd _ => .rd h (hφ rfl)
  | .wr _ => .wr h (hφ rfl)
  | .rdb _ => .rdb h (hφ rfl)
  | .rd32 _ => .rd32 h (hφ rfl)
  | .qpop _ => .qpop h (hφ rfl)
  | .qpopReread _ => .qpopReread h (hφ rfl)
  | .ack _ => .ack h (hφ rfl)
  | .rly _ => .rly h (hφ rfl)
  | .hello _ => .hello h (hφ rfl)
  | .select _ => .select h (hφ rfl)
  | .reservedOpcode _ _ => .reservedOpcode h (hφ rfl)
  | .statusPoll _ _ => .statusPoll h
  | .i2cBusTimeout => .i2cBusTimeout h
  | .registerWrite _ _ => .registerWrite h (hφ rfl)
  | .hifAck _ => .hifAck h
  | .hifErrRead => .hifErrRead h
  | .ldErase _ => .ldErase h
  | .fflogErase _ => .fflogErase h
  | .writebackRequest _ => .writebackRequest h
  | .verifyReadDone _ => .verifyReadDone h
  | .copyBChunkDone _ => .copyBChunkDone h
  | .engineStart _ => .engineStart h
  | .engEnd _ => .engEnd h (hφ rfl)
  | .enableDomain _ => .enableDomain h (hφ rfl)
  | .enableSequence _ => .enableSequence h (hφ rfl)
  | .enableResetRelease _ => .enableResetRelease h (hφ rfl)
  | .enableMonitor _ => .enableMonitor h (hφ rfl)
  | .enableShedSet _ => .enableShedSet h (hφ rfl)
  | .disableDomain _ => .disableDomain h (hφ rfl)
  | .disableSequence _ => .disableSequence h (hφ rfl)
  | .disableReset _ => .disableReset h (hφ rfl)
  | .disableMonitor _ => .disableMonitor h (hφ rfl)
  | .disableShedSet _ => .disableShedSet h (hφ rfl)
  | .set _ => .set h (hφ rfl)
  | .wait _ => .wait h (hφ rfl)
  | .waitExpiry _ => .waitExpiry h (hφ rfl)
  | .waitc _ _ => .waitc h (hφ rfl)
  | .waitcConditionMet _ _ => .waitcConditionMet h (hφ rfl)
  | .waitcTimeout _ => .waitcTimeout h (hφ rfl)
  | .check _ _ => .check h (hφ rfl)
  | .jump _ _ => .jump h (hφ rfl)
  | .signalSetFlags _ => .signalSetFlags h (hφ rfl)
  | .signalClearFlags _ => .signalClearFlags h (hφ rfl)
  | .signalDrivePin _ => .signalDrivePin h (hφ rfl)
  | .signalRaiseSource _ => .signalRaiseSource h (hφ rfl)
  | .signalPostReport _ => .signalPostReport h (hφ rfl)
  | .signalStartTimer _ => .signalStartTimer h (hφ rfl)
  | .signalRequestState _ => .signalRequestState h (hφ rfl)
  | .sync _ => .sync h (hφ rfl)
  | .syncRelease _ => .syncRelease h (hφ rfl)
  | .loop _ => .loop h (hφ rfl)
  | .engStall _ => .engStall h
  | .timerExpiry _ => .timerExpiry h
  | .hkTick => .hkTick h
  | .aliveToggle => .aliveToggle h
  | .aliveMiss => .aliveMiss h
  | .engTrig _ => .engTrig h
  | .engDbgHalt _ => .engDbgHalt h (hφ rfl)
  | .engDbgStep _ _ => .engDbgStep h (hφ rfl)
  | .engDbgResume _ => .engDbgResume h (hφ rfl)
  | .controllerWatchdog _ => .controllerWatchdog h
  | .softStartEnd _ => .softStartEnd h
  | .powerGood _ => .powerGood h
  | .comparatorChange _ _ _ => .comparatorChange h
  | .underVoltageReport _ => .underVoltageReport h
  | .resetOutputRelease _ => .resetOutputRelease h
  | .blankingEnd _ _ _ => .blankingEnd h
  | .supervisionTick _ _ => .supervisionTick h
  | .generalTimerExpiry => .generalTimerExpiry h
  | .inputLockoutChange _ _ => .inputLockoutChange h
  | .dischargeEnd _ => .dischargeEnd h
  | .currentLimitActs _ => .currentLimitActs h
  | .dvsSetpointWrite _ _ => .dvsSetpointWrite h (hφ rfl)
  | .dvsTargetReached _ => .dvsTargetReached h
  | .dvsSlewDone _ => .dvsSlewDone h
  | .lockPullinEnd _ => .lockPullinEnd h
  | .lockShortCircuit _ => .lockShortCircuit h
  | .lockDemagEnd => .lockDemagEnd h
  | .domCntclr _ _ => .domCntclr h
  | .pumaxExpiry => .pumaxExpiry h
  | .pdmaxExpiry => .pdmaxExpiry h
  | .linePresent _ => .linePresent h
  | .lineNotPresent _ => .lineNotPresent h
  | .srcidReadDone _ => .srcidReadDone h
  | .lineWindowChange _ => .lineWindowChange h
  | .lineQualified => .lineQualified h hao
  | .lineLoss _ => .lineLoss h
  | .lineOvOpening _ => .lineOvOpening h
  | .lineShortCircuit => .lineShortCircuit h
  | .staggerEnd => .staggerEnd h
  | .soaExpiry => .soaExpiry h
  | .sluiceFullyOn _ => .sluiceFullyOn h
  | .retryDelayEnd => .retryDelayEnd h
  | .retryCountClear => .retryCountClear h
  | .lineImplausible => .lineImplausible h
  | .chgokSet => .chgokSet h
  | .linLatchClear _ => .linLatchClear h
  | .linCounterClear _ => .linCounterClear h
  | .weirTurnOn _ _ => .weirTurnOn h
  | .weirReverseBlock _ _ => .weirReverseBlock h
  | .weirTakeoverDone _ _ => .weirTakeoverDone h
  | .weirTakeoverFail => .weirTakeoverFail h
  | .weirShortCircuit => .weirShortCircuit h
  | .weirHandback => .weirHandback h
  | .driveFrame _ _ _ _ _ _ => .driveFrame h
  | .balanceUpdate _ _ => .balanceUpdate h
  | .syncInEdge _ _ => .syncInEdge h
  | .syncLoss => .syncLoss h
  | .driveFastLimit _ _ => .driveFastLimit h
  | .hiccupEntry _ => .hiccupEntry h
  | .hiccupEnd => .hiccupEnd h
  | .driveOverload => .driveOverload h
  | .phaseShed _ => .phaseShed h
  | .phaseReadd _ => .phaseReadd h
  | .sheddingResume => .sheddingResume h
  | .openPhaseDetect _ _ => .openPhaseDetect h
  | .senseFailDetect _ _ _ => .senseFailDetect h
  | .senseSumFail => .senseSumFail h
  | .phaseRetire _ => .phaseRetire h
  | .driveSoftStartEnd => .driveSoftStartEnd h
  | .driveSetpointWrite _ => .driveSetpointWrite h (hφ rfl)
  | .driveTargetReached _ => .driveTargetReached h
  | .driveSlewDone => .driveSlewDone h
  | .phaseReinstate _ => .phaseReinstate h
  | .drvCntclr _ => .drvCntclr h
  | .strokePinHint _ => .strokePinHint h
  | .stkHint _ => .stkHint h
  | .stkGo _ => .stkGo h
  | .stkEnd _ => .stkEnd h
  | .stkCancel _ => .stkCancel h
  | .prearmTimeout => .prearmTimeout h
  | .strokeSample _ => .strokeSample h
  | .strokeStartDetect => .strokeStartDetect h
  | .strokeEndDetect => .strokeEndDetect h
  | .provingSample _ _ _ => .provingSample h
  | .batteryPhaseEnd => .batteryPhaseEnd h
  | .streamInterval _ _ => .streamInterval h
  | .recorderTimeExtension => .recorderTimeExtension h
  | .stkRefctl _ => .stkRefctl h
  | .stkCntclr _ => .stkCntclr h
  | .batteryInserted _ => .batteryInserted h
  | .batteryRemoved => .batteryRemoved h
  | .presenceProbe => .presenceProbe h
  | .chargePhaseChange _ => .chargePhaseChange h
  | .chargeTermination => .chargeTermination h
  | .topoffEnd => .topoffEnd h
  | .rechargeStart => .rechargeStart h
  | .prechargeTimerExpiry => .prechargeTimerExpiry h
  | .safetyTimerExpiry => .safetyTimerExpiry h
  | .chgBatOv => .chgBatOv h
  | .chgBatOvRecover => .chgBatOvRecover h
  | .chgStageOc => .chgStageOc h
  | .chgStageRestart => .chgStageRestart h
  | .chgVinLow => .chgVinLow h
  | .chgVinLowRecover => .chgVinLowRecover h
  | .chgWatchdogExpiry => .chgWatchdogExpiry h
  | .chgWdKick _ => .chgWdKick h
  | .chgFaultRetry _ => .chgFaultRetry h
  | .chgCntClear _ => .chgCntClear h
  | .chargerAllowanceUpdate _ _ _ _ _ => .chargerAllowanceUpdate h
  | .coulombResult _ => .coulombResult h
  | .ccRange => .ccRange h
  | .gauAccRead => .gauAccRead h
  | .gaugeSecond _ => .gaugeSecond h
  | .voltageSaysEmpty => .voltageSaysEmpty h
  | .restPoint _ => .restPoint h
  | .chargerStepSample _ _ _ => .chargerStepSample h
  | .authRequest _ => .authRequest h
  | .relearnSet _ => .relearnSet h
  | .authPeriodic => .authPeriodic h
  | .authResponseRead _ => .authResponseRead h
  | .authReadRetry _ => .authReadRetry h
  | .authBusHeld => .authBusHeld h
  | .authAttemptRetry => .authAttemptRetry h
  | .turnOrigin => .turnOrigin h
  | .milestoneReceived _ _ _ _ _ => .milestoneReceived h
  | .workerSlotSend => .workerSlotSend h
  | .joinSend => .joinSend h
  | .joinRetry => .joinRetry h
  | .statusFrameReceived _ _ => .statusFrameReceived h
  | .requestFrameReceived _ _ => .requestFrameReceived h
  | .releaseFrameReceived _ _ => .releaseFrameReceived h
  | .leaveFrameReceived _ => .leaveFrameReceived h
  | .joinFrameReceived _ _ _ => .joinFrameReceived h
  | .waylineFrameError => .waylineFrameError h
  | .workerAbsent _ => .workerAbsent h
  | .wayOrphan => .wayOrphan h
  | .foreignMilestone => .foreignMilestone h
  | .managerSilenceEnd => .managerSilenceEnd h
  | .leaseEnd => .leaseEnd h
  | .leaseRenewalDue => .leaseRenewalDue h
  | .relayWindow => .relayWindow h
  | .relayRequestReceived _ _ => .relayRequestReceived h
  | .relayReplyReceived _ _ => .relayReplyReceived h
  | .wayRstcmd _ => .wayRstcmd h (hφ rfl)
  | .wayCntclr _ => .wayCntclr h
  | .adcRoundStart _ => .adcRoundStart h
  | .adcInj _ => .adcInj h
  | .injFlush _ => .injFlush h
  | .adcConversionStart _ _ => .adcConversionStart h
  | .adcConversionDone _ _ _ => .adcConversionDone h
  | .adcResLoRead _ => .adcResLoRead h
  | .adcResHiRead _ => .adcResHiRead h
  | .calZero _ => .calZero h
  | .calFull _ => .calFull h
  | .calStepStart => .calStepStart h
  | .calStepEnd _ _ => .calStepEnd h
  | .bgCalStart => .bgCalStart h
  | .bgCalDone _ => .bgCalDone h
  | .throttleEnforce => .throttleEnforce h
  | .throttleRelease => .throttleRelease h
  | .thmCntclr _ => .thmCntclr h
  | .rtcTick => .rtcTick h
  | .rtcSet _ => .rtcSet h
  | .rtcStep _ => .rtcStep h
  | .rtcCancel _ => .rtcCancel h
  | .rtcPendingApply => .rtcPendingApply h
  | .rtcSec0Read => .rtcSec0Read h
  | .rtcFracRead => .rtcFracRead h
  | .fltFrc _ _ => .fltFrc h
  | .fltTest _ => .fltTest h
  | .fltCntclr _ => .fltCntclr h
  | .queueFlush _ => .queueFlush h
  | .mrqCounterClear _ => .mrqCounterClear h
  | .aoBrownout => .aoBrownout h
  | .viohLoss => .viohLoss h
  | .viohReturn => .viohReturn h
  | .crystalStable => .crystalStable h
  | .lfXtalFail => .lfXtalFail h
  | .fastOscStart => .fastOscStart h
  | .fastOscIdleStop => .fastOscIdleStop h
  | .fastOscFail => .fastOscFail h
  | .pinReset => .pinReset h
  | .resetShutdownEnd => .resetShutdownEnd h
  | .mrNRelease => .mrNRelease h
  | .sysCtrlReqRun => .sysCtrlReqRun h
  | .sysCtrlReqWatch => .sysCtrlReqWatch h
  | .sysCtrlReqHibernate => .sysCtrlReqHibernate h
  | .minOffExpiry => .minOffExpiry h
  | .pbPress => .pbPress h
  | .pbLongWarning => .pbLongWarning h
  | .pbForceOff => .pbForceOff h
  | .pbShipHold => .pbShipHold h hao
  | .thermalRestart => .thermalRestart h
  | .thrstWindowExpiry => .thrstWindowExpiry h
  | .ldPeriodExpiry => .ldPeriodExpiry h
  | .writeBackRetry => .writeBackRetry h
  | .nvmAccessStart => .nvmAccessStart h
  | .vnvmReady => .vnvmReady h
  | .vnvmOff => .vnvmOff h
  | .pageProgramDone => .pageProgramDone h
  | .nvmPollTimeout => .nvmPollTimeout h

/-- The next state that a command answers is the end of the step time of a sound one. -/
theorem exec_sound (h : s.Sound κ ν) (hao : ν = none ∨ s.aoOn = true) {c : Instr} {t : State} (ht : exec c s = .next t) : ∃ e : State, e.Sound κ ν ∧ t = e.settle := by
  have he := exec_ends (φ := fun _ => True) h hao c fun _ _ _ => trivial
  rwa [ht] at he

end
end Sys2Proof.Machine
end

section
/-! PROOFS. The status word and its live bits (R129, R130). -/
namespace Sys2Proof.Machine

/-- The number whose binary digits, from bit 14 down, are the live bits. -/
def liveNat (f p r e w d : Nat) : Nat := 16384 * f + 8192 * p + 4096 * r + 2048 * e + 4 * w + 2 * d

def statusNat (a f p r e q k x c l w d m : Nat) : Nat := 32768 * a + liveNat f p r e w d + 1024 * q + 256 * k + 32 * x + 16 * c + 8 * l + m

theorem bit_ofNat (n i : Nat) (h : i < 16) : (BitVec.ofNat 16 n).getLsbD i = decide (n / 2 ^ i % 2 = 1) := by
  rw [BitVec.getLsbD_ofNat, Nat.testBit_eq_decide_div_mod_eq]; simp [h]

/-- The digits of the status word's number: the live bits stand apart from the others. -/
theorem statusNat_digits {a f p r e q k x c l w d m : Nat} (ha : a < 2) (hf : f < 2) (hp : p < 2) (hr : r < 2) (he : e < 2) (hq : q < 2) (hk : k < 4) (hx : x < 8) (hc : c < 2) (hl : l < 2) (hw : w < 2) (hd : d < 2)
    (hm : m < 2) : let n := statusNat a f p r e q k x c l w d m
    n / 2 ^ 15 % 2 = a ∧ n / 2 ^ 14 % 2 = f ∧ n / 2 ^ 13 % 2 = p ∧ n / 2 ^ 12 % 2 = r ∧ n / 2 ^ 11 % 2 = e ∧ n / 2 ^ 2 % 2 = w ∧ n / 2 ^ 1 % 2 = d ∧ n / 2 ^ 0 % 2 = m := by
  unfold statusNat liveNat
  dsimp only
  refine ⟨?_, ?_, ?_, ?_, ?_, ?_, ?_, ?_⟩ <;> omega

theorem statusNat_live {a f p r e q k x c l w d m : Nat} (hf : f < 2) (hp : p < 2) (hr : r < 2) (he : e < 2) (hq : q < 2) (hk : k < 4) (hx : x < 8) (hc : c < 2) (hl : l < 2) (hw : w < 2) (hd : d < 2)
    (hm : m < 2) : BitVec.ofNat 16 (statusNat a f p r e q k x c l w d m) &&& 0x7806#16 = BitVec.ofNat 16 (liveNat f p r e w d) := by
  refine BitVec.eq_of_getLsbD_eq fun i hi => ?_
  rw [Bool.eq_iff_iff]
  simp only [BitVec.getLsbD_and, bit_ofNat _ i hi, Bool.and_eq_true, decide_eq_true_eq, statusNat, liveNat]
  interval_cases i <;> omega

theorem find?_cls {l : List Packet} {c : Nat} {p : Packet} (h : l.find? (·.cls = c) = some p) : p.cls = c := by
  simpa using List.find?_some h

theorem Mrq.head_cls_lt {q : Mrq} {p : Packet} (h : q.head = some p) : p.cls < 4 := by
  unfold Mrq.head at h
  split at h
  next h0 => cases h; have := find?_cls h0; omega
  next =>
    split at h
    next h1 => cases h; have := find?_cls h1; omega
    next =>
      split at h
      next h2 => cases h; have := find?_cls h2; omega
      next => have := find?_cls h; omega

theorem State.qpri_lt (s : State) : s.qpri < 4 := by
  unfold State.qpri
  cases h : s.mrq.head with
  | none => decide
  | some p => exact Mrq.head_cls_lt h

theorem decide_toNat_eq_one (b : Bool) : decide (b.toNat = 1) = b := by cases b <;> rfl

theorem State.liveBits_eq (s : State) :
    s.liveBits = liveNat (decide (s.power = .fault)).toNat s.pfw.toNat (s.g F.THM_STAT_THRREQ) (s.g F.THM_STAT_THRENF) s.chg.wdf.toNat s.degr.toNat := rfl

theorem State.statusWord_eq (s : State) (perr : Bool) :
    s.statusWord perr = BitVec.ofNat 16 (statusNat s.hif.attn.toNat (decide (s.power = .fault)).toNat s.pfw.toNat (s.g F.THM_STAT_THRREQ) (s.g F.THM_STAT_THRENF) s.qne.toNat s.qpri (s.mrq.seq % 8)
      s.hif.chg.toNat s.hif.link.toNat s.chg.wdf.toNat s.degr.toNat perr.toNat) := rfl

theorem State.b_eq_decide {s : State} {f : Fld} (h : f.width = 1) : s.b f = decide (s.g f = 1) := by
  have hg : s.g f < 2 := by
    unfold State.g Fld.get
    rw [h]
    exact Nat.mod_lt _ (by decide)
  unfold State.b
  interval_cases s.g f <;> rfl

/-- R129, R130: the status word's bits, the live ones among them. -/
theorem State.statusWord_bits (s : State) (perr : Bool) : s.statusWord perr &&& 0x7806#16 = BitVec.ofNat 16 s.liveBits ∧ (s.statusWord perr).getLsbD 14 = decide (s.power = .fault) ∧ (s.statusWord perr).getLsbD 13 = s.pfw ∧
    (s.statusWord perr).getLsbD 12 = s.b F.THM_STAT_THRREQ ∧ (s.statusWord perr).getLsbD 11 = s.b F.THM_STAT_THRENF ∧ (s.statusWord perr).getLsbD 2 = s.chg.wdf ∧ (s.statusWord perr).getLsbD 1 = s.degr ∧
    (s.statusWord perr).getLsbD 15 = s.hif.attn ∧ (s.statusWord perr).getLsbD 0 = perr := by
  have hr : s.g F.THM_STAT_THRREQ < 2 := Nat.mod_lt _ (by decide)
  have he : s.g F.THM_STAT_THRENF < 2 := Nat.mod_lt _ (by decide)
  have hx : s.mrq.seq % 8 < 8 := Nat.mod_lt _ (by decide)
  have hlive := statusNat_live (a := s.hif.attn.toNat) (decide (s.power = .fault)).toNat_lt s.pfw.toNat_lt hr he s.qne.toNat_lt s.qpri_lt hx s.hif.chg.toNat_lt s.hif.link.toNat_lt s.chg.wdf.toNat_lt s.degr.toNat_lt perr.toNat_lt
  obtain ⟨h15, h14, h13, h12, h11, h2, h1, h0⟩ := statusNat_digits s.hif.attn.toNat_lt (decide (s.power = .fault)).toNat_lt s.pfw.toNat_lt hr he s.qne.toNat_lt s.qpri_lt hx s.hif.chg.toNat_lt s.hif.link.toNat_lt
    s.chg.wdf.toNat_lt s.degr.toNat_lt perr.toNat_lt
  rw [s.liveBits_eq, s.statusWord_eq]
  simp only [bit_ofNat _ _ (show 14 < 16 by decide), bit_ofNat _ _ (show 13 < 16 by decide), bit_ofNat _ _ (show 12 < 16 by decide), bit_ofNat _ _ (show 11 < 16 by decide), bit_ofNat _ _ (show 2 < 16 by decide),
    bit_ofNat _ _ (show 1 < 16 by decide), bit_ofNat _ _ (show 15 < 16 by decide), bit_ofNat _ _ (show 0 < 16 by decide), h15, h14, h13, h12, h11, h2, h1, h0, decide_toNat_eq_one]
  exact ⟨hlive, trivial, trivial, (State.b_eq_decide rfl).symm, (State.b_eq_decide rfl).symm, trivial, trivial, trivial, trivial⟩

end Sys2Proof.Machine
end

section
/-! PROOFS. What holds between two commands: every step closes (R130, R655), a change of a live bit sets ATTN, and the form of the state is kept. -/
namespace Sys2Proof.Machine

section
variable {s t : State}

/-! ### The end of a step time: what waits for a commit, and the live bits -/

theorem Mrq.foldl_advWp_outbox (l : List OpenPkt) (q : Mrq) : (l.foldl (fun q o => q.advWp o.cls o.len) q).outbox = q.outbox := by
  induction l generalizing q with
  | nil => rfl
  | cons o r ih => exact ih _

theorem State.queueReset_outbox (s : State) : s.queueReset.mrq.outbox = s.mrq.outbox := by
  exact Mrq.foldl_advWp_outbox _ _

theorem State.checkPtrs_outbox (s : State) (c : Nat) : (s.checkPtrs c).mrq.outbox = s.mrq.outbox := by
  unfold State.checkPtrs
  split
  · rfl
  · exact s.queueReset_outbox

theorem State.openPacket_outbox (s : State) (b : PktBody) : (s.openPacket b).mrq.outbox = s.mrq.outbox := by
  cases b with
  | stroke cls ws =>
    simp only [State.openPacket, State.openClosing]
    split <;> exact s.checkPtrs_outbox cls
  | _ =>
    simp only [State.openPacket]
    split
    · exact s.checkPtrs_outbox _
    · rw [State.dropPacket_mrq, s.checkPtrs_outbox]

/-- R655: outside BOOT every packet posted and opened has committed. -/
theorem State.openPosted_outbox (s : State) : s.openPosted.mrq.outbox = [] := by
  have hcheck : ∀ (l : List PktBody) (u : State), (u.each l (fun u b => u.checkPtrs (b.cls u))).mrq.outbox = u.mrq.outbox := fun l u =>
    State.each_induct (·.mrq.outbox = u.mrq.outbox) (fun v b hv => (v.checkPtrs_outbox _).trans hv) l u rfl
  have hopen : ∀ (l : List PktBody) (u : State), (u.each l State.openPacket).mrq.outbox = u.mrq.outbox := fun l u =>
    State.each_induct (·.mrq.outbox = u.mrq.outbox) (fun v b hv => (v.openPacket_outbox b).trans hv) l u rfl
  exact (hopen _ _).trans (hcheck _ _)

theorem State.commitAll_emptied (s : State) (h : s.power ≠ .boot) : s.commitAll.mrq.outbox = [] ∧ s.commitAll.mrq.opened = [] := by
  unfold State.commitAll
  rw [if_neg h]
  split
  · rw [State.commitPosted, State.commitOpened_eq]
    exact ⟨s.openPosted_outbox, rfl⟩
  · exact ⟨rfl, rfl⟩

theorem State.statusFollow_seen (s : State) : s.statusFollow.hif.seen = s.liveBits := by
  unfold State.statusFollow
  split
  next h => exact h.symm
  next => rfl

theorem State.statusFollow_eq (s : State) : s.statusFollow = { s with hif := s.statusFollow.hif } := by
  unfold State.statusFollow
  split <;> rfl

theorem State.statusFollow_liveBits (s : State) : s.statusFollow.liveBits = s.liveBits := by
  rw [s.statusFollow_eq]; rfl

/-- R130, R655: the end of a step time leaves a closed state. -/
theorem State.settle_closed (s : State) : s.settle.closed = true := by
  have hcommit : ((s.judgeAll 16).commitAll).power = .boot ∨ ((s.judgeAll 16).commitAll).mrq.outbox = [] ∧ ((s.judgeAll 16).commitAll).mrq.opened = [] := by
    by_cases hp : (s.judgeAll 16).power = .boot
    · exact .inl (by rw [State.commitAll, if_pos hp, hp])
    · exact .inr (State.commitAll_emptied _ hp)
  generalize hu : (s.judgeAll 16).commitAll = u at hcommit
  have hclosed : u.statusFollow.closed = true := by
    simp only [State.closed, State.statusFollow_seen, State.statusFollow_liveBits, decide_true, Bool.and_true, Bool.or_eq_true, Bool.and_eq_true, decide_eq_true_eq, List.isEmpty_iff]
    rw [u.statusFollow_eq]
    exact hcommit
  have hs : s.settle = u.statusFollow.endStep := by rw [State.settle, hu]
  rw [hs]
  exact hclosed

theorem State.Sound.anything (s : State) : s.Sound false none := ⟨(nomatch ·), fun _ h => nomatch h⟩

/-- Settles O3: every command ends with its step time, which commits what waits and sees the live bits; an empty queue idles or ends a slot of a shutdown likewise. -/
theorem everyStepCloses : Obligations.EveryStepCloses := by
  intro s t hs ht
  unfold step at ht
  split at ht
  case h_1 =>
    have ht : s.idle = t := Host.Outcome.next.inj ht
    rw [← ht, State.idle]
    split
    · exact hs
    · exact State.settle_closed _
  case h_2 c r _ =>
    obtain ⟨e, -, rfl⟩ := exec_sound (.anything _) (.inl rfl) ht
    exact e.settle_closed

/-! ### A change of a live bit sets ATTN -/

/-- The end of a step time that finds a live bit changed sets ATTN. -/
theorem State.attn_settle_of_liveBits_ne {e : State} {n : Nat} (he : e.hif.seen = n) (hne : e.settle.liveBits ≠ n) : e.settle.hif.attn = true := by
  have hv : (e.judgeAll 16).commitAll.hif.seen = n :=
    ((State.Sound.mk (κ := false) (ν := some n) (fun h => nomatch h) fun m hm => he.trans (Option.some.inj hm)).judgeAll.commitAll).view n rfl
  have hs : e.settle = (e.judgeAll 16).commitAll.statusFollow.endStep := rfl
  generalize (e.judgeAll 16).commitAll = u at hv hs
  have hlive : e.settle.liveBits = u.liveBits := by rw [hs]; exact u.statusFollow_liveBits
  have hattn : e.settle.hif.attn = u.statusFollow.hif.attn := by rw [hs]; rfl
  rw [hattn, State.statusFollow, if_neg (by rw [hv, ← hlive]; exact hne)]

/-! ### The form of the state -/

theorem State.settle_wf {s : State} (h : s.wf = true) : s.settle.wf = true := by
  have hu : (s.judgeAll 16).commitAll.wf = true := (State.Sound.mk (κ := true) (ν := none) (fun _ => h) fun _ hn => nomatch hn).judgeAll.commitAll.form rfl
  have hs : s.settle = (s.judgeAll 16).commitAll.statusFollow.endStep := rfl
  generalize (s.judgeAll 16).commitAll = u at hu hs
  rw [hs, u.statusFollow_eq]
  exact hu

theorem exec_wf {c : Instr} {s t : State} (h : s.wf = true) (ht : exec c s = .next t) : t.wf = true := by
  obtain ⟨e, he, rfl⟩ := exec_sound (κ := true) (ν := none) ⟨fun _ => h, fun _ hn => nomatch hn⟩ (.inl rfl) ht
  exact State.settle_wf (he.form rfl)

theorem State.idle_wf {s : State} (h : s.wf = true) : s.idle.wf = true := by
  unfold State.idle
  split
  · exact h
  · exact State.settle_wf ((State.Sound.mk (κ := true) (ν := none) (fun _ => h) fun _ hn => nomatch hn).haltSlot.form rfl)

/-- Settles O6: no operation changes a list's length or leaves a word of the register file at its reset word. -/
theorem stepKeepsWf : Obligations.StepKeepsWf := by
  refine ⟨fun c s t h ht => exec_wf h ht, fun s t h ht => ?_⟩
  unfold step at ht
  split at ht
  case h_1 => exact Host.Outcome.next.inj ht ▸ State.idle_wf h
  case h_2 c r _ => exact exec_wf (s := { s with pending := r }) h ht

/-- Settles O5: a command leaves the live bits as they were last seen, so the end of its step time finds one that it has changed. -/
theorem liveChangeSetsAttn : Obligations.LiveChangeSetsAttn := by
  refine ⟨State.statusWord_bits, fun c s t hs hao ht _ hne => ?_⟩
  have hseen : s.hif.seen = s.liveBits := by
    simp only [State.closed, Bool.and_eq_true, decide_eq_true_eq] at hs
    exact hs.2
  obtain ⟨e, he, rfl⟩ := exec_sound (κ := false) (ν := some s.liveBits) ⟨(nomatch ·), fun n hn => hseen.trans (Option.some.inj hn)⟩ (.inr hao) ht
  exact State.attn_settle_of_liveBits_ne (he.view _ rfl) hne

end
end Sys2Proof.Machine
end

section
/-! PROOFS. The CRC-8 of a frame (R118). -/
namespace Sys2Proof.Machine

/-! ### One bit of the register -/

theorem crc8Bit_lt {c : Nat} (h : c < 256) : crc8Bit c < 256 := by
  unfold crc8Bit
  split
  · omega
  · exact Nat.xor_lt_two_pow (n := 8) (Nat.mod_lt _ (by decide)) (by decide)

/-- The polynomial's lowest term is 1, so that a bit shifted out leaves an odd register: only 0 leads to 0. -/
theorem crc8Bit_eq_zero {c : Nat} : crc8Bit c = 0 ↔ c = 0 := by
  unfold crc8Bit
  split
  · omega
  · constructor
    · intro h
      have := Nat.xor_eq_zero_iff.mp h
      omega
    · intro h
      omega

/-! ### One byte -/

theorem crc8Byte_lt {c b : Nat} (hc : c < 256) (hb : b < 256) : crc8Byte c b < 256 := by
  unfold crc8Byte
  iterate 8 refine crc8Bit_lt ?_
  exact Nat.xor_lt_two_pow (n := 8) hc hb

theorem crc8Byte_eq_zero {c b : Nat} : crc8Byte c b = 0 ↔ c = b := by
  unfold crc8Byte
  rw [crc8Bit_eq_zero, crc8Bit_eq_zero, crc8Bit_eq_zero, crc8Bit_eq_zero, crc8Bit_eq_zero, crc8Bit_eq_zero, crc8Bit_eq_zero, crc8Bit_eq_zero]
  exact Nat.xor_eq_zero_iff

/-! ### A run of bytes -/

/-- The register after a run of bytes. -/
def crc8Reg (bs : List Byte) : Nat := bs.foldl (fun c b => crc8Byte c b.toNat) 0xFF

theorem crc8Reg_append (bs : List Byte) (b : Byte) : crc8Reg (bs ++ [b]) = crc8Byte (crc8Reg bs) b.toNat := by simp [crc8Reg]

theorem crc8Reg_lt (bs : List Byte) : crc8Reg bs < 256 := by
  induction bs using List.reverseRecOn with
  | nil => decide
  | append_singleton bs b ih =>
    rw [crc8Reg_append]
    exact crc8Byte_lt ih b.isLt

theorem crc8_toNat (bs : List Byte) : (crc8 bs).toNat = crc8Reg bs := Nat.mod_eq_of_lt (crc8Reg_lt bs)

/-- R118: of all bytes the CRC alone closes a run. -/
theorem crc8_append_eq_zero {bs : List Byte} {b : Byte} : crc8 (bs ++ [b]) = 0 ↔ b = crc8 bs := by
  calc crc8 (bs ++ [b]) = 0
    _ ↔ crc8Reg (bs ++ [b]) = 0 := by rw [← crc8_toNat]; exact BitVec.toNat_inj.symm
    _ ↔ crc8Reg bs = b.toNat := by rw [crc8Reg_append, crc8Byte_eq_zero]
    _ ↔ b = crc8 bs := by rw [← crc8_toNat, eq_comm]; exact BitVec.toNat_inj

/-- Settles O19: a byte leaves the register at 0 exactly where it is the register itself. -/
theorem crc8Closes : Obligations.Crc8Closes :=
  ⟨by decide +kernel, fun _ => crc8_append_eq_zero.mpr rfl, fun _ _ => crc8_append_eq_zero.mp⟩

end Sys2Proof.Machine
end

section
/-! PROOFS. Triggers of an engine (R149). -/
namespace Sys2Proof.Machine

/-! ### A trigger kept once, in its place -/

theorem mem_insertOnce {t u : Nat} {l : List Nat} : u ∈ insertOnce t l ↔ u = t ∨ u ∈ l := by
  induction l with
  | nil => simp [insertOnce]
  | cons v r ih =>
    unfold insertOnce
    split
    next h => simp [h]
    next =>
      split
      · simp
      · simp [ih, or_left_comm]

theorem insertOnce_insertOnce {t : Nat} {l : List Nat} : insertOnce t (insertOnce t l) = insertOnce t l := by
  induction l with
  | nil => simp [insertOnce]
  | cons v r ih =>
    by_cases h : t = v
    · simp [insertOnce, h]
    · by_cases hlt : t < v
      · simp [insertOnce, h, hlt]
      · simp [insertOnce, h, hlt, ih]

theorem insertOnce_pairwise {t : Nat} {l : List Nat} (h : l.Pairwise (· < ·)) : (insertOnce t l).Pairwise (· < ·) := by
  induction l with
  | nil => simp [insertOnce]
  | cons v r ih =>
    obtain ⟨hv, hr⟩ := List.pairwise_cons.mp h
    unfold insertOnce
    split
    next => exact h
    next hne =>
      split
      next hlt => exact List.pairwise_cons.mpr ⟨fun u hu => (List.mem_cons.mp hu).elim (· ▸ hlt) fun hu => hlt.trans (hv u hu), h⟩
      next => exact List.pairwise_cons.mpr ⟨fun u hu => (mem_insertOnce.mp hu).elim (fun hu => by omega) (hv u), ih hr⟩

theorem zero_notMem_insertOnce_one (l : List Nat) : 0 ∉ insertOnce 1 (l.filter (· != 0)) := by simp [mem_insertOnce]

theorem filter_insertOnce_one (l : List Nat) : (insertOnce 1 (l.filter (· != 0))).filter (· != 0) = insertOnce 1 (l.filter (· != 0)) := by
  refine List.filter_eq_self.mpr fun u hu => ?_
  have : u ≠ 0 := fun h => zero_notMem_insertOnce_one l (h ▸ hu)
  simpa using this

/-! ### What a trigger does to an engine -/

/-- Trigger 1 pre-empts: the engine runs or waits, and is not halted. -/
def Engine.preempts (e : Engine) (t : Nat) : Prop := t = 1 ∧ e.halted = false ∧ (e.mode = .run ∨ ∃ w, e.mode = .wait w)

theorem trigEngine_kept {t : Nat} {due : Bool} {e : Engine} (hs : e.mode ≠ .stopped) (h : ¬e.preempts t) : trigEngine t due e = { e with pend := insertOnce t e.pend } := by
  unfold trigEngine Engine.preempts at *
  cases hm : e.mode <;> simp_all

/-- A pre-empted engine: trigger 0 is discarded, trigger 1 pends, and the run goes on only where its step is still due. -/
theorem trigEngine_preempts {t : Nat} {due : Bool} {e : Engine} (h : e.preempts t) :
    ∃ st, trigEngine t due e = { e with pend := insertOnce 1 (e.pend.filter (· != 0)), pre := true, mode := if due = true ∧ e.mode = .run then .run else .idle, stepping := st } := by
  obtain ⟨rfl, hh, hm | ⟨w, hm⟩⟩ := h
  · cases due <;> exact ⟨e.stepping, by simp [trigEngine, hm, hh]⟩
  · exact ⟨false, by simp [trigEngine, hm, hh]⟩

theorem mem_trigEngine_pend {t u : Nat} {due : Bool} {e : Engine} (hs : e.mode ≠ .stopped) : u ∈ (trigEngine t due e).pend ↔ u = t ∨ u ∈ e.pend ∧ (e.preempts t → u ≠ 0) := by
  by_cases h : e.preempts t
  · obtain ⟨st, ht⟩ := trigEngine_preempts (due := due) h
    obtain rfl := h.1
    rw [ht, mem_insertOnce, List.mem_filter]
    simp [h]
  · simp [trigEngine_kept hs h, mem_insertOnce, h]

theorem trigEngine_idem (t : Nat) (due : Bool) (e : Engine) : trigEngine t due (trigEngine t due e) = trigEngine t due e := by
  by_cases hs : e.mode = .stopped
  · rw [trigEngine_stopped t due hs, trigEngine_stopped t due hs]
  by_cases h : e.preempts t
  · obtain ⟨st, ht⟩ := trigEngine_preempts (due := due) h
    obtain ⟨rfl, hh, hm⟩ := h
    by_cases hrun : due = true ∧ e.mode = .run
    · simp [trigEngine, hrun, hh, filter_insertOnce_one, insertOnce_insertOnce]
    · rw [ht, if_neg hrun, trigEngine_idle 1 due rfl, insertOnce_insertOnce]
  · have hkept : ¬({ e with pend := insertOnce t e.pend } : Engine).preempts t := h
    rw [trigEngine_kept hs h, trigEngine_kept (e := { e with pend := insertOnce t e.pend }) hs hkept, insertOnce_insertOnce]

/-- An engine that is not pre-empted keeps how it runs. -/
theorem trigEngine_mode {t : Nat} {due : Bool} {e : Engine} (h : t ≠ 1 ∨ e.halted = true ∨ e.mode = .idle) : (trigEngine t due e).mode = e.mode ∧ (trigEngine t due e).pre = e.pre := by
  by_cases hs : e.mode = .stopped
  · rw [trigEngine_stopped t due hs]
    exact ⟨rfl, rfl⟩
  · have hk : ¬e.preempts t := by
      rintro ⟨ht, hh, hm⟩
      simp_all
    rw [trigEngine_kept hs hk]
    exact ⟨rfl, rfl⟩

/-- No trigger changes where the engine is, its counters or whether it is halted, and the pending triggers stay rising. -/
theorem trigEngine_keeps (t : Nat) (due : Bool) (e : Engine) :
    (trigEngine t due e).pc = e.pc ∧ (trigEngine t due e).l0 = e.l0 ∧ (trigEngine t due e).l1 = e.l1 ∧ (trigEngine t due e).halted = e.halted ∧ (e.pend.Pairwise (· < ·) → (trigEngine t due e).pend.Pairwise (· < ·)) := by
  by_cases hs : e.mode = .stopped
  · rw [trigEngine_stopped t due hs]
    exact ⟨rfl, rfl, rfl, rfl, id⟩
  by_cases h : e.preempts t
  · obtain ⟨st, ht⟩ := trigEngine_preempts (due := due) h
    rw [ht]
    exact ⟨rfl, rfl, rfl, rfl, fun hp => insertOnce_pairwise (hp.filter _)⟩
  · rw [trigEngine_kept hs h]
    exact ⟨rfl, rfl, rfl, rfl, insertOnce_pairwise⟩

/-- Settles O31: an engine is stopped, or is pre-empted, or keeps the trigger pending. -/
theorem triggerRules : Obligations.TriggerRules := by
  intro t due e
  by_cases hs : e.mode = .stopped
  · rw [trigEngine_stopped t due hs, trigEngine_stopped t due hs]
    simp_all
  · have hmem := fun u => mem_trigEngine_pend (t := t) (u := u) (due := due) hs
    refine ⟨trigEngine_idem t due e, fun _ => (hmem t).mpr (.inl rfl), fun u hu h0 => (hmem u).mpr (.inr ⟨hu, fun _ => h0⟩), fun u hu => ((hmem u).mp hu).imp_right And.left,
      fun h0 ht => (hmem 0).mpr (.inr ⟨h0, fun hp => absurd hp.1 ht⟩), fun ht hh hm => ?_, trigEngine_mode, fun h => absurd h hs, trigEngine_keeps t due e⟩
    obtain ⟨st, h⟩ := trigEngine_preempts (due := due) (⟨ht, hh, hm⟩ : e.preempts t)
    rw [h]
    exact ⟨rfl, zero_notMem_insertOnce_one _, rfl⟩

end Sys2Proof.Machine
end

section
/-! PROOFS. One raise taken by the collector, and the strongest of a step time (R622, R628, R630). -/
namespace Sys2Proof.Machine

/-! ### Single bits of a register -/

theorem State.bit_eq (s : State) (a k : Nat) : s.bit a k = decide (s.g ⟨a, k, 1⟩ = 1) := Nat.testBit_eq_decide_div_mod_eq

theorem State.bit_congr {s t : State} {a : Nat} (h : t.rd a = s.rd a) (k : Nat) : t.bit a k = s.bit a k := by
  unfold State.bit State.rn
  rw [h]

theorem State.bit_pbit_same (s : State) (a : Nat) {k : Nat} (v : Bool) (hk : k < 16) : (s.pbit a k v).bit a k = v := by
  rw [State.bit_eq, State.pbit, State.pb, State.g_p_same _ _ _ (show k + 1 ≤ 16 from hk)]
  cases v <;> rfl

theorem State.bit_pbit_ne (s : State) {a b k j : Nat} (v : Bool) (hk : k < 16) (h : a ≠ b ∨ j ≠ k) : (s.pbit b k v).bit a j = s.bit a j := by
  rw [State.bit_eq, State.bit_eq, State.pbit, State.pb]
  by_cases ha : a = b
  · subst ha
    have hj : j ≠ k := h.resolve_left (· rfl)
    rw [State.g_p_beside s _ (show k + 1 ≤ 16 from hk) (by dsimp only; omega)]
  · rw [State.g_p_ne s _ ha]

/-! ### The sticky bits, the counts and the first-fail log of a raise (R622, R201) -/

theorem State.sticky_congr {s t : State} {n : Nat} (h : t.rd (A.FLT_STK (n / 16)) = s.rd (A.FLT_STK (n / 16))) : t.sticky n = s.sticky n := State.bit_congr h _

theorem State.sticky_setSticky_same (s : State) (n : Nat) : (s.setSticky n).sticky n = true := State.bit_pbit_same s _ true (Nat.mod_lt _ (by decide))

theorem State.sticky_setSticky_ne (s : State) {m n : Nat} (h : m ≠ n) : (s.setSticky n).sticky m = s.sticky m :=
  State.bit_pbit_ne s true (Nat.mod_lt _ (by decide)) (by unfold A.FLT_STK; omega)

theorem State.rd_setSticky_ne (s : State) {n a : Nat} (h : a ≠ A.FLT_STK (n / 16)) : (s.setSticky n).rd a = s.rd a := State.rd_p_ne s _ h

/-- A no-start count stands in a domain's block, below the collector's registers. -/
theorem State.rd_countNoStart (s : State) (r : Raise) {a : Nat} (h : 0x0C00 ≤ a) : (s.countNoStart r).rd a = s.rd a := by
  unfold State.countNoStart
  by_cases hn : r.source < 10
  · refine State.when_keeps (·.rd a) (fun u => u.rd_inc_ne ?_) s _
    unfold A.DOM_CNT domBase
    omega
  · simp [hn]

theorem State.countNoStart_eq (s : State) (r : Raise) : s.countNoStart r = { s with regs := (s.countNoStart r).regs } := by
  unfold State.countNoStart
  cases decide (r.source < 10) && decide (r.origin = .engine)
  · rfl
  · exact s.inc_eq _

/-- A record of the first-fail log waits for the bus and changes the NVM's state only. -/
theorem State.queueRecord_eq (s : State) (k : FailKind) (i : Incident) : s.queueRecord k i = { s with nvm := (s.queueRecord k i).nvm } := by
  unfold State.queueRecord
  split <;> rfl

/-! ### One raise taken (R622, R628, R201), in its parts -/

/-- The sticky bit sets and the source counts. -/
def State.markRaise (s : State) (r : Raise) : State := (s.setSticky r.source).inc (A.FLT_CNT r.source)

/-- R638: a forced raise under DRY that would have acted is marked. -/
def State.markDry (s : State) (r : Raise) (conf : Nat) : State := s.when (r.origin = .force && s.b F.FLT_TEST_DRY && decide (2 ≤ conf)) (·.p F.FLT_TEST_DRYHIT 1)

/-- A source that was not sticky reports, from the class NOTE on. -/
def State.reportRaise (s : State) (r : Raise) (c conf : Nat) (old : Bool) : State :=
  if !old && decide (1 ≤ c) then
    ({ s with hif := { s.hif with attn := true } } : State).post (.fault c conf r.origin r.state r.source (s.rn (A.FLT_CNT r.source)) (s.g F.THM_STAT_BAND))
  else s

/-- R201: a no-start of the power-up enters the first-fail log. -/
def State.recordNoStart (s : State) (r : Raise) (c conf : Nat) : State :=
  if r.source < 10 && r.origin = .engine && decide (c ≤ 1) && r.state = 3 then s.queueRecord .noStart (s.incidentOf r.source conf 3) else s

theorem State.takeRaise_enabled {s : State} {r : Raise} (l : List Taken) (h : (s.countNoStart r).srcEn r.source = true) :
    (State.takeRaise (s, l) r).1 =
      (((((s.countNoStart r).markRaise r).markDry r ((s.countNoStart r).srcCls r.source)).reportRaise r ((s.countNoStart r).appliedClass r) ((s.countNoStart r).srcCls r.source)
        ((s.countNoStart r).sticky r.source)).recordNoStart r ((s.countNoStart r).appliedClass r) ((s.countNoStart r).srcCls r.source)) := by
  simp only [State.takeRaise]
  rw [if_pos h]
  rfl

theorem State.recordNoStart_eq (s : State) (r : Raise) (c conf : Nat) : s.recordNoStart r c conf = { s with nvm := (s.recordNoStart r c conf).nvm } := by
  unfold State.recordNoStart
  split
  · exact s.queueRecord_eq _ _
  · rfl

theorem State.reportRaise_regs (s : State) (r : Raise) (c conf : Nat) (old : Bool) : (s.reportRaise r c conf old).regs = s.regs := by
  unfold State.reportRaise
  split <;> rfl

theorem State.reportRaise_outbox (s : State) (r : Raise) (c conf : Nat) (old : Bool) :
    (s.reportRaise r c conf old).mrq.outbox.length = s.mrq.outbox.length + if !old && decide (1 ≤ c) then 1 else 0 := by
  unfold State.reportRaise
  split
  · exact List.length_append
  · rfl

theorem State.reportRaise_attn (s : State) (r : Raise) (c conf : Nat) (old : Bool) : (s.reportRaise r c conf old).hif.attn = (s.hif.attn || (!old && decide (1 ≤ c))) := by
  unfold State.reportRaise
  cases !old && decide (1 ≤ c) <;> simp [State.post]

theorem State.markDry_eq (s : State) (r : Raise) (conf : Nat) : s.markDry r conf = { s with regs := (s.markDry r conf).regs } := by
  unfold State.markDry
  cases decide (r.origin = .force) && s.b F.FLT_TEST_DRY && decide (2 ≤ conf) <;> rfl

theorem State.rd_markDry (s : State) (r : Raise) (conf : Nat) {a : Nat} (h : a ≠ A.FLT_TEST) : (s.markDry r conf).rd a = s.rd a :=
  State.when_keeps (·.rd a) (fun u => u.rd_p_ne 1 h) s _

theorem State.markRaise_eq (s : State) (r : Raise) : s.markRaise r = { s with regs := (s.markRaise r).regs } := by
  unfold State.markRaise
  rw [State.inc_eq]
  rfl

/-- What the taking of a raise leaves of the registers: all but the count of a no-start, the sticky bit, the count and the mark of DRY. -/
theorem State.rd_takeRaise_enabled {s : State} {r : Raise} (l : List Taken) (h : (s.countNoStart r).srcEn r.source = true) {a : Nat} (ha : a ≠ A.FLT_TEST) :
    (State.takeRaise (s, l) r).1.rd a = ((s.countNoStart r).markRaise r).rd a := by
  rw [State.takeRaise_enabled l h, State.recordNoStart_eq]
  unfold State.rd
  dsimp only
  rw [State.reportRaise_regs]
  exact State.rd_markDry _ r _ ha

/-! ### The collector's view of a raise is not touched by the count of a no-start -/

theorem State.srcEn_countNoStart (s : State) (r : Raise) (n : Nat) : (s.countNoStart r).srcEn n = s.srcEn n := State.bit_congr (s.rd_countNoStart r (by unfold A.FLT_EN; omega)) _

theorem State.sticky_countNoStart (s : State) (r : Raise) (n : Nat) : (s.countNoStart r).sticky n = s.sticky n := State.sticky_congr (s.rd_countNoStart r (by unfold A.FLT_STK; omega))

theorem State.appliedClass_countNoStart (s : State) (r : Raise) : (s.countNoStart r).appliedClass r = s.appliedClass r := by
  have hcls : (s.countNoStart r).srcCls r.source = s.srcCls r.source := by
    unfold State.srcCls State.g
    rw [s.rd_countNoStart r (by show 0x0C00 ≤ 0x0C20 + r.source / 8; omega)]
  have hdry : (s.countNoStart r).b F.FLT_TEST_DRY = s.b F.FLT_TEST_DRY := by
    unfold State.b State.g
    rw [s.rd_countNoStart r (by decide)]
  have hpow : (s.countNoStart r).power = s.power := by rw [s.countNoStart_eq r]
  unfold State.appliedClass
  rw [hcls, hdry, hpow]

/-- A disabled source does nothing but the count of an engine's no-start. -/
theorem State.takeRaise_disabled {s : State} {r : Raise} (l : List Taken) (h : s.srcEn r.source = false) (hn : 10 ≤ r.source ∨ r.origin ≠ .engine) : State.takeRaise (s, l) r = (s, l) := by
  have hcount : s.countNoStart r = s := by
    unfold State.countNoStart
    rcases hn with hn | hn
    · simp [Nat.not_lt.mpr hn]
    · simp [hn]
  simp [State.takeRaise, hcount, h]

/-- What a raise of an enabled source does (R622, R628). -/
theorem State.takeRaise_acts {s : State} {r : Raise} (l : List Taken) (hr : r.source < 128) (h : s.srcEn r.source = true) :
    let t := (State.takeRaise (s, l) r).1
    t.sticky r.source = true ∧ t.rn (A.FLT_CNT r.source) = min 65535 (s.rn (A.FLT_CNT r.source) + 1) ∧ (∀ n, n < 128 → n ≠ r.source → t.sticky n = s.sticky n) ∧
      t.mrq.outbox.length = s.mrq.outbox.length + (if !s.sticky r.source && decide (1 ≤ s.appliedClass r) then 1 else 0) ∧
      t.hif.attn = (s.hif.attn || (!s.sticky r.source && decide (1 ≤ s.appliedClass r))) := by
  have h' : (s.countNoStart r).srcEn r.source = true := (s.srcEn_countNoStart r _).trans h
  have hstk : ∀ n, n < 128 → (State.takeRaise (s, l) r).1.sticky n = ((s.countNoStart r).setSticky r.source).sticky n := fun n hn => by
    refine State.sticky_congr ((State.rd_takeRaise_enabled l h' (by unfold A.FLT_STK A.FLT_TEST; omega)).trans (State.rd_inc_ne _ ?_))
    unfold A.FLT_STK A.FLT_CNT
    omega
  refine ⟨?_, ?_, fun n hn hne => ?_, ?_, ?_⟩
  · rw [hstk _ hr, State.sticky_setSticky_same]
  · have hcnt : (State.takeRaise (s, l) r).1.rd (A.FLT_CNT r.source) = ((s.countNoStart r).markRaise r).rd (A.FLT_CNT r.source) := State.rd_takeRaise_enabled l h' (by unfold A.FLT_CNT A.FLT_TEST; omega)
    have hbefore : ((s.countNoStart r).setSticky r.source).rd (A.FLT_CNT r.source) = s.rd (A.FLT_CNT r.source) :=
      (State.rd_setSticky_ne _ (by unfold A.FLT_STK A.FLT_CNT; omega)).trans (s.rd_countNoStart r (by unfold A.FLT_CNT; omega))
    unfold State.rn at *
    rw [hcnt, ← hbefore]
    exact State.rn_inc _ _
  · rw [hstk n hn, State.sticky_setSticky_ne _ hne, s.sticky_countNoStart r]
  · rw [State.takeRaise_enabled l h', State.recordNoStart_eq, s.appliedClass_countNoStart r, s.sticky_countNoStart r, State.reportRaise_outbox, State.markDry_eq, State.markRaise_eq, s.countNoStart_eq r]
  · rw [State.takeRaise_enabled l h', State.recordNoStart_eq, s.appliedClass_countNoStart r, s.sticky_countNoStart r, State.reportRaise_attn, State.markDry_eq, State.markRaise_eq, s.countNoStart_eq r]

/-! ### The strongest of the raises of one step time (R630) -/

/-- Of the raises seen so far, the one that acts, by class and then by the lowest source; those below WARN do not. -/
def Strongest (l : List Taken) : Option Taken → Prop
  | none => ∀ u ∈ l, u.cls < 2
  | some t => t ∈ l ∧ 2 ≤ t.cls ∧ ∀ u ∈ l, u.cls ≤ t.cls ∧ (u.cls = t.cls → t.source ≤ u.source)

/-- One raise more is weighed. -/
def stronger (b : Option Taken) (t : Taken) : Option Taken :=
  if t.cls < 2 then b
  else match b with
    | none => some t
    | some u => if u.cls < t.cls || (u.cls = t.cls && t.source < u.source) then some t else some u

theorem strongest_append (l : List Taken) (t : Taken) : strongest (l ++ [t]) = stronger (strongest l) t := by
  rw [strongest, List.foldl_append]
  rfl

theorem Strongest.stronger {l : List Taken} {b : Option Taken} (h : Strongest l b) (t : Taken) : Strongest (l ++ [t]) (stronger b t) := by
  have hall : ∀ {P : Taken → Prop}, (∀ u ∈ l, P u) → P t → ∀ u ∈ l ++ [t], P u := fun hl ht u hu => (List.mem_append.mp hu).elim (hl u) fun hu => List.mem_singleton.mp hu ▸ ht
  have ht : t ∈ l ++ [t] := List.mem_append_right _ (List.mem_singleton_self t)
  unfold Machine.stronger
  cases b with
  | none =>
    split
    next hc => exact hall h hc
    next hc => exact ⟨ht, by omega, hall (fun u hu => by have := h u hu; omega) (by omega)⟩
  | some v =>
    obtain ⟨hv, h2, hl⟩ := h
    have hv : v ∈ l ++ [t] := List.mem_append_left _ hv
    split
    next hc => exact ⟨hv, h2, hall hl (by omega)⟩
    next hc =>
      dsimp only
      split
      next hs =>
        simp only [Bool.or_eq_true, Bool.and_eq_true, decide_eq_true_eq] at hs
        exact ⟨ht, by omega, hall (fun u hu => by have := hl u hu; omega) (by omega)⟩
      next hs =>
        simp only [Bool.or_eq_true, Bool.and_eq_true, decide_eq_true_eq] at hs
        exact ⟨hv, h2, hall hl (by omega)⟩

theorem strongest_spec (l : List Taken) : Strongest l (strongest l) := by
  induction l using List.reverseRecOn with
  | nil => exact fun u hu => absurd hu List.not_mem_nil
  | append_singleton l t ih =>
    rw [strongest_append]
    exact ih.stronger t

/-- Settles O24: a raise's parts in turn, and an induction over the raises of one step time. -/
theorem raiseTaken : Obligations.RaiseTaken := by
  refine ⟨fun s l r hr => ⟨State.takeRaise_acts l hr, State.takeRaise_disabled l⟩, fun l => ?_⟩
  have h := strongest_spec l
  generalize strongest l = b at h
  cases b with
  | none => exact ⟨fun _ ht => (nomatch ht), iff_of_true rfl h⟩
  | some v =>
    obtain ⟨hv, h2, hl⟩ := h
    exact ⟨fun t ht => Option.some.inj ht ▸ ⟨hv, h2, hl⟩, iff_of_false (nomatch ·) fun hn => absurd (hn v hv) (by omega)⟩

end Sys2Proof.Machine
end

section
/-! PROOFS. A pop where a read pointer has no entry (R657, R663). -/
namespace Sys2Proof.Machine

/-! ### Popping with a read pointer that has no entry (R663) -/

/-- A packet of class 0 in a queue whose read pointers' first copy has no entries, so that only the second copy can move. -/
def noReadPointers : State :=
  { State.reset with mrq := { State.reset.mrq with pkts := [⟨0, [0]⟩], rp := [], rp2 := [0, 0, 0, 0] } }

theorem noReadPointers_head : noReadPointers.mrq.head = some ⟨0, [0]⟩ := rfl

/-- A missing pointer reads as 0, as the second copy does. -/
theorem noReadPointers_agree : noReadPointers.mrq.ptrsAgree 0 = true := rfl

/-- The pop moves the second copy to 1. -/
theorem noReadPointers_popped : noReadPointers.popHead.mrq.ptrsAgree 0 = false := rfl

/-- Refutes O25: its last clause on popping says that the pointers agree afterwards, of every state, also of one whose list of read pointers has no entry for the class: there the first copy cannot move with the second. -/
theorem not_queueOrder : ¬ Obligations.QueueOrder := by
  rintro ⟨-, -, hpop, -⟩
  obtain ⟨-, -, -, -, hagree⟩ := hpop noReadPointers ⟨0, [0]⟩ noReadPointers_head noReadPointers_agree
  rw [noReadPointers_popped] at hagree
  exact Bool.false_ne_true hagree

end Sys2Proof.Machine
end

section
/-! PROOFS. An engine's row at a step, changes of one engine, and the LOOP step (R146, R147, R164). -/
namespace Sys2Proof.Machine

/-! ### A row of an engine at a step (R146) -/

theorem State.openStep_eq (s : State) (k : Nat) : s.openStep k = { s with ctl := (s.openStep k).ctl } := by
  unfold State.openStep State.when
  dsimp only
  split
  all_goals split <;> rfl

@[simp] theorem State.openStep_eng (s : State) (k : Nat) : (s.openStep k).eng = s.eng := by rw [s.openStep_eq]

@[simp] theorem State.openStep_regs (s : State) (k : Nat) : (s.openStep k).regs = s.regs := by rw [s.openStep_eq]

@[simp] theorem State.openStep_engAt (s : State) (k j : Nat) : (s.openStep k).engAt j = s.engAt j := by unfold State.engAt; rw [s.openStep_eng]

@[simp] theorem State.openStep_engLen (s : State) (k j : Nat) : (s.openStep k).engLen j = s.engLen j := by unfold State.engLen State.g State.rd; rw [s.openStep_regs]

/-- A row acts on the step at the engine's offset, in the step time's state; on another step it changes nothing. -/
theorem State.engRow_at {s : State} {k : Nat} {st : EngStep} (hm : s.mayStep k = true) (hst : s.stepAt k = .ok st) (f : State → EngStep → Option (Except Fault State)) :
    s.engRow k f = (f (s.openStep k) st).getD (.ok s) := by
  rw [State.engRow, if_pos hm, hst]

/-- A row stops at a step that is none. -/
theorem State.engRow_undefined {s : State} {k : Nat} {e : String} (hm : s.mayStep k = true) (hst : s.stepAt k = .error e) (f : State → EngStep → Option (Except Fault State)) :
    s.engRow k f = .error (.undefinedStep e) := by
  rw [State.engRow, if_pos hm, hst]

/-! ### Changes of one engine -/

theorem State.setEng_setEng (s : State) (k : Nat) (f g : Engine → Engine) : (s.setEng k f).setEng k g = s.setEng k (g ∘ f) := by
  unfold State.setEng
  dsimp only
  rw [List.modify_modify_eq]

@[simp] theorem State.setEng_engLen (s : State) (k : Nat) (f : Engine → Engine) (j : Nat) : (s.setEng k f).engLen j = s.engLen j := rfl

theorem State.jumpTo_inside {s : State} {k target : Nat} (h : target < s.engLen k) :
    s.jumpTo k target = .ok (s.setEng k (fun e => { e with mode := e.goOn .run, pc := target, stepping := false })) := by
  rw [State.jumpTo, if_neg (Nat.not_le.mpr h)]

theorem State.jumpTo_beyond {s : State} {k target : Nat} (h : s.engLen k ≤ target) : ∃ m, s.jumpTo k target = .error (.undefinedStep m) := by
  rw [State.jumpTo, if_pos h]
  exact ⟨_, rfl⟩

/-! ### LOOP (R164) -/

/-- The counter that a LOOP step names. -/
def Engine.loopCount (e : Engine) (second : Bool) : Nat := if second then e.l1 else e.l0

/-- The engine with that counter at v. -/
def Engine.setLoop (second : Bool) (v : Nat) (e : Engine) : Engine := if second then { e with l1 := v } else { e with l0 := v }

/-- The engine that goes on at an offset of its program. -/
def Engine.goTo (target : Nat) (e : Engine) : Engine := { e with mode := e.goOn .run, pc := target, stepping := false }

theorem State.doLoop_zero {s : State} {k n target : Nat} {second : Bool} (h : (s.engAt k).loopCount second = 0) : s.doLoop k second n target = (s.setEng k (Engine.setLoop second n)).jumpTo k target := by
  unfold State.doLoop Engine.loopCount at *
  dsimp only
  rw [if_pos h]
  rfl

theorem State.doLoop_one {s : State} {k n target : Nat} {second : Bool} (h : (s.engAt k).loopCount second = 1) : s.doLoop k second n target = .ok ((s.setEng k (Engine.setLoop second 0)).advance k 1) := by
  unfold State.doLoop Engine.loopCount at *
  dsimp only
  rw [if_neg (by omega), if_pos h]
  rfl

theorem State.doLoop_above {s : State} {k n target : Nat} {second : Bool} (h : 2 ≤ (s.engAt k).loopCount second) :
    s.doLoop k second n target = (s.setEng k (Engine.setLoop second ((s.engAt k).loopCount second - 1))).jumpTo k target := by
  unfold State.doLoop Engine.loopCount at *
  dsimp only
  rw [if_neg (by omega), if_neg (by omega)]
  rfl

theorem State.advance_inside {s : State} {k n : Nat} (h : (s.engAt k).pc + n < s.engLen k) : s.advance k n = s.setEng k (Engine.goTo ((s.engAt k).pc + n)) := by
  unfold State.advance
  dsimp only
  rw [if_neg (Nat.not_le.mpr h)]
  rfl

theorem exec_loop {s : State} {k n target : Nat} {second : Bool} (hm : s.mayStep k = true) (hst : s.stepAt k = .ok (.loop second n target)) :
    exec (.loop k) s = ran ((s.openStep k).doLoop k second n target) := by
  show ran (s.engRow k _) = _
  rw [State.engRow_at hm hst]
  rfl

theorem setLoop_goTo (second : Bool) (v target : Nat) :
    Engine.goTo target ∘ Engine.setLoop second v =
      fun e => { e with mode := if e.pre then .idle else .run, pc := target, stepping := false, l0 := if second then e.l0 else v, l1 := if second then v else e.l1 } := by
  cases second <;> rfl

theorem State.engAt_setEng (s : State) (k j : Nat) (f : Engine → Engine) : (s.setEng k f).engAt j = if k = j ∧ j < s.eng.length then f (s.engAt j) else s.engAt j := by
  unfold State.setEng State.engAt
  by_cases hk : k = j
  · subst hk
    by_cases hl : k < s.eng.length
    · simp [hl]
    · simp [hl]
  · simp [hk]

/-- A change that leaves an engine's offset. -/
theorem State.engAt_setLoop_pc (s : State) (k : Nat) (second : Bool) (v : Nat) : ((s.setEng k (Engine.setLoop second v)).engAt k).pc = (s.engAt k).pc := by
  rw [State.engAt_setEng]
  split
  · cases second <;> rfl
  · rfl

/-- The state in which a LOOP goes to an offset with its counter at v. -/
theorem State.loopTo_eq (s : State) (k : Nat) (second : Bool) (v target : Nat) :
    (s.setEng k (Engine.setLoop second v)).setEng k (Engine.goTo target) =
      { s with eng := s.eng.modify k (fun e =>
          { e with mode := if e.pre then .idle else .run, pc := target, stepping := false, l0 := if second then e.l0 else v, l1 := if second then v else e.l1 }) } := by
  rw [State.setEng_setEng, setLoop_goTo]
  rfl

/-! ### The encoding of LOOP -/

theorem decodeStep_loop {w : Nat} (h : w / 2 ^ 28 % 16 = 10) :
    decodeStep w = stepIf (stepBits w 25 3 = 0 && stepBits w 12 4 = 0 && stepBits w 16 8 ≠ 0) (.loop (w.testBit 24) (stepBits w 16 8) (stepBits w 0 12)) := by
  unfold decodeStep
  dsimp only
  rw [h]
  rfl

/-- The fields of a LOOP's word. -/
theorem loopWord_fields {n target : Nat} (second : Bool) (hn : n < 256) (ht : target < 4096) :
    let w := 10 * 2 ^ 28 + (if second then 2 ^ 24 else 0) + n * 2 ^ 16 + target
    w / 2 ^ 28 % 16 = 10 ∧ stepBits w 25 3 = 0 ∧ stepBits w 12 4 = 0 ∧ stepBits w 16 8 = n ∧ stepBits w 0 12 = target ∧ w.testBit 24 = second := by
  unfold stepBits
  dsimp only
  rw [Nat.testBit_eq_decide_div_mod_eq]
  cases second <;> simp only [Bool.false_eq_true, if_false, if_true]
  · exact ⟨by omega, by omega, by omega, by omega, by omega, decide_eq_false (by omega)⟩
  · exact ⟨by omega, by omega, by omega, by omega, by omega, decide_eq_true (by omega)⟩

/-- Settles O37: the step's row, its counter by cases, and the fields of its word. -/
theorem loopCounts : Obligations.LoopCounts := by
  have hcount : ∀ (s : State) (k : Nat) (second : Bool), ((s.openStep k).engAt k).loopCount second = if second then (s.engAt k).l1 else (s.engAt k).l0 := fun s k second => by
    rw [s.openStep_engAt]
    rfl
  have hloop : ∀ (s : State) (k : Nat) (second : Bool) (v target : Nat), target < s.engLen k →
      ((s.openStep k).setEng k (Engine.setLoop second v)).jumpTo k target = .ok { s.openStep k with eng := s.eng.modify k (fun e =>
        { e with mode := if e.pre then .idle else .run, pc := target, stepping := false, l0 := if second then e.l0 else v, l1 := if second then v else e.l1 }) } := fun s k second v target h => by
    rw [State.jumpTo_inside (by simpa using h), ← s.openStep_eng k]
    exact congrArg _ (State.loopTo_eq _ k second v target)
  refine ⟨fun s k n target second hm hst hlen hc => ?_, fun s k n target second hm hst hlen hc => ?_, fun s k n target second hm hst hlen hc => ?_, fun s k n target second hm hst hlen hc => ?_,
    fun n target second h1 hn ht => ?_, fun s k target second hm ht hbase hw => ?_⟩
  · rw [exec_loop hm hst, State.doLoop_zero ((hcount s k second).trans hc), hloop s k second n target hlen, ran_ok]
  · rw [exec_loop hm hst, State.doLoop_one ((hcount s k second).trans hc), State.advance_inside (by rw [State.engAt_setLoop_pc]; simpa using hlen), State.engAt_setLoop_pc, State.loopTo_eq, ran_ok, s.openStep_engAt,
      s.openStep_eng]
  · rw [exec_loop hm hst, State.doLoop_above (by rw [hcount]; exact hc), hloop s k second _ target hlen, ran_ok, hcount]
    cases second <;> rfl
  · have hfault : ∀ v, ∃ m, ran (((s.openStep k).setEng k (Engine.setLoop second v)).jumpTo k target) = .fault (.undefinedStep m) := fun v => by
      obtain ⟨m, hj⟩ := State.jumpTo_beyond (s := (s.openStep k).setEng k (Engine.setLoop second v)) (by simpa using hlen)
      exact ⟨m, by rw [hj, ran_error]⟩
    rw [exec_loop hm hst]
    by_cases h0 : ((s.openStep k).engAt k).loopCount second = 0
    · rw [State.doLoop_zero h0]
      exact hfault n
    · rw [State.doLoop_above (by have := hcount s k second; omega)]
      exact hfault _
  · obtain ⟨hop, h25, h12, hcount, htgt, hbit⟩ := loopWord_fields second hn ht
    rw [decodeStep_loop hop, h25, h12, hcount, htgt, hbit, stepIf, if_pos (by simp; omega)]
  · obtain ⟨hop, h25, h12, hcount, htgt, hbit⟩ := loopWord_fields (n := 0) second (by decide) ht
    have hst : ∃ m, s.stepAt k = .error m := by
      refine ⟨"a reserved bit or code of a step", ?_⟩
      rw [State.stepAt, if_neg (by omega), hw]
      rw [Nat.zero_mul, Nat.add_zero] at hop h25 h12 hcount
      rw [decodeStep_loop hop, h25, h12, hcount]
      rfl
    obtain ⟨m, hm'⟩ := hst
    refine ⟨m, ?_⟩
    show ran (s.engRow k _) = _
    rw [State.engRow_undefined hm hm']
    rfl

end Sys2Proof.Machine
end

section
/-! PROOFS. Faults: how they come of an operation without a defined result, and those of an image (R78, R640). -/
namespace Sys2Proof.Machine

section
variable {φ ψ : Fault → Prop} {s : State}

/-! ### The faults of an operation without a defined result -/

/-- Where the result is undefined, φ names its fault. -/
def ErrIn (φ : Fault → Prop) (r : Except Fault State) : Prop := ∀ e, r = .error e → φ e

theorem ErrIn.ok : ErrIn φ (.ok s) := fun _ he => (nomatch he)

theorem ErrIn.error {e : Fault} (h : φ e) : ErrIn φ (.error e) := fun _ he => Except.error.inj he ▸ h

theorem ErrIn.ite {c : Prop} [Decidable c] {x y : Except Fault State} (hx : c → ErrIn φ x) (hy : ¬c → ErrIn φ y) : ErrIn φ (if c then x else y) := by
  split
  next h => exact hx h
  next h => exact hy h

theorem ErrIn.bind {x : Except Fault State} (hx : ErrIn φ x) {f : State → Except Fault State} (hf : ∀ t : State, x = .ok t → ErrIn φ (f t)) :
    ErrIn φ (match (generalizing := false) x with | .error e => .error e | .ok t => f t) := by
  cases x with
  | error e => exact .error (hx e rfl)
  | ok t => exact hf t rfl

theorem ErrIn.map {x : Except Fault State} (hx : ErrIn φ x) {f : State → State} : ErrIn φ (x.map f) := by
  cases x with
  | error e => exact .error (hx e rfl)
  | ok t => exact .ok

theorem ErrIn.mono {x : Except Fault State} (hx : ErrIn φ x) (h : ∀ e, φ e → ψ e) : ErrIn ψ x := fun e he => h e (hx e he)

theorem FaultsIn.ran {r : Except Fault State} (h : ErrIn φ r) : FaultsIn φ (ran r) := by
  cases r with
  | error e => exact fun _ he => Host.Outcome.fault.inj he ▸ h e rfl
  | ok t => exact fun _ he => (nomatch he)

theorem FaultsIn.hostRan {f : State → Except Fault State} (h : s.hostAlive = true → ErrIn φ (f s.demandFast)) : FaultsIn φ (hostRan s f) := by
  unfold Machine.hostRan
  split
  next ha => exact .ran (h ha)
  next => exact fun _ he => (nomatch he)

/-! ### The image (R78, R640) -/

/-- The faults of an image. -/
def Fault.OfImage (f : Fault) : Prop := ∃ m, f = .undefinedImage m

theorem loadEntry_errIn {a v : Nat} : ErrIn Fault.OfImage (s.loadEntry a v) := by
  unfold State.loadEntry
  exact .ite (fun _ => .ok) fun _ => .error ⟨_, rfl⟩

theorem regLoad_errIn {s : State} {fmt2 : Bool} : (ws : List Nat) → ErrIn Fault.OfImage (s.regLoad fmt2 ws)
  | [] => .ok
  | [_] => .ok
  | a :: v :: r => by
    unfold State.regLoad
    refine .ite (fun _ => ?_) fun _ => .bind loadEntry_errIn fun t _ => regLoad_errIn r
    split
    · exact regLoad_errIn r
    · exact .bind loadEntry_errIn fun t _ => regLoad_errIn r

theorem loadProgram_errIn {body : List Byte} : ErrIn Fault.OfImage (s.loadProgram body) := by
  unfold State.loadProgram
  exact .ite (fun _ => .error ⟨_, rfl⟩) fun _ => .ite (fun _ => .error ⟨_, rfl⟩) fun _ => .ok

theorem loadWindows_errIn {s : State} : (ws : List Nat) → ErrIn Fault.OfImage (s.loadWindows ws)
  | [] => .ok
  | [_] => .ok
  | [_, _] => .ok
  | [_, _, _] => .ok
  | a :: lw :: lo :: hi :: r => by
    unfold State.loadWindows
    exact .ite (fun _ => .error ⟨_, rfl⟩) fun _ => .ite (fun _ => .error ⟨_, rfl⟩) fun _ => loadWindows_errIn r

theorem loadTable_errIn {a len : Nat} {body : List Byte} : ErrIn Fault.OfImage (s.loadTable a len body) := by
  unfold State.loadTable
  exact .ite (fun _ => .ok) fun _ => .error ⟨_, rfl⟩

theorem loadWayline_errIn {body : List Byte} : ErrIn Fault.OfImage (s.loadWayline body) := by
  unfold State.loadWayline
  exact .ite (fun _ => .ok) fun _ => .error ⟨_, rfl⟩

theorem loadClasses_errIn {body : List Byte} : ErrIn Fault.OfImage (s.loadClasses body) := by
  unfold State.loadClasses
  exact .ite (fun _ => .ok) fun _ => .error ⟨_, rfl⟩

theorem loadSection_errIn {fmt2 : Bool} {typ : Nat} {body : List Byte} : ErrIn Fault.OfImage (s.loadSection fmt2 typ body) := by
  unfold State.loadSection
  exact .ite (fun _ => regLoad_errIn _) fun _ => .ite (fun _ => loadProgram_errIn) fun _ => .ite (fun _ => loadTable_errIn) fun _ => .ite (fun _ => loadClasses_errIn) fun _ => .ite (fun _ => .ok) fun _ =>
    .ite (fun _ => loadWindows_errIn _) fun _ => .ite (fun _ => loadTable_errIn) fun _ => .ite (fun _ => loadTable_errIn) fun _ => .ite (fun _ => loadTable_errIn) fun _ => .ite (fun _ => loadWayline_errIn) fun _ =>
    .ite (fun _ => loadTable_errIn) fun _ => .ok

theorem loadSections_errIn {fmt2 : Bool} {bs : List Byte} {fuel : Nat} : ErrIn Fault.OfImage (s.loadSections fmt2 bs fuel) := by
  induction fuel generalizing s bs with
  | zero => exact .ok
  | succ k ih => exact .ite (fun _ => .ok) fun _ => .ite (fun _ => .ok) fun _ => .ite (fun _ => .error ⟨_, rfl⟩) fun _ => .bind loadSection_errIn fun t _ => ih

/-- An image is undefined only where a copy is valid. -/
theorem applyImage_errIn {a b : List Byte} : ErrIn (fun f => Fault.OfImage f ∧ (imgState a = 1 ∨ imgState b = 1)) (s.applyImage a b) := by
  unfold State.applyImage
  dsimp only
  refine .ite (fun _ => .ok) fun hcopy => ?_
  have hvalid : imgState a = 1 ∨ imgState b = 1 := by
    by_contra hnone
    obtain ⟨ha, hb⟩ := not_or.mp hnone
    exact hcopy (by simp [ha, hb])
  exact .bind (loadSections_errIn.mono fun _ he => ⟨he, hvalid⟩) fun t _ => .ite (fun _ => .error ⟨⟨_, rfl⟩, hvalid⟩) fun _ => .ok

theorem imageReadDone_faultsIn {a b : List Byte} {t : Straps} : FaultsIn (s.mayStop (.imageReadDone a b t) · = true) (exec (.imageReadDone a b t) s) := by
  show FaultsIn _ (execImageReadDone a b t s)
  unfold execImageReadDone
  split
  next h =>
    refine .ran (.map (applyImage_errIn.mono fun f hf => ?_))
    obtain ⟨⟨m, rfl⟩, hv⟩ := hf
    simp only [State.bootAwaits, Bool.and_eq_true, decide_eq_true_eq] at h
    simp [State.mayStop, h, hv]
  next => exact fun _ he => (nomatch he)

end
end Sys2Proof.Machine
end

section
/-! PROOFS. Faults of engine steps and their rows (R153 to R164, R171). -/
namespace Sys2Proof.Machine

section
variable {φ : Fault → Prop} {s : State}

/-! ### Engine steps (R153 to R164, R171) -/

/-- The faults of an engine step. -/
def Fault.OfStep (f : Fault) : Prop := ∃ m, f = .undefinedStep m

theorem jumpTo_errIn {k target : Nat} : ErrIn (fun f => Fault.OfStep f ∧ s.engLen k ≤ target) (s.jumpTo k target) := by
  unfold State.jumpTo
  exact .ite (fun h => .error ⟨⟨_, rfl⟩, h⟩) fun _ => .ok

/-- ENABLE is undefined for an unused domain, named or of the shed set. -/
theorem doEnable_errIn {k kind mask : Nat} (hk : kind ≤ 4) :
    ErrIn (fun f => Fault.OfStep f ∧ (kind = 0 ∧ s.unusedIn (maskDomains mask) = true ∨ kind = 4 ∧ s.unusedIn (maskDomains (s.g F.SYS_SHEDMASK_SHED)) = true)) (s.doEnable k kind mask) := by
  obtain rfl | rfl | rfl | rfl | rfl : kind = 0 ∨ kind = 1 ∨ kind = 2 ∨ kind = 3 ∨ kind = 4 := by omega
  · exact .ite (fun h => .error ⟨⟨_, rfl⟩, .inl ⟨rfl, h⟩⟩) fun _ => .ok
  · exact .ok
  · exact .ok
  · exact .ok
  · exact .ite (fun h => .error ⟨⟨_, rfl⟩, .inr ⟨rfl, h⟩⟩) fun _ => .ok

theorem doEnable_errIn_ofStep {k kind mask : Nat} : ErrIn Fault.OfStep (s.doEnable k kind mask) := by
  unfold State.doEnable
  have hon : ∀ ns, ErrIn Fault.OfStep (if s.unusedIn ns = true then .error (.undefinedStep "an ENABLE of an unused domain") else .ok ((s.domsOn ns).advance k 1)) := fun ns =>
    .ite (fun _ => .error ⟨_, rfl⟩) fun _ => .ok
  dsimp only
  split
  · exact hon _
  · exact .ok
  · exact .ok
  · exact .ok
  · exact hon _

theorem doDisable_errIn {k kind mask : Nat} {nodis : Bool} : ErrIn φ (s.doDisable k kind mask nodis) := by
  unfold State.doDisable
  split <;> exact .ok

theorem doSet_errIn {k i v : Nat} : ErrIn (fun f => Fault.OfStep f ∧ reservedSet i v = true) (s.doSet k i v) := by
  unfold State.doSet
  exact .ite (fun h => .error ⟨⟨_, rfl⟩, h⟩) fun _ => .ok

theorem doCheck_errIn {k : Nat} {inv act stop : Bool} {c op : Nat} : ErrIn (fun f => Fault.OfStep f ∧ act = false ∧ s.engLen k ≤ op) (s.doCheck k inv act stop c op) := by
  unfold State.doCheck
  refine .ite (fun _ => .ok) fun _ => .ite (fun h => ?_) fun _ => .ok
  exact jumpTo_errIn.mono fun f hf => ⟨hf.1, by simpa using h, hf.2⟩

theorem doJump_errIn {k : Nat} {inv en : Bool} {c target : Nat} : ErrIn (fun f => Fault.OfStep f ∧ s.engLen k ≤ target) (s.doJump k inv en c target) := by
  unfold State.doJump
  exact .ite (fun _ => jumpTo_errIn) fun _ => .ok

theorem doLoop_errIn {k : Nat} {second : Bool} {count target : Nat} : ErrIn (fun f => Fault.OfStep f ∧ s.engLen k ≤ target) (s.doLoop k second count target) := by
  unfold State.doLoop
  exact .ite (fun _ => jumpTo_errIn (s := s.setEng k _)) fun _ => .ite (fun _ => .ok) fun _ => jumpTo_errIn (s := s.setEng k _)

theorem doStep_errIn {k : Nat} (st : EngStep) : ErrIn Fault.OfStep (s.doStep k st) :=
  match st with
  | .end_ | .wait .. | .waitc .. | .signal .. | .sync .. => .ok
  | .enable .. => doEnable_errIn_ofStep
  | .disable .. => doDisable_errIn
  | .set .. => doSet_errIn.mono fun _ => And.left
  | .check .. => doCheck_errIn.mono fun _ => And.left
  | .jump .. => doJump_errIn.mono fun _ => And.left
  | .loop .. => doLoop_errIn.mono fun _ => And.left

/-! ### The rows of the engines' steps -/

/-- A row that acts on step st of engine k stops only where the step is undefined. -/
def StepErr (s : State) (k : Nat) (st : EngStep) (r : Option (Except Fault State)) : Prop := ∀ x, r = some x → ErrIn (fun f => Fault.OfStep f ∧ (s.stepAt k = .ok st → s.stepUndefined k = true)) x

theorem StepErr.none {k : Nat} {st : EngStep} : StepErr s k st none := fun _ h => (nomatch h)

theorem StepErr.some {k : Nat} {st : EngStep} {x : Except Fault State} (h : ErrIn (fun f => Fault.OfStep f ∧ (s.stepAt k = .ok st → s.stepUndefined k = true)) x) : StepErr s k st (some x) :=
  fun _ hx => Option.some.inj hx ▸ h

theorem StepErr.ite {c : Prop} [Decidable c] {k : Nat} {st : EngStep} {x : Option (Except Fault State)} (hx : c → StepErr s k st x) : StepErr s k st (if c then x else .none) := by
  split
  next h => exact hx h
  next => exact .none

theorem stepStops_of_undefined {k : Nat} {f : Fault} (hm : (s.mayStep k || s.waitsFor k .time || s.waitsFor k .cond || s.waitsFor k .flag) = true) (hu : s.stepUndefined k = true) (hf : Fault.OfStep f) :
    s.stepStops k f = true := by
  obtain ⟨m, rfl⟩ := hf
  simp [State.stepStops, hm, hu]

theorem stepUndefined_of_error {k : Nat} {e : String} (h : s.stepAt k = .error e) : s.stepUndefined k = true := by
  unfold State.stepUndefined
  rw [h]

theorem engRow_errIn {k : Nat} {f : State → EngStep → Option (Except Fault State)} (h : ∀ st, StepErr s k st (f (s.openStep k) st)) : ErrIn (s.stepStops k · = true) (s.engRow k f) := by
  unfold State.engRow
  refine .ite (fun hm => ?_) fun _ => .ok
  have hstop : ∀ e, Fault.OfStep e → s.stepUndefined k = true → s.stepStops k e = true := fun e he hu => stepStops_of_undefined (by simp [hm]) hu he
  split
  next e he => exact .error (hstop _ ⟨_, rfl⟩ (stepUndefined_of_error he))
  next st hst =>
    cases hr : f (s.openStep k) st with
    | none => exact .ok
    | some x => exact (h st x hr).mono fun e he => hstop e he.1 (he.2 hst)

theorem waitRow_errIn {k : Nat} {w : Waiting} {f : State → EngStep → Option State} : ErrIn (s.stepStops k · = true) (s.waitRow k w f) := by
  unfold State.waitRow
  refine .ite (fun hw => ?_) fun _ => .ok
  split
  next e he => exact .error (stepStops_of_undefined (by cases w <;> simp [hw]) (stepUndefined_of_error he) ⟨_, rfl⟩)
  next => exact .ok

theorem State.openStep_unusedIn (s : State) (k : Nat) (ns : List Nat) : (s.openStep k).unusedIn ns = s.unusedIn ns := by
  unfold State.unusedIn State.b State.g State.rd
  rw [s.openStep_regs]

theorem State.openStep_shed (s : State) (k : Nat) : (s.openStep k).g F.SYS_SHEDMASK_SHED = s.g F.SYS_SHEDMASK_SHED := by
  unfold State.g State.rd
  rw [s.openStep_regs]

theorem enableRow_errIn {k kind : Nat} (hk : kind ≤ 4) : ErrIn (s.stepStops k · = true) (s.enableRow k kind) :=
  engRow_errIn fun st => match st with
    | .enable kd mask => .ite fun hkd => .some (by
        subst hkd
        refine (doEnable_errIn hk).mono fun f hf => ⟨hf.1, fun hst => ?_⟩
        have hu := hf.2
        rw [s.openStep_unusedIn, s.openStep_unusedIn, s.openStep_shed] at hu
        unfold State.stepUndefined
        rw [hst]
        simpa using hu)
    | .end_ | .disable .. | .set .. | .wait .. | .waitc .. | .check .. | .jump .. | .signal .. | .sync .. | .loop .. => .none

theorem disableRow_errIn {k kind : Nat} : ErrIn (s.stepStops k · = true) (s.disableRow k kind) :=
  engRow_errIn fun st => match st with
    | .disable .. => .ite fun _ => .some doDisable_errIn
    | .end_ | .enable .. | .set .. | .wait .. | .waitc .. | .check .. | .jump .. | .signal .. | .sync .. | .loop .. => .none

theorem signalRow_errIn {k kind : Nat} : ErrIn (s.stepStops k · = true) (s.signalRow k kind) :=
  engRow_errIn fun st => match st with
    | .signal .. => .ite fun _ => .some .ok
    | .end_ | .enable .. | .disable .. | .set .. | .wait .. | .waitc .. | .check .. | .jump .. | .sync .. | .loop .. => .none

theorem waitcRow_errIn {k : Nat} : ErrIn (s.stepStops k · = true) (s.waitcRow k) :=
  engRow_errIn fun st => match st with
    | .waitc .. => .some .ok
    | .end_ | .enable .. | .disable .. | .set .. | .wait .. | .check .. | .jump .. | .signal .. | .sync .. | .loop .. => .none

theorem checkRow_errIn {k : Nat} : ErrIn (s.stepStops k · = true) (s.checkRow k) :=
  engRow_errIn fun st => match st with
    | .check .. => .some (doCheck_errIn.mono fun f hf => ⟨hf.1, fun hst => by
        have hlen := hf.2
        rw [s.openStep_engLen] at hlen
        simp [State.stepUndefined, hst, hlen]⟩)
    | .end_ | .enable .. | .disable .. | .set .. | .wait .. | .waitc .. | .jump .. | .signal .. | .sync .. | .loop .. => .none

theorem jumpRow_errIn {k : Nat} : ErrIn (s.stepStops k · = true) (s.jumpRow k) :=
  engRow_errIn fun st => match st with
    | .jump .. => .some (doJump_errIn.mono fun f hf => ⟨hf.1, fun hst => by
        have hlen := hf.2
        rw [s.openStep_engLen] at hlen
        simp [State.stepUndefined, hst, hlen]⟩)
    | .end_ | .enable .. | .disable .. | .set .. | .wait .. | .waitc .. | .check .. | .signal .. | .sync .. | .loop .. => .none

theorem setRow_faultsIn {k : Nat} : FaultsIn (s.stepStops k · = true) (execSet k s) :=
  .ran (engRow_errIn fun st => match st with
    | .set .. => .some (doSet_errIn.mono fun f hf => ⟨hf.1, fun hst => by simp [State.stepUndefined, hst, hf.2]⟩)
    | .end_ | .enable .. | .disable .. | .wait .. | .waitc .. | .check .. | .jump .. | .signal .. | .sync .. | .loop .. => .none)

theorem waitStepRow_faultsIn {k : Nat} : FaultsIn (s.stepStops k · = true) (execWait k s) :=
  .ran (engRow_errIn fun st => match st with
    | .wait .. => .some .ok
    | .end_ | .enable .. | .disable .. | .set .. | .waitc .. | .check .. | .jump .. | .signal .. | .sync .. | .loop .. => .none)

theorem syncRow_faultsIn {k : Nat} : FaultsIn (s.stepStops k · = true) (execSync k s) :=
  .ran (engRow_errIn fun st => match st with
    | .sync .. => .some .ok
    | .end_ | .enable .. | .disable .. | .set .. | .wait .. | .waitc .. | .check .. | .jump .. | .signal .. | .loop .. => .none)

theorem loopRow_faultsIn {k : Nat} : FaultsIn (s.stepStops k · = true) (execLoop k s) :=
  .ran (engRow_errIn fun st => match st with
    | .loop .. => .some (doLoop_errIn.mono fun f hf => ⟨hf.1, fun hst => by
        have hlen := hf.2
        rw [s.openStep_engLen] at hlen
        simp [State.stepUndefined, hst, hlen]⟩)
    | .end_ | .enable .. | .disable .. | .set .. | .wait .. | .waitc .. | .check .. | .jump .. | .signal .. | .sync .. => .none)

/-- The levels of the pins do not say which step stands at an engine's offset. -/
theorem State.setPins_eq (s : State) (p : PinSample) : s.setPins p = { s with pins := p, ctl := (s.setPins p).ctl } := by
  unfold State.setPins State.when
  split <;> rfl

theorem State.setPins_stepStops (s : State) (p : PinSample) (k : Nat) (f : Fault) : (s.setPins p).stepStops k f = s.stepStops k f := by
  rw [s.setPins_eq]
  rfl

end
end Sys2Proof.Machine
end

section
/-! PROOFS. Faults of debug, host writes and frames (R120, R142, R169). -/
namespace Sys2Proof.Machine

section
variable {φ : Fault → Prop} {s : State}

/-! ### Debug (R169) -/

theorem dbgStep_errIn {k : Nat} : ErrIn (fun f => Fault.OfStep f ∧ (s.engAt k).halted = true) (s.dbgStep k) := by
  unfold State.dbgStep
  refine .ite (fun h => ?_) fun _ => .ok
  have hh : (s.engAt k).halted = true := by
    rw [Bool.and_eq_true] at h
    exact h.1
  dsimp only
  split
  · split
    · exact .error ⟨⟨_, rfl⟩, hh⟩
    · exact (doStep_errIn _).mono fun f hf => ⟨hf, hh⟩
  · exact .ok
  · exact .ok
  · exact .ok

theorem dbgWrite_errIn {w : Word} :
    ErrIn (fun f => Fault.OfStep f ∧ s.dbgActs w = true ∧ F.ENG_DBG_STEP.get w = 1 ∧ ((s.engAt (F.ENG_DBG_SEL.get w)).halted = true ∨ F.ENG_DBG_HALT.get w = 1)) (s.dbgWrite w) := by
  unfold State.dbgWrite
  refine .ite (fun _ => ?_) fun _ => .ok
  dsimp only
  refine .ite (fun hacts => .bind (.ite (fun hstep => dbgStep_errIn.mono fun f hf => ⟨hf.1, hacts, hstep, ?_⟩) fun _ => .ok) fun _ _ => .ok) fun _ => .ok
  by_cases hhalt : F.ENG_DBG_HALT.get w = 1
  · exact .inr hhalt
  · have hh := hf.2
    rw [decide_eq_false hhalt, State.when_false] at hh
    exact .inl hh

/-! ### Host writes (R14, R120, R142) -/

/-- What a register with a meaning of its own answers stops only with the faults of φ. -/
def KeyErr (φ : Fault → Prop) (r : Option (Except Fault State)) : Prop := ∀ x, r = some x → ErrIn φ x

theorem KeyErr.ok : KeyErr φ (some (.ok s)) := fun _ hx => Option.some.inj hx ▸ .ok

theorem KeyErr.some {x : Except Fault State} (h : ErrIn φ x) : KeyErr φ (some x) := fun _ hx => Option.some.inj hx ▸ h

theorem KeyErr.none : KeyErr φ none := fun _ hx => (nomatch hx)

theorem KeyErr.ite {c : Prop} [Decidable c] {x y : Option (Except Fault State)} (hx : c → KeyErr φ x) (hy : ¬c → KeyErr φ y) : KeyErr φ (if c then x else y) := by
  split
  next h => exact hx h
  next h => exact hy h

/-- Of an `else` branch that needs no fact. -/
theorem KeyErr.or {c : Prop} [Decidable c] {y : Option (Except Fault State)} (hy : KeyErr φ y) : KeyErr φ (if c then Option.some (.ok s) else y) := .ite (fun _ => .ok) fun _ => hy

theorem writeRstCmd_errIn {w : Word} : ErrIn (fun f => f = .undefinedWrite A.WAY_RSTCMD ∧ s.isManager = false) (s.writeRstCmd w) := by
  unfold State.writeRstCmd
  exact .ite (fun _ => .ok) fun h => .error ⟨rfl, by simpa using h⟩

theorem writeKey_keyErr {a : Nat} {w : Word} :
    KeyErr (fun f => (a = A.WAY_RSTCMD ∧ f = .undefinedWrite a ∧ s.isManager = false) ∨
      (a = A.ENG_DBG ∧ Fault.OfStep f ∧ s.dbgActs w = true ∧ F.ENG_DBG_STEP.get w = 1 ∧ ((s.engAt (F.ENG_DBG_SEL.get w)).halted = true ∨ F.ENG_DBG_HALT.get w = 1))) (s.writeKey a w) := by
  unfold State.writeKey
  iterate 22 refine .or ?_
  refine .ite (fun ha => .some (writeRstCmd_errIn.mono fun f hf => .inl ⟨ha, ha ▸ hf.1, hf.2⟩)) fun _ => ?_
  iterate 5 refine .or ?_
  refine .ite (fun ha => .some (dbgWrite_errIn.mono fun f hf => .inr ⟨ha, hf⟩)) fun _ => ?_
  split
  · exact .ok
  · exact .none

theorem writeBarred_keyErr {a : Nat} {w : Word} :
    KeyErr (fun f => f = .undefinedWrite a ∧ ((a = A.WAY_MBUDGET ∧ s.isManager = false) ∨ (a = A.DRV_PHEN && s.drvOn && decide (F.DRV_PHEN_EN.get w ≠ s.g F.DRV_PHEN_EN)) = true)) (s.writeBarred a w) := by
  unfold State.writeBarred
  exact .or (.ite (fun h => .some (.error ⟨rfl, .inl (by simpa using h)⟩)) fun _ => .ite (fun h => .some (.error ⟨rfl, .inr h⟩)) fun _ => .none)

theorem storeWord_errIn {a : Nat} {w : Word} :
    ErrIn (fun f => f = .undefinedWrite a ∧ ((a = A.WAY_MBUDGET ∧ s.isManager = false) ∨ (a = A.DRV_PHEN && s.drvOn && decide (F.DRV_PHEN_EN.get w ≠ s.g F.DRV_PHEN_EN)) = true ∨
      (rwMask a ≠ 0 && !wordOk a (storedWord a (s.rd a) (s.clampWord a w).1)) = true)) (s.storeWord a w) := by
  unfold State.storeWord
  split
  next r hr => exact (writeBarred_keyErr r hr).mono fun f hf => ⟨hf.1, hf.2.imp_right .inl⟩
  next => exact .ite (fun h => .error ⟨rfl, .inr (.inr h)⟩) fun _ => .ite (fun _ => .ok) fun _ => .ok

theorem hostWrite_errIn {a : Nat} {w : Word} : ErrIn (s.writeStops a w · = true) (s.hostWrite a w) := by
  unfold State.hostWrite
  refine .ite (fun h => .error (by simpa [State.writeStops] using h)) fun hm => .ite (fun _ => .ok) fun hb => ?_
  have hmap : mapped a = true := by simpa using hm
  split
  next r hr =>
    refine (writeKey_keyErr r hr).mono fun f hf => ?_
    rcases hf with ⟨rfl, rfl, hman⟩ | ⟨rfl, ⟨m, rfl⟩, hacts, hstep, hhalt⟩
    · simp only [State.writeStops, hmap, hb, hman]
      simp
    · simp only [State.writeStops, hacts, hstep]
      simpa using hhalt
  next =>
    refine storeWord_errIn.mono fun f hf => ?_
    obtain ⟨rfl, hf⟩ := hf
    simp only [State.writeStops, hmap, hb]
    rcases hf with ⟨rfl, hman⟩ | hphen | hword
    · simp [hman]
    · simp only [hphen, decide_true, Bool.true_and, Bool.not_false, Bool.or_true, Bool.true_or]
    · simp only [hword, decide_true, Bool.true_and, Bool.not_false, Bool.or_true]

theorem hostWrites_cons_of_ok {a : Nat} {w : Word} {r : List Word} {t : State} (h : s.hostWrite a w = .ok t) : s.hostWrites a (w :: r) = t.hostWrites (a + 1) r := by
  rw [State.hostWrites.eq_def]
  simp only [h]

/-- R120: words are written in ascending order, up to the first without a defined result. -/
theorem hostWrites_errIn {s : State} {a : Nat} {ws : List Word} :
    ErrIn (fun f => ∃ i t, i < ws.length ∧ s.hostWrites a (ws.take i) = .ok t ∧ t.writeStops (a + i) (ws.getD i 0) f = true) (s.hostWrites a ws) := by
  induction ws generalizing s a with
  | nil => exact .ok
  | cons w r ih =>
    rw [State.hostWrites.eq_def s a (w :: r)]
    refine .bind (hostWrite_errIn.mono fun f hf => ⟨0, s, Nat.succ_pos _, rfl, hf⟩) fun u hu => ih.mono fun f hf => ?_
    obtain ⟨i, t, hi, ht, hf⟩ := hf
    refine ⟨i + 1, t, Nat.succ_lt_succ hi, ?_, by rwa [show a + (i + 1) = a + 1 + i by omega]⟩
    rw [List.take_succ_cons, hostWrites_cons_of_ok hu]
    exact ht

/-! ### Frames (R114 to R120) -/

/-- A frame that passes its checks names its operation by its opcode. -/
theorem opOf_of_checkFrame {code : Byte} {f : Frame} {c : Command} (h : s.checkFrame code f = .ok c) : opOf code.toNat = some c.op := by
  unfold State.checkFrame at h
  dsimp only at h
  split at h
  · exact nomatch h
  split at h
  · exact nomatch h
  split at h
  · exact nomatch h
  next o ho =>
  rw [ho]
  split at h
  · exact nomatch h
  split at h
  next ah al r _ =>
    split at h
    · exact nomatch h
    split at h
    next n r =>
      split at h
      · exact nomatch h
      split at h
      · exact nomatch h
      split at h
      · exact nomatch h
      split at h
      · exact nomatch h
      split at h
      · exact nomatch h
      cases h
      rfl
    · exact nomatch h
  · exact nomatch h

theorem eq_two_of_opOf_wr {n : Nat} (h : opOf n = some .wr) : n = 2 := by
  unfold opOf at h
  split at h <;> simp_all

theorem writeEffect_errIn {c : Command} : ErrIn (fun f => c.op = .wr ∧ ∃ i t, i < c.data.length ∧ s.hostWrites c.addr (c.data.take i) = .ok t ∧ t.writeStops (c.addr + i) (c.data.getD i 0) f = true) (s.writeEffect c) := by
  unfold State.writeEffect
  dsimp only
  split
  next hop => exact hostWrites_errIn.mono fun f hf => ⟨hop, hf⟩
  all_goals exact .ok

theorem runFrame_errIn {code : Byte} {f : Frame} : ErrIn (fun e => code = 0x02#8 ∧ s.frameStops f e = true) (s.runFrame code f) := by
  unfold State.runFrame
  refine .ite (fun _ => .ok) fun hlive => ?_
  have ha : s.hostAlive = true := by
    simp only [Bool.or_eq_true, Bool.not_eq_true', not_or, Bool.not_eq_false] at hlive
    exact hlive.1
  dsimp only
  split
  next => exact .ok
  next c hc =>
    refine .ite (fun _ => .ite (fun _ => .ok) fun _ => .ok) fun _ => .bind (writeEffect_errIn.mono fun e he => ?_) fun _ _ => .ok
    obtain ⟨hop, i, t, hi, ht, hw⟩ := he
    have hcode : code = 0x02#8 := BitVec.eq_of_toNat_eq (eq_two_of_opOf_wr (hop ▸ opOf_of_checkFrame hc))
    subst hcode
    refine ⟨rfl, ?_⟩
    unfold State.frameStops
    rw [ha, hc]
    rw [State.demandFast_of_hostAlive ha] at ht
    simp only [Bool.true_and, List.any_eq_true, List.mem_range]
    exact ⟨i, hi, by rw [ht]; exact hw⟩

end
end Sys2Proof.Machine
end

section
/-! PROOFS. The commands that may stop, and where each does. -/
namespace Sys2Proof.Machine

section
variable {s : State}

/-! ### The commands that may stop, and where -/

theorem hostWrite_faultsIn {a : Nat} {w : Word} {φ : Fault → Prop} (h : ∀ f, (s.hostAlive && s.clocked.writeStops a w f) = true → φ f) : FaultsIn φ (hostRan s (·.hostWrite a w)) :=
  .hostRan fun ha => by
    rw [State.demandFast_of_hostAlive ha]
    exact hostWrite_errIn.mono fun f hf => h f (by rw [ha, hf]; rfl)

theorem dbgWrite_writeStops {w : Word} {f : Fault}
    (h : Fault.OfStep f ∧ s.dbgActs w = true ∧ F.ENG_DBG_STEP.get w = 1 ∧ ((s.engAt (F.ENG_DBG_SEL.get w)).halted = true ∨ F.ENG_DBG_HALT.get w = 1)) : s.writeStops A.ENG_DBG w f = true := by
  obtain ⟨⟨m, rfl⟩, hacts, hstep, hhalt⟩ := h
  simp only [State.writeStops, hacts, hstep]
  simpa using hhalt

theorem dbgWrite_faultsIn {w : Word} : FaultsIn (fun f => (s.hostAlive && s.clocked.writeStops A.ENG_DBG w f) = true) (hostRan s (·.dbgWrite w)) :=
  .hostRan fun ha => by
    rw [State.demandFast_of_hostAlive ha]
    exact dbgWrite_errIn.mono fun f hf => by rw [ha, dbgWrite_writeStops hf]; rfl

theorem dbgStepWrite_faultsIn {w : Word} {p : PinSample} : FaultsIn (fun f => (s.hostAlive && s.clocked.writeStops A.ENG_DBG w f) = true) (hostRan s (fun s => (s.setPins p).dbgWrite w)) :=
  .hostRan fun ha => by
    rw [State.demandFast_of_hostAlive ha]
    refine dbgWrite_errIn.mono fun f hf => ?_
    rw [State.setPins_eq] at hf
    rw [ha, dbgWrite_writeStops (s := s.clocked) hf]
    rfl

theorem writeRstCmd_faultsIn {w : Word} : FaultsIn (s.mayStop (.wayRstcmd w) · = true) (exec (.wayRstcmd w) s) :=
  FaultsIn.hostRan (f := (·.writeRstCmd w)) fun ha => by
    rw [State.demandFast_of_hostAlive ha]
    refine writeRstCmd_errIn.mono fun f hf => ?_
    have hman : s.isManager = false := hf.2
    simp [State.mayStop, ha, hman, hf.1]

/-- A frame whose opcode is not WR's stops nowhere. -/
theorem runFrame_faultsIn_of_ne {code : Byte} {fr : Frame} {φ : Fault → Prop} (hc : code ≠ 0x02#8) : FaultsIn φ (ran (s.runFrame code fr)) := .ran (runFrame_errIn.mono fun _ hf => absurd hf.1 hc)

/-- Every command that may stop does so only where `mayStop` says. -/
theorem exec_faultsIn (s : State) (c : Instr) (h : mayFault c = true) : FaultsIn (s.mayStop c · = true) (exec c s) :=
  match c with
  | .imageReadDone .. => imageReadDone_faultsIn
  | .nop _ | .rd _ | .rdb _ | .rd32 _ | .qpop _ | .qpopReread _ | .ack _ | .rly _ | .hello _ | .select _ => runFrame_faultsIn_of_ne (by decide)
  | .wr _ => .ran (runFrame_errIn.mono fun _ hf => hf.2)
  | .reservedOpcode _ _ => .ran (runFrame_errIn.mono fun _ hf => by simp [State.mayStop, hf])
  | .registerWrite _ _ | .dvsSetpointWrite _ _ | .driveSetpointWrite _ => hostWrite_faultsIn fun _ hf => hf
  | .wayRstcmd _ => writeRstCmd_faultsIn
  | .engDbgHalt _ | .engDbgResume _ => dbgWrite_faultsIn
  | .engDbgStep _ _ => dbgStepWrite_faultsIn
  | .engEnd _ => .ran (engRow_errIn fun _ => .ite fun _ => .some .ok)
  | .enableDomain _ | .enableSequence _ | .enableResetRelease _ | .enableMonitor _ | .enableShedSet _ => .ran (enableRow_errIn (by decide))
  | .disableDomain _ | .disableSequence _ | .disableReset _ | .disableMonitor _ | .disableShedSet _ => .ran disableRow_errIn
  | .signalSetFlags _ | .signalClearFlags _ | .signalDrivePin _ | .signalRaiseSource _ | .signalPostReport _ | .signalStartTimer _ | .signalRequestState _ => .ran signalRow_errIn
  | .set _ => setRow_faultsIn
  | .wait _ => waitStepRow_faultsIn
  | .sync _ => syncRow_faultsIn
  | .loop _ => loopRow_faultsIn
  | .waitExpiry _ | .waitcTimeout _ | .syncRelease _ => .ran waitRow_errIn
  | .waitc _ p => .ran (waitcRow_errIn.mono fun _ hf => (s.setPins_stepStops p _ _).symm.trans hf)
  | .waitcConditionMet _ p => .ran (ErrIn.mono waitRow_errIn fun _ hf => (s.setPins_stepStops p _ _).symm.trans hf)
  | .check _ p => .ran (checkRow_errIn.mono fun _ hf => (s.setPins_stepStops p _ _).symm.trans hf)
  | .jump _ p => .ran (jumpRow_errIn.mono fun _ hf => (s.setPins_stepStops p _ _).symm.trans hf)

/-- Settles O4: every command ends with its step time, or is one of those that may stop and stands where it does. -/
theorem faultsOnlyWhereUndefined : Obligations.FaultsOnlyWhereUndefined := by
  intro c s
  have h : Ends false none (s.mayStop c · = true) (exec c s) := exec_ends (.anything s) (.inl rfl) c fun hc => exec_faultsIn s c hc
  exact ⟨fun x hx => by rw [hx] at h; exact h, fun f hf => by rw [hf] at h; exact h⟩

end
end Sys2Proof.Machine
end

section
/-! PROOFS. A rejected frame and what it leaves (R119). -/
namespace Sys2Proof.Machine

section
variable {s : State}

/-! ### A rejection (R119, R134, R627) -/

/-- A rejection changes HIF_ERR, PERR and the count of R627, and may raise source 99. -/
theorem State.reject_frame (s : State) (r : Nat) : ∃ (m : RegFile) (sec n : Nat) (l : List Raise),
    s.reject r = { s with regs := m, flt := { s.flt with raised := l }, hif := { s.hif with perr := true, rejSec := sec, rejCnt := n } } ∧
      m = ((s.p F.HIF_ERR_CODE r).p F.HIF_ERR_REJCNT (sat 255 (s.g F.HIF_ERR_REJCNT + 1))).regs := by
  unfold State.reject
  dsimp only
  split
  · split <;> exact ⟨_, _, _, _, rfl, rfl⟩
  · split <;> exact ⟨_, _, _, _, rfl, rfl⟩

theorem State.rd_reject_eq (r a : Nat) : (s.reject r).rd a = ((s.p F.HIF_ERR_CODE r).p F.HIF_ERR_REJCNT (sat 255 (s.g F.HIF_ERR_REJCNT + 1))).rd a := by
  obtain ⟨m, sec, n, l, he, rfl⟩ := s.reject_frame r
  unfold State.rd
  rw [he]

theorem State.rd_reject {r a : Nat} (h : a ≠ A.HIF_ERR) : (s.reject r).rd a = s.rd a := by
  rw [State.rd_reject_eq, State.rd_p_ne _ _ h, State.rd_p_ne _ _ h]

theorem State.g_reject_code (r : Nat) : (s.reject r).g F.HIF_ERR_CODE = r % 16 := by
  unfold State.g
  rw [State.rd_reject_eq]
  exact (State.g_p_beside (g := F.HIF_ERR_CODE) (s.p F.HIF_ERR_CODE r) _ (by decide) (by decide)).trans (State.g_p_same _ _ _ (by decide))

theorem State.g_reject_count (r : Nat) : (s.reject r).g F.HIF_ERR_REJCNT = min 255 (s.g F.HIF_ERR_REJCNT + 1) := by
  have h : (s.reject r).g F.HIF_ERR_REJCNT = sat 255 (s.g F.HIF_ERR_REJCNT + 1) % 256 := by
    unfold State.g
    rw [State.rd_reject_eq]
    exact State.g_p_same (s.p F.HIF_ERR_CODE r) F.HIF_ERR_REJCNT _ (by decide)
  rw [h, sat]
  split <;> omega

/-! ### The reply to a rejected frame (R119) -/

/-- A frame that is rejected changes what a rejection does, and gets its marked reply. -/
theorem runFrame_rejected {code : Byte} {f : Frame} {r : Nat} (hl : s.hostAlive = true) (hs : s.selects f.target = true) (hq : (s.isI2c && f.noRead) = false) (h : s.checkFrame code f = .error r) :
    ∃ status out, s.runFrame code f = .ok ((s.clocked.reject r).answer (s.clocked.rejectReply code f r status) out) := by
  unfold State.runFrame
  rw [hl, hs]
  simp only [Bool.not_true, Bool.or_self, Bool.false_eq_true, if_false, h, hq, State.demandFast_of_hostAlive hl]
  exact ⟨_, _, rfl⟩

theorem rejectReply_of_op {code : Byte} {f : Frame} {o : Op} {r : Nat} {status : Word} (h : frameOp code f = some o) :
    s.rejectReply code f r status =
      let ws := List.replicate (o.replyWords (frameCnt f)) (0xFFFF#16)
      ⟨status, ws, if o.crc s.version then some (if o.reads then ~~~(replyCrc status ws) else replyCrc status ws) else none, some r⟩ := by
  unfold State.rejectReply
  rw [h]

/-- The codes of the opcodes' rows. -/
theorem frameRows {s : State} {f : Frame} : ∀ p ∈ ([(0x00, .nop, .nop f), (0x01, .rd, .rd f), (0x02, .wr, .wr f), (0x03, .rdb, .rdb f), (0x20, .rd32, .rd32 f), (0x10, .qpop, .qpop f), (0x10, .qpop, .qpopReread f),
      (0x11, .ack, .ack f), (0x21, .rly, .rly f), (0xF0, .hello, .hello f), (0xF1, .select, .select f)] : List (Byte × Op × Instr)),
    opOf p.1.toNat = some p.2.1 ∧ exec p.2.2 s = ran (s.runFrame p.1 f) := by
  intro p hp
  simp only [List.mem_cons, List.not_mem_nil, or_false] at hp
  rcases hp with rfl | rfl | rfl | rfl | rfl | rfl | rfl | rfl | rfl | rfl | rfl <;> exact ⟨rfl, rfl⟩

/-- Settles O17: the state after a rejection, part by part, and the reply's words and CRC. -/
theorem rejectedFrameHasNoEffect : Obligations.RejectedFrameHasNoEffect := by
  intro s f r hl hs hq hcut p hp h
  obtain ⟨hop, hexec⟩ := frameRows (s := s) p hp
  obtain ⟨status, out, hrun⟩ := runFrame_rejected hl hs hq h
  have hframe : frameOp p.1 f = some p.2.1 := by rw [frameOp, hcut, hop]; rfl
  refine ⟨_, by rw [hexec, hrun, ran_ok], ?_⟩
  rw [rejectReply_of_op hframe]
  obtain ⟨m, sec, n, l, he, -⟩ := s.clocked.reject_frame r
  have hrd : ∀ a, a ≠ A.HIF_ERR → (s.clocked.reject r).rd a = s.rd a := fun a ha => State.rd_reject (s := s.clocked) ha
  have hcode : (s.clocked.reject r).g F.HIF_ERR_CODE = r % 16 := State.g_reject_code (s := s.clocked) r
  have hcount : (s.clocked.reject r).g F.HIF_ERR_REJCNT = min 255 (s.g F.HIF_ERR_REJCNT + 1) := State.g_reject_count (s := s.clocked) r
  rw [he] at hrd hcode hcount ⊢
  refine ⟨rfl, hrd, hcode, hcount, rfl, rfl, rfl, rfl, rfl, rfl, fun hreads hcrc => ?_⟩
  have hcrc' : p.2.1.crc s.clocked.version = true := hcrc
  simp only [State.answer, State.setHif, hreads, hcrc', if_true]

end
end Sys2Proof.Machine
end

section
/-! PROOFS. The checks of a frame in their order (R115, R118, R119). -/
namespace Sys2Proof.Machine

section
variable {s : State} {code : Byte} {f : Frame} {o : Op}

/-! ### The tables of the operations (R115) -/

theorem opOf_eq_none_iff (n : Nat) : opOf n = none ↔ n ∉ ([0x00, 0x01, 0x02, 0x03, 0x10, 0x11, 0x20, 0x21, 0xF0, 0xF1] : List Nat) := by
  unfold opOf
  split <;> simp_all

theorem Op.lt_since_iff (o : Op) {v : Nat} (hv : 1 ≤ v) : v < o.since ↔ (v = 1 ∧ o ∈ [Op.rdb, .qpop, .ack]) ∨ (v ≤ 2 ∧ o ∈ [Op.rd32, .rly]) := by
  cases o <;> simp [Op.since] <;> omega

theorem Op.addrOk_eq_false_iff (o : Op) (a : Nat) : o.addrOk a = false ↔ (o ∈ [Op.nop, .ack, .hello, .select] ∧ a ≠ 0) ∨ (o = .qpop ∧ 2 ≤ a) := by
  cases o <;> simp [Op.addrOk]
  omega

theorem Op.cntOk_eq_false_iff (o : Op) (v a n : Nat) : o.cntOk v a n = false ↔
    (o ∈ [Op.nop, .ack] ∧ n ≠ 0) ∨ (o = .hello ∧ n ≠ 3) ∨ (o = .select ∧ n ≠ 1) ∨ (o ∈ [Op.rd, .wr] ∧ (n = 0 ∨ (if v = 1 then 4 else 16) < n)) ∨ (o = .rdb ∧ (n = 0 ∨ 255 < n)) ∨
      (o = .qpop ∧ (n < 2 ∨ 64 < n)) ∨ (o = .rly ∧ (n = 0 ∨ 16 < n)) ∨ (o = .rd32 ∧ (n = 0 ∨ 8 < n ∨ 65536 < a + 2 * n)) := by
  cases o <;> simp [Op.cntOk] <;> omega

/-! ### The checks in order of time (R119) -/

/-- No SPI frame begun too soon. -/
theorem notTooSoon (h : f.tooSoon = false ∨ s.isI2c = true ∨ s.sup.fastOn = true) : (f.tooSoon && !s.isI2c && !s.sup.fastOn) = false := by
  rcases h with h | h | h <;> simp [h]

/-- The facts about a frame whose operation its version has. -/
structure Named (s : State) (code : Byte) (f : Frame) (o : Op) : Prop where
  clock : (f.tooSoon && !s.isI2c && !s.sup.fastOn) = false
  whole : f.opCut = false
  op : opOf code.toNat = some o
  version : ¬s.version < o.since

/-- The facts about such a frame that goes on with an address and a count that its operation allows, and with its data. -/
structure Counted (s : State) (code : Byte) (f : Frame) (o : Op) (hi lo c : Byte) (d : List Byte) : Prop extends Named s code f o where
  body : f.body = hi :: lo :: c :: d
  addr : o.addrOk (beNat hi lo) = true
  count : o.cntOk s.version (beNat hi lo) c.toNat = true
  data : 2 * o.dataWords c.toNat ≤ d.length

theorem beWords_length : (bs : List Byte) → (beWords bs).length = bs.length / 2
  | [] => rfl
  | [_] => by simp [beWords]
  | _ :: _ :: r => by
    rw [beWords, List.length_cons, beWords_length r, List.length_cons, List.length_cons]
    omega

variable {hi lo c : Byte} {d : List Byte}

theorem Counted.words_length (h : Counted s code f o hi lo c d) : ¬(beWords (d.take (2 * o.dataWords c.toNat))).length < o.dataWords c.toNat := by
  have := h.data
  rw [beWords_length, List.length_take]
  omega

/-- The check of the data comes after all of those. -/
theorem Counted.check_data {e : Nat} (h : Counted s code f o hi lo c d) (hd : s.dataCheck o (beWords (d.take (2 * o.dataWords c.toNat))) = some e) : s.checkFrame code f = .error e := by
  have hw := h.words_length
  simp only [State.checkFrame, h.clock, h.whole, h.op, h.version, h.body, h.addr, h.count, hw, hd, Bool.false_eq_true, if_false, Bool.not_true]

/-- A missing CRC comes after it. -/
theorem Counted.check_cut (h : Counted s code f o hi lo c d) (hd : s.dataCheck o (beWords (d.take (2 * o.dataWords c.toNat))) = none) (hc : o.crc s.version = true) (hl : d.length = 2 * o.dataWords c.toNat) :
    s.checkFrame code f = .error 5 := by
  have hw := h.words_length
  have hdrop : d.drop (2 * o.dataWords c.toNat) = [] := List.drop_eq_nil_of_le hl.le
  simp only [State.checkFrame, h.clock, h.whole, h.op, h.version, h.body, h.addr, h.count, hw, hd, hc, hdrop, Bool.false_eq_true, if_false, Bool.not_true]

/-- Then a wrong one. -/
theorem Counted.check_crc {x : Byte} (h : Counted s code f o hi lo c d) (hd : s.dataCheck o (beWords (d.take (2 * o.dataWords c.toNat))) = none) (hc : o.crc s.version = true)
    (hx : d[2 * o.dataWords c.toNat]? = some x) (hne : x ≠ crc8 (code :: f.body.take (3 + 2 * o.dataWords c.toNat))) : s.checkFrame code f = .error 3 := by
  have hw := h.words_length
  obtain ⟨r, hdrop⟩ : ∃ r, d.drop (2 * o.dataWords c.toNat) = x :: r := by
    obtain ⟨hl, rfl⟩ := List.getElem?_eq_some_iff.mp hx
    exact ⟨_, List.drop_eq_getElem_cons hl⟩
  rw [h.body] at hne
  simp only [State.checkFrame, h.clock, h.whole, h.op, h.version, h.body, h.addr, h.count, hw, hd, hc, hdrop, hne, Bool.false_eq_true, if_false, Bool.not_true]

/-- Last, a relay while one is in progress. -/
theorem Counted.check_ok (h : Counted s code f o hi lo c d) (hd : s.dataCheck o (beWords (d.take (2 * o.dataWords c.toNat))) = none)
    (hx : o.crc s.version = false ∨ d[2 * o.dataWords c.toNat]? = some (crc8 (code :: f.body.take (3 + 2 * o.dataWords c.toNat)))) :
    s.checkFrame code f = if o = .rly && s.b F.HIF_RLYSTAT_BUSY then .error 9 else .ok ⟨o, beNat hi lo, c.toNat, beWords (d.take (2 * o.dataWords c.toNat))⟩ := by
  have hw := h.words_length
  cases hc : o.crc s.version with
  | false => simp only [State.checkFrame, h.clock, h.whole, h.op, h.version, h.body, h.addr, h.count, hw, hd, hc, Bool.false_eq_true, if_false, Bool.not_true]
  | true =>
    have hx := hx.resolve_left (by simp [hc])
    obtain ⟨r, hdrop⟩ : ∃ r, d.drop (2 * o.dataWords c.toNat) = crc8 (code :: f.body.take (3 + 2 * o.dataWords c.toNat)) :: r := by
      obtain ⟨hl, he⟩ := List.getElem?_eq_some_iff.mp hx
      exact ⟨_, by rw [← he]; exact List.drop_eq_getElem_cons hl⟩
    rw [h.body] at hdrop
    simp only [State.checkFrame, h.clock, h.whole, h.op, h.version, h.body, h.addr, h.count, hw, hd, hc, hdrop, Bool.false_eq_true, if_false, if_true, Bool.not_true]

/-! ### The check of the data (R122, R125, R128) -/

theorem beNat_lt (hi lo : Byte) : beNat hi lo < 65536 := by
  unfold beNat
  have := hi.isLt
  have := lo.isLt
  omega

/-- The first data word of an operation that has one. -/
theorem headD_beWords (h : 2 ≤ d.length) : ((beWords (d.take 2)).headD 0).toNat = beNat (d.getD 0 0) (d.getD 1 0) := by
  match d, h with
  | x :: y :: _, _ => exact Nat.mod_eq_of_lt (beNat_lt x y)

theorem dataCheck_select (h : 2 ≤ d.length) (hbad : d.getD 0 0 ≠ 0x5E ∨ d.getD 1 0 = 0 ∨ 3 < (d.getD 1 0).toNat) : s.dataCheck .select (beWords (d.take 2)) = some 8 := by
  have hx : d.getD 0 0 ≠ 0x5E ↔ (d.getD 0 0).toNat ≠ 0x5E := not_congr (BitVec.toNat_inj (y := 0x5E#8)).symm
  have hy : d.getD 1 0 = 0 ↔ (d.getD 1 0).toNat = 0 := (BitVec.toNat_inj (y := 0#8)).symm
  rw [hx, hy] at hbad
  have := (d.getD 1 0).isLt
  simp only [State.dataCheck, headD_beWords h, beNat]
  refine if_pos ?_
  simp only [Bool.or_eq_true, decide_eq_true_eq]
  omega

theorem dataCheck_rly_bits (h : 2 ≤ d.length) (hbad : 32 ≤ beNat (d.getD 0 0) (d.getD 1 0)) : s.dataCheck .rly (beWords (d.take 2)) = some 7 := by
  simp only [State.dataCheck, headD_beWords h]
  exact if_pos (decide_eq_true hbad)

theorem dataCheck_rly_manager (h : 2 ≤ d.length) (hbits : beNat (d.getD 0 0) (d.getD 1 0) < 32) (hm : s.isManager = false) : s.dataCheck .rly (beWords (d.take 2)) = some 9 := by
  simp only [State.dataCheck, headD_beWords h, hm]
  rw [if_neg (by simpa using hbits)]
  rfl

theorem Counted.dataCheck_none (h : Counted s code f o hi lo c d) (hsel : o = .select → d.getD 0 0 = 0x5E ∧ 1 ≤ (d.getD 1 0).toNat ∧ (d.getD 1 0).toNat ≤ 3)
    (hrly : o = .rly → beNat (d.getD 0 0) (d.getD 1 0) < 32 ∧ s.isManager = true) : s.dataCheck o (beWords (d.take (2 * o.dataWords c.toNat))) = none := by
  have hdata := h.data
  cases o with
  | select =>
    obtain ⟨hx, h1, h3⟩ := hsel rfl
    have hx : (d.getD 0 0).toNat = 0x5E := by rw [hx]; rfl
    have hd : 2 ≤ d.length := hdata
    show s.dataCheck .select (beWords (d.take 2)) = none
    simp only [State.dataCheck, headD_beWords hd, beNat]
    refine if_neg ?_
    simp only [Bool.or_eq_true, decide_eq_true_eq]
    omega
  | rly =>
    obtain ⟨hbits, hm⟩ := hrly rfl
    have hd : 2 ≤ d.length := hdata
    show s.dataCheck .rly (beWords (d.take 2)) = none
    simp only [State.dataCheck, headD_beWords hd, hm]
    rw [if_neg (by simpa using hbits)]
    rfl
  | nop | rd | wr | rdb | qpop | ack | rd32 | hello => rfl

/-- Settles O18: the tables of the operations, and the checks in the order in which a frame meets them. -/
theorem frameChecks : Obligations.FrameChecks := by
  refine ⟨opOf_eq_none_iff, fun o v a n hv => ⟨o.lt_since_iff hv, o.addrOk_eq_false_iff a, o.cntOk_eq_false_iff v a n⟩, fun s code f hsoon hspi hfast => ?_,
    fun s code f hclk => ⟨fun hcut => ?_, fun hcut hop => ?_, fun o hcut hop => ⟨fun hv => ?_, fun hv => ⟨fun hl => ?_, fun hi lo r hbody => ⟨fun ha => ?_, fun ha => ⟨fun hr => ?_, fun c d hr => ⟨fun hn => ?_, fun hn =>
      ⟨fun hd => ?_, fun hd => ?_⟩⟩⟩⟩⟩⟩⟩⟩
  · simp [State.checkFrame, hsoon, hspi, hfast]
  · simp [State.checkFrame, notTooSoon hclk, hcut]
  · simp [State.checkFrame, notTooSoon hclk, hcut, hop]
  · simp [State.checkFrame, notTooSoon hclk, hcut, hop, hv]
  · match hb : f.body with
    | [] => simp [State.checkFrame, notTooSoon hclk, hcut, hop, Nat.not_lt.mpr hv, hb]
    | [_] => simp [State.checkFrame, notTooSoon hclk, hcut, hop, Nat.not_lt.mpr hv, hb]
    | _ :: _ :: _ =>
      rw [hb] at hl
      simp at hl
  · simp [State.checkFrame, notTooSoon hclk, hcut, hop, Nat.not_lt.mpr hv, hbody, ha]
  · simp [State.checkFrame, notTooSoon hclk, hcut, hop, Nat.not_lt.mpr hv, hbody, ha, hr]
  · simp [State.checkFrame, notTooSoon hclk, hcut, hop, Nat.not_lt.mpr hv, hbody, ha, hr, hn]
  · have hw : (beWords (d.take (2 * o.dataWords c.toNat))).length < o.dataWords c.toNat := by
      rw [beWords_length, List.length_take]
      omega
    simp [State.checkFrame, notTooSoon hclk, hcut, hop, Nat.not_lt.mpr hv, hbody, ha, hr, hn, hw]
  · have hframe : Counted s code f o hi lo c d := ⟨⟨notTooSoon hclk, hcut, hop, Nat.not_lt.mpr hv⟩, hbody.trans (by rw [hr]), ha, hn, hd⟩
    refine ⟨fun ho hbad => ?_, fun ho hbad => ?_, fun ho hbits hm => ?_, fun hsel hrly => ?_⟩
    · subst ho
      exact hframe.check_data (dataCheck_select hd hbad)
    · subst ho
      exact hframe.check_data (dataCheck_rly_bits hd hbad)
    · subst ho
      exact hframe.check_data (dataCheck_rly_manager hd hbits hm)
    · have hnone := hframe.dataCheck_none hsel hrly
      exact ⟨hframe.check_cut hnone, fun hc x hx hne => hframe.check_crc hnone hc hx hne, hframe.check_ok hnone⟩

end
end Sys2Proof.Machine
end

section
/-! PROOFS. A step time whose end is an entry to HIBERNATE (R33, R87). -/
namespace Sys2Proof.Machine

/-! ### A step time that ends in an entry to HIBERNATE (R33, R87) -/

/-- POWER-DOWN, with the entry to HIBERNATE waiting for a write-back that no longer runs, and an engine timer that runs. -/
def waitingEntry : State :=
  { State.reset with power := .powerDown, ctl := { State.reset.ctl with entryWaits := some .hibernate }, tim := ⟨true, false, 5, 0⟩ :: State.reset.tim.tail }

theorem waitingEntry_timer : (waitingEntry.tim.map EngTimer.running).headD false = true := rfl

/-- The entry takes place, and the engines lose their supply. -/
theorem waitingEntry_settled : waitingEntry.settle.power = .hibernate ∧ (waitingEntry.settle.tim.map EngTimer.running).headD false = false := by
  decide +kernel

/-- Refutes O7: its third clause says of every state that the engines' timers stand; where an entry that waited for its write-back takes place, the step time's end wipes them with the engines. -/
theorem not_settleFrame : ¬ Obligations.SettleFrame := by
  rintro ⟨-, -, hframe, -⟩
  obtain ⟨-, -, -, htim, -⟩ := hframe waitingEntry
  have hstops := waitingEntry_settled.2
  rw [htim, waitingEntry_timer] at hstops
  exact Bool.noConfusion hstops

end Sys2Proof.Machine
end

section
/-! PROOFS. The encodings of the engine steps (R153 to R163). -/
namespace Sys2Proof.Machine

/-! ### The encodings of the engine steps (R153 to R163) -/

theorem within_two_pow_sub_one {v n : Nat} (h : v < 2 ^ n) : within v (2 ^ n - 1) = true := by
  unfold within
  rw [decide_eq_true_eq]
  exact (Nat.and_two_pow_sub_one_eq_mod v n).trans (Nat.mod_eq_of_lt h)

theorem stepIf_of {ok : Bool} (h : ok = true) (st : EngStep) : stepIf ok st = .ok st := by
  unfold stepIf
  rw [if_pos h]

theorem testBit_eq_decide {w i : Nat} {b : Bool} (h : w / 2 ^ i % 2 = b.toNat) : w.testBit i = b := by
  rw [Nat.testBit_eq_decide_div_mod_eq, h]
  cases b <;> rfl

section
variable {w : Nat}

theorem decodeStep_enable {m : Nat} (h : w / 2 ^ 28 % 16 = 1) (hk : kindMask (stepBits w 24 4) = some m) :
    decodeStep w = stepIf (stepBits w 16 8 = 0 && within (stepBits w 0 16) m) (.enable (stepBits w 24 4) (stepBits w 0 16)) := by
  unfold decodeStep
  dsimp only
  rw [h, hk]
  rfl

theorem decodeStep_disable {m : Nat} (h : w / 2 ^ 28 % 16 = 2) (hk : kindMask (stepBits w 24 4) = some m) :
    decodeStep w = stepIf (stepBits w 17 7 = 0 && (stepBits w 24 4 = 0 || !w.testBit 16) && within (stepBits w 0 16) m) (.disable (stepBits w 24 4) (stepBits w 0 16) (w.testBit 16)) := by
  unfold decodeStep
  dsimp only
  rw [h, hk]
  rfl

theorem decodeStep_set {m : Nat} (h : w / 2 ^ 28 % 16 = 3) (hk : setMask (stepBits w 16 8) = some m) :
    decodeStep w = stepIf (stepBits w 24 4 = 0 && within (stepBits w 0 16) m) (.set (stepBits w 16 8) (stepBits w 0 16)) := by
  unfold decodeStep
  dsimp only
  rw [h, hk]
  rfl

theorem decodeStep_wait (h : w / 2 ^ 28 % 16 = 4) :
    decodeStep w = stepIf (stepBits w 25 3 = 0) (.wait (w.testBit 24) (stepBits w 0 24)) := by
  unfold decodeStep
  dsimp only
  rw [h]
  rfl

theorem decodeStep_waitc (h : w / 2 ^ 28 % 16 = 5) :
    decodeStep w = stepIf (stepBits w 24 3 = 0) (.waitc (w.testBit 27) (stepBits w 16 8) (stepBits w 0 16)) := by
  unfold decodeStep
  dsimp only
  rw [h]
  rfl

theorem decodeStep_check (h : w / 2 ^ 28 % 16 = 6) :
    decodeStep w = stepIf (!w.testBit 24 && (if w.testBit 26 then within (stepBits w 0 16) 0x7F else within (stepBits w 0 16) 0xFFF && !w.testBit 25))
      (.check (w.testBit 27) (w.testBit 26) (w.testBit 25) (stepBits w 16 8) (stepBits w 0 16)) := by
  unfold decodeStep
  dsimp only
  rw [h]
  rfl

theorem decodeStep_jump (h : w / 2 ^ 28 % 16 = 7) :
    decodeStep w = stepIf (stepBits w 24 2 = 0 && stepBits w 12 4 = 0 && (w.testBit 26 || (!w.testBit 27 && stepBits w 16 8 = 0)))
      (.jump (w.testBit 27) (w.testBit 26) (stepBits w 16 8) (stepBits w 0 12)) := by
  unfold decodeStep
  dsimp only
  rw [h]
  rfl

theorem decodeStep_signal {m : Nat} (h : w / 2 ^ 28 % 16 = 8) (hk : signalMask (stepBits w 24 4) = some m) :
    decodeStep w = stepIf (within (stepBits w 0 24) m && (stepBits w 24 4 ≠ 2 || stepBits w 0 24 % 16 = 0) && (stepBits w 24 4 ≠ 6 || stepBits w 0 24 = 1 || stepBits w 0 24 = 2))
      (.signal (stepBits w 24 4) (stepBits w 0 24)) := by
  unfold decodeStep
  dsimp only
  rw [h, hk]
  rfl

theorem decodeStep_sync (h : w / 2 ^ 28 % 16 = 9) :
    decodeStep w = stepIf (stepBits w 9 19 = 0 && stepBits w 5 3 = 0) (.sync (w.testBit 8) (stepBits w 0 5)) := by
  unfold decodeStep
  dsimp only
  rw [h]
  rfl

theorem decodeStep_reservedOpcode (h : 11 ≤ w / 2 ^ 28 % 16) : ∃ m, decodeStep w = .error m := by
  have h16 : w / 2 ^ 28 % 16 < 16 := Nat.mod_lt _ (by omega)
  unfold decodeStep
  dsimp only
  generalize w / 2 ^ 28 % 16 = k at h h16
  interval_cases k <;> exact ⟨_, rfl⟩

theorem decodeStep_reservedKind (h : w / 2 ^ 28 % 16 = 1 ∨ w / 2 ^ 28 % 16 = 2) (hk : kindMask (stepBits w 24 4) = none) : ∃ m, decodeStep w = .error m := by
  unfold decodeStep
  dsimp only
  rcases h with h | h <;> rw [h, hk] <;> exact ⟨_, rfl⟩

theorem decodeStep_reservedSignal (h : w / 2 ^ 28 % 16 = 8) (hk : signalMask (stepBits w 24 4) = none) : ∃ m, decodeStep w = .error m := by
  unfold decodeStep
  dsimp only
  rw [h, hk]
  exact ⟨_, rfl⟩

end

/-- Every KIND that is not reserved comes with a mask, within which its operand stands. -/
theorem kindMask_within {kind mask : Nat} (h : (kind ≤ 1 ∧ mask < 1024) ∨ (kind = 2 ∧ mask < 8) ∨ (kind = 3 ∧ mask < 65536) ∨ (kind = 4 ∧ mask = 0)) :
    kind < 16 ∧ mask < 65536 ∧ ∃ m, kindMask kind = some m ∧ within mask m = true := by
  rcases h with ⟨hk, hm⟩ | ⟨rfl, hm⟩ | ⟨rfl, hm⟩ | ⟨rfl, rfl⟩
  · refine ⟨by omega, by omega, 2 ^ 10 - 1, ?_, within_two_pow_sub_one hm⟩
    interval_cases kind <;> rfl
  · exact ⟨by omega, by omega, 2 ^ 3 - 1, rfl, within_two_pow_sub_one hm⟩
  · exact ⟨by omega, by omega, 2 ^ 16 - 1, rfl, within_two_pow_sub_one hm⟩
  · exact ⟨by omega, by omega, 0, rfl, rfl⟩

/-- A SET index that is not reserved, and its operand. -/
def SetOperand (i v : Nat) : Prop :=
  (i = 0 ∧ v < 1024) ∨ (i = 1 ∧ v < 65536) ∨ (0x10 ≤ i ∧ i ≤ 0x1F ∧ v < 65536) ∨ (i = 0x40 ∧ v < 4096) ∨ (0x41 ≤ i ∧ i ≤ 0x49 ∧ i ≠ 0x48 ∧ v < 512) ∨ (i = 0x50 ∧ v < 4096) ∨ (0x51 ≤ i ∧ i ≤ 0x59 ∧ v < 16) ∨
    (0x60 ≤ i ∧ i ≤ 0x7F ∧ v < 1024) ∨ (i = 0x80 ∧ v < 64) ∨ (i = 0x81 ∧ v = 0) ∨ (i = 0x82 ∧ v < 32)

theorem within_of_lt_32 {v : Nat} (h : v < 32) : within v 0xC01F = true := by
  interval_cases v <;> rfl

theorem setMask_within {i v : Nat} (h : SetOperand i v) : i < 256 ∧ v < 65536 ∧ ∃ m, setMask i = some m ∧ within v m = true := by
  rcases h with ⟨rfl, hv⟩ | ⟨rfl, hv⟩ | ⟨h1, h2, hv⟩ | ⟨rfl, hv⟩ | ⟨h1, h2, h3, hv⟩ | ⟨rfl, hv⟩ | ⟨h1, h2, hv⟩ | ⟨h1, h2, hv⟩ | ⟨rfl, hv⟩ | ⟨rfl, rfl⟩ | ⟨rfl, hv⟩
  · exact ⟨by omega, by omega, 2 ^ 10 - 1, rfl, within_two_pow_sub_one hv⟩
  · exact ⟨by omega, by omega, 2 ^ 16 - 1, rfl, within_two_pow_sub_one hv⟩
  · refine ⟨by omega, by omega, 2 ^ 16 - 1, ?_, within_two_pow_sub_one hv⟩
    interval_cases i <;> rfl
  · exact ⟨by omega, by omega, 2 ^ 12 - 1, rfl, within_two_pow_sub_one hv⟩
  · refine ⟨by omega, by omega, 2 ^ 9 - 1, ?_, within_two_pow_sub_one hv⟩
    have hi : i ≤ 0x47 ∨ i = 0x49 := by omega
    rcases hi with hi | rfl
    · interval_cases i <;> rfl
    · rfl
  · exact ⟨by omega, by omega, 2 ^ 12 - 1, rfl, within_two_pow_sub_one hv⟩
  · refine ⟨by omega, by omega, 2 ^ 4 - 1, ?_, within_two_pow_sub_one hv⟩
    interval_cases i <;> rfl
  · refine ⟨by omega, by omega, 2 ^ 10 - 1, ?_, within_two_pow_sub_one hv⟩
    interval_cases i <;> rfl
  · exact ⟨by omega, by omega, 2 ^ 6 - 1, rfl, within_two_pow_sub_one hv⟩
  · exact ⟨by omega, by omega, 0, rfl, rfl⟩
  · exact ⟨by omega, by omega, 0xC01F, rfl, within_of_lt_32 hv⟩

/-- A SIGNAL's KIND that is not reserved, and its operand. -/
def SignalOperand (kind op : Nat) : Prop :=
  (kind ≤ 1 ∧ op < 2 ^ 17) ∨ (kind = 2 ∧ (op = 0 ∨ op = 256)) ∨ (kind = 3 ∧ op < 128) ∨ ((kind = 4 ∨ kind = 5) ∧ op < 2 ^ 18) ∨ (kind = 6 ∧ (op = 1 ∨ op = 2))

theorem signalMask_within {kind op : Nat} (h : SignalOperand kind op) :
    kind < 16 ∧ op < 2 ^ 24 ∧ (kind ≠ 2 ∨ op % 16 = 0) ∧ (kind ≠ 6 ∨ op = 1 ∨ op = 2) ∧ ∃ m, signalMask kind = some m ∧ within op m = true := by
  rcases h with ⟨hk, hv⟩ | ⟨rfl, hv⟩ | ⟨rfl, hv⟩ | ⟨hk, hv⟩ | ⟨rfl, hv⟩
  · refine ⟨by omega, by omega, by omega, by omega, 2 ^ 17 - 1, ?_, within_two_pow_sub_one hv⟩
    interval_cases kind <;> rfl
  · refine ⟨by omega, by omega, by omega, by omega, 0x10F, rfl, ?_⟩
    rcases hv with rfl | rfl <;> rfl
  · exact ⟨by omega, by omega, by omega, by omega, 2 ^ 7 - 1, rfl, within_two_pow_sub_one hv⟩
  · refine ⟨by omega, by omega, by omega, by omega, 2 ^ 18 - 1, ?_, within_two_pow_sub_one hv⟩
    rcases hk with rfl | rfl <;> rfl
  · refine ⟨by omega, by omega, by omega, by omega, 3, rfl, ?_⟩
    rcases hv with rfl | rfl <;> rfl

/-- The fields of a word that an opcode and a KIND begin. -/
theorem kindWord_fields {op kind x : Nat} (hop : op < 16) (hk : kind < 16) (hx : x < 2 ^ 24) :
    let w := op * 2 ^ 28 + kind * 2 ^ 24 + x
    w / 2 ^ 28 % 16 = op ∧ stepBits w 24 4 = kind ∧ stepBits w 0 24 = x ∧ stepBits w 16 8 = x / 2 ^ 16 ∧ stepBits w 17 7 = x / 2 ^ 17 ∧ stepBits w 0 16 = x % 2 ^ 16 ∧
      w.testBit 16 = decide (x / 2 ^ 16 % 2 = 1) := by
  unfold stepBits
  dsimp only
  rw [Nat.testBit_eq_decide_div_mod_eq]
  exact ⟨by omega, by omega, by omega, by omega, by omega, by omega, decide_eq_decide.mpr (by omega)⟩

theorem decodeStep_enableWord {kind mask m : Nat} (hk : kind < 16) (hm : mask < 65536) (hkm : kindMask kind = some m) (hw : within mask m = true) :
    decodeStep (1 * 2 ^ 28 + kind * 2 ^ 24 + mask) = .ok (.enable kind mask) := by
  obtain ⟨hop, hkind, -, h16, -, hlow, -⟩ := kindWord_fields (op := 1) (by omega) hk (show mask < 2 ^ 24 by omega)
  rw [Nat.mod_eq_of_lt (show mask < 2 ^ 16 by omega)] at hlow
  rw [decodeStep_enable hop (hkind ▸ hkm), hkind, hlow, h16, Nat.div_eq_of_lt (show mask < 2 ^ 16 by omega), hw]
  rfl

theorem decodeStep_disableWord {kind mask m : Nat} (hk : kind < 16) (hm : mask < 65536) (hkm : kindMask kind = some m) (hw : within mask m = true) :
    decodeStep (2 * 2 ^ 28 + kind * 2 ^ 24 + mask) = .ok (.disable kind mask false) := by
  obtain ⟨hop, hkind, -, -, h17, hlow, hnd⟩ := kindWord_fields (op := 2) (by omega) hk (show mask < 2 ^ 24 by omega)
  rw [Nat.mod_eq_of_lt (show mask < 2 ^ 16 by omega)] at hlow
  rw [Nat.div_eq_of_lt (show mask < 2 ^ 16 by omega)] at hnd
  rw [decodeStep_disable hop (hkind ▸ hkm), hkind, hlow, h17, Nat.div_eq_of_lt (show mask < 2 ^ 17 by omega), hnd, hw]
  exact stepIf_of (by simp) _

theorem decodeStep_disableNodisWord {mask : Nat} (hm : mask < 1024) : decodeStep (2 * 2 ^ 28 + 2 ^ 16 + mask) = .ok (.disable 0 mask true) := by
  obtain ⟨hop, hkind, -, -, h17, hlow, hnd⟩ := kindWord_fields (op := 2) (kind := 0) (by omega) (by omega) (show 2 ^ 16 + mask < 2 ^ 24 by omega)
  have hw : 2 * 2 ^ 28 + 0 * 2 ^ 24 + (2 ^ 16 + mask) = 2 * 2 ^ 28 + 2 ^ 16 + mask := by omega
  rw [hw] at hop hkind h17 hlow hnd
  rw [show (2 ^ 16 + mask) % 2 ^ 16 = mask by omega] at hlow
  rw [show (2 ^ 16 + mask) / 2 ^ 17 = 0 by omega] at h17
  rw [show (2 ^ 16 + mask) / 2 ^ 16 % 2 = 1 by omega] at hnd
  have hmask : kindMask (stepBits (2 * 2 ^ 28 + 2 ^ 16 + mask) 24 4) = some (2 ^ 10 - 1) := by rw [hkind]; rfl
  rw [decodeStep_disable hop hmask, hkind, hlow, h17, hnd, within_two_pow_sub_one (n := 10) hm]
  rfl

theorem decodeStep_setWord {i v : Nat} (h : SetOperand i v) : decodeStep (3 * 2 ^ 28 + i * 2 ^ 16 + v) = .ok (.set i v) := by
  obtain ⟨hi, hv, m, hm, hw⟩ := setMask_within h
  obtain ⟨hop, hkind, -, h16, -, hlow, -⟩ := kindWord_fields (op := 3) (kind := 0) (by omega) (by omega) (show i * 2 ^ 16 + v < 2 ^ 24 by omega)
  rw [show 3 * 2 ^ 28 + 0 * 2 ^ 24 + (i * 2 ^ 16 + v) = 3 * 2 ^ 28 + i * 2 ^ 16 + v by omega] at hop hkind h16 hlow
  rw [show (i * 2 ^ 16 + v) / 2 ^ 16 = i by omega] at h16
  rw [show (i * 2 ^ 16 + v) % 2 ^ 16 = v by omega] at hlow
  rw [decodeStep_set hop (h16 ▸ hm), hkind, hlow, h16, hw]
  rfl

theorem decodeStep_waitWord {n : Nat} (lf : Bool) (hn : n < 2 ^ 24) : decodeStep (4 * 2 ^ 28 + lf.toNat * 2 ^ 24 + n) = .ok (.wait lf n) := by
  have hb : lf.toNat < 2 := lf.toNat_lt
  have hop : (4 * 2 ^ 28 + lf.toNat * 2 ^ 24 + n) / 2 ^ 28 % 16 = 4 := by omega
  have hlf : (4 * 2 ^ 28 + lf.toNat * 2 ^ 24 + n).testBit 24 = lf := testBit_eq_decide (by omega)
  have hcount : stepBits (4 * 2 ^ 28 + lf.toNat * 2 ^ 24 + n) 0 24 = n := by unfold stepBits; omega
  rw [decodeStep_wait hop, hlf, hcount]
  exact stepIf_of (decide_eq_true (by unfold stepBits; omega)) _

theorem decodeStep_waitcWord {c t : Nat} (inv : Bool) (hc : c < 256) (ht : t < 65536) :
    decodeStep (5 * 2 ^ 28 + inv.toNat * 2 ^ 27 + c * 2 ^ 16 + t) = .ok (.waitc inv c t) := by
  have hb : inv.toNat < 2 := inv.toNat_lt
  have hop : (5 * 2 ^ 28 + inv.toNat * 2 ^ 27 + c * 2 ^ 16 + t) / 2 ^ 28 % 16 = 5 := by omega
  have hinv : (5 * 2 ^ 28 + inv.toNat * 2 ^ 27 + c * 2 ^ 16 + t).testBit 27 = inv := testBit_eq_decide (by omega)
  have hcond : stepBits (5 * 2 ^ 28 + inv.toNat * 2 ^ 27 + c * 2 ^ 16 + t) 16 8 = c := by unfold stepBits; omega
  have hlow : stepBits (5 * 2 ^ 28 + inv.toNat * 2 ^ 27 + c * 2 ^ 16 + t) 0 16 = t := by unfold stepBits; omega
  rw [decodeStep_waitc hop, hinv, hcond, hlow]
  exact stepIf_of (decide_eq_true (by unfold stepBits; omega)) _

/-- The fields of a word with a condition: INV, two flags, COND and an operand of 16 bits. -/
theorem condWord_fields {op c t w : Nat} (inv f26 f25 : Bool) (hop : op < 16) (hc : c < 256) (ht : t < 65536)
    (hw : w = op * 2 ^ 28 + inv.toNat * 2 ^ 27 + f26.toNat * 2 ^ 26 + f25.toNat * 2 ^ 25 + c * 2 ^ 16 + t) :
    w / 2 ^ 28 % 16 = op ∧ w.testBit 27 = inv ∧ w.testBit 26 = f26 ∧ w.testBit 25 = f25 ∧ w.testBit 24 = false ∧ stepBits w 16 8 = c ∧ stepBits w 0 16 = t ∧
      stepBits w 24 2 = f25.toNat * 2 ∧ stepBits w 12 4 = t / 2 ^ 12 ∧ stepBits w 0 12 = t % 2 ^ 12 := by
  have h1 : inv.toNat < 2 := inv.toNat_lt
  have h2 : f26.toNat < 2 := f26.toNat_lt
  have h3 : f25.toNat < 2 := f25.toNat_lt
  unfold stepBits
  exact ⟨by omega, testBit_eq_decide (by omega), testBit_eq_decide (by omega), testBit_eq_decide (by omega), testBit_eq_decide (b := false) (by rw [Bool.toNat_false]; omega),
    by omega, by omega, by omega, by omega, by omega⟩

theorem decodeStep_checkJumpWord {c t : Nat} (inv : Bool) (hc : c < 256) (ht : t < 4096) :
    decodeStep (6 * 2 ^ 28 + inv.toNat * 2 ^ 27 + c * 2 ^ 16 + t) = .ok (.check inv false false c t) := by
  obtain ⟨hop, hinv, h26, h25, h24, hcond, hlow, -⟩ := condWord_fields (op := 6) inv false false (by omega) hc (show t < 65536 by omega) (w := 6 * 2 ^ 28 + inv.toNat * 2 ^ 27 + c * 2 ^ 16 + t)
    (by simp only [Bool.toNat_false]; omega)
  have hwithin : within t 0xFFF = true := within_two_pow_sub_one (n := 12) ht
  rw [decodeStep_check hop, hinv, h26, h25, h24, hcond, hlow]
  exact stepIf_of (by rw [if_neg Bool.false_ne_true, hwithin]; rfl) _

theorem decodeStep_checkActWord {c src : Nat} (inv stop : Bool) (hc : c < 256) (hs : src < 128) :
    decodeStep (6 * 2 ^ 28 + inv.toNat * 2 ^ 27 + 2 ^ 26 + stop.toNat * 2 ^ 25 + c * 2 ^ 16 + src) = .ok (.check inv true stop c src) := by
  obtain ⟨hop, hinv, h26, h25, h24, hcond, hlow, -⟩ := condWord_fields (op := 6) inv true stop (by omega) hc (show src < 65536 by omega)
    (w := 6 * 2 ^ 28 + inv.toNat * 2 ^ 27 + 2 ^ 26 + stop.toNat * 2 ^ 25 + c * 2 ^ 16 + src) (by simp only [Bool.toNat_true]; omega)
  have hwithin : within src 0x7F = true := within_two_pow_sub_one (n := 7) hs
  rw [decodeStep_check hop, hinv, h26, h25, h24, hcond, hlow]
  exact stepIf_of (by rw [if_pos rfl, hwithin]; rfl) _

theorem decodeStep_jumpWord {c t : Nat} (inv : Bool) (hc : c < 256) (ht : t < 4096) :
    decodeStep (7 * 2 ^ 28 + inv.toNat * 2 ^ 27 + 2 ^ 26 + c * 2 ^ 16 + t) = .ok (.jump inv true c t) := by
  obtain ⟨hop, hinv, h26, -, -, hcond, -, h24, h12, hlow⟩ := condWord_fields (op := 7) inv true false (by omega) hc (show t < 65536 by omega)
    (w := 7 * 2 ^ 28 + inv.toNat * 2 ^ 27 + 2 ^ 26 + c * 2 ^ 16 + t) (by simp only [Bool.toNat_true, Bool.toNat_false]; omega)
  rw [decodeStep_jump hop, hinv, h26, hcond, hlow, h24, h12, Nat.mod_eq_of_lt (show t < 2 ^ 12 by omega), Nat.div_eq_of_lt (show t < 2 ^ 12 by omega)]
  rfl

theorem decodeStep_plainJumpWord {t : Nat} (ht : t < 4096) : decodeStep (7 * 2 ^ 28 + t) = .ok (.jump false false 0 t) := by
  obtain ⟨hop, hinv, h26, -, -, hcond, -, h24, h12, hlow⟩ := condWord_fields (op := 7) (c := 0) false false false (by omega) (by omega) (show t < 65536 by omega)
    (w := 7 * 2 ^ 28 + t) (by simp only [Bool.toNat_false]; omega)
  rw [decodeStep_jump hop, hinv, h26, hcond, hlow, h24, h12, Nat.mod_eq_of_lt (show t < 2 ^ 12 by omega), Nat.div_eq_of_lt (show t < 2 ^ 12 by omega)]
  rfl

theorem decodeStep_signalWord {kind op : Nat} (h : SignalOperand kind op) : decodeStep (8 * 2 ^ 28 + kind * 2 ^ 24 + op) = .ok (.signal kind op) := by
  obtain ⟨hk, hop24, h2, h6, m, hm, hw⟩ := signalMask_within h
  obtain ⟨hop, hkind, h24, -⟩ := kindWord_fields (op := 8) (by omega) hk hop24
  rw [decodeStep_signal hop (hkind ▸ hm), hkind, h24, hw]
  exact stepIf_of (by simp only [Bool.and_eq_true, Bool.or_eq_true, decide_eq_true_eq]; tauto) _

theorem decodeStep_syncWord {f : Nat} (clr : Bool) (hf : f < 32) : decodeStep (9 * 2 ^ 28 + clr.toNat * 2 ^ 8 + f) = .ok (.sync clr f) := by
  have hb : clr.toNat < 2 := clr.toNat_lt
  have hop : (9 * 2 ^ 28 + clr.toNat * 2 ^ 8 + f) / 2 ^ 28 % 16 = 9 := by omega
  have hclr : (9 * 2 ^ 28 + clr.toNat * 2 ^ 8 + f).testBit 8 = clr := testBit_eq_decide (by omega)
  have hflag : stepBits (9 * 2 ^ 28 + clr.toNat * 2 ^ 8 + f) 0 5 = f := by unfold stepBits; omega
  have h9 : stepBits (9 * 2 ^ 28 + clr.toNat * 2 ^ 8 + f) 9 19 = 0 := by unfold stepBits; omega
  have h5 : stepBits (9 * 2 ^ 28 + clr.toNat * 2 ^ 8 + f) 5 3 = 0 := by unfold stepBits; omega
  rw [decodeStep_sync hop, hclr, hflag, h9, h5]
  rfl

theorem kindMask_none {kind : Nat} (h : 5 ≤ kind) : kindMask kind = none := List.getElem?_eq_none h

theorem signalMask_none {kind : Nat} (h : 7 ≤ kind) : signalMask kind = none := List.getElem?_eq_none h

/-- Settles O34: the words of each opcode, field by field, and the reserved codes. -/
theorem stepEncodings : Obligations.StepEncodings := by
  refine ⟨rfl, fun kind mask h => ?_, fun i v h => decodeStep_setWord h, fun n lf hn => decodeStep_waitWord lf hn, fun c t inv hc ht => decodeStep_waitcWord inv hc ht,
    fun c t inv hc ht => ⟨decodeStep_checkJumpWord inv hc ht, decodeStep_jumpWord inv hc ht, decodeStep_plainJumpWord ht⟩, fun c src inv stop hc hs => decodeStep_checkActWord inv stop hc hs,
    fun kind op h => decodeStep_signalWord h, fun f clr hf => decodeStep_syncWord clr hf, fun w hw h => ?_⟩
  · obtain ⟨hk, hm, m, hkm, hw⟩ := kindMask_within h
    exact ⟨decodeStep_enableWord hk hm hkm hw, decodeStep_disableWord hk hm hkm hw, fun h0 => decodeStep_disableNodisWord (by omega)⟩
  · have hmod : w / 2 ^ 28 % 16 = w / 2 ^ 28 := Nat.mod_eq_of_lt (by omega)
    rw [← hmod] at h
    rcases h with h | ⟨hop, hk⟩ | ⟨hop, hk⟩
    · exact decodeStep_reservedOpcode h
    · exact decodeStep_reservedKind hop (kindMask_none hk)
    · exact decodeStep_reservedSignal hop (signalMask_none hk)

end Sys2Proof.Machine
end

section
/-! PROOFS. The state after the cold start, and what a host write leaves by the access types (R14, R84). -/
namespace Sys2Proof.Machine

/-! ### The state after the cold start (log entry 2) -/

/-- Settles O2: each part is a value of State.reset. -/
theorem resetState : Obligations.ResetState :=
  ⟨rfl, rfl, rfl, rfl, rfl, rfl, rfl, rfl, rfl, by decide, by decide, rfl, by decide⟩

/-! ### Access types, and clamped fields (R14, R84) -/

theorem getLsbD_ofNat_word (m i : Nat) (hi : i < 16) : (BitVec.ofNat 16 m).getLsbD i = m.testBit i := by
  rw [BitVec.getLsbD_ofNat, decide_eq_true hi, Bool.true_and]

/-- One bit of the word that a write leaves. -/
theorem storedWord_getLsbD (a : Nat) (old w : Word) {i : Nat} (hi : i < 16) :
    (storedWord a old w).getLsbD i =
      ((old.getLsbD i && !(rwMask a).testBit i && !((w1cMask a).testBit i && w.getLsbD i)) || (w.getLsbD i && (rwMask a).testBit i) || (w.getLsbD i && (w1sMask a).testBit i)) := by
  unfold storedWord
  simp only [BitVec.getLsbD_or, BitVec.getLsbD_and, BitVec.getLsbD_not, getLsbD_ofNat_word _ i hi, decide_eq_true hi, Bool.true_and]

theorem winVal_unsigned (width v : Nat) : winVal false width v = v := rfl

/-- A field with an unsigned window that is in force. -/
theorem State.clampField_window (s : State) (f : Fld) (w : Word) {lo hi : Nat}
    (h : s.nvm.windows.find? (fun x => x.1 = f.addr && x.2.1 = f.lsb && x.2.2.1 = f.width) = some (f.addr, f.lsb, f.width, false, lo, hi)) :
    s.clampField (w, false) f = if f.get w < lo then (f.put w lo, true) else if hi < f.get w then (f.put w hi, true) else (w, false) := by
  unfold State.clampField
  rw [h]
  simp only [winVal_unsigned, Nat.cast_lt]

/-- Settles O22: the word's bits by the access masks, and a clamped field by where its value stands in its window. -/
theorem accessTypes : Obligations.AccessTypes := by
  refine ⟨fun a old w i hi hdisj => ?_, fun s f w lo hi hf hwin hle hlt => ?_⟩
  · rw [storedWord_getLsbD a old w hi]
    rcases hdisj with h | ⟨hc, hs⟩
    · rw [h]
      cases w.getLsbD i <;> cases (w1cMask a).testBit i <;> cases (w1sMask a).testBit i <;> simp
    · rw [hc, hs]
      cases (rwMask a).testBit i <;> simp
  · have hput : ∀ v, v ≤ hi → f.get (f.put w v) = v := fun v hv => (Fld.get_put f w v hf).trans (Nat.mod_eq_of_lt (by omega))
    dsimp only
    rw [s.clampField_window f w hwin]
    refine ⟨fun h => ?_, fun h => ?_, fun h1 h2 => ?_, fun g hg => ?_⟩
    · rw [if_pos h]
      exact ⟨hput lo hle, rfl⟩
    · rw [if_neg (by omega), if_pos h]
      exact ⟨hput hi le_rfl, rfl⟩
    · rw [if_neg (by omega), if_neg (by omega)]
    · split_ifs
      · exact Fld.get_put_beside f g w lo hf hg
      · exact Fld.get_put_beside f g w hi hf hg
      · rfl

end Sys2Proof.Machine
end

section
/-! PROOFS. Reads after a write, and operations that change registers alone. -/
namespace Sys2Proof.Machine

/-! ### Words, fields and bits of a register after a write -/

theorem State.rd_wn_ne (s : State) {a b : Nat} (v : Nat) (h : a ≠ b) : (s.wn b v).rd a = s.rd a := s.rd_wr_ne _ h

theorem State.rn_wn_same (s : State) (a v : Nat) : (s.wn a v).rn a = v % 65536 := by
  unfold State.rn State.wn
  rw [State.rd_wr_same, BitVec.toNat_ofNat]

theorem State.rn_lt (s : State) (a : Nat) : s.rn a < 65536 := (s.rd a).isLt

theorem State.g_congr {s t : State} {f : Fld} (h : t.rd f.addr = s.rd f.addr) : t.g f = s.g f := congrArg f.get h

theorem State.b_congr {s t : State} {f : Fld} (h : t.rd f.addr = s.rd f.addr) : t.b f = s.b f := congrArg (· != 0) (State.g_congr h)

theorem State.rn_congr {s t : State} {a : Nat} (h : t.rd a = s.rd a) : t.rn a = s.rn a := congrArg BitVec.toNat h

theorem State.r32_congr {s t : State} {a : Nat} (h : t.rd a = s.rd a) (h' : t.rd (a + 1) = s.rd (a + 1)) : t.r32 a = s.r32 a := by
  unfold State.r32
  rw [State.rn_congr h, State.rn_congr h']

theorem State.rd_pbit_ne (s : State) {a b : Nat} (k : Nat) (v : Bool) (h : a ≠ b) : (s.pbit b k v).rd a = s.rd a := s.rd_p_ne (f := ⟨b, k, 1⟩) _ h

theorem State.rd_w32_ne (s : State) {a b : Nat} (v : Nat) (h : a ≠ b) (h' : a ≠ b + 1) : (s.w32 b v).rd a = s.rd a := by
  unfold State.w32
  rw [State.rd_wn_ne _ _ h', State.rd_wn_ne _ _ h]

theorem State.r32_w32 (s : State) (a : Nat) {v : Nat} (hv : v < 4294967296) : (s.w32 a v).r32 a = v := by
  unfold State.w32 State.r32
  rw [State.rn_wn_same, State.rn_congr (State.rd_wn_ne _ _ (Nat.ne_of_lt (Nat.lt_succ_self a))), State.rn_wn_same]
  omega

theorem State.b_pb_same (s : State) (f : Fld) (v : Bool) (h : f.lsb + f.width ≤ 16) (hw : f.width = 1) : (s.pb f v).b f = v := by
  unfold State.b State.pb
  rw [s.g_p_same f _ h, hw]
  cases v <;> rfl

/-! ### Operations that change the register file alone, and there no word outside W -/

/-- The state t is s but for registers at which W holds. -/
def State.Writes (W : Nat → Prop) (s t : State) : Prop := t = { s with regs := t.regs } ∧ ∀ a, ¬ W a → t.rd a = s.rd a

namespace State.Writes

variable {W V : Nat → Prop} {s t u : State}

theorem refl (W : Nat → Prop) (s : State) : s.Writes W s := ⟨rfl, fun _ _ => rfl⟩

theorem eq (h : s.Writes W t) : t = { s with regs := t.regs } := h.1

/-- Whatever does not depend on the register file stands. -/
theorem keeps {β : Type} (h : s.Writes W t) (g : State → β) (hg : ∀ r, g { s with regs := r } = g s) : g t = g s := (congrArg g h.1).trans (hg _)

theorem exists_regs (h : s.Writes W t) : ∃ r : RegFile, t = { s with regs := r } := ⟨_, h.1⟩

theorem power (h : s.Writes W t) : t.power = s.power := h.keeps _ fun _ => rfl

theorem rd (h : s.Writes W t) {a : Nat} (ha : ¬ W a) : t.rd a = s.rd a := h.2 a ha

theorem g (h : s.Writes W t) {f : Fld} (hf : ¬ W f.addr) : t.g f = s.g f := State.g_congr (h.rd hf)

theorem b (h : s.Writes W t) {f : Fld} (hf : ¬ W f.addr) : t.b f = s.b f := State.b_congr (h.rd hf)

theorem rn (h : s.Writes W t) {a : Nat} (ha : ¬ W a) : t.rn a = s.rn a := State.rn_congr (h.rd ha)

theorem bit (h : s.Writes W t) {a : Nat} (ha : ¬ W a) (k : Nat) : t.bit a k = s.bit a k := State.bit_congr (h.rd ha) k

theorem trans (h : s.Writes W t) (h' : t.Writes W u) : s.Writes W u :=
  ⟨h'.1.trans (by rw [h.1]), fun a ha => (h'.2 a ha).trans (h.2 a ha)⟩

theorem mono (h : s.Writes W t) (hWV : ∀ a, W a → V a) : s.Writes V t := ⟨h.1, fun a ha => h.2 a fun hw => ha (hWV a hw)⟩

theorem wr (h : s.Writes W t) {a : Nat} (ha : W a) (w : Word) : s.Writes W (t.wr a w) :=
  ⟨congrArg (fun x : State => { x with regs := (t.wr a w).regs }) h.1, fun b hb => (t.rd_wr_ne w fun e : b = a => hb (e ▸ ha)).trans (h.2 b hb)⟩

theorem wn (h : s.Writes W t) {a : Nat} (ha : W a) (v : Nat) : s.Writes W (t.wn a v) := h.wr ha _

theorem p (h : s.Writes W t) {f : Fld} (ha : W f.addr) (v : Nat) : s.Writes W (t.p f v) := h.wr ha _

theorem pb (h : s.Writes W t) {f : Fld} (ha : W f.addr) (v : Bool) : s.Writes W (t.pb f v) := h.wr ha _

theorem pbit (h : s.Writes W t) {a : Nat} (ha : W a) (k : Nat) (v : Bool) : s.Writes W (t.pbit a k v) := h.wr ha _

theorem inc (h : s.Writes W t) {a : Nat} (ha : W a) : s.Writes W (t.inc a) := by
  unfold State.inc
  split
  · exact h.wn ha _
  · exact h

theorem when (h : s.Writes W t) {c : Bool} {f : State → State} (hf : s.Writes W (f t)) : s.Writes W (t.when c f) := by
  cases c
  · exact h
  · exact hf

theorem each {α : Type} (h : s.Writes W t) {f : State → α → State} (hf : ∀ u x, s.Writes W u → s.Writes W (f u x)) (l : List α) : s.Writes W (t.each l f) :=
  State.each_induct (fun u => s.Writes W u) hf l t h

end State.Writes

end Sys2Proof.Machine
end

section
/-! PROOFS. The window monitors: a judgement and the windows that an edge starts (R551 to R556). -/
namespace Sys2Proof.Machine

/-! ### What a monitor's judgement changes (R551, R555, R563) -/

/-- The registers in which the comparators' states and their entries stand. -/
def CmpState (a : Nat) : Prop := a = A.CMP_UNDER ∨ a = A.CMP_OVER ∨ a = A.CMP_UEVT ∨ a = A.CMP_OEVT

theorem not_cmpState_of_lt {a : Nat} (h : a < 0x0942) : ¬ CmpState a := by
  rintro (rfl | rfl | rfl | rfl) <;> exact absurd h (by decide)

theorem not_cmpState {a : Nat} (hu : a ≠ A.CMP_UNDER) (ho : a ≠ A.CMP_OVER) (hue : a ≠ A.CMP_UEVT) (hoe : a ≠ A.CMP_OEVT) : ¬ CmpState a := by
  rintro (h | h | h | h) <;> contradiction

/-- The two comparators of monitor k in their states; an entry is recorded where a comparator enters its state. -/
def State.putStates (s : State) (k : Nat) (u o : Bool) : State :=
  let t := s.when (u && !s.under k) (·.pbit A.CMP_UEVT k true)
  let t := t.when (o && !t.over k) (·.pbit A.CMP_OEVT k true)
  (t.pbit A.CMP_UNDER k u).pbit A.CMP_OVER k o

theorem State.takeStates_eq (s : State) (k : Nat) (u o : Bool) :
    s.takeStates k u o = if k < 10 then (s.putStates k u o).setDom (k + 1) (fun d => { d with uvRep := d.uvRep && u, ovRep := d.ovRep && o }) else s.putStates k u o := rfl

theorem State.putStates_writes (s : State) (k : Nat) (u o : Bool) : s.Writes CmpState (s.putStates k u o) := by
  unfold State.putStates
  refine State.Writes.pbit (.pbit ?_ (.inl rfl) _ _) (.inr (.inl rfl)) _ _
  have hue : s.Writes CmpState (s.when (u && !s.under k) (·.pbit A.CMP_UEVT k true)) := (State.Writes.refl _ s).when ((State.Writes.refl _ s).pbit (.inr (.inr (.inl rfl))) _ _)
  exact hue.when (hue.pbit (.inr (.inr (.inr rfl))) _ _)

theorem State.under_putStates (s : State) {k : Nat} (u o : Bool) (hk : k < 16) : (s.putStates k u o).under k = u := by
  unfold State.putStates State.under
  rw [State.bit_pbit_ne _ _ hk (.inl (by decide)), State.bit_pbit_same _ _ _ hk]

theorem State.over_putStates (s : State) {k : Nat} (u o : Bool) (hk : k < 16) : (s.putStates k u o).over k = o := State.bit_pbit_same _ _ _ hk

theorem State.sampled_congr {s t : State} {k : Nat} (hp : t.power = s.power) (hr : t.rd (A.CMP_CFG k) = s.rd (A.CMP_CFG k)) : t.sampled k = s.sampled k := by
  unfold State.sampled
  rw [hp, State.g_congr (f := F.CMP_CFG_MODE k) hr]

/-- A free monitor's judgement: its comparators take the states that its input puts them in, and nothing else follows. -/
theorem State.judge_free (s : State) (off : State → Nat → State) {k : Nat} (mv : Nat) (h10 : 10 ≤ k) (hpow : s.monPowered k = true) :
    s.judge off k mv = s.putStates k (s.judgeUnder k (s.stepOf k) (s.monInput k mv)) (s.judgeOver k (s.stepOf k) (s.monInput k mv)) := by
  have hmay : s.mayJudge k = true := by
    unfold State.mayJudge
    rw [hpow, show decide (k = 8) = false from decide_eq_false (by omega)]
    rfl
  unfold State.judge State.afterJudge
  rw [if_pos hmay, if_neg (by omega), State.takeStates_eq, if_neg (by omega)]

theorem State.afterJudge_free (s : State) (off : State → Nat → State) {k : Nat} (h10 : 10 ≤ k) : s.afterJudge off k = s := if_neg (by omega)

/-- A domain's monitor with no over-voltage in its input, not sampled: it reports nothing. -/
theorem State.judge_domain (s : State) (off : State → Nat → State) {k : Nat} (mv : Nat) (hk : k < 10) (hmay : s.mayJudge k = true) (hsam : s.sampled k = false)
    (hov : s.judgeOver k (s.stepOf k) (s.monInput k mv) = false) :
    s.judge off k mv = (s.putStates k (s.judgeUnder k (s.stepOf k) (s.monInput k mv)) false).setDom (k + 1)
      (fun d => { d with uvRep := d.uvRep && s.judgeUnder k (s.stepOf k) (s.monInput k mv), ovRep := d.ovRep && false }) := by
  unfold State.judge
  rw [if_pos hmay]
  dsimp only
  rw [hov, State.takeStates_eq, if_pos hk]
  generalize s.judgeUnder k (s.stepOf k) (s.monInput k mv) = u
  have hover : ((s.putStates k u false).setDom (k + 1) (fun d => { d with uvRep := d.uvRep && u, ovRep := d.ovRep && false })).over k = false := s.over_putStates u false (by omega)
  have hsampled : ((s.putStates k u false).setDom (k + 1) (fun d => { d with uvRep := d.uvRep && u, ovRep := d.ovRep && false })).sampled k = false :=
    (State.sampled_congr (s.putStates_writes k u false).power ((s.putStates_writes k u false).rd (not_cmpState_of_lt (show 0x0900 + k < 0x0942 by omega)))).trans hsam
  generalize (s.putStates k u false).setDom (k + 1) (fun d => { d with uvRep := d.uvRep && u, ovRep := d.ovRep && false }) = t at hover hsampled ⊢
  have hdue : t.ovDue (k + 1) = false := by
    unfold State.ovDue
    rw [Nat.add_sub_cancel, hover, Bool.and_false]
    rfl
  unfold State.afterJudge State.when
  rw [if_pos hk, hdue]
  simp [hsampled]

/-! ### Windows (R554) -/

/-- The word that has bit j where p holds of it. -/
theorem testBit_bitSum (p : Nat → Bool) (n : Nat) :
    (List.range n).foldl (fun m k => if p k then m + 2 ^ k else m) 0 < 2 ^ n ∧
      ∀ k, k < n → ((List.range n).foldl (fun m k => if p k then m + 2 ^ k else m) 0).testBit k = p k := by
  induction n with
  | zero => exact ⟨Nat.one_pos, fun k hk => absurd hk (Nat.not_lt_zero k)⟩
  | succ n ih =>
    obtain ⟨hlt, hbits⟩ := ih
    rw [List.range_succ, List.foldl_append]
    generalize (List.range n).foldl (fun m k => if p k then m + 2 ^ k else m) 0 = m at hlt hbits
    rw [List.foldl_cons, List.foldl_nil]
    have hdouble : 2 ^ (n + 1) = 2 ^ n + 2 ^ n := by omega
    cases hp : p n with
    | false =>
      refine ⟨by rw [if_neg Bool.false_ne_true]; omega, fun k hk => ?_⟩
      rw [if_neg Bool.false_ne_true]
      rcases Nat.lt_succ_iff_lt_or_eq.mp hk with hk | rfl
      · exact hbits k hk
      · rw [hp, Nat.testBit_lt_two_pow hlt]
    | true =>
      refine ⟨by rw [if_pos rfl]; omega, fun k hk => ?_⟩
      rw [if_pos rfl, Nat.add_comm]
      rcases Nat.lt_succ_iff_lt_or_eq.mp hk with hk | rfl
      · rw [Nat.testBit_two_pow_add_gt hk, hbits k hk]
      · rw [Nat.testBit_two_pow_add_eq, Nat.testBit_lt_two_pow hlt, hp]
        rfl

/-- From s to t windows have started, of the powered monitors at which `hits` holds, and LOCK's switch stands as `idle` says. -/
structure State.SwitchedTo (s t : State) (idle : Bool) (hits : Nat → Bool) : Prop where
  eq : t = { s with mon := t.mon, lock := { s.lock with idle := idle } }
  due : t.mon.due = s.mon.due
  blanked : ∀ k, k < 16 → t.blanked k = (s.blanked k || (s.monPowered k && hits k))

/-- What an edge hits, by each monitor's BSRC and BDOM. -/
def State.hits (s : State) (hit : Nat → Nat → Bool) (k : Nat) : Bool := hit (s.g (F.CMP_CFG_BSRC k)) (s.g (F.CMP_CFG_BDOM k))

theorem State.SwitchedTo.trans {s t u : State} {i j : Bool} {f g : Nat → Bool} (h : s.SwitchedTo t i f) (h' : t.SwitchedTo u j g) : s.SwitchedTo u j (fun k => f k || g k) := by
  refine ⟨?_, h'.due.trans h.due, fun k hk => ?_⟩
  · rw [h'.eq, h.eq]
  · have hpow : t.monPowered k = s.monPowered k := by
      rw [h.eq]
      rfl
    rw [h'.blanked k hk, h.blanked k hk, hpow]
    cases s.blanked k <;> cases s.monPowered k <;> simp

theorem State.SwitchedTo.hits_eq {s t : State} {i : Bool} {f : Nat → Bool} (h : s.SwitchedTo t i f) (hit : Nat → Nat → Bool) : t.hits hit = s.hits hit := by
  rw [h.eq]
  rfl

theorem State.SwitchedTo.holds_eq {s t : State} {i : Bool} {f : Nat → Bool} (h : s.SwitchedTo t i f) : t.lockHolds = s.lockHolds := by
  rw [h.eq]
  rfl

theorem State.SwitchedTo.idle_eq {s t : State} {i : Bool} {f : Nat → Bool} (h : s.SwitchedTo t i f) : t.lock.idle = i := by
  rw [h.eq]

theorem State.SwitchedTo.congr {s t : State} {i j : Bool} {f g : Nat → Bool} (h : s.SwitchedTo t i f) (hij : i = j) (hfg : ∀ k, f k = g k) : s.SwitchedTo t j g :=
  hij ▸ (funext hfg : f = g) ▸ h

theorem State.blankEdge_eq (s : State) (hit : Nat → Nat → Bool) : s.blankEdge hit = { s with mon := (s.blankEdge hit).mon } := by
  unfold State.blankEdge
  dsimp only
  split <;> rfl

theorem State.blankEdge_due (s : State) (hit : Nat → Nat → Bool) : (s.blankEdge hit).mon.due = s.mon.due := by
  unfold State.blankEdge
  dsimp only
  split <;> rfl

/-- An edge starts the windows of the powered monitors that it hits. -/
theorem State.blankEdge_blanked (s : State) (hit : Nat → Nat → Bool) {k : Nat} (hk : k < 16) : (s.blankEdge hit).blanked k = (s.blanked k || (s.monPowered k && s.hits hit k)) := by
  have hbit := (testBit_bitSum (fun k => s.monPowered k && s.hits hit k) 16).2 k hk
  unfold State.hits at hbit ⊢
  unfold State.blankEdge
  dsimp only at hbit ⊢
  split
  next h0 =>
    rw [h0, Nat.zero_testBit] at hbit
    rw [← hbit, Bool.or_false]
  next =>
    rw [← hbit]
    exact Nat.testBit_or _ _ _

theorem State.blankEdge_switchedTo (s : State) (hit : Nat → Nat → Bool) : s.SwitchedTo (s.blankEdge hit) s.lock.idle (s.hits hit) :=
  ⟨s.blankEdge_eq hit, s.blankEdge_due hit, fun _ hk => s.blankEdge_blanked hit hk⟩

/-- R237, R239: a change of LOCK's switch within a pull-in or hold period is an edge. -/
theorem State.lockSwitch_switchedTo (s : State) (on : Bool) :
    s.SwitchedTo (s.lockSwitch on) (!on) (fun k => decide (s.lock.idle = on) && s.lockHolds && s.hits (fun b d => if on then onHits 9 b d else decide (b = 3)) k) := by
  have hset : s.SwitchedTo { s with lock := { s.lock with idle := !on } } (!on) (fun _ => false) :=
    ⟨rfl, rfl, fun k _ => by rw [Bool.and_false, Bool.or_false]; rfl⟩
  unfold State.lockSwitch State.when
  dsimp only
  cases hc : decide (s.lock.idle = on) && s.lockHolds with
  | false => exact hset
  | true =>
    cases on
    · exact (hset.trans (State.blankEdge_switchedTo _ (fun b _ => b = 3))).congr rfl fun k => rfl
    · exact (hset.trans (State.blankEdge_switchedTo _ (onHits 9))).congr rfl fun k => rfl

/-- A turn-on of LOCK's switch conducts from then on; one of a domain does not concern it. -/
theorem State.highSideOn_switchedTo (s : State) (n : Nat) (h9 : n = 9 → s.lockHolds = true) :
    s.SwitchedTo (s.highSideOn n) (if n = 9 then false else s.lock.idle) (s.hits (onHits n)) := by
  unfold State.highSideOn
  split
  next h =>
    subst h
    have hoff := s.lockSwitch_switchedTo false
    refine (hoff.trans (State.lockSwitch_switchedTo _ true)).congr rfl fun k => ?_
    rw [hoff.hits_eq, hoff.holds_eq, hoff.idle_eq, h9 rfl]
    unfold State.hits onHits
    by_cases hb : s.g (F.CMP_CFG_BSRC k) = 3 <;> simp [hb]
  next => exact s.blankEdge_switchedTo _

theorem State.each_append {α : Type} (s : State) (l r : List α) (f : State → α → State) : s.each (l ++ r) f = (s.each l f).each r f := List.foldl_append ..

/-- Turn-ons in their order. -/
theorem State.turnOns_switchedTo (s : State) (l : List Nat) (h9 : 9 ∈ l → s.lockHolds = true) :
    s.SwitchedTo (s.each l State.highSideOn) (if 9 ∈ l then false else s.lock.idle) (fun k => l.any (fun n => s.hits (onHits n) k)) := by
  induction l using List.reverseRecOn with
  | nil => exact ⟨rfl, rfl, fun k _ => by rw [List.any_nil, Bool.and_false, Bool.or_false]; rfl⟩
  | append_singleton l n ih =>
    have hl := ih fun h => h9 (List.mem_append_left _ h)
    rw [State.each_append]
    have hn := State.highSideOn_switchedTo (s.each l State.highSideOn) n fun h => hl.holds_eq.trans (h9 (by simp [h]))
    refine (hl.trans hn).congr ?_ fun k => ?_
    · rw [hl.idle_eq]
      by_cases h : n = 9 <;> by_cases h' : 9 ∈ l <;> simp [h, h', eq_comm]
    · rw [hl.hits_eq]
      simp

/-- R554: the windows that the switching of an event starts. -/
theorem State.switched_switchedTo (s : State) (sw : Switching) :
    s.SwitchedTo (s.switched sw) (!sw.lockOn) (fun k => sw.turnOns.any (fun n => s.turnsOn n && s.hits (onHits n) k) ||
      (decide ((if 9 ∈ sw.turnOns ∧ s.lockHolds = true then false else s.lock.idle) = sw.lockOn) && s.lockHolds && s.hits (fun b d => if sw.lockOn then onHits 9 b d else decide (b = 3)) k)) := by
  have hon := s.turnOns_switchedTo (sw.turnOns.filter s.turnsOn) fun h => (List.mem_filter.mp h).2
  unfold State.switched
  refine (hon.trans (State.lockSwitch_switchedTo _ sw.lockOn)).congr rfl fun k => ?_
  rw [hon.holds_eq, hon.hits_eq, hon.idle_eq, List.any_filter]
  have hmem : (9 ∈ sw.turnOns.filter s.turnsOn) = (9 ∈ sw.turnOns ∧ s.lockHolds = true) := propext List.mem_filter
  simp only [hmem]

end Sys2Proof.Machine
end

section
/-! PROOFS. The monitors' events (R239, R551 to R556). -/
namespace Sys2Proof.Machine

/-! ### Judgements after the switching of an event (R551, R555, R556) -/

section
variable {s t : State} {k : Nat}

theorem State.domBase_lt {n : Nat} (h : n ≤ 10) : domBase n + 0x0001 < 0x0942 := by
  interval_cases n <;> decide

theorem State.Writes.monPowered (h : s.Writes CmpState t) (k : Nat) : t.monPowered k = s.monPowered k := by
  unfold State.monPowered State.cmdOn
  rw [h.keeps State.running fun _ => rfl, h.bit (not_cmpState_of_lt (by decide))]
  by_cases hk : k < 10
  · have hlt := State.domBase_lt (show k + 1 ≤ 10 by omega)
    rw [h.b (f := F.DOM_STAT_CMDON (k + 1)) (not_cmpState_of_lt hlt), h.b (f := F.DOM_CFG_USED (k + 1)) (not_cmpState_of_lt (Nat.lt_of_succ_lt hlt))]
  · rw [decide_eq_false hk]
    rfl

theorem State.Writes.sampled (h : s.Writes CmpState t) (hk : k < 16) : t.sampled k = s.sampled k :=
  State.sampled_congr h.power (h.rd (not_cmpState_of_lt (show 0x0900 + k < 0x0942 by omega)))

theorem State.Writes.tickCode (h : s.Writes CmpState t) : t.tickCode = s.tickCode := by
  unfold State.tickCode
  have hthm : ∀ a, 0x0A00 ≤ a → ¬ CmpState a := by
    rintro a ha (rfl | rfl | rfl | rfl) <;> exact absurd ha (by decide)
  rw [h.g (f := F.THM_STAT_BAND) (hthm _ le_rfl), h.rn (hthm _ (show 0x0A00 ≤ 0x0A40 + _ by omega))]

end

/-- What one monitor does at a supervision tick. -/
def State.superviseOne (off : State → Nat → State) (inputs : List (Nat × Nat)) (s : State) (k : Nat) : State :=
  if s.monPowered k && s.sampled k then
    match inputs.find? (fun e => e.1 = k) with
    | some (_, mv) => if s.blanked k then { s with mon := { s.mon with due := s.mon.due.lor (2 ^ k) } } else s.judge off k mv
    | none => { s with mon := { s.mon with due := s.mon.due.lor (2 ^ k) } }
  else s

theorem State.supervise_eq (s : State) (off : State → Nat → State) (inputs : List (Nat × Nat)) : s.supervise off inputs = (List.range 16).foldl (State.superviseOne off inputs) s := rfl

/-- Monitors that are not powered and sampled do nothing. -/
theorem State.superviseOne_none {s : State} {off : State → Nat → State} {inputs : List (Nat × Nat)} {l : List Nat} (h : ∀ j ∈ l, (s.monPowered j && s.sampled j) = false) :
    l.foldl (State.superviseOne off inputs) s = s := by
  induction l with
  | nil => rfl
  | cons j l ih =>
    have hj : State.superviseOne off inputs s j = s := by
      unfold State.superviseOne
      rw [h j List.mem_cons_self, if_neg Bool.false_ne_true]
    rw [List.foldl_cons, hj]
    exact ih fun i hi => h i (List.mem_cons_of_mem _ hi)

/-- A tick with one free monitor powered and sampled, outside a window: it judges. -/
theorem State.supervise_one {s : State} (off : State → Nat → State) {k : Nat} (mv : Nat) (h10 : 10 ≤ k) (h16 : k < 16) (honly : ∀ j ∈ List.range 16, (s.monPowered j && s.sampled j) = decide (j = k))
    (hbl : s.blanked k = false) : s.supervise off [(k, mv)] = s.judge off k mv := by
  obtain ⟨before, after, hrange⟩ := List.append_of_mem (List.mem_range.mpr h16)
  have hnodup : (before ++ k :: after).Nodup := hrange ▸ List.nodup_range
  obtain ⟨-, hafter, hdisj⟩ := List.nodup_append.mp hnodup
  rw [hrange] at honly
  have hk : (s.monPowered k && s.sampled k) = true := (honly k (by simp)).trans (decide_eq_true rfl)
  have hjudge : State.superviseOne off [(k, mv)] s k = s.judge off k mv := by
    have hfind : [(k, mv)].find? (fun e => e.1 = k) = some (k, mv) := List.find?_cons_of_pos (decide_eq_true rfl)
    unfold State.superviseOne
    rw [hk, if_pos rfl, hfind]
    exact if_neg (ne_true_of_eq_false hbl)
  rw [State.supervise_eq, hrange, List.foldl_append, List.foldl_cons,
    State.superviseOne_none fun j hj => (honly j (List.mem_append_left _ hj)).trans (decide_eq_false (hdisj j hj k List.mem_cons_self)), hjudge, s.judge_free off mv h10 (Bool.and_eq_true .. ▸ hk).1]
  have hw := s.putStates_writes k (s.judgeUnder k (s.stepOf k) (s.monInput k mv)) (s.judgeOver k (s.stepOf k) (s.monInput k mv))
  refine State.superviseOne_none fun j hj => ?_
  have hjr : j ∈ List.range 16 := hrange ▸ List.mem_append_right _ (List.mem_cons_of_mem _ hj)
  rw [hw.monPowered j, hw.sampled (List.mem_range.mp hjr), honly j (List.mem_append_right _ (List.mem_cons_of_mem _ hj))]
  exact decide_eq_false fun e => (List.nodup_cons.mp hafter).1 (e ▸ hj)

section
variable {s t : State} {i : Bool} {f : Nat → Bool}

/-- Whatever depends neither on the windows nor on LOCK's switch stands. -/
theorem State.SwitchedTo.keeps {β : Type} (h : s.SwitchedTo t i f) (g : State → β) (hg : ∀ m l, g { s with mon := m, lock := l } = g s) : g t = g s := (congrArg g h.eq).trans (hg _ _)

theorem State.SwitchedTo.mayJudge (h : s.SwitchedTo t i f) {k : Nat} (hpow : s.monPowered k = true) (h8 : k = 8 → s.lockHolds = true → i = false) : t.mayJudge k = true := by
  unfold State.mayJudge
  rw [h.idle_eq, h.holds_eq, h.keeps (State.monPowered · k) fun _ _ => rfl, hpow, Bool.true_and, Bool.not_eq_true', Bool.and_assoc]
  by_cases hk : k = 8
  · cases hl : s.lockHolds
    · simp
    · simp [h8 hk hl]
  · simp [hk]

end

/-- A free monitor judges after the switching of its event. -/
theorem State.switched_judge_free (s : State) (off : State → Nat → State) (sw : Switching) {k : Nat} (mv : Nat) (h10 : 10 ≤ k) (hpow : s.monPowered k = true) :
    (s.switched sw).judge off k mv = (s.switched sw).putStates k (s.judgeUnder k (s.stepOf k) (s.monInput k mv)) (s.judgeOver k (s.stepOf k) (s.monInput k mv)) := by
  have h := s.switched_switchedTo sw
  rw [State.judge_free _ off mv h10 ((h.keeps (State.monPowered · k) fun _ _ => rfl).trans hpow), h.keeps (fun t => t.judgeUnder k (t.stepOf k) (t.monInput k mv)) fun _ _ => rfl,
    h.keeps (fun t => t.judgeOver k (t.stepOf k) (t.monInput k mv)) fun _ _ => rfl]

theorem State.comparator_open (s : State) (off : State → Nat → State) {k : Nat} (mv : Nat) (hsam : s.sampled k = false) (hbl : s.blanked k = false) : s.comparator off k mv = s.judge off k mv := by
  unfold State.comparator
  rw [hsam, hbl]
  rfl

theorem State.comparator_blanked (s : State) (off : State → Nat → State) {k : Nat} (mv : Nat) (hbl : s.blanked k = true) : s.comparator off k mv = s := by
  unfold State.comparator
  rw [hbl, Bool.or_true, if_pos rfl]

theorem State.switched_sampled (s : State) (sw : Switching) (k : Nat) : (s.switched sw).sampled k = s.sampled k := (s.switched_switchedTo sw).keeps (State.sampled · k) fun _ _ => rfl

theorem State.switched_rd (s : State) (sw : Switching) (a : Nat) : (s.switched sw).rd a = s.rd a := (s.switched_switchedTo sw).keeps (State.rd · a) fun _ _ => rfl

/-- The states that the comparators of a monitor have been put in, after the switching of an event. -/
theorem State.switched_putStates (s : State) (sw : Switching) {k : Nat} (u o : Bool) (hk : k < 16) :
    let e := (s.switched sw).putStates k u o
    e = { s.switched sw with regs := e.regs } ∧ e.under k = u ∧ e.over k = o ∧ ∀ a, ¬ CmpState a → e.rd a = s.rd a :=
  have hw := (s.switched sw).putStates_writes k u o
  ⟨hw.eq, State.under_putStates _ u o hk, State.over_putStates _ u o hk, fun a ha => (hw.rd ha).trans (s.switched_rd sw a)⟩

theorem Nat.testBit_land_clear (m : Nat) {k : Nat} (hk : k < 16) : (m.land (65535 - 2 ^ k % 65536)).testBit k = false := by
  have h : (65535 - 2 ^ k % 65536).testBit k = false := by interval_cases k <;> decide
  exact (Nat.testBit_and _ _ _).trans (by rw [h, Bool.and_false])

/-- The end of a window of a monitor that judges by itself. -/
theorem State.blankEnd_free (s : State) (off : State → Nat → State) {k : Nat} (mv : Nat) (h10 : 10 ≤ k) (hpow : s.monPowered k = true) (hsam : s.sampled k = false) :
    s.blankEnd off k mv = ({ s with mon := ⟨s.mon.blank.land (65535 - 2 ^ k % 65536), s.mon.due.land (65535 - 2 ^ k % 65536)⟩ } : State).putStates k
      (s.judgeUnder k (s.stepOf k) (s.monInput k mv)) (s.judgeOver k (s.stepOf k) (s.monInput k mv)) := by
  unfold State.blankEnd
  rw [State.afterJudge_free _ off h10, hsam]
  exact State.judge_free { s with mon := ⟨s.mon.blank.land (65535 - 2 ^ k % 65536), s.mon.due.land (65535 - 2 ^ k % 65536)⟩ } off mv h10 hpow

theorem State.switched_blankEnd (s : State) (off : State → Nat → State) (sw : Switching) {k : Nat} (mv : Nat) (h10 : 10 ≤ k) (h16 : k < 16) (hpow : s.monPowered k = true) (hsam : s.sampled k = false) :
    let e := (s.switched sw).blankEnd off k mv
    e = { s.switched sw with regs := e.regs, mon := e.mon } ∧ (∀ a, ¬ CmpState a → e.rd a = s.rd a) ∧
      e.blanked k = false ∧ e.under k = s.judgeUnder k (s.stepOf k) (s.monInput k mv) ∧ e.over k = s.judgeOver k (s.stepOf k) (s.monInput k mv) := by
  have h := s.switched_switchedTo sw
  dsimp only
  rw [State.blankEnd_free _ off mv h10 ((h.keeps (State.monPowered · k) fun _ _ => rfl).trans hpow) ((s.switched_sampled sw k).trans hsam), h.keeps (fun t => t.judgeUnder k (t.stepOf k) (t.monInput k mv)) fun _ _ => rfl,
    h.keeps (fun t => t.judgeOver k (t.stepOf k) (t.monInput k mv)) fun _ _ => rfl]
  generalize s.judgeUnder k (s.stepOf k) (s.monInput k mv) = u
  generalize s.judgeOver k (s.stepOf k) (s.monInput k mv) = o
  have hw := State.putStates_writes { s.switched sw with mon := ⟨(s.switched sw).mon.blank.land (65535 - 2 ^ k % 65536), (s.switched sw).mon.due.land (65535 - 2 ^ k % 65536)⟩ } k u o
  refine ⟨?_, fun a ha => (hw.rd ha).trans (s.switched_rd sw a), ?_, State.under_putStates _ u o h16, State.over_putStates _ u o h16⟩
  · rw [hw.eq]
  · exact (hw.keeps (State.blanked · k) fun _ => rfl).trans (Nat.testBit_land_clear _ h16)

/-- With LOCK's switch off in a pull-in or hold period WM8 holds. -/
theorem State.comparator_lockOff (s : State) (off : State → Nat → State) (mv : Nat) (hl : s.lockHolds = true) (hi : s.lock.idle = true) : s.comparator off 8 mv = s := by
  have hmay : s.mayJudge 8 = false := by
    unfold State.mayJudge
    rw [hl, hi]
    exact Bool.and_false _
  unfold State.comparator State.judge
  rw [hmay]
  split <;> rfl

/-- What the switching of an event hits: turn-ons, a turn-on of LOCK's switch, and its turn-offs. -/
theorem State.switched_hits (s : State) (sw : Switching) (k : Nat) :
    (sw.turnOns.any (fun n => s.turnsOn n && s.hits (onHits n) k) ||
      (decide ((if 9 ∈ sw.turnOns ∧ s.lockHolds = true then false else s.lock.idle) = sw.lockOn) && s.lockHolds && s.hits (fun b d => if sw.lockOn then onHits 9 b d else decide (b = 3)) k)) =
    (sw.turnOns.any (fun n => s.turnsOn n && onHits n (s.g (F.CMP_CFG_BSRC k)) (s.g (F.CMP_CFG_BDOM k))) ||
      (s.lockHolds && s.lock.idle && sw.lockOn && onHits 9 (s.g (F.CMP_CFG_BSRC k)) (s.g (F.CMP_CFG_BDOM k))) ||
      (s.lockHolds && decide (s.g (F.CMP_CFG_BSRC k) = 3) && (if 9 ∈ sw.turnOns then !s.lock.idle || !sw.lockOn || decide (2 ≤ sw.turnOns.count 9) else !s.lock.idle && !sw.lockOn))) := by
  unfold State.hits
  generalize s.g (F.CMP_CFG_BSRC k) = b
  generalize s.g (F.CMP_CFG_BDOM k) = d
  cases hl : s.lockHolds with
  | false => simp
  | true =>
    by_cases h9 : 9 ∈ sw.turnOns
    · have hany : onHits 9 b d = true → sw.turnOns.any (fun n => s.turnsOn n && onHits n b d) = true := fun h =>
        List.any_eq_true.mpr ⟨9, h9, by rw [h, Bool.and_true]; exact hl⟩
      have h3 : b = 3 → onHits 9 b d = true := fun h => by
        unfold onHits
        simp [h]
      generalize sw.turnOns.any (fun n => s.turnsOn n && onHits n b d) = any at hany
      generalize onHits 9 b d = lock at hany h3
      by_cases hb : b = 3
      · simp [h9, hb, hany (h3 hb)]
      · cases lock with
        | false => cases s.lock.idle <;> cases sw.lockOn <;> simp [h9, hb]
        | true => simp [h9, hb, hany rfl]
    · cases s.lock.idle <;> cases sw.lockOn <;> simp [h9]

/-- Settles O41: the comparators' rules, and each event's judgement in the state that its switching makes. -/
theorem monitorJudges : Obligations.MonitorJudges := by
  refine ⟨fun s k step mv => ⟨rfl, rfl⟩, fun s k mv sw hk hpow h8 hsam hbl hov => ?_, fun s mv ons hl => ?_, fun s k mv sw hrun h10 h16 hpow honly hbl => ?_, fun s k mv sw h10 h16 hpow hsam hbl => ?_,
    fun s k mv sw hbl => ?_, fun s k mv sw h10 h16 hpow hsam => ?_, fun s l sw hsam => ?_, fun s => ?_, fun s sw => ?_⟩
  · have h := s.switched_switchedTo sw
    have hmay := h.mayJudge hpow fun h8' hl => by rw [h8 h8' hl]; rfl
    have hov' : (s.switched sw).judgeOver k ((s.switched sw).stepOf k) ((s.switched sw).monInput k mv) = false := (h.keeps (fun t => t.judgeOver k (t.stepOf k) (t.monInput k mv)) fun _ _ => rfl).trans hov
    have he : (s.switched sw).comparator offNow k mv = _ :=
      (State.comparator_open _ offNow mv ((s.switched_sampled sw k).trans hsam) hbl).trans (State.judge_domain _ offNow mv hk hmay ((s.switched_sampled sw k).trans hsam) hov')
    rw [h.keeps (fun t => t.judgeUnder k (t.stepOf k) (t.monInput k mv)) fun _ _ => rfl] at he
    obtain ⟨heq, hu, ho, hrd⟩ := s.switched_putStates sw (s.judgeUnder k (s.stepOf k) (s.monInput k mv)) false (show k < 16 by omega)
    refine ⟨_, congrArg done he, ?_, hu, ho, fun a h1 h2 h3 h4 => hrd a (not_cmpState h1 h2 h3 h4)⟩
    dsimp only at heq ⊢
    rw [heq]
    rfl
  · exact congrArg done (State.comparator_lockOff _ offNow mv ((s.switched_switchedTo _).holds_eq.trans hl) (s.switched_switchedTo _).idle_eq)
  · have h := s.switched_switchedTo sw
    have hpow' : ∀ j ∈ List.range 16, ((s.switched sw).monPowered j && (s.switched sw).sampled j) = decide (j = k) := fun j hj =>
      (h.keeps (fun t => t.monPowered j && t.sampled j) fun _ _ => rfl).trans (honly j hj)
    obtain ⟨heq, hu, ho, hrd⟩ := s.switched_putStates sw (s.judgeUnder k (s.stepOf k) (s.monInput k mv)) (s.judgeOver k (s.stepOf k) (s.monInput k mv)) h16
    have he : (s.switched sw).supervise offNow [(k, mv)] = _ := (State.supervise_one offNow mv h10 h16 hpow' hbl).trans (s.switched_judge_free offNow sw mv h10 hpow)
    have htick := (State.putStates_writes (s.switched sw) k (s.judgeUnder k (s.stepOf k) (s.monInput k mv)) (s.judgeOver k (s.stepOf k) (s.monInput k mv))).tickCode.trans (h.keeps State.tickCode fun _ _ => rfl)
    dsimp only at heq hu ho hrd
    generalize (s.switched sw).putStates k (s.judgeUnder k (s.stepOf k) (s.monInput k mv)) (s.judgeOver k (s.stepOf k) (s.monInput k mv)) = e at he heq hu ho hrd htick
    have hexec : exec (.supervisionTick [(k, mv)] sw) s = done (((s.switched sw).supervise offNow [(k, mv)]).when s.running State.takeTick) := rfl
    rw [hexec, he, hrun]
    refine ⟨e.takeTick, rfl, ?_, ?_, hu ▸ State.bit_congr (e.rd_wn_ne _ (by decide)) k, ho ▸ State.bit_congr (e.rd_wn_ne _ (by decide)) k, fun a h1 h2 h3 h4 h5 => (e.rd_wn_ne _ h5).trans (hrd a (not_cmpState h1 h2 h3 h4))⟩
    · exact congrArg (fun x : State => { x with regs := e.takeTick.regs }) heq
    · exact (e.rn_wn_same _ _).trans (by rw [htick]; omega)
  · obtain ⟨heq, hu, ho, hrd⟩ := s.switched_putStates sw (s.judgeUnder k (s.stepOf k) (s.monInput k mv)) (s.judgeOver k (s.stepOf k) (s.monInput k mv)) h16
    have he : (s.switched sw).comparator offNow k mv = _ := (State.comparator_open _ offNow mv ((s.switched_sampled sw k).trans hsam) hbl).trans (s.switched_judge_free offNow sw mv h10 hpow)
    exact ⟨_, congrArg done he, heq, hu, ho, fun a h1 h2 h3 h4 => hrd a (not_cmpState h1 h2 h3 h4)⟩
  · exact congrArg done (State.comparator_blanked _ offNow mv hbl)
  · obtain ⟨heq, hrd, hbl, hu, ho⟩ := s.switched_blankEnd offNow sw mv h10 h16 hpow hsam
    exact ⟨_, rfl, heq, fun a h1 h2 h3 h4 => hrd a (not_cmpState h1 h2 h3 h4), hbl, hu, ho⟩
  · have hnone : (s.switched sw).supervise offNow l = s.switched sw := State.superviseOne_none fun j hj => by rw [s.switched_sampled sw j, hsam j hj, Bool.and_false]
    have he : exec (.supervisionTick l sw) s = done (((s.switched sw).supervise offNow l).when s.running State.takeTick) := rfl
    have htick : (s.switched sw).tickCode = s.tickCode := (s.switched_switchedTo sw).keeps State.tickCode fun _ _ => rfl
    rw [he, hnone, done_eq, ← htick]
    rfl
  · exact ⟨_, rfl, State.blankEdge_eq _ _, State.blankEdge_due _ _, fun k hk => State.blankEdge_blanked s _ hk⟩
  · have h := s.switched_switchedTo sw
    exact ⟨h.eq, h.due, fun k hk => by rw [h.blanked k hk, s.switched_hits sw k]⟩

end Sys2Proof.Machine
end

section
/-! PROOFS. What leaves the domains' status words (R188, R193, R206): a stroke abandoned, a regulator stopped. -/
namespace Sys2Proof.Machine

/-! ### The status words of the domains (R188, R193, R206) -/

/-- A field of a domain's status word other than MASKED. -/
def Fld.OfDomStat (f : Fld) : Prop := 0x0200 ≤ f.addr ∧ f.addr < 0x0340 ∧ f.addr % 32 = 1 ∧ (f.lsb + f.width ≤ 11 ∨ 12 ≤ f.lsb)

/-- A register that is no domain's status word. -/
def offDomStat (a : Nat) : Bool := a < 0x0200 || 0x0340 ≤ a || a % 32 ≠ 1

theorem offDomStat_of {a : Nat} (h : 0x0340 ≤ a ∨ a % 32 ≠ 1) : offDomStat a = true := by
  unfold offDomStat
  simp only [Bool.or_eq_true, decide_eq_true_eq]
  tauto

/-- The domains' status words are those of s, but for MASKED. -/
def State.StatusOf (t s : State) : Prop := ∀ f : Fld, f.OfDomStat → t.g f = s.g f

section
variable {s t s₀ : State}

theorem State.StatusOf.refl (s : State) : s.StatusOf s := fun _ _ => rfl

theorem State.StatusOf.of_regs (h : s.StatusOf s₀) (e : t.regs = s.regs) : t.StatusOf s₀ := fun f hf => (congrArg f.get (congrArg (RegFile.get · f.addr) e)).trans (h f hf)

theorem State.StatusOf.beside (h : s.StatusOf s₀) {pending : List Instr} {pins : PinSample} {power : Power} {sup : Supply} {ctl : Control} {hif : Hif} {eng : List Engine} {tim : List EngTimer} {dom : List Domain}
    {mon : Mon} {flt : Flt} {mrq : Mrq} {nvm : Nvm} {line : Line} {lock : Lock} {drv : Drive} {stk : Stroke} {chg : Charger} {gau : Gauge} {rtc : Nat} {rtcx : RtcX} {adc : Adc} {thm : Thm} {way : Way} {ticks freeCtr : Nat} :
    ({ pending := pending, pins := pins, regs := s.regs, power := power, sup := sup, ctl := ctl, hif := hif, eng := eng, tim := tim, dom := dom, mon := mon, flt := flt, mrq := mrq, nvm := nvm, line := line, lock := lock,
       drv := drv, stk := stk, chg := chg, gau := gau, rtc := rtc, rtcx := rtcx, adc := adc, thm := thm, way := way, ticks := ticks, freeCtr := freeCtr } : State).StatusOf s₀ := h.of_regs rfl

theorem State.StatusOf.drawn (h : s.StatusOf s₀) : ({ s with freeCtr := s.freeCtr + 1 } : State).StatusOf s₀ := h.of_regs rfl

theorem State.StatusOf.wr (h : s.StatusOf s₀) {a : Nat} {w : Word} (ha : offDomStat a = true := by decide) : (s.wr a w).StatusOf s₀ := fun f hf => by
  have hne : f.addr ≠ a := by
    obtain ⟨h1, h2, h3, -⟩ := hf
    rintro rfl
    unfold offDomStat at ha
    simp only [Bool.or_eq_true, decide_eq_true_eq] at ha
    omega
  exact (congrArg f.get (s.rd_wr_ne w hne)).trans (h f hf)

theorem State.StatusOf.wn (h : s.StatusOf s₀) {a v : Nat} (ha : offDomStat a = true := by decide) : (s.wn a v).StatusOf s₀ := h.wr ha

theorem State.StatusOf.p (h : s.StatusOf s₀) {f : Fld} {v : Nat} (ha : offDomStat f.addr = true := by decide) : (s.p f v).StatusOf s₀ := h.wr ha

theorem State.StatusOf.pb (h : s.StatusOf s₀) {f : Fld} {v : Bool} (ha : offDomStat f.addr = true := by decide) : (s.pb f v).StatusOf s₀ := h.wr ha

theorem State.StatusOf.pbit (h : s.StatusOf s₀) {a k : Nat} {v : Bool} (ha : offDomStat a = true := by decide) : (s.pbit a k v).StatusOf s₀ := h.wr ha

theorem State.StatusOf.inc (h : s.StatusOf s₀) {a : Nat} (ha : offDomStat a = true := by decide) : (s.inc a).StatusOf s₀ := by
  unfold State.inc
  split
  · exact h.wn ha
  · exact h

theorem State.StatusOf.masked (h : s.StatusOf s₀) {n v : Nat} : (s.p (F.DOM_STAT_MASKED n) v).StatusOf s₀ := fun f hf =>
  (s.g_p_beside v (by show 11 + 1 ≤ 16; decide) hf.2.2.2).trans (h f hf)

theorem State.StatusOf.ite {c : Prop} [Decidable c] (hs : s.StatusOf s₀) (ht : t.StatusOf s₀) : (if c then s else t).StatusOf s₀ := by
  split
  · exact hs
  · exact ht

theorem State.StatusOf.when (h : s.StatusOf s₀) {c : Bool} {f : State → State} (hf : ∀ t : State, t.StatusOf s₀ → (f t).StatusOf s₀) : (s.when c f).StatusOf s₀ := by
  cases c
  · exact h
  · exact hf s h

theorem State.StatusOf.ite_snd {α : Type} {c : Prop} [Decidable c] {x y : α × State} (hx : x.2.StatusOf s₀) (hy : y.2.StatusOf s₀) : (if c then x else y).2.StatusOf s₀ := by
  split
  · exact hx
  · exact hy

theorem State.StatusOf.foldl {α : Type} (h : s.StatusOf s₀) {l : List α} {f : State → α → State} (hf : ∀ (t : State) (a : α), t.StatusOf s₀ → (f t a).StatusOf s₀) : (l.foldl f s).StatusOf s₀ := by
  induction l generalizing s with
  | nil => exact h
  | cons a r ih => exact ih (hf s a h)

theorem State.StatusOf.setDom (h : s.StatusOf s₀) {n : Nat} {f : Domain → Domain} : (s.setDom n f).StatusOf s₀ := h.of_regs rfl

theorem State.StatusOf.setEng (h : s.StatusOf s₀) {n : Nat} {f : Engine → Engine} : (s.setEng n f).StatusOf s₀ := h.of_regs rfl

theorem State.StatusOf.setDrv (h : s.StatusOf s₀) {f : Drive → Drive} : (s.setDrv f).StatusOf s₀ := h.of_regs rfl

theorem State.StatusOf.setStk (h : s.StatusOf s₀) {f : Stroke → Stroke} : (s.setStk f).StatusOf s₀ := h.of_regs rfl

theorem State.StatusOf.setLine (h : s.StatusOf s₀) {f : Line → Line} : (s.setLine f).StatusOf s₀ := h.of_regs rfl

theorem State.StatusOf.raiseBy (h : s.StatusOf s₀) {o : Origin} {n : Nat} : (State.raiseBy s o n).StatusOf s₀ := by
  unfold State.raiseBy
  exact h.beside

theorem State.StatusOf.raise (h : s.StatusOf s₀) {n : Nat} : (State.raise s n).StatusOf s₀ := by
  unfold State.raise
  exact h.raiseBy

theorem State.StatusOf.commitPacket (h : s.StatusOf s₀) {cls : Nat} {type : Nat} {producer : Nat} {payload : List (BitVec 32)} : (State.commitPacket s cls type producer payload).StatusOf s₀ := by
  unfold State.commitPacket
  exact h.of_regs rfl

theorem State.StatusOf.queueReset (h : s.StatusOf s₀) : (State.queueReset s).StatusOf s₀ := by
  unfold State.queueReset
  dsimp only
  refine .raise (.commitPacket ?_)
  exact State.StatusOf.of_regs (s := State.p _ F.MRQ_STAT_RST 1) (h.when (fun _ ht => ht.p)).inc.p rfl

theorem State.StatusOf.checkPtrs (h : s.StatusOf s₀) {cls : Nat} : (State.checkPtrs s cls).StatusOf s₀ := by
  unfold State.checkPtrs
  exact .ite h h.queueReset

theorem State.StatusOf.rewindStroke (h : s.StatusOf s₀) : (State.rewindStroke s).StatusOf s₀ := by
  unfold State.rewindStroke
  split
  · exact h
  · dsimp only
    split
    · exact h.checkPtrs
    · exact h.checkPtrs.beside

theorem State.StatusOf.burstStop (h : s.StatusOf s₀) : (State.burstStop s).StatusOf s₀ := by
  unfold State.burstStop
  exact h.of_regs rfl

theorem State.StatusOf.retarget (h : s.StatusOf s₀) {fast : Bool} : (State.retarget s fast).StatusOf s₀ := by
  unfold State.retarget
  exact .ite h (.ite h.p.p (.ite h.p.p.masked.setDom.setDrv h.p.p.setDrv))

theorem State.StatusOf.weirOff (h : s.StatusOf s₀) : (State.weirOff s).StatusOf s₀ := by
  unfold State.weirOff
  exact h.p.p

theorem State.StatusOf.handBack (h : s.StatusOf s₀) : (State.handBack s).StatusOf s₀ := by
  unfold State.handBack
  exact .ite h.setLine.weirOff.p h.setLine

theorem State.StatusOf.trig (h : s.StatusOf s₀) {k : Nat} {t : Nat} : (State.trig s k t).StatusOf s₀ := by
  unfold State.trig
  exact h.setEng

theorem State.StatusOf.goWatch (h : s.StatusOf s₀) : (State.goWatch s).StatusOf s₀ := by
  unfold State.goWatch
  exact .trig h.beside

theorem State.StatusOf.strokeIdle (h : s.StatusOf s₀) : (State.strokeIdle s).StatusOf s₀ := by
  unfold State.strokeIdle
  refine .ite ?_ ?_
  · refine .ite ?_ ?_
    · exact ((h.p.p.p.setStk.when (fun _ ht => ht.handBack)).setStk).goWatch
    · exact (h.p.p.p.setStk.when (fun _ ht => ht.handBack)).setStk
  · exact h.p.p.p.setStk.when (fun _ ht => ht.handBack)

theorem State.StatusOf.releaseToll (h : s.StatusOf s₀) : (State.releaseToll s).StatusOf s₀ := by
  unfold State.releaseToll
  exact .ite h.setStk h

theorem State.StatusOf.handOff (h : s.StatusOf s₀) : (State.handOff s).StatusOf s₀ := by
  unfold State.handOff
  exact .ite h (.ite h.weirOff.setDrv h)

theorem State.StatusOf.endEmergency (h : s.StatusOf s₀) : (State.endEmergency s).StatusOf s₀ := by
  unfold State.endEmergency
  exact h.p.when (fun _ ht => ht.handOff)

theorem State.StatusOf.cancelStroke (h : s.StatusOf s₀) {aband : Bool} {fast : Bool} : (State.cancelStroke s aband fast).StatusOf s₀ := by
  unfold State.cancelStroke
  exact h.p.pb.burstStop.rewindStroke.setStk.retarget.endEmergency.releaseToll.trig.strokeIdle

theorem State.StatusOf.recPut (h : s.StatusOf s₀) {delta : Nat} {tag : Nat} {value : Nat} : (State.recPut s delta tag value).StatusOf s₀ := by
  have hrec : ∀ x, offDomStat (A.STK_REC x) = true := fun x => offDomStat_of (.inl (show 0x0340 ≤ 0x4000 + x by omega))
  have hcount : ∀ x, offDomStat (F.STK_RECCNT_COUNT x).addr = true := fun x => offDomStat_of (.inl (show 0x0340 ≤ 0x0592 + x by omega))
  have hput : ∀ x y z w v, (((s.wn (A.STK_REC x) y).wn (A.STK_REC x + 1) z).p (F.STK_RECCNT_COUNT w) v).StatusOf s₀ := fun x y z w v => ((h.wn (hrec x)).wn (hrec (x + 1))).p (hcount w)
  unfold State.recPut
  exact .ite (.ite (hput _ _ _ _ _).p.p (hput _ _ _ _ _)) h

theorem State.StatusOf.recAdd (h : s.StatusOf s₀) {tag : Nat} {value : Nat} {late : Nat} : (State.recAdd s tag value late).StatusOf s₀ := by
  unfold State.recAdd
  exact ((h.foldl (fun _ _ ht => ht.recPut)).recPut).setStk

theorem State.StatusOf.marker (h : s.StatusOf s₀) {code : Nat} : (State.marker s code).StatusOf s₀ := by
  unfold State.marker
  exact h.recAdd

theorem State.StatusOf.free (h : s.StatusOf s₀) {n : Nat} : (State.free s n).2.StatusOf s₀ := by
  unfold State.free
  exact h.beside

theorem State.StatusOf.burst (h : s.StatusOf s₀) {bit : Nat} : (State.burst s bit).StatusOf s₀ := by
  unfold State.burst
  exact .ite (((State.StatusOf.ite_snd h h.drawn).marker).setStk) h

theorem State.StatusOf.endBattPhase (h : s.StatusOf s₀) {cause : Option Nat} : (State.endBattPhase s cause).StatusOf s₀ := by
  unfold State.endBattPhase
  refine .ite ?_ ?_
  · exact ((State.StatusOf.marker (by
      split
      · exact h.p.setStk.inc.p.p.setStk.retarget.when (fun _ ht => ht.raise)
      · exact h.p.setStk.p.setStk.retarget.marker)).burst).handOff
  · exact h

theorem State.StatusOf.abandonStroke (h : s.StatusOf s₀) : (State.abandonStroke s).StatusOf s₀ := by
  unfold State.abandonStroke
  exact .ite h.endBattPhase.cancelStroke h

theorem State.StatusOf.monRestart (h : s.StatusOf s₀) {k : Nat} : (State.monRestart s k).StatusOf s₀ := by
  unfold State.monRestart
  exact State.StatusOf.pbit (.pbit (h.of_regs rfl))

theorem State.StatusOf.drvStop (h : s.StatusOf s₀) {disch : Bool} : (State.drvStop s disch).StatusOf s₀ := by
  unfold State.drvStop
  exact h.setDom.masked.p.p.p.wn.p.setDrv

theorem State.StatusOf.blankEdge (h : s.StatusOf s₀) {hit : Nat → Nat → Bool} : (State.blankEdge s hit).StatusOf s₀ := by
  unfold State.blankEdge
  exact .ite h h.beside

theorem State.StatusOf.lockEdge (h : s.StatusOf s₀) : (State.lockEdge s).StatusOf s₀ := by
  unfold State.lockEdge
  exact h.blankEdge

theorem State.StatusOf.lockHalt (h : s.StatusOf s₀) {phase : Nat} : (State.lockHalt s phase).StatusOf s₀ := by
  unfold State.lockHalt
  exact h.p.when (fun _ ht => ht.lockEdge)

theorem State.StatusOf.lockDemag (h : s.StatusOf s₀) {clamp : Bool} : (State.lockDemag s clamp).StatusOf s₀ := by
  unfold State.lockDemag
  exact .lockHalt h.beside

theorem State.StatusOf.regStop (h : s.StatusOf s₀) {n : Nat} {disch : Bool} : (State.regStop s n disch).StatusOf s₀ := by
  unfold State.regStop
  refine .ite (.ite h.setDom.masked.lockDemag h.setDom.masked) ((h.setDom.masked.pb (offDomStat_of (.inr ?_))).when (fun _ ht => ht.p))
  show (domBase n + 0x0014) % 32 ≠ 1
  unfold domBase
  omega

end

end Sys2Proof.Machine
end

section
/-! PROOFS. Domains switched off (R188, R193). -/
namespace Sys2Proof.Machine

section
variable {s s₀ : State}

theorem State.StatusOf.drvDecide (h : s.StatusOf s₀) : (State.drvDecide s).StatusOf s₀ := by
  unfold State.drvDecide
  exact .ite h.p.setDom.setDrv.setDrv (.ite h.p.setDom h.p.setDom)

theorem State.StatusOf.resetTrims (h : s.StatusOf s₀) : (State.resetTrims s).StatusOf s₀ := by
  unfold State.resetTrims
  exact h.setDrv.foldl (fun _ _ ht => ht.wn (offDomStat_of (.inl (show 0x0340 ≤ 0x042A + _ by omega))))

theorem State.StatusOf.trimFollow (h : s.StatusOf s₀) : (State.trimFollow s).StatusOf s₀ := by
  unfold State.trimFollow
  exact h.when (fun _ ht => ht.resetTrims)

theorem State.StatusOf.drvStart (h : s.StatusOf s₀) : (State.drvStart s).StatusOf s₀ := by
  unfold State.drvStart
  exact h.setDom.p.p.setDrv.setDrv.trimFollow.drvDecide

theorem State.StatusOf.turnOn (h : s.StatusOf s₀) {n : Nat} : (State.turnOn s n).StatusOf s₀ := by
  unfold State.turnOn
  exact h.blankEdge

theorem State.StatusOf.lockStart (h : s.StatusOf s₀) : (State.lockStart s).StatusOf s₀ := by
  unfold State.lockStart
  exact .turnOn (.p h.beside)

theorem offDomStat_dom {n k : Nat} (h : k % 32 ≠ 1) : offDomStat (domBase n + k) = true := by
  refine offDomStat_of (.inr ?_)
  unfold domBase
  omega

theorem State.StatusOf.regStart (h : s.StatusOf s₀) {n : Nat} : (State.regStart s n).StatusOf s₀ := by
  unfold State.regStart
  dsimp only
  have hset := h.setDom (n := n) (f := fun d => { d with ssEnded := false, wasGood := false, uvRep := false, ovRep := false, slew := .none, ss := false })
  have hdisch : offDomStat (F.DOM_RSTAT_DISCH n).addr = true := offDomStat_dom (k := 0x0014) (by decide)
  have hvact : offDomStat (A.DOM_VACT n) = true := offDomStat_dom (k := 0x0015) (by decide)
  refine .ite ?_ (.ite ((hset.p hdisch).wn hvact) ((hset.p hdisch).wn hvact).setDom)
  have hlock : ∀ l : Lock, State.StatusOf { State.p _ F.DOM9_LSTAT_SCLATCH 0 with lock := l } s₀ := fun l => .beside hset.p
  exact .ite (hlock _) (hlock _).lockStart.setDom

theorem State.StatusOf.w32 (h : s.StatusOf s₀) {a v : Nat} (ha : offDomStat a = true) (ha' : offDomStat (a + 1) = true) : (s.w32 a v).StatusOf s₀ := by
  unfold State.w32
  exact (h.wn ha).wn ha'

theorem State.StatusOf.inc32 (h : s.StatusOf s₀) {a : Nat} (ha : offDomStat a = true) (ha' : offDomStat (a + 1) = true) : (State.inc32 s a).StatusOf s₀ := by
  unfold State.inc32
  split
  · exact h.w32 ha ha'
  · exact h


end

/-! ### Domains switched off -/

section
variable {n m : Nat}

theorem mem_domains : n ∈ domains ↔ 1 ≤ n ∧ n ≤ 10 := by
  unfold domains
  simp only [List.mem_cons, List.not_mem_nil, or_false]
  omega

theorem Fld.ofDomStat_of (hn : n ∈ domains) {lsb width : Nat} (h : lsb + width ≤ 11 ∨ 12 ≤ lsb) : Fld.OfDomStat ⟨domBase n + 0x0001, lsb, width⟩ := by
  obtain ⟨h1, h10⟩ := mem_domains.mp hn
  unfold Fld.OfDomStat domBase
  exact ⟨by dsimp only; omega, by dsimp only; omega, by dsimp only; omega, h⟩

theorem domStat_ne (hn : n ∈ domains) (hm : m ∈ domains) (h : n ≠ m) : domBase n + 0x0001 ≠ domBase m + 0x0001 := by
  obtain ⟨h1, -⟩ := mem_domains.mp hn
  obtain ⟨h2, -⟩ := mem_domains.mp hm
  unfold domBase
  omega

variable {s t : State}

theorem State.StatusOf.cmdOn (h : t.StatusOf s) (hn : n ∈ domains) : t.cmdOn n = s.cmdOn n := congrArg (· != 0) (h _ (Fld.ofDomStat_of hn (.inr (by decide))))

theorem State.StatusOf.pg (h : t.StatusOf s) (hn : n ∈ domains) : t.pg n = s.pg n := congrArg (· != 0) (h _ (Fld.ofDomStat_of hn (.inr (by decide))))

theorem State.StatusOf.shed (h : t.StatusOf s) (hn : n ∈ domains) : t.b (F.DOM_STAT_SHED n) = s.b (F.DOM_STAT_SHED n) := congrArg (· != 0) (h _ (Fld.ofDomStat_of hn (.inl (by decide))))

theorem State.StatusOf.rank (h : t.StatusOf s) (hn : n ∈ domains) : t.rank n = s.rank n := h _ (Fld.ofDomStat_of hn (.inl (by decide)))

theorem State.StatusOf.byRank (h : t.StatusOf s) : t.byRank = s.byRank := by
  unfold State.byRank
  congr 1
  funext l i
  congr 1
  exact List.filter_congr fun n hn => by rw [h.rank hn]

/-! A field of the status words with lsb from 4 on keeps its value while ranks move. -/

theorem State.each_g {α : Type} {f : State → α → State} {g : Fld} (h : ∀ s a, (f s a).g g = s.g g) (l : List α) (s : State) : (s.each l f).g g = s.g g := State.each_keeps (State.g · g) h l s

theorem State.dropRank_g (s : State) (n : Nat) {g : Fld} (hg : 4 ≤ g.lsb) : (s.dropRank n).g g = s.g g := by
  have hp : ∀ (t : State) k v, (t.p (F.DOM_STAT_RANK k) v).g g = t.g g := fun t k v => t.g_p_beside v (show 0 + 4 ≤ 16 by decide) (.inr hg)
  unfold State.dropRank
  dsimp only
  split
  · exact hp _ _ _
  · refine (State.each_g (fun t k => ?_) _ _).trans (hp _ _ _)
    split
    · exact hp _ _ _
    · rfl

/-- A domain without rank stays so while the ranks above close up. -/
theorem State.dropRank_rank (s : State) (hn : n ∈ domains) : (s.dropRank n).rank n = 0 := by
  have h0 : (s.p (F.DOM_STAT_RANK n) 0).rank n = 0 := s.g_p_same (F.DOM_STAT_RANK n) 0 (show 0 + 4 ≤ 16 by decide)
  unfold State.dropRank
  dsimp only
  split
  · exact h0
  · unfold State.each
    suffices ∀ (l : List Nat) (t : State), (∀ k ∈ l, k ∈ domains) → t.rank n = 0 → (l.foldl (fun t k => if s.rank n < t.rank k then t.p (F.DOM_STAT_RANK k) (t.rank k - 1) else t) t).rank n = 0 from
      this _ _ (fun _ h => h) h0
    intro l
    induction l with
    | nil => exact fun t _ ht => ht
    | cons k l ih =>
      intro t hl ht
      refine ih _ (fun j hj => hl j (List.mem_cons_of_mem _ hj)) ?_
      dsimp only
      split
      next hlt =>
        have hne : n ≠ k := by
          rintro rfl
          omega
        exact (t.g_p_ne _ (domStat_ne hn (hl k List.mem_cons_self) hne)).trans ht
      next => exact ht

/-- The domain's status as `domOff` has cleared it. -/
def State.offStatus (s : State) (n : Nat) : State := ((s.pgFall n).p (F.DOM_STAT_CMDON n) 0).dropRank n

/-- What follows the cleared status: the domain's stage stops. -/
def State.offStage (s : State) (n : Nat) (disch : Bool) : State := if n = 1 then s.abandonStroke.drvStop disch else s.regStop n disch

theorem State.domOff_on {disch : Bool} (h : s.cmdOn n = true) :
    s.domOff n disch = ((s.offStatus n).offStage n disch).when (s.monPowered (n - 1) && !((s.offStatus n).offStage n disch).monPowered (n - 1)) (·.monRestart (n - 1)) := if_pos h

theorem State.domOff_off {disch : Bool} (h : s.cmdOn n = false) : s.domOff n disch = s := if_neg (by rw [h]; exact Bool.false_ne_true)

theorem State.StatusOf.offStage (h : t.StatusOf s) {disch : Bool} : (t.offStage n disch).StatusOf s := by
  unfold State.offStage
  exact .ite h.abandonStroke.drvStop h.regStop

/-- But for MASKED, a domain that is switched off has the status that `offStatus` gives it. -/
theorem State.domOff_status {disch : Bool} (h : s.cmdOn n = true) : (s.domOff n disch).StatusOf (s.offStatus n) := by
  rw [State.domOff_on h]
  exact (State.StatusOf.refl _).offStage.when fun _ ht => ht.monRestart

theorem State.pgFall_g (s : State) (n : Nat) (g : Fld) : (s.pgFall n).g g = (s.p (F.DOM_STAT_PG n) 0).g g := rfl

/-- A status field that is neither PG nor CMDON nor RANK stands. -/
theorem State.offStatus_shed (s : State) (n m : Nat) : (s.offStatus n).b (F.DOM_STAT_SHED m) = s.b (F.DOM_STAT_SHED m) := by
  unfold State.b State.offStatus
  rw [State.dropRank_g _ _ (show 4 ≤ 10 by decide), State.g_p_beside _ _ (show 15 + 1 ≤ 16 by decide) (.inl (show 10 + 1 ≤ 15 by decide)), State.pgFall_g,
    State.g_p_beside _ _ (show 14 + 1 ≤ 16 by decide) (.inl (show 10 + 1 ≤ 14 by decide))]

theorem State.offStatus_cmdOn_same (s : State) (n : Nat) : (s.offStatus n).cmdOn n = false := by
  unfold State.cmdOn State.b State.offStatus
  rw [State.dropRank_g _ _ (show 4 ≤ 15 by decide), State.g_p_same _ (F.DOM_STAT_CMDON n) 0 (show 15 + 1 ≤ 16 by decide)]
  rfl

theorem State.offStatus_cmdOn_ne (s : State) (hn : n ∈ domains) (hm : m ∈ domains) (h : m ≠ n) : (s.offStatus n).cmdOn m = s.cmdOn m := by
  unfold State.cmdOn State.b State.offStatus
  rw [State.dropRank_g _ _ (show 4 ≤ 15 by decide), State.g_p_ne _ 0 (domStat_ne hm hn h), State.pgFall_g, State.g_p_ne _ 0 (domStat_ne hm hn h)]

theorem State.offStatus_pg (s : State) (n : Nat) : (s.offStatus n).pg n = false := by
  unfold State.pg State.b State.offStatus
  rw [State.dropRank_g _ _ (show 4 ≤ 14 by decide), State.g_p_beside _ _ (show 15 + 1 ≤ 16 by decide) (.inl (show 14 + 1 ≤ 15 by decide)), State.pgFall_g,
    State.g_p_same _ (F.DOM_STAT_PG n) 0 (show 14 + 1 ≤ 16 by decide)]
  rfl

/-- A switch-off clears one domain's CMDON and keeps every other's. -/
theorem State.domOff_cmdOn (s : State) {disch : Bool} (hn : n ∈ domains) (hm : m ∈ domains) : (s.domOff n disch).cmdOn m = (s.cmdOn m && decide (m ≠ n)) := by
  cases hc : s.cmdOn n with
  | false =>
    rw [State.domOff_off hc]
    by_cases h : m = n
    · rw [h, hc, Bool.false_and]
    · rw [decide_eq_true h, Bool.and_true]
  | true =>
    rw [(State.domOff_status hc).cmdOn hm]
    by_cases h : m = n
    · rw [h, s.offStatus_cmdOn_same n, decide_eq_false (fun h => h rfl), Bool.and_false]
    · rw [s.offStatus_cmdOn_ne hn hm h, decide_eq_true h, Bool.and_true]

theorem State.domOff_shed (s : State) {disch : Bool} (hm : m ∈ domains) : (s.domOff n disch).b (F.DOM_STAT_SHED m) = s.b (F.DOM_STAT_SHED m) := by
  cases hc : s.cmdOn n with
  | false => rw [State.domOff_off hc]
  | true => rw [(State.domOff_status hc).shed hm, s.offStatus_shed n m]

/-- Several domains switched off. -/
theorem State.domsOff_cmdOn {disch : Bool} {l : List Nat} (hl : ∀ n ∈ l, n ∈ domains) (s : State) (hm : m ∈ domains) :
    (s.each l (fun s n => s.domOff n disch)).cmdOn m = (s.cmdOn m && decide (m ∉ l)) := by
  induction l generalizing s with
  | nil => simp
  | cons n l ih =>
    rw [State.each_cons, ih (fun k hk => hl k (List.mem_cons_of_mem _ hk)), s.domOff_cmdOn (hl n List.mem_cons_self) hm]
    by_cases h : m = n <;> simp [h]

end

end Sys2Proof.Machine
end

section
/-! PROOFS. Steps (R194), and ENABLE and DISABLE (R155, R206, R208, R553). -/
namespace Sys2Proof.Machine

/-! ### The next slot of a shutdown (R194) -/

theorem State.haltSlot_eq {s : State} (h : s.ctl.seqOff ≠ []) :
    s.haltSlot = (let t := s.each (domains.filter (fun n => s.cmdOn n && s.rank n = s.topRank)) (fun s n => s.domOff n true)
      (t.setCtl (fun c => { c with seqOff := t.byRank })).pb F.DOM_SEQSTAT_HALTSD (!t.byRank.isEmpty)) := by
  unfold State.haltSlot
  split
  next h0 => exact absurd h0 h
  next => rfl

/-- Settles O1: the front of the queue, the idle step, and the slot of a shutdown. -/
theorem stepTakesFront : Obligations.StepTakesFront := by
  refine ⟨fun s c r h => ?_, fun s h h0 => ?_, fun s h h0 => ⟨s.haltSlot, ?_, fun n hn => ?_, ?_, ?_⟩⟩
  · unfold step
    rw [h]
  · unfold step
    rw [h]
    dsimp only
    unfold State.idle
    rw [h0]
    rfl
  · unfold step
    rw [h]
    dsimp only
    unfold State.idle
    rw [if_neg (by rwa [List.isEmpty_iff])]
  all_goals
    rw [State.haltSlot_eq h0]
    dsimp only
    generalize ht : s.each (domains.filter (fun n => s.cmdOn n && s.rank n = s.topRank)) (fun s n => s.domOff n true) = t
    have hs : ((t.setCtl (fun c => { c with seqOff := t.byRank })).pb F.DOM_SEQSTAT_HALTSD (!t.byRank.isEmpty)).StatusOf t := (State.StatusOf.of_regs (State.StatusOf.refl t) rfl).pb
  · rw [hs.cmdOn hn, ← ht, State.domsOff_cmdOn (fun m hm => (List.mem_filter.mp hm).1) s hn]
    cases hc : s.cmdOn n <;> simp [hn, hc]
  · rw [hs.byRank]
    rfl
  · rw [hs.byRank]
    exact State.b_pb_same _ F.DOM_SEQSTAT_HALTSD _ (by decide) rfl

/-! ### Restarts of monitors (R553) -/

section
variable {j k : Nat}

theorem State.under_monRestart (s : State) (hk : k < 16) : (s.monRestart k).under j = (s.under j || decide (j = k)) := by
  unfold State.monRestart State.under
  dsimp only
  rw [State.bit_pbit_ne _ _ hk (.inl (by decide))]
  by_cases h : j = k
  · rw [h, State.bit_pbit_same _ _ _ hk, decide_eq_true rfl, Bool.or_true]
  · rw [State.bit_pbit_ne _ _ hk (.inr h), decide_eq_false h, Bool.or_false]
    rfl

theorem State.over_monRestart (s : State) (hk : k < 16) : (s.monRestart k).over j = (s.over j && decide (j ≠ k)) := by
  unfold State.monRestart State.over
  dsimp only
  by_cases h : j = k
  · rw [h, State.bit_pbit_same _ _ _ hk, decide_eq_false (fun h => h rfl), Bool.and_false]
  · rw [State.bit_pbit_ne _ _ hk (.inr h), State.bit_pbit_ne _ _ hk (.inl (by decide)), decide_eq_true h, Bool.and_true]
    rfl

theorem testBit_clearMask : ∀ k, k < 16 → ∀ j, j < 16 → (65535 - 2 ^ k % 65536).testBit j = decide (j ≠ k) := by
  decide +kernel

theorem State.blanked_monRestart (s : State) (hk : k < 16) (hj : j < 16) : (s.monRestart k).blanked j = (s.blanked j && decide (j ≠ k)) := by
  show (s.mon.blank.land (65535 - 2 ^ k % 65536)).testBit j = _
  rw [← testBit_clearMask k hk j hj]
  exact Nat.testBit_and _ _ _

theorem State.rd_monRestart (s : State) (k : Nat) {a : Nat} (hu : a ≠ A.CMP_UNDER) (ho : a ≠ A.CMP_OVER) : (s.monRestart k).rd a = s.rd a := by
  unfold State.monRestart
  dsimp only
  rw [State.rd_pbit_ne _ _ _ ho, State.rd_pbit_ne _ _ _ hu]
  rfl

end

/-- From s to t the monitors at which `again` holds have started afresh, and nothing else has changed. -/
structure State.Restarted (s t : State) (again : Nat → Prop) : Prop where
  eq : t = { s with regs := t.regs, mon := t.mon }
  rd : ∀ a, a ≠ A.CMP_UNDER → a ≠ A.CMP_OVER → t.rd a = s.rd a
  fresh : ∀ k, k < 16 → again k → t.under k = true ∧ t.over k = false ∧ t.blanked k = false
  kept : ∀ k, k < 16 → ¬ again k → t.under k = s.under k ∧ t.over k = s.over k ∧ t.blanked k = s.blanked k

theorem State.restarted_each (s : State) (skip : Nat → Prop) [DecidablePred skip] (l : List Nat) (hl : ∀ j ∈ l, j < 16) :
    s.Restarted (s.each l (fun t k => if skip k then t else t.monRestart k)) (fun k => k ∈ l ∧ ¬ skip k) := by
  induction l using List.reverseRecOn with
  | nil => exact ⟨rfl, fun _ _ _ => rfl, fun _ _ h => absurd h.1 List.not_mem_nil, fun _ _ _ => ⟨rfl, rfl, rfl⟩⟩
  | append_singleton l j ih =>
    obtain ⟨heq, hrd, hfresh, hkept⟩ := ih fun i hi => hl i (List.mem_append_left _ hi)
    have hj : j < 16 := hl j (by simp)
    rw [State.each_append, State.each_cons, State.each_nil]
    generalize s.each l (fun t k => if skip k then t else t.monRestart k) = t at heq hrd hfresh hkept
    split
    next hs =>
      have hiff : ∀ k, (k ∈ l ++ [j] ∧ ¬ skip k) ↔ (k ∈ l ∧ ¬ skip k) := fun k => by
        rw [List.mem_append, List.mem_singleton]
        exact ⟨fun ⟨hm, hns⟩ => ⟨hm.resolve_right fun e => hns (e ▸ hs), hns⟩, fun ⟨hm, hns⟩ => ⟨.inl hm, hns⟩⟩
      exact ⟨heq, hrd, fun k hk h => hfresh k hk ((hiff k).mp h), fun k hk h => hkept k hk fun h' => h ((hiff k).mpr h')⟩
    next hs =>
      refine ⟨?_, fun a hu ho => (t.rd_monRestart j hu ho).trans (hrd a hu ho), fun k hk h => ?_, fun k hk h => ?_⟩
      · exact congrArg (fun x : State => { x with regs := (t.monRestart j).regs, mon := (t.monRestart j).mon }) heq
      · rw [t.under_monRestart hj, t.over_monRestart hj, t.blanked_monRestart hj hk]
        by_cases hkj : k = j
        · simp [hkj]
        · obtain ⟨hu, ho, hb⟩ := hfresh k hk ⟨by simpa [hkj] using h.1, h.2⟩
          simp [hu, ho, hb]
      · have hkj : k ≠ j := fun e => h ⟨by simp [e], e ▸ hs⟩
        obtain ⟨hu, ho, hb⟩ := hkept k hk fun h' => h ⟨List.mem_append_left _ h'.1, h'.2⟩
        rw [t.under_monRestart hj, t.over_monRestart hj, t.blanked_monRestart hj hk, hu, ho, hb]
        simp [hkj]

/-- The word of power requests that ENABLE or DISABLE writes. -/
def powerWord (old mask : Nat) (on : Bool) : Nat := if on then old.lor mask else old.land (65535 - mask % 65536)

theorem powerWord_lt {old mask : Nat} (on : Bool) (h : old < 65536) (hm : mask < 65536) : powerWord old mask on < 65536 := by
  unfold powerWord
  split
  · exact Nat.or_lt_two_pow (n := 16) h hm
  · exact Nat.lt_of_le_of_lt Nat.and_le_left h

theorem State.monPowered_of_mon {s t : State} (h : t = { s with regs := t.regs, mon := t.mon }) (hrd : ∀ a, a ≠ A.CMP_UNDER → a ≠ A.CMP_OVER → t.rd a = s.rd a) (k : Nat) : t.monPowered k = s.monPowered k := by
  have hrun : t.running = s.running := by
    rw [h]
    rfl
  have hlow : ∀ a, a < 0x0942 → t.rd a = s.rd a := fun a ha => hrd a (by rintro rfl; exact absurd ha (by decide)) (by rintro rfl; exact absurd ha (by decide))
  unfold State.monPowered State.cmdOn
  rw [hrun, State.bit_congr (hlow A.CMP_PWR (by decide))]
  by_cases hk : k < 10
  · have hlt := State.domBase_lt (show k + 1 ≤ 10 by omega)
    rw [State.b_congr (f := F.DOM_STAT_CMDON (k + 1)) (hlow _ hlt), State.b_congr (f := F.DOM_CFG_USED (k + 1)) (hlow _ (Nat.lt_of_succ_lt hlt))]
  · rw [decide_eq_false hk]
    rfl

theorem State.setMonPower_restarted (s : State) (mask : Nat) (on : Bool) :
    let t := s.wn A.CMP_PWR (powerWord (s.rn A.CMP_PWR) mask on)
    t.Restarted (s.setMonPower mask on) (fun k => k ∈ List.range 16 ∧ ¬ s.monPowered k = t.monPowered k) :=
  State.restarted_each _ _ _ fun _ => List.mem_range.mp

theorem State.setMonPower_frame (s : State) {mask : Nat} (on : Bool) (hm : mask < 65536) :
    (s.setMonPower mask on).rn A.CMP_PWR = powerWord (s.rn A.CMP_PWR) mask on ∧
    (∀ k, k < 16 → (s.setMonPower mask on).monPowered k = s.monPowered k → (s.setMonPower mask on).under k = s.under k ∧ (s.setMonPower mask on).over k = s.over k ∧ (s.setMonPower mask on).blanked k = s.blanked k) ∧
    (∀ k, k < 16 → (s.setMonPower mask on).monPowered k ≠ s.monPowered k → (s.setMonPower mask on).under k = true ∧ (s.setMonPower mask on).over k = false ∧ (s.setMonPower mask on).blanked k = false) ∧
    s.setMonPower mask on = { s with regs := (s.setMonPower mask on).regs, mon := (s.setMonPower mask on).mon } ∧ (∀ a, a ≠ A.CMP_PWR → a ≠ A.CMP_UNDER → a ≠ A.CMP_OVER → (s.setMonPower mask on).rd a = s.rd a) := by
  obtain ⟨heq, hrd, hfresh, hkept⟩ := s.setMonPower_restarted mask on
  have hpow := State.monPowered_of_mon heq hrd
  generalize s.setMonPower mask on = u at *
  have hword : (s.wn A.CMP_PWR (powerWord (s.rn A.CMP_PWR) mask on)).rn A.CMP_PWR = powerWord (s.rn A.CMP_PWR) mask on :=
    (s.rn_wn_same _ _).trans (Nat.mod_eq_of_lt (powerWord_lt on (s.rn_lt _) hm))
  have hcmp : ∀ a, a ≠ A.CMP_PWR → (s.wn A.CMP_PWR (powerWord (s.rn A.CMP_PWR) mask on)).rd a = s.rd a := fun a ha => s.rd_wn_ne _ ha
  refine ⟨(State.rn_congr (hrd _ (by decide) (by decide))).trans hword, fun k hk h => ?_, fun k hk h => ?_, heq, fun a hp hu ho => (hrd a hu ho).trans (hcmp a hp)⟩
  · obtain ⟨hu, ho, hb⟩ := hkept k hk fun hne => hne.2 (h.symm.trans (hpow k))
    exact ⟨hu.trans (State.bit_congr (hcmp _ (by decide)) k), ho.trans (State.bit_congr (hcmp _ (by decide)) k), hb⟩
  · exact hfresh k hk ⟨List.mem_range.mpr hk, fun e => h ((hpow k).trans e.symm)⟩

/-! ### Domains switched on (R155, R193) -/

section
variable {n m r : Nat} {s : State}

/-- The status of a domain that is switched on. -/
def State.onStatus (s : State) (r n : Nat) : State := ((s.p (F.DOM_STAT_CMDON n) 1).p (F.DOM_STAT_SHED n) 0).p (F.DOM_STAT_RANK n) r

theorem State.domStart_status (s : State) (r n : Nat) : (s.domStart r n).StatusOf (s.onStatus r n) := by
  have hcount : ((s.onStatus r n).inc32 (A.DOM_CNT n 4)).StatusOf (s.onStatus r n) :=
    (State.StatusOf.refl _).inc32 (offDomStat_dom (k := 0x0006) (by decide)) (offDomStat_dom (k := 0x0007) (by decide))
  unfold State.domStart
  exact .ite hcount.monRestart.drvStart hcount.monRestart.regStart

theorem State.domStart_cmdOn_same (s : State) (r : Nat) (hn : n ∈ domains) : (s.domStart r n).cmdOn n = true := by
  rw [(s.domStart_status r n).cmdOn hn]
  unfold State.cmdOn State.b State.onStatus
  rw [State.g_p_beside _ _ (show 0 + 4 ≤ 16 by decide) (.inr (show 0 + 4 ≤ 15 by decide)), State.g_p_beside _ _ (show 10 + 1 ≤ 16 by decide) (.inr (show 10 + 1 ≤ 15 by decide)),
    State.g_p_same _ (F.DOM_STAT_CMDON n) 1 (show 15 + 1 ≤ 16 by decide)]
  rfl

theorem State.domStart_rank_same (s : State) (hn : n ∈ domains) (hr : r < 16) : (s.domStart r n).rank n = r := by
  rw [(s.domStart_status r n).rank hn]
  exact (State.g_p_same _ (F.DOM_STAT_RANK n) r (show 0 + 4 ≤ 16 by decide)).trans (Nat.mod_eq_of_lt hr)

theorem State.onStatus_g_ne (s : State) (r : Nat) {g : Fld} (h : g.addr ≠ domBase n + 0x0001) : (s.onStatus r n).g g = s.g g := by
  unfold State.onStatus
  rw [State.g_p_ne _ _ h, State.g_p_ne _ _ h, State.g_p_ne _ _ h]

theorem State.domStart_cmdOn_ne (s : State) (r : Nat) (hn : n ∈ domains) (hm : m ∈ domains) (h : m ≠ n) : (s.domStart r n).cmdOn m = s.cmdOn m :=
  ((s.domStart_status r n).cmdOn hm).trans (congrArg (· != 0) (s.onStatus_g_ne r (domStat_ne hm hn h)))

theorem State.domStart_rank_ne (s : State) (r : Nat) (hn : n ∈ domains) (hm : m ∈ domains) (h : m ≠ n) : (s.domStart r n).rank m = s.rank m :=
  ((s.domStart_status r n).rank hm).trans (s.onStatus_g_ne r (domStat_ne hm hn h))

/-- Domains that are started have CMDON and the rank given; the others keep both. -/
theorem State.domStarts_status (hr : r < 16) (l : List Nat) (hl : ∀ k ∈ l, k ∈ domains) (s : State) (hn : n ∈ domains) :
    (n ∈ l → (s.each l (fun s k => s.domStart r k)).cmdOn n = true ∧ (s.each l (fun s k => s.domStart r k)).rank n = r) ∧
    (n ∉ l → (s.each l (fun s k => s.domStart r k)).cmdOn n = s.cmdOn n ∧ (s.each l (fun s k => s.domStart r k)).rank n = s.rank n) := by
  induction l using List.reverseRecOn with
  | nil => exact ⟨fun h => absurd h List.not_mem_nil, fun _ => ⟨rfl, rfl⟩⟩
  | append_singleton l k ih =>
    obtain ⟨hin, hout⟩ := ih fun i hi => hl i (List.mem_append_left _ hi)
    have hk : k ∈ domains := hl k (by simp)
    rw [State.each_append, State.each_cons, State.each_nil]
    by_cases h : n = k
    · subst h
      exact ⟨fun _ => ⟨State.domStart_cmdOn_same _ r hn, State.domStart_rank_same _ hn hr⟩, fun hnot => absurd (by simp) hnot⟩
    · rw [State.domStart_cmdOn_ne _ r hk hn h, State.domStart_rank_ne _ r hk hn h]
      simpa [h] using ⟨hin, hout⟩

end

/-! ### The shed set off (R206) -/

theorem State.shedOff_eq (s : State) :
    s.shedOff = s.each ((maskDomains (s.g F.SYS_SHEDMASK_SHED)).filter (fun n => s.cmdOn n)) (fun s n => (s.domOff n true).p (F.DOM_STAT_SHED n) 1) := rfl

section
variable {n m : Nat}

theorem State.shedOne_cmdOn (s : State) (hn : n ∈ domains) (hm : m ∈ domains) : ((s.domOff n true).p (F.DOM_STAT_SHED n) 1).cmdOn m = (s.cmdOn m && decide (m ≠ n)) := by
  rw [← s.domOff_cmdOn (disch := true) hn hm]
  exact congrArg (· != 0) (State.g_p_beside _ _ (show 10 + 1 ≤ 16 by decide) (.inr (show 10 + 1 ≤ 15 by decide)))

theorem State.shedOne_shed (s : State) (hn : n ∈ domains) (hm : m ∈ domains) : ((s.domOff n true).p (F.DOM_STAT_SHED n) 1).b (F.DOM_STAT_SHED m) = (s.b (F.DOM_STAT_SHED m) || decide (m = n)) := by
  by_cases h : m = n
  · subst h
    rw [decide_eq_true rfl, Bool.or_true]
    exact State.b_pb_same _ (F.DOM_STAT_SHED m) true (show 10 + 1 ≤ 16 by decide) rfl
  · rw [decide_eq_false h, Bool.or_false, ← s.domOff_shed (n := n) (disch := true) hm]
    exact State.b_congr (State.rd_p_ne _ _ (domStat_ne hm hn h))

theorem State.shed_each (s : State) (l : List Nat) (hl : ∀ k ∈ l, k ∈ domains) (hm : m ∈ domains) :
    (s.each l (fun s n => (s.domOff n true).p (F.DOM_STAT_SHED n) 1)).cmdOn m = (s.cmdOn m && decide (m ∉ l)) ∧
    (s.each l (fun s n => (s.domOff n true).p (F.DOM_STAT_SHED n) 1)).b (F.DOM_STAT_SHED m) = (s.b (F.DOM_STAT_SHED m) || decide (m ∈ l)) := by
  induction l generalizing s with
  | nil => simp
  | cons k l ih =>
    have hk := hl k List.mem_cons_self
    obtain ⟨hc, hs⟩ := ih ((s.domOff k true).p (F.DOM_STAT_SHED k) 1) fun i hi => hl i (List.mem_cons_of_mem _ hi)
    rw [State.each_cons, hc, hs, s.shedOne_cmdOn hk hm, s.shedOne_shed hk hm]
    by_cases h : m = k <;> simp [h]

theorem mem_maskDomains {mask : Nat} : n ∈ maskDomains mask ↔ n ∈ domains ∧ mask.testBit (n - 1) = true := List.mem_filter

end

/-! ### A domain switched off: MASKED (R190) -/

section
variable {n : Nat} {s : State}

theorem State.monRestart_masked (s : State) (k : Nat) (hn : n ∈ domains) : (s.monRestart k).maskedDom n = s.maskedDom n := by
  have h := Nat.ne_of_lt (State.domBase_lt (mem_domains.mp hn).2)
  have h' := Nat.ne_of_lt (Nat.lt_succ_of_lt (State.domBase_lt (mem_domains.mp hn).2))
  exact State.b_congr (s.rd_monRestart k h h')

theorem State.masked_cleared (s : State) (n : Nat) : (s.p (F.DOM_STAT_MASKED n) 0).maskedDom n = false :=
  congrArg (· != 0) (s.g_p_same (F.DOM_STAT_MASKED n) 0 (show 11 + 1 ≤ 16 by decide))

/-- A write elsewhere leaves MASKED. -/
theorem State.masked_p_ne (s : State) {f : Fld} (v : Nat) (h : domBase n + 0x0001 ≠ f.addr) : (s.p f v).maskedDom n = s.maskedDom n := State.b_congr (s.rd_p_ne v h)

theorem State.drvStop_masked (s : State) (disch : Bool) : (s.drvStop disch).maskedDom 1 = false := by
  have hrd : ∀ t : State, (((((t.p F.DRV_STAT_MODE 0).p F.DRV_STAT_LIMBY 0).p F.DRV_STAT_NEG 0).wn A.DRV_DUTY 0).p F.DRV_SYNCSTAT_LOCK 0).rd (domBase 1 + 0x0001) = t.rd (domBase 1 + 0x0001) := fun t => by
    rw [State.rd_p_ne _ _ (show _ ≠ F.DRV_SYNCSTAT_LOCK.addr by decide), State.rd_wn_ne _ _ (by decide), State.rd_p_ne _ _ (show _ ≠ F.DRV_STAT_NEG.addr by decide),
      State.rd_p_ne _ _ (show _ ≠ F.DRV_STAT_LIMBY.addr by decide), State.rd_p_ne _ _ (show _ ≠ F.DRV_STAT_MODE.addr by decide)]
  exact (State.b_congr (f := F.DOM_STAT_MASKED 1) (hrd _)).trans (State.masked_cleared _ 1)

theorem State.blankEdge_regs (s : State) (hit : Nat → Nat → Bool) : (s.blankEdge hit).regs = s.regs := by rw [s.blankEdge_eq hit]

theorem State.lockDemag_masked (s : State) (clamp : Bool) : (s.lockDemag clamp).maskedDom 9 = s.maskedDom 9 := by
  unfold State.lockDemag State.lockHalt
  dsimp only
  refine (State.when_keeps (State.maskedDom · 9) (fun t => ?_) _ _).trans (State.masked_p_ne (n := 9) _ 3 (by decide))
  unfold State.lockEdge State.maskedDom State.b State.g State.rd
  rw [State.blankEdge_regs]

theorem State.regStop_masked (s : State) (disch : Bool) : (s.regStop n disch).maskedDom n = false := by
  unfold State.regStop
  dsimp only
  split
  next h =>
    subst h
    split
    · rw [State.lockDemag_masked, State.masked_cleared]
    · exact State.masked_cleared _ _
  next =>
    have hne : ∀ k, k % 32 ≠ 1 → domBase n + 0x0001 ≠ domBase n + k := fun k hk => by omega
    refine (State.when_keeps (State.maskedDom · n) (fun t => State.masked_p_ne t 0 ?_) _ _).trans ((State.masked_p_ne _ _ (hne 0x0014 (by decide))).trans (State.masked_cleared _ _))
    show domBase n + 0x0001 ≠ domBase 10 + _
    unfold domBase
    omega

theorem State.domOff_masked (hn : n ∈ domains) (hc : s.cmdOn n = true) (disch : Bool) : (s.domOff n disch).maskedDom n = false := by
  rw [State.domOff_on hc]
  refine (State.when_keeps (State.maskedDom · n) (fun t => t.monRestart_masked (n - 1) hn) _ _).trans ?_
  unfold State.offStage
  split
  next h =>
    subst h
    exact State.drvStop_masked _ disch
  next => exact State.regStop_masked _ disch

end

/-! ### The rows of ENABLE and DISABLE (R155) -/

section
variable {s : State} {k kind mask : Nat} {nodis : Bool}

theorem enableRow_at (hm : s.mayStep k = true) (hst : s.stepAt k = .ok (.enable kind mask)) : s.enableRow k kind = (s.openStep k).doEnable k kind mask := by
  unfold State.enableRow
  rw [State.engRow_at hm hst]
  dsimp only
  rw [if_pos rfl]
  rfl

theorem disableRow_at (hm : s.mayStep k = true) (hst : s.stepAt k = .ok (.disable kind mask nodis)) : s.disableRow k kind = (s.openStep k).doDisable k kind mask nodis := by
  unfold State.disableRow
  rw [State.engRow_at hm hst]
  dsimp only
  rw [if_pos rfl]
  rfl

theorem doEnable_domains {ns : List Nat} (h : s.unusedIn ns = false) {e : String} : (if s.unusedIn ns then Except.error (Fault.undefinedStep e) else .ok ((s.domsOn ns).advance k 1)) = .ok ((s.domsOn ns).advance k 1) := by
  rw [h]
  rfl

end

/-- Settles O35: the rows by kind, and what each kind of target's operation changes. -/
theorem enableAndDisable : Obligations.EnableAndDisable := by
  refine ⟨fun s k mask nodis hm => ?_, fun s mask low => ⟨rfl, fun i hi => ?_⟩, fun s mask on hm => ?_, fun s n hn => ?_, fun s ns hns hr => ?_, fun s n disch hn hc => ?_⟩
  · refine ⟨fun hst hun => ?_, fun hst => congrArg ran (enableRow_at hm hst), fun hst => congrArg ran (enableRow_at hm hst), fun hst => congrArg ran (enableRow_at hm hst), fun hst hun => ?_,
      fun hst => congrArg ran (disableRow_at hm hst), fun hst => congrArg ran (disableRow_at hm hst), fun hst => congrArg ran (disableRow_at hm hst), fun hst => congrArg ran (disableRow_at hm hst),
      fun hst => congrArg ran (disableRow_at hm hst)⟩
    · exact congrArg ran ((enableRow_at hm hst).trans (doEnable_domains ((s.openStep_unusedIn k _).trans hun)))
    · rw [← s.openStep_shed k] at hun ⊢
      exact congrArg ran ((enableRow_at hm hst).trans (doEnable_domains ((s.openStep_unusedIn k _).trans hun)))
  · unfold State.rstLow
    have hget : (s.holdResets mask low).ctl.rstEng.getD i true = if mask.testBit i then low else s.ctl.rstEng.getD i true := by
      unfold State.holdResets
      dsimp only
      rw [List.getD_eq_getElem?_getD, List.getElem?_map, List.getElem?_range hi]
      rfl
    rw [hget]
    rfl
  · obtain ⟨hword, hframe⟩ := s.setMonPower_frame on hm
    refine ⟨hword.trans ?_, hframe⟩
    unfold powerWord
    rw [Nat.mod_eq_of_lt hm]
  · have hl : ∀ k ∈ (maskDomains (s.g F.SYS_SHEDMASK_SHED)).filter (fun n => s.cmdOn n), k ∈ domains := fun k hk => (mem_maskDomains.mp (List.mem_filter.mp hk).1).1
    obtain ⟨hcmd, hshed⟩ := s.shed_each _ hl hn
    rw [s.shedOff_eq, hcmd, hshed]
    cases hc : s.cmdOn n <;> cases hb : (s.g F.SYS_SHEDMASK_SHED).testBit (n - 1) <;> simp [mem_maskDomains, hn, hc, hb]
  · have hl : ∀ k ∈ ns.filter (fun n => !s.cmdOn n), k ∈ domains := fun k hk => hns k (List.mem_filter.mp hk).1
    have hstat := fun n (hn : n ∈ domains) => State.domStarts_status (r := s.topRank + 1) (by omega) _ hl s hn
    refine ⟨fun n hn hc => (hstat n (hns n hn)).1 (List.mem_filter.mpr ⟨hn, by rw [hc]; rfl⟩), fun n hn hc => ?_⟩
    obtain ⟨hcmd, hrank⟩ := (hstat n hn).2 fun h => by simp [hc] at h
    exact ⟨hcmd.trans hc, hrank⟩
  · have h := State.domOff_status (disch := disch) hc
    exact ⟨(h.cmdOn hn).trans (s.offStatus_cmdOn_same n), (h.pg hn).trans (s.offStatus_pg n), State.domOff_masked hn hc disch, (h.rank hn).trans (State.dropRank_rank _ hn)⟩

end Sys2Proof.Machine
end

section
/-! PROOFS. The condition codes (R165) and the sample of a step time (R146). -/
namespace Sys2Proof.Machine

/-! ### The condition codes (R165) and the sample of a step time (R146) -/

/-- The word that a step time samples has bit j where the comparator j stands. -/
theorem testBit_mask (f : Nat → Bool) {k : Nat} (hk : k < 16) : ((List.range 16).foldl (fun n k => n + 2 ^ k * (f k).toNat) 0).testBit k = f k := by
  have hfun : (fun n k => n + 2 ^ k * (f k).toNat) = fun m k => if f k then m + 2 ^ k else m := by
    funext n k
    cases f k <;> simp
  rw [hfun]
  exact (testBit_bitSum f 16).2 k hk

theorem State.openStep_shared (s : State) {k j : Nat} (h : s.ctl.stepEng = some j) (hj : j < k) : (s.openStep k).ctl.samp = s.ctl.samp := by
  unfold State.openStep
  rw [h]
  dsimp only
  rw [decide_eq_true hj]
  rfl

theorem State.openStep_sampled (s : State) {k j : Nat} (h : s.ctl.stepEng = none ∨ (s.ctl.stepEng = some j ∧ k ≤ j)) : (s.openStep k).ctl.samp = s.sample.ctl.samp := by
  unfold State.openStep
  rcases h with h | ⟨h, hj⟩
  · rw [h]
    rfl
  · rw [h]
    dsimp only
    rw [decide_eq_false (by omega)]
    rfl

/-- The parts of DRV_STAT; MODE reads 6 instead of 0 while the output discharges. -/
theorem State.drvStat_parts (s : State) :
    ∃ (m : Nat) (fl : Bool), s.drvStat = 8192 * m + s.rn A.DRV_STAT % 8192 / 2048 * 2048 + 1024 * (decide (m = 3) && !s.b (F.DOM_STAT_MASKED 1)).toNat + s.rn A.DRV_STAT % 1024 / 256 * 256 + 128 * fl.toNat + 64 * s.minOk.toNat ∧
      (m = 3 ↔ s.rn A.DRV_STAT / 8192 = 3) := by
  refine ⟨_, _, rfl, ?_⟩
  split
  next h =>
    simp only [Bool.and_eq_true, decide_eq_true_eq] at h
    rw [h.1.1]
    decide
  next => rfl

/-- Condition 0x89 as DRV_STAT shows it. -/
theorem State.drvStat_regulates (s : State) : (BitVec.ofNat 16 s.drvStat).getLsbD 10 = (decide (s.g F.DRV_STAT_MODE = 3) && !s.b (F.DOM_STAT_MASKED 1)) := by
  have hmode : s.g F.DRV_STAT_MODE = s.rn A.DRV_STAT / 8192 := by
    have hlt := s.rn_lt A.DRV_STAT
    show s.rn A.DRV_STAT / 2 ^ 13 % 2 ^ 3 = _
    omega
  obtain ⟨m, fl, hparts, hm⟩ := s.drvStat_parts
  rw [getLsbD_ofNat_word _ 10 (by decide), hmode, Nat.testBit_eq_decide_div_mod_eq, hparts, decide_eq_decide.mpr hm]
  generalize (decide (s.rn A.DRV_STAT / 8192 = 3) && !s.b (F.DOM_STAT_MASKED 1)) = x
  have hfl : fl.toNat < 2 := fl.toNat_lt
  have hmin : s.minOk.toNat < 2 := s.minOk.toNat_lt
  cases x <;> simp only [Bool.toNat_true, Bool.toNat_false, decide_eq_true_eq, decide_eq_false_iff_not] <;> omega

theorem State.reserveOk_eq (s : State) : s.reserveOk = (decide (s.g F.GAU_RESERVE_STROKES ≠ 255) && decide (s.g F.GAU_RESERVE_FLOOR ≤ s.g F.GAU_RESERVE_STROKES)) := by
  have hlt : s.g F.GAU_RESERVE_STROKES < 2 ^ 8 := Nat.mod_lt _ (by decide)
  unfold State.reserveOk
  congr 1
  exact decide_eq_decide.mpr (by omega)

theorem State.fltBank_eq (s : State) (b : Nat) : s.fltBank b = (decide (s.rd (A.FLT_STK (2 * b)) ≠ 0) || decide (s.rd (A.FLT_STK (2 * b + 1)) ≠ 0)) := by
  have h : ∀ a, decide (s.rn a ≠ 0) = decide (s.rd a ≠ 0) := fun a => decide_eq_decide.mpr (not_congr ⟨fun h => BitVec.eq_of_toNat_eq h, fun h => congrArg BitVec.toNat h⟩)
  unfold State.fltBank
  rw [h, h]

/-- The codes that stand one by one. -/
theorem State.cond_single (s : State) :
    s.cond 0x70 = s.pins.pbLow ∧ s.cond 0x71 = s.pins.wake1 ∧ s.cond 0x72 = s.pins.wake2 ∧ s.cond 0x73 = (s.pins.stroke && s.ctl.samp.vioh) ∧ s.cond 0x74 = s.pins.syncIn ∧
    s.cond 0x80 = s.ctl.samp.qual ∧ s.cond 0x81 = s.ctl.samp.fullOn ∧ s.cond 0x82 = s.ctl.samp.weir ∧ s.cond 0x83 = s.ctl.samp.pack ∧ s.cond 0x84 = (decide (s.g F.GAU_STAT_AUTH = 2) || !s.b F.GAU_CFG_AUTHEN) ∧
    s.cond 0x85 = (decide (s.g F.GAU_RESERVE_STROKES ≠ 255) && decide (s.g F.GAU_RESERVE_FLOOR ≤ s.g F.GAU_RESERVE_STROKES)) ∧ s.cond 0x86 = (decide (3 ≤ s.g F.CHG_STAT_STATE) && decide (s.g F.CHG_STAT_STATE ≤ 7)) ∧
    s.cond 0x87 = s.pfw ∧ s.cond 0x88 = (s.drvOn && decide (s.g F.DRV_SYNC_MODE = 1) && s.b F.DRV_SYNCSTAT_LOCK) ∧ s.cond 0x89 = (decide (s.g F.DRV_STAT_MODE = 3) && !s.b (F.DOM_STAT_MASKED 1)) ∧ s.cond 0x8A = s.minOk ∧
    s.cond 0x8B = s.b F.STK_STAT_PREARM ∧ s.cond 0x8C = s.b F.STK_STAT_RUNNING ∧ s.cond 0x8D = (s.b F.STK_STAT_RUNNING && s.b F.STK_STAT_PROVING) ∧ s.cond 0x8E = s.b F.WAY_STAT_ORPHAN ∧
    s.cond 0x8F = decide (s.g F.WAY_GRANT_TOLLS ≠ 0) ∧ s.cond 0x9E = s.b F.THM_STAT_THRREQ ∧ s.cond 0x9F = s.b F.THM_STAT_THRENF ∧ s.cond 0xB8 = (s.b F.ADC_CALSTAT_PEND || s.b F.ADC_CALSTAT_RUN) ∧ s.cond 0xB9 = s.b F.SYS_CLK_LFSRC ∧
    s.cond 0xBA = s.ctl.samp.vbk175 ∧ s.cond 0xBB = s.ctl.samp.vioh ∧ s.cond 0xC0 = decide (s.power = .run) ∧ s.cond 0xC1 = decide (s.power = .watch) ∧ s.cond 0xC2 = decide (s.power = .powerUp) ∧
    s.cond 0xC3 = decide (s.power = .powerDown) ∧ s.cond 0xC4 = false ∧ s.cond 0xC5 = s.ctl.onReq.isSome ∧ s.cond 0xC6 = s.ctl.foff ∧ s.cond 0xE4 = s.ctl.holdWarn :=
  ⟨rfl, rfl, rfl, rfl, rfl, rfl, rfl, rfl, rfl, rfl, s.reserveOk_eq, rfl, rfl, rfl, s.drvStat_regulates, rfl, rfl, rfl, rfl, rfl, rfl, rfl, rfl, rfl, rfl, rfl, rfl, rfl, rfl, rfl, rfl, rfl, rfl, rfl, rfl⟩

/-- Settles O33: the codes range by range and one by one, the sample, and who shares it. -/
theorem conditionTable : Obligations.ConditionTable := by
  refine ⟨fun s => ⟨rfl, fun n hn => ?_, fun k hk => ?_, fun k hk => ?_, fun t ht => ?_, fun b hb => ?_, fun k hk => ?_, fun k hk => ?_, fun b hb => ?_, s.cond_single⟩,
    fun s => ⟨fun k hk => ⟨testBit_mask s.under hk, testBit_mask s.over hk⟩, rfl, rfl, rfl, rfl, rfl, rfl, rfl⟩, fun s k j => ⟨fun h hj => s.openStep_shared h hj, s.openStep_sampled⟩, fun s c hc => ?_⟩
  · obtain ⟨h1, h10⟩ := mem_domains.mp hn
    interval_cases n <;> exact ⟨rfl, rfl, rfl, rfl⟩
  · interval_cases k <;> exact ⟨rfl, rfl⟩
  · interval_cases k <;> rfl
  · interval_cases t <;> rfl
  · interval_cases b <;> rfl
  · interval_cases k <;> rfl
  · interval_cases k <;> rfl
  · have h : s.cond (0xE0 + b) = s.fltBank b := by interval_cases b <;> rfl
    exact h.trans (s.fltBank_eq b)
  · fin_cases hc <;> rfl

end Sys2Proof.Machine
end

section
/-! PROOFS. The keys of SYS_LDCTRL (R87, R94, R98, R107). -/
namespace Sys2Proof.Machine

/-! ### The keys of SYS_LDCTRL (R87, R94, R98, R107) -/

/-- A write of words one after another. -/
theorem State.Writes.wrs {W : Nat → Prop} {s t : State} (h : s.Writes W t) (ws : List Word) {a : Nat} (ha : ∀ k, k < ws.length → W (a + k)) : s.Writes W (t.wrs a ws) := by
  induction ws generalizing t a with
  | nil => exact h
  | cons w r ih =>
    refine ih (h.wr (ha 0 (Nat.zero_lt_succ _)) w) fun k hk => ?_
    rw [Nat.add_assoc, Nat.add_comm 1 k]
    exact ha (k + 1) (Nat.succ_lt_succ hk)

theorem State.Writes.putWords {W : Nat → Prop} {s t : State} (h : s.Writes W t) (l : List Nat) {a : Nat} (ha : ∀ k, k < l.length → W (a + k)) : s.Writes W (t.putWords a l) :=
  h.wrs _ fun k hk => ha k (by rwa [List.length_map] at hk)

theorem State.Writes.w32 {W : Nat → Prop} {s t : State} (h : s.Writes W t) {a v : Nat} (ha : W a) (ha' : W (a + 1)) : s.Writes W (t.w32 a v) := (h.wn ha _).wn ha' _

/-- A register of the learned set. -/
def LearnedReg (a : Nat) : Prop := survivalOf a = .learned

theorem learnedReg_range : (∀ k, k < 256 → LearnedReg (A.STK_REFO 0 + k) ∧ LearnedReg (A.STK_REFC 0 + k)) ∧ (∀ k, k < 240 → LearnedReg (A.GAU_ZPRV 0 + k) ∧ LearnedReg (A.GAU_ZCUR k)) ∧
    (∀ k, k < 4 → LearnedReg (A.GAU_SN 0 + k) ∧ LearnedReg (A.GAU_PSN 0 + k)) := by
  unfold LearnedReg
  decide +kernel

theorem learnedReg_single : LearnedReg (A.STK_REFCNT 0) ∧ LearnedReg (A.STK_REFCNT 1) ∧ LearnedReg A.GAU_PFCC ∧ LearnedReg A.GAU_PFLG ∧ LearnedReg A.GAU_FCC ∧ LearnedReg (A.GAU_CYC 0) ∧ LearnedReg (A.GAU_CYC 0 + 1) := by
  unfold LearnedReg
  decide +kernel

theorem State.packDefaults_writes (s : State) : s.Writes LearnedReg s.packDefaults := by
  obtain ⟨-, hz, -⟩ := learnedReg_range
  obtain ⟨-, -, -, -, hfcc, hc0, hc1⟩ := learnedReg_single
  unfold State.packDefaults State.each
  dsimp only
  generalize hs : (s.wn A.GAU_FCC (s.modelWord 2)).w32 (A.GAU_CYC 0) 0 = t
  have ht : s.Writes LearnedReg t := hs ▸ ((State.Writes.refl _ s).wn hfcc _).w32 hc0 hc1
  suffices ∀ (f : State → Nat → Nat) (l : List Nat) (u : State), (∀ k ∈ l, k < 240) → s.Writes LearnedReg u → s.Writes LearnedReg (l.foldl (fun u w => u.wn (A.GAU_ZCUR w) (f u w)) u) from
    this (fun u w => u.zDefault (w / 24) (2 * (w % 2)) + 256 * u.zDefault (w / 24) (2 * (w % 2) + 1)) _ _ (fun _ => List.mem_range.mp) ht
  intro f l
  induction l with
  | nil => exact fun u _ hu => hu
  | cons k l ih => exact fun u hl hu => ih _ (fun j hj => hl j (List.mem_cons_of_mem _ hj)) (hu.wn (hz k (hl k List.mem_cons_self)).2 _)

/-- What the learned set's defaults are written over, before the pack's. -/
def State.learnBlank (s : State) : State :=
  let s := (s.wn (A.STK_REFCNT 0) 0).wn (A.STK_REFCNT 1) 0
  let s := (s.putWords (A.STK_REFO 0) (List.replicate 256 0)).putWords (A.STK_REFC 0) (List.replicate 256 0)
  let s := ((s.putWords (A.GAU_SN 0) [0, 0, 0, 0]).putWords (A.GAU_PSN 0) [0, 0, 0, 0]).wn A.GAU_PFCC 0
  (s.wn A.GAU_PFLG 0).putWords (A.GAU_ZPRV 0) (List.replicate 240 0)

theorem State.learnDefaults_eq (s : State) : s.learnDefaults = (s.learnBlank.setGau (fun g => { g with prevCyc := 0 })).packDefaults := rfl

theorem State.learnBlank_writes (s : State) : s.Writes LearnedReg s.learnBlank := by
  obtain ⟨href, hz, hsn⟩ := learnedReg_range
  obtain ⟨hr0, hr1, hpf, hpl, -⟩ := learnedReg_single
  unfold State.learnBlank
  dsimp only
  have h1 := ((State.Writes.refl _ s).wn hr0 0).wn hr1 0
  have h2 := (h1.putWords (List.replicate 256 0) fun k hk => (href k (by rwa [List.length_replicate] at hk)).1).putWords (List.replicate 256 0) fun k hk => (href k (by rwa [List.length_replicate] at hk)).2
  have h3 := ((h2.putWords [0, 0, 0, 0] fun k hk => (hsn k hk).1).putWords [0, 0, 0, 0] fun k hk => (hsn k hk).2).wn hpf 0
  exact (h3.wn hpl 0).putWords (List.replicate 240 0) fun k hk => (hz k (by rwa [List.length_replicate] at hk)).1

theorem State.rd_setGau (s : State) (f : Gauge → Gauge) (a : Nat) : (s.setGau f).rd a = s.rd a := rfl

theorem State.learnDefaults_frame (s : State) : s.learnDefaults = { s with regs := s.learnDefaults.regs, gau := s.learnDefaults.gau } ∧ ∀ a, ¬ LearnedReg a → s.learnDefaults.rd a = s.rd a := by
  have hb := s.learnBlank_writes
  rw [s.learnDefaults_eq]
  generalize s.learnBlank = v at hb ⊢
  have hp := (v.setGau (fun g => { g with prevCyc := 0 })).packDefaults_writes
  generalize (v.setGau (fun g => { g with prevCyc := 0 })).packDefaults = u at hp ⊢
  refine ⟨?_, fun a ha => (hp.rd ha).trans ((v.rd_setGau _ a).trans (hb.rd ha))⟩
  obtain ⟨r, rfl⟩ := hb.exists_regs
  obtain ⟨r', rfl⟩ := hp.exists_regs
  rfl

theorem State.stopWriteBack_frame (s : State) : s.stopWriteBack = { s with regs := s.stopWriteBack.regs, nvm := s.stopWriteBack.nvm } ∧ ∀ a, a ≠ A.SYS_LDSTAT → s.stopWriteBack.rd a = s.rd a := by
  have hp : s.Writes (· = A.SYS_LDSTAT) (s.p F.SYS_LDSTAT_WFAIL 0) := ⟨rfl, fun a ha => s.rd_p_ne 0 ha⟩
  have hw : s.Writes (· = A.SYS_LDSTAT) (s.when (s.nvm.wbStage ≠ .none) (·.p F.SYS_LDSTAT_WFAIL 0)) := (State.Writes.refl _ s).when hp
  unfold State.stopWriteBack
  generalize s.when (s.nvm.wbStage ≠ .none) (·.p F.SYS_LDSTAT_WFAIL 0) = t at hw ⊢
  refine ⟨?_, fun a ha => (State.rd_p_ne _ _ ha).trans (hw.rd ha)⟩
  obtain ⟨r, rfl⟩ := hw.exists_regs
  rfl

theorem State.nvmRequest_eq (s : State) (u : NvmUse) : s.nvmRequest u = { s with nvm := (s.nvmRequest u).nvm } := rfl

theorem State.rd_nvmRequest (s : State) (u : NvmUse) (a : Nat) : (s.nvmRequest u).rd a = s.rd a := rfl

theorem State.nvmRequest_waits (s : State) (u : NvmUse) : (u ∈ (s.nvmRequest u).nvm.waiting ∨ (s.nvmRequest u).nvm.cur = some u) ∧ (s.nvmRequest u).nvm.vnvm = true := by
  refine ⟨?_, rfl⟩
  unfold State.nvmRequest State.setNvm
  dsimp only
  split
  next h => simpa using h
  next => exact .inl (List.mem_append_right _ List.mem_cons_self)

/-- The registers that the learned-data erase changes beside the learned set. -/
def LearnedStatus (a : Nat) : Prop := a = A.SYS_LDSTAT ∨ a = A.SYS_LDSEQ 0 ∨ a = A.SYS_LDSEQ 1

/-- The learned-data erase, after the write-back has stopped and the defaults have been written. -/
def State.markErased (s : State) : State := (s.dirty.w32 (A.SYS_LDSEQ 0) 0).nvmRequest .eraseLearned

theorem State.eraseLearned_eq (s : State) : s.eraseLearned = (s.when s.wbActive State.stopWriteBack).learnDefaults.markErased := rfl

theorem State.markErased_frame (s : State) :
    s.markErased = { s with regs := s.markErased.regs, nvm := s.markErased.nvm } ∧ (∀ a, ¬ LearnedStatus a → s.markErased.rd a = s.rd a) ∧ s.markErased.b F.SYS_LDSTAT_DIRTY = true ∧ s.markErased.r32 (A.SYS_LDSEQ 0) = 0 := by
  have hdirty : s.dirty.b F.SYS_LDSTAT_DIRTY = true := s.b_pb_same F.SYS_LDSTAT_DIRTY true (by decide) rfl
  have hrd : ∀ a, a ≠ A.SYS_LDSTAT → s.dirty.rd a = s.rd a := fun a ha => s.rd_p_ne (f := F.SYS_LDSTAT_DIRTY) 1 ha
  have hreq : ∀ a, s.markErased.rd a = (s.dirty.w32 (A.SYS_LDSEQ 0) 0).rd a := State.rd_nvmRequest _ _
  refine ⟨rfl, fun a ha => ?_, ?_, (State.r32_congr (hreq _) (hreq _)).trans (s.dirty.r32_w32 _ (by decide))⟩
  · unfold LearnedStatus at ha
    push Not at ha
    rw [hreq, s.dirty.rd_w32_ne 0 ha.2.1 ha.2.2, hrd a ha.1]
  · rw [State.b_congr (hreq _), State.b_congr (s.dirty.rd_w32_ne 0 (by decide) (by decide)), hdirty]

theorem State.eraseLearned_frame (s : State) :
    s.eraseLearned = { s with regs := s.eraseLearned.regs, nvm := s.eraseLearned.nvm, gau := s.eraseLearned.gau } ∧ (∀ a, ¬ LearnedReg a → ¬ LearnedStatus a → s.eraseLearned.rd a = s.rd a) ∧
      s.eraseLearned.b F.SYS_LDSTAT_DIRTY = true ∧ s.eraseLearned.r32 (A.SYS_LDSEQ 0) = 0 := by
  have hstop : s.when s.wbActive State.stopWriteBack = { s with regs := (s.when s.wbActive State.stopWriteBack).regs, nvm := (s.when s.wbActive State.stopWriteBack).nvm } ∧
      ∀ a, a ≠ A.SYS_LDSTAT → (s.when s.wbActive State.stopWriteBack).rd a = s.rd a := by
    cases s.wbActive
    · exact ⟨rfl, fun _ _ => rfl⟩
    · exact s.stopWriteBack_frame
  rw [s.eraseLearned_eq]
  generalize s.when s.wbActive State.stopWriteBack = t at hstop ⊢
  obtain ⟨ht, htrd⟩ := hstop
  obtain ⟨hu, hurd⟩ := t.learnDefaults_frame
  generalize t.learnDefaults = u at hu hurd ⊢
  obtain ⟨hv, hvrd, hdirty, hseq⟩ := u.markErased_frame
  generalize u.markErased = v at hv hvrd hdirty hseq ⊢
  refine ⟨?_, fun a hl hs => (hvrd a hs).trans ((hurd a hl).trans (htrd a fun h => hs (.inl h))), hdirty, hseq⟩
  generalize t.regs = r, t.nvm = n at ht
  subst ht
  generalize u.regs = r, u.gau = g at hu
  subst hu
  generalize v.regs = r, v.nvm = n at hv
  subst hv
  rfl

theorem State.eraseLearned_waits (s : State) : (.eraseLearned ∈ s.eraseLearned.nvm.waiting ∨ s.eraseLearned.nvm.cur = some .eraseLearned) ∧ s.eraseLearned.nvm.vnvm = true := by
  rw [s.eraseLearned_eq]
  exact State.nvmRequest_waits _ _

section
variable {s : State} {w : Word}

theorem State.writeLdCtrl_key (hp : s.power ≠ .boot) :
    s.writeLdCtrl 0xE1A5#16 = s.eraseLearned ∧ s.writeLdCtrl 0xE1F0#16 = s.eraseLog ∧ s.writeLdCtrl 0x3C96#16 = s.wantWriteBack := by
  unfold State.writeLdCtrl
  rw [if_neg hp, if_neg hp, if_neg hp]
  exact ⟨rfl, rfl, rfl⟩

theorem State.writeLdCtrl_boot (hp : s.power = .boot) : s.writeLdCtrl w = s := if_pos hp

theorem State.writeLdCtrl_other (h1 : w ≠ 0xE1A5#16) (h2 : w ≠ 0xE1F0#16) (h3 : w ≠ 0x3C96#16) : s.writeLdCtrl w = s := by
  unfold State.writeLdCtrl
  rw [if_neg h1, if_neg h2, if_neg h3, ite_self]

end

theorem exec_ldKeys (s : State) (w : Word) : exec (.ldErase w) s = hostDone s (·.writeLdCtrl w) ∧ exec (.fflogErase w) s = hostDone s (·.writeLdCtrl w) ∧ exec (.writebackRequest w) s = hostDone s (·.writeLdCtrl w) :=
  ⟨rfl, rfl, rfl⟩

/-- Settles O29: each key's effect, and the writes that are ignored. -/
theorem learnedKeys : Obligations.LearnedKeys := by
  refine ⟨fun s ha hp => ?_, fun s ha hp => ?_, fun s ha hp => ?_, fun s w hp => ?_, fun s w h1 h2 h3 => ?_, ?_⟩
  · obtain ⟨heq, hrd, hdirty, hseq⟩ := s.clocked.eraseLearned_frame
    obtain ⟨hwait, hvn⟩ := s.clocked.eraseLearned_waits
    refine ⟨s.clocked.eraseLearned, ?_, heq, fun a hl h1 h2 h3 => hrd a hl ?_, hdirty, hseq, hwait, hvn⟩
    · rw [(exec_ldKeys s _).1, hostDone_of_hostAlive _ ha, (State.writeLdCtrl_key (s := s.clocked) hp).1]
    · rintro (h | h | h) <;> contradiction
  · obtain ⟨hwait, hvn⟩ := s.clocked.nvmRequest_waits .eraseLog
    refine ⟨s.clocked.eraseLog, ?_, rfl, hwait, hvn, rfl⟩
    rw [(exec_ldKeys s _).2.1, hostDone_of_hostAlive _ ha, (State.writeLdCtrl_key (s := s.clocked) hp).2.1]
  · rw [(exec_ldKeys s _).2.2, hostDone_of_hostAlive _ ha, (State.writeLdCtrl_key (s := s.clocked) hp).2.2]
    rfl
  · have h : hostDone s (·.writeLdCtrl w) = .next s.framed.settle := by
      by_cases ha : s.hostAlive = true
      · rw [hostDone_of_hostAlive _ ha, State.writeLdCtrl_boot (s := s.clocked) hp, State.framed, if_pos ha]
      · rw [hostDone, if_neg ha, State.framed, if_neg ha, done_eq]
    exact ⟨h, h, h⟩
  · have h : hostDone s (·.writeLdCtrl w) = .next s.framed.settle := hostDone_of_unchanged s fun t => State.writeLdCtrl_other h1 h2 h3
    exact ⟨h, h, h⟩
  · exact ⟨by decide, storedWord_of_masks_zero (by decide) (by decide) (by decide), fun s hz => by
      rw [State.readWords_one_of_plainRead s .host (by decide) rfl, hz]⟩

end Sys2Proof.Machine
end

section
/-! PROOFS. What the state controller holds while things are switched off, raised and posted. -/
namespace Sys2Proof.Machine

/-! ### What the state controller holds, while things are switched off, raised and posted -/

/-- A register that is neither one of the system's block nor a program's status or configuration. -/
def offControl (a : Nat) : Bool := 0x0200 ≤ a && a ≠ A.DOM_SEQCFG && a ≠ A.DOM_SEQSTAT

theorem offControl_of {a : Nat} (h : 0x0210 ≤ a) : offControl a = true := by
  unfold offControl
  simp only [Bool.and_eq_true, decide_eq_true_eq]
  exact ⟨⟨by omega, by show a ≠ 0x020E; omega⟩, by show a ≠ 0x020F; omega⟩

theorem offControl_dom {n k : Nat} (h : k % 32 < 14 ∨ 15 < k % 32) : offControl (domBase n + k) = true := by
  unfold offControl domBase
  simp only [Bool.and_eq_true, decide_eq_true_eq]
  exact ⟨⟨by omega, by show _ ≠ 0x020E; omega⟩, by show _ ≠ 0x020F; omega⟩

/-- The state controller's part of t is that of s: its record but for ALIVE, the system's registers, the supplies, the pins, the commands that wait and the clocks; the power state but for a request for WATCH that is served
in RUN. -/
structure State.ControlOf (t s : State) : Prop where
  power : t.power = s.power ∨ (s.power = .run ∧ t.power = .watch)
  ctl : t.ctl = { s.ctl with aliveHeld := t.ctl.aliveHeld, alive := t.ctl.alive, alvStop := t.ctl.alvStop }
  rd : ∀ a, offControl a = false → t.rd a = s.rd a
  sup : t.sup = s.sup
  pins : t.pins = s.pins
  pending : t.pending = s.pending
  rtc : t.rtc = s.rtc
  ticks : t.ticks = s.ticks

section
variable {s t s₀ : State}

theorem State.ControlOf.refl (s : State) : s.ControlOf s := ⟨.inl rfl, rfl, fun _ _ => rfl, rfl, rfl, rfl, rfl, rfl⟩

theorem State.ControlOf.power_eq (h : t.ControlOf s) {p : Power} (hp : s.power = p) (hr : p ≠ .run) : t.power = p :=
  h.power.elim (fun e => e.trans hp) fun e => absurd (hp.symm.trans e.1) hr

theorem State.ControlOf.keepsCtl {β : Type} (h : t.ControlOf s) (g : Control → β) (hg : ∀ c a b d, g { c with aliveHeld := a, alive := b, alvStop := d } = g c) : g t.ctl = g s.ctl := (congrArg g h.ctl).trans (hg _ _ _ _)

theorem State.ControlOf.g (h : t.ControlOf s) {f : Fld} (hf : offControl f.addr = false) : t.g f = s.g f := State.g_congr (h.rd _ hf)

theorem State.ControlOf.b (h : t.ControlOf s) {f : Fld} (hf : offControl f.addr = false) : t.b f = s.b f := State.b_congr (h.rd _ hf)

theorem State.ControlOf.beside (h : s.ControlOf s₀) {hif : Hif} {eng : List Engine} {tim : List EngTimer} {dom : List Domain}
    {mon : Mon} {flt : Flt} {mrq : Mrq} {nvm : Nvm} {line : Line} {lock : Lock} {drv : Drive} {stk : Stroke} {chg : Charger} {gau : Gauge} {rtcx : RtcX} {adc : Adc} {thm : Thm} {way : Way} {freeCtr : Nat} :
    ({ pending := s.pending, pins := s.pins, regs := s.regs, power := s.power, sup := s.sup, ctl := s.ctl, hif := hif, eng := eng, tim := tim, dom := dom, mon := mon, flt := flt, mrq := mrq, nvm := nvm, line := line,
       lock := lock, drv := drv, stk := stk, chg := chg, gau := gau, rtc := s.rtc, rtcx := rtcx, adc := adc, thm := thm, way := way, ticks := s.ticks, freeCtr := freeCtr } : State).ControlOf s₀ :=
  ⟨h.power, h.ctl, h.rd, h.sup, h.pins, h.pending, h.rtc, h.ticks⟩

theorem State.ControlOf.drawn (h : s.ControlOf s₀) : ({ s with freeCtr := s.freeCtr + 1 } : State).ControlOf s₀ := h.beside

theorem State.ControlOf.wr (h : s.ControlOf s₀) {a : Nat} {w : Word} (ha : offControl a = true := by decide) : (s.wr a w).ControlOf s₀ :=
  ⟨h.power, h.ctl, fun b hb => (s.rd_wr_ne w (by rintro rfl; rw [ha] at hb; exact Bool.noConfusion hb)).trans (h.rd b hb), h.sup, h.pins, h.pending, h.rtc, h.ticks⟩

theorem State.ControlOf.wn (h : s.ControlOf s₀) {a v : Nat} (ha : offControl a = true := by decide) : (s.wn a v).ControlOf s₀ := h.wr ha

theorem State.ControlOf.p (h : s.ControlOf s₀) {f : Fld} {v : Nat} (ha : offControl f.addr = true := by decide) : (s.p f v).ControlOf s₀ := h.wr ha

theorem State.ControlOf.pDom (h : s.ControlOf s₀) {n k lsb width v : Nat} (hk : k % 32 < 14 ∨ 15 < k % 32 := by decide) : (s.p ⟨domBase n + k, lsb, width⟩ v).ControlOf s₀ := h.wr (offControl_dom hk)

theorem State.ControlOf.pbDom (h : s.ControlOf s₀) {n k lsb width : Nat} {v : Bool} (hk : k % 32 < 14 ∨ 15 < k % 32 := by decide) : (s.pb ⟨domBase n + k, lsb, width⟩ v).ControlOf s₀ := h.wr (offControl_dom hk)

theorem State.ControlOf.pb (h : s.ControlOf s₀) {f : Fld} {v : Bool} (ha : offControl f.addr = true := by decide) : (s.pb f v).ControlOf s₀ := h.wr ha

theorem State.ControlOf.pbit (h : s.ControlOf s₀) {a k : Nat} {v : Bool} (ha : offControl a = true := by decide) : (s.pbit a k v).ControlOf s₀ := h.wr ha

theorem State.ControlOf.inc (h : s.ControlOf s₀) {a : Nat} (ha : offControl a = true := by decide) : (s.inc a).ControlOf s₀ := by
  unfold State.inc
  split
  · exact h.wn ha
  · exact h

theorem State.ControlOf.ite {c : Prop} [Decidable c] (hs : s.ControlOf s₀) (ht : t.ControlOf s₀) : (if c then s else t).ControlOf s₀ := by
  split
  · exact hs
  · exact ht

theorem State.ControlOf.when (h : s.ControlOf s₀) {c : Bool} {f : State → State} (hf : ∀ t : State, t.ControlOf s₀ → (f t).ControlOf s₀) : (s.when c f).ControlOf s₀ := by
  cases c
  · exact h
  · exact hf s h

theorem State.ControlOf.ite_snd {α : Type} {c : Prop} [Decidable c] {x y : α × State} (hx : x.2.ControlOf s₀) (hy : y.2.ControlOf s₀) : (if c then x else y).2.ControlOf s₀ := by
  split
  · exact hx
  · exact hy

theorem State.ControlOf.ite_fst {α : Type} {c : Prop} [Decidable c] {x y : State × α} (hx : x.1.ControlOf s₀) (hy : y.1.ControlOf s₀) : (if c then x else y).1.ControlOf s₀ := by
  split
  · exact hx
  · exact hy

theorem State.ControlOf.foldl {α : Type} (h : s.ControlOf s₀) {l : List α} {f : State → α → State} (hf : ∀ (t : State) (a : α), t.ControlOf s₀ → (f t a).ControlOf s₀) : (l.foldl f s).ControlOf s₀ := by
  induction l generalizing s with
  | nil => exact h
  | cons a r ih => exact ih (hf s a h)

theorem State.ControlOf.each {α : Type} (h : s.ControlOf s₀) {l : List α} {f : State → α → State} (hf : ∀ (t : State) (a : α), t.ControlOf s₀ → (f t a).ControlOf s₀) : (s.each l f).ControlOf s₀ := h.foldl hf

theorem State.ControlOf.foldl_fst {α β : Type} {x : State × α} (h : x.1.ControlOf s₀) {l : List β} {f : State × α → β → State × α}
    (hf : ∀ (y : State × α) (b : β), y.1.ControlOf s₀ → (f y b).1.ControlOf s₀) : (l.foldl f x).1.ControlOf s₀ := by
  induction l generalizing x with
  | nil => exact h
  | cons b r ih => exact ih (hf x b h)

theorem State.ControlOf.setDom (h : s.ControlOf s₀) {n : Nat} {f : Domain → Domain} : (s.setDom n f).ControlOf s₀ := h.beside

theorem State.ControlOf.setEng (h : s.ControlOf s₀) {n : Nat} {f : Engine → Engine} : (s.setEng n f).ControlOf s₀ := h.beside

theorem State.ControlOf.setDrv (h : s.ControlOf s₀) {f : Drive → Drive} : (s.setDrv f).ControlOf s₀ := h.beside

theorem State.ControlOf.setStk (h : s.ControlOf s₀) {f : Stroke → Stroke} : (s.setStk f).ControlOf s₀ := h.beside

theorem State.ControlOf.setLine (h : s.ControlOf s₀) {f : Line → Line} : (s.setLine f).ControlOf s₀ := h.beside

theorem State.ControlOf.setGau (h : s.ControlOf s₀) {f : Gauge → Gauge} : (s.setGau f).ControlOf s₀ := h.beside

theorem State.ControlOf.setAdc (h : s.ControlOf s₀) {f : Adc → Adc} : (s.setAdc f).ControlOf s₀ := h.beside

theorem State.ControlOf.setNvm (h : s.ControlOf s₀) {f : Nvm → Nvm} : (s.setNvm f).ControlOf s₀ := h.beside

theorem State.ControlOf.setFlt (h : s.ControlOf s₀) {f : Flt → Flt} : (s.setFlt f).ControlOf s₀ := h.beside

theorem State.ControlOf.dropRank (h : s.ControlOf s₀) {n : Nat} : (State.dropRank s n).ControlOf s₀ := by
  unfold State.dropRank
  exact .ite h.pDom (h.pDom.each (fun _ _ ht => State.ControlOf.ite ht.pDom ht))

theorem State.ControlOf.pgFall (h : s.ControlOf s₀) {n : Nat} : (State.pgFall s n).ControlOf s₀ := by
  unfold State.pgFall
  exact h.pDom.setDom

theorem State.ControlOf.drvStop (h : s.ControlOf s₀) {disch : Bool} : (State.drvStop s disch).ControlOf s₀ := by
  unfold State.drvStop
  exact h.setDom.p.p.p.p.wn.p.setDrv

theorem State.ControlOf.raiseBy (h : s.ControlOf s₀) {o : Origin} {n : Nat} : (State.raiseBy s o n).ControlOf s₀ := by
  unfold State.raiseBy
  exact h.beside

theorem State.ControlOf.raise (h : s.ControlOf s₀) {n : Nat} : (State.raise s n).ControlOf s₀ := by
  unfold State.raise
  exact h.raiseBy

theorem State.ControlOf.commitPacket (h : s.ControlOf s₀) {cls : Nat} {type : Nat} {producer : Nat} {payload : List (BitVec 32)} : (State.commitPacket s cls type producer payload).ControlOf s₀ := by
  unfold State.commitPacket
  exact h.beside

theorem State.ControlOf.queueReset (h : s.ControlOf s₀) : (State.queueReset s).ControlOf s₀ := by
  unfold State.queueReset
  dsimp only
  exact .raise (.commitPacket (.beside (h.when (fun _ ht => ht.p)).inc.p))

theorem State.ControlOf.checkPtrs (h : s.ControlOf s₀) {cls : Nat} : (State.checkPtrs s cls).ControlOf s₀ := by
  unfold State.checkPtrs
  exact .ite h h.queueReset

theorem State.ControlOf.rewindStroke (h : s.ControlOf s₀) : (State.rewindStroke s).ControlOf s₀ := by
  unfold State.rewindStroke
  split
  · exact h
  · dsimp only
    split
    · exact h.checkPtrs
    · exact h.checkPtrs.beside

theorem State.ControlOf.burstStop (h : s.ControlOf s₀) : (State.burstStop s).ControlOf s₀ := by
  unfold State.burstStop
  exact h.beside

theorem State.ControlOf.retarget (h : s.ControlOf s₀) {fast : Bool} : (State.retarget s fast).ControlOf s₀ := by
  unfold State.retarget
  exact .ite h (.ite h.p.p (.ite h.p.p.p.setDom.setDrv h.p.p.setDrv))

theorem State.ControlOf.weirOff (h : s.ControlOf s₀) : (State.weirOff s).ControlOf s₀ := by
  unfold State.weirOff
  exact h.p.p

theorem State.ControlOf.handBack (h : s.ControlOf s₀) : (State.handBack s).ControlOf s₀ := by
  unfold State.handBack
  exact .ite h.setLine.weirOff.p h.setLine

theorem State.ControlOf.trig (h : s.ControlOf s₀) {k : Nat} {t : Nat} : (State.trig s k t).ControlOf s₀ := by
  unfold State.trig
  exact h.setEng

/-- A request for WATCH that a stroke held is served in RUN alone. -/
theorem State.ControlOf.goWatch (h : s.ControlOf s₀) (hp : s.power = .run) : (State.goWatch s).ControlOf s₀ := by
  unfold State.goWatch
  have hrun : s₀.power = .run := h.power.elim (fun e => e.symm.trans hp) And.left
  have hw : State.ControlOf { s with power := .watch } s₀ := ⟨.inr ⟨hrun, rfl⟩, h.ctl, h.rd, h.sup, h.pins, h.pending, h.rtc, h.ticks⟩
  exact hw.trig

theorem State.ControlOf.strokeIdle (h : s.ControlOf s₀) : (State.strokeIdle s).ControlOf s₀ := by
  unfold State.strokeIdle
  have hset : (((((s.p F.STK_STAT_PREARM 0).p F.STK_STAT_RUNNING 0).p F.STK_STAT_PROVING 0).setStk (fun k => { k with above := 0, cand := false })).when s.line.hbWait State.handBack).ControlOf s₀ :=
    h.p.p.p.setStk.when (fun _ ht => ht.handBack)
  refine .ite ?_ hset
  dsimp only
  split
  next hp => exact hset.setStk.goWatch hp
  next => exact hset.setStk

theorem State.ControlOf.releaseToll (h : s.ControlOf s₀) : (State.releaseToll s).ControlOf s₀ := by
  unfold State.releaseToll
  exact .ite h.setStk h

theorem State.ControlOf.handOff (h : s.ControlOf s₀) : (State.handOff s).ControlOf s₀ := by
  unfold State.handOff
  exact .ite h (.ite h.weirOff.setDrv h)

theorem State.ControlOf.endEmergency (h : s.ControlOf s₀) : (State.endEmergency s).ControlOf s₀ := by
  unfold State.endEmergency
  exact h.p.when (fun _ ht => ht.handOff)

theorem State.ControlOf.cancelStroke (h : s.ControlOf s₀) {aband : Bool} {fast : Bool} : (State.cancelStroke s aband fast).ControlOf s₀ := by
  unfold State.cancelStroke
  exact h.p.pb.burstStop.rewindStroke.setStk.retarget.endEmergency.releaseToll.trig.strokeIdle

theorem State.ControlOf.recPut (h : s.ControlOf s₀) {delta : Nat} {tag : Nat} {value : Nat} : (State.recPut s delta tag value).ControlOf s₀ := by
  have hrec : ∀ x, offControl (A.STK_REC x) = true := fun x => offControl_of (show 0x0210 ≤ 0x4000 + x by omega)
  have hcount : ∀ x, offControl (F.STK_RECCNT_COUNT x).addr = true := fun x => offControl_of (show 0x0210 ≤ 0x0592 + x by omega)
  have hput : ∀ x y z w v, (((s.wn (A.STK_REC x) y).wn (A.STK_REC x + 1) z).p (F.STK_RECCNT_COUNT w) v).ControlOf s₀ := fun x y z w v => ((h.wn (hrec x)).wn (hrec (x + 1))).p (hcount w)
  unfold State.recPut
  exact .ite (.ite (hput _ _ _ _ _).p.p (hput _ _ _ _ _)) h

theorem State.ControlOf.recAdd (h : s.ControlOf s₀) {tag : Nat} {value : Nat} {late : Nat} : (State.recAdd s tag value late).ControlOf s₀ := by
  unfold State.recAdd
  exact ((h.foldl (fun _ _ ht => ht.recPut)).recPut).setStk

theorem State.ControlOf.marker (h : s.ControlOf s₀) {code : Nat} : (State.marker s code).ControlOf s₀ := by
  unfold State.marker
  exact h.recAdd

theorem State.ControlOf.free (h : s.ControlOf s₀) {n : Nat} : (State.free s n).2.ControlOf s₀ := by
  unfold State.free
  exact h.beside

theorem State.ControlOf.burst (h : s.ControlOf s₀) {bit : Nat} : (State.burst s bit).ControlOf s₀ := by
  unfold State.burst
  exact .ite (((State.ControlOf.ite_snd h h.drawn).marker).setStk) h

theorem State.ControlOf.endBattPhase (h : s.ControlOf s₀) {cause : Option Nat} : (State.endBattPhase s cause).ControlOf s₀ := by
  unfold State.endBattPhase
  refine .ite ?_ ?_
  · exact ((State.ControlOf.marker (by
      split
      · exact h.p.setStk.inc.p.p.setStk.retarget.when (fun _ ht => ht.raise)
      · exact h.p.setStk.p.setStk.retarget.marker)).burst).handOff
  · exact h

theorem State.ControlOf.abandonStroke (h : s.ControlOf s₀) : (State.abandonStroke s).ControlOf s₀ := by
  unfold State.abandonStroke
  exact .ite h.endBattPhase.cancelStroke h

theorem State.ControlOf.blankEdge (h : s.ControlOf s₀) {hit : Nat → Nat → Bool} : (State.blankEdge s hit).ControlOf s₀ := by
  unfold State.blankEdge
  exact .ite h h.beside

theorem State.ControlOf.lockEdge (h : s.ControlOf s₀) : (State.lockEdge s).ControlOf s₀ := by
  unfold State.lockEdge
  exact h.blankEdge

theorem State.ControlOf.lockHalt (h : s.ControlOf s₀) {phase : Nat} : (State.lockHalt s phase).ControlOf s₀ := by
  unfold State.lockHalt
  exact h.p.when (fun _ ht => ht.lockEdge)

theorem State.ControlOf.lockDemag (h : s.ControlOf s₀) {clamp : Bool} : (State.lockDemag s clamp).ControlOf s₀ := by
  unfold State.lockDemag
  exact .lockHalt h.beside

theorem State.ControlOf.regStop (h : s.ControlOf s₀) {n : Nat} {disch : Bool} : (State.regStop s n disch).ControlOf s₀ := by
  unfold State.regStop
  exact .ite (.ite h.setDom.pDom.lockDemag h.setDom.pDom) (h.setDom.pDom.pbDom.when (fun _ ht => ht.p))

theorem State.ControlOf.monRestart (h : s.ControlOf s₀) {k : Nat} : (State.monRestart s k).ControlOf s₀ := by
  unfold State.monRestart
  exact State.ControlOf.pbit (.pbit h.beside)

theorem State.ControlOf.domOff (h : s.ControlOf s₀) {n : Nat} {disch : Bool} : (State.domOff s n disch).ControlOf s₀ := by
  unfold State.domOff
  refine .ite ?_ ?_
  · exact (State.ControlOf.ite h.pgFall.pDom.dropRank.abandonStroke.drvStop h.pgFall.pDom.dropRank.regStop).when (fun _ ht => ht.monRestart)
  · exact h

theorem State.ControlOf.allOff (h : s.ControlOf s₀) : (State.allOff s).ControlOf s₀ := by
  unfold State.allOff
  exact h.each (fun _ _ ht => ht.domOff)

theorem State.ControlOf.openSluice (h : s.ControlOf s₀) {cause : Nat} : (State.openSluice s cause).ControlOf s₀ := by
  unfold State.openSluice
  exact h.setLine

theorem State.ControlOf.clearShed (h : s.ControlOf s₀) : (State.clearShed s).ControlOf s₀ := by
  unfold State.clearShed
  exact h.each (fun _ _ ht => ht.pDom)

theorem State.ControlOf.setLockout (h : s.ControlOf s₀) {n : Nat} {v : Bool} : (State.setLockout s n v).ControlOf s₀ := by
  unfold State.setLockout
  exact .ite h.pb h.pbDom

theorem State.ControlOf.lockoutsFresh (h : s.ControlOf s₀) {v : Bool} : (State.lockoutsFresh s v).ControlOf s₀ := by
  unfold State.lockoutsFresh
  exact h.each (fun _ _ ht => ht.setLockout)

theorem State.ControlOf.adcStop (h : s.ControlOf s₀) : (State.adcStop s).ControlOf s₀ := by
  unfold State.adcStop
  exact h.setAdc.p.p.p

theorem State.ControlOf.stopAlive (h : s.ControlOf s₀) {cause : Nat} : (State.stopAlive s cause).ControlOf s₀ :=
  ⟨h.power, congrArg (fun c : Control => { c with aliveHeld := true, alive := false, alvStop := cause }) h.ctl, h.rd, h.sup, h.pins, h.pending, h.rtc, h.ticks⟩

theorem State.ControlOf.stopRun (h : s.ControlOf s₀) {cause : Nat} : (State.stopRun s cause).ControlOf s₀ := by
  unfold State.stopRun
  have hstop : State.ControlOf { (s.setStk (fun k => { k with heldWatch := false })).abandonStroke with eng := ((s.setStk (fun k => { k with heldWatch := false })).abandonStroke).eng.map Engine.stop } s₀ := .beside h.setStk.abandonStroke
  exact ((((((((hstop.clearShed).openSluice).weirOff).each (fun _ _ ht => ht.monRestart)).lockoutsFresh).adcStop).setGau).p).stopAlive

theorem State.ControlOf.countNoStart (h : s.ControlOf s₀) {r : Raise} : (State.countNoStart s r).ControlOf s₀ := by
  unfold State.countNoStart
  exact h.when (fun _ ht => ht.inc (offControl_dom (k := 0x0004) (by decide)))

theorem State.ControlOf.setSticky (h : s.ControlOf s₀) {n : Nat} : (State.setSticky s n).ControlOf s₀ := by
  unfold State.setSticky
  exact h.pbit (offControl_of (show 0x0210 ≤ 0x0C10 + n / 16 by omega))

theorem State.ControlOf.post (h : s.ControlOf s₀) {b : PktBody} : (State.post s b).ControlOf s₀ := by
  unfold State.post
  exact h.beside

theorem State.ControlOf.nvmRequest (h : s.ControlOf s₀) {u : NvmUse} : (State.nvmRequest s u).ControlOf s₀ := by
  unfold State.nvmRequest
  exact h.setNvm

theorem State.ControlOf.queueRecord (h : s.ControlOf s₀) {kind : FailKind} {i : Incident} : (State.queueRecord s kind i).ControlOf s₀ := by
  unfold State.queueRecord
  exact .ite h h.setNvm.nvmRequest

theorem State.ControlOf.takeRaise {x : State × List Taken} (h : x.1.ControlOf s₀) {r : Raise} : (State.takeRaise x r).1.ControlOf s₀ := by
  have hc : (x.1.countNoStart r).ControlOf s₀ := h.countNoStart
  have hcnt : offControl (A.FLT_CNT r.source) = true := offControl_of (show 0x0210 ≤ 0x0C80 + r.source by omega)
  unfold State.takeRaise
  refine .ite_fst ?_ ?_
  · have hp := fun c => ((hc.setSticky (n := r.source)).inc hcnt).when (c := c) (f := (·.p F.FLT_TEST_DRYHIT 1)) fun _ ht => ht.p
    exact .ite (State.ControlOf.ite (State.ControlOf.post (hp _).beside) (hp _)).queueRecord (.ite (State.ControlOf.post (hp _).beside) (hp _))
  · exact hc

theorem State.ControlOf.takeRaises (h : s.ControlOf s₀) {rs : List Raise} : (State.takeRaises s rs).1.ControlOf s₀ :=
  State.ControlOf.foldl_fst h fun _ _ ht => ht.takeRaise

theorem State.ControlOf.takeAll (h : s.ControlOf s₀) : (State.takeAll s).ControlOf s₀ := by
  unfold State.takeAll
  exact h.setFlt.takeRaises

theorem State.ControlOf.snapshot (h : s.ControlOf s₀) {event : Nat} : (State.snapshot s event).ControlOf s₀ := by
  unfold State.snapshot
  exact .ite ((h.each (fun _ _ ht => ht.wr (offControl_of (show 0x0210 ≤ 0x0C30 + _ by omega)))).wn) h

theorem State.ControlOf.collect (h : s.ControlOf s₀) : (State.collect s).1.ControlOf s₀ := by
  unfold State.collect
  refine .ite_fst h (.ite_fst ?_ (.ite_fst ?_ h.setFlt.takeRaises))
  · dsimp only
    exact h.setFlt
  · dsimp only
    exact h.setFlt

theorem State.ControlOf.addOpen (h : s.ControlOf s₀) {o : OpenPkt} : (State.addOpen s o).ControlOf s₀ := by
  unfold State.addOpen
  exact h.beside

theorem State.ControlOf.openClosing (h : s.ControlOf s₀) {cls : Nat} {b : PktBody} : (State.openClosing s cls b).ControlOf s₀ := by
  unfold State.openClosing
  exact .ite h.checkPtrs.beside.addOpen h.checkPtrs

theorem State.ControlOf.dropPacket (h : s.ControlOf s₀) {cls : Nat} {b : PktBody} : (State.dropPacket s cls b).ControlOf s₀ := by
  unfold State.dropPacket
  dsimp only
  split
  · split
    · exact (h.inc (offControl_of (show 0x0210 ≤ 0x0D0A + cls by omega))).p.p
    · exact (h.inc (offControl_of (show 0x0210 ≤ 0x0D0A + cls by omega))).p
  · exact State.ControlOf.raise (by
      split
      · exact (h.inc (offControl_of (show 0x0210 ≤ 0x0D0A + cls by omega))).p.p
      · exact (h.inc (offControl_of (show 0x0210 ≤ 0x0D0A + cls by omega))).p)

theorem State.ControlOf.openPacket (h : s.ControlOf s₀) {b : PktBody} : (State.openPacket s b).ControlOf s₀ := by
  unfold State.openPacket
  split
  · exact h.openClosing
  · exact .ite h.checkPtrs.beside.addOpen h.checkPtrs.dropPacket

theorem State.ControlOf.openPosted (h : s.ControlOf s₀) : (State.openPosted s).ControlOf s₀ := by
  unfold State.openPosted
  exact (h.beside.each (fun _ _ ht => ht.checkPtrs)).each (fun _ _ ht => ht.openPacket)

theorem State.ControlOf.gather (h : s.ControlOf s₀) {follow : State → State} (hfollow : ∀ t : State, t.ControlOf s₀ → (follow t).ControlOf s₀) {fuel : Nat} {l : List Taken} :
    (s.gather follow fuel l).1.ControlOf s₀ := by
  induction fuel generalizing s l with
  | zero => exact h
  | succ n ih =>
    have hs := (hfollow _ h.collect).when (c := (follow s.collect.1).aoOn && (follow s.collect.1).power ≠ .boot) fun _ ht => ht.openPosted
    exact .ite_fst hs (ih hs)

theorem State.ControlOf.beginIncident (h : s.ControlOf s₀) {t : Taken} : (State.beginIncident s t).ControlOf s₀ := by
  unfold State.beginIncident
  split
  · exact h
  · exact h.setFlt.wn

theorem State.ControlOf.commitOpened (h : s.ControlOf s₀) : (State.commitOpened s).ControlOf s₀ := by
  unfold State.commitOpened
  exact h.beside.each (fun _ _ ht => ht.commitPacket)

theorem State.ControlOf.commitPosted (h : s.ControlOf s₀) : (State.commitPosted s).ControlOf s₀ := by
  unfold State.commitPosted
  exact h.openPosted.commitOpened

end

end Sys2Proof.Machine
end

section
/-! PROOFS. BOOT, wakes, and the entries to FAULT and HIBERNATE (R43, R54, R55). -/
namespace Sys2Proof.Machine

/-! ### BOOT begins (R52 to R55, R71) -/

section
variable {s : State} {via : BootFrom} {keepK : Bool}

/-- The registers that BOOT finds as they were. -/
def bootKeeps (keepK : Bool) (a : Nat) : Bool :=
  match survivalOf a with
  | .kept => keepK
  | .rtc => true
  | .fuse => true
  | .volatile => a = A.SYS_STRAP
  | .config => false
  | .learned => false

theorem State.beginQualification_eq (s : State) : s.beginQualification = { s with line := s.beginQualification.line } := by
  unfold State.beginQualification
  split
  · split <;> rfl
  · rfl

theorem State.endLatch_eq (s : State) : s.endLatch = { s with line := s.endLatch.line } := by
  unfold State.endLatch
  split
  · rw [State.beginQualification_eq]
    rfl
  · rfl

/-- The record of the state controller as BOOT begins. -/
def Control.booting (c : Control) (via : BootFrom) : Control :=
  { State.reset.ctl with
    pb := c.pb, pbFreed := c.pbFreed, mrLow := c.mrLow, bootFrom := via, bootRunning := c.bootRunning, strapDue := true, wakeTick := c.wakeTick, wakeCfg := c.wakeCfg,
    foff := decide (via = .wake) && c.foff, request := (if via = .wake then c.request else none), thRestarts := if via = .wake then c.thRestarts else 0 }

theorem Control.booting_bootFrom (c : Control) (via : BootFrom) : (c.booting via).bootFrom = via := rfl

theorem State.beginQualification_keeps {β : Type} (g : State → β) (hg : ∀ u l, g { u with line := l } = g u) (s : State) : g s.beginQualification = g s := (congrArg g s.beginQualification_eq).trans (hg _ _)

theorem State.endLatch_keeps {β : Type} (g : State → β) (hg : ∀ u l, g { u with line := l } = g u) (s : State) : g s.endLatch = g s := (congrArg g s.endLatch_eq).trans (hg _ _)

theorem State.rd_endLatch (s : State) (a : Nat) : s.endLatch.rd a = s.rd a := s.endLatch_keeps (State.rd · a) fun _ _ => rfl

theorem State.rd_when_setLine (s : State) (c : Bool) (f : Line → Line) (a : Nat) : (s.when c (·.setLine f)).rd a = s.rd a := by
  cases c <;> rfl

/-- What BOOT does where it follows no wake. -/
def State.bootFresh (s : State) : State := (s.p F.RTC_STAT_PEND 0).endLatch.setLine (fun l => { l with fails := 0 })

theorem State.boot_cases (s : State) (via : BootFrom) (keepK : Bool) :
    ∃ b : State, s.boot via keepK = (if via = .wake then b else b.bootFresh) ∧ b.power = .boot ∧ b.ctl = s.ctl.booting via ∧ b.nvm.bootStep = 0 ∧ b.eng = State.reset.eng ∧ b.mrq = State.reset.mrq ∧
      b.sup = { s.sup with starting := false, shipAo := false, fastOn := true, xtalGiven := decide (via = .wake) && s.sup.xtalGiven } ∧ b.line.fullOn = false ∧ b.line.inrush = .none ∧
      b.regs = s.regs.keep (bootKeeps keepK) :=
  ⟨_, rfl, rfl, rfl, rfl, rfl, rfl, rfl, rfl, rfl, rfl⟩

theorem State.bootFresh_keeps {β : Type} (g : State → β) (hg : ∀ u r l, g { u with regs := r, line := l } = g u) (s : State) : g s.bootFresh = g s := by
  have hline : ∀ u l, g { u with line := l } = g u := fun u l => hg u u.regs l
  exact (hline _ _).trans ((State.endLatch_keeps g hline _).trans (hg s _ s.line))

theorem State.boot_keeps {β : Type} (g : State → β) (hg : ∀ u r l, g { u with regs := r, line := l } = g u) {s b : State} {via : BootFrom} {keepK : Bool} (h : s.boot via keepK = if via = .wake then b else b.bootFresh) :
    g (s.boot via keepK) = g b := by
  rw [h]
  split
  · rfl
  · exact State.bootFresh_keeps g hg b

theorem State.boot_frame (s : State) (via : BootFrom) (keepK : Bool) :
    (s.boot via keepK).power = .boot ∧ (s.boot via keepK).ctl = s.ctl.booting via ∧ (s.boot via keepK).nvm.bootStep = 0 ∧ (s.boot via keepK).eng = State.reset.eng ∧ (s.boot via keepK).mrq = State.reset.mrq ∧
      (s.boot via keepK).sup = { s.sup with starting := false, shipAo := false, fastOn := true, xtalGiven := decide (via = .wake) && s.sup.xtalGiven } := by
  obtain ⟨b, hb, hp, hc, hn, he, hm, hs, -⟩ := s.boot_cases via keepK
  exact ⟨(State.boot_keeps State.power (fun _ _ _ => rfl) hb).trans hp, (State.boot_keeps State.ctl (fun _ _ _ => rfl) hb).trans hc, (State.boot_keeps (·.nvm.bootStep) (fun _ _ _ => rfl) hb).trans hn,
    (State.boot_keeps State.eng (fun _ _ _ => rfl) hb).trans he, (State.boot_keeps State.mrq (fun _ _ _ => rfl) hb).trans hm, (State.boot_keeps State.sup (fun _ _ _ => rfl) hb).trans hs⟩

/-- A qualification begins with the sluice as it stands. -/
theorem State.beginQualification_sluice (s : State) : s.beginQualification.line.fullOn = s.line.fullOn ∧ s.beginQualification.line.inrush = s.line.inrush := by
  unfold State.beginQualification
  split
  · split <;> exact ⟨rfl, rfl⟩
  · exact ⟨rfl, rfl⟩

theorem State.endLatch_sluice (s : State) : s.endLatch.line.fullOn = s.line.fullOn ∧ s.endLatch.line.inrush = s.line.inrush := by
  unfold State.endLatch
  split
  · exact State.beginQualification_sluice _
  · exact ⟨rfl, rfl⟩

theorem State.boot_line (s : State) (via : BootFrom) (keepK : Bool) : (s.boot via keepK).line.fullOn = false ∧ (s.boot via keepK).line.inrush = .none := by
  obtain ⟨b, hb, -, -, -, -, -, -, hf, hi, -⟩ := s.boot_cases via keepK
  rw [hb]
  split
  · exact ⟨hf, hi⟩
  · exact ⟨(State.endLatch_sluice _).1.trans hf, (State.endLatch_sluice _).2.trans hi⟩

theorem State.boot_rd (s : State) (via : BootFrom) (keepK : Bool) {a : Nat} (ha : a ≠ A.RTC_STAT) : (s.boot via keepK).rd a = if bootKeeps keepK a then s.rd a else resetWord a := by
  obtain ⟨b, hb, -, -, -, -, -, -, -, -, hr⟩ := s.boot_cases via keepK
  have hrd : b.rd a = if bootKeeps keepK a then s.rd a else resetWord a := (congrArg (RegFile.get · a) hr).trans (RegFile.get_keep _ _ _)
  rw [hb, ← hrd]
  split
  · rfl
  · exact (State.endLatch_keeps (State.rd · a) (fun _ _ => rfl) _).trans (b.rd_p_ne 0 ha)

theorem State.boot_rd_kept (s : State) (via : BootFrom) {a : Nat} (h : survivalOf a = .kept) : (s.boot via true).rd a = s.rd a := by
  have hne : a ≠ A.RTC_STAT := by
    rintro rfl
    exact absurd h (by decide)
  rw [s.boot_rd via true hne, bootKeeps, h]
  rfl

theorem State.boot_rd_lost (s : State) (via : BootFrom) (keepK : Bool) {a : Nat} (hs : a ≠ A.SYS_STRAP) (h : survivalOf a = .volatile ∨ survivalOf a = .config) : (s.boot via keepK).rd a = resetWord a := by
  have hne : a ≠ A.RTC_STAT := by
    rintro rfl
    exact absurd h (by decide)
  have hkeep : bootKeeps keepK a = false := by
    unfold bootKeeps
    rcases h with h | h <;> rw [h]
    exact decide_eq_false hs
  rw [s.boot_rd via keepK hne, hkeep]
  rfl

end

/-! ### A wake (R50, R51, R58) -/

theorem survivalOf_wakeCause : survivalOf A.SYS_WAKECAUSE = .kept ∧ survivalOf A.SYS_RSTCAUSE = .kept := by decide

theorem wakeSticky_eq (code : Nat) : ∃ k, 8 ≤ k ∧ k < 16 ∧ wakeSticky code = ⟨A.SYS_WAKECAUSE, k, 1⟩ := by
  unfold wakeSticky
  split
  · exact ⟨9, by decide, by decide, rfl⟩
  · exact ⟨10, by decide, by decide, rfl⟩
  · exact ⟨11, by decide, by decide, rfl⟩
  · exact ⟨12, by decide, by decide, rfl⟩
  · exact ⟨14, by decide, by decide, rfl⟩
  · exact ⟨15, by decide, by decide, rfl⟩
  · exact ⟨8, by decide, by decide, rfl⟩
  · exact ⟨13, by decide, by decide, rfl⟩

/-- The cause of a wake in SYS_WAKECAUSE. -/
theorem State.wakeCause_written (s : State) {code : Nat} (hc : code < 16) :
    let t := (s.p (wakeSticky code) 1).p F.SYS_WAKECAUSE_LAST code
    t.g F.SYS_WAKECAUSE_LAST = code ∧ t.b (wakeSticky code) = true := by
  obtain ⟨k, h8, h16, hk⟩ := wakeSticky_eq code
  refine ⟨(State.g_p_same _ F.SYS_WAKECAUSE_LAST code (by decide)).trans (Nat.mod_eq_of_lt hc), ?_⟩
  have hset := s.b_pb_same (wakeSticky code) true (by rw [hk]; show k + 1 ≤ 16; omega) (by rw [hk])
  unfold State.b State.pb at hset
  unfold State.b
  rw [State.g_p_beside _ code (f := F.SYS_WAKECAUSE_LAST) (by decide) (.inr (by rw [hk]; show 0 + 4 ≤ k; omega))]
  exact hset

theorem State.wake_frame (s : State) {code : Nat} (hc : code < 16) :
    (s.wake code).power = .boot ∧ (s.wake code).g F.SYS_WAKECAUSE_LAST = code ∧ (s.wake code).b (wakeSticky code) = true ∧ (s.wake code).ctl.bootFrom = .wake := by
  obtain ⟨hlast, hsticky⟩ := s.wakeCause_written hc
  obtain ⟨k, -, -, hk⟩ := wakeSticky_eq code
  unfold State.wake
  dsimp only at hlast hsticky ⊢
  generalize (s.p (wakeSticky code) 1).p F.SYS_WAKECAUSE_LAST code = t at hlast hsticky ⊢
  have hctl : ∀ (f : Control → Control) a, (t.setCtl f).rd a = t.rd a := fun _ _ => rfl
  obtain ⟨hp, hctl', -⟩ := State.boot_frame (t.setCtl (fun c => { c with onReq := none, wakeTick := some t.ticks, wakeCfg := t.wakeWord, bootRunning := false })) .wake true
  have hrd := (State.boot_rd_kept (t.setCtl (fun c => { c with onReq := none, wakeTick := some t.ticks, wakeCfg := t.wakeWord, bootRunning := false })) .wake survivalOf_wakeCause.1).trans (hctl _ _)
  refine ⟨hp, (State.g_congr hrd).trans hlast, (State.b_congr ?_).trans hsticky, ?_⟩
  · rw [hk]
    exact hrd
  · rw [hctl', Control.booting_bootFrom]

/-! ### The entry to FAULT and to HIBERNATE (R43, R54, R55, R631) -/

theorem State.stopRun_power {s : State} {p : Power} (cause : Nat) (h : s.power = p) (hp : p ≠ .run) : (s.stopRun cause).power = p :=
  (State.ControlOf.stopRun (cause := cause) (State.ControlOf.refl s)).power_eq h hp

theorem State.domsOff_power {s : State} {p : Power} (l : List Nat) (disch : Bool) (h : s.power = p) (hp : p ≠ .run) : (s.each l (fun s n => s.domOff n disch)).power = p :=
  ((State.ControlOf.refl s).each fun _ _ ht => ht.domOff).power_eq h hp

theorem State.enterFault_power (s : State) (inc : Incident) (now : List Nat) : (s.enterFault inc now).power = .fault := by
  unfold State.enterFault
  dsimp only
  rw [State.pb_power, State.setCtl_power]
  refine State.domsOff_power _ _ (State.domsOff_power _ _ ?_ (by decide)) (by decide)
  rw [State.setCtl_power]
  exact State.stopRun_power 2 rfl (by decide)

/-- The entry up to the wipe: everything is off and stopped, and what was posted is committed. -/
def State.darkened (s : State) (p : Power) : State :=
  ((({ s.allOff with power := p } : State).stopRun 1).when (p = .ship && (({ s.allOff with power := p } : State).stopRun 1).sup.vbk150) State.bktsCapture).commitPosted

theorem State.goDark_eq (s : State) (p : Power) : s.goDark p = ((s.darkened p).wipe.wbBusy.when s.sluiceBusy (·.setLine (fun l => { l with lastOpen := 6 }))).endLatch := rfl

theorem State.bktsCapture_controlOf {s s₀ : State} (h : s.ControlOf s₀) : s.bktsCapture.ControlOf s₀ := by
  unfold State.bktsCapture
  exact .ite h h.wn.wn.wn.wn

theorem State.darkened_controlOf (s : State) (p : Power) : (s.darkened p).ControlOf { s.allOff with power := p } :=
  ((State.ControlOf.refl _).stopRun.when fun _ h => State.bktsCapture_controlOf h).commitPosted

theorem State.wipe_power (s : State) : s.wipe.power = s.power := rfl

theorem State.wipe_eng (s : State) : s.wipe.eng = State.reset.eng := rfl

theorem State.wipe_foff (s : State) : s.wipe.ctl.foff = s.ctl.foff := rfl

theorem State.wbBusy_keeps {β : Type} (g : State → β) (hg : ∀ u r, g { u with regs := r } = g u) (s : State) : g s.wbBusy = g s := hg s _

/-- What follows the wipe at an entry changes LASTOPEN, the line's qualification and WBBUSY alone. -/
theorem State.goDark_keeps {β : Type} (g : State → β) (hr : ∀ u r, g { u with regs := r } = g u) (hl : ∀ u l, g { u with line := l } = g u) (s : State) (p : Power) : g (s.goDark p) = g (s.darkened p).wipe := by
  rw [s.goDark_eq p]
  exact (State.endLatch_keeps g hl _).trans ((State.when_keeps g (fun t => hl t _) _ _).trans (State.wbBusy_keeps g hr _))

/-- What stands of a state that went dark. -/
theorem State.goDark_frame (s : State) {p : Power} (hp : p ≠ .run) :
    (s.goDark p).power = p ∧ (s.goDark p).ctl.foff = s.ctl.foff ∧ (s.goDark p).eng = State.reset.eng ∧ (∀ a, a ≠ A.SYS_LDSTAT → (s.goDark p).rd a = (s.darkened p).wipe.rd a) := by
  have hd := s.darkened_controlOf p
  have hoff : s.allOff.ControlOf s := (State.ControlOf.refl s).allOff
  refine ⟨?_, ?_, ?_, fun a ha => ?_⟩
  · rw [s.goDark_keeps State.power (fun _ _ => rfl) (fun _ _ => rfl), State.wipe_power, hd.power_eq rfl hp]
  · rw [s.goDark_keeps (·.ctl.foff) (fun _ _ => rfl) (fun _ _ => rfl), State.wipe_foff, hd.keepsCtl Control.foff (fun _ _ _ _ => rfl)]
    exact hoff.keepsCtl Control.foff (fun _ _ _ _ => rfl)
  · rw [s.goDark_keeps State.eng (fun _ _ => rfl) (fun _ _ => rfl), State.wipe_eng]
  · rw [s.goDark_eq p, State.rd_endLatch, State.rd_when_setLine]
    exact State.rd_p_ne _ _ ha

theorem State.snapshot_controlOf (s : State) (event : Nat) : (s.snapshot event).ControlOf s := (State.ControlOf.refl s).snapshot

theorem State.enterHibernate_power (s : State) : s.enterHibernate.power = .hibernate := (State.goDark_frame _ (by decide)).1

/-- R54: FOFF after the entry to HIBERNATE. -/
theorem State.enterHibernate_foff (s : State) (hp : s.power ≠ .boot) : s.enterHibernate.ctl.foff = if s.ctl.forced then !s.ctl.forceEnded else s.ctl.foff := by
  have h := s.snapshot_controlOf 4
  have hforced : (s.snapshot 4).ctl.forced = s.ctl.forced := h.keepsCtl Control.forced fun _ _ _ _ => rfl
  have hended : (s.snapshot 4).ctl.forceEnded = s.ctl.forceEnded := h.keepsCtl Control.forceEnded fun _ _ _ _ => rfl
  have hfoff : (s.snapshot 4).ctl.foff = s.ctl.foff := h.keepsCtl Control.foff fun _ _ _ _ => rfl
  have hpow : (s.snapshot 4).power ≠ .boot := by
    rcases h.power with e | ⟨-, e⟩ <;> rw [e]
    · exact hp
    · decide
  unfold State.enterHibernate
  rw [(State.goDark_frame _ (by decide)).2.1]
  generalize s.snapshot 4 = t at hforced hended hfoff hpow ⊢
  rw [hforced, decide_eq_true hpow, Bool.and_true]
  cases s.ctl.forced
  · exact hfoff
  · exact congrArg (!·) hended

end Sys2Proof.Machine
end

section
/-! PROOFS. Off requests, wake pins and the push-button (R49, R50, R54, R197). -/
namespace Sys2Proof.Machine

/-! ### Off requests (R43, R197) -/

theorem State.abandonStroke_controlOf (s : State) : s.abandonStroke.ControlOf s := (State.ControlOf.refl s).abandonStroke

theorem State.beginPowerDown_frame (s : State) {src : Nat} (hsrc : src < 16) :
    (s.beginPowerDown src).power = .powerDown ∧ (s.beginPowerDown src).g F.DOM_SEQSTAT_OFFSRC = src ∧ (s.beginPowerDown src).ctl.shipping = decide (src = 3) ∧
      (s.beginPowerDown src).ctl.onReq = if src = 4 then s.ctl.onReq else none := by
  have ha : (s.setStk (fun k => { k with heldWatch := false })).abandonStroke.ControlOf s := (State.ControlOf.refl s).setStk.abandonStroke
  have hreq := ha.keepsCtl Control.onReq fun _ _ _ _ => rfl
  unfold State.beginPowerDown
  generalize (s.setStk (fun k => { k with heldWatch := false })).abandonStroke = t at hreq ⊢
  dsimp only
  have hoff : ((({ t with power := .powerDown } : State).p F.DOM_SEQSTAT_OFFSRC src)).g F.DOM_SEQSTAT_OFFSRC = src := (State.g_p_same _ F.DOM_SEQSTAT_OFFSRC src (by decide)).trans (Nat.mod_eq_of_lt hsrc)
  have hwhen : ∀ (u : State) (c : Bool) (f : Way → Way), (u.when c (fun s => s.setWay f)).power = u.power ∧ (u.when c (fun s => s.setWay f)).regs = u.regs ∧ (u.when c (fun s => s.setWay f)).ctl = u.ctl := fun u c f => by
    cases c <;> exact ⟨rfl, rfl, rfl⟩
  obtain ⟨hp, hr, hc⟩ := hwhen _ _ _
  refine ⟨hp, (State.g_congr (congrArg (RegFile.get · _) hr)).trans hoff, ?_, ?_⟩
  · rw [hc]
    rfl
  · rw [hc, ← hreq]
    rfl

/-- An off request in RUN or WATCH starts the power-down. -/
theorem State.offRequest_runs {s : State} (h : s.power = .run ∨ s.power = .watch) (src : Nat) : s.offRequest src = s.beginPowerDown src := by
  unfold State.offRequest
  rcases h with h | h <;> rw [h]

/-! ### Wake pins and the push-button (R49, R50, R54, R58, R62) -/

theorem State.wakeWord_of_ne_boot {s : State} (h : s.power ≠ .boot) : s.wakeWord = s.rd A.SYS_WAKECFG := by
  unfold State.wakeWord
  rw [decide_eq_false h]
  rfl

theorem exec_wakePinEdge (s : State) (pin : Nat) (rising : Bool) :
    exec (.wakePinEdge pin rising) s =
      done (s.when (edgeTakes (if pin = 1 then F.SYS_WAKECFG_WAKE1_MODE.get s.wakeWord else F.SYS_WAKECFG_WAKE2_MODE.get s.wakeWord) rising) (·.wakeSource (if pin = 1 then 3 else 4))) := rfl

/-- In HIBERNATE an enabled source wakes. -/
theorem State.wakeSource_hibernate {s : State} {code : Nat} (hp : s.power = .hibernate) (he : s.wakeEnabled code = true) : s.wakeSource code = s.wake code := by
  unfold State.wakeSource
  rw [hp]
  exact if_pos he

/-- An edge that its mode takes, and one that it does not. -/
theorem edgeTakes_iff (mode : Nat) (rising : Bool) :
    ((mode = 1 ∧ rising = true ∨ mode = 2 ∧ rising = false ∨ mode = 3) → edgeTakes mode rising = true ∧ mode ≠ 0) ∧
    ((mode = 0 ∨ mode = 1 ∧ rising = false ∨ mode = 2 ∧ rising = true) → edgeTakes mode rising = false) := by
  refine ⟨?_, ?_⟩
  · rintro (⟨rfl, rfl⟩ | ⟨rfl, rfl⟩ | rfl) <;> simp [edgeTakes]
  · rintro (rfl | ⟨rfl, rfl⟩ | ⟨rfl, rfl⟩) <;> simp [edgeTakes]

theorem State.wakeEnabled_pin {s : State} {pin : Nat} (hp : s.power ≠ .boot) (hpin : pin = 1 ∨ pin = 2)
    (hm : (if pin = 1 then s.g F.SYS_WAKECFG_WAKE1_MODE else s.g F.SYS_WAKECFG_WAKE2_MODE) ≠ 0) : s.wakeEnabled (if pin = 1 then 3 else 4) = true := by
  unfold State.wakeEnabled
  rw [State.wakeWord_of_ne_boot hp]
  rcases hpin with rfl | rfl
  · exact bne_iff_ne.mpr hm
  · exact bne_iff_ne.mpr hm

theorem State.shipExit_frame (s : State) {code : Nat} (hc : code < 16) : (s.shipExit code).power = .boot ∧ (s.shipExit code).g F.SYS_WAKECAUSE_LAST = code := by
  have harm : ∀ u : State, ((u.almArm 0).almArm 1).power = u.power ∧ ((u.almArm 0).almArm 1).g F.SYS_WAKECAUSE_LAST = u.g F.SYS_WAKECAUSE_LAST := fun _ => ⟨rfl, rfl⟩
  unfold State.shipExit
  dsimp only
  rw [(harm _).1, (harm _).2]
  refine ⟨?_, (State.wakeCause_written _ hc).1⟩
  rw [State.p_power, State.p_power]
  split
  · exact (State.boot_frame _ _ _).1
  · exact (State.boot_frame _ _ _).1

/-- A press of the button, taken in a state in which it does not wake. -/
theorem State.endSuppression_when (s : State) (c : Bool) :
    (s.setCtl (fun c => { c with pb := .held })).when c State.endSuppression =
      { s with ctl := { s.ctl with pb := .held, foff := s.ctl.foff && !c, forceEnded := s.ctl.forceEnded || (s.ctl.forced && c) } } := by
  cases c
  · rw [Bool.not_false, Bool.and_true, Bool.and_false, Bool.or_false]
    rfl
  · rw [Bool.not_true, Bool.and_false, Bool.and_true]
    rfl

theorem State.aoOn_of_power {s : State} {p : Power} (h : s.power = p) (hp : p ≠ .dead ∧ p ≠ .vbkupOnly ∧ p ≠ .ship) : s.aoOn = true := by
  unfold State.aoOn
  rw [h, decide_eq_false hp.1, decide_eq_false hp.2.1, decide_eq_false hp.2.2]
  rfl

theorem State.pbPress_run {s : State} (hp : s.power = .run) (hpb : s.ctl.pb = .up) :
    s.pbPress = { s with ctl := { s.ctl with pb := .held, foff := s.ctl.foff && !s.ctl.pbFreed, forceEnded := s.ctl.forceEnded || (s.ctl.forced && s.ctl.pbFreed) } } := by
  unfold State.pbPress
  rw [if_pos (by rw [hpb, State.aoOn_of_power hp (by decide)]; rfl), ← State.endSuppression_when]
  dsimp only
  split
  · rw [show (s.setCtl (fun c => { c with pb := .held })).power = .run from hp]
  · rfl

theorem State.pbPress_forced {s : State} (hp : s.power = .powerDown) (hpb : s.ctl.pb = .up) (hfreed : s.ctl.pbFreed = true) (hforced : s.ctl.forced = true) :
    s.pbPress = { s with ctl := { s.ctl with pb := .held, foff := false, forceEnded := true, onReq := some 1 } } := by
  unfold State.pbPress
  have hacts : ∀ b : Bool, (b || (decide ((s.setCtl (fun c => { c with pb := .held })).power = .powerDown) && (s.setCtl (fun c => { c with pb := .held })).ctl.forced)) = true := fun b => by
    rw [decide_eq_true (show (s.setCtl (fun c => { c with pb := .held })).power = .powerDown from hp), show (s.setCtl (fun c => { c with pb := .held })).ctl.forced = true from hforced]
    exact Bool.or_true b
  rw [if_pos (by rw [hpb, State.aoOn_of_power hp (by decide)]; rfl)]
  dsimp only
  rw [hacts, hfreed, Bool.and_self, if_pos rfl, show (s.setCtl (fun c => { c with pb := .held })).power = .powerDown from hp, State.endSuppression_when]
  simp [State.setCtl, hforced, hfreed]

/-- Settles O12: the wake pins by their modes, MIN_OFF, and the push-button stage by stage. -/
theorem wakesAndPushButton : Obligations.WakesAndPushButton := by
  refine ⟨fun s pin mode rising hp hmode => ?_, fun s code hp hreq hc => ?_, fun s hp hpb => congrArg done (State.pbPress_run hp hpb), fun s hp hpb hfreed hforced => congrArg done (State.pbPress_forced hp hpb hfreed hforced),
    fun s hp => s.enterHibernate_foff hp, fun s hp hpb hen => ?_, fun s hp hpb hen => ?_, fun s ms hp hpb h50 h2000 => ?_, fun s hp hb => ?_⟩
  · have hpin : pin = 1 ∨ pin = 2 := hmode.imp And.left And.left
    have hm : (if pin = 1 then s.g F.SYS_WAKECFG_WAKE1_MODE else s.g F.SYS_WAKECFG_WAKE2_MODE) = mode := by
      rcases hmode with ⟨rfl, h⟩ | ⟨rfl, h⟩ <;> exact h
    have hne : s.power ≠ .boot := by
      rw [hp]
      decide
    have hword : (if pin = 1 then F.SYS_WAKECFG_WAKE1_MODE.get s.wakeWord else F.SYS_WAKECFG_WAKE2_MODE.get s.wakeWord) = mode := by
      rw [State.wakeWord_of_ne_boot hne]
      exact hm
    obtain ⟨htake, hleave⟩ := edgeTakes_iff mode rising
    rw [exec_wakePinEdge, hword]
    refine ⟨fun h => ?_, fun h => by rw [hleave h]; rfl⟩
    obtain ⟨hedge, hmode0⟩ := htake h
    have hwake := State.wakeSource_hibernate hp (State.wakeEnabled_pin hne hpin (by rwa [hm]))
    have hcode : (if pin = 1 then 3 else 4) < 16 := by split <;> decide
    obtain ⟨hpow, hlast, hsticky, -⟩ := s.wake_frame hcode
    rw [hedge]
    refine ⟨s.wakeSource (if pin = 1 then 3 else 4), rfl, hwake ▸ hpow, ?_, ?_⟩
    · rw [hwake, hlast]
      rcases hpin with rfl | rfl <;> rfl
    · rw [hwake]
      rcases hpin with rfl | rfl <;> exact hsticky
  · have hmin : s.minOff = s.wake code := by
      unfold State.minOff
      rw [hp, hreq]
    obtain ⟨hpow, hlast, hsticky, -⟩ := s.wake_frame hc
    exact ⟨s.wake code, congrArg done hmin, hpow, hlast, hsticky⟩
  · have hwarn : s.pbWarn = { s with ctl := { s.ctl with pb := .warned, pfwPb := true } } := by
      unfold State.pbWarn
      rw [if_pos (by rw [hpb]; rfl), hen, show s.running = true by unfold State.running; rw [hp]; rfl]
      simp [State.setCtl]
    exact congrArg done hwarn
  · have hrun : s.running = true := by
      unfold State.running
      rcases hp with h | h <;> rw [h] <;> rfl
    have hoff : s.pbForceOff = ((((s.setCtl (fun c => { c with pb := .done })).setCtl (fun c => { c with pbFreed := false })).offRequest 2).setCtl (fun c => { c with forced := true, forceEnded := false })) := by
      unfold State.pbForceOff
      rw [if_pos (by rw [hpb]; decide)]
      exact if_pos (by
        show (s.b F.SYS_PBCFG_PB_LONG_EN && s.running) = true
        rw [hen, hrun]
        rfl)
    have hbegin := State.offRequest_runs (s := (s.setCtl (fun c => { c with pb := .done })).setCtl (fun c => { c with pbFreed := false })) hp 2
    obtain ⟨hpow, hsrc, -⟩ := State.beginPowerDown_frame ((s.setCtl (fun c => { c with pb := .done })).setCtl (fun c => { c with pbFreed := false })) (show 2 < 16 by decide)
    rw [hbegin] at hoff
    exact ⟨_, congrArg done hoff, hpow, hsrc⟩
  · have hrel : s.pbRelease ms = ({ s with ctl := { s.ctl with pb := .up, pbFreed := true }, hif := { s.hif with attn := true } } : State).post (.pushButton ms 5) := by
      unfold State.pbRelease
      dsimp only
      rw [if_pos (by rw [State.setCtl_power, hp, hpb]; simp [h50, h2000]), hpb]
      simp [State.setCtl, State.post, hp, Power.code]
    exact congrArg done hrel
  · have hexit : s.pbShipHold = (s.setCtl (fun c => { c with pb := .woke, pbFreed := true })).shipExit 2 := by
      unfold State.pbShipHold
      exact if_pos (by rw [hp]; simp [hb])
    obtain ⟨hpow, hlast⟩ := State.shipExit_frame (s.setCtl (fun c => { c with pb := .woke, pbFreed := true })) (show 2 < 16 by decide)
    exact ⟨_, congrArg done hexit, hpow, hlast⟩

end Sys2Proof.Machine
end

section
/-! PROOFS. Requests of SYS_CTRL, the key of SYS_SHIP, and resets (R43, R49, R52, R53). -/
namespace Sys2Proof.Machine

/-! ### Requests of SYS_CTRL and SYS_SHIP (R43, R49, R59, R197) -/

section
variable {s : State}

theorem State.hostAlive_of_power {p : Power} (hv : s.sup.vioh = true) (h : s.power = p) (hp : p ≠ .dead ∧ p ≠ .vbkupOnly ∧ p ≠ .ship) : s.hostAlive = true := by
  unfold State.hostAlive
  rw [State.aoOn_of_power h hp, hv]
  rfl

theorem State.hostAlive_of_runs (hv : s.sup.vioh = true) (h : s.power = .run ∨ s.power = .watch) : s.hostAlive = true :=
  h.elim (fun h => State.hostAlive_of_power hv h (by decide)) fun h => State.hostAlive_of_power hv h (by decide)

theorem exec_sysCtrl (s : State) : exec .sysCtrlReqRun s = hostDone s (·.requestState .run true) ∧ exec .sysCtrlReqWatch s = hostDone s (·.requestState .watch true) ∧ exec .sysCtrlReqHibernate s = hostDone s State.requestOff :=
  ⟨rfl, rfl, rfl⟩

theorem exec_sysShip_key (s : State) : exec (.sysShip 0x5A3C#16) s = hostDone s State.shipKey := rfl

theorem State.requestOff_runs (h : s.power = .run ∨ s.power = .watch) : s.requestOff = s.beginPowerDown 1 := State.offRequest_runs h 1

theorem State.shipKey_runs (h : s.power = .run ∨ s.power = .watch) (hq : s.line.qual = false) (hb : s.present = true) : s.shipKey = s.beginPowerDown 3 := by
  unfold State.shipKey
  rw [hq, hb, if_neg (by decide)]
  rcases h with h | h <;> rw [h]

end

/-- Settles O11: each request in its states. -/
theorem controlRequests : Obligations.ControlRequests := by
  refine ⟨fun s hv hp => ?_, fun s hv hp hs => ?_, fun s hv hp => ?_, fun s hv hp => ?_, fun s hv hp hq hb => ?_, fun s hq => ?_⟩
  · have hreq : s.clocked.requestState .run true = ({ s.clocked with power := .run } : State).trig 0 3 := by
      unfold State.requestState
      rw [show s.clocked.power = .watch from hp]
      rfl
    rw [(exec_sysCtrl s).1, hostDone_of_hostAlive _ (State.hostAlive_of_power hv hp (by decide)), hreq]
  · have hreq : s.clocked.requestState .watch true = ({ s.clocked with power := .watch } : State).trig 0 2 := by
      unfold State.requestState
      rw [show s.clocked.power = .run from hp]
      exact if_neg (by rw [show s.clocked.strokeActive = false from hs]; exact Bool.false_ne_true)
    rw [(exec_sysCtrl s).2.1, hostDone_of_hostAlive _ (State.hostAlive_of_power hv hp (by decide)), hreq]
  · obtain ⟨hpow, hsrc, hship, hon⟩ := s.clocked.beginPowerDown_frame (show 1 < 16 by decide)
    refine ⟨s.clocked.beginPowerDown 1, ?_, hpow, hsrc, hship, hon⟩
    rw [(exec_sysCtrl s).2.2, hostDone_of_hostAlive _ (State.hostAlive_of_runs hv hp), State.requestOff_runs (s := s.clocked) hp]
  · have hreq : s.clocked.requestState .run true = (s.clocked.setCtl (fun c => { c with request := some .run })).wake 9 := by
      unfold State.requestState
      rw [show s.clocked.power = .hibernate from hp]
      rfl
    obtain ⟨hpow, hlast, -, hfrom⟩ := (s.clocked.setCtl (fun c => { c with request := some .run })).wake_frame (show 9 < 16 by decide)
    refine ⟨_, ?_, hpow, hfrom, hlast⟩
    rw [(exec_sysCtrl s).1, hostDone_of_hostAlive _ (State.hostAlive_of_power hv hp (by decide)), hreq]
  · obtain ⟨hpow, hsrc, hship, -⟩ := s.clocked.beginPowerDown_frame (show 3 < 16 by decide)
    refine ⟨s.clocked.beginPowerDown 3, ?_, hpow, hship, hsrc⟩
    rw [exec_sysShip_key, hostDone_of_hostAlive _ (State.hostAlive_of_runs hv hp), State.shipKey_runs (s := s.clocked) hp hq hb]
  · have hkey : ∀ t : State, t.line = s.line → t.shipKey = t := fun t ht => by
      unfold State.shipKey
      rw [ht, hq]
      rfl
    rw [exec_sysShip_key]
    unfold State.framed
    split
    next h => rw [hostDone_of_hostAlive _ h, hkey s.clocked rfl]
    next h => rw [hostDone, if_neg h, done_eq]

/-! ### Resets (R52, R53, R57) -/

section
variable {s : State}

/-- The state in which BOOT begins after a reset: the record of the reset is made and every domain is off. -/
def State.resetRecorded (s : State) (k : ResetKind) : State :=
  let was := s.power
  let s := s.when (was ≠ .boot) State.takeAll
  let s := s.snapshot 3
  let s := ((s.p k.bits.1 1).p F.SYS_RSTCAUSE_LAST k.bits.2).pb F.SYS_RSTCAUSE_INFAULT (was = .fault)
  let s := s.p F.SYS_WAKECAUSE_LAST 0
  let dirty := s.b F.SYS_LDSTAT_DIRTY
  let s := s.setNvm (fun n => { n with wasDirty := n.wasDirty || dirty })
  (s.setCtl (fun c => { c with bootRunning := runningDoor was })).allOff

theorem State.takeReset_eq {k : ResetKind} (h : s.acceptsReset k = true) :
    s.takeReset k = ((s.resetRecorded k).boot .reset true).setCtl (fun c => let low := c.mrLow || k = .pin; { c with resetting := some (if low then .pin else k), mrLow := low }) := if_pos h

theorem ResetKind.bits_eq (k : ResetKind) : ∃ b, 11 ≤ b ∧ b ≤ 13 ∧ k.bits.1 = ⟨A.SYS_RSTCAUSE, b, 1⟩ := by
  cases k
  · exact ⟨11, by decide, by decide, rfl⟩
  · exact ⟨12, by decide, by decide, rfl⟩
  · exact ⟨13, by decide, by decide, rfl⟩

/-- The record of a reset: its bit and code; the straps and MR_N stand. -/
theorem State.resetRecorded_frame (s : State) (k : ResetKind) :
    (s.resetRecorded k).g F.SYS_RSTCAUSE_LAST = k.bits.2 ∧ (s.resetRecorded k).b k.bits.1 = true ∧ (s.resetRecorded k).ctl.mrLow = s.ctl.mrLow ∧ (s.resetRecorded k).rd A.SYS_STRAP = s.rd A.SYS_STRAP := by
  have hbefore : ((s.when (s.power ≠ .boot) State.takeAll).snapshot 3).ControlOf s := ((State.ControlOf.refl s).when fun _ h => h.takeAll).snapshot
  unfold State.resetRecorded
  dsimp only
  generalize (s.when (s.power ≠ .boot) State.takeAll).snapshot 3 = t at hbefore ⊢
  generalize decide (s.power = .fault) = inFault
  obtain ⟨b, h11, h13, hb⟩ := k.bits_eq
  have hcode : k.bits.2 < 16 := by cases k <;> decide
  have hset : t.p k.bits.1 1 = t.pb k.bits.1 true := rfl
  have hlast : ((((t.p k.bits.1 1).p F.SYS_RSTCAUSE_LAST k.bits.2).pb F.SYS_RSTCAUSE_INFAULT inFault).p F.SYS_WAKECAUSE_LAST 0).g F.SYS_RSTCAUSE_LAST = k.bits.2 := by
    rw [State.g_p_ne _ 0 (by decide)]
    exact (State.g_p_beside _ _ (f := F.SYS_RSTCAUSE_INFAULT) (by decide) (.inl (by decide))).trans ((State.g_p_same _ F.SYS_RSTCAUSE_LAST _ (by decide)).trans (Nat.mod_eq_of_lt hcode))
  have hbit : ((((t.p k.bits.1 1).p F.SYS_RSTCAUSE_LAST k.bits.2).pb F.SYS_RSTCAUSE_INFAULT inFault).p F.SYS_WAKECAUSE_LAST 0).b k.bits.1 = true := by
    have h1 := t.b_pb_same k.bits.1 true (by rw [hb]; show b + 1 ≤ 16; omega) (by rw [hb])
    rw [← hset] at h1
    refine Eq.trans (congrArg (· != 0) ?_) h1
    rw [State.g_p_ne _ 0 (by rw [hb]; show A.SYS_RSTCAUSE ≠ A.SYS_WAKECAUSE; decide)]
    refine (State.g_p_beside _ _ (f := F.SYS_RSTCAUSE_INFAULT) (by decide) (.inl (by rw [hb]; show b + 1 ≤ 14; omega))).trans ?_
    exact State.g_p_beside _ _ (f := F.SYS_RSTCAUSE_LAST) (by decide) (.inr (by rw [hb]; show 0 + 4 ≤ b; omega))
  have hstrap : ((((t.p k.bits.1 1).p F.SYS_RSTCAUSE_LAST k.bits.2).pb F.SYS_RSTCAUSE_INFAULT inFault).p F.SYS_WAKECAUSE_LAST 0).rd A.SYS_STRAP = s.rd A.SYS_STRAP := by
    rw [State.rd_p_ne _ 0 (by decide)]
    refine (State.rd_p_ne _ _ (f := F.SYS_RSTCAUSE_INFAULT) (by decide)).trans ?_
    rw [State.rd_p_ne _ _ (by decide), State.rd_p_ne _ _ (by rw [hb]; show A.SYS_STRAP ≠ A.SYS_RSTCAUSE; decide)]
    exact hbefore.rd _ (by decide)
  have hmr : ((((t.p k.bits.1 1).p F.SYS_RSTCAUSE_LAST k.bits.2).pb F.SYS_RSTCAUSE_INFAULT inFault).p F.SYS_WAKECAUSE_LAST 0).ctl.mrLow = s.ctl.mrLow := hbefore.keepsCtl Control.mrLow fun _ _ _ _ => rfl
  generalize (((t.p k.bits.1 1).p F.SYS_RSTCAUSE_LAST k.bits.2).pb F.SYS_RSTCAUSE_INFAULT inFault).p F.SYS_WAKECAUSE_LAST 0 = u at hlast hbit hstrap hmr ⊢
  generalize u.b F.SYS_LDSTAT_DIRTY = dirty
  have hrd : ∀ (f : Nvm → Nvm) (g : Control → Control) a, ((u.setNvm f).setCtl g).rd a = u.rd a := fun _ _ _ => rfl
  have hoff := State.ControlOf.allOff (State.ControlOf.refl ((u.setNvm (fun n => { n with wasDirty := n.wasDirty || dirty })).setCtl (fun c => { c with bootRunning := runningDoor s.power })))
  refine ⟨(hoff.g (by decide)).trans hlast, (State.b_congr ((hoff.rd _ ?_).trans (hrd _ _ _))).trans hbit, (hoff.keepsCtl Control.mrLow fun _ _ _ _ => rfl).trans hmr, (hoff.rd _ (by decide)).trans hstrap⟩
  rw [hb]
  show offControl A.SYS_RSTCAUSE = false
  decide

/-- A reset that is taken. -/
theorem State.takeReset_frame {k : ResetKind} (h : s.acceptsReset k = true) :
    (s.takeReset k).power = .boot ∧ (s.takeReset k).nvm.bootStep = 0 ∧ (s.takeReset k).g F.SYS_RSTCAUSE_LAST = k.bits.2 ∧ (s.takeReset k).b k.bits.1 = true ∧
      (s.takeReset k).ctl.resetting = some (if s.ctl.mrLow || k = .pin then .pin else k) ∧ (s.takeReset k).ctl.mrLow = (s.ctl.mrLow || k = .pin) ∧ (s.takeReset k).eng = State.reset.eng ∧
      (s.takeReset k).line.fullOn = false ∧ (s.takeReset k).line.inrush = .none ∧ (s.takeReset k).ctl.strapDue = true ∧ (s.takeReset k).rd A.SYS_STRAP = s.rd A.SYS_STRAP ∧
      (∀ a, a ≠ A.SYS_STRAP → survivalOf a = .volatile ∨ survivalOf a = .config → (s.takeReset k).rd a = resetWord a) := by
  obtain ⟨hlast, hbit, hmr, hstrap⟩ := s.resetRecorded_frame k
  obtain ⟨b, -, -, hb⟩ := k.bits_eq
  rw [State.takeReset_eq h]
  generalize s.resetRecorded k = t at hlast hbit hmr hstrap ⊢
  obtain ⟨hp, hctl, hn, he, -⟩ := t.boot_frame .reset true
  obtain ⟨hf, hi⟩ := t.boot_line .reset true
  have hcause : (t.boot .reset true).rd A.SYS_RSTCAUSE = t.rd A.SYS_RSTCAUSE := t.boot_rd_kept .reset survivalOf_wakeCause.2
  have hstraps : (t.boot .reset true).rd A.SYS_STRAP = t.rd A.SYS_STRAP := t.boot_rd .reset true (by decide)
  have hlost := fun a => t.boot_rd_lost .reset true (a := a)
  have hmr' : (t.boot .reset true).ctl.mrLow = s.ctl.mrLow := (congrArg Control.mrLow hctl).trans hmr
  have hdue : (t.boot .reset true).ctl.strapDue = true := congrArg Control.strapDue hctl
  generalize t.boot .reset true = u at hp hn he hf hi hcause hstraps hlost hmr' hdue ⊢
  refine ⟨hp, hn, (State.g_congr hcause).trans hlast, (State.b_congr ?_).trans hbit, ?_, ?_, he, hf, hi, hdue, hstraps.trans hstrap, fun a ha hs => hlost a ha hs⟩
  · rw [hb]
    exact hcause
  · rw [← hmr']
    rfl
  · rw [← hmr']
    rfl

end

/-- A status word of a domain is volatile. -/
theorem survivalOf_domStat : ∀ n ∈ domains, survivalOf (domBase n + 0x0001) = .volatile ∧ (F.DOM_STAT_CMDON n).get (resetWord (domBase n + 0x0001)) = 0 := by decide

theorem State.cmdOn_of_reset {s : State} {n : Nat} (hn : n ∈ domains) (h : s.rd (domBase n + 0x0001) = resetWord (domBase n + 0x0001)) : s.cmdOn n = false := by
  have hw : s.g (F.DOM_STAT_CMDON n) = 0 := (congrArg (F.DOM_STAT_CMDON n).get h).trans (survivalOf_domStat n hn).2
  exact congrArg (· != 0) hw

theorem exec_reset (s : State) : exec .pinReset s = done (s.takeReset .pin) ∧ exec (.sysReset 0xA5C3#16) s = hostDone s (·.takeReset .host) ∧ ∀ w, exec (.sysReset w) s = hostDone s (·.writeSysReset w) :=
  ⟨rfl, rfl, fun _ => rfl⟩

theorem State.takeReset_clocked_rd (s : State) : s.clocked.rd A.SYS_STRAP = s.rd A.SYS_STRAP ∧ s.clocked.ctl.mrLow = s.ctl.mrLow := ⟨rfl, rfl⟩

/-- Settles O10: a reset taken, the words that are none, and the end of the shutdown. -/
theorem resetsEnterBoot : Obligations.ResetsEnterBoot := by
  have htaken : ∀ (s : State) (k : ResetKind), s.acceptsReset k = true → (∀ n ∈ domains, (s.takeReset k).cmdOn n = false) ∧ ∀ x ∈ (s.takeReset k).eng, x.mode = .stopped := fun s k h => by
    obtain ⟨-, -, -, -, -, -, he, -, -, -, -, hlost⟩ := State.takeReset_frame h
    refine ⟨fun n hn => State.cmdOn_of_reset hn (hlost _ ?_ (.inl (survivalOf_domStat n hn).1)), fun x hx => ?_⟩
    · have h2 : 0x0200 ≤ domBase n := Nat.le_add_right _ _
      exact fun e => absurd (e ▸ h2 : 0x0200 ≤ A.SYS_STRAP - 1) (by decide)
    · rw [he] at hx
      exact (List.eq_of_mem_replicate hx) ▸ rfl
  refine ⟨fun s c pin h => ?_, fun s w hw => ?_, fun s h => ?_, fun s h => ⟨?_, ?_⟩⟩
  · rcases h with ⟨rfl, rfl, ha⟩ | ⟨rfl, rfl, ha⟩
    · obtain ⟨hp, hn, hlast, hbit, hres, hmr, he, hf, hi, hdue, hstrap, hlost⟩ := State.takeReset_frame (s := s) (k := .pin) ha
      obtain ⟨hcmd, heng⟩ := htaken s .pin ha
      refine ⟨s.takeReset .pin, (exec_reset s).1, hp, hn, hlast, hbit, ?_, ?_, hcmd, heng, hf, hi, hdue, hstrap, hlost⟩
      · rw [hres]
        simp
      · rw [hmr]
        simp
    · obtain ⟨hp, hn, hlast, hbit, hres, hmr, he, hf, hi, hdue, hstrap, hlost⟩ := State.takeReset_frame (s := s.clocked) (k := .host) ha
      obtain ⟨hcmd, heng⟩ := htaken s.clocked .host ha
      refine ⟨s.clocked.takeReset .host, (exec_reset s).2.1.trans (hostDone_of_hostAlive _ ha), hp, hn, hlast, hbit, ?_, ?_, hcmd, heng, hf, hi, hdue, hstrap, hlost⟩
      · rw [hres, s.takeReset_clocked_rd.2]
        simp
      · rw [hmr, s.takeReset_clocked_rd.2]
        simp
  · rw [(exec_reset s).2.2 w]
    exact hostDone_of_unchanged s fun t => if_neg hw
  · have hend : exec .resetShutdownEnd s = done (s.when (s.ctl.resetting.isSome && s.ctl.resetting ≠ some .pin) (·.setCtl (fun c => { c with resetting := none }))) := rfl
    rw [hend, h]
    rfl
  · have hend : exec .resetShutdownEnd s = done (s.when (s.ctl.resetting.isSome && s.ctl.resetting ≠ some .pin) (·.setCtl (fun c => { c with resetting := none }))) := rfl
    rw [hend, h]
    rfl
  · have hrel : exec .mrNRelease s = done (s.setCtl (fun c => { c with mrLow := false, resetting := if c.resetting = some .pin then none else c.resetting })) := rfl
    rw [hrel, State.setCtl, if_pos h]
    rfl

end Sys2Proof.Machine
end

section
/-! PROOFS. Supplies and clocks: the loss of AO and its return (R33, R34, R36, R52). -/
namespace Sys2Proof.Machine

/-! ### AO is lost (R34, R36, R52, R610) -/

section
variable {s : State}

/-- R34, R601: what the RTC's island loses. -/
theorem State.islandDark_frame (s : State) :
    s.islandDark.power = s.power ∧ s.islandDark.mrq = s.mrq ∧ s.islandDark.sup = { s.sup with rtcLost := s.sup.rtcLost || !s.sup.vbk150 } ∧
      (∀ a, a ≠ A.RTC_STAT → a ≠ A.RTC_TRIM → s.islandDark.rd a = s.rd a) := by
  have hlose : ∀ a, a ≠ A.RTC_STAT → a ≠ A.RTC_TRIM → s.rtcLose.rd a = s.rd a := fun a h1 h2 => (State.rd_wn_ne _ 0 h2).trans (State.rd_wn_ne _ 0 h1)
  unfold State.islandDark
  cases hv : s.sup.vbk150
  · exact ⟨rfl, rfl, by rw [Bool.not_false, Bool.or_true]; rfl, hlose⟩
  · exact ⟨rfl, rfl, by rw [Bool.not_true, Bool.or_false]; rfl, fun _ _ _ => rfl⟩

/-- R36: the state in which AO is lost, its record made. -/
def State.lossRecorded (s : State) : State :=
  let was := s.power
  let s := s.snapshot 3
  let dirty := s.b F.SYS_LDSTAT_DIRTY
  let s := s.setNvm (fun n => { n with wasDirty := n.wasDirty || dirty })
  let s := { s with line := Line.init }
  let s := s.when s.sup.vbk150 State.bktsCapture
  s.setCtl (fun c => { c with lostIn := was, bootRunning := runningDoor was, foff := false, pb := .up, pbFreed := true, mrLow := false })

theorem State.lossRecorded_sup (s : State) : s.lossRecorded.sup = s.sup := by
  have hsnap := s.snapshot_controlOf 3
  unfold State.lossRecorded
  generalize s.snapshot 3 = t at hsnap ⊢
  refine (State.when_keeps State.sup (fun u => ?_) _ _).trans hsnap.sup
  exact (State.bktsCapture_controlOf (State.ControlOf.refl u)).sup

/-- R55: the registers that a loss of AO leaves. -/
def survivesLoss (a : Nat) : Bool := match survivalOf a with | .volatile => false | .config => false | .learned => false | .kept => true | .rtc => true | .fuse => true

theorem State.aoLoss_eq (s : State) :
    ∃ n : Nvm, s.aoLoss =
      ((({ ({ s.lossRecorded with power := if s.lossRecorded.sup.vbk175 then .vbkupOnly else .dead } : State).wipe with
            regs := ({ s.lossRecorded with power := if s.lossRecorded.sup.vbk175 then .vbkupOnly else .dead } : State).wipe.regs.keep survivesLoss
            nvm := n } : State).setSup (fun u => { u with retLost := u.retLost || !s.lossRecorded.sup.vbk175 })).rtcDiscard.islandDark) :=
  ⟨_, rfl⟩

/-- What stands where AO has been lost. -/
theorem State.aoLoss_frame (s : State) :
    s.aoLoss.power = (if s.sup.vbk175 then .vbkupOnly else .dead) ∧ s.aoLoss.mrq.pkts = [] ∧
      s.aoLoss.sup = { s.sup with retLost := s.sup.retLost || !s.sup.vbk175, rtcLost := s.sup.rtcLost || !s.sup.vbk150 } ∧
      (∀ a, survivalOf a = .volatile ∨ survivalOf a = .config → s.aoLoss.rd a = resetWord a) := by
  obtain ⟨n, heq⟩ := s.aoLoss_eq
  have hsup := s.lossRecorded_sup
  rw [heq]
  clear heq
  generalize s.lossRecorded = t at hsup ⊢
  rw [← hsup]
  have hpow : ({ t with power := if t.sup.vbk175 then .vbkupOnly else .dead } : State).wipe.power = if t.sup.vbk175 then .vbkupOnly else .dead := rfl
  have hpkts : ({ t with power := if t.sup.vbk175 then .vbkupOnly else .dead } : State).wipe.mrq.pkts = [] := rfl
  have hwiped : ({ t with power := if t.sup.vbk175 then .vbkupOnly else .dead } : State).wipe.sup = t.sup := rfl
  generalize ({ t with power := if t.sup.vbk175 then .vbkupOnly else .dead } : State).wipe = u at hpow hpkts hwiped ⊢
  obtain ⟨hp, hm, hs, hrd⟩ := ((({ u with regs := u.regs.keep survivesLoss, nvm := n } : State).setSup (fun u => { u with retLost := u.retLost || !t.sup.vbk175 })).rtcDiscard).islandDark_frame
  refine ⟨hp.trans hpow, (congrArg Mrq.pkts hm).trans hpkts, hs.trans ?_, fun a ha => ?_⟩
  · rw [← hwiped]
    rfl
  · have hstat : a ≠ A.RTC_STAT := by
      rintro rfl
      exact absurd ha (by decide)
    have htrim : a ≠ A.RTC_TRIM := by
      rintro rfl
      exact absurd ha (by decide)
    have hlost : survivesLoss a = false := by
      unfold survivesLoss
      rcases ha with ha | ha <;> rw [ha]
    rw [hrd a hstat htrim]
    refine (State.rd_p_ne _ 0 hstat).trans ((RegFile.get_keep _ _ _).trans ?_)
    rw [hlost]
    rfl

/-! ### AO is ready (R23, R33, R57) -/

theorem bandCode_le (lo : Nat) (mid : List Nat) (hi mv : Nat) : bandCode lo mid hi mv ≤ mid.length + 2 := by
  have hmid : (mid.filter (fun e => decide (e < mv) || (decide (e = mv) && Config.bandUp mv))).length ≤ mid.length := List.length_filter_le _ _
  have hlo := Bool.toNat_le (decide (lo ≤ mv))
  have hhi := Bool.toNat_le (decide (hi < mv))
  unfold bandCode
  omega

theorem sixLevel_le (mv : Nat) : sixLevel mv ≤ 5 := bandCode_le _ _ _ _

theorem roleOf_le (c : Nat) : roleOf c ≤ 2 := by
  unfold roleOf
  split
  next h => simp at h; omega
  next => omega

/-- R23: what the latched straps read. -/
theorem State.latchStraps_frame (s : State) (t : Straps) :
    (s.latchStraps t).g F.SYS_STRAP_ROLE = roleOf (sixLevel t.role) ∧ (s.latchStraps t).g F.SYS_STRAP_HSEL = sixLevel t.hsel ∧ (s.latchStraps t).rn A.SYS_STRAP % 64 = 8 * sixLevel t.addrH + sixLevel t.addrL ∧
      (∀ a, a ≠ A.SYS_STRAP → (s.latchStraps t).rd a = s.rd a) := by
  have hword : (s.latchStraps t).rn A.SYS_STRAP = (s.rn A.SYS_STRAP / 2048 % 8 * 2048 + 512 * roleOf (sixLevel t.role) + 64 * sixLevel t.hsel + 8 * sixLevel t.addrH + sixLevel t.addrL) % 65536 := State.rn_wn_same _ _ _
  have hrole : (s.latchStraps t).g F.SYS_STRAP_ROLE = (s.latchStraps t).rn A.SYS_STRAP / 2 ^ 9 % 2 ^ 2 := rfl
  have hhsel : (s.latchStraps t).g F.SYS_STRAP_HSEL = (s.latchStraps t).rn A.SYS_STRAP / 2 ^ 6 % 2 ^ 3 := rfl
  have h1 := roleOf_le (sixLevel t.role)
  have h2 := sixLevel_le t.hsel
  have h3 := sixLevel_le t.addrH
  have h4 := sixLevel_le t.addrL
  refine ⟨?_, ?_, ?_, fun a ha => State.rd_wn_ne _ _ ha⟩
  · rw [hrole, hword]
    omega
  · rw [hhsel, hword]
    omega
  · rw [hword]
    omega

/-- What follows the latch of the straps. -/
def State.lineFound (s : State) : State := (((s.setCtl (fun c => { c with strapDue := false })).findLine.beginQualification).almArm 0).almArm 1

theorem State.lineFound_keeps {β : Type} (g : State → β) (hg : ∀ u c l x, g { u with ctl := c, line := l, rtcx := x } = g u) (s : State) : g s.lineFound = g s :=
  (hg _ _ _ _).trans ((hg _ _ _ _).trans ((State.beginQualification_keeps g (fun u l => hg u u.ctl l u.rtcx) _).trans ((hg _ _ _ _).trans (hg _ _ _ _))))

theorem State.lineFound_strapDue (s : State) : s.lineFound.ctl.strapDue = false := State.beginQualification_keeps (fun u => u.ctl.strapDue) (fun _ _ => rfl) _

/-- R52, R57: the reset that AO's return is, and its record. -/
def State.restarted (s : State) : State :=
  if s.sup.retLost then s.coldBoot .cold
  else (((((s.p F.SYS_RSTCAUSE_BOR 1).p F.SYS_RSTCAUSE_LAST 2).pb F.SYS_RSTCAUSE_INFAULT (s.ctl.lostIn = .fault)).p F.SYS_WAKECAUSE_LAST 0).boot .brownOut true)

theorem State.aoReady_eq (t : Straps) (pack : Bool) (h : s.power = .dead ∨ s.power = .vbkupOnly) (hs : s.sup.starting = true) :
    s.aoReady t pack = ((s.setSup (fun u => { u with starting := false, pack := pack })).restarted.latchStraps t).lineFound := by
  have h1 : s.power ≠ .ship := by
    rcases h with h | h <;> rw [h] <;> decide
  have h2 : ((s.power = .dead || s.power = .vbkupOnly) && s.sup.starting) = true := by
    rcases h with h | h <;> rw [h, hs] <;> rfl
  exact (if_neg h1).trans (if_pos h2)

/-- R33, R57: BOOT as AO's return begins it. -/
theorem State.restarted_frame (s : State) :
    s.restarted.power = .boot ∧ s.restarted.sup.starting = false ∧ s.restarted.sup.pack = s.sup.pack ∧ s.restarted.nvm.bootStep = 0 ∧ s.restarted.g F.SYS_RSTCAUSE_LAST = (if s.sup.retLost then 1 else 2) ∧
      (if s.sup.retLost then s.restarted.b F.SYS_RSTCAUSE_COLD = true else s.restarted.b F.SYS_RSTCAUSE_BOR = true) := by
  unfold State.restarted
  cases hr : s.sup.retLost
  · rw [if_neg Bool.false_ne_true, if_neg Bool.false_ne_true, if_neg Bool.false_ne_true]
    generalize decide (s.ctl.lostIn = .fault) = inFault
    have hlast : ((((s.p F.SYS_RSTCAUSE_BOR 1).p F.SYS_RSTCAUSE_LAST 2).pb F.SYS_RSTCAUSE_INFAULT inFault).p F.SYS_WAKECAUSE_LAST 0).g F.SYS_RSTCAUSE_LAST = 2 := by
      rw [State.g_p_ne _ 0 (by decide)]
      exact (State.g_p_beside _ _ (f := F.SYS_RSTCAUSE_INFAULT) (by decide) (.inl (by decide))).trans (State.g_p_same _ F.SYS_RSTCAUSE_LAST _ (by decide))
    have hbor : ((((s.p F.SYS_RSTCAUSE_BOR 1).p F.SYS_RSTCAUSE_LAST 2).pb F.SYS_RSTCAUSE_INFAULT inFault).p F.SYS_WAKECAUSE_LAST 0).b F.SYS_RSTCAUSE_BOR = true := by
      have hone : ∀ u : State, u.g F.SYS_RSTCAUSE_BOR = 1 → u.b F.SYS_RSTCAUSE_BOR = true := fun u h => congrArg (· != 0) h
      apply hone
      rw [State.g_p_ne _ 0 (by decide)]
      refine (State.g_p_beside _ _ (f := F.SYS_RSTCAUSE_INFAULT) (by decide) (.inl (by decide))).trans ?_
      exact (State.g_p_beside _ _ (f := F.SYS_RSTCAUSE_LAST) (by decide) (.inr (by decide))).trans (State.g_p_same _ F.SYS_RSTCAUSE_BOR _ (by decide))
    have hsup : ((((s.p F.SYS_RSTCAUSE_BOR 1).p F.SYS_RSTCAUSE_LAST 2).pb F.SYS_RSTCAUSE_INFAULT inFault).p F.SYS_WAKECAUSE_LAST 0).sup = s.sup := rfl
    generalize (((s.p F.SYS_RSTCAUSE_BOR 1).p F.SYS_RSTCAUSE_LAST 2).pb F.SYS_RSTCAUSE_INFAULT inFault).p F.SYS_WAKECAUSE_LAST 0 = t at hlast hbor hsup ⊢
    obtain ⟨hp, -, hn, -, -, hs⟩ := t.boot_frame .brownOut true
    have hcause : (t.boot .brownOut true).rd A.SYS_RSTCAUSE = t.rd A.SYS_RSTCAUSE := t.boot_rd_kept .brownOut survivalOf_wakeCause.2
    refine ⟨hp, congrArg Supply.starting hs, ?_, hn, (State.g_congr hcause).trans hlast, (State.b_congr hcause).trans hbor⟩
    rw [hs, hsup]
  · rw [if_pos rfl, if_pos rfl, if_pos rfl]
    unfold State.coldBoot
    dsimp only
    have hsup : (s.setCtl (fun c => { c with bootRunning := false })).sup = s.sup := rfl
    generalize s.setCtl (fun c => { c with bootRunning := false }) = t at hsup ⊢
    obtain ⟨hp, -, hn, -, -, hs⟩ := t.boot_frame .cold false
    generalize t.boot .cold false = u at hp hn hs ⊢
    have hword : ∀ v f, ((u.wn A.SYS_RSTCAUSE v).setSup f).rd A.SYS_RSTCAUSE = BitVec.ofNat 16 v := fun v f => State.rd_wr_same _ _ _
    have hst : u.sup.starting = false := by rw [hs]
    have hpk : u.sup.pack = t.sup.pack := by rw [hs]
    refine ⟨hp, hst, hpk.trans (congrArg Supply.pack hsup), hn, ?_, ?_⟩
    · refine (congrArg F.SYS_RSTCAUSE_LAST.get (hword _ _)).trans ?_
      split <;> rfl
    · refine (congrArg (fun w => F.SYS_RSTCAUSE_COLD.get w != 0) (hword _ _)).trans ?_
      split <;> rfl

end

theorem exec_preregStart (s : State) (l b : Nat) : exec (.preregStart l b) s = done (s.preregStart l b) := rfl

theorem exec_loss (s : State) (l b : Nat) : exec .aoBrownout s = done s.brownOut ∧ exec (.preregStop l b) s = done (s.preregStop l b) := ⟨rfl, rfl⟩

theorem exec_aoReady (s : State) (t : Straps) (pack : Bool) : exec (.aoReady t pack) s = done (s.aoReady t pack) := rfl

/-- R36: the commands that AO is lost by. -/
theorem exec_lost {s : State} (h : s.aoOn = true) (l b : Nat) :
    exec .aoBrownout s = .next (s.aoLoss.setSup (fun u => { u with starting := true })).settle ∧
      exec (.preregStop l b) s = .next (s.setSup (fun u => { u with lineDv := l, battMv := b, starting := false })).aoLoss.settle := by
  rw [(exec_loss s l b).1, (exec_loss s l b).2, done_eq, done_eq]
  have h1 : s.brownOut = s.aoLoss.setSup (fun u => { u with starting := true }) := if_pos h
  have h2 : s.preregStop l b = (s.setSup (fun u => { u with lineDv := l, battMv := b, starting := false })).aoLoss := if_pos h
  rw [h1, h2]
  exact ⟨rfl, rfl⟩

/-- Settles O8: each supply event and each clock event in its states. -/
theorem suppliesAndClocks : Obligations.SuppliesAndClocks := by
  refine ⟨fun s l b h => ?_, fun s mv ha h hmv => ?_, fun s => rfl, fun s => rfl, fun s ha hc hx => ?_, fun s ha hc hx => ?_, fun s ha => ?_, fun s ha h1 h2 h3 h4 hd => ?_, fun s ha => ?_,
    fun s c ha hc => ?_, fun s straps pack h hs => ?_⟩
  · have heq : s.preregStart l b = { s with sup := { s.sup with lineDv := l, battMv := b, starting := true } } := if_pos (by
      rcases h with h | h <;> rw [show (s.setSup (fun u => { u with lineDv := l, battMv := b })).power = _ from h] <;> rfl)
    rw [exec_preregStart, heq, done_eq]
  · have hlow : decide (1750 ≤ mv) = false := decide_eq_false (by omega)
    have heq : s.vbkupLevel mv = ({ s with sup := { s.sup with vbk175 := false, vbk150 := decide (1500 ≤ mv) } } : State).raise 97 := by
      refine (if_pos ha).trans ?_
      rw [hlow, h]
      rfl
    rw [show exec (.vbkupLevelChange mv) s = done (s.vbkupLevel mv) from rfl, heq, done_eq]
  · have heq : s.crystalStable = s.p F.SYS_CLK_LFSRC 1 := if_pos (by rw [State.aoFed, ha, hc, hx]; rfl)
    rw [show exec .crystalStable s = done s.crystalStable from rfl, heq, done_eq]
  · have heq : s.crystalFail = ((((s.p F.SYS_CLK_LFSRC 0).p F.SYS_CLK_LFFAIL 1).setSup (fun u => { u with xtalGiven := true })).when s.aoOn (·.raise 100)) := if_pos (by rw [State.aoFed, ha, hc, hx]; rfl)
    rw [show exec .lfXtalFail s = done s.crystalFail from rfl, heq, ha, done_eq]
    rfl
  · rw [show exec .fastOscStart s = done s.demandFast from rfl, State.demandFast, ha, done_eq]
    rfl
  · have halways : s.fastAlways = false := by
      unfold State.fastAlways
      rw [decide_eq_false h1, decide_eq_false h2, decide_eq_false h3, decide_eq_false h4]
      rfl
    rw [show exec .fastOscIdleStop s = done (s.when (s.aoOn && !s.fastAlways && !s.fastDemand) (·.setSup (fun u => { u with fastOn := false }))) from rfl, ha, halways, hd, done_eq]
    rfl
  · rw [show exec .fastOscFail s = done s.fastFail from rfl, State.fastFail, if_pos ha, done_eq]
    rfl
  · rcases hc with rfl | ⟨l, b, rfl⟩
    · obtain ⟨hp, hm, hsup, hrd⟩ := s.aoLoss_frame
      refine ⟨_, (exec_lost ha 0 0).1, hp, ?_, ?_, rfl, hm, fun a _ _ h => hrd a h⟩
      · exact congrArg Supply.retLost hsup
      · exact congrArg Supply.rtcLost hsup
    · obtain ⟨hp, hm, hsup, hrd⟩ := (s.setSup (fun u => { u with lineDv := l, battMv := b, starting := false })).aoLoss_frame
      refine ⟨_, (exec_lost ha l b).2, hp, congrArg Supply.retLost hsup, congrArg Supply.rtcLost hsup, (congrArg Supply.starting hsup).trans (decide_eq_false (by simp)).symm, hm, fun a _ _ h => hrd a h⟩
  · obtain ⟨hp, hst, hpk, hn, hlast, hbit⟩ := (s.setSup (fun u => { u with starting := false, pack := pack })).restarted_frame
    have heq := State.aoReady_eq straps pack h hs
    rw [exec_aoReady, done_eq, heq]
    clear heq
    generalize (s.setSup (fun u => { u with starting := false, pack := pack })).restarted = t at hp hst hpk hn hlast hbit ⊢
    obtain ⟨hrole, hhsel, haddr, hrd⟩ := t.latchStraps_frame straps
    have hcause := hrd A.SYS_RSTCAUSE (by decide)
    have hkeep : ∀ {β : Type} (g : State → β) (_ : ∀ u c l x, g { u with ctl := c, line := l, rtcx := x } = g u), g (t.latchStraps straps).lineFound = g (t.latchStraps straps) := fun g hg => State.lineFound_keeps g hg _
    refine ⟨_, rfl, (hkeep State.power fun _ _ _ _ => rfl).trans hp, (hkeep (fun u => u.sup.starting) fun _ _ _ _ => rfl).trans hst, (hkeep (fun u => u.sup.pack) fun _ _ _ _ => rfl).trans hpk,
      (hkeep (fun u => u.nvm.bootStep) fun _ _ _ _ => rfl).trans hn, (hkeep (State.g · F.SYS_STRAP_ROLE) fun _ _ _ _ => rfl).trans hrole, (hkeep (State.g · F.SYS_STRAP_HSEL) fun _ _ _ _ => rfl).trans hhsel,
      (congrArg (· % 64) (hkeep (State.rn · A.SYS_STRAP) fun _ _ _ _ => rfl)).trans haddr, ((hkeep (State.g · F.SYS_RSTCAUSE_LAST) fun _ _ _ _ => rfl).trans (State.g_congr hcause)).trans hlast, ?_, State.lineFound_strapDue _⟩
    have hcold : (t.latchStraps straps).lineFound.rd A.SYS_RSTCAUSE = t.rd A.SYS_RSTCAUSE := (hkeep (State.rd · A.SYS_RSTCAUSE) fun _ _ _ _ => rfl).trans hcause
    rw [State.b_congr (f := F.SYS_RSTCAUSE_COLD) hcold, State.b_congr (f := F.SYS_RSTCAUSE_BOR) hcold]
    exact hbit

end Sys2Proof.Machine
end

section
/-! PROOFS. An engine starts, goes on and ends; the end of SYS's program (R43, R47, R87, R149, R150, R205). -/
namespace Sys2Proof.Machine

/-! ### An engine starts, goes on and ends (R147, R149, R150) -/

section
variable {s : State} {k : Nat}

/-- R146: the sample and the engine of the step time are all that its opening changes. -/
theorem State.openStep_keeps {β : Type} (g : State → β) (hg : ∀ u a b, g { u with ctl := { u.ctl with samp := a, stepNow := b } } = g u) (s : State) (k : Nat) : g (s.openStep k) = g s := by
  have heq : ∃ a b, s.openStep k = { s with ctl := { s.ctl with samp := a, stepNow := b } } := by
    unfold State.openStep State.when
    dsimp only
    split <;> split <;> exact ⟨_, _, rfl⟩
  obtain ⟨a, b, h⟩ := heq
  rw [h]
  exact hg s a b

theorem State.engAt_setEng_same (f : Engine → Engine) (hk : k < s.eng.length) : (s.setEng k f).engAt k = f (s.engAt k) := by rw [State.engAt_setEng, if_pos ⟨rfl, hk⟩]

theorem State.engAt_setEng_ne (f : Engine → Engine) {j : Nat} (hj : j ≠ k) : (s.setEng k f).engAt j = s.engAt j := by rw [State.engAt_setEng, if_neg fun h => hj h.1.symm]

/-- An engine that is not stopped is one of the twelve. -/
theorem State.lt_of_mode (h : (s.engAt k).mode ≠ .stopped) : k < s.eng.length := by
  by_contra hk
  exact h (congrArg Engine.mode (List.getD_eq_default _ _ (Nat.le_of_not_lt hk)))

/-- R150: what the end of its program makes of an engine. -/
def Engine.ended (e : Engine) : Engine := { e with mode := .idle, stepping := false }

theorem State.endProgram_other (hk : k ≠ 0) : s.endProgram k = s.setEng k Engine.ended := if_neg hk

theorem State.endProgram_sys (s : State) :
    s.endProgram 0 = if (s.setEng 0 Engine.ended).power = .powerUp then (s.setEng 0 Engine.ended).endPowerUp
      else if (s.setEng 0 Engine.ended).power = .powerDown && (s.setEng 0 Engine.ended).ctl.entryWaits.isNone then (s.setEng 0 Engine.ended).endPowerDown else s.setEng 0 Engine.ended := rfl

theorem State.advance_end {n : Nat} (h : s.engLen k ≤ (s.engAt k).pc + n) (hk : k ≠ 0) : s.advance k n = s.setEng k Engine.ended := (if_pos h).trans (State.endProgram_other hk)

/-- R149: what a start makes of an engine. -/
def Engine.started (t : Nat) (e : Engine) : Engine := { e with mode := .run, pc := t, pend := e.pend.filter (fun u => u ≠ t && !(e.pre && u = 0)), pre := false, l0 := 0, l1 := 0 }

theorem exec_engineStart {t : Nat} (hm : s.mayStart k = true) (ht : (if (s.engAt k).pre then some 1 else (s.engAt k).pend.head?) = some t) :
    exec (.engineStart k) s = done (if s.engLen k ≤ t then ((s.keepStep k).setEng k (Engine.started t)).endProgram k else (s.keepStep k).setEng k (Engine.started t)) := by
  have hstart : (s.keepStep k).startEngine k = if s.engLen k ≤ t then ((s.keepStep k).setEng k (Engine.started t)).endProgram k else (s.keepStep k).setEng k (Engine.started t) := by
    unfold State.startEngine
    rw [show ((s.keepStep k).engAt k).first = some t from ht]
    rfl
  rw [← hstart]
  show done (s.when (s.mayStart k) _) = _
  rw [hm]
  rfl

theorem exec_engEnd (hm : s.mayStep k = true) (hst : s.stepAt k = .ok .end_) : exec (.engEnd k) s = done ((s.openStep k).endProgram k) := by
  show ran (s.engRow k _) = _
  rw [State.engRow_at hm hst]
  rfl

/-! ### The end of SYS's program (R43, R87, R205) -/

/-- A step time with nothing raised and nothing posted gathers nothing. -/
theorem State.gather_nothing (hr : s.flt.raised = []) (ho : s.mrq.outbox = []) (n : Nat) : s.gather id (n + 1) [] = (s, []) := by
  have hcollect : s.collect = (s, []) := if_pos (by rw [hr]; rfl)
  have hopen : s.openPosted = s := by
    unfold State.openPosted
    rw [ho]
    show ({ s with mrq := { s.mrq with outbox := [] } } : State) = s
    rw [← ho]
  have hwhen : s.when (s.aoOn && s.power ≠ .boot) State.openPosted = s := by
    cases (s.aoOn && decide (s.power ≠ .boot))
    · rfl
    · exact hopen
  have hsettled : s.settled = true := by
    rw [State.settled, hr, ho]
    simp
  unfold State.gather
  rw [hcollect]
  dsimp only [id]
  rw [hwhen, if_pos hsettled]
  rfl

theorem State.react_nothing (s : State) : s.react [] = s := rfl

theorem State.leavePowerDown_latched (entry : State → State) (h : s.flt.incident.isSome = true ∨ s.ctl.latched.isSome = true) : (s.leavePowerDown entry).power = .fault := by
  unfold State.leavePowerDown
  split
  · exact State.enterFault_power _ _ _
  next hi =>
    split
    · exact State.enterFault_power _ _ _
    next hl =>
      rw [hi, hl] at h
      rcases h with h | h <;> contradiction

theorem State.leavePowerDown_clear (entry : State → State) (hi : s.flt.incident = none) (hl : s.ctl.latched = none) : s.leavePowerDown entry = entry s := by
  unfold State.leavePowerDown
  rw [hi, hl]

/-- R55: a wipe returns a volatile register to its reset word. -/
theorem State.wipe_rd_lost (s : State) {a : Nat} (hstrap : a ≠ A.SYS_STRAP) (hchg : a ≠ A.CHG_STAT) (h : survivalOf a = .volatile) : s.wipe.rd a = resetWord a := by
  have hregs : ∃ w v, s.wipe.regs = (((({ s with regs := s.regs.keep (fun a => survivalOf a ≠ .volatile) } : State).wr A.SYS_STRAP w).p F.CHG_STAT_STATE v)).regs := ⟨_, _, rfl⟩
  obtain ⟨w, v, hr⟩ := hregs
  have hkeep : ({ s with regs := s.regs.keep (fun a => survivalOf a ≠ .volatile) } : State).rd a = resetWord a := by
    have hget := RegFile.get_keep s.regs (fun a => survivalOf a ≠ .volatile) a
    rw [h] at hget
    exact hget
  exact (congrArg (RegFile.get · a) hr).trans (((State.rd_p_ne _ v hchg).trans (State.rd_wr_ne _ w hstrap)).trans hkeep)

/-- What goes off as the device goes dark. -/
theorem State.goDark_off (s : State) {p : Power} (hp : p ≠ .run) : (∀ n ∈ domains, (s.goDark p).cmdOn n = false) ∧ ∀ j, ((s.goDark p).engAt j).mode = .stopped := by
  obtain ⟨-, -, heng, hrd⟩ := s.goDark_frame hp
  refine ⟨fun n hn => ?_, fun j => ?_⟩
  · have h2 : 0x0200 ≤ domBase n + 1 := Nat.le_add_right_of_le (Nat.le_add_right _ _)
    have hld : domBase n + 1 ≠ A.SYS_LDSTAT := fun e => absurd (e ▸ h2) (by decide)
    have hstrap : domBase n + 1 ≠ A.SYS_STRAP := fun e => absurd (e ▸ h2) (by decide)
    have hchg : domBase n + 1 ≠ A.CHG_STAT := by
      have h9 : ∀ m ∈ domains, domBase m + 1 ≠ A.CHG_STAT := by decide
      exact h9 n hn
    refine State.cmdOn_of_reset hn ((hrd _ hld).trans ?_)
    exact (s.darkened p).wipe_rd_lost hstrap hchg (survivalOf_domStat n hn).1
  · unfold State.engAt
    rw [heng]
    by_cases hj : j < 12
    · have h12 : ∀ i < 12, (State.reset.eng.getD i ⟨.stopped, 0, [], 0, 0, false, false, false⟩).mode = .stopped := by decide
      exact h12 j hj
    · rw [List.getD_eq_default _ _ (Nat.le_of_not_lt hj)]

/-- R47, R49: the entry that the end of a power-down leads to. -/
theorem State.enterTarget_frame (s : State) :
    s.enterTarget.power = (if s.ctl.shipping && s.ctl.onReq.isNone then .ship else .hibernate) ∧ (∀ n ∈ domains, s.enterTarget.cmdOn n = false) ∧ ∀ j, (s.enterTarget.engAt j).mode = .stopped := by
  unfold State.enterTarget
  cases s.ctl.shipping && s.ctl.onReq.isNone
  · exact ⟨s.enterHibernate_power, State.goDark_off _ (by decide)⟩
  · rw [if_pos rfl, if_pos rfl]
    obtain ⟨hcmd, heng⟩ := (s.snapshot 5).goDark_off (p := .ship) (by decide)
    have hpow := ((s.snapshot 5).goDark_frame (p := .ship) (by decide)).1
    unfold State.enterShip
    dsimp only
    generalize (s.snapshot 5).goDark .ship = t at hcmd heng hpow ⊢
    generalize hu : State.setSup _ _ = u
    obtain ⟨hp, -, -, hrd⟩ := u.islandDark_frame
    have huEng : u.eng = t.eng := by
      rw [← hu]
      rfl
    have huRd : ∀ a, a ≠ A.CHG_STAT → u.rd a = t.rd a := fun a ha => by
      rw [← hu]
      exact State.rd_wr_ne t (resetWord A.CHG_STAT) ha
    have huPow : u.power = t.power := by
      rw [← hu]
      rfl
    have hdark : u.islandDark.eng = u.eng := State.when_keeps State.eng (f := fun v => v.rtcLose.setSup (fun w => { w with rtcLost := true })) (fun _ => rfl) u (!u.sup.vbk150)
    refine ⟨hp.trans (huPow.trans hpow), fun n hn => ?_, fun j => ?_⟩
    · have hne : ∀ m ∈ domains, domBase m + 1 ≠ A.CHG_STAT ∧ domBase m + 1 ≠ A.RTC_STAT ∧ domBase m + 1 ≠ A.RTC_TRIM := by decide
      obtain ⟨h1, h2, h3⟩ := hne n hn
      exact (State.b_congr (f := F.DOM_STAT_CMDON n) ((hrd _ h2 h3).trans (huRd _ h1))).trans (hcmd n hn)
    · unfold State.engAt
      rw [hdark, huEng]
      exact heng j

/-- R87: with a dirty learned set that can be written back the entry waits. -/
theorem State.entryOrWait_waits (hd : s.b F.SYS_LDSTAT_DIRTY = true) (hn : s.isNor = false) (hw : s.nvm.wbStage ≠ .none ∨ s.mayWrite = true) :
    s.entryOrWait.power = s.power ∧ s.entryOrWait.ctl.entryWaits = some (if s.ctl.shipping then .ship else .hibernate) ∧ s.entryOrWait.wbActive = true := by
  have hwaits : (s.b F.SYS_LDSTAT_DIRTY && !s.isNor && (s.nvm.wbStage ≠ .none || s.mayWrite)) = true := by
    rw [hd, hn]
    simpa using hw
  have heq : s.entryOrWait = (s.setCtl (fun c => { c with entryWaits := some (if c.shipping then .ship else .hibernate) })).tryWriteBack := if_pos hwaits
  rw [heq]
  clear heq
  have hd' : ((s.setCtl (fun c => { c with entryWaits := some (if c.shipping then .ship else .hibernate) })).b F.SYS_LDSTAT_DIRTY && !(s.setCtl (fun c => { c with entryWaits := some (if c.shipping then .ship else .hibernate) })).isNor) = true := by
    show (s.b F.SYS_LDSTAT_DIRTY && !s.isNor) = true
    rw [hd, hn]
    rfl
  have hctl : (s.setCtl (fun c => { c with entryWaits := some (if c.shipping then .ship else .hibernate) })).ctl.entryWaits = some (if s.ctl.shipping then .ship else .hibernate) := rfl
  have hpow : (s.setCtl (fun c => { c with entryWaits := some (if c.shipping then .ship else .hibernate) })).power = s.power := rfl
  have hw' : (s.setCtl (fun c => { c with entryWaits := some (if c.shipping then .ship else .hibernate) })).wbActive = true ∨ (s.setCtl (fun c => { c with entryWaits := some (if c.shipping then .ship else .hibernate) })).mayWrite = true :=
    hw.imp (fun h => by show (_ || _ || _) = true; simp [State.setCtl, h]) fun h => h
  generalize s.setCtl (fun c => { c with entryWaits := some (if c.shipping then .ship else .hibernate) }) = t at hd' hctl hpow hw' ⊢
  unfold State.tryWriteBack
  rw [if_pos hd']
  by_cases ha : t.wbActive = true
  · rw [if_pos ha]
    exact ⟨hpow, hctl, ha⟩
  · rw [if_neg ha, if_pos (hw'.resolve_left ha)]
    refine ⟨hpow, hctl, ?_⟩
    have h := ((t.setNvm (fun n => { n with wbWanted := false })).nvmRequest_waits .writeBack).1
    unfold State.wbActive
    rcases h with h | h
    · rw [List.contains_iff_mem.mpr h, Bool.or_true]
    · rw [decide_eq_true h, Bool.or_true, Bool.true_or]

/-! ### What is raised as the program ends (R205, R629) -/

theorem State.mem_gather {follow : State → State} {fuel : Nat} {l : List Taken} {t : Taken} (h : t ∈ l) : t ∈ (s.gather follow fuel l).2 := by
  induction fuel generalizing s l with
  | zero => exact h
  | succ n ih =>
    unfold State.gather
    dsimp only
    split
    · exact List.mem_append_left _ h
    · exact ih (List.mem_append_left _ h)

theorem State.mem_gather_collect {follow : State → State} {n : Nat} {l : List Taken} {t : Taken} (h : t ∈ s.collect.2) : t ∈ (s.gather follow (n + 1) l).2 := by
  unfold State.gather
  dsimp only
  split
  · exact List.mem_append_right _ h
  · exact State.mem_gather (List.mem_append_right _ h)

theorem State.takeRaise_taken {r : Raise} (l : List Taken) (h : (s.countNoStart r).srcEn r.source = true) : (State.takeRaise (s, l) r).2 = l ++ [⟨(s.countNoStart r).appliedClass r, r.source, r.state⟩] := by
  simp only [State.takeRaise]
  rw [if_pos h]

theorem State.collect_one {r : Raise} (hp : s.power = .powerDown) (hr : s.flt.raised = [r]) (he : s.srcEn r.source = true) : ⟨s.appliedClass r, r.source, r.state⟩ ∈ s.collect.2 := by
  have hao : s.aoOn = true := State.aoOn_of_power hp (by decide)
  have hcollect : s.collect = State.takeRaise (s.setFlt (fun f => { f with raised := [] }), []) r := by
    unfold State.collect
    rw [if_neg (by rw [hr]; exact Bool.false_ne_true), if_neg (by rw [hao]; decide), if_neg (by rw [hp]; decide), hr]
    rfl
  have hen : ((s.setFlt (fun f => { f with raised := [] })).countNoStart r).srcEn r.source = true := (State.srcEn_countNoStart _ _ _).trans he
  rw [hcollect, State.takeRaise_taken [] hen, State.appliedClass_countNoStart]
  exact List.mem_append_right _ List.mem_cons_self

/-- R205: an incident begins once. -/
theorem State.beginIncident_frame (s : State) (t : Taken) : (s.beginIncident t).power = s.power ∧ (s.beginIncident t).flt.incident.isSome = true := by
  unfold State.beginIncident
  split
  next h => exact ⟨rfl, by rw [h]; rfl⟩
  next => exact ⟨rfl, rfl⟩

/-- R203, R205: a reaction in POWER-DOWN leads to FAULT at once, or holds the incident for the program's end. -/
theorem State.react_powerDown {l : List Taken} {t : Taken} (hp : s.power = .powerDown) (ht : t ∈ l) (hc : 2 ≤ t.cls) :
    (s.react l).power = .fault ∨ ((s.react l).power = .powerDown ∧ (s.react l).flt.incident.isSome = true) := by
  have hspec := strongest_spec l
  cases hu : strongest l with
  | none =>
    rw [hu] at hspec
    exact absurd (hspec t ht) (Nat.not_lt.mpr hc)
  | some u =>
    have hreact : s.react l = if u.cls = 3 then (s.beginIncident u).enterFault (((s.beginIncident u).flt.incident).getD ((s.beginIncident u).incidentOf u.source u.cls u.state)) (haltDomains l)
        else (s.beginIncident u).setCtl (fun c => { c with pfwWarn := true }) := by
      unfold State.react
      rw [hu, hp]
    obtain ⟨hpow, hinc⟩ := s.beginIncident_frame u
    rw [hreact]
    split
    · exact .inl (State.enterFault_power _ _ _)
    · exact .inr ⟨hpow.trans hp, hinc⟩

theorem State.endPowerDown_raised {r : Raise} (hp : s.power = .powerDown) (hr : s.flt.raised = [r]) (he : s.srcEn r.source = true) (hc : 2 ≤ s.appliedClass r) : s.endPowerDown.power = .fault := by
  have hmem : ⟨s.appliedClass r, r.source, r.state⟩ ∈ (s.gather id 8 []).2 := State.mem_gather_collect (State.collect_one hp hr he)
  have hpow : (s.gather id 8 []).1.power = .powerDown := (State.ControlOf.gather (State.ControlOf.refl s) fun _ h => h).power_eq hp (by decide)
  unfold State.endPowerDown
  generalize s.gather id 8 [] = x at hmem hpow ⊢
  obtain ⟨u, l⟩ := x
  dsimp only at *
  rcases State.react_powerDown hpow hmem hc with h | ⟨h, hi⟩
  · rw [if_neg (by rw [h]; decide), h]
  · rw [if_pos h]
    exact State.leavePowerDown_latched _ (.inl hi)

end

/-- R43: the end of SYS's program in POWER-UP. -/
theorem State.endPowerUp_frame (s : State) :
    s.endPowerUp.power = (match s.ctl.request with | some .watch => .watch | some .run => .run | none => if s.b F.SYS_CFG_START_STATE then .watch else .run) ∧ s.endPowerUp.ctl.request = none ∧
      ((s.engAt 0).mode = .idle → (s.endPowerUp.engAt 0).mode = .idle) := by
  have hgo : ∀ u : State, (u.engAt 0).mode = .idle → (u.goWatch.engAt 0).mode = .idle := fun u h => by
    unfold State.goWatch State.trig
    rw [State.engAt_setEng]
    split
    · exact (trigEngine_mode (.inl (by decide))).1.trans h
    · exact h
  have hcases : ∀ (u : State) (b : Bool), u.ctl.request = none → (if b then u.goWatch else { u with power := .run }).power = (if b then .watch else .run) ∧ (if b then u.goWatch else { u with power := .run }).ctl.request = none ∧
      ((u.engAt 0).mode = .idle → ((if b then u.goWatch else { u with power := .run }).engAt 0).mode = .idle) := by
    rintro u (_ | _) hu
    · exact ⟨rfl, hu, fun h => h⟩
    · exact ⟨rfl, hu, fun h => hgo u h⟩
  obtain ⟨h1, h2, h3⟩ := hcases ((s.setCtl (fun c => { c with request := none })).setChgR (fun c => { c with wdRun := true }))
    (match s.ctl.request with | some .watch => true | some .run => false | none => s.b F.SYS_CFG_START_STATE) rfl
  refine ⟨h1.trans ?_, h2, fun h => h3 h⟩
  rcases s.ctl.request with _ | _ | _ <;> rfl

/-- Settles O32: starts, ends, and the ends of SYS's program by power state. -/
theorem engineStartsGoesOnEnds : Obligations.EngineStartsGoesOnEnds := by
  refine ⟨fun s k n hk => ⟨fun h => ?_, fun h h0 => ?_⟩, fun s k t hm ht hl => ?_, fun s k t h0 hm ht hl => ?_, fun s k h0 hm hst => ?_, fun s hp hm hst => ?_, fun s hp hw hm hst hr ho => ?_,
    fun s r hp ho hr he hc => State.endPowerDown_raised hp hr he hc⟩
  · rw [State.advance_inside h]
    refine ⟨?_, ?_, fun j hj => State.engAt_setEng_ne _ hj, rfl⟩
    · rw [State.engAt_setEng_same _ hk]
      rfl
    · rw [State.engAt_setEng_same _ hk]
      rfl
  · rw [State.advance_end h h0]
    refine ⟨?_, fun j hj => State.engAt_setEng_ne _ hj, rfl⟩
    rw [State.engAt_setEng_same _ hk]
    rfl
  · rw [exec_engineStart hm ht, if_neg (Nat.not_le.mpr hl), done_eq]
    rfl
  · rw [exec_engineStart hm ht, if_pos hl, State.endProgram_other h0, State.setEng_setEng, done_eq]
    rfl
  · rw [exec_engEnd hm hst, State.endProgram_other h0, done_eq]
    unfold State.setEng
    rw [s.openStep_eng]
    rfl
  · have hlt : 0 < s.eng.length := State.lt_of_mode (k := 0) (by
      have hrun := (Bool.and_eq_true_iff.mp (Bool.and_eq_true_iff.mp hm).1).2
      rw [of_decide_eq_true hrun]
      decide)
    have hpow : ((s.openStep 0).setEng 0 Engine.ended).power = .powerUp := (State.openStep_keeps State.power (fun _ _ _ => rfl) s 0).trans hp
    have hend : (s.openStep 0).endProgram 0 = ((s.openStep 0).setEng 0 Engine.ended).endPowerUp := (State.endProgram_sys _).trans (if_pos hpow)
    obtain ⟨h1, h2, h3⟩ := ((s.openStep 0).setEng 0 Engine.ended).endPowerUp_frame
    have hreq : ((s.openStep 0).setEng 0 Engine.ended).ctl.request = s.ctl.request := State.openStep_keeps (·.ctl.request) (fun _ _ _ => rfl) s 0
    have hcfg : ((s.openStep 0).setEng 0 Engine.ended).b F.SYS_CFG_START_STATE = s.b F.SYS_CFG_START_STATE := State.openStep_keeps (State.b · F.SYS_CFG_START_STATE) (fun _ _ _ => rfl) s 0
    rw [hreq, hcfg] at h1
    refine ⟨_, ?_, h1, h2, h3 ?_⟩
    · rw [exec_engEnd hm hst, hend, done_eq]
    · rw [State.engAt_setEng_same _ (by simpa using hlt)]
      rfl
  · have hpow : ((s.openStep 0).setEng 0 Engine.ended).power = .powerDown := (State.openStep_keeps State.power (fun _ _ _ => rfl) s 0).trans hp
    have hwait : ((s.openStep 0).setEng 0 Engine.ended).ctl.entryWaits = none := (State.openStep_keeps (·.ctl.entryWaits) (fun _ _ _ => rfl) s 0).trans hw
    have hflt : ((s.openStep 0).setEng 0 Engine.ended).flt = s.flt := State.openStep_keeps State.flt (fun _ _ _ => rfl) s 0
    have hmrq : ((s.openStep 0).setEng 0 Engine.ended).mrq = s.mrq := State.openStep_keeps State.mrq (fun _ _ _ => rfl) s 0
    have hlatched : ((s.openStep 0).setEng 0 Engine.ended).ctl.latched = s.ctl.latched := State.openStep_keeps (·.ctl.latched) (fun _ _ _ => rfl) s 0
    have hship : ((s.openStep 0).setEng 0 Engine.ended).ctl.shipping = s.ctl.shipping := State.openStep_keeps (·.ctl.shipping) (fun _ _ _ => rfl) s 0
    have honreq : ((s.openStep 0).setEng 0 Engine.ended).ctl.onReq = s.ctl.onReq := State.openStep_keeps (·.ctl.onReq) (fun _ _ _ => rfl) s 0
    have hdirty : ((s.openStep 0).setEng 0 Engine.ended).b F.SYS_LDSTAT_DIRTY = s.b F.SYS_LDSTAT_DIRTY := State.openStep_keeps (State.b · F.SYS_LDSTAT_DIRTY) (fun _ _ _ => rfl) s 0
    have hnor : ((s.openStep 0).setEng 0 Engine.ended).isNor = s.isNor := State.openStep_keeps State.isNor (fun _ _ _ => rfl) s 0
    have hnvm : ((s.openStep 0).setEng 0 Engine.ended).nvm = s.nvm := State.openStep_keeps State.nvm (fun _ _ _ => rfl) s 0
    have hmay : ((s.openStep 0).setEng 0 Engine.ended).mayWrite = s.mayWrite := State.openStep_keeps State.mayWrite (fun _ _ _ => rfl) s 0
    have hend : (s.openStep 0).endProgram 0 = ((s.openStep 0).setEng 0 Engine.ended).endPowerDown := by
      refine (State.endProgram_sys _).trans ((if_neg ?_).trans (if_pos ?_))
      · rw [hpow]
        decide
      · rw [hpow, hwait]
        rfl
    rw [exec_engEnd hm hst, hend, done_eq]
    clear hend
    generalize (s.openStep 0).setEng 0 Engine.ended = u at *
    have hdown : u.endPowerDown = u.leavePowerDown State.entryOrWait := by
      unfold State.endPowerDown
      rw [State.gather_nothing ((congrArg Flt.raised hflt).trans hr) ((congrArg Mrq.outbox hmrq).trans ho) 7]
      exact if_pos hpow
    rw [hdown]
    refine ⟨_, rfl, fun h => ?_, fun hi hl hno => ?_, fun hi hl hd hn hwb => ?_⟩
    · refine State.leavePowerDown_latched _ ?_
      rw [hflt, hlatched]
      exact h
    · rw [State.leavePowerDown_clear _ ((congrArg Flt.incident hflt).trans hi) (hlatched.trans hl)]
      have hnone : (u.b F.SYS_LDSTAT_DIRTY && !u.isNor && (u.nvm.wbStage ≠ .none || u.mayWrite)) = false := by
        rw [hdirty, hnor, hnvm, hmay]
        rcases hno with h | h | ⟨h1, h2⟩
        · rw [h]
          rfl
        · rw [h]
          simp
        · rw [h1, h2]
          simp
      have henter : u.entryOrWait = u.enterTarget := if_neg (by rw [hnone]; exact Bool.false_ne_true)
      obtain ⟨h1, h2, h3⟩ := u.enterTarget_frame
      rw [henter, ← hship, ← honreq]
      exact ⟨h1, h2, fun j _ => h3 j⟩
    · rw [State.leavePowerDown_clear _ ((congrArg Flt.incident hflt).trans hi) (hlatched.trans hl)]
      obtain ⟨h1, h2, h3⟩ := State.entryOrWait_waits (s := u) (hdirty.trans hd) (hnor.trans hn) (by rw [hnvm, hmay]; exact hwb)
      exact ⟨h1.trans hpow, h2.trans (by rw [hship]), h3⟩

end Sys2Proof.Machine
end

section
/-! PROOFS. The rows of SET, WAIT, WAITC, CHECK, JUMP and SYNC (R156 to R161, R163). -/
namespace Sys2Proof.Machine

/-! ### The rows of an engine's steps and of its waits (R146, R156 to R163) -/

section
variable {s : State} {k : Nat} {st : EngStep}

/-- A row of a wait acts on the step at the engine's offset, in the step time's state. -/
theorem State.waitRow_at {w : Waiting} (hm : s.waitsFor k w = true) (hst : s.stepAt k = .ok st) (f : State → EngStep → Option State) : s.waitRow k w f = .ok ((f (s.openStep k) st).getD s) := by
  rw [State.waitRow, if_pos hm, hst]

/-- A change of one engine that agrees on that engine. -/
theorem List.modify_congr_getD {l : List Engine} {f g : Engine → Engine} {d : Engine} (h : f (l.getD k d) = g (l.getD k d)) : l.modify k f = l.modify k g := by
  by_cases hk : k < l.length
  · refine List.ext_getElem (by simp) fun i h1 h2 => ?_
    rw [List.getElem_modify, List.getElem_modify]
    split
    next hi =>
      subst hi
      rw [List.getD_eq_getElem _ _ hk] at h
      exact h
    next => rfl
  · rw [List.modify_eq_self (Nat.le_of_not_lt hk), List.modify_eq_self (Nat.le_of_not_lt hk)]

theorem State.mayStep_halted (hm : s.mayStep k = true) : (s.engAt k).halted = false := by
  have h := (Bool.and_eq_true_iff.mp hm).2
  exact Bool.not_eq_true' _ ▸ h

/-- R146: a wait of an engine that is not halted begins without a debug step. -/
theorem State.beginWait_openStep (hm : s.mayStep k = true) {u : State} (hu : u.eng = s.eng) (w : Waiting) :
    u.beginWait k w = { u with eng := s.eng.modify k (fun e => { e with mode := if e.pre then .idle else .wait w, stepping := false }) } := by
  have hh : (s.eng.getD k ⟨.stopped, 0, [], 0, 0, false, false, false⟩).halted = false := State.mayStep_halted hm
  unfold State.beginWait State.setEng
  rw [hu]
  refine congrArg (fun l : List Engine => ({ u with eng := l } : State)) (List.modify_congr_getD (d := ⟨.stopped, 0, [], 0, 0, false, false, false⟩) ?_)
  unfold Engine.goOn
  rw [hh]
  rfl

theorem State.setPins_keeps {β : Type} (g : State → β) (hg : ∀ u p a, g { u with pins := p, ctl := { u.ctl with stepEng := a } } = g u) (s : State) (p : PinSample) : g (s.setPins p) = g s := by
  have heq : ∃ a, s.setPins p = { s with pins := p, ctl := { s.ctl with stepEng := a } } := by
    unfold State.setPins State.when
    dsimp only
    split
    · exact ⟨none, rfl⟩
    · exact ⟨s.ctl.stepEng, rfl⟩
  obtain ⟨a, h⟩ := heq
  rw [h]
  exact hg s p a

/-- A sample of the pins leaves the engines and what they wait for. -/
theorem State.setPins_engine (s : State) (p : PinSample) (k : Nat) :
    (s.setPins p).mayStep k = s.mayStep k ∧ (s.setPins p).stepAt k = s.stepAt k ∧ (∀ w, (s.setPins p).waitsFor k w = s.waitsFor k w) ∧ (s.setPins p).eng = s.eng ∧ (s.setPins p).engLen k = s.engLen k :=
  ⟨State.setPins_keeps (·.mayStep k) (fun _ _ _ => rfl) s p, State.setPins_keeps (·.stepAt k) (fun _ _ _ => rfl) s p, fun w => State.setPins_keeps (·.waitsFor k w) (fun _ _ _ => rfl) s p,
    State.setPins_keeps State.eng (fun _ _ _ => rfl) s p, State.setPins_keeps (·.engLen k) (fun _ _ _ => rfl) s p⟩

/-- A jump of an engine within its program. -/
theorem State.jumpTo_openStep {u : State} {target : Nat} (hu : u.eng = s.eng) (hl : target < u.engLen k) :
    u.jumpTo k target = .ok { u with eng := s.eng.modify k (fun e => { e with mode := if e.pre then .idle else .run, pc := target, stepping := false }) } := by
  rw [State.jumpTo_inside hl]
  unfold State.setEng
  rw [hu]
  rfl

/-- R156: a SET of an engine variable stores the value, and the engine goes on. -/
theorem State.doSet_variable (s : State) {i v : Nat} (hi : i < 16) : s.doSet k (0x10 + i) v = .ok ((s.wn (A.SYS_EVAR i) v).advance k 1) := by
  have hres : reservedSet (0x10 + i) v = false := by
    unfold reservedSet
    simp only [show (0x10 + i = 0x40) = False from eq_false (by omega), show (0x10 + i = 0x50) = False from eq_false (by omega), show ¬ 0x41 ≤ 0x10 + i from by omega, show ¬ 0x51 ≤ 0x10 + i from by omega,
      decide_false, Bool.false_and, if_false, Bool.false_eq_true]
  have hset : s.setIndex (0x10 + i) v = s.wn (A.SYS_EVAR i) v := by
    unfold State.setIndex
    rw [if_neg (by omega), if_neg (by omega), if_pos (by omega), Nat.add_sub_cancel_left]
  unfold State.doSet
  rw [hres, hset]
  rfl

/-! ### The rows with pins -/

variable {pins : PinSample} {inv : Bool} {c : Nat}

theorem waitcRow_at {t : Nat} (hm : s.mayStep k = true) (hst : s.stepAt k = .ok (.waitc inv c t)) : s.waitcRow k = .ok ((s.openStep k).doWaitc k inv c) := by
  unfold State.waitcRow
  rw [State.engRow_at hm hst]
  rfl

theorem checkRow_at {act stop : Bool} {op : Nat} (hm : s.mayStep k = true) (hst : s.stepAt k = .ok (.check inv act stop c op)) : s.checkRow k = (s.openStep k).doCheck k inv act stop c op := by
  unfold State.checkRow
  rw [State.engRow_at hm hst]
  rfl

theorem jumpRow_at {en : Bool} {target : Nat} (hm : s.mayStep k = true) (hst : s.stepAt k = .ok (.jump inv en c target)) : s.jumpRow k = (s.openStep k).doJump k inv en c target := by
  unfold State.jumpRow
  rw [State.engRow_at hm hst]
  rfl

theorem exec_pinRows (s : State) (k : Nat) (pins : PinSample) :
    exec (.waitc k pins) s = ran ((s.setPins pins).waitcRow k) ∧ exec (.waitcConditionMet k pins) s = ran ((s.setPins pins).waitcMet k) ∧ exec (.check k pins) s = ran ((s.setPins pins).checkRow k) ∧
      exec (.jump k pins) s = ran ((s.setPins pins).jumpRow k) := ⟨rfl, rfl, rfl, rfl⟩

end

/-- Settles O36: each step's row, and each wait's. -/
theorem setWaitAndFlow : Obligations.SetWaitAndFlow := by
  refine ⟨fun s k i v hi hm hst => ?_, fun s k n lf hm hst hn => ?_, fun s k n lf hm hst => ?_, fun s k c t inv pins hm hst => ?_, fun s k c t inv pins hm hst => ?_, fun s k c t inv hm hst ht => ?_,
    fun s k c op inv stop pins hm hst => ?_, fun s k c target inv pins hm hst hl => ?_, fun s k c target inv en pins hm hst hl => ?_, fun s k f clr hm hst => ?_, fun s k f clr hm hst hf => ?_⟩
  · have hdo := (s.openStep k).doSet_variable (k := k) (v := v) hi
    show ran (s.engRow k _) = _
    rw [State.engRow_at hm hst]
    exact (congrArg ran hdo).trans (ran_ok _)
  · have hdo : (s.openStep k).doWait k n = (s.openStep k).beginWait k .time := if_neg (by omega)
    show ran (s.engRow k _) = _
    rw [State.engRow_at hm hst]
    show ran (.ok ((s.openStep k).doWait k n)) = _
    rw [hdo, State.beginWait_openStep hm (s.openStep_eng k), ran_ok]
  · show ran (s.waitRow k .time _) = _
    rw [State.waitRow_at hm hst, ran_ok]
    rfl
  · obtain ⟨h1, h2, -, h4, -⟩ := s.setPins_engine pins k
    have hm' := h1.trans hm
    rw [(exec_pinRows s k pins).1, waitcRow_at hm' (h2.trans hst), ran_ok]
    unfold State.doWaitc State.holds
    have hm'' : ((s.setPins pins).openStep k).mayStep k = true := (State.openStep_keeps (·.mayStep k) (fun _ _ _ => rfl) _ k).trans hm'
    rw [State.beginWait_openStep hm'' rfl]
  · obtain ⟨-, h2, h3, -, -⟩ := s.setPins_engine pins k
    intro u hc
    have hholds : u.holds inv c = true := by
      unfold State.holds
      simpa using hc
    rw [(exec_pinRows s k pins).2.1]
    unfold State.waitcMet
    rw [State.waitRow_at ((h3 _).trans hm) (h2.trans hst), ran_ok]
    dsimp only
    rw [if_pos hholds]
    rfl
  · show ran (s.waitRow k .cond _) = _
    rw [State.waitRow_at hm hst, ran_ok]
    dsimp only
    rw [if_neg (by omega)]
    rfl
  · obtain ⟨h1, h2, -, -, -⟩ := s.setPins_engine pins k
    rw [(exec_pinRows s k pins).2.2.1, checkRow_at (h1.trans hm) (h2.trans hst)]
    unfold State.doCheck State.holds
    dsimp only
    cases (((s.setPins pins).openStep k).cond c != inv)
    · cases stop <;> rfl
    · rfl
  · obtain ⟨h1, h2, -, h4, h5⟩ := s.setPins_engine pins k
    rw [(exec_pinRows s k pins).2.2.1, checkRow_at (h1.trans hm) (h2.trans hst)]
    unfold State.doCheck State.holds
    rw [State.jumpTo_openStep (s := (s.setPins pins).openStep k) rfl (by rw [State.openStep_engLen, h5]; exact hl)]
    dsimp only
    cases (((s.setPins pins).openStep k).cond c != inv) <;> rfl
  · obtain ⟨h1, h2, -, h4, h5⟩ := s.setPins_engine pins k
    rw [(exec_pinRows s k pins).2.2.2, jumpRow_at (h1.trans hm) (h2.trans hst)]
    unfold State.doJump State.holds
    rw [State.jumpTo_openStep (s := (s.setPins pins).openStep k) rfl (by rw [State.openStep_engLen, h5]; exact hl)]
    dsimp only
    cases (!en || ((s.setPins pins).openStep k).cond c != inv) <;> rfl
  · have hflag : (s.openStep k).flag f = s.flag f := State.openStep_keeps (State.flag · f) (fun _ _ _ => rfl) s k
    show ran (s.engRow k _) = _
    rw [State.engRow_at hm hst]
    show ran (.ok ((s.openStep k).doSync k clr f)) = _
    unfold State.doSync
    have hm' : (s.openStep k).mayStep k = true := (State.openStep_keeps (·.mayStep k) (fun _ _ _ => rfl) _ k).trans hm
    rw [ran_ok, hflag, State.beginWait_openStep hm' rfl]
    cases s.flag f
    · rfl
    · cases clr <;> rfl
  · have hflag : (s.openStep k).flag f = s.flag f := State.openStep_keeps (State.flag · f) (fun _ _ _ => rfl) s k
    show ran (s.waitRow k .flag _) = _
    rw [State.waitRow_at hm hst, ran_ok]
    dsimp only
    rw [hflag, hf]
    cases clr <;> rfl

end Sys2Proof.Machine
end

section
/-! PROOFS. SIGNAL by its kinds (R43, R162, R347). -/
namespace Sys2Proof.Machine

/-! ### SIGNAL (R162) -/

section
variable {s : State} {k kind op : Nat}

/-- A SIGNAL's row: what its kind does, and then the next step. -/
theorem signalRow_at (hm : s.mayStep k = true) (hst : s.stepAt k = .ok (.signal kind op)) : ran (s.signalRow k kind) = .next (((s.openStep k).doSignal k kind op).advance k 1).settle := by
  unfold State.signalRow
  rw [State.engRow_at hm hst]
  dsimp only
  rw [if_pos rfl]
  exact ran_ok _

theorem exec_signals (s : State) (k : Nat) :
    exec (.signalSetFlags k) s = ran (s.signalRow k 0) ∧ exec (.signalClearFlags k) s = ran (s.signalRow k 1) ∧ exec (.signalDrivePin k) s = ran (s.signalRow k 2) ∧ exec (.signalRaiseSource k) s = ran (s.signalRow k 3) ∧
      exec (.signalPostReport k) s = ran (s.signalRow k 4) ∧ exec (.signalStartTimer k) s = ran (s.signalRow k 5) ∧ exec (.signalRequestState k) s = ran (s.signalRow k 6) :=
  ⟨rfl, rfl, rfl, rfl, rfl, rfl, rfl⟩

theorem State.setFlags_eq (s : State) (gr mask : Nat) :
    s.setFlags gr mask true = s.wn (A.ENG_FSET gr) ((s.rn (A.ENG_FSET gr)).lor mask) ∧ s.setFlags gr mask false = s.wn (A.ENG_FSET gr) ((s.rn (A.ENG_FSET gr)).land (65535 - mask % 65536)) := ⟨rfl, rfl⟩

theorem State.doSignal_flags (s : State) (k op : Nat) :
    s.doSignal k 0 op = s.wn (A.ENG_FSET (op / 65536 % 2)) ((s.rn (A.ENG_FSET (op / 65536 % 2))).lor (op % 65536)) ∧
      s.doSignal k 1 op = s.wn (A.ENG_FSET (op / 65536 % 2)) ((s.rn (A.ENG_FSET (op / 65536 % 2))).land (65535 - op % 65536)) := by
  obtain ⟨hset, -⟩ := s.setFlags_eq (op / 65536 % 2) (op % 65536)
  obtain ⟨-, hclear⟩ := s.setFlags_eq (op / 65536 % 2) (op % 65536)
  rw [Nat.mod_mod] at hclear
  exact ⟨hset, hclear⟩

/-- A request for a state is taken from SYS alone. -/
theorem signalRequest_at (hm : s.mayStep k = true) (hst : s.stepAt k = .ok (.signal 6 op)) :
    exec (.signalRequestState k) s = .next ((if k = 0 then (s.openStep k).requestState (if op = 1 then .run else .watch) false else s.openStep k).advance k 1).settle := by
  obtain ⟨-, -, -, -, -, -, h⟩ := exec_signals s k
  rw [h, signalRow_at hm hst]
  rfl

/-! What a request of SYS does in each state (R43, R347). -/

theorem State.requestState_powerUp (t : Target) (h : s.power = .powerUp) : s.requestState t false = s.setCtl (fun c => { c with request := some t }) := by
  unfold State.requestState
  rw [h]

theorem State.requestState_powerDown (t : Target) (h : s.power = .powerDown) : s.requestState t false = s := by
  unfold State.requestState
  rw [h]
  rfl

theorem State.requestState_watch (h : s.power = .watch) : s.requestState .run false = s.goRun ∧ s.requestState .watch false = s := by
  unfold State.requestState
  rw [h]
  exact ⟨rfl, rfl⟩

theorem State.requestState_run (h : s.power = .run) :
    s.requestState .run false = s.setStk (fun k => { k with heldWatch := false }) ∧ s.requestState .watch false = if s.strokeActive then s.setStk (fun k => { k with heldWatch := true }) else s.goWatch := by
  unfold State.requestState
  rw [h]
  exact ⟨rfl, rfl⟩

end

/-- Settles O38: a SIGNAL's row by its kind, and a request for a state by the state that it meets. -/
theorem signals : Obligations.Signals := by
  intro s k op hm u
  obtain ⟨h0, h1, h2, h3, h4, h5, -⟩ := exec_signals s k
  have hregs : u.regs = s.regs := s.openStep_regs k
  have hrn : ∀ a, u.rn a = s.rn a := fun a => State.openStep_keeps (State.rn · a) (fun _ _ _ => rfl) s k
  have htim : u.tim = s.tim := State.openStep_keeps State.tim (fun _ _ _ => rfl) s k
  have hticks : u.ticks = s.ticks := State.openStep_keeps State.ticks (fun _ _ _ => rfl) s k
  have hpow : u.power = s.power := State.openStep_keeps State.power (fun _ _ _ => rfl) s k
  have hstk : u.stk = s.stk := State.openStep_keeps State.stk (fun _ _ _ => rfl) s k
  have hactive : u.strokeActive = s.strokeActive := State.openStep_keeps State.strokeActive (fun _ _ _ => rfl) s k
  have hpc : (u.engAt k).pc = (s.engAt k).pc := by rw [show u.engAt k = s.engAt k from s.openStep_engAt k k]
  refine ⟨fun hst => ?_, fun hst => ?_, fun hst => ?_, fun hst => ?_, fun hst => ?_, fun hst => ?_, fun hst h0 hp => ?_, fun hst h => ?_, fun hst h0 hp => ?_, fun hst h0 hp => ?_, fun hst h0 hp ha => ?_,
    fun hst h0 hp ha => ?_⟩
  · rw [h0, signalRow_at hm hst, ((s.openStep k).doSignal_flags k op).1, hrn]
  · rw [h1, signalRow_at hm hst, ((s.openStep k).doSignal_flags k op).2, hrn]
  · rw [h2, signalRow_at hm hst]
    rfl
  · rw [h3, signalRow_at hm hst]
    rfl
  · rw [h4, signalRow_at hm hst, ← hpc]
    rfl
  · rw [h5, signalRow_at hm hst, ← htim, ← hticks]
    rfl
  · rw [signalRequest_at hm hst, if_pos h0, if_pos rfl, (State.requestState_watch (s := u) (hpow.trans hp)).1]
    rfl
  · rw [signalRequest_at hm hst]
    rcases h with h | h | ⟨h, rfl⟩
    · rw [if_neg h]
    · rw [State.requestState_powerDown (s := s.openStep k) _ (hpow.trans h), ite_self]
    · rw [if_neg (show ¬ (2 : Nat) = 1 by decide), (State.requestState_watch (s := s.openStep k) (hpow.trans h)).2, ite_self]
  · rw [signalRequest_at hm hst, if_pos h0, State.requestState_powerUp (s := s.openStep k) _ (hpow.trans hp)]
    rfl
  · rw [signalRequest_at hm hst, if_pos h0, if_pos rfl, (State.requestState_run (s := s.openStep k) (hpow.trans hp)).1, ← hstk]
    rfl
  · rw [signalRequest_at hm hst, if_pos h0, if_neg (by decide), (State.requestState_run (s := s.openStep k) (hpow.trans hp)).2, show (s.openStep k).strokeActive = false from hactive.trans ha]
    rfl
  · rw [signalRequest_at hm hst, if_pos h0, if_neg (by decide), (State.requestState_run (s := s.openStep k) (hpow.trans hp)).2, show (s.openStep k).strokeActive = true from hactive.trans ha, ← hstk]
    rfl

end Sys2Proof.Machine
end

section
/-! PROOFS. The engines' events, ENG_TRIG and debug (R148, R151, R169, R177, R178, R633 to R635). -/
namespace Sys2Proof.Machine

/-! ### Stalls, timers, ALIVE and ENG_TRIG (R148, R151, R167, R173, R633 to R635) -/

section
variable {s t : State} {k : Nat}

theorem hostRan_of_hostAlive {f : State → Except Fault State} (h : s.hostAlive = true) : hostRan s f = ran (f s.clocked) := by
  rw [hostRan, if_pos h, State.demandFast_of_hostAlive h]

theorem hostRan_of_unchanged {f : State → Except Fault State} (hf : ∀ t, f t = .ok t) : hostRan s f = .next s.framed.settle := by
  unfold State.framed
  split
  next h => rw [hostRan_of_hostAlive h, hf, ran_ok]
  next h => rw [hostRan, if_neg h, done_eq]

theorem exec_engEvents (s : State) (k : Nat) (w : Word) :
    exec (.engStall k) s = done (s.engStalled k) ∧ exec (.timerExpiry k) s = done (s.timerDone k) ∧ exec .hkTick s = done s.hkTick ∧ exec .aliveToggle s = done s.aliveToggle ∧ exec .aliveMiss s = done s.aliveMiss ∧
      exec (.engTrig w) s = hostDone s (·.engTrigger w) := ⟨rfl, rfl, rfl, rfl, rfl, rfl⟩

theorem State.engStalled_step {st : EngStep} (hm : s.mayStep k = true) (hst : s.stepAt k = .ok st) (hl : st.lasts = false) : s.engStalled k = (s.stopAlive 3).raise 104 := by
  unfold State.engStalled
  rw [hst, hm]
  dsimp only
  rw [hl]
  rfl

theorem State.engTrigger_key {w : Word} (hr : s.running = true) (hk : F.ENG_TRIG_KEY.get w = 0x7E) (he : F.ENG_TRIG_ENGINE.get w ≤ 11) : s.engTrigger w = s.trig (F.ENG_TRIG_ENGINE.get w) 6 :=
  if_pos (by rw [hr, hk, decide_eq_true he]; rfl)

theorem State.engTrigger_other {w : Word} (hk : F.ENG_TRIG_KEY.get w ≠ 0x7E) : s.engTrigger w = s := if_neg (by simp [hk])

/-! ### Debug (R169, R178) -/

/-- A step is read from the engine's base and the store. -/
theorem State.stepAt_congr (hpc : (t.engAt k).pc = (s.engAt k).pc) (hrd : ∀ a, 0x0F20 ≤ a → t.rd a = s.rd a) : t.stepAt k = s.stepAt k := by
  have hbase : t.g (F.ENG_BASE_BASE k) = s.g (F.ENG_BASE_BASE k) := State.g_congr (hrd _ (Nat.le_add_right _ _))
  have hword : t.stepWord k = s.stepWord k := by
    have hstep : ∀ i, t.rd (A.ENG_STEP i) = s.rd (A.ENG_STEP i) := fun i => hrd _ (Nat.le_add_right_of_le (show 0x0F20 ≤ 0x1000 by decide))
    unfold State.stepWord State.rn
    dsimp only
    rw [hbase, hpc, hstep, hstep]
  unfold State.stepAt
  rw [hbase, hpc, hword]

/-- R178: a write of ENG_DBG whose word has the key, with engines running. -/
theorem State.dbgWrite_key {w : Word} (hk : F.ENG_DBG_KEY.get w = 0xD) (hr : s.running = true) (hsel : F.ENG_DBG_SEL.get w = k) (hle : k ≤ 11) :
    s.dbgWrite w =
      match (if F.ENG_DBG_STEP.get w = 1 then ((s.p F.ENG_DBG_SEL k).when (F.ENG_DBG_HALT.get w = 1) (·.halt k)).dbgStep k else .ok ((s.p F.ENG_DBG_SEL k).when (F.ENG_DBG_HALT.get w = 1) (·.halt k))) with
      | .error e => .error e
      | .ok u => .ok (u.when (F.ENG_DBG_RESUME.get w = 1) (·.resume k)) := by
  have hsel' : s.dbgSelect w = s.p F.ENG_DBG_SEL k := by rw [State.dbgSelect, hsel]
  have hacts : (s.p F.ENG_DBG_SEL k).dbgActs w = true := by
    unfold State.dbgActs
    rw [hsel, hk, show (s.p F.ENG_DBG_SEL k).running = s.running from rfl, hr, decide_eq_true hle]
    rfl
  subst hsel
  unfold State.dbgWrite
  dsimp only
  rw [if_pos hk, hsel', if_pos hacts] <;> rfl

/-- R169: a keyed write with HALT, with STEP or with RESUME alone. -/
theorem State.dbgWrite_one {w : Word} (hk : F.ENG_DBG_KEY.get w = 0xD) (hr : s.running = true) (hsel : F.ENG_DBG_SEL.get w = k) (hle : k ≤ 11) :
    (F.ENG_DBG_HALT.get w = 1 → F.ENG_DBG_STEP.get w = 0 → F.ENG_DBG_RESUME.get w = 0 → s.dbgWrite w = .ok ((s.p F.ENG_DBG_SEL k).halt k)) ∧
      (F.ENG_DBG_HALT.get w = 0 → F.ENG_DBG_STEP.get w = 1 → F.ENG_DBG_RESUME.get w = 0 → s.dbgWrite w = (s.p F.ENG_DBG_SEL k).dbgStep k) ∧
      (F.ENG_DBG_HALT.get w = 0 → F.ENG_DBG_STEP.get w = 0 → F.ENG_DBG_RESUME.get w = 1 → s.dbgWrite w = .ok ((s.p F.ENG_DBG_SEL k).resume k)) := by
  rw [State.dbgWrite_key hk hr hsel hle]
  refine ⟨fun h1 h2 h3 => ?_, fun h1 h2 h3 => ?_, fun h1 h2 h3 => ?_⟩ <;> rw [h1, h2, h3]
  case refine_1 => rfl
  case refine_2 =>
    rw [if_pos rfl, show (s.p F.ENG_DBG_SEL k).when (decide (0 = 1)) (·.halt k) = s.p F.ENG_DBG_SEL k from rfl]
    cases (s.p F.ENG_DBG_SEL k).dbgStep k <;> rfl
  case refine_3 => rfl

theorem State.dbgWrite_other {w : Word} (hk : F.ENG_DBG_KEY.get w ≠ 0xD) : s.dbgWrite w = .ok s := if_neg hk

theorem exec_engDbg (s : State) (w : Word) (pins : PinSample) :
    exec (.engDbgHalt w) s = hostRan s (·.dbgWrite w) ∧ exec (.engDbgStep w pins) s = hostRan s (fun s => (s.setPins pins).dbgWrite w) ∧ exec (.engDbgResume w) s = hostRan s (·.dbgWrite w) := ⟨rfl, rfl, rfl⟩

/-- R149: without a pending trigger no entry is pre-empted. -/
theorem Engine.preempt_none {e : Engine} (h : e.pend = []) : e.preempt = e := if_neg (by rw [h]; exact Bool.false_ne_true)

/-- What the opening of a debug step changes: the sample alone, where no trigger is pending. -/
theorem State.dbgStep_opens (hh : (s.engAt k).halted = true) (hs : (s.engAt k).stepping = false) (hp : (s.engAt k).pend = []) (hi : (s.engAt k).mode ≠ .idle) :
    s.dbgStep k =
      match (s.engAt k).mode with
      | .run => (match s.sample.stepAt k with | .error e => .error (.undefinedStep e) | .ok st => s.sample.doStep k st)
      | .wait _ => .ok (s.sample.setEng k (fun e => { e with stepping := true }))
      | .idle => .ok s.sample
      | .stopped => .ok s.sample := by
  have hpre : s.sample.setEng k Engine.preempt = s.sample := by
    have hmod : s.eng.modify k Engine.preempt = s.eng.modify k id := List.modify_congr_getD (d := ⟨.stopped, 0, [], 0, 0, false, false, false⟩) (Engine.preempt_none hp)
    unfold State.setEng
    rw [show s.sample.eng = s.eng from rfl, hmod, List.modify_id]
    rfl
  have hidle : (decide ((s.engAt k).mode = .idle)) = false := decide_eq_false hi
  unfold State.dbgStep
  rw [hh, hs]
  dsimp only
  rw [if_pos (by decide), hpre, show s.sample.engAt k = s.engAt k from rfl, hidle]
  rfl

/-- A debug write with STEP once its pins are sampled and its engine selected. -/
def State.dbgSampled (s : State) (k : Nat) (pins : PinSample) : State := (s.clocked.setPins pins).p F.ENG_DBG_SEL k

theorem State.dbgSampled_frame (s : State) (k : Nat) (pins : PinSample) :
    (s.dbgSampled k pins).engAt k = s.engAt k ∧ (s.dbgSampled k pins).pins = pins ∧ (s.dbgSampled k pins).eng = s.eng ∧ (∀ a, a ≠ A.ENG_DBG → (s.dbgSampled k pins).rd a = s.rd a) ∧
      s.dbgSampled k pins = { s.clocked with regs := (s.dbgSampled k pins).regs, pins := pins, ctl := (s.dbgSampled k pins).ctl } := by
  have hform : s.dbgSampled k pins = { s.clocked with regs := (s.dbgSampled k pins).regs, pins := pins, ctl := (s.dbgSampled k pins).ctl } := by
    unfold State.dbgSampled State.setPins State.when
    dsimp only
    split <;> rfl
  refine ⟨?_, ?_, ?_, fun a ha => (State.rd_p_ne _ _ ha).trans (State.setPins_keeps (State.rd · a) (fun _ _ _ => rfl) s.clocked pins), hform⟩ <;> rw [hform] <;> rfl

end

/-- Settles O39: the events in turn, and a debug write by its bits. -/
theorem engineEvents : Obligations.EngineEvents := by
  refine ⟨fun s k st hm hst hl => ?_, fun s t ha hr => ?_, fun s hr hk => ?_, fun s ha => ?_, fun s ha => ?_, fun s w hv hr hk he => ?_, fun s w hk => ?_, fun s w k hv hr hle hlt hsel => ⟨fun hk h1 h2 h3 => ?_,
    fun hk h1 h2 h3 hh hs hp pins => ⟨fun hw => ?_, fun i v hrun hpre hst hi hv16 hlen => ?_⟩, fun hk h1 h2 h3 hh hp => ?_, fun hk => ?_⟩⟩
  · rw [(exec_engEvents s k 0).1, State.engStalled_step hm hst hl, done_eq]
    rfl
  · have heq : s.timerDone t = { s with tim := s.tim.modify t (fun x => { x with running := false, expired := true }) } := if_pos (by rw [hr, ha]; rfl)
    rw [(exec_engEvents s t 0).2.1, heq, done_eq]
  · have heq : s.hkTick = if (s.engAt 11).pend.contains 0 then s.p F.ENG_STAT_HKOVR 1 else s.trig 11 0 := if_pos (by rw [hr, decide_eq_true hk]; rfl)
    rw [(exec_engEvents s 0 0).2.2.1, heq, done_eq]
  · have heq : s.aliveToggle = s.setCtl (fun c => { c with alive := !c.alive }) := if_pos ha
    rw [(exec_engEvents s 0 0).2.2.2.1, heq, done_eq]
    rfl
  · have heq : s.aliveMiss = (s.stopAlive 5).raise 96 := if_pos ha
    rw [(exec_engEvents s 0 0).2.2.2.2.1, heq, done_eq]
    rfl
  · rw [(exec_engEvents s 0 w).2.2.2.2.2, hostDone_of_hostAlive _ hv, State.engTrigger_key (s := s.clocked) hr hk he]
  · rw [(exec_engEvents s 0 w).2.2.2.2.2]
    exact hostDone_of_unchanged s fun t => State.engTrigger_other hk
  · have hlt16 : k < 16 := by omega
    have heq : s.clocked.dbgWrite w = .ok ((s.clocked.p F.ENG_DBG_SEL k).halt k) := by
      rw [State.dbgWrite_key (s := s.clocked) hk hr hsel hle, h1, h2, h3]
      rfl
    have hsel' : (s.clocked.p F.ENG_DBG_SEL k).g F.ENG_DBG_SEL = k := (State.g_p_same _ F.ENG_DBG_SEL k (by decide)).trans (Nat.mod_eq_of_lt hlt16)
    have hrd : ∀ a, a ≠ A.ENG_DBG → (s.clocked.p F.ENG_DBG_SEL k).rd a = s.rd a := fun a ha => State.rd_p_ne _ _ ha
    have hform : s.clocked.p F.ENG_DBG_SEL k = { s.clocked with regs := (s.clocked.p F.ENG_DBG_SEL k).regs } := rfl
    generalize s.clocked.p F.ENG_DBG_SEL k = u at heq hsel' hrd hform
    have heng : u.eng = s.eng := by rw [hform]; rfl
    have hat : (u.halt k).engAt k = { s.engAt k with halted := true, stepping := false } := by
      refine (State.engAt_setEng_same (s := u) (fun e => { e with halted := true, stepping := false }) (by rw [heng]; exact hlt)).trans ?_
      unfold State.engAt
      rw [heng]
    refine ⟨u.halt k, ?_, ?_, hrd, ?_, rfl, hsel', ?_⟩
    · rw [(exec_engDbg s w ⟨false, false, false, false, false, false⟩).1, hostRan_of_hostAlive hv, heq, ran_ok]
    · unfold State.halt
      rw [hform]
      rfl
    · rw [hat]
    · rw [hat]
  · have heq := (State.dbgWrite_one (s := s.clocked.setPins pins) hk ((State.setPins_keeps State.running (fun _ _ _ => rfl) _ pins).trans hr) hsel hle).2.1 h1 h2 h3
    obtain ⟨hat, hpins, heng, hrd, hform⟩ := s.dbgSampled_frame k pins
    change _ = (s.dbgSampled k pins).dbgStep k at heq
    generalize s.dbgSampled k pins = u at heq hat hpins heng hrd hform
    rw [State.dbgStep_opens (by rw [hat]; exact hh) (by rw [hat]; exact hs) (by rw [hat]; exact hp) (by rw [hat, hw]; decide), hat, hw] at heq
    have hnew : (u.sample.setEng k (fun e => { e with stepping := true })).engAt k = { s.engAt k with stepping := true } := by
      refine (State.engAt_setEng_same (s := u.sample) (fun e => { e with stepping := true }) (by rw [show u.sample.eng = u.eng from rfl, heng]; exact hlt)).trans ?_
      rw [show u.sample.engAt k = u.engAt k from rfl, hat]
    refine ⟨u.sample.setEng k (fun e => { e with stepping := true }), ?_, ?_, hrd, ?_, ?_, hpins⟩
    · rw [(exec_engDbg s w pins).2.1, hostRan_of_hostAlive hv, heq, ran_ok]
    · rw [hform]
      rfl
    · rw [hnew]
    · rw [hnew]
      exact hh
  · have heq := (State.dbgWrite_one (s := s.clocked.setPins pins) hk ((State.setPins_keeps State.running (fun _ _ _ => rfl) _ pins).trans hr) hsel hle).2.1 h1 h2 h3
    obtain ⟨hat, hpins, heng, hrd, hform⟩ := s.dbgSampled_frame k pins
    change _ = (s.dbgSampled k pins).dbgStep k at heq
    generalize s.dbgSampled k pins = u at heq hat hpins heng hrd hform
    have hatSample : u.sample.engAt k = s.engAt k := hat
    have hstep : u.sample.stepAt k = .ok (.set (0x10 + i) v) := by
      rw [← hst]
      refine State.stepAt_congr (by rw [hatSample]) fun a ha => hrd a fun e => absurd (e ▸ ha) (by decide)
    have hvar : u.sample.doStep k (.set (0x10 + i) v) = .ok ((u.sample.wn (A.SYS_EVAR i) v).advance k 1) := State.doSet_variable _ hi
    rw [State.dbgStep_opens (by rw [hat]; exact hh) (by rw [hat]; exact hs) (by rw [hat]; exact hp) (by rw [hat, hrun]; decide), hat, hrun, hstep] at heq
    replace heq := heq.trans hvar
    have hlow : A.SYS_EVAR i < 0x0160 := Nat.add_lt_add_left hi 0x0150
    have hlenEq : (u.sample.wn (A.SYS_EVAR i) v).engLen k = s.engLen k := by
      have h2 : 0x0F30 ≤ (F.ENG_LEN_LEN k).addr := Nat.le_add_right 0x0F30 k
      refine State.g_congr ((State.rd_wn_ne _ v ?_).trans (hrd _ ?_))
      · exact fun e => absurd (e ▸ hlow) (by omega)
      · exact fun e => absurd (e ▸ h2) (by decide)
    have hadv : (u.sample.wn (A.SYS_EVAR i) v).advance k 1 = (u.sample.wn (A.SYS_EVAR i) v).setEng k (Engine.goTo ((s.engAt k).pc + 1)) := by
      have hin : ((u.sample.wn (A.SYS_EVAR i) v).engAt k).pc + 1 < (u.sample.wn (A.SYS_EVAR i) v).engLen k := by
        rw [hlenEq, show (u.sample.wn (A.SYS_EVAR i) v).engAt k = s.engAt k from hat]
        exact hlen
      rw [State.advance_inside hin, show (u.sample.wn (A.SYS_EVAR i) v).engAt k = s.engAt k from hat]
    have hnew : ((u.sample.wn (A.SYS_EVAR i) v).setEng k (Engine.goTo ((s.engAt k).pc + 1))).engAt k = Engine.goTo ((s.engAt k).pc + 1) (s.engAt k) := by
      refine (State.engAt_setEng_same _ (by rw [show (u.sample.wn (A.SYS_EVAR i) v).eng = u.eng from rfl, heng]; exact hlt)).trans ?_
      rw [show (u.sample.wn (A.SYS_EVAR i) v).engAt k = s.engAt k from hat]
    rw [hadv] at heq
    refine ⟨(u.sample.wn (A.SYS_EVAR i) v).setEng k (Engine.goTo ((s.engAt k).pc + 1)), ?_, ?_, fun a ha1 ha2 => (State.rd_wn_ne _ v ha2).trans (hrd a ha1), ?_, ?_, ?_, ?_⟩
    · rw [(exec_engDbg s w pins).2.1, hostRan_of_hostAlive hv, heq, ran_ok]
    · rw [hform]
      rfl
    · exact (State.rn_wn_same _ _ _).trans (Nat.mod_eq_of_lt hv16)
    · rw [hnew]
      rfl
    · rw [hnew]
      unfold Engine.goTo Engine.goOn
      rw [hpre]
      rfl
    · rw [hnew]
      exact hh
  · have heq := (State.dbgWrite_one (s := s.clocked) hk hr hsel hle).2.2 h1 h2 h3
    have hrd : ∀ a, a ≠ A.ENG_DBG → (s.clocked.p F.ENG_DBG_SEL k).rd a = s.rd a := fun a ha => State.rd_p_ne _ _ ha
    have hform : s.clocked.p F.ENG_DBG_SEL k = { s.clocked with regs := (s.clocked.p F.ENG_DBG_SEL k).regs } := rfl
    generalize s.clocked.p F.ENG_DBG_SEL k = u at heq hrd hform
    have heng : u.eng = s.eng := by rw [hform]; rfl
    have hat : u.engAt k = s.engAt k := by
      unfold State.engAt
      rw [heng]
    have hres : u.resume k = u.setEng k (fun e => { e.preempt with halted := false, stepping := false }) := if_pos (by rw [hat]; exact hh)
    have hnew : (u.setEng k (fun e => { e.preempt with halted := false, stepping := false })).engAt k = { s.engAt k with halted := false, stepping := false } := by
      refine (State.engAt_setEng_same (s := u) (fun e => { e.preempt with halted := false, stepping := false }) (by rw [heng]; exact hlt)).trans ?_
      rw [hat, Engine.preempt_none hp]
    rw [hres] at heq
    refine ⟨u.setEng k (fun e => { e.preempt with halted := false, stepping := false }), ?_, ?_, hrd, ?_, ?_, ?_⟩
    · rw [(exec_engDbg s w ⟨false, false, false, false, false, false⟩).2.2, hostRan_of_hostAlive hv, heq, ran_ok]
    · rw [hform]
      rfl
    · rw [hnew]
    · rw [hnew]
    · rw [hnew]
  · rw [(exec_engDbg s w ⟨false, false, false, false, false, false⟩).1, (exec_engDbg s w ⟨false, false, false, false, false, false⟩).2.2]
    exact ⟨hostRan_of_unchanged fun t => State.dbgWrite_other hk, hostRan_of_unchanged fun t => State.dbgWrite_other hk⟩

end Sys2Proof.Machine
end

section
/-! PROOFS. A host write of one word (R14, R84, R120, R142). -/
namespace Sys2Proof.Machine

/-! ### A host write of one word (R14, R84, R120, R142) -/

section
variable {s : State} {a : Nat} {w : Word}

/-- The registers whose storing starts something. -/
def startsSomething : List Nat := [A.DRV_VSET, A.DRV_PHEN, A.CMP_PWR, A.WAY_STAT, A.RTC_ALMCFG] ++ (List.range 8).flatMap (fun k => [A.RTC_A0 k, A.RTC_A1 k, A.ADC_WINCFG k]) ++ domains.map A.DOM_VSET

theorem State.afterStore_plain (old : Word) (h : a ∉ startsSomething) : s.afterStore a old = s := by
  have hmem : ∀ b ∈ startsSomething, a ≠ b := fun b hb e => h (e ▸ hb)
  have hal : ∀ k, k < 8 → a ≠ A.RTC_A0 k ∧ a ≠ A.RTC_A1 k := fun k hk =>
    have hin : ∀ j < 8, A.RTC_A0 j ∈ startsSomething ∧ A.RTC_A1 j ∈ startsSomething := by decide
    ⟨hmem _ (hin k hk).1, hmem _ (hin k hk).2⟩
  have h0 : ¬ (A.RTC_A0 0 ≤ a ∧ a ≤ A.RTC_A0 7) := fun ⟨h1, h2⟩ => by
    have h3 : 0x0B10 + 0 ≤ a := h1
    have h4 : a ≤ 0x0B10 + 7 := h2
    have h5 : a ≠ 0x0B10 + (a - 0x0B10) := (hal (a - 0x0B10) (by omega)).1
    omega
  have h1 : ¬ (A.RTC_A1 0 ≤ a ∧ a ≤ A.RTC_A1 7) := fun ⟨h1, h2⟩ => by
    have h3 : 0x0B18 + 0 ≤ a := h1
    have h4 : a ≤ 0x0B18 + 7 := h2
    have h5 : a ≠ 0x0B18 + (a - 0x0B18) := (hal (a - 0x0B18) (by omega)).2
    omega
  have hwin : (List.range 8).find? (fun k => A.ADC_WINCFG k = a) = none := by
    rw [List.find?_eq_none]
    intro k hk he
    have hin : ∀ j ∈ List.range 8, A.ADC_WINCFG j ∈ startsSomething := by decide
    exact hmem _ (hin k hk) (of_decide_eq_true he).symm
  have hset : ([2, 3, 4, 5, 6, 7, 8, 10] : List Nat).find? (fun n => A.DOM_VSET n = a) = none := by
    rw [List.find?_eq_none]
    intro n hn he
    have hin : ∀ j ∈ ([2, 3, 4, 5, 6, 7, 8, 10] : List Nat), A.DOM_VSET j ∈ startsSomething := by decide
    exact hmem _ (hin n hn) (of_decide_eq_true he).symm
  unfold State.afterStore
  rw [if_neg (hmem _ (by decide)), if_neg (hmem _ (by decide)), if_neg (hmem _ (by decide)), if_neg (hmem _ (by decide)), if_neg (hmem _ (by decide)), if_neg (by simpa using h0), if_neg (by simpa using h1), hwin, hset]

/-- A register whose write is a command, or that lies in the recorder's store, takes no stored word by itself. -/
def isRecord (a : Nat) : Bool := decide (A.STK_REC 0 ≤ a) && decide (a ≤ A.STK_REC 32767)

theorem State.storeWord_plain (hb : s.writeBarred a w = none) (hs : a ∉ startsSomething) (hr : isRecord a = false) :
    s.storeWord a w =
      if rwMask a ≠ 0 ∧ wordOk a (storedWord a (s.rd a) (s.clampWord a w).1) = false then .error (.undefinedWrite a)
      else .ok ((s.wr a (storedWord a (s.rd a) (s.clampWord a w).1)).when (s.clampWord a w).2 (·.p F.SYS_IMGSTAT_CLAMP 1)) := by
  unfold State.storeWord
  rw [hb]
  dsimp only
  rw [State.afterStore_plain _ hs]
  unfold isRecord at hr
  rw [hr]
  simp only [Bool.false_and, Bool.false_eq_true, if_false, decide_not, Bool.and_eq_true, Bool.not_eq_true', decide_eq_false_iff_not, ne_eq]

theorem State.hostWrite_stored (hm : mapped a = true) (hp : s.power ≠ .boot ∨ survivalOf a ≠ .config) (hk : s.writeKey a w = none) : s.hostWrite a w = s.storeWord a w := by
  have hboot : ¬ ((decide (s.power = .boot) && decide (survivalOf a = .config)) = true) := by
    simp only [Bool.and_eq_true, decide_eq_true_eq, not_and_or]
    exact hp
  unfold State.hostWrite
  rw [hm, if_neg (by decide), if_neg hboot, hk]

/-- A register of 16 RW bits takes the word written. -/
theorem storedWord_rw (old : Word) (h1 : rwMask a = 65535) (h2 : w1cMask a = 0) (h3 : w1sMask a = 0) : storedWord a old w = w := by
  unfold storedWord
  rw [h1, h2, h3]
  simp only [BitVec.zero_and, BitVec.and_zero, BitVec.ofNat_eq_ofNat, BitVec.not_zero, BitVec.or_zero]
  have hnone : old &&& ~~~65535#16 &&& BitVec.allOnes 16 = 0#16 := by
    rw [BitVec.and_allOnes]
    exact BitVec.and_zero
  rw [hnone, BitVec.zero_or]
  exact BitVec.and_allOnes

/-- A register without a clamped field takes the word written. -/
theorem State.clampWord_free (s : State) (w : Word) (h : (clampedFields.map (·.1)).filter (·.addr = a) = []) : s.clampWord a w = (w, false) := by
  unfold State.clampWord
  rw [h]
  rfl

theorem wordOk_free (w : Word) (h : reservedFields.all (fun e => decide (e.1.addr ≠ a)) = true) : wordOk a w = true := by
  unfold wordOk
  rw [List.all_eq_true] at h ⊢
  intro e he
  rw [h e he]
  rfl

/-- R142: an engine variable takes the word written, in every state. -/
theorem State.hostWrite_variable (s : State) (w : Word) {k : Nat} (hk : k < 16) : s.hostWrite (A.SYS_EVAR k) w = .ok (s.wr (A.SYS_EVAR k) w) := by
  have hreg : ∀ j < 16, mapped (A.SYS_EVAR j) = true ∧ survivalOf (A.SYS_EVAR j) ≠ .config ∧ rwMask (A.SYS_EVAR j) = 65535 ∧ w1cMask (A.SYS_EVAR j) = 0 ∧ w1sMask (A.SYS_EVAR j) = 0 ∧ A.SYS_EVAR j ∉ startsSomething ∧
      isRecord (A.SYS_EVAR j) = false ∧ chgHeld (A.SYS_EVAR j) = false := by decide
  have hfree : ∀ j < 16, (clampedFields.map (·.1)).filter (·.addr = A.SYS_EVAR j) = [] ∧ reservedFields.all (fun e => decide (e.1.addr ≠ A.SYS_EVAR j)) = true := by decide
  obtain ⟨hm, hc, hrw, hw1c, hw1s, hs, hr, hheld⟩ := hreg k hk
  obtain ⟨hcl, hres⟩ := hfree k hk
  have hkey : s.writeKey (A.SYS_EVAR k) w = none := by
    clear hreg hfree hm hc hrw hw1c hw1s hs hr hheld hcl hres
    interval_cases k <;> rfl
  have hbar : s.writeBarred (A.SYS_EVAR k) w = none := by
    have h1 : A.SYS_EVAR k ≠ A.WAY_MBUDGET := fun e => absurd (Nat.add_lt_add_left hk 0x0150) (by rw [show 0x0150 + k = A.WAY_MBUDGET from e]; decide)
    have h2 : A.SYS_EVAR k ≠ A.DRV_PHEN := fun e => absurd (Nat.add_lt_add_left hk 0x0150) (by rw [show 0x0150 + k = A.DRV_PHEN from e]; decide)
    unfold State.writeBarred
    rw [hheld, decide_eq_false h1, decide_eq_false h2, Bool.and_false]
    rfl
  rw [State.hostWrite_stored hm (.inr hc) hkey, State.storeWord_plain hbar hs hr, s.clampWord_free w hcl, storedWord_rw _ hrw hw1c hw1s, wordOk_free _ hres, if_neg (by simp)]
  rfl

theorem exec_writes (s : State) (a w : Word) : exec (.registerWrite a w) s = hostRan s (·.hostWrite a.toNat w) ∧ exec (.hifAck w) s = hostDone s (·.writeHifAck w) ∧ exec .hifErrRead s = done (s.readOne A.HIF_ERR) := ⟨rfl, rfl, rfl⟩

end

/-- Settles O20: each write by what its address is, and the read of HIF_ERR. -/
theorem hostWriteStores : Obligations.HostWriteStores := by
  refine ⟨fun s k w hk ha => ?_, fun s a w ha hm => ?_, fun s a w ha => ?_, fun s w ha => ?_, fun s ha => ?_, fun s a w hm hp hc => ?_, fun s a w hm hp hk hb hs hr => ?_, fun s t u a w ws ht hu => ?_⟩
  · have hn : (BitVec.ofNat 16 (A.SYS_EVAR k)).toNat = A.SYS_EVAR k := by
      rw [BitVec.toNat_ofNat]
      exact Nat.mod_eq_of_lt (Nat.lt_trans (Nat.add_lt_add_left hk 0x0150) (by decide))
    rw [(exec_writes s _ w).1, hostRan_of_hostAlive ha, hn, State.hostWrite_variable _ w hk, ran_ok]
  · have herr : s.clocked.hostWrite a.toNat w = .error (.unmappedAddress a.toNat) := by
      unfold State.hostWrite
      rw [hm]
      rfl
    rw [(exec_writes s a w).1, hostRan_of_hostAlive ha, herr]
    rfl
  · rw [(exec_writes s a w).1, hostRan, if_neg (by rw [ha]; decide), done_eq]
  · rw [(exec_writes s 0 w).2.1, hostDone_of_hostAlive _ ha]
    rfl
  · have hread : s.clocked.readWord .host A.HIF_ERR = (s.rd A.HIF_ERR, s.clocked.p F.HIF_ERR_REJCNT 0) := by
      unfold State.readWord
      rw [if_neg (by rw [Bool.and_assoc, show (decide (A.WAY_MCFG ≤ A.HIF_ERR) && decide (A.HIF_ERR ≤ A.WAY_W 123)) = false from by decide, Bool.and_false]; decide), if_neg (by decide), if_pos rfl]
      rfl
    have hone : s.readOne A.HIF_ERR = ((s.clocked.p F.HIF_ERR_REJCNT 0).accept.answer (goodReply (s.clocked.statusWord s.hif.perr) [s.rd A.HIF_ERR] (decide (2 ≤ s.version)))
        (goodReply (s.clocked.statusWord s.hif.perr) [s.rd A.HIF_ERR] (decide (2 ≤ s.version))).bytes) := by
      unfold State.readOne
      rw [if_pos ha, State.demandFast_of_hostAlive ha]
      dsimp only
      rw [hread]
      rfl
    rw [(exec_writes s 0 0).2.2, hone, done_eq]
    exact ⟨_, rfl, rfl, rfl, State.g_p_same s.clocked F.HIF_ERR_REJCNT 0 (by decide), State.g_p_beside s.clocked 0 (f := F.HIF_ERR_REJCNT) (g := F.HIF_ERR_CODE) (by decide) (.inl (by decide)),
      fun b hb => State.rd_p_ne s.clocked 0 (f := F.HIF_ERR_REJCNT) hb⟩
  · unfold State.hostWrite
    rw [hm, if_neg (by decide), if_pos (by rw [hp, hc]; rfl)]
  · have hrec : isRecord a = false := by
      unfold isRecord
      rcases hr with h | h
      · rw [decide_eq_false (Nat.not_le.mpr h)]
        rfl
      · rw [decide_eq_false (Nat.not_le.mpr h), Bool.and_false]
    rw [State.hostWrite_stored hm hp hk, State.storeWord_plain hb hs hrec]
    rfl
  · rw [hostWrites_cons_of_ok ht, hu]

end Sys2Proof.Machine
end

section
/-! PROOFS. FLT_FRC, FLT_TEST and the keys of the queue (R637, R644, R646, R670). -/
namespace Sys2Proof.Machine

/-! ### FLT_FRC, FLT_TEST and MRQ_CTL (R637, R644, R646, R670) -/

section
variable {s : State} {w : Word} {k : Nat}

theorem hostDone_of_unchanged_here {f : State → State} (hf : f s.clocked = s.clocked) : hostDone s f = .next s.framed.settle := by
  unfold State.framed
  split
  next h => rw [hostDone_of_hostAlive f h, hf]
  next h => rw [hostDone, if_neg h, done_eq]

theorem exec_collectorKeys (s : State) (k : Nat) (w : Word) :
    exec (.fltFrc k w) s = hostDone s (·.writeForce k w) ∧ exec (.fltTest w) s = hostDone s (·.writeFltTest w) ∧ exec (.queueFlush w) s = hostDone s (·.writeMrqCtl w) ∧ exec (.mrqCounterClear w) s = hostDone s (·.writeMrqCtl w) :=
  ⟨rfl, rfl, rfl, rfl⟩

/-- R637: the raises of the sources of a list, in its order. -/
theorem State.each_raises (s : State) (p : Nat → Bool) (f : Nat → Nat) (o : Origin) (l : List Nat) :
    s.each l (fun s i => if p i then s.raiseBy o (f i) else s) = { s with flt := { s.flt with raised := s.flt.raised ++ (l.filter p).map (fun i => (⟨f i, o, s.power.code⟩ : Raise)) } } := by
  induction l generalizing s with
  | nil =>
    rw [List.filter_nil, List.map_nil, List.append_nil]
    rfl
  | cons x xs ih =>
    show (if p x then s.raiseBy o (f x) else s).each xs _ = _
    rw [ih]
    by_cases hx : p x = true
    · rw [if_pos hx, List.filter_cons_of_pos hx]
      unfold State.raiseBy
      simp only [List.map_cons, List.append_assoc, List.singleton_append]
    · rw [if_neg hx, List.filter_cons_of_neg hx]

theorem State.writeForce_armed (h : s.b F.FLT_TEST_ARM = true) :
    s.writeForce k w = { s with flt := { s.flt with raised := s.flt.raised ++ ((List.range 16).filter (fun i => w.toNat.testBit i)).map (fun i => (⟨16 * k + i, .force, s.power.code⟩ : Raise)) } } := by
  unfold State.writeForce
  rw [if_pos h]
  exact s.each_raises _ _ _ _

theorem State.writeFltTest_key (hd : F.FLT_TEST_DRYHIT.get w = 0) (hk : F.FLT_TEST_KEY.get w = 0xF7) :
    s.writeFltTest w = (s.p F.FLT_TEST_DRY (F.FLT_TEST_DRY.get w)).p F.FLT_TEST_ARM (F.FLT_TEST_ARM.get w) := by
  unfold State.writeFltTest
  rw [hd, if_pos hk]
  rfl

theorem State.writeFltTest_other (hd : F.FLT_TEST_DRYHIT.get w = 0) (hk : F.FLT_TEST_KEY.get w ≠ 0xF7) : s.writeFltTest w = s := by
  unfold State.writeFltTest
  rw [hd, if_neg hk]
  rfl

theorem State.writeMrqCtl_cases (s : State) :
    s.writeMrqCtl 0xD5C1#16 = s.flushQueue ∧ s.writeMrqCtl 0xC1EA#16 = (s.zeros (A.MRQ_DROP 0) 4).wr A.MRQ_CNTRST 0 ∧ ∀ w, w ≠ 0xD5C1#16 → w ≠ 0xC1EA#16 → s.writeMrqCtl w = s :=
  ⟨rfl, rfl, fun _ h1 h2 => (if_neg h1).trans (if_neg h2)⟩

/-- R670: the flush of a queue whose pointers agree. -/
theorem State.flushQueue_agree (h : ∀ c ∈ ([0, 1, 2, 3] : List Nat), s.mrq.ptrsAgree c = true) :
    ∃ rp rp2, s.flushQueue = { s with mrq := { s.mrq with pkts := [], rp := rp, rp2 := rp2 } } := by
  have hall : (s.mrq.ptrsAgree 0 && s.mrq.ptrsAgree 1 && s.mrq.ptrsAgree 2 && s.mrq.ptrsAgree 3) = true := by
    rw [h 0 (by decide), h 1 (by decide), h 2 (by decide), h 3 (by decide)]
    rfl
  unfold State.flushQueue
  rw [if_pos hall]
  exact ⟨_, _, rfl⟩

end

/-- Settles O23: each key with its effect, and any other word. -/
theorem collectorAndQueueKeys : Obligations.CollectorAndQueueKeys := by
  refine ⟨fun s k w hk ha harm => ?_, fun s k w harm => ?_, fun s w ha hd hk => ?_, fun s w hd hk => ?_, fun s ha hag => ?_, fun s ha => ?_, fun s w h1 h2 => ?_⟩
  · rw [(exec_collectorKeys s k w).1, hostDone_of_hostAlive _ ha, State.writeForce_armed (s := s.clocked) harm]
    rfl
  · have hkeep : s.clocked.writeForce k w = s.clocked := if_neg (by rw [show s.clocked.b F.FLT_TEST_ARM = false from harm]; decide)
    rw [(exec_collectorKeys s k w).1]
    exact hostDone_of_unchanged_here hkeep
  · rw [(exec_collectorKeys s 0 w).2.1, hostDone_of_hostAlive _ ha, State.writeFltTest_key hd hk]
  · rw [(exec_collectorKeys s 0 w).2.1]
    exact hostDone_of_unchanged_here (State.writeFltTest_other hd hk)
  · obtain ⟨rp, rp2, heq⟩ := State.flushQueue_agree (s := s.clocked) hag
    refine ⟨s.clocked.flushQueue, ?_, ?_, ?_⟩
    · rw [(exec_collectorKeys s 0 _).2.2.1, hostDone_of_hostAlive _ ha, s.clocked.writeMrqCtl_cases.1]
    · rw [heq]
    · rw [heq]
      exact ⟨rfl, rfl, rfl, rfl, rfl⟩
  · have hregs : s.clocked.zeros (A.MRQ_DROP 0) 4 = { s.clocked with regs := (s.clocked.zeros (A.MRQ_DROP 0) 4).regs } := State.zeros_eq _ _ _
    have hout := fun x (h : ∀ k, k < 4 → x ≠ A.MRQ_DROP 0 + k) => s.clocked.rd_zeros_outside (a := A.MRQ_DROP 0) (n := 4) h
    have hin := fun k (h : k < 4) => s.clocked.rd_zeros_inside (A.MRQ_DROP 0) h
    refine ⟨(s.clocked.zeros (A.MRQ_DROP 0) 4).wr A.MRQ_CNTRST 0, ?_, ?_, fun a h0 h1 h2 h3 h4 => ?_, fun c hc => ?_, State.rd_wr_same _ _ _⟩
    · rw [(exec_collectorKeys s 0 _).2.2.2, hostDone_of_hostAlive _ ha, s.clocked.writeMrqCtl_cases.2.1]
    · rw [hregs]
      rfl
    · refine (State.rd_wr_ne _ 0 h4).trans (hout a fun k hk => ?_)
      have h5 : k = 0 ∨ k = 1 ∨ k = 2 ∨ k = 3 := by omega
      rcases h5 with rfl | rfl | rfl | rfl <;> assumption
    · have hne : ∀ c < 4, A.MRQ_DROP c ≠ A.MRQ_CNTRST := by decide
      exact (State.rd_wr_ne _ 0 (hne c hc)).trans (hin c hc)
  · rw [(exec_collectorKeys s 0 w).2.2.1, (exec_collectorKeys s 0 w).2.2.2]
    exact ⟨hostDone_of_unchanged s fun t => t.writeMrqCtl_cases.2.2 w h1 h2, hostDone_of_unchanged s fun t => t.writeMrqCtl_cases.2.2 w h1 h2⟩

end Sys2Proof.Machine
end

section
/-! PROOFS. A frame that passes its checks (R114 to R132). -/
namespace Sys2Proof.Machine

/-! ### A frame that passes its checks (R114 to R132) -/

section
variable {s : State} {code hi lo c : Byte} {f : Frame} {o : Op} {d tail : List Byte}

/-- A frame that is whole, in its version, and carries its CRC where it has one. -/
theorem checkFrame_whole (hcut : f.opCut = false) (hsoon : f.tooSoon = false) (hop : opOf code.toNat = some o) (hv : o.since ≤ s.version) (hbody : f.body = hi :: lo :: c :: (d ++ tail))
    (ha : o.addrOk (beNat hi lo) = true) (hc : o.cntOk s.version (beNat hi lo) c.toNat = true) (hd : d.length = 2 * o.dataWords c.toNat) (hdata : s.dataCheck o (beWords d) = none)
    (htail : o.crc s.version = false ∨ tail = [crc8 (code :: hi :: lo :: c :: d)]) (hrly : (o = .rly && s.b F.HIF_RLYSTAT_BUSY) = false) :
    s.checkFrame code f = .ok ⟨o, beNat hi lo, c.toNat, beWords d⟩ := by
  have htake : (d ++ tail).take (2 * o.dataWords c.toNat) = d := by rw [← hd, List.take_left]
  have hcounted : Counted s code f o hi lo c (d ++ tail) := ⟨⟨by rw [hsoon]; rfl, hcut, hop, Nat.not_lt.mpr hv⟩, hbody, ha, hc, by rw [List.length_append, hd]; omega⟩
  have hx : o.crc s.version = false ∨ (d ++ tail)[2 * o.dataWords c.toNat]? = some (crc8 (code :: f.body.take (3 + 2 * o.dataWords c.toNat))) := by
    refine htail.imp_right fun ht => ?_
    have h3 : f.body.take (3 + 2 * o.dataWords c.toNat) = hi :: lo :: c :: d := by
      rw [hbody, show 3 + 2 * o.dataWords c.toNat = 2 * o.dataWords c.toNat + 1 + 1 + 1 by omega, List.take_succ_cons, List.take_succ_cons, List.take_succ_cons, htake]
    rw [h3, ht, ← hd, List.getElem?_append_right (Nat.le_refl _), Nat.sub_self]
    rfl
  have hok := hcounted.check_ok (by rw [htake]; exact hdata) hx
  rw [htake, hrly] at hok
  exact hok

/-- An accepted frame of a read-type operation. -/
theorem runFrame_reads {cmd : Command} (hl : s.hostAlive = true) (hs : s.selects f.target = true) (hn : (s.isI2c && f.noRead) = false) (h : s.checkFrame code f = .ok cmd) (hr : cmd.op.reads = true) :
    s.runFrame code f = .ok (s.clocked.replied (s.clocked.readEffect cmd f.taken).2 code f (s.clocked.readEffect cmd f.taken).1 (cmd.op.crc s.version)) := by
  unfold State.runFrame
  rw [hl, hs, h]
  simp only [Bool.not_true, Bool.or_self, Bool.false_eq_true, if_false, hr, if_true, hn, State.demandFast_of_hostAlive hl]
  rfl

/-- An accepted frame of a write-type operation, in SPI. -/
theorem runFrame_writes {cmd : Command} (hl : s.hostAlive = true) (hi : s.isI2c = false) (h : s.checkFrame code f = .ok cmd) (hr : cmd.op.reads = false) :
    s.runFrame code f = (s.clocked.writeEffect cmd).map (fun t => s.clocked.replied t code f [] (cmd.op.crc s.version)) := by
  have hi' : s.clocked.isI2c = false := hi
  unfold State.runFrame State.selects
  rw [hl, hi, h]
  simp only [Bool.not_true, Bool.not_false, Bool.true_or, Bool.or_self, Bool.false_eq_true, if_false, hr, Bool.false_and, State.demandFast_of_hostAlive hl, hi']
  cases s.clocked.writeEffect cmd <;> rfl

/-- R117: in I2C its reply is that of the state which the step time has made. -/
def State.repliedLate (s t : State) (code : Byte) (f : Frame) : State :=
  let r := goodReply (t.settle.statusWord s.hif.perr) [] true
  t.accept.answer r (s.frameOut code f r)

theorem runFrame_writes_i2c {cmd : Command} (hl : s.hostAlive = true) (hi : s.isI2c = true) (hs : s.selects f.target = true) (hn : f.noRead = false) (h : s.checkFrame code f = .ok cmd) (hr : cmd.op.reads = false)
    (hc : cmd.op.crc s.version = true) :
    s.runFrame code f = (s.clocked.writeEffect cmd).map (fun t => s.repliedLate t code f) := by
  have hi' : s.clocked.isI2c = true := hi
  have hc' : cmd.op.crc s.clocked.version = true := hc
  unfold State.runFrame
  rw [hl, hs, h]
  simp only [Bool.not_true, Bool.or_self, Bool.false_eq_true, if_false, hr, hn, Bool.and_false, State.demandFast_of_hostAlive hl, hi', if_true, hc']
  cases s.clocked.writeEffect cmd <;> rfl

/-- A frame to another address (R112). -/
theorem runFrame_other (h : s.selects f.target = false) : s.runFrame code f = .ok s := by
  unfold State.runFrame
  rw [h]
  exact if_pos (by simp)

theorem crc_of_version (o : Op) {v : Nat} (h : 2 ≤ v) : o.crc v = true := by
  unfold Op.crc
  rw [decide_eq_true h]
  rfl

/-! ### The words of a frame's data -/

theorem beWords_wordBytes : (ws : List Word) → beWords (ws.flatMap wordBytes) = ws
  | [] => rfl
  | w :: r => by
    have hlt := w.isLt
    have hw : BitVec.ofNat 16 (beNat (BitVec.ofNat 8 (w.toNat / 256)) (BitVec.ofNat 8 w.toNat)) = w := by
      apply BitVec.eq_of_toNat_eq
      unfold beNat
      rw [BitVec.toNat_ofNat, BitVec.toNat_ofNat, BitVec.toNat_ofNat]
      omega
    rw [List.flatMap_cons]
    show BitVec.ofNat 16 (beNat (BitVec.ofNat 8 (w.toNat / 256)) (BitVec.ofNat 8 w.toNat)) :: beWords (r.flatMap wordBytes) = _
    rw [hw, beWords_wordBytes r]

theorem length_flatMap_wordBytes (ws : List Word) : (ws.flatMap wordBytes).length = 2 * ws.length := by
  induction ws with
  | nil => rfl
  | cons w r ih =>
    rw [List.flatMap_cons, List.length_append, ih, List.length_cons]
    show 2 + 2 * r.length = _
    omega

/-- R120: words written to engine variables. -/
theorem State.hostWrites_variables (s : State) (ws : List Word) {k : Nat} (h : k + ws.length ≤ 16) : s.hostWrites (A.SYS_EVAR k) ws = .ok (s.wrs (A.SYS_EVAR k) ws) := by
  induction ws generalizing s k with
  | nil => rfl
  | cons w r ih =>
    rw [List.length_cons] at h
    rw [hostWrites_cons_of_ok (s.hostWrite_variable w (by omega))]
    exact ih _ (k := k + 1) (by omega)

theorem hostWrites_one (s : State) (a : Nat) (w : Word) : s.hostWrites a [w] = s.hostWrite a w := by
  unfold State.hostWrites
  cases s.hostWrite a w <;> rfl

end
end Sys2Proof.Machine
end

section
/-! PROOFS. The frames accepted, by version and by bus (R114 to R132). -/
namespace Sys2Proof.Machine

section
variable {s : State} {code hi lo c : Byte} {o : Op} {d : List Byte} {taken : Nat}

/-! ### Sealed frames in SPI and I2C, and plain frames in P1 -/

/-- A read-type operation has no data of the host's. -/
theorem Op.reads_noData (hr : o.reads = true) (n : Nat) : o.dataWords n = 0 ∧ (∀ ws, s.dataCheck o ws = none) ∧ o ≠ .rly := by
  cases o with
  | rd | rdb | qpop | rd32 | hello => exact ⟨rfl, fun _ => rfl, by decide⟩
  | nop | wr | ack | rly | select => cases hr

/-- A sealed frame whose target is t. -/
theorem checkFrame_sealed (t : Nat) (hop : opOf code.toNat = some o) (hv : o.since ≤ s.version) (ha : o.addrOk (beNat hi lo) = true) (hc : o.cntOk s.version (beNat hi lo) c.toNat = true)
    (hd : d.length = 2 * o.dataWords c.toNat) (hdata : s.dataCheck o (beWords d) = none) (hrly : o = .rly → s.b F.HIF_RLYSTAT_BUSY = false) :
    s.checkFrame code { sealFrame code (hi :: lo :: c :: d) taken with target := t } = .ok ⟨o, beNat hi lo, c.toNat, beWords d⟩ := by
  refine checkFrame_whole (tail := [crc8 (code :: hi :: lo :: c :: d)]) rfl rfl hop hv rfl ha hc hd hdata (.inr rfl) ?_
  by_cases ho : o = .rly
  · rw [hrly ho, Bool.and_false]
  · rw [decide_eq_false ho, Bool.false_and]

/-- A read-type sealed frame that is accepted. -/
theorem sealedRead (t : Nat) (hl : s.hostAlive = true) (hs : s.selects t = true) (hop : opOf code.toNat = some o) (hr : o.reads = true) (hv : o.since ≤ s.version) (hcrc : o.crc s.version = true)
    (ha : o.addrOk (beNat hi lo) = true) (hc : o.cntOk s.version (beNat hi lo) c.toNat = true) {ws : List Word} {u : State} (he : s.clocked.readEffect ⟨o, beNat hi lo, c.toNat, []⟩ taken = (ws, u)) :
    ran (s.runFrame code { sealFrame code [hi, lo, c] taken with target := t }) = .next (s.clocked.replied u code { sealFrame code [hi, lo, c] taken with target := t } ws true).settle := by
  obtain ⟨hd, hdata, hrly⟩ := Op.reads_noData (s := s) hr c.toNat
  have hcheck := checkFrame_sealed (taken := taken) (d := []) t hop hv ha hc (by rw [hd]; rfl) (hdata _) fun h => absurd h hrly
  rw [runFrame_reads hl hs (Bool.and_false _) hcheck hr, ran_ok]
  show Host.Outcome.next (s.clocked.replied (s.clocked.readEffect ⟨o, beNat hi lo, c.toNat, []⟩ taken).2 code _ (s.clocked.readEffect ⟨o, beNat hi lo, c.toNat, []⟩ taken).1 (o.crc s.version)).settle = _
  rw [hcrc, he]

/-- A write-type sealed frame that is accepted, in SPI. -/
theorem sealedWrite (hl : s.hostAlive = true) (hi2c : s.isI2c = false) (hop : opOf code.toNat = some o) (hr : o.reads = false) (hv : o.since ≤ s.version) (hcrc : o.crc s.version = true) (ha : o.addrOk (beNat hi lo) = true)
    (hc : o.cntOk s.version (beNat hi lo) c.toNat = true) (hd : d.length = 2 * o.dataWords c.toNat) (hdata : s.dataCheck o (beWords d) = none) (hrly : o = .rly → s.b F.HIF_RLYSTAT_BUSY = false) :
    ran (s.runFrame code (sealFrame code (hi :: lo :: c :: d) taken)) =
      ran ((s.clocked.writeEffect ⟨o, beNat hi lo, c.toNat, beWords d⟩).map (fun t => s.clocked.replied t code (sealFrame code (hi :: lo :: c :: d) taken) [] true)) := by
  have hcheck := checkFrame_sealed (taken := taken) 0 hop hv ha hc hd hdata hrly
  have hrun := runFrame_writes (f := sealFrame code (hi :: lo :: c :: d) taken) hl hi2c hcheck hr
  rw [hrun]
  show ran ((s.clocked.writeEffect ⟨o, beNat hi lo, c.toNat, beWords d⟩).map (fun t => s.clocked.replied t code (sealFrame code (hi :: lo :: c :: d) taken) [] (o.crc s.version))) = _
  rw [hcrc]

/-- A write-type sealed frame that is accepted, in I2C. -/
theorem sealedWrite_i2c (hl : s.hostAlive = true) (hi2c : s.isI2c = true) (hop : opOf code.toNat = some o) (hr : o.reads = false) (hv : o.since ≤ s.version) (hcrc : o.crc s.version = true)
    (ha : o.addrOk (beNat hi lo) = true) (hc : o.cntOk s.version (beNat hi lo) c.toNat = true) (hd : d.length = 2 * o.dataWords c.toNat) (hdata : s.dataCheck o (beWords d) = none) (hrly : o = .rly → s.b F.HIF_RLYSTAT_BUSY = false)
    {t : State} (he : s.clocked.writeEffect ⟨o, beNat hi lo, c.toNat, beWords d⟩ = .ok t) :
    ran (s.runFrame code { sealFrame code (hi :: lo :: c :: d) taken with target := s.i2cAddr }) = .next (s.repliedLate t code { sealFrame code (hi :: lo :: c :: d) taken with target := s.i2cAddr }).settle := by
  have hcheck := checkFrame_sealed (taken := taken) s.i2cAddr hop hv ha hc hd hdata hrly
  have hs : s.selects s.i2cAddr = true := by
    unfold State.selects
    rw [decide_eq_true rfl, Bool.or_true]
  rw [runFrame_writes_i2c hl hi2c hs rfl hcheck hr hcrc, he]
  rfl

/-- A plain frame of P1: no CRC is checked. -/
theorem plain_check (hv : s.version = 1) (hop : opOf code.toNat = some o) (hsince : o.since ≤ 1) (hcrc : o.crc 1 = false) (ha : o.addrOk (beNat hi lo) = true) (hc : o.cntOk 1 (beNat hi lo) c.toNat = true)
    (hd : d.length = 2 * o.dataWords c.toNat) (hdata : s.dataCheck o (beWords d) = none) :
    s.checkFrame code ⟨0, false, hi :: lo :: c :: d, false, taken, false⟩ = .ok ⟨o, beNat hi lo, c.toNat, beWords d⟩ := by
  have hrly : (o = .rly && s.b F.HIF_RLYSTAT_BUSY) = false := by
    have ho : o ≠ .rly := by
      rintro rfl
      exact absurd hsince (by decide)
    rw [decide_eq_false ho, Bool.false_and]
  exact checkFrame_whole (tail := []) rfl rfl hop (by rw [hv]; exact hsince) (by rw [List.append_nil]) ha (by rw [hv]; exact hc) hd hdata (.inl (by rw [hv]; exact hcrc)) hrly

theorem selects_spi (h : s.isI2c = false) (t : Nat) : s.selects t = true := by
  unfold State.selects
  rw [h]
  rfl

theorem selects_own (s : State) : s.selects s.i2cAddr = true := by
  unfold State.selects
  rw [decide_eq_true rfl, Bool.or_true]

/-- R121: the words that a read-type frame returns where the host takes them all. -/
theorem readEffect_rd {n : Nat} (s : State) (a : Nat) (h : 2 * n ≤ taken) :
    s.readEffect ⟨.rd, a, n, []⟩ taken = s.readWords .host a n ∧ s.readEffect ⟨.rdb, a, n, []⟩ taken = s.readWords .host a n := by
  have hmin : min n ((taken + 1) / 2) = n := Nat.min_eq_left (by omega)
  unfold State.readEffect
  dsimp only
  rw [hmin]
  exact ⟨rfl, rfl⟩

theorem readEffect_rd32 {n : Nat} (s : State) (a : Nat) (h : 4 * n ≤ taken) : s.readEffect ⟨.rd32, a, n, []⟩ taken = s.readWords .pair a (2 * n) := by
  have hmin : min (2 * n) ((taken + 1) / 2) = 2 * n := Nat.min_eq_left (by omega)
  unfold State.readEffect
  dsimp only
  rw [hmin]

theorem cntOk_rd {v a n : Nat} (h1 : 1 ≤ n) (h2 : n ≤ if v = 1 then 4 else 16) : Op.rd.cntOk v a n = true ∧ Op.wr.cntOk v a n = true := by
  have h : (decide (1 ≤ n) && decide (n ≤ if v = 1 then 4 else 16)) = true := by rw [decide_eq_true h1, decide_eq_true h2]; rfl
  exact ⟨h, h⟩

theorem limit_of_version {v : Nat} (h : 2 ≤ v) : (if v = 1 then 4 else 16) = 16 := if_neg (by omega)

/-- The address of an engine variable in a frame. -/
theorem beNat_variable {k : Nat} (hk : k < 16) : beNat 0x01 (BitVec.ofNat 8 (0x50 + k)) = A.SYS_EVAR k := by
  unfold beNat
  rw [BitVec.toNat_ofNat, Nat.mod_eq_of_lt (by omega)]
  exact (Nat.add_assoc 256 0x50 k).symm

end

/-- Settles O15: the frames by operation, in SPI, in P1 and in I2C. -/
theorem framesAccepted : Obligations.FramesAccepted := by
  refine ⟨fun s hl hspi hv => ?_, fun s v n hl hspi hv h1 h3 => ?_, fun s taken hl hspi hv => ?_, fun s hi lo c taken hl hspi hv => ?_, fun s k n ws hl hspi hv hne hlen => ?_, fun s hi lo c taken k hl hi2c hv => ?_,
    fun s f hi2c ht => ?_⟩
  · intro s1
    have hsel := selects_spi hspi 0
    have hlim := limit_of_version hv
    refine ⟨fun n => ?_, fun n => ?_, fun hi lo c taken h1 h16 ht => ?_, fun hi lo c taken h1 ht => ?_, fun hi lo c taken hv3 h1 h8 ha ht => ?_, fun hi lo wh wl n => ?_, fun k wh wl n hk => ?_⟩
    · exact sealedWrite (o := .nop) (d := []) hl hspi rfl rfl (by omega : 1 ≤ s.version) (crc_of_version _ hv) rfl rfl rfl rfl nofun
    · exact sealedWrite (o := .ack) (d := []) hl hspi rfl rfl hv (crc_of_version _ hv) rfl rfl rfl rfl nofun
    · exact sealedRead (o := .rd) 0 hl hsel rfl rfl (by omega : 1 ≤ s.version) (crc_of_version _ hv) rfl (cntOk_rd h1 (by rw [hlim]; exact h16)).1 (readEffect_rd s.clocked _ ht).1
    · have hc : Op.rdb.cntOk s.version (beNat hi lo) c.toNat = true := by
        have hlt := c.isLt
        show (decide (1 ≤ c.toNat) && decide (c.toNat ≤ 255)) = true
        rw [decide_eq_true h1, decide_eq_true (by omega : c.toNat ≤ 255)]
        rfl
      exact sealedRead (o := .rdb) 0 hl hsel rfl rfl hv (crc_of_version _ hv) rfl hc (readEffect_rd s.clocked _ ht).2
    · have hc : Op.rd32.cntOk s.version (beNat hi lo) c.toNat = true := by
        show (decide (1 ≤ c.toNat) && decide (c.toNat ≤ 8) && decide (beNat hi lo + 2 * c.toNat ≤ 65536)) = true
        rw [decide_eq_true h1, decide_eq_true h8, decide_eq_true ha]
        rfl
      exact sealedRead (o := .rd32) 0 hl hsel rfl rfl (by rw [hv3]; decide) (crc_of_version _ hv) rfl hc (readEffect_rd32 s.clocked _ ht)
    · have hrun := sealedWrite (o := .wr) (code := 0x02) (hi := hi) (lo := lo) (c := 1) (d := [wh, wl]) (taken := n) hl hspi rfl rfl (by omega : 1 ≤ s.version) (crc_of_version _ hv) rfl (cntOk_rd (by decide) (by rw [hlim]; decide)).2 rfl rfl nofun
      refine hrun.trans ?_
      show ran ((s1.hostWrites (beNat hi lo) [BitVec.ofNat 16 (beNat wh wl)]).map _) = _
      rw [hostWrites_one]
      cases s1.hostWrite (beNat hi lo) (BitVec.ofNat 16 (beNat wh wl)) <;> rfl
    · have hrun := sealedWrite (o := .wr) (code := 0x02) (hi := 0x01) (lo := 0x50 + k) (c := 1) (d := [wh, wl]) (taken := n) hl hspi rfl rfl (by omega : 1 ≤ s.version) (crc_of_version _ hv) rfl (cntOk_rd (by decide) (by rw [hlim]; decide)).2 rfl rfl nofun
      have haddr : beNat 0x01 (0x50 + k) = A.SYS_EVAR k.toNat := by
        rw [← beNat_variable hk, BitVec.ofNat_add, BitVec.ofNat_toNat, BitVec.setWidth_eq]
        rfl
      refine hrun.trans ?_
      show ran ((s1.hostWrites (beNat 0x01 (0x50 + k)) [BitVec.ofNat 16 (beNat wh wl)]).map _) = _
      rw [hostWrites_one, haddr, State.hostWrite_variable _ _ hk]
      rfl
  · have hx : beNat 0x5E v = 0x5E00 + v.toNat := rfl
    have hdata : s.dataCheck .select (beWords [0x5E, v]) = none := by
      show (if (BitVec.ofNat 16 (beNat 0x5E v)).toNat / 256 ≠ 0x5E || (BitVec.ofNat 16 (beNat 0x5E v)).toNat / 4 % 64 ≠ 0 || (BitVec.ofNat 16 (beNat 0x5E v)).toNat % 4 = 0 then some 8 else none) = none
      rw [BitVec.toNat_ofNat, Nat.mod_eq_of_lt (beNat_lt _ _), hx]
      refine if_neg ?_
      simp only [Bool.or_eq_true, decide_eq_true_eq]
      omega
    have hrun := sealedWrite (o := .select) (code := 0xF1) (hi := 0) (lo := 0) (c := 1) (d := [0x5E, v]) (taken := n) hl hspi rfl rfl hv (by unfold Op.crc; simp) rfl rfl rfl hdata nofun
    have hver : (BitVec.ofNat 16 (beNat 0x5E v)).toNat % 4 = v.toNat := by
      rw [BitVec.toNat_ofNat, Nat.mod_eq_of_lt (beNat_lt _ _), hx]
      omega
    refine hrun.trans ?_
    show ran (.ok (s.clocked.replied (s.clocked.p F.HIF_VER_VER ((BitVec.ofNat 16 (beNat 0x5E v)).toNat % 4)) 0xF1 _ [] true)) = _
    rw [hver, ran_ok]
  · exact sealedRead (o := .hello) (ws := s.clocked.helloWords) (u := s.clocked) 0 hl (selects_spi hspi 0) rfl rfl hv (by unfold Op.crc; simp) rfl rfl rfl
  · intro plain s1
    have hver : ∀ o : Op, o.crc 1 = false → o.crc s.version = false := fun o h => by rw [hv]; exact h
    refine ⟨?_, fun h1 h4 ht => ?_, fun k hk => ?_⟩
    · have hcheck := plain_check (o := .nop) (code := 0x00) (hi := 0) (lo := 0) (c := 0) (d := []) (taken := taken) hv rfl (by decide) rfl rfl rfl rfl rfl
      show ran (s.runFrame 0x00 _) = _
      rw [runFrame_writes (f := plain [0, 0, 0]) hl hspi hcheck rfl, hver .nop rfl]
      rfl
    · have hcheck := plain_check (o := .rd) (code := 0x01) (hi := hi) (lo := lo) (c := c) (d := []) (taken := taken) hv rfl (by decide) rfl rfl (cntOk_rd (v := 1) h1 h4).1 rfl rfl
      show ran (s.runFrame 0x01 _) = _
      rw [runFrame_reads (f := plain [hi, lo, c]) hl (selects_spi hspi 0) (by rw [hspi]; rfl) hcheck rfl, hver .rd rfl, ran_ok]
      show Host.Outcome.next (s1.replied (s1.readEffect ⟨.rd, beNat hi lo, c.toNat, []⟩ taken).2 0x01 _ (s1.readEffect ⟨.rd, beNat hi lo, c.toNat, []⟩ taken).1 false).settle = _
      rw [(readEffect_rd s1 _ ht).1]
    · have hcheck := plain_check (o := .wr) (code := 0x02) (hi := 0x01) (lo := BitVec.ofNat 8 (0x50 + k)) (c := 1) (d := [hi, lo]) (taken := taken) hv rfl (by decide) rfl rfl rfl rfl rfl
      show ran (s.runFrame 0x02 _) = _
      rw [runFrame_writes (f := plain [0x01, BitVec.ofNat 8 (0x50 + k), 1, hi, lo]) hl hspi hcheck rfl, hver .wr rfl]
      show ran ((s1.hostWrites (beNat 0x01 (BitVec.ofNat 8 (0x50 + k))) [BitVec.ofNat 16 (beNat hi lo)]).map _) = _
      rw [hostWrites_one, beNat_variable hk, State.hostWrite_variable _ _ hk]
      rfl
  · intro f
    have hpos : 1 ≤ ws.length := List.length_pos_iff.mpr hne
    have hcnt : (BitVec.ofNat 8 ws.length).toNat = ws.length := by rw [BitVec.toNat_ofNat, Nat.mod_eq_of_lt (by omega)]
    have hrun := sealedWrite (o := .wr) (code := 0x02) (hi := 0x01) (lo := BitVec.ofNat 8 (0x50 + k)) (c := BitVec.ofNat 8 ws.length) (d := ws.flatMap wordBytes) (taken := n) hl hspi rfl rfl (by omega : 1 ≤ s.version) (crc_of_version _ hv) rfl
      (cntOk_rd (by rw [hcnt]; exact hpos) (by rw [hcnt, limit_of_version hv]; omega)).2 (by rw [length_flatMap_wordBytes, hcnt]; rfl) rfl nofun
    refine hrun.trans ?_
    show ran ((s.clocked.hostWrites (beNat 0x01 (BitVec.ofNat 8 (0x50 + k))) (beWords (ws.flatMap wordBytes))).map _) = _
    rw [beWords_wordBytes, beNat_variable (by omega), State.hostWrites_variables _ _ hlen]
    rfl
  · intro own s1 late
    have hlim := limit_of_version hv
    refine ⟨?_, ?_, fun h1 h16 ht => ?_, fun hk => ?_⟩
    · exact sealedWrite_i2c (o := .nop) (d := []) hl hi2c rfl rfl (by omega : 1 ≤ s.version) (crc_of_version _ hv) rfl rfl rfl rfl nofun rfl
    · exact sealedWrite_i2c (o := .ack) (d := []) hl hi2c rfl rfl hv (crc_of_version _ hv) rfl rfl rfl rfl nofun rfl
    · exact sealedRead (o := .rd) s.i2cAddr hl (selects_own s) rfl rfl (by omega : 1 ≤ s.version) (crc_of_version _ hv) rfl (cntOk_rd h1 (by rw [hlim]; exact h16)).1 (readEffect_rd s.clocked _ ht).1
    · have hw : s.clocked.writeEffect ⟨.wr, beNat 0x01 (BitVec.ofNat 8 (0x50 + k)), (1 : Byte).toNat, beWords [hi, lo]⟩ = .ok (s1.wr (A.SYS_EVAR k) (BitVec.ofNat 16 (beNat hi lo))) := by
        show s.clocked.hostWrites (beNat 0x01 (BitVec.ofNat 8 (0x50 + k))) [BitVec.ofNat 16 (beNat hi lo)] = _
        rw [hostWrites_one, beNat_variable hk, State.hostWrite_variable _ _ hk]
      exact sealedWrite_i2c (o := .wr) (d := [hi, lo]) hl hi2c rfl rfl (by omega : 1 ≤ s.version) (crc_of_version _ hv) rfl (cntOk_rd (by decide) (by rw [hlim]; decide)).2 rfl rfl nofun hw
  · have hs : s.selects f.target = false := by
      unfold State.selects
      rw [hi2c, decide_eq_false ht]
      rfl
    have hrun : ∀ code : Byte, ran (s.runFrame code f) = .next s.settle := fun code => by rw [runFrame_other hs, ran_ok]
    exact ⟨hrun _, hrun _, hrun _, hrun _, hrun _, hrun _, hrun _, hrun _, hrun _, hrun _⟩

end Sys2Proof.Machine
end

section
/-! PROOFS. QPOP, RLY, an unknown opcode, and the events of I2C (R113, R115, R117, R123 to R125). -/
namespace Sys2Proof.Machine

section
variable {s : State}

theorem State.clocked_of_fastOn (h : s.sup.fastOn = true) : s.clocked = s := by
  unfold State.clocked
  rw [← h]

theorem readEffect_qpop {c taken : Nat} {p : Packet} (h : s.mrq.head = some p) (hp : p.words.length ≤ c) (ht : 4 * c + 1 ≤ taken) : s.readEffect ⟨.qpop, 0, c, []⟩ taken = (packetWords p.words c, s.popHead) := by
  show s.popReply c taken = _
  unfold State.popReply
  rw [h]
  dsimp only
  rw [decide_eq_true hp, decide_eq_true ht]
  rfl

/-- R493: a relay to a present worker that has W2. -/
theorem State.relayStart_present {w a n : Nat} (hw : w ≠ 0) (h : (s.wrec w).st = 1) (h2 : (s.wrec w).w2 = true) :
    s.relayStart w a n = ((((((s.p F.HIF_RLYSTAT_BUSY 1).p F.HIF_RLYSTAT_WORKER w).p F.HIF_RLYSTAT_COUNT n).wn A.HIF_RLYADDR a).zeros (A.HIF_RLYBUF 0) 16).setWay (fun y => { y with relay := some ⟨w, a, n, 0⟩ })) := by
  have hrec : (((((((s.p F.HIF_RLYSTAT_BUSY 1).p F.HIF_RLYSTAT_WORKER w).p F.HIF_RLYSTAT_COUNT n).wn A.HIF_RLYADDR a).zeros (A.HIF_RLYBUF 0) 16).setWay (fun y => { y with relay := some ⟨w, a, n, 0⟩ }))).wrec w = s.wrec w := by
    generalize hu : (((s.p F.HIF_RLYSTAT_BUSY 1).p F.HIF_RLYSTAT_WORKER w).p F.HIF_RLYSTAT_COUNT n).wn A.HIF_RLYADDR a = u
    have hway : u.way = s.way := by
      rw [← hu]
      rfl
    have hzero : (u.zeros (A.HIF_RLYBUF 0) 16).way = u.way := by rw [State.zeros_eq]
    have hset : ∀ v : State, (v.setWay (fun y => { y with relay := some ⟨w, a, n, 0⟩ })).wrec w = v.wrec w := fun _ => rfl
    rw [hset]
    unfold State.wrec
    rw [hzero, hway]
  unfold State.relayStart
  dsimp only
  rw [hrec, decide_eq_false hw, h, h2]
  rfl

/-- What the registers of a started relay show. -/
theorem relay_registers (s : State) {w a n : Nat} (hw : w < 32) (ha : a < 65536) (hn : n < 32) :
    let u := ((((s.p F.HIF_RLYSTAT_BUSY 1).p F.HIF_RLYSTAT_WORKER w).p F.HIF_RLYSTAT_COUNT n).wn A.HIF_RLYADDR a).zeros (A.HIF_RLYBUF 0) 16
    (∀ x, x ≠ A.HIF_RLYSTAT → x ≠ A.HIF_RLYADDR → (∀ k, k < 16 → x ≠ A.HIF_RLYBUF k) → u.rd x = s.rd x) ∧ u.b F.HIF_RLYSTAT_BUSY = true ∧ u.g F.HIF_RLYSTAT_WORKER = w ∧ u.g F.HIF_RLYSTAT_COUNT = n ∧ u.rn A.HIF_RLYADDR = a := by
  intro u
  have hbuf : ∀ x, (∀ k, k < 16 → x ≠ A.HIF_RLYBUF k) → u.rd x = ((((s.p F.HIF_RLYSTAT_BUSY 1).p F.HIF_RLYSTAT_WORKER w).p F.HIF_RLYSTAT_COUNT n).wn A.HIF_RLYADDR a).rd x := fun x hx =>
    State.rd_zeros_outside _ fun k hk => hx k hk
  have hnbuf : (∀ k, k < 16 → A.HIF_RLYSTAT ≠ A.HIF_RLYBUF k) ∧ ∀ k, k < 16 → A.HIF_RLYADDR ≠ A.HIF_RLYBUF k := by decide
  have hstat : u.rd A.HIF_RLYSTAT = (((s.p F.HIF_RLYSTAT_BUSY 1).p F.HIF_RLYSTAT_WORKER w).p F.HIF_RLYSTAT_COUNT n).rd A.HIF_RLYSTAT := (hbuf _ hnbuf.1).trans (State.rd_wn_ne _ a (by decide))
  have hbusy : (((s.p F.HIF_RLYSTAT_BUSY 1).p F.HIF_RLYSTAT_WORKER w).p F.HIF_RLYSTAT_COUNT n).g F.HIF_RLYSTAT_BUSY = 1 :=
    (State.g_p_beside _ n (f := F.HIF_RLYSTAT_COUNT) (by decide) (.inr (by decide))).trans ((State.g_p_beside _ w (f := F.HIF_RLYSTAT_WORKER) (by decide) (.inr (by decide))).trans (State.g_p_same s F.HIF_RLYSTAT_BUSY 1 (by decide)))
  have hworker : (((s.p F.HIF_RLYSTAT_BUSY 1).p F.HIF_RLYSTAT_WORKER w).p F.HIF_RLYSTAT_COUNT n).g F.HIF_RLYSTAT_WORKER = w :=
    (State.g_p_beside _ n (f := F.HIF_RLYSTAT_COUNT) (by decide) (.inr (by decide))).trans ((State.g_p_same _ F.HIF_RLYSTAT_WORKER w (by decide)).trans (Nat.mod_eq_of_lt hw))
  have hcount : (((s.p F.HIF_RLYSTAT_BUSY 1).p F.HIF_RLYSTAT_WORKER w).p F.HIF_RLYSTAT_COUNT n).g F.HIF_RLYSTAT_COUNT = n := (State.g_p_same _ F.HIF_RLYSTAT_COUNT n (by decide)).trans (Nat.mod_eq_of_lt hn)
  refine ⟨fun x h1 h2 h3 => ?_, ?_, (State.g_congr (f := F.HIF_RLYSTAT_WORKER) hstat).trans hworker, (State.g_congr (f := F.HIF_RLYSTAT_COUNT) hstat).trans hcount, ?_⟩
  · rw [hbuf x h3, State.rd_wn_ne _ a h2, State.rd_p_ne _ n h1, State.rd_p_ne _ w h1, State.rd_p_ne _ 1 h1]
  · refine (State.b_congr (f := F.HIF_RLYSTAT_BUSY) hstat).trans ?_
    unfold State.b
    rw [hbusy]
    rfl
  · exact (State.rn_congr (hbuf _ hnbuf.2)).trans ((State.rn_wn_same _ _ _).trans (Nat.mod_eq_of_lt ha))

/-- An opcode that the protocol lacks (R122). -/
theorem checkFrame_unknown {op : Byte} {f : Frame} (hf : s.sup.fastOn = true) (hc : f.opCut = false) (h : opOf op.toNat = none) : s.checkFrame op f = .error 1 := by
  unfold State.checkFrame
  rw [hf, hc, h, Bool.not_true, Bool.and_false, if_neg Bool.false_ne_true, if_neg Bool.false_ne_true]

theorem exec_polls (s : State) (target taken : Nat) : exec (.statusPoll target taken) s = done (s.poll target taken) ∧ exec .i2cBusTimeout s = done s.busTimeout := ⟨rfl, rfl⟩

end

/-- Settles O16: the frames, and the two events of I2C. -/
theorem otherFrames : Obligations.OtherFrames := by
  refine ⟨fun s hl hspi hv => ⟨fun c taken p h2 h64 ht hp hlen => ?_, fun c taken h2 h64 => ?_⟩, fun s hi lo c w n hl hspi hv hm hb h1 h16 hw1 hw31 hst hw2 => ?_, fun s op f hl hspi hf hc hop => ?_, fun s taken hl hi2c => ?_,
    fun s target taken hi2c ht => ?_, fun s hl hi2c => ?_, fun s target taken hspi => ?_⟩
  · have hcnt : Op.qpop.cntOk s.version (beNat 0 0) c.toNat = true := by
      show (decide (2 ≤ c.toNat) && decide (c.toNat ≤ 64)) = true
      rw [decide_eq_true h2, decide_eq_true h64]
      rfl
    exact sealedRead (o := .qpop) 0 hl (selects_spi hspi 0) rfl rfl hv (crc_of_version _ hv) rfl hcnt (readEffect_qpop (s := s.clocked) hp hlen ht)
  · have hcnt : Op.qpop.cntOk s.version (beNat 0 1) c.toNat = true := by
      show (decide (2 ≤ c.toNat) && decide (c.toNat ≤ 64)) = true
      rw [decide_eq_true h2, decide_eq_true h64]
      rfl
    exact sealedRead (o := .qpop) 0 hl (selects_spi hspi 0) rfl rfl hv (crc_of_version _ hv) rfl hcnt rfl
  · have hbits : (BitVec.ofNat 16 (beNat 0 w)).toNat = w.toNat := by
      have hx : beNat 0 w = 0 + w.toNat := rfl
      rw [BitVec.toNat_ofNat, Nat.mod_eq_of_lt (beNat_lt _ _), hx, Nat.zero_add]
    have hdata : s.dataCheck .rly (beWords [0, w]) = none := by
      show (if decide (32 ≤ (BitVec.ofNat 16 (beNat 0 w)).toNat) then some 7 else if !s.isManager then some 9 else none) = none
      rw [hbits, hm, decide_eq_false (by omega)]
      rfl
    have hcnt : Op.rly.cntOk s.version (beNat hi lo) c.toNat = true := by
      show (decide (1 ≤ c.toNat) && decide (c.toNat ≤ 16)) = true
      rw [decide_eq_true h1, decide_eq_true h16]
      rfl
    have hrun := sealedWrite (o := .rly) (code := 0x21) (hi := hi) (lo := lo) (c := c) (d := [0, w]) (taken := n) hl hspi rfl rfl (by rw [hv]; decide) (crc_of_version _ (by omega)) rfl hcnt rfl hdata fun _ => hb
    have hstart : s.clocked.writeEffect ⟨.rly, beNat hi lo, c.toNat, beWords [0, w]⟩ = .ok (s.clocked.relayStart w.toNat (beNat hi lo) c.toNat) := by
      show Except.ok (s.clocked.relayStart (BitVec.ofNat 16 (beNat 0 w)).toNat (beNat hi lo) c.toNat) = _
      rw [hbits]
    have hmap : ∀ (g : State → State) (x : State), ran ((Except.ok x : Except Fault State).map g) = .next (g x).settle := fun _ _ => rfl
    rw [hstart, State.relayStart_present (s := s.clocked) (by omega) hst hw2, hmap] at hrun
    obtain ⟨hrd, hbusy, hwork, hcount, haddr⟩ := relay_registers s.clocked (w := w.toNat) (a := beNat hi lo) (n := c.toNat) (by omega) (beNat_lt _ _) (by omega)
    have hform := State.zeros_eq ((((s.clocked.p F.HIF_RLYSTAT_BUSY 1).p F.HIF_RLYSTAT_WORKER w.toNat).p F.HIF_RLYSTAT_COUNT c.toNat).wn A.HIF_RLYADDR (beNat hi lo)) (A.HIF_RLYBUF 0) 16
    generalize ((((s.clocked.p F.HIF_RLYSTAT_BUSY 1).p F.HIF_RLYSTAT_WORKER w.toNat).p F.HIF_RLYSTAT_COUNT c.toNat).wn A.HIF_RLYADDR (beNat hi lo)).zeros (A.HIF_RLYBUF 0) 16 = u at hrun hrd hbusy hwork hcount haddr hform
    obtain ⟨r, rfl⟩ : ∃ r, u = { s.clocked with regs := r } := ⟨_, hform⟩
    exact ⟨_, hrun, rfl, hrd, hbusy, hwork, hcount, haddr, rfl⟩
  · obtain ⟨status, out, hrun⟩ := runFrame_rejected (f := f) (code := op) hl (selects_spi hspi _) (by rw [hspi]; rfl) (checkFrame_unknown hf hc hop)
    rw [State.clocked_of_fastOn hf] at hrun
    have hreply : s.rejectReply op f 1 status = ⟨status, [], if 2 ≤ s.version then some (replyCrc status []) else none, some 1⟩ := by
      have hframe : frameOp op f = none := by rw [frameOp, hc, hop]; rfl
      unfold State.rejectReply
      rw [hframe]
    rw [hreply] at hrun
    obtain ⟨m, sec, cnt, l, he, -⟩ := s.reject_frame 1
    have hrd : ∀ a, a ≠ A.HIF_ERR → (s.reject 1).rd a = s.rd a := fun a ha => State.rd_reject ha
    have hcode : (s.reject 1).g F.HIF_ERR_CODE = 1 := State.g_reject_code 1
    have hcount : (s.reject 1).g F.HIF_ERR_REJCNT = min 255 (s.g F.HIF_ERR_REJCNT + 1) := State.g_reject_count 1
    rw [he] at hrun hrd hcode hcount
    have hexec : exec (.reservedOpcode op f) s = ran (s.runFrame op f) := rfl
    rw [hexec, hrun, ran_ok]
    exact ⟨_, rfl, rfl, hrd, hcode, hcount, rfl, rfl, rfl, rfl⟩
  · have hpoll : (s.hostAlive && s.isI2c && s.selects s.i2cAddr) = true := by rw [hl, hi2c, selects_own s]; rfl
    rw [(exec_polls s _ taken).1, done_eq, State.poll, if_pos hpoll, State.demandFast_of_hostAlive hl]
    rfl
  · have hpoll : ¬ (s.hostAlive && s.isI2c && s.selects target) = true := by
      unfold State.selects
      rw [hi2c, decide_eq_false ht]
      simp
    rw [(exec_polls s target taken).1, done_eq, State.poll, if_neg hpoll]
  · have hrun : s.busTimeout = (s.clocked.reject 10).answer ⟨0, [], none, some 10⟩ [] := by
      unfold State.busTimeout
      rw [hl, hi2c, State.demandFast_of_hostAlive hl]
      rfl
    obtain ⟨m, sec, cnt, l, he, -⟩ := s.clocked.reject_frame 10
    have hrd : ∀ a, a ≠ A.HIF_ERR → (s.clocked.reject 10).rd a = s.rd a := fun a ha => State.rd_reject (s := s.clocked) ha
    have hcode : (s.clocked.reject 10).g F.HIF_ERR_CODE = 10 := State.g_reject_code 10
    rw [he] at hrun hrd hcode
    rw [(exec_polls s 0 0).2, hrun, done_eq]
    exact ⟨_, rfl, rfl, hrd, hcode, rfl⟩
  · have h1 : s.poll target taken = s := if_neg (by rw [hspi]; simp)
    have h2 : s.busTimeout = s := if_neg (by rw [hspi]; simp)
    rw [(exec_polls s target taken).1, (exec_polls s target taken).2, h1, h2, done_eq]
    exact ⟨rfl, rfl⟩

end Sys2Proof.Machine
end

section
/-! PROOFS. FLT_STAT where the cause of ALIVE's stop is no code (R634, R642). -/
namespace Sys2Proof.Machine

/-! ### FLT_STAT where the recorded cause of ALIVE's stop is no code (R634, R642) -/

/-- A state in which ALIVE does not run and the record of what stopped it holds 8, which the three bits of ALVSTOP do not hold. -/
def stopCauseEight : State := { State.reset with ctl := { State.reset.ctl with alvStop := 8 } }

theorem stopCauseEight_alive : stopCauseEight.aliveRuns = false := by decide

/-- The cause is not cut to its field: it reaches the bit of ALIVE. -/
theorem stopCauseEight_word : F.FLT_STAT_ALIVE.get (stopCauseEight.viewWord A.FLT_STAT) = 1 := by decide +kernel

/-- Refutes O21: what it says of FLT_STAT it says of every state, also of one whose record of the cause that stopped ALIVE is no code of R634: that record, 8 here, is added above ALVSTOP's three bits, and ALIVE reads 1 where ALIVE does not run. -/
theorem not_liveViews : ¬ Obligations.LiveViews := by
  rintro ⟨-, -, -, -, -, -, -, -, -, -, -, -, hflt, -⟩
  obtain ⟨-, halive, -⟩ := hflt stopCauseEight
  rw [stopCauseEight_word, stopCauseEight_alive] at halive
  exact absurd halive (by decide)

end Sys2Proof.Machine
end

section
/-! PROOFS. What stops the charger, its keys and its allowance (R394, R406 to R411, R425). -/
namespace Sys2Proof.Machine

/-! ### What stops the charger, its keys and its allowance (R394, R406 to R411, R419, R425) -/

section
variable {s : State}

theorem State.b_p_ne (s : State) {f g : Fld} (v : Nat) (h : g.addr ≠ f.addr) : (s.p f v).b g = s.b g := State.b_congr (s.rd_p_ne v h)

theorem State.b_p_beside (s : State) {f g : Fld} (v : Nat) (h : f.lsb + f.width ≤ 16) (hd : g.lsb + g.width ≤ f.lsb ∨ f.lsb + f.width ≤ g.lsb) : (s.p f v).b g = s.b g :=
  congrArg (· != 0) (s.g_p_beside v h hd)

/-- A flag that is written 1 reads 1. -/
theorem State.b_p_one (s : State) (f : Fld) (h : f.lsb + f.width ≤ 16) (hw : f.width = 1) : (s.p f 1).b f = true := s.b_pb_same f true h hw

theorem exec_chargerEvents (s : State) :
    exec .chgBatOv s = done (s.when (s.aoOn && s.present && !s.chg.batOv) (fun s => ((s.setChgR (fun c => { c with batOv := true })).p F.CHG_FLT_BATOV 1).raise 72)) ∧
    exec .chgStageOc s = done (s.when s.chg.sw State.stageOverCurrent) ∧ exec .chgVinLow s = done s.vinTooLow ∧ exec .chgWatchdogExpiry s = done s.chgWatchdog :=
  ⟨rfl, rfl, rfl, rfl⟩

theorem exec_chargerKeys (s : State) (w : Word) :
    exec (.chgWdKick w) s = hostDone s (·.writeChgKey w) ∧ exec (.chgFaultRetry w) s = hostDone s (·.writeChgKey w) ∧ exec (.chgCntClear w) s = hostDone s (·.writeChgKey w) :=
  ⟨rfl, rfl, rfl⟩

theorem State.stageOverCurrent_cases (s : State) :
    ((s.chg.ocTimes.filter (fun t => s.ticks < t + 1966080)).length < 2 → s.stageOverCurrent = { s with chg := { s.chg with ocTimes := s.ticks :: s.chg.ocTimes.filter (fun t => s.ticks < t + 1966080), ocStop := true } }) ∧
    (2 ≤ (s.chg.ocTimes.filter (fun t => s.ticks < t + 1966080)).length → s.stageOverCurrent = (({ s with chg := { s.chg with ocTimes := [], ocStop := false, fault := true } } : State).p F.CHG_FLT_STAGEOC 1).raise 75) :=
  ⟨fun h => if_neg (Nat.not_le.mpr h), fun h => if_pos h⟩

/-- R410: V(LSRC) too low raises source 79 once in a qualification. -/
theorem State.vinTooLow_ok (h : s.line.chgOk = true) :
    (s.chg.vinRaised = false → s.vinTooLow = { (s.p F.CHG_FLT_VINLOW 1).raise 79 with chg := { s.chg with vinLow := true, vinRaised := true } }) ∧
    (s.chg.vinRaised = true → s.vinTooLow = { s with chg := { s.chg with vinLow := true } }) := by
  constructor
  · intro hr
    unfold State.vinTooLow
    rw [h, hr, Bool.and_false, Bool.not_false, Bool.and_true, if_pos rfl]
    rfl
  · intro hr
    unfold State.vinTooLow
    cases hl : s.chg.vinLow
    · rw [h, hr, Bool.false_and, Bool.not_false, Bool.and_true, if_pos rfl]
      show { s with chg := { s.chg with vinLow := true, vinRaised := true } } = _
      rw [← hr]
    · rw [h, hr]
      show s = _
      rw [← hl]

theorem State.vinTooLow_noLine (h : s.line.chgOk = false) : s.vinTooLow = s := by
  unfold State.vinTooLow
  rw [h]
  rfl

/-- The registers that the watchdog of R409 writes. -/
def safeColumn : List Nat := [A.CHG_CTRL, A.CHG_ICHG, A.CHG_VREG, A.CHG_FLT]

/-- R409: the registers with the safe column and the flag written. -/
def State.safeWritten (s : State) : State :=
  (((s.p F.CHG_CTRL_EN (s.ztabByte 34)).p F.CHG_ICHG_CODE (s.rn (A.CHG_ZTAB 15))).p F.CHG_VREG_CODE (if s.rn (A.CHG_ZTAB 16) = 0xFFFF then s.chg.vregLoad else s.rn (A.CHG_ZTAB 16))).p F.CHG_FLT_WDT 1

theorem State.barked (s t : State) (r : RegFile) (h : t = { s with regs := r }) : (({ t with chg := { t.chg with wdf := true, wdRun := false } } : State).p F.CHG_FLT_WDT 1).raise 77 =
    { s with regs := (t.p F.CHG_FLT_WDT 1).regs, flt := { s.flt with raised := s.flt.raised ++ [⟨77, .detector, s.power.code⟩] }, chg := { s.chg with wdf := true, wdRun := false } } := by
  subst h
  rfl

theorem State.chgWatchdog_runs (ht : s.g F.CHG_TMRCFG_WDTO ≠ 0) (hp : s.power = .run ∨ s.power = .watch) (hw : s.chg.wdRun = true) :
    s.chgWatchdog = { s with regs := s.safeWritten.regs, flt := { s.flt with raised := s.flt.raised ++ [⟨77, .detector, s.power.code⟩] }, chg := { s.chg with wdf := true, wdRun := false } } := by
  have hc : (decide (s.g F.CHG_TMRCFG_WDTO ≠ 0) && (s.power = .run || s.power = .watch) && s.chg.wdRun) = true := by
    rw [decide_eq_true ht, hw, Bool.true_and, Bool.and_true]
    rcases hp with h | h <;> rw [h] <;> rfl
  exact (if_pos hc).trans (State.barked s (((s.p F.CHG_CTRL_EN _).p F.CHG_ICHG_CODE _).p F.CHG_VREG_CODE _) _ rfl)

theorem State.rd_safeWritten (s : State) {a : Nat} (h : a ∉ safeColumn) : s.safeWritten.rd a = s.rd a := by
  simp only [safeColumn, List.mem_cons, List.not_mem_nil, or_false, not_or] at h
  obtain ⟨h1, h2, h3, h4⟩ := h
  unfold State.safeWritten
  rw [State.rd_p_ne _ _ h4, State.rd_p_ne _ _ h3, State.rd_p_ne _ _ h2, State.rd_p_ne _ _ h1]

/-- R409: what the safe column leaves in its fields. -/
theorem State.safeWritten_fields (s : State) :
    s.safeWritten.b F.CHG_FLT_WDT = true ∧ s.safeWritten.g F.CHG_CTRL_EN = s.ztabByte 34 % 2 ∧ s.safeWritten.g F.CHG_ICHG_CODE = s.rn (A.CHG_ZTAB 15) % 512 ∧
      (s.rn (A.CHG_ZTAB 16) ≠ 65535 → s.safeWritten.g F.CHG_VREG_CODE = s.rn (A.CHG_ZTAB 16) % 512) := by
  refine ⟨?_, ?_, ?_, fun hv => ?_⟩ <;> unfold State.safeWritten
  · exact State.b_p_one _ _ (by decide) (by decide)
  · rw [State.g_p_ne _ _ (by decide), State.g_p_ne _ _ (by decide), State.g_p_ne _ _ (by decide), State.g_p_same _ _ _ (by decide)]; rfl
  · rw [State.g_p_ne _ _ (by decide), State.g_p_ne _ _ (by decide), State.g_p_same _ _ _ (by decide)]; rfl
  · rw [if_neg hv, State.g_p_ne _ _ (by decide), State.g_p_same _ _ _ (by decide)]; rfl

theorem State.chgWatchdog_stopped (hw : s.chg.wdRun = false) : s.chgWatchdog = s := by
  unfold State.chgWatchdog
  rw [hw, Bool.and_false]
  rfl

theorem State.writeChgKey_cases (s : State) :
    s.writeChgKey 0xC4A9#16 = { s with chg := { s.chg with wdf := false, wdRun := true } } ∧
    s.writeChgKey 0xA93C#16 = (if s.chg.fault then { s with chg := { s.chg with fault := false, cycleDue := true } } else s) ∧
    s.writeChgKey 0xC1EA#16 = (s.wr A.CHG_CNTCYC 0).wr (A.CHG_CNTCYC + 1) 0 ∧ ∀ w, w ≠ 0xC4A9#16 → w ≠ 0xA93C#16 → w ≠ 0xC1EA#16 → s.writeChgKey w = s :=
  ⟨rfl, rfl, rfl, fun _ h1 h2 h3 => (if_neg h1).trans ((if_neg h2).trans (if_neg h3))⟩

/-! ### The share of the line -/

theorem State.roundOpen_frame (s : State) (x : Rat) : ∃ v k, s.roundOpen x = (v, { s with freeCtr := k }) := by
  unfold State.roundOpen
  split
  · exact ⟨_, _, rfl⟩
  · exact ⟨_, _, rfl⟩

theorem State.chargeMa_frame (s : State) (cs : Int) : ∃ i k, s.chargeMa cs = (i, { s with freeCtr := k }) ∧ (s.g F.CHG_CFG_RSH = 0 → i = (cs : Rat)) := by
  unfold State.chargeMa
  split
  next r hr =>
    refine ⟨_, _, rfl, fun h => ?_⟩
    have h2 : r = 2 := by
      rw [State.chgShunt, h] at hr
      exact (Option.some.inj hr).symm
    rw [h2]
    exact mul_div_cancel_left₀ _ (by decide)
  next hn =>
    refine ⟨_, _, rfl, fun h => ?_⟩
    rw [State.chgShunt, h] at hn
    cases hn

theorem State.shown_free (t : State) (p y h : Bool) (v k : Nat) :
    (({ (((t.pb F.CHG_STAT_PREC p).pb F.CHG_STAT_YIELD y).pb F.CHG_STAT_HALF h) with freeCtr := k } : State).pb F.CHG_ALLOW_PREC p).p F.CHG_ALLOW_ILINE v =
      { t with regs := (((((t.pb F.CHG_STAT_PREC p).pb F.CHG_STAT_YIELD y).pb F.CHG_STAT_HALF h).pb F.CHG_ALLOW_PREC p).p F.CHG_ALLOW_ILINE v).regs, freeCtr := k } := rfl

theorem State.shown_regs (s t : State) (ht : t.regs = s.regs) (p y h : Bool) (v : Nat) :
    (((((t.pb F.CHG_STAT_PREC p).pb F.CHG_STAT_YIELD y).pb F.CHG_STAT_HALF h).pb F.CHG_ALLOW_PREC p).p F.CHG_ALLOW_ILINE v).regs =
      (((((s.pb F.CHG_STAT_PREC p).pb F.CHG_STAT_YIELD y).pb F.CHG_STAT_HALF h).pb F.CHG_ALLOW_PREC p).p F.CHG_ALLOW_ILINE v).regs := by
  cases s
  cases t
  subst ht
  rfl

/-- R394, R407, R408: what an update of the allowance changes. -/
theorem State.shareLine_frame (s : State) (cs : Int) (b vl : Nat) (ls vloop : Int) :
    ∃ c k R, s.shareLine cs b vl ls vloop = { s with regs := R, sup := { s.sup with battMv := b }, drv := { s.drv with vlsrc := vl }, chg := c, freeCtr := k } ∧
      c.ramp = (if s.chg.sw then min 20000 (s.chg.ramp + 20) else 0) ∧ (s.g F.CHG_CFG_RSH = 0 → c.ima = (cs : Rat)) ∧ (s.charging = false → R = s.regs) ∧
      (s.charging = true → ∃ yield half v, R = (((((s.pb F.CHG_STAT_PREC s.hasPrec).pb F.CHG_STAT_YIELD yield).pb F.CHG_STAT_HALF half).pb F.CHG_ALLOW_PREC s.hasPrec).p F.CHG_ALLOW_ILINE v).regs) := by
  obtain ⟨i, k, hma, hi⟩ := ({ s with sup := { s.sup with battMv := b }, drv := { s.drv with vlsrc := vl } } : State).chargeMa_frame cs
  unfold State.shareLine
  dsimp only
  rw [hma]
  dsimp only
  split
  next hc =>
    generalize hX : State.roundOpen _ _ = X
    obtain ⟨v, k', hX'⟩ := State.roundOpen_frame _ _
    rw [hX] at hX'
    subst hX'
    rw [State.shown_free]
    exact ⟨_, _, _, rfl, rfl, hi, fun h => Bool.noConfusion (h.symm.trans hc), fun _ => ⟨_, _, _, State.shown_regs s _ rfl _ _ _ _⟩⟩
  next hc => exact ⟨_, _, _, rfl, rfl, hi, fun _ => rfl, fun h => absurd h hc⟩

end

/-- R408: the precedence that an update shows. -/
theorem State.b_prec_shown (s : State) (p y h : Bool) (v : Nat) :
    (((((s.pb F.CHG_STAT_PREC p).pb F.CHG_STAT_YIELD y).pb F.CHG_STAT_HALF h).pb F.CHG_ALLOW_PREC p).p F.CHG_ALLOW_ILINE v).b F.CHG_STAT_PREC = p := by
  unfold State.pb
  rw [State.b_p_ne _ _ (by decide), State.b_p_ne _ _ (by decide), State.b_p_beside _ _ (by decide) (by decide), State.b_p_beside _ _ (by decide) (by decide)]
  exact State.b_pb_same _ _ _ (by decide) (by decide)

/-- Settles O54: each event and each key with its effect; the share of the line by what its update writes. -/
theorem chargerFaultsAndKeys : Obligations.ChargerFaultsAndKeys := by
  refine ⟨fun s ha hp => ?_, fun s => rfl, fun s hs hl => ?_, fun s hs hl => ?_, fun s hs => ?_, fun s => rfl, fun s hk => ⟨fun hr => ?_, fun hr => ?_⟩, fun s hk => ?_, fun s => rfl, fun s ht hp hw => ?_,
    fun s hw => ?_, fun s ha => ?_, fun s ha => ?_, fun s ha => ?_, fun s w h1 h2 h3 => ?_, fun s cs ls vloop b vl ha => ?_⟩
  · rw [(exec_chargerEvents s).1, ha, hp, Bool.true_and, Bool.true_and]
    cases s.chg.batOv <;> rfl
  · rw [(exec_chargerEvents s).2.1, hs]
    exact congrArg done (s.stageOverCurrent_cases.1 hl)
  · rw [(exec_chargerEvents s).2.1, hs]
    exact congrArg done (s.stageOverCurrent_cases.2 hl)
  · rw [(exec_chargerEvents s).2.1, hs]
    rfl
  · exact congrArg done ((State.vinTooLow_ok hk).1 hr)
  · exact congrArg done ((State.vinTooLow_ok hk).2 hr)
  · exact congrArg done (State.vinTooLow_noLine hk)
  · obtain ⟨hflag, hen, hcur, hvolt⟩ := s.safeWritten_fields
    refine ⟨_, congrArg done (State.chgWatchdog_runs ht hp hw), rfl, fun a h1 h2 h3 h4 => s.rd_safeWritten (by simp [safeColumn, h1, h2, h3, h4]), hflag, hen, hcur, hvolt⟩
  · exact congrArg done (State.chgWatchdog_stopped hw)
  · rw [(exec_chargerKeys s _).1, hostDone_of_hostAlive _ ha, s.clocked.writeChgKey_cases.1]
    rfl
  · rw [(exec_chargerKeys s _).2.1, hostDone_of_hostAlive _ ha, s.clocked.writeChgKey_cases.2.1]
    rfl
  · rw [(exec_chargerKeys s _).2.2, hostDone_of_hostAlive _ ha, s.clocked.writeChgKey_cases.2.2.1]
  · rw [(exec_chargerKeys s w).1, (exec_chargerKeys s w).2.1, (exec_chargerKeys s w).2.2]
    have hkeep := hostDone_of_unchanged s fun t => t.writeChgKey_cases.2.2.2 w h1 h2 h3
    exact ⟨hkeep, hkeep, hkeep⟩
  · obtain ⟨c, k, R, heq, hramp, hima, hoff, hon⟩ := s.shareLine_frame cs b vl ls vloop
    have hex : exec (.chargerAllowanceUpdate cs b vl ls vloop) s = done (s.shareLine cs b vl ls vloop) := by
      show done (s.when s.aoOn _) = _
      rw [ha]
      rfl
    refine ⟨_, hex.trans (congrArg done heq), rfl, fun a h1 h2 => ?_, hramp, hima, hoff, fun hc => ?_⟩
    · by_cases hc : s.charging = true
      · obtain ⟨y, h, v, hR⟩ := hon hc
        show R.get a = s.rd a
        rw [hR]
        exact (State.rd_p_ne _ _ h2).trans ((State.rd_p_ne _ _ h2).trans ((State.rd_p_ne _ _ h1).trans ((State.rd_p_ne _ _ h1).trans (State.rd_p_ne _ _ h1))))
      · rw [hoff (Bool.not_eq_true _ ▸ hc)]
        rfl
    · obtain ⟨y, h, v, hR⟩ := hon hc
      have hb : s.hasPrec = (!s.reserveOk && !s.b F.STK_STAT_EMERG) := by rw [State.hasPrec, hc, Bool.true_and]
      refine Eq.trans ?_ hb
      have hregs : (State.rd { s with regs := R, sup := { s.sup with battMv := b }, drv := { s.drv with vlsrc := vl }, chg := c, freeCtr := k }) A.CHG_STAT = R.get A.CHG_STAT := rfl
      refine Eq.trans ?_ (s.b_prec_shown s.hasPrec y h v)
      exact State.b_congr (hregs.trans (by rw [hR]; rfl))

end Sys2Proof.Machine
end

section
/-! PROOFS. What a retarget of DRIVE and an entry of the recorder leave (R298, R355 to R358). -/
namespace Sys2Proof.Machine

/-! ### What a retarget of DRIVE and an entry of the recorder leave (R298, R355 to R358) -/

theorem State.g_lt (s : State) (f : Fld) : s.g f < 2 ^ f.width := Nat.mod_lt _ (Nat.two_pow_pos _)

/-- A register that neither the recorder nor a change of DRIVE's target writes. -/
def offLog (a : Nat) : Bool := a < 0x4000 && a ∉ [0x0402, A.DOM_STAT 1, A.WEIR_STAT, A.STK_RECSTAT, A.STK_RECCNT 0, A.STK_RECCNT 1]

/-- From s to t the recorder has made entries and DRIVE's target may have moved. -/
structure State.LogOf (t s : State) : Prop where
  form : t = { s with regs := t.regs, dom := t.dom, drv := t.drv, stk := t.stk, freeCtr := t.freeCtr }
  stk : t.stk = { s.stk with since := t.stk.since, burstLeft := t.stk.burstLeft, burstFirst := t.stk.burstFirst }
  rd : ∀ a, offLog a = true → t.rd a = s.rd a

section
variable {s t s₀ : State}

theorem State.LogOf.refl (s : State) : s.LogOf s := ⟨rfl, rfl, fun _ _ => rfl⟩

theorem State.LogOf.keeps {β : Type} (h : t.LogOf s) (g : State → β) (hg : ∀ r d v k c, g { s with regs := r, dom := d, drv := v, stk := k, freeCtr := c } = g s) : g t = g s := (congrArg g h.form).trans (hg _ _ _ _ _)

theorem State.LogOf.g (h : t.LogOf s) {f : Fld} (hf : offLog f.addr = true := by decide) : t.g f = s.g f := State.g_congr (h.rd _ hf)

theorem State.LogOf.b (h : t.LogOf s) {f : Fld} (hf : offLog f.addr = true := by decide) : t.b f = s.b f := State.b_congr (h.rd _ hf)

theorem State.LogOf.trans (h : t.LogOf s) (h' : s.LogOf s₀) : t.LogOf s₀ := by
  refine ⟨?_, ?_, fun a ha => (h.rd a ha).trans (h'.rd a ha)⟩
  · have h1 := h.form
    rw [h'.form] at h1
    exact h1
  · have h1 := h.stk
    rw [h'.stk] at h1
    exact h1

theorem State.LogOf.wr (h : s.LogOf s₀) {a : Nat} {w : Word} (ha : offLog a = false := by decide) : (s.wr a w).LogOf s₀ := by
  refine ⟨?_, h.stk, fun b hb => (s.rd_wr_ne w (by rintro rfl; rw [ha] at hb; exact Bool.noConfusion hb)).trans (h.rd b hb)⟩
  have h1 := congrArg (fun t : State => t.wr a w) h.form
  exact h1

theorem State.LogOf.wn (h : s.LogOf s₀) {a v : Nat} (ha : offLog a = false := by decide) : (s.wn a v).LogOf s₀ := h.wr ha

theorem State.LogOf.p (h : s.LogOf s₀) {f : Fld} {v : Nat} (ha : offLog f.addr = false := by decide) : (s.p f v).LogOf s₀ := h.wr ha

theorem State.LogOf.beside (h : s.LogOf s₀) {d : List Domain} {v : Drive} {since : Int} {left : Nat} {first : Bool} {c : Nat} :
    State.LogOf { s with dom := d, drv := v, stk := { s.stk with since := since, burstLeft := left, burstFirst := first }, freeCtr := c } s₀ := by
  refine ⟨?_, ?_, h.rd⟩
  · have h1 := congrArg (fun t : State => { t with dom := d, drv := v, stk := { t.stk with since := since, burstLeft := left, burstFirst := first }, freeCtr := c }) h.form
    exact h1
  · have h1 := congrArg (fun k : Stroke => { k with since := since, burstLeft := left, burstFirst := first }) h.stk
    exact h1

theorem State.LogOf.setDrv (h : s.LogOf s₀) {f : Drive → Drive} : (s.setDrv f).LogOf s₀ := h.beside

theorem State.LogOf.setDom (h : s.LogOf s₀) {n : Nat} {f : Domain → Domain} : (s.setDom n f).LogOf s₀ := h.beside

theorem State.LogOf.ite {c : Prop} [Decidable c] (hs : s.LogOf s₀) (ht : t.LogOf s₀) : (if c then s else t).LogOf s₀ := by
  split
  · exact hs
  · exact ht

theorem State.LogOf.retarget (h : s.LogOf s₀) {fast : Bool} : (s.retarget fast).LogOf s₀ := by
  unfold State.retarget
  exact .ite h (.ite h.p.p (.ite h.p.p.p.setDom.setDrv h.p.p.setDrv))

theorem State.LogOf.recPut (h : s.LogOf s₀) {delta tag value : Nat} : (s.recPut delta tag value).LogOf s₀ := by
  have hrec : ∀ x, offLog (A.STK_REC x) = false := fun x => by
    unfold offLog
    rw [decide_eq_false (show ¬ 0x4000 + x < 0x4000 by omega), Bool.false_and]
  have hcount : ∀ b, b < 2 → offLog (F.STK_RECCNT_COUNT b).addr = false := by decide
  have hput : ∀ x y z b w, b < 2 → (((s.wn (A.STK_REC x) y).wn (A.STK_REC x + 1) z).p (F.STK_RECCNT_COUNT b) w).LogOf s₀ := fun x y z b w hb => ((h.wn (hrec x)).wn (hrec (x + 1))).p (hcount b hb)
  have hfull : ∀ t : State, t.LogOf s₀ → ((t.p F.STK_RECSTAT_CAPT 0).p F.STK_RECSTAT_FULL 1).LogOf s₀ := fun t ht => ht.p.p
  unfold State.recPut
  have hbank : s.g F.STK_RECSTAT_CAPBANK < 2 := s.g_lt F.STK_RECSTAT_CAPBANK
  generalize s.g F.STK_RECSTAT_CAPBANK = b at hbank ⊢
  exact .ite (.ite (hfull _ (hput _ _ _ _ _ hbank)) (hput _ _ _ _ _ hbank)) h

theorem State.LogOf.foldl {α : Type} {f : State → α → State} (h : s.LogOf s₀) {l : List α} (hf : ∀ (t : State) (x : α), t.LogOf s₀ → (f t x).LogOf s₀) : (l.foldl f s).LogOf s₀ := by
  induction l generalizing s with
  | nil => exact h
  | cons x xs ih => exact ih (hf s x h)

theorem State.LogOf.recAdd (h : s.LogOf s₀) {tag value late : Nat} : (s.recAdd tag value late).LogOf s₀ := by
  unfold State.recAdd
  exact .beside (.recPut (h.foldl fun _ _ ht => ht.recPut))

theorem State.LogOf.marker (h : s.LogOf s₀) {code : Nat} : (s.marker code).LogOf s₀ := h.recAdd

theorem State.LogOf.weirOff (h : s.LogOf s₀) : s.weirOff.LogOf s₀ := h.p.p

theorem State.LogOf.handOff (h : s.LogOf s₀) : s.handOff.LogOf s₀ := by
  unfold State.handOff
  exact .ite h (.ite h.weirOff.setDrv h)

theorem State.LogOf.burst (h : s.LogOf s₀) {bit : Nat} : (s.burst bit).LogOf s₀ := by
  unfold State.burst
  refine .ite ?_ h
  dsimp only
  split
  all_goals exact .beside (.marker (by first | exact h | exact h.beside))

end
end Sys2Proof.Machine
end

section
/-! PROOFS. Battery phases, the reserve, authentication and anchors: what they leave (R368, R397, R432, R437, R449). -/
namespace Sys2Proof.Machine

/-! ### Battery phases and the gauge's state (R368, R397, R432, R437, R449) -/

section
variable {s : State}

/-- R368, R370: the end of a battery phase by a cause: the phase is over, its result is kept, and the rest is the recorder's and DRIVE's. -/
theorem State.endBattPhase_cause (c : Nat) (h : s.b F.STK_STAT_BATTPH = true) :
    (s.endBattPhase (some c)).LogOf ((({ s with stk := { s.stk with proveTarget := none, pre := none, prv := c } } : State).p F.STK_STAT_BATTPH 0).p F.STK_PRVSTAT_LASTRES c) := by
  unfold State.endBattPhase
  rw [if_pos h]
  exact (State.LogOf.refl _).retarget.marker.marker.burst.handOff

/-- What a battery phase leaves as it ends. -/
theorem State.endBattPhase_frame (s : State) (c : Nat) :
    (∃ r d v k n, s.endBattPhase (some c) = { s with regs := r, dom := d, drv := v, stk := k, freeCtr := n }) ∧ ∀ a, 0x0600 ≤ a → a < 0x4000 → (s.endBattPhase (some c)).rd a = s.rd a := by
  by_cases h : s.b F.STK_STAT_BATTPH = true
  · have hlog := State.endBattPhase_cause c h
    obtain ⟨hform, -, hrd⟩ := hlog
    generalize s.endBattPhase (some c) = t at hform hrd ⊢
    refine ⟨⟨t.regs, t.dom, t.drv, t.stk, t.freeCtr, hform⟩, fun a h1 h2 => (hrd a ?_).trans ((State.rd_p_ne _ _ ?_).trans (State.rd_p_ne _ _ ?_))⟩
    · have hne : ∀ b ∈ [0x0402, A.DOM_STAT 1, A.WEIR_STAT, A.STK_RECSTAT, A.STK_RECCNT 0, A.STK_RECCNT 1], b < 0x0600 := by decide
      have hmem : a ∉ [0x0402, A.DOM_STAT 1, A.WEIR_STAT, A.STK_RECSTAT, A.STK_RECCNT 0, A.STK_RECCNT 1] := fun hm => Nat.not_lt.mpr h1 (hne a hm)
      unfold offLog
      rw [decide_eq_true h2, decide_eq_true hmem]
      rfl
    · show a ≠ 0x0587
      omega
    · show a ≠ 0x0580
      omega
  · have hs : s.endBattPhase (some c) = s := if_neg h
    rw [hs]
    exact ⟨⟨s.regs, s.dom, s.drv, s.stk, s.freeCtr, rfl⟩, fun _ _ _ => rfl⟩

theorem State.phaseGuard_frame (s : State) :
    (∃ r d v k n, s.phaseGuard = { s with regs := r, dom := d, drv := v, stk := k, freeCtr := n }) ∧ ∀ a, 0x0600 ≤ a → a < 0x4000 → s.phaseGuard.rd a = s.rd a := by
  unfold State.phaseGuard
  split
  · split
    · exact s.endBattPhase_frame 5
    · split
      · exact s.endBattPhase_frame 4
      · exact ⟨⟨s.regs, s.dom, s.drv, s.stk, s.freeCtr, rfl⟩, fun _ _ _ => rfl⟩
  · exact ⟨⟨s.regs, s.dom, s.drv, s.stk, s.freeCtr, rfl⟩, fun _ _ _ => rfl⟩

theorem State.gaugeEvent_eq (s : State) (ev detail cls : Nat) : s.gaugeEvent ev detail cls = { s with hif := { s.hif with chg := true, attn := true }, mrq := { s.mrq with outbox := s.mrq.outbox ++ [.gauge ev detail cls] } } := rfl

theorem State.rd_gaugeEvent (s : State) (ev detail cls a : Nat) : (s.gaugeEvent ev detail cls).rd a = s.rd a := rfl

theorem State.freezeGauge_frame (s : State) :
    (∃ r h m g, s.freezeGauge = { s with regs := r, hif := h, mrq := m, gau := g }) ∧ (∀ a, a ≠ A.GAU_STAT → a ≠ A.GAU_AUTHSTAT → s.freezeGauge.rd a = s.rd a) ∧ s.freezeGauge.b F.GAU_STAT_FROZEN = true := by
  have hrd : ∀ (t : State) (u v : Nat) a, a ≠ A.GAU_STAT → a ≠ A.GAU_AUTHSTAT → ((t.p F.GAU_STAT_AUTH u).p F.GAU_AUTHSTAT_BUSY v).rd a = t.rd a := fun t u v a h1 h2 => by
    rw [State.rd_p_ne _ _ h2, State.rd_p_ne _ _ h1]
  unfold State.freezeGauge
  dsimp only
  split
  next hf => exact ⟨⟨_, s.hif, s.mrq, _, rfl⟩, hrd _ 0 0, hf⟩
  next =>
    refine ⟨⟨_, _, _, _, State.gaugeEvent_eq _ _ _ _⟩, fun a h1 h2 => (State.rd_gaugeEvent _ _ _ _ a).trans ((State.rd_p_ne _ 1 h1).trans (hrd _ 0 0 a h1 h2)), ?_⟩
    exact (State.b_congr (State.rd_gaugeEvent _ _ _ _ _)).trans (State.b_p_one _ F.GAU_STAT_FROZEN (by decide) rfl)

/-- R437: judging the reserve, and losing it, leave the gauge frozen or not, keep the raises made and write two registers at most. -/
structure State.ReserveOf (t s : State) : Prop where
  form : t = { s with regs := t.regs, hif := t.hif, mrq := t.mrq, gau := t.gau, flt := t.flt }
  raised : ∃ l, t.flt = { s.flt with raised := s.flt.raised ++ l }
  rd : ∀ a, a ≠ A.GAU_STAT → a ≠ A.GAU_RESERVE → t.rd a = s.rd a
  frozen : t.b F.GAU_STAT_FROZEN = s.b F.GAU_STAT_FROZEN

theorem State.ReserveOf.refl (s : State) : s.ReserveOf s := ⟨rfl, ⟨[], by rw [List.append_nil]⟩, fun _ _ _ => rfl, rfl⟩

theorem State.ReserveOf.low {v : Bool} : (s.pb F.GAU_STAT_LOW v).ReserveOf s :=
  ⟨rfl, ⟨[], by rw [List.append_nil]; rfl⟩, fun a h _ => State.rd_p_ne _ _ h, State.b_p_beside _ _ (by decide) (by decide)⟩

theorem State.ReserveOf.setGau {t : State} (h : t.ReserveOf s) {f : Gauge → Gauge} : (t.setGau f).ReserveOf s :=
  ⟨congrArg (fun t : State => t.setGau f) h.form, h.raised, h.rd, h.frozen⟩

theorem State.ReserveOf.gaugeEvent {t : State} (h : t.ReserveOf s) {ev detail cls : Nat} : (t.gaugeEvent ev detail cls).ReserveOf s :=
  ⟨congrArg (fun t : State => t.gaugeEvent ev detail cls) h.form, h.raised, h.rd, h.frozen⟩

theorem State.ReserveOf.raise {t : State} (h : t.ReserveOf s) {n : Nat} : (t.raise n).ReserveOf s := by
  obtain ⟨hform, ⟨l, hl⟩, hrd, hfr⟩ := h
  refine ⟨congrArg (fun u : State => { u with flt := (t.raise n).flt }) hform, ⟨l ++ [⟨n, .detector, t.power.code⟩], ?_⟩, hrd, hfr⟩
  have h1 := congrArg (fun f : Flt => { f with raised := f.raised ++ [(⟨n, .detector, t.power.code⟩ : Raise)] }) hl
  exact h1.trans (by rw [List.append_assoc])

theorem State.ReserveOf.when {t : State} (h : t.ReserveOf s) {c : Bool} {f : State → State} (hf : (f t).ReserveOf s) : (t.when c f).ReserveOf s := by
  cases c
  · exact h
  · exact hf

theorem State.judgeReserve_frame (s : State) : s.judgeReserve.ReserveOf s := by
  have hlow := State.ReserveOf.low (s := s) (v := !s.reserveOk)
  unfold State.judgeReserve
  dsimp only
  split
  · exact hlow
  · exact hlow.setGau.gaugeEvent.when hlow.setGau.gaugeEvent.raise

theorem State.reserveLost_frame (s : State) : s.reserveLost.ReserveOf s := by
  unfold State.reserveLost
  split
  · exact .refl s
  · obtain ⟨hform, hl, hrd, hfr⟩ := (s.p F.GAU_RESERVE_STROKES 255).judgeReserve_frame
    generalize (s.p F.GAU_RESERVE_STROKES 255).judgeReserve = t at hform hl hrd hfr ⊢
    exact ⟨hform, hl, fun a h1 h2 => (hrd a h1 h2).trans (State.rd_p_ne _ _ h2), hfr.trans (State.b_p_ne _ _ (by decide))⟩

/-! ### Insertion and removal (R396 to R398) -/

theorem State.authAttempt_frame (s : State) :
    ∃ c k, s.authAttempt = (({ s with nvm := { s.nvm with vnvm := true }, gau := { s.gau with stage := .challenged, chal := c }, freeCtr := k } : State).p F.GAU_AUTHSTAT_BUSY 1).p F.GAU_AUTHSTAT_TRY (s.g F.GAU_AUTHSTAT_TRY + 1) := by
  have hbytes : ∀ (l : List Nat) (x : List Byte) (t : State), (∃ k, t = { s with freeCtr := k }) →
      ∃ c k, l.foldl (fun (x : List Byte × State) _ => (x.1 ++ [BitVec.ofNat 8 (x.2.free 256).1], (x.2.free 256).2)) (x, t) = (c, { s with freeCtr := k }) := by
    intro l
    induction l with
    | nil =>
      rintro x t ⟨k, rfl⟩
      exact ⟨x, k, rfl⟩
    | cons y ys ih =>
      rintro x t ⟨k, rfl⟩
      exact ih _ _ ⟨_, rfl⟩
  obtain ⟨c, k, hck⟩ := hbytes (List.range 16) [] s ⟨_, rfl⟩
  unfold State.authAttempt
  have hfree : s.freeBytes 16 = (c, { s with freeCtr := k }) := hck
  rw [hfree]
  exact ⟨c, k, rfl⟩

end

/-! ### What the gauge's operations leave -/

section
variable {β : Type} {g : State → β} {s t : State}

/-- A part of the state that is neither the gauge's nor the registers', nor what the gauge posts and draws. -/
def BesideGauge (g : State → β) : Prop := ∀ (s : State) r h m n u k l, g { s with regs := r, hif := h, mrq := m, nvm := n, gau := u, freeCtr := k, flt := l } = g s

theorem BesideGauge.p (hg : BesideGauge g) {f : Fld} {v : Nat} (h : g t = g s) : g (t.p f v) = g s := (hg t _ _ _ _ _ _ _).trans h

theorem BesideGauge.setGau (hg : BesideGauge g) {f : Gauge → Gauge} (h : g t = g s) : g (t.setGau f) = g s := (hg t _ _ _ _ _ _ _).trans h

theorem BesideGauge.gaugeEvent (hg : BesideGauge g) {ev detail cls : Nat} (h : g t = g s) : g (t.gaugeEvent ev detail cls) = g s := (hg t _ _ _ _ _ _ _).trans h

theorem BesideGauge.raise (hg : BesideGauge g) {n : Nat} (h : g t = g s) : g (t.raise n) = g s := (hg t _ _ _ _ _ _ _).trans h

theorem BesideGauge.wn (hg : BesideGauge g) {a v : Nat} (h : g t = g s) : g (t.wn a v) = g s := (hg t _ _ _ _ _ _ _).trans h

theorem BesideGauge.wantWriteBack (hg : BesideGauge g) (h : g t = g s) : g t.wantWriteBack = g s := (hg t _ _ _ _ _ _ _).trans h

theorem BesideGauge.dirty (hg : BesideGauge g) (h : g t = g s) : g t.dirty = g s := (hg t _ _ _ _ _ _ _).trans h

theorem BesideGauge.when (hg : BesideGauge g) {c : Bool} {f : State → State} (hf : g (f t) = g s) (h : g t = g s) : g (t.when c f) = g s := by
  have _ := hg
  cases c
  · exact h
  · exact hf

theorem BesideGauge.ite (hg : BesideGauge g) {c : Prop} [Decidable c] {u : State} (h : g t = g s) (h' : g u = g s) : g (if c then t else u) = g s := by
  have _ := hg
  split
  · exact h
  · exact h'

theorem BesideGauge.putR (hg : BesideGauge g) {a : Nat} {x : Rat} (h : g t = g s) : g (t.putR a x) = g s := by
  obtain ⟨v, k, hr⟩ := t.roundOpen_frame x
  unfold State.putR
  rw [hr]
  exact (hg t _ _ _ _ _ _ _).trans h

theorem BesideGauge.authAttempt (hg : BesideGauge g) (h : g t = g s) : g t.authAttempt = g s := by
  obtain ⟨c, k, hr⟩ := t.authAttempt_frame
  rw [hr]
  exact (hg t _ _ _ _ _ _ _).trans h

theorem BesideGauge.thawGauge (hg : BesideGauge g) (h : g t = g s) : g t.thawGauge = g s := by
  unfold State.thawGauge
  split
  · exact hg.gaugeEvent (hg.p h)
  · exact h

theorem BesideGauge.acceptCapacity (hg : BesideGauge g) {x : Rat} (h : g t = g s) : g (t.acceptCapacity x) = g s := by
  have hput := fun a y => hg.p (f := ⟨a, 2, 1⟩) (v := 1) (hg.putR (a := A.GAU_FCC) (x := y) h)
  unfold State.acceptCapacity
  have hmain := fun y => hg.gaugeEvent (ev := 5) (detail := 0) (cls := 2) (hg.wantWriteBack (hg.when (c := [A.GAU_FCC, A.GAU_PFLG].any fun a => ((((t.putR A.GAU_FCC y).pbit A.GAU_PFLG 2 true).p F.GAU_STAT_RELEARN 0).rd a ≠ t.rd a)) (hg.dirty (hg.p (f := F.GAU_STAT_RELEARN) (v := 0) (hput A.GAU_PFLG y))) (hg.p (hput A.GAU_PFLG y))))
  exact hg.when (hg.raise (hmain _)) (hmain _)

theorem BesideGauge.authStart (hg : BesideGauge g) (h : g t = g s) : g t.authStart = g s := by
  unfold State.authStart
  dsimp only
  split
  · exact hg.setGau h
  · split
    · exact h
    · split
      · have hauth := hg.p (f := F.GAU_STAT_AUTH) (v := 2) (hg.setGau (f := fun g => { g with authDue := false }) h)
        have hflag := fun c : Bool => hg.ite (c := c = true) hauth (hg.dirty (hg.p (f := ⟨A.GAU_PFLG, 1, 1⟩) (v := 1) (hg.p (f := ⟨A.GAU_PFLG, 0, 1⟩) (v := 1) hauth)))
        exact hg.thawGauge (hg.when (hg.gaugeEvent (hflag _)) (hflag _))
      · exact hg.authAttempt (hg.p (hg.when (hg.p (hg.setGau h)) (hg.setGau h)))

/-- R398, R449: a running gauge that asks for authentication challenges the pack at once. -/
theorem State.authStart_challenges (hr : s.gaugeRuns = true) (hp : s.present = true) (hi : s.gau.stage = .idle) (ha : s.b F.GAU_CFG_AUTHEN = true) :
    s.authStart.gau.stage = .challenged ∧ s.authStart.g F.GAU_AUTHSTAT_TRY = 1 ∧ s.authStart.b F.GAU_AUTHSTAT_BUSY = true := by
  have heq : s.authStart = (((s.setGau (fun g => { g with authDue := false })).when ((s.setGau (fun g => { g with authDue := false })).g F.GAU_STAT_AUTH = 0) (·.p F.GAU_STAT_AUTH 1)).p F.GAU_AUTHSTAT_TRY 0).authAttempt := by
    unfold State.authStart
    rw [hr, hp, hi]
    exact if_neg (by show ¬ (!s.b F.GAU_CFG_AUTHEN) = true; rw [ha]; decide)
  rw [heq]
  generalize (s.setGau (fun g => { g with authDue := false })).when _ _ = u
  obtain ⟨c, k, hc⟩ := (u.p F.GAU_AUTHSTAT_TRY 0).authAttempt_frame
  have hzero : (u.p F.GAU_AUTHSTAT_TRY 0).g F.GAU_AUTHSTAT_TRY = 0 := u.g_p_same _ 0 (by decide)
  rw [hzero] at hc
  rw [hc]
  refine ⟨rfl, ?_, ?_⟩
  · exact State.g_p_same _ F.GAU_AUTHSTAT_TRY (0 + 1) (by decide)
  · exact (State.b_p_beside _ (f := F.GAU_AUTHSTAT_TRY) (g := F.GAU_AUTHSTAT_BUSY) (0 + 1) (by decide) (by decide)).trans (State.b_p_one _ F.GAU_AUTHSTAT_BUSY (by decide) rfl)

theorem State.authStart_later (hr : s.gaugeRuns = false) : s.authStart = { s with gau := { s.gau with authDue := true } } := by
  unfold State.authStart
  rw [hr]
  rfl

/-! ### The anchor of a charge that terminates (R402, R432) -/

theorem State.putR_frame (s : State) (a : Nat) (x : Rat) : ∃ v k, s.putR a x = ({ s with freeCtr := k } : State).wn a v := by
  obtain ⟨v, k, hr⟩ := s.roundOpen_frame x
  unfold State.putR
  rw [hr]
  exact ⟨_, k, rfl⟩

theorem State.rd_putR_ne (s : State) {a b : Nat} (x : Rat) (h : a ≠ b) : (s.putR b x).rd a = s.rd a := by
  obtain ⟨v, k, hr⟩ := s.putR_frame b x
  rw [hr]
  exact State.rd_wr_ne _ _ h

theorem State.putR_gau (s : State) (a : Nat) (x : Rat) : (s.putR a x).gau = s.gau := by
  obtain ⟨v, k, hr⟩ := s.putR_frame a x
  rw [hr]
  rfl

/-- R441: what a capacity that is learned leaves: the gauge's record, and every register but four. -/
structure State.CapacityOf (t s : State) : Prop where
  gau : t.gau = s.gau
  rd : ∀ a, a ≠ A.GAU_STAT → a ≠ A.GAU_FCC → a ≠ A.GAU_PFLG → a ≠ A.SYS_LDSTAT → t.rd a = s.rd a

theorem State.CapacityOf.putR (h : t.CapacityOf s) {x : Rat} : (t.putR A.GAU_FCC x).CapacityOf s := ⟨(t.putR_gau _ x).trans h.gau, fun a h1 h2 h3 h4 => (t.rd_putR_ne x h2).trans (h.rd a h1 h2 h3 h4)⟩

theorem State.CapacityOf.flag (h : t.CapacityOf s) : ((t.pbit A.GAU_PFLG 2 true).p F.GAU_STAT_RELEARN 0).CapacityOf s :=
  ⟨h.gau, fun a h1 h2 h3 h4 => (State.rd_p_ne _ _ h1).trans ((State.rd_pbit_ne _ _ _ h3).trans (h.rd a h1 h2 h3 h4))⟩

theorem State.CapacityOf.dirty (h : t.CapacityOf s) : t.dirty.CapacityOf s := ⟨h.gau, fun a h1 h2 h3 h4 => (State.rd_p_ne t (f := F.SYS_LDSTAT_DIRTY) 1 h4).trans (h.rd a h1 h2 h3 h4)⟩

theorem State.CapacityOf.when (h : t.CapacityOf s) {c : Bool} {f : State → State} (hf : ∀ t : State, t.CapacityOf s → (f t).CapacityOf s) : (t.when c f).CapacityOf s := by
  cases c
  · exact h
  · exact hf t h

theorem State.CapacityOf.dirtySince (h : t.CapacityOf s) {u : State} {l : List Nat} : (t.dirtySince u l).CapacityOf s := h.when fun _ h => h.dirty

theorem State.acceptCapacity_frame (s : State) (x : Rat) : (s.acceptCapacity x).CapacityOf s := by
  have hcount : ∀ u : State, u.CapacityOf s → (u.wantWriteBack.gaugeEvent 5 0 2).CapacityOf s := fun _ h => ⟨h.gau, h.rd⟩
  have hself : s.CapacityOf s := ⟨rfl, fun _ _ _ _ _ => rfl⟩
  unfold State.acceptCapacity
  dsimp only
  have hlearnt := fun x => hcount _ ((hself.putR (x := x)).flag.dirtySince (u := s) (l := [A.GAU_FCC, A.GAU_PFLG]))
  exact (hlearnt _).when fun _ h => ⟨h.gau, h.rd⟩

/-- R441: the part of an anchor that may learn a capacity. -/
def State.anchorLearns (s : State) (soc : Rat) : State :=
  match s.gau.anchor with
  | some a =>
    let ds := soc - a.soc
    if a.good && decide ((s.modelByte 70 : Rat) ≤ absR ds) && ds ≠ 0 && s.g F.GAU_STAT_AUTH ≠ 3 then
      let cand := (s.gau.acc - a.acc) / 3600 / (ds / 100)
      let nom : Rat := s.modelWord 2
      if nom / 2 ≤ cand && cand ≤ nom * 6 / 5 then s.acceptCapacity cand else s
    else s
  | none => s

/-- R432: the part of an anchor that takes the charge. -/
def State.anchorTaken (s : State) (soc : Rat) (good : Bool) : State :=
  let s := s.p F.GAU_STAT_ESTIM 0
  let fcc : Rat := s.fcc
  let s := s.setGau (fun g => { g with qrem := soc * fcc / 100, anchor := some ⟨soc, g.acc, good⟩ })
  (s.putR A.GAU_SOCCC (10 * s.socCc)).putR A.GAU_QREM s.gau.qrem

theorem State.takeAnchor_eq (s : State) (soc : Rat) : s.takeAnchor soc = (s.anchorLearns soc).anchorTaken soc (!s.b F.GAU_STAT_ESTIM) := by
  unfold State.takeAnchor State.anchorLearns State.anchorTaken
  cases s.gau.anchor <;> rfl

theorem State.anchorLearns_frame (s : State) (soc : Rat) : (s.anchorLearns soc).CapacityOf s := by
  have hself : s.CapacityOf s := ⟨rfl, fun _ _ _ _ _ => rfl⟩
  unfold State.anchorLearns
  split
  · dsimp only
    split
    · split
      · exact s.acceptCapacity_frame _
      · exact hself
    · exact hself
  · exact hself

/-- The registers that the charge of the gauge depends on. -/
theorem State.fcc_congr (hg : t.gau.heldDef = s.gau.heldDef) (hs : t.rd A.GAU_STAT = s.rd A.GAU_STAT) (hm : t.rd (A.GAU_MODEL 1) = s.rd (A.GAU_MODEL 1)) (hf : t.rd A.GAU_FCC = s.rd A.GAU_FCC) : t.fcc = s.fcc := by
  have hdef : t.onDefaults = s.onDefaults := by
    unfold State.onDefaults
    rw [State.b_congr (f := F.GAU_STAT_FROZEN) hs, State.g_congr (f := F.GAU_STAT_AUTH) hs, hg]
  unfold State.fcc State.modelWord
  rw [hdef, State.rn_congr hm, State.rn_congr hf]

theorem State.anchorTaken_full (s : State) (good : Bool) :
    (s.anchorTaken 100 good).gau.anchor = some ⟨100, s.gau.acc, good⟩ ∧ (s.anchorTaken 100 good).gau.qrem = ((s.anchorTaken 100 good).fcc : Rat) ∧ (s.anchorTaken 100 good).g F.GAU_STAT_ESTIM = 0 ∧
      ∀ a, a ≠ A.GAU_STAT → a ≠ A.GAU_SOCCC → a ≠ A.GAU_QREM → (s.anchorTaken 100 good).rd a = s.rd a := by
  unfold State.anchorTaken
  dsimp only
  generalize hw : (s.p F.GAU_STAT_ESTIM 0).setGau _ = w
  have hgau : w.gau = { s.gau with qrem := 100 * ((s.p F.GAU_STAT_ESTIM 0).fcc : Rat) / 100, anchor := some ⟨100, s.gau.acc, good⟩ } := by rw [← hw]; rfl
  have hrd : ∀ a, w.rd a = (s.p F.GAU_STAT_ESTIM 0).rd a := fun a => by rw [← hw]; rfl
  have hput : ∀ a, a ≠ A.GAU_SOCCC → a ≠ A.GAU_QREM → ((w.putR A.GAU_SOCCC (10 * w.socCc)).putR A.GAU_QREM w.gau.qrem).rd a = (s.p F.GAU_STAT_ESTIM 0).rd a := fun a h1 h2 =>
    (State.rd_putR_ne _ _ h2).trans ((State.rd_putR_ne _ _ h1).trans (hrd a))
  have hgput : ((w.putR A.GAU_SOCCC (10 * w.socCc)).putR A.GAU_QREM w.gau.qrem).gau = w.gau := (State.putR_gau _ _ _).trans (State.putR_gau _ _ _)
  refine ⟨?_, ?_, ?_, fun a h1 h2 h3 => (hput a h2 h3).trans (State.rd_p_ne _ _ h1)⟩
  · rw [hgput, hgau]
  · have hfcc := State.fcc_congr (t := (w.putR A.GAU_SOCCC (10 * w.socCc)).putR A.GAU_QREM w.gau.qrem) (s := s.p F.GAU_STAT_ESTIM 0)
      (by rw [hgput, hgau]; rfl) (hput _ (by decide) (by decide)) (hput _ (by decide) (by decide)) (hput _ (by decide) (by decide))
    rw [hfcc, hgput, hgau]
    exact mul_div_cancel_left₀ _ (by decide)
  · exact (State.g_congr (hput _ (by decide) (by decide))).trans (s.g_p_same F.GAU_STAT_ESTIM 0 (by decide))

theorem BesideGauge.takeAnchor (hg : BesideGauge g) {soc : Rat} (h : g t = g s) : g (t.takeAnchor soc) = g s := by
  have hlearn : g (t.anchorLearns soc) = g s := by
    unfold State.anchorLearns
    split
    · exact hg.ite (hg.ite (hg.acceptCapacity h) h) h
    · exact h
  rw [State.takeAnchor_eq]
  exact hg.putR (hg.putR (hg.setGau (hg.p hlearn)))

end
end Sys2Proof.Machine
end

section
/-! PROOFS. The battery's insertion and removal, and the phases of a charge (R396 to R402). -/
namespace Sys2Proof.Machine

section
variable {s : State}

theorem exec_batteryEvents (s : State) (b : Nat) :
    exec (.batteryInserted b) s = done (s.when s.aoOn (·.batteryIn b)) ∧ exec .batteryRemoved s = done (s.when s.aoOn State.batteryOut) ∧ exec (.chargePhaseChange b) s = done (s.when s.aoOn (·.phaseChange b)) ∧
      exec .chargeTermination s = done s.chargeDone := ⟨rfl, rfl, rfl, rfl⟩

theorem exec_chargeTimers (s : State) :
    exec .topoffEnd s = done (s.when (s.g F.CHG_STAT_STATE = 7) (·.setChgR (fun c => { c with phase := 8 }))) ∧ exec .rechargeStart s = done (s.when (s.g F.CHG_STAT_STATE = 8) State.startCycle) ∧
      exec .prechargeTimerExpiry s = done (s.when (s.g F.CHG_STAT_STATE = 3 || s.g F.CHG_STAT_STATE = 4) (·.chargerFault F.CHG_FLT_PRETMR 74)) ∧
      exec .safetyTimerExpiry s = done (s.when (s.g F.CHG_STAT_STATE = 5 || s.g F.CHG_STAT_STATE = 6 || s.g F.CHG_STAT_STATE = 7) (·.chargerFault F.CHG_FLT_SAFETMR 73)) := ⟨rfl, rfl, rfl, rfl⟩

theorem State.batteryIn_out (b : Nat) (hp : s.present = false) : s.batteryIn b = ({ s with sup := { s.sup with pack := true, battMv := b }, chg := { s.chg with cycleDue := true } } : State).authStart := by
  unfold State.batteryIn
  rw [hp]
  rfl

theorem State.batteryIn_present (b : Nat) (hp : s.present = true) : s.batteryIn b = s := by
  unfold State.batteryIn
  rw [hp]
  rfl

theorem State.batteryOut_absent (hp : s.present = false) : s.batteryOut = s := by
  unfold State.batteryOut
  rw [hp]
  rfl

theorem State.inc_form (s : State) (a : Nat) : s.inc a = { s with regs := (s.inc a).regs } := by
  unfold State.inc
  split <;> rfl

/-- R397: the state as the removal is noted. -/
def State.removalNoted (s : State) : State :=
  ((({ s with sup := { s.sup with pack := false, battMv := 0 }, chg := { s.chg with fault := false, batOv := false, ocStop := false, ima := 0 } } : State).inc A.CHG_CNTREM).p F.CHG_FLT_REMOVED 1).raise 78

theorem State.batteryOut_present (hp : s.present = true) : s.batteryOut = s.removalNoted.weirOff.phaseGuard.freezeGauge.reserveLost := by
  unfold State.batteryOut
  rw [hp]
  rfl

theorem State.inc_keeps {β : Type} (g : State → β) (hg : ∀ r, g { s with regs := r } = g s) (a : Nat) : g (s.inc a) = g s := by
  unfold State.inc
  split
  · exact hg _
  · rfl

theorem State.removalNoted_frame (s : State) :
    s.removalNoted.sup = { s.sup with pack := false, battMv := 0 } ∧ s.removalNoted.chg.fault = false ∧ s.removalNoted.flt.raised = s.flt.raised ++ [⟨78, .detector, s.power.code⟩] ∧
      s.removalNoted.b F.CHG_FLT_REMOVED = true ∧ s.removalNoted.rn A.CHG_CNTREM = min 65535 (s.rn A.CHG_CNTREM + 1) := by
  unfold State.removalNoted
  generalize hu : ({ s with sup := { s.sup with pack := false, battMv := 0 }, chg := { s.chg with fault := false, batOv := false, ocStop := false, ima := 0 } } : State) = u
  have hpow : u.power = s.power := by rw [← hu]
  have hflt : u.flt = s.flt := by rw [← hu]
  have hcnt : u.rn A.CHG_CNTREM = s.rn A.CHG_CNTREM := by rw [← hu]; rfl
  have hsup : u.sup = { s.sup with pack := false, battMv := 0 } := by rw [← hu]
  have hchg : u.chg.fault = false := by rw [← hu]
  refine ⟨?_, ?_, ?_, ?_, ?_⟩
  · exact (State.inc_keeps State.sup (fun _ => rfl) _).trans hsup
  · exact (State.inc_keeps (·.chg.fault) (fun _ => rfl) _).trans hchg
  · show (u.inc A.CHG_CNTREM).flt.raised ++ [⟨78, .detector, (u.inc A.CHG_CNTREM).power.code⟩] = _
    rw [State.inc_keeps State.flt (fun _ => rfl) A.CHG_CNTREM, State.inc_keeps State.power (fun _ => rfl) A.CHG_CNTREM, hflt, hpow]
  · exact State.b_p_one _ F.CHG_FLT_REMOVED (by decide) rfl
  · rw [← hcnt, ← u.rn_inc A.CHG_CNTREM]
    exact State.rn_congr (State.rd_p_ne _ (f := F.CHG_FLT_REMOVED) 1 (by decide))

/-- R397: what a removal leaves of the supplies, the charger, the raises and the registers of the charger. -/
theorem State.afterRemoval_frame (t : State) :
    let e := t.weirOff.phaseGuard.freezeGauge.reserveLost
    e.sup = t.sup ∧ e.chg = t.chg ∧ (∃ l, e.flt.raised = t.flt.raised ++ l) ∧ (∀ a, 0x0600 ≤ a → a < 0x0700 → e.rd a = t.rd a) ∧ e.b F.GAU_STAT_FROZEN = true := by
  have hw : ∀ a, 0x0600 ≤ a → t.weirOff.rd a = t.rd a := fun a h =>
    (State.rd_p_ne _ (f := F.WEIR_STAT_TKLIM) 0 (show a ≠ 0x0561 by omega)).trans (State.rd_p_ne _ (f := F.WEIR_STAT_COND) 0 (show a ≠ 0x0561 by omega))
  obtain ⟨⟨r1, d1, v1, k1, n1, hf1⟩, hrd1⟩ := t.weirOff.phaseGuard_frame
  have hs1 : t.weirOff.phaseGuard.sup = t.sup ∧ t.weirOff.phaseGuard.chg = t.chg ∧ t.weirOff.phaseGuard.flt = t.flt := by
    rw [hf1]
    exact ⟨rfl, rfl, rfl⟩
  generalize t.weirOff.phaseGuard = u at hrd1 hs1 ⊢
  obtain ⟨⟨r2, h2, m2, g2, hf2⟩, hrd2, hfr2⟩ := u.freezeGauge_frame
  have hs2 : u.freezeGauge.sup = u.sup ∧ u.freezeGauge.chg = u.chg ∧ u.freezeGauge.flt = u.flt := by
    rw [hf2]
    exact ⟨rfl, rfl, rfl⟩
  generalize u.freezeGauge = v at hrd2 hs2 hfr2 ⊢
  obtain ⟨hf3, ⟨l, hl⟩, hrd3, hfr3⟩ := v.reserveLost_frame
  obtain ⟨hsu, hcu, hfu⟩ := hs1
  obtain ⟨hsv, hcv, hfv⟩ := hs2
  refine ⟨?_, ?_, ⟨l, ?_⟩, fun a h1 h2 => ?_, hfr3.trans hfr2⟩
  · exact (congrArg State.sup hf3).trans (hsv.trans hsu)
  · exact (congrArg State.chg hf3).trans (hcv.trans hcu)
  · rw [hl, hfv, hfu]
  · have hne : a ≠ A.GAU_STAT ∧ a ≠ A.GAU_RESERVE ∧ a ≠ A.GAU_AUTHSTAT := ⟨show a ≠ 0x0700 by omega, show a ≠ 0x0706 by omega, show a ≠ 0x070C by omega⟩
    exact (hrd3 a hne.1 hne.2.1).trans ((hrd2 a hne.1 hne.2.2).trans ((hrd1 a h1 (by omega)).trans (hw a h1)))

/-- R402: a charge that terminates with the gauge running. -/
theorem State.chargeDone_anchors (h6 : s.g F.CHG_STAT_STATE = 6) (hr : s.gaugeRuns = true) (hf : s.frozen = false) :
    s.chargeDone = { s.takeAnchor 100 with chg := { (s.takeAnchor 100).chg with phase := if (s.takeAnchor 100).g F.CHG_TERMCFG_TOPT = 0 then 8 else 7 } } := by
  unfold State.chargeDone
  rw [if_pos h6, hr, hf]
  rfl

theorem State.chargeDone_stopped (h6 : s.g F.CHG_STAT_STATE = 6) (hr : s.gaugeRuns = false) :
    s.chargeDone = { s with chg := { s.chg with phase := if s.g F.CHG_TERMCFG_TOPT = 0 then 8 else 7 } } := by
  unfold State.chargeDone
  rw [if_pos h6, hr]
  rfl

theorem State.startCycle_frame (s : State) :
    s.startCycle = { s with regs := s.startCycle.regs, chg := { s.chg with cycleDue := false, preT := 0, safeT := 0, phase := s.phaseOf s.sup.battMv } } ∧
      (∀ a, a ≠ A.CHG_CNTCYC → s.startCycle.rd a = s.rd a) ∧ s.startCycle.rn A.CHG_CNTCYC = min 65535 (s.rn A.CHG_CNTCYC + 1) := by
  refine ⟨?_, fun a h => State.rd_inc_ne _ h, State.rn_inc _ _⟩
  exact (s.setChgR (fun c => { c with cycleDue := false, preT := 0, safeT := 0, phase := s.phaseOf s.sup.battMv })).inc_form A.CHG_CNTCYC

end

/-- Settles O53: each event of the battery and of the charge with its effect. -/
theorem batteryAndCharge : Obligations.BatteryAndCharge := by
  refine ⟨fun s b ha hp => ?_, fun s b hp => ?_, fun s ha hp => ?_, fun s hp => ?_, fun s => rfl, fun s b ha => ?_, fun s h6 => ⟨fun hr => ?_, fun hr hf => ?_⟩, fun s h6 => ?_, fun s => ?_,
    fun s => ⟨fun h8 => ?_, fun h8 => ?_⟩, fun s => ?_, fun s => ?_⟩
  · refine ⟨({ s with sup := { s.sup with pack := true, battMv := b }, chg := { s.chg with cycleDue := true } } : State).authStart, ?_, ?_, ?_, ?_, fun hr hau hi => ?_, fun hr => ?_⟩
    · rw [(exec_batteryEvents s b).1, ha, ← State.batteryIn_out b hp]
      rfl
    · exact BesideGauge.authStart (g := State.present) (fun _ _ _ _ _ _ _ _ => rfl) rfl
    · exact BesideGauge.authStart (g := State.sup) (fun _ _ _ _ _ _ _ _ => rfl) rfl
    · exact BesideGauge.authStart (g := State.chg) (fun _ _ _ _ _ _ _ _ => rfl) rfl
    · exact State.authStart_challenges hr rfl hi hau
    · have hlater := State.authStart_later (s := { s with sup := { s.sup with pack := true, battMv := b }, chg := { s.chg with cycleDue := true } }) hr
      rw [hlater]
  · rw [(exec_batteryEvents s b).1, State.when, State.batteryIn_present b hp, ite_self, done_eq]
  · refine ⟨s.batteryOut, ?_, ?_⟩
    · rw [(exec_batteryEvents s 0).2.1, ha]
      rfl
    · obtain ⟨hsup, hchg, ⟨l, hl⟩, hrd, hfr⟩ := s.removalNoted.afterRemoval_frame
      obtain ⟨hsup0, hchg0, hraised, hflag, hcnt⟩ := s.removalNoted_frame
      rw [State.batteryOut_present hp]
      generalize s.removalNoted.weirOff.phaseGuard.freezeGauge.reserveLost = e at *
      refine ⟨?_, ?_, (State.b_congr (hrd _ (by decide) (by decide))).trans hflag, (State.rn_congr (hrd _ (by decide) (by decide))).trans hcnt, ?_, hfr, ?_⟩
      · rw [State.present, hsup, hsup0]
      · rw [hsup, hsup0]
      · rw [hl, hraised]
        exact List.mem_append_left _ (List.mem_append_right _ (List.mem_singleton.mpr rfl))
      · rw [hchg, hchg0]
  · rw [(exec_batteryEvents s 0).2.1, State.when, State.batteryOut_absent hp, ite_self, done_eq]
  · rw [(exec_batteryEvents s b).2.2.1, ha]
    show done (if s.charging then _ else _) = _
    cases s.charging <;> rfl
  · exact congrArg done (State.chargeDone_stopped h6 hr)
  · obtain ⟨h1, h2, h3, h4⟩ := (s.anchorLearns 100).anchorTaken_full (!s.b F.GAU_STAT_ESTIM)
    obtain ⟨hgau, hrd⟩ := s.anchorLearns_frame 100
    rw [← State.takeAnchor_eq] at h1 h2 h3 h4
    have htopt : (s.takeAnchor 100).g F.CHG_TERMCFG_TOPT = s.g F.CHG_TERMCFG_TOPT :=
      State.g_congr ((h4 _ (by decide) (by decide) (by decide)).trans (hrd _ (by decide) (by decide) (by decide) (by decide)))
    have hchg : (s.takeAnchor 100).chg = s.chg := BesideGauge.takeAnchor (g := State.chg) (fun _ _ _ _ _ _ _ _ => rfl) rfl
    have hex := congrArg done (State.chargeDone_anchors h6 hr hf)
    rw [htopt, hchg] at hex
    rw [hgau] at h1
    exact ⟨_, hex, rfl, h1, h2, h3⟩
  · exact congrArg done (if_neg h6)
  · rw [(exec_chargeTimers s).1, State.when]
    by_cases h : s.g F.CHG_STAT_STATE = 7 <;> simp only [h, decide_true, decide_false, if_true, if_false] <;> rfl
  · obtain ⟨h1, h2, h3⟩ := s.startCycle_frame
    refine ⟨s.startCycle, ?_, h1, h2, h3⟩
    rw [(exec_chargeTimers s).2.1, decide_eq_true h8]
    rfl
  · rw [(exec_chargeTimers s).2.1, decide_eq_false h8]
    rfl
  · rw [(exec_chargeTimers s).2.2.1, State.when]
    simp only [Bool.or_eq_true, decide_eq_true_eq]
    rfl
  · rw [(exec_chargeTimers s).2.2.2, State.when]
    simp only [Bool.or_eq_true, decide_eq_true_eq, or_assoc]
    rfl

end Sys2Proof.Machine
end

section
/-! PROOFS. The end of a battery phase, and the keys of STK_REFCTL (R364, R368, R370, R383). -/
namespace Sys2Proof.Machine

/-! ### The end of a battery phase, and the keys of STK_REFCTL (R364, R368, R370, R383) -/

section
variable {s t : State}

theorem exec_proving (s : State) (k b : Nat) (ib : Int) (w : Word) :
    exec .batteryPhaseEnd s = done (s.endBattPhase none) ∧ exec (.provingSample k b ib) s = done (s.provingSample k b ib) ∧ exec (.stkRefctl w) s = hostDone s (·.writeRefCtl w) := ⟨rfl, rfl, rfl⟩

/-- R370: the result of a battery phase, as STK_PRVSTAT codes it. -/
def State.battResult (s : State) : Nat := if 2 * s.stk.batSum < s.stk.isSum then 2 else 1

/-- R368: the state with the end of a complete battery phase noted. -/
def State.battNoted (s : State) : State :=
  ((((s.setStk (fun k => { k with proveTarget := none, pre := none, prv := s.battResult })).p F.STK_STAT_BATTPH 0).inc (A.STK_CNT 4)).p F.STK_PRVSTAT_PCNT 0).p F.STK_PRVSTAT_LASTRES s.battResult

theorem State.setStk_inc (s : State) (a : Nat) (f : Stroke → Stroke) : (s.inc a).setStk f = (s.setStk f).inc a := by
  unfold State.inc
  show _ = if s.rn a < 65535 then _ else _
  split <;> rfl

theorem State.setStk_counted (s : State) (f : Stroke → Stroke) (a v : Nat) :
    (((s.inc a).p F.STK_PRVSTAT_PCNT 0).p F.STK_PRVSTAT_LASTRES v).setStk f = (((s.setStk f).inc a).p F.STK_PRVSTAT_PCNT 0).p F.STK_PRVSTAT_LASTRES v := by
  rw [← State.setStk_inc]
  rfl

theorem State.endBattPhase_complete (h : s.b F.STK_STAT_BATTPH = true) :
    s.endBattPhase none = ((((s.battNoted.retarget false).when (s.battResult = 2) (·.raise 89)).marker 4).burst 2).handOff := by
  have hnote : s.battNoted = (((((s.p F.STK_STAT_BATTPH 0).setStk (fun k => { k with proveTarget := none, pre := none })).inc (A.STK_CNT 4)).p F.STK_PRVSTAT_PCNT 0).p F.STK_PRVSTAT_LASTRES s.battResult).setStk (fun k => { k with prv := s.battResult }) := by
    rw [State.setStk_counted]
    rfl
  rw [hnote]
  exact if_pos h

theorem State.battNoted_frame (s : State) :
    s.battNoted.b F.STK_STAT_BATTPH = false ∧ s.battNoted.g F.STK_PRVSTAT_PCNT = 0 ∧ s.battNoted.rn (A.STK_CNT 4) = min 65535 (s.rn (A.STK_CNT 4) + 1) ∧ s.battNoted.g F.STK_PRVSTAT_LASTRES = s.battResult ∧
      s.battNoted.stk.proveTarget = none ∧ s.battNoted.flt = s.flt ∧ s.battNoted.power = s.power := by
  unfold State.battNoted
  generalize hu : s.setStk (fun k => { k with proveTarget := none, pre := none, prv := s.battResult }) = u
  have hrd : ∀ a, u.rd a = s.rd a := fun a => by rw [← hu]; rfl
  have hflt : u.flt = s.flt := by rw [← hu]; rfl
  have hpow : u.power = s.power := by rw [← hu]; rfl
  have hnone : u.stk.proveTarget = none := by rw [← hu]; rfl
  have hlt : s.battResult < 8 := by
    unfold State.battResult
    split <;> decide
  refine ⟨?_, ?_, ?_, ?_, ?_, ?_, ?_⟩
  · rw [State.b_p_ne _ _ (by decide), State.b_p_ne _ _ (by decide), State.b_congr (State.rd_inc_ne _ (by decide))]
    exact u.b_pb_same F.STK_STAT_BATTPH false (by decide) rfl
  · rw [State.g_p_beside _ _ (by decide) (by decide), State.g_p_same _ _ _ (by decide)]
    rfl
  · rw [State.rn_congr (State.rd_p_ne _ _ (by decide)), State.rn_congr (State.rd_p_ne _ _ (by decide)), State.rn_inc, State.rn_congr (State.rd_p_ne _ _ (by decide)), State.rn_congr (hrd _)]
  · rw [State.g_p_same _ _ _ (by decide)]
    exact Nat.mod_eq_of_lt hlt
  · exact (State.inc_keeps (·.stk.proveTarget) (fun _ => rfl) _).trans hnone
  · exact (State.inc_keeps State.flt (fun _ => rfl) _).trans hflt
  · exact (State.inc_keeps State.power (fun _ => rfl) _).trans hpow

/-- R368, R370: what the end of a complete battery phase shows. -/
theorem State.endBattPhase_shows (h : s.b F.STK_STAT_BATTPH = true) :
    (s.endBattPhase none).LogOf ((s.battNoted.retarget false).when (s.battResult = 2) (·.raise 89)) ∧ (s.battNoted.retarget false).LogOf s.battNoted := by
  rw [State.endBattPhase_complete h]
  exact ⟨(State.LogOf.refl _).marker.burst.handOff, (State.LogOf.refl _).retarget⟩

/-! ### Learning restarts -/

theorem State.rd_each_zero (s : State) (l : List Nat) (a : Nat) : (s.each l (fun s a => s.wn a 0)).rd a = if a ∈ l then 0 else s.rd a := by
  induction l generalizing s with
  | nil => rfl
  | cons x xs ih =>
    show ((s.wn x 0).each xs _).rd a = _
    rw [ih]
    by_cases h : a ∈ xs
    · rw [if_pos h, if_pos (List.mem_cons_of_mem x h)]
    · by_cases hx : a = x
      · rw [if_neg h, if_pos (hx ▸ List.mem_cons_self), hx]
        exact State.rd_wr_same _ _ _
      · rw [if_neg h, if_neg fun hm => (List.mem_cons.mp hm).elim hx h]
        exact State.rd_wr_ne _ _ hx

theorem State.each_zero_form (s : State) (l : List Nat) : s.each l (fun s a => s.wn a 0) = { s with regs := (s.each l (fun s a => s.wn a 0)).regs } := by
  induction l generalizing s with
  | nil => rfl
  | cons x xs ih => exact ih (s.wn x 0)

theorem State.dirty_frame (s : State) : s.dirty = { s with regs := s.dirty.regs, nvm := { s.nvm with wbStale := true } } ∧ s.dirty.b F.SYS_LDSTAT_DIRTY = true ∧ ∀ a, a ≠ A.SYS_LDSTAT → s.dirty.rd a = s.rd a :=
  ⟨rfl, s.b_p_one F.SYS_LDSTAT_DIRTY (by decide) rfl, fun _ h => s.rd_p_ne (f := F.SYS_LDSTAT_DIRTY) 1 h⟩

theorem State.cleared_frame (s : State) (l : List Nat) :
    (s.each l (fun s a => s.wn a 0)).dirty = { s with regs := (s.each l (fun s a => s.wn a 0)).dirty.regs, nvm := { s.nvm with wbStale := true } } ∧ (s.each l (fun s a => s.wn a 0)).dirty.b F.SYS_LDSTAT_DIRTY = true ∧
      ∀ a, a ≠ A.SYS_LDSTAT → (s.each l (fun s a => s.wn a 0)).dirty.rd a = if a ∈ l then 0 else s.rd a := by
  have hform := s.each_zero_form l
  have hrd := s.rd_each_zero l
  generalize s.each l (fun s a => s.wn a 0) = t at hform hrd ⊢
  obtain ⟨h1, h2, h3⟩ := t.dirty_frame
  refine ⟨?_, h2, fun a h => (h3 a h).trans (hrd a)⟩
  generalize t.dirty = d at h1 ⊢
  rw [hform] at h1
  exact h1

theorem mem_refAddrs {dir a : Nat} : a ∈ refAddrs dir ↔ a = A.STK_REFCNT dir ∨ ∃ i, i < 256 ∧ a = if dir = 0 then A.STK_REFO i else A.STK_REFC i := by
  unfold refAddrs
  simp only [List.mem_cons, List.mem_map, List.mem_range, eq_comm]

theorem ldstat_notMem_refAddrs {a dir : Nat} (hd : dir ≤ 1) (h : a ∈ refAddrs dir) : a ≠ A.SYS_LDSTAT := by
  rintro rfl
  rcases mem_refAddrs.mp h with h | ⟨i, -, h⟩
  · revert h
    show ¬ 0x0136 = 0x058B + dir
    omega
  · split at h
    · revert h
      show ¬ 0x0136 = 0xC200 + i
      omega
    · revert h
      show ¬ 0x0136 = 0xC300 + i
      omega

theorem State.provingSample_learns {k v0 b : Nat} {i0 : Rat} (ib : Int) (hk : k ≤ 2) (hb : s.b F.STK_STAT_BATTPH = true) (hl : s.gaugeLearns = true) (hp : s.stk.pre = some (v0, i0)) :
    s.provingSample k b ib = match zMeasured v0 b i0 (-(ib : Rat)) with | some z => s.zLearn s.stk.zCol s.stk.zPt k 1 z | none => s := by
  unfold State.provingSample
  rw [hb, hl, decide_eq_true hk, hp]
  dsimp only [Bool.and_self, if_true]
  cases zMeasured v0 b i0 (-(ib : Rat)) <;> rfl

theorem State.provingSample_idle (k b : Nat) (ib : Int) (hb : s.b F.STK_STAT_BATTPH = false) : s.provingSample k b ib = s := by
  unfold State.provingSample
  rw [hb]
  rfl

theorem State.writeRefCtl_cases (s : State) :
    s.writeRefCtl 0x1E01#16 = s.restartRef 0 ∧ s.writeRefCtl 0x1E02#16 = s.restartRef 1 ∧ s.writeRefCtl 0x1E03#16 = (s.restartRef 0).restartRef 1 ∧
      ∀ w, w ≠ 0x1E01#16 → w ≠ 0x1E02#16 → w ≠ 0x1E03#16 → s.writeRefCtl w = s :=
  ⟨rfl, rfl, rfl, fun _ h1 h2 h3 => (if_neg h1).trans ((if_neg h2).trans (if_neg h3))⟩

/-- R364, R383: what the restart of the learning of a direction leaves. -/
theorem State.restartRef_shows (s : State) {d : Nat} (hd : d ≤ 1) :
    s.restartRef d = { s with regs := (s.restartRef d).regs, nvm := { s.nvm with wbStale := true } } ∧ (s.restartRef d).b F.SYS_LDSTAT_DIRTY = true ∧ (s.restartRef d).rn (A.STK_REFCNT d) = 0 ∧
      (∀ i, i < 256 → (s.restartRef d).rn (if d = 0 then A.STK_REFO i else A.STK_REFC i) = 0) ∧
      ∀ a, a ≠ A.SYS_LDSTAT → a ≠ A.STK_REFCNT d → (∀ i, i < 256 → a ≠ if d = 0 then A.STK_REFO i else A.STK_REFC i) → (s.restartRef d).rd a = s.rd a := by
  obtain ⟨hform, hdirty, hrd⟩ := s.cleared_frame (refAddrs d)
  have hzero : ∀ a, a ∈ refAddrs d → (s.restartRef d).rn a = 0 := fun a ha => by
    have h0 := hrd a (ldstat_notMem_refAddrs hd ha)
    rw [if_pos ha] at h0
    exact congrArg BitVec.toNat h0
  refine ⟨hform, hdirty, hzero _ (mem_refAddrs.mpr (.inl rfl)), fun i hi => hzero _ (mem_refAddrs.mpr (.inr ⟨i, hi, rfl⟩)), fun a h1 h2 h3 => ?_⟩
  have h0 := hrd a h1
  rw [if_neg fun hm => (mem_refAddrs.mp hm).elim h2 fun ⟨i, hi, he⟩ => h3 i hi he] at h0
  exact h0

end

/-- Settles O52: the end of a battery phase, a proving sample, and each key of STK_REFCTL. -/
theorem provingAndStrokeKeys : Obligations.ProvingAndStrokeKeys := by
  refine ⟨fun s => ⟨fun h => ?_, fun h => congrArg done (if_neg (by rw [h]; decide))⟩, fun s k b v0 ib i0 hk hb hl hp => ?_, fun s k b ib hb => congrArg done (State.provingSample_idle k b ib hb), fun s w d ha hw => ?_, fun s ha => ?_,
    fun s w h1 h2 h3 => ?_⟩
  · obtain ⟨hlog, hret⟩ := State.endBattPhase_shows h
    obtain ⟨hb, hp, hc, hr, ht, hf, hpow⟩ := s.battNoted_frame
    have hwrd : ∀ a, ((s.battNoted.retarget false).when (s.battResult = 2) (·.raise 89)).rd a = (s.battNoted.retarget false).rd a := fun a => by
      unfold State.when
      split <;> rfl
    have hrd : ∀ a, offLog a = true → (s.endBattPhase none).rd a = s.battNoted.rd a := fun a ha => (hlog.rd a ha).trans ((hwrd a).trans (hret.rd a ha))
    refine ⟨s.endBattPhase none, rfl, (State.b_congr (hrd _ (by decide))).trans hb, ?_, (State.g_congr (hrd _ (by decide))).trans hp, (State.rn_congr (hrd _ (by decide))).trans hc, (State.g_congr (hrd _ (by decide))).trans hr, ?_⟩
    · have hw : ((s.battNoted.retarget false).when (s.battResult = 2) (·.raise 89)).stk = (s.battNoted.retarget false).stk := by
        unfold State.when
        split <;> rfl
      exact (congrArg Stroke.proveTarget hlog.stk).trans ((congrArg Stroke.proveTarget hw).trans ((congrArg Stroke.proveTarget hret.stk).trans ht))
    · have hflt : (s.battNoted.retarget false).flt = s.flt := (hret.keeps State.flt fun _ _ _ _ _ => rfl).trans hf
      have hpw : (s.battNoted.retarget false).power = s.power := (hret.keeps State.power fun _ _ _ _ _ => rfl).trans hpow
      rw [hlog.keeps State.flt fun _ _ _ _ _ => rfl]
      unfold State.battResult State.when
      by_cases hlow : 2 * s.stk.batSum < s.stk.isSum
      · rw [if_pos hlow, if_pos hlow, if_pos (by rfl)]
        show (s.battNoted.retarget false).flt.raised ++ [⟨89, .detector, (s.battNoted.retarget false).power.code⟩] = _
        rw [hflt, hpw]
      · rw [if_neg hlow, if_neg hlow, if_neg (by decide), hflt, List.append_nil]
  · exact congrArg done (State.provingSample_learns ib hk hb hl hp)
  · have hd : d ≤ 1 := by omega
    obtain ⟨h1, h2, h3, h4, h5⟩ := s.clocked.restartRef_shows hd
    refine ⟨s.clocked.restartRef d, ?_, ?_, h2, ?_, h3, h4, h5⟩
    · rcases hw with ⟨rfl, rfl⟩ | ⟨rfl, rfl⟩
      · rw [(exec_proving s 0 0 0 _).2.2, hostDone_of_hostAlive _ ha, s.clocked.writeRefCtl_cases.1]
      · rw [(exec_proving s 0 0 0 _).2.2, hostDone_of_hostAlive _ ha, s.clocked.writeRefCtl_cases.2.1]
    · rw [h1]
    · rw [h1]
      rfl
  · obtain ⟨f1, d1, c1, p1, k1⟩ := s.clocked.restartRef_shows (Nat.zero_le 1)
    obtain ⟨f2, d2, c2, p2, k2⟩ := (s.clocked.restartRef 0).restartRef_shows (Nat.le_refl 1)
    have hnvm : ((s.clocked.restartRef 0).restartRef 1).nvm = { s.nvm with wbStale := true } := by
      rw [f2, f1]
      rfl
    have hO : ∀ i j, A.STK_REFO i ≠ A.STK_REFC j ∨ 256 ≤ i := fun i j => by
      show 0xC200 + i ≠ 0xC300 + j ∨ 256 ≤ i
      omega
    refine ⟨(s.clocked.restartRef 0).restartRef 1, ?_, ?_, d2, hnvm, ?_, c2, fun i hi => ⟨?_, p2 i hi⟩, fun a h1 h2 h3 h4 => ?_⟩
    · rw [(exec_proving s 0 0 0 _).2.2, hostDone_of_hostAlive _ ha, s.clocked.writeRefCtl_cases.2.2.1]
    · rw [f2, f1]
    · exact (State.rn_congr (k2 _ (by decide) (by decide) fun j hj => by show 0x058B ≠ 0xC300 + j; omega)).trans c1
    · exact (State.rn_congr (k2 _ (by show 0xC200 + i ≠ 0x0136; omega) (by show 0xC200 + i ≠ 0x058C; omega) fun j hj => by show 0xC200 + i ≠ 0xC300 + j; omega)).trans (p1 i hi)
    · exact (k2 a h1 h3 fun i hi => (h4 i hi).2).trans (k1 a h1 h2 fun i hi => (h4 i hi).1)
  · rw [(exec_proving s 0 0 0 w).2.2]
    exact hostDone_of_unchanged s fun t => t.writeRefCtl_cases.2.2.2 w h1 h2 h3

end Sys2Proof.Machine
end

section
/-! PROOFS. The throttle, and the count of the RTC, its keys and its paired reads (R577 to R581, R600 to R613). -/
namespace Sys2Proof.Machine

/-! ### The throttle (R577 to R581) -/

section
variable {s : State}

theorem exec_throttle (s : State) : exec .throttleEnforce s = done s.enforceThrottle ∧ exec .throttleRelease s = done s.releaseThrottle := ⟨rfl, rfl⟩

theorem State.enforceThrottle_due (hh : s.thm.held = false) (hr : s.b F.THM_STAT_THRREQ = true) (hg : s.b F.THM_STAT_GRACE = true) :
    s.enforceThrottle = ((((s.p F.THM_STAT_GRACE 0).p F.THM_STAT_THRENF 1).inc A.THM_CNTTHR).raise 82).thermalEvent 1 := if_pos (by rw [hh, hr, hg]; rfl)

theorem State.enforceThrottle_idle (h : s.thm.held = true ∨ s.b F.THM_STAT_THRREQ = false ∨ s.b F.THM_STAT_GRACE = false) : s.enforceThrottle = s := by
  refine if_neg ?_
  rcases h with h | h | h <;> rw [h] <;> simp

/-- R581: an enforced throttle. -/
theorem State.throttled_form (s t : State) (ht : t = { s with regs := t.regs }) : (t.raise 82).thermalEvent 1 =
    { s with regs := t.regs, hif := { s.hif with attn := true }, flt := { s.flt with raised := s.flt.raised ++ [⟨82, .detector, s.power.code⟩] }, mrq := { s.mrq with outbox := s.mrq.outbox ++ [.thermal 1] } } := by
  rw [ht]
  rfl

theorem State.releaseThrottle_due (hh : s.thm.held = false) (hx : s.b F.THM_STAT_RELAX = true) (hr : s.b F.THM_STAT_THRREQ = false) :
    s.releaseThrottle = if s.anySubst then { s.p F.THM_STAT_RELAX 0 with thm := { s.thm with relaxed := true } } else s.liftThrottle := if_pos (by rw [hh, hx, hr]; rfl)

theorem State.releaseThrottle_idle (h : s.thm.held = true ∨ s.b F.THM_STAT_RELAX = false ∨ s.b F.THM_STAT_THRREQ = true) : s.releaseThrottle = s := by
  refine if_neg ?_
  rcases h with h | h | h <;> rw [h] <;> simp

/-! ### The count (R600 to R604, R611, R613) -/

theorem exec_rtc (s : State) (w : Word) :
    exec .rtcTick s = done s.lfTick ∧ exec (.rtcSet w) s = hostDone s (·.writeSetGo w) ∧ exec (.rtcStep w) s = hostDone s (·.writeSetGo w) ∧ exec (.rtcCancel w) s = hostDone s (·.writeSetGo w) ∧
      exec .rtcPendingApply s = done (s.when s.rtcx.pend.isSome State.lfTick) ∧ exec .rtcSec0Read s = done (s.readOne (A.RTC_SEC 0)) ∧ exec .rtcFracRead s = done (s.readOne A.RTC_FRAC) := ⟨rfl, rfl, rfl, rfl, rfl, rfl, rfl⟩

/-- R602: an edge with no trim. -/
theorem State.trimEdge_plain (ht : s.rn A.RTC_TRIM % 512 = 0) (ha : s.rtcx.acc < 1000000) : s.trimEdge = (2, s) := by
  have htrim : s.trim = 0 := by
    unfold State.trim
    rw [ht]
    rfl
  unfold State.trimEdge
  rw [htrim]
  exact (if_neg (by decide)).trans (if_neg (Nat.not_le.mpr ha))

/-- R606: no alarm is enabled. -/
def State.noAlarm (s : State) : Prop := s.almEn 0 = false ∧ s.almEn 1 = false

theorem State.almEdge_none (h : s.noAlarm) : s.almEdge = ([], s) := by
  obtain ⟨h0, h1⟩ := h
  unfold State.almEdge
  simp [h0, h1]

theorem State.almJump_none (h : s.noAlarm) (c0 : Nat) (fwd : Option Nat) : s.almJump c0 fwd = ([], s) := by
  obtain ⟨h0, h1⟩ := h
  unfold State.almJump
  simp [h0, h1]

theorem State.lfTick_of_edge {t : State} (ha : s.rtcAlive = true) (h : s.lfEdge = ([], t)) : s.lfTick = t := by
  unfold State.lfTick
  rw [ha, h]
  rfl

theorem State.lfTick_dark (ha : s.rtcAlive = false) : s.lfTick = s := if_neg (by rw [ha]; decide)

/-- R600, R602: no trim and no alarm: an edge adds two units. -/
structure State.Plain (s : State) : Prop where
  trim : s.rn A.RTC_TRIM % 512 = 0
  acc : s.rtcx.acc < 1000000
  alarms : s.noAlarm

theorem State.Plain.congr {t : State} (h : s.Plain) (hr : ∀ a, a ≠ A.RTC_STAT → t.rd a = s.rd a) (hx : t.rtcx.acc = s.rtcx.acc) : t.Plain :=
  ⟨by rw [State.rn_congr (hr _ (by decide)), h.trim], hx ▸ h.acc, (State.bit_congr (hr A.RTC_ALMCFG (by decide)) 0).trans h.alarms.1, (State.bit_congr (hr A.RTC_ALMCFG (by decide)) 1).trans h.alarms.2⟩

/-- R600: what an edge makes of the count where nothing is set or stepped. -/
theorem State.Plain.counted (h : s.Plain) : (let (inc, t) := s.trimEdge; ({ t with rtc := (t.rtc + inc) % rtcMod } : State).almEdge) = ([], { s with rtc := (s.rtc + 2) % 72057594037927936 }) := by
  rw [State.trimEdge_plain h.trim h.acc]
  exact State.almEdge_none h.alarms

theorem State.lfEdge_counts (hp : s.rtcx.pend = none) (h : s.Plain) : s.lfEdge = ([], { s with ticks := s.ticks + 1, rtc := (s.rtc + 2) % 72057594037927936 }) := by
  have hplain : State.Plain { s with ticks := s.ticks + 1 } := h.congr (fun _ _ => rfl) rfl
  unfold State.lfEdge
  dsimp only
  rw [hp]
  exact hplain.counted

/-- R604: an edge at which what is pending is discarded. -/
theorem State.lfEdge_cancels (hp : s.rtcx.pend = some .cancel) (h : s.Plain) :
    s.lfEdge = ([], { s.p F.RTC_STAT_PEND 0 with ticks := s.ticks + 1, rtc := (s.rtc + 2) % 72057594037927936, rtcx := { s.rtcx with pend := none } }) := by
  have hplain : State.Plain (State.rtcDiscard { s with ticks := s.ticks + 1 }) := h.congr (fun a ha => State.rd_p_ne _ _ ha) rfl
  unfold State.lfEdge
  dsimp only
  rw [hp]
  exact hplain.counted

/-- R604, R612: the marks of a set or a step that has been applied. -/
def State.rtcMarked (s : State) : State := ((s.p F.RTC_STAT_PEND 0).p F.RTC_STAT_TSET 1).p F.RTC_STAT_STEPD 1

theorem State.rtcMarked_shows (s : State) : (∀ a, a ≠ A.RTC_STAT → s.rtcMarked.rd a = s.rd a) ∧ s.rtcMarked.b F.RTC_STAT_PEND = false ∧ s.rtcMarked.b F.RTC_STAT_TSET = true ∧ s.rtcMarked.b F.RTC_STAT_STEPD = true := by
  unfold State.rtcMarked
  refine ⟨fun a h => ?_, ?_, ?_, State.b_p_one _ _ (by decide) rfl⟩
  · rw [State.rd_p_ne _ _ h, State.rd_p_ne _ _ h, State.rd_p_ne _ _ h]
  · rw [State.b_p_beside _ _ (by decide) (by decide), State.b_p_beside _ _ (by decide) (by decide)]
    exact s.b_pb_same F.RTC_STAT_PEND false (by decide) rfl
  · rw [State.b_p_beside _ _ (by decide) (by decide)]
    exact State.b_p_one _ _ (by decide) rfl

theorem State.rtcApply_set (v : Nat) (h : s.trimEdge = (2, s)) (hn : ∀ t : State, t.regs = s.rtcMarked.regs → t.noAlarm) :
    s.rtcApply false v = ([], { s with regs := s.rtcMarked.regs, rtc := v % 72057594037927936, rtcx := { s.rtcx with pend := none } }) := by
  unfold State.rtcApply
  rw [h]
  exact State.almJump_none (s := { s with regs := s.rtcMarked.regs, rtc := v % 72057594037927936, rtcx := { s.rtcx with pend := none } }) (hn _ rfl) _ _

theorem State.rtcApply_step (v : Nat) (h : s.trimEdge = (2, s)) (hn : ∀ t : State, t.regs = s.rtcMarked.regs → t.noAlarm) :
    s.rtcApply true v = ([], { s with regs := s.rtcMarked.regs, rtc := (s.rtc + 2 + v) % 72057594037927936, rtcx := { s.rtcx with pend := none } }) := by
  have hmod : (s.rtc + 2 + v) % 72057594037927936 = ((s.rtc + 2) % rtcMod + v) % rtcMod := (Nat.mod_add_mod _ _ _).symm
  unfold State.rtcApply
  rw [h, hmod]
  exact State.almJump_none (s := { s with regs := s.rtcMarked.regs, rtc := ((s.rtc + 2) % rtcMod + v) % rtcMod, rtcx := { s.rtcx with pend := none } }) (hn _ rfl) _ _

/-- R604: an edge at which a set or a step is applied. -/
theorem State.lfEdge_applies {step : Bool} {v : Nat} (hp : s.rtcx.pend = some (if step then .step v else .set v)) (h : s.Plain) :
    s.lfEdge = ([], { s with regs := s.rtcMarked.regs, rtc := (if step then s.rtc + 2 + v else v) % 72057594037927936, rtcx := { s.rtcx with pend := none }, ticks := s.ticks + 1 }) := by
  have hplain : State.Plain { s with ticks := s.ticks + 1 } := h.congr (fun _ _ => rfl) rfl
  have hnone : ∀ (t : State), t.regs = s.rtcMarked.regs → t.noAlarm := fun t hregs => by
    have ht : ∀ a, a ≠ A.RTC_STAT → t.rd a = s.rd a := fun a ha => (congrArg (·.get a) hregs).trans (s.rtcMarked_shows.1 a ha)
    exact ⟨(State.bit_congr (ht A.RTC_ALMCFG (by decide)) 0).trans h.alarms.1, (State.bit_congr (ht A.RTC_ALMCFG (by decide)) 1).trans h.alarms.2⟩
  have hedge := State.trimEdge_plain hplain.trim hplain.acc
  unfold State.lfEdge
  dsimp only
  rw [hp]
  cases step
  · exact State.rtcApply_set v hedge hnone
  · exact State.rtcApply_step v hedge hnone

theorem State.writeSetGo_cases (s : State) : s.writeSetGo 0x57E1#16 = s.rtcCapture false ∧ s.writeSetGo 0x57E2#16 = s.rtcCapture true ∧ s.writeSetGo 0x57E0#16 = s.rtcCancel ∧
    ∀ w, w ≠ 0x57E0#16 → w ≠ 0x57E1#16 → w ≠ 0x57E2#16 → s.writeSetGo w = s := ⟨rfl, rfl, rfl, fun _ h0 h1 h2 => (if_neg h1).trans ((if_neg h2).trans (if_neg h0))⟩

/-- R603: a read of a word of the RTC through the host's port. -/
theorem State.readOne_rtc (ha : s.hostAlive = true) {k : Nat} (hk : k ≤ 3) :
    s.readOne (A.RTC_SEC k) = ((s.clocked.rtcRead .host k).2.accept.answer (goodReply (s.clocked.statusWord s.hif.perr) [BitVec.ofNat 16 (s.clocked.rtcRead .host k).1] (decide (2 ≤ s.version)))
      (goodReply (s.clocked.statusWord s.hif.perr) [BitVec.ofNat 16 (s.clocked.rtcRead .host k).1] (decide (2 ≤ s.version))).bytes) := by
  have hlist : ∀ k, k ≤ 3 → (decide (A.WAY_MCFG ≤ A.RTC_SEC k) && decide (A.RTC_SEC k ≤ A.WAY_W 123)) = false ∧ mapped (A.RTC_SEC k) = true ∧ A.RTC_SEC k ≠ A.HIF_ERR ∧ A.RTC_SEC k ≠ A.GAU_ACC0 := by decide
  have hsub : A.RTC_SEC k - A.RTC_SEC 0 = k := Nat.add_sub_cancel_left _ _
  obtain ⟨h1, h2, h3, h4⟩ := hlist k hk
  have hread : s.clocked.readWord .host (A.RTC_SEC k) = (BitVec.ofNat 16 (s.clocked.rtcRead .host k).1, (s.clocked.rtcRead .host k).2) := by
    unfold State.readWord
    rw [if_neg (by rw [Bool.and_assoc, h1, Bool.and_false]; decide), if_neg (by rw [h2]; decide), if_neg h3, if_neg h4, if_pos (by rw [Bool.and_eq_true]; exact ⟨decide_eq_true (Nat.le_add_right _ _), decide_eq_true (Nat.add_le_add_left hk _)⟩), hsub]
    rfl
  unfold State.readOne
  rw [if_pos ha, State.demandFast_of_hostAlive ha]
  dsimp only
  rw [hread]
  rfl

end

/-- Settles O60: the throttle's ends, and the count, its keys and its paired reads. -/
theorem throttleAndRtc : Obligations.ThrottleAndRtc := by
  refine ⟨fun s hh hr hg => ?_, fun s h => congrArg done (State.enforceThrottle_idle h), fun s hh hx hr => ⟨fun hs => ?_, fun hs => ?_⟩, fun s h => congrArg done (State.releaseThrottle_idle h), fun s ha hp ht hacc h0 h1 => ?_,
    fun s ha => congrArg done (State.lfTick_dark ha), fun s ha => ⟨?_, ?_, ?_⟩, fun s w h0 h1 h2 => ?_, fun s step v ha hp ht hacc h0 h1 => ?_, fun s hp => ?_, fun s ha => ?_, fun s ha => ?_, fun s ha hp ht hacc h0 h1 => ?_⟩
  · have hform : ((s.p F.THM_STAT_GRACE 0).p F.THM_STAT_THRENF 1).inc A.THM_CNTTHR = { s with regs := (((s.p F.THM_STAT_GRACE 0).p F.THM_STAT_THRENF 1).inc A.THM_CNTTHR).regs } := State.inc_form _ _
    have hex := congrArg done ((State.enforceThrottle_due hh hr hg).trans (State.throttled_form s _ hform))
    refine ⟨_, hex, rfl, fun a h1 h2 => ?_, ?_, ?_, ?_⟩
    · exact (State.rd_inc_ne _ h2).trans ((State.rd_p_ne _ _ h1).trans (State.rd_p_ne _ _ h1))
    · exact (State.b_congr (State.rd_inc_ne _ (by decide))).trans (State.b_p_one _ F.THM_STAT_THRENF (by decide) rfl)
    · exact (State.b_congr (State.rd_inc_ne _ (by decide))).trans ((State.b_p_beside _ _ (by decide) (by decide)).trans (s.b_pb_same F.THM_STAT_GRACE false (by decide) rfl))
    · refine (State.rn_inc _ _).trans ?_
      rw [State.rn_congr (State.rd_p_ne _ _ (by decide)), State.rn_congr (State.rd_p_ne _ _ (by decide))]
  · have hex := congrArg done ((State.releaseThrottle_due hh hx hr).trans (if_neg (by rw [hs]; decide)))
    refine ⟨s.liftThrottle, hex, rfl, fun a h => ?_, ?_, ?_⟩
    · exact (State.rd_p_ne (s.p F.THM_STAT_RELAX 0) (f := F.THM_STAT_THRENF) 0 h).trans (s.rd_p_ne (f := F.THM_STAT_RELAX) 0 h)
    · exact (s.p F.THM_STAT_RELAX 0).b_pb_same F.THM_STAT_THRENF false (by decide) rfl
    · exact ((s.p F.THM_STAT_RELAX 0).b_p_beside (f := F.THM_STAT_THRENF) (g := F.THM_STAT_RELAX) 0 (by decide) (by decide)).trans (s.b_pb_same F.THM_STAT_RELAX false (by decide) rfl)
  · exact congrArg done ((State.releaseThrottle_due hh hx hr).trans (if_pos hs))
  · exact congrArg done (State.lfTick_of_edge ha (State.lfEdge_counts hp ⟨ht, hacc, h0, h1⟩))
  · rw [(exec_rtc s _).2.1, hostDone_of_hostAlive _ ha, s.clocked.writeSetGo_cases.1]
    rfl
  · rw [(exec_rtc s _).2.2.1, hostDone_of_hostAlive _ ha, s.clocked.writeSetGo_cases.2.1]
    rfl
  · rw [(exec_rtc s _).2.2.2.1, hostDone_of_hostAlive _ ha, s.clocked.writeSetGo_cases.2.2.1]
    rfl
  · rw [(exec_rtc s w).2.1, (exec_rtc s w).2.2.1, (exec_rtc s w).2.2.2.1]
    have hkeep := hostDone_of_unchanged s fun t => t.writeSetGo_cases.2.2.2 w h0 h1 h2
    exact ⟨hkeep, hkeep, hkeep⟩
  · have hex : exec .rtcPendingApply s = done s.lfTick := by
      rw [(exec_rtc s 0).2.2.2.2.1, hp]
      rfl
    obtain ⟨hr, h2, h3, h4⟩ := s.rtcMarked_shows
    exact ⟨_, hex.trans (congrArg done (State.lfTick_of_edge ha (State.lfEdge_applies hp ⟨ht, hacc, h0, h1⟩))), rfl, hr, h2, h3, h4⟩
  · rw [(exec_rtc s 0).2.2.2.2.1, hp]
    rfl
  · rw [(exec_rtc s 0).2.2.2.2.2.1, State.readOne_rtc ha (Nat.zero_le 3)]
    exact ⟨_, rfl, rfl, rfl⟩
  · have hex := congrArg done (State.readOne_rtc ha (Nat.le_refl 3))
    refine ⟨_, hex, rfl, ?_⟩
    show [BitVec.ofNat 16 (rtcWord ((s.rtcx.hostSh).getD s.rtc) 3)] = _
    cases s.rtcx.hostSh <;> rfl
  · rw [(exec_rtc s 0).2.2.2.2.1, hp]
    exact congrArg done (State.lfTick_of_edge ha (State.lfEdge_cancels hp ⟨ht, hacc, h0, h1⟩))

end Sys2Proof.Machine
end

section
/-! PROOFS. DRIVE's soft-start and slews (R190, R298, R299). -/
namespace Sys2Proof.Machine

/-! ### DRIVE's soft-start and slews (R190, R298, R299) -/

section
variable {s : State}

theorem State.domAt_setDom_same (s : State) {n : Nat} (f : Domain → Domain) (hn : n - 1 < s.dom.length) : (s.setDom n f).domAt n = f (s.domAt n) := by
  unfold State.domAt State.setDom
  simp [List.getD_eq_getElem?_getD, List.getElem?_modify, List.getElem?_eq_getElem hn]

/-- R190: a domain that is unmasked with no over-voltage standing, and whose monitor is not sampled, reports nothing. -/
theorem State.unmask_quiet (s : State) (off : State → Nat → State) {n : Nat} (h1 : 1 ≤ n) (hn : n ≤ 10) (hov : s.over (n - 1) = false) (hsam : s.sampled (n - 1) = false) :
    s.unmask off n = (s.p (F.DOM_STAT_MASKED n) 0).setDom n (fun d => { d with slew := .none, uvRep := false, ovRep := false }) := by
  have hne : ∀ a, 0x0900 ≤ a → a ≠ (F.DOM_STAT_MASKED n).addr := fun a ha => by
    show a ≠ 0x0200 + (n - 1) * 0x20 + 1
    omega
  generalize hu : (s.p (F.DOM_STAT_MASKED n) 0).setDom n (fun d => { d with slew := .none, uvRep := false, ovRep := false }) = u
  have hrd : ∀ a, 0x0900 ≤ a → u.rd a = s.rd a := fun a ha => by
    rw [← hu]
    exact s.rd_p_ne 0 (hne a ha)
  have hpow : u.power = s.power := by
    rw [← hu]
    rfl
  have hover : u.over (n - 1) = false := (State.bit_congr (hrd A.CMP_OVER (by decide)) _).trans hov
  have hsampled : u.sampled (n - 1) = false := (State.sampled_congr hpow (hrd _ (Nat.le_add_right _ _))).trans hsam
  have hdue : u.ovDue (n - 1 + 1) = false := by
    unfold State.ovDue
    rw [Nat.add_sub_cancel, hover, Bool.and_false]
    rfl
  unfold State.unmask
  rw [hu]
  unfold State.afterJudge State.when
  rw [if_pos (by omega), hdue]
  simp [hsampled]

theorem State.drvSoftStartEnd_line (hon : s.drvOn = true) (hss : (s.domAt 1).ss = true) (hm : s.g F.DRV_STAT_MODE = 2) (hv : s.vTarget ≤ s.drv.vref) (hr : s.drv.ssRet = false ∨ s.drv.vref = s.vTarget) :
    s.drvSoftStartEnd = ((s.setDom 1 (fun d => { d with ss := false, ssEnded := true })).setDrv (fun d => { d with vref := s.vTarget, fast := false, ssRet := false })).p F.DRV_STAT_MODE 3 := by
  have hslew : (s.drv.ssRet && decide (s.vTarget < s.drv.vref)) = false := by
    rcases hr with h | h
    · rw [h, Bool.false_and]
    · rw [h, decide_eq_false (lt_irrefl _), Bool.and_false]
  unfold State.drvSoftStartEnd
  simp only [hon, hss, hm, decide_eq_true hv, decide_true, Bool.true_and, Bool.true_or, if_true, hslew, Bool.false_eq_true, if_false]
  rfl

theorem State.ssSlew_shows (s : State) : (∀ a, a ≠ A.DOM_STAT 1 → s.ssSlew.rd a = s.rd a) ∧ s.ssSlew.maskedDom 1 = true :=
  ⟨fun _ h => s.rd_p_ne (f := F.DOM_STAT_MASKED 1) 1 h, s.b_p_one (F.DOM_STAT_MASKED 1) (by decide) rfl⟩

theorem State.drvSoftStartEnd_retargeted (hon : s.drvOn = true) (hss : (s.domAt 1).ss = true) (hm : s.g F.DRV_STAT_MODE = 2) (hr : s.drv.ssRet = true) (hv : s.vTarget < s.drv.vref) :
    s.drvSoftStartEnd = (((s.setDom 1 (fun d => { d with ss := false, ssEnded := true })).setDrv (fun d => { d with fast := false, ssRet := false })).p F.DRV_STAT_MODE 3).ssSlew := by
  unfold State.drvSoftStartEnd
  simp only [hon, hss, hm, decide_eq_true hv.le, decide_eq_true hv, decide_true, Bool.true_and, Bool.true_or, if_true, hr]
  rfl

theorem State.drvSoftStartEnd_battery (hon : s.drvOn = true) (hss : (s.domAt 1).ss = true) (hm : s.g F.DRV_STAT_MODE = 4) (hw : s.weirOn = true) (ht : s.b F.WEIR_STAT_TKLIM = false) :
    s.drvSoftStartEnd = (s.setDom 1 (fun d => { d with ss := false, ssEnded := true })).setDrv (fun d => { d with vref := s.vTarget, fast := false, ssRet := false }) := by
  unfold State.drvSoftStartEnd
  simp only [hon, hss, hm, hw, ht, Bool.not_false, show ((4 : Nat) = 2) = False from by decide, decide_true, decide_false, Bool.true_and, Bool.false_and, Bool.false_or, if_true, Bool.false_eq_true, if_false]
  rfl

theorem State.drvSoftStartEnd_goesOn (h : s.g F.DRV_STAT_MODE = 2 ∧ s.drv.vref < s.vTarget ∨ s.g F.DRV_STAT_MODE = 4 ∧ s.b F.WEIR_STAT_TKLIM = true ∨ s.g F.DRV_STAT_MODE = 1) : s.drvSoftStartEnd = s := by
  refine if_neg ?_
  rcases h with ⟨h, hv⟩ | ⟨h, ht⟩ | h
  · simp [h, not_le.mpr hv]
  · simp [h, ht]
  · simp [h]

theorem exec_driveSlews (s : State) (tmax : Bool) :
    exec .driveSoftStartEnd s = done s.drvSoftStartEnd ∧
    exec (.driveTargetReached tmax) s = done (s.when (s.drvOn && decide ((s.domAt 1).slew = .slewing) && decide (s.drv.vref = s.vTarget) && (tmax || s.nearTarget)) (·.setDom 1 (fun d => { d with slew := .settling }))) ∧
    exec .driveSlewDone s = done (s.when (s.drvOn && decide ((s.domAt 1).slew = .settling)) State.driveSlewEnd) := ⟨rfl, rfl, rfl⟩

/-- R298: the state at the end of SETTLE, before its packet. -/
def State.slewOver (s : State) : State :=
  (((s.p (F.DOM_STAT_MASKED 1) 0).setDom 1 (fun d => { d with slew := .none, uvRep := false, ovRep := false })).setDrv (fun d => { d with fast := false })).p F.DRV_STAT_SLEWDONE 1

theorem State.slewOver_shows (s : State) :
    (∀ a, a ≠ A.DRV_STAT → a ≠ A.DOM_STAT 1 → s.slewOver.rd a = s.rd a) ∧ s.slewOver.maskedDom 1 = false ∧ s.slewOver.b F.DRV_STAT_SLEWDONE = true := by
  unfold State.slewOver
  generalize hv : ((s.p (F.DOM_STAT_MASKED 1) 0).setDom 1 (fun d => { d with slew := .none, uvRep := false, ovRep := false })).setDrv (fun d => { d with fast := false }) = v
  have hrd : ∀ a, v.rd a = (s.p (F.DOM_STAT_MASKED 1) 0).rd a := fun a => by
    rw [← hv]
    rfl
  refine ⟨fun a h1 h2 => (v.rd_p_ne _ h1).trans ((hrd a).trans (s.rd_p_ne 0 h2)), ?_, v.b_p_one F.DRV_STAT_SLEWDONE (by decide) rfl⟩
  exact (v.b_p_ne 1 (by decide)).trans ((State.b_congr (hrd _)).trans (s.b_pb_same (F.DOM_STAT_MASKED 1) false (by decide) rfl))

/-- R190, R298: the end of SETTLE. -/
theorem State.driveSlewEnd_quiet (hov : s.over 0 = false) (hsam : s.sampled 0 = false) : s.driveSlewEnd = s.slewOver.when (s.b F.DRV_SLEW_PKT) (·.post (.slewDone 1 (s.g F.DRV_VACT_CODE))) := by
  obtain ⟨hrd, -, -⟩ := s.slewOver_shows
  unfold State.driveSlewEnd
  rw [State.unmask_quiet s offNow (Nat.le_refl 1) (by decide) hov hsam]
  show s.slewOver.when (s.slewOver.b F.DRV_SLEW_PKT) (·.post (.slewDone 1 (s.slewOver.g F.DRV_VACT_CODE))) = _
  rw [State.b_congr (f := F.DRV_SLEW_PKT) (hrd _ (by decide) (by decide)), State.g_congr (f := F.DRV_VACT_CODE) (hrd _ (by decide) (by decide))]

end

/-- Settles O49: each end of a soft-start and of a slew. -/
theorem driveSlews : Obligations.DriveSlews := by
  refine ⟨fun s hon hss hlen hm hv hr => ?_, fun s hon hss hlen hm hr hv => ?_, fun s hon hss hm hw ht _ => ?_, fun s h => congrArg done (State.drvSoftStartEnd_goesOn h), fun s tmax hon hsl hv hn => ?_, fun s hon hsl hov hsam hlen => ?_⟩
  · have hdom := s.domAt_setDom_same (n := 1) (fun d => { d with ss := false, ssEnded := true }) (by omega)
    refine ⟨_, congrArg done (State.drvSoftStartEnd_line hon hss hm hv hr), rfl, fun a h => State.rd_p_ne _ _ h, State.g_p_same _ F.DRV_STAT_MODE 3 (by decide), ?_, ?_, ?_⟩
    · exact congrArg Domain.ss hdom
    · exact congrArg Domain.ssEnded hdom
    · exact (congrArg Domain.slew hdom).trans rfl
  · have hdom := s.domAt_setDom_same (n := 1) (fun d => { d with ss := false, ssEnded := true }) (by omega)
    have hdom' := (s.setDom 1 (fun d => { d with ss := false, ssEnded := true })).domAt_setDom_same (n := 1) (fun d => { d with slew := .slewing }) (by rw [State.setDom, List.length_modify]; omega)
    rw [hdom] at hdom'
    have hex := congrArg done (State.drvSoftStartEnd_retargeted hon hss hm hr hv)
    generalize hw : (((s.setDom 1 (fun d => { d with ss := false, ssEnded := true })).setDrv (fun d => { d with fast := false, ssRet := false })).p F.DRV_STAT_MODE 3) = w at hex
    have hrd : ∀ a, a ≠ A.DRV_STAT → w.rd a = s.rd a := fun a h => by
      rw [← hw]
      exact State.rd_p_ne _ 3 h
    have hmode : w.g F.DRV_STAT_MODE = 3 := by
      rw [← hw]
      exact State.g_p_same _ F.DRV_STAT_MODE 3 (by decide)
    obtain ⟨hslew, hmask⟩ := w.ssSlew_shows
    refine ⟨w.ssSlew, hex, ?_, fun a h1 h2 => (hslew a h2).trans (hrd a h1), (State.g_congr (hslew _ (by decide))).trans hmode, hmask, ?_, ?_, ?_⟩
    · rw [← hw]
      rfl
    all_goals rw [← hw]
    · exact congrArg Domain.ss hdom'
    · exact congrArg Domain.ssEnded hdom'
    · exact (congrArg Domain.slew hdom').trans rfl
  · exact congrArg done (State.drvSoftStartEnd_battery hon hss hm hw ht)
  · have hnear : (tmax || s.nearTarget) = true := by
      rcases hn with h | ⟨h1, h2⟩
      · rw [h, Bool.true_or]
      · rw [State.nearTarget, decide_eq_true h1, decide_eq_true h2, Bool.and_self, Bool.or_true]
    rw [(exec_driveSlews s tmax).2.1, hon, decide_eq_true hsl, decide_eq_true hv, hnear]
    rfl
  · have hdom := s.domAt_setDom_same (n := 1) (fun d => { d with slew := .none, uvRep := false, ovRep := false }) (by omega)
    have hex : exec .driveSlewDone s = done s.driveSlewEnd := by
      rw [(exec_driveSlews s false).2.2, hon, decide_eq_true hsl]
      rfl
    rw [State.driveSlewEnd_quiet hov hsam] at hex
    have hshape : ∀ (t : State) (c : Bool) (b : PktBody), t.when c (·.post b) = { t with mrq := if c then { t.mrq with outbox := t.mrq.outbox ++ [b] } else t.mrq } := fun t c b => by
      cases c <;> rfl
    rw [hshape] at hex
    obtain ⟨hrd, hmask, hdone⟩ := s.slewOver_shows
    exact ⟨_, hex, rfl, hrd, hmask, hdone, (congrArg Domain.slew hdom).trans rfl, rfl⟩

end Sys2Proof.Machine
end

section
/-! PROOFS. DRIVE's phases: shedding, detection, retirement and reinstatement (R306 to R313). -/
namespace Sys2Proof.Machine

/-! ### Shedding and detection (R306 to R310) -/

section
variable {s t : State} {k : Nat}

theorem exec_drivePhases (s : State) (k io t : Nat) (dcs : Int) (ks : List Nat) (w : Word) :
    exec (.phaseShed dcs) s = done (s.shedPhase (s.ioutOf dcs)) ∧ exec (.phaseReadd dcs) s = done (s.readdPhase (s.ioutOf dcs)) ∧
    exec .sheddingResume s = done (s.when (!s.strokeActive) (·.setDrv (fun d => { d with shedHold := false }))) ∧
    exec (.openPhaseDetect k io) s = done (s.when (s.mayBeOpen k io) (·.detectPhase k 1 0 io)) ∧ exec (.senseFailDetect k t io) s = done (s.when (s.maySenseFail k t) (·.detectPhase k 2 t io)) ∧
    exec (.phaseRetire ks) s = done (s.retireAt ks) ∧ exec (.phaseReinstate w) s = hostDone s (·.writePhCtl w) := ⟨rfl, rfl, rfl, rfl, rfl, rfl, rfl⟩

theorem State.shedPhase_sheds {x : Rat} (hm : s.mayShed = true) (h1 : s.g F.DRV_SHED_MINACT < ones6 s.phActive) (h2 : s.g F.DRV_SHED_MINACT ≤ ones6 (s.phRemain.land (63 - 2 ^ Nat.log2 s.phActive)))
    (h3 : 10 * x < 8 * ((ones6 s.phActive : Rat) - 1) * s.ished) : s.shedPhase x = { s with drv := { s.drv with shedNext := s.drv.shedNext.lor (2 ^ Nat.log2 s.phActive) } } :=
  if_pos (by rw [hm, decide_eq_true h1, decide_eq_true h2, decide_eq_true h3]; rfl)

theorem State.shedPhase_stays {x : Rat} (h : ones6 s.phActive ≤ s.g F.DRV_SHED_MINACT ∨ ones6 (s.phRemain.land (63 - 2 ^ Nat.log2 s.phActive)) < s.g F.DRV_SHED_MINACT ∨ 8 * ((ones6 s.phActive : Rat) - 1) * s.ished ≤ 10 * x) :
    s.shedPhase x = s := by
  refine if_neg ?_
  rcases h with h | h | h
  · rw [decide_eq_false (not_lt.mpr h)]
    simp
  · rw [decide_eq_false (not_le.mpr h)]
    simp
  · rw [decide_eq_false (not_lt.mpr h)]
    simp

/-- The lowest number below n of which p holds. -/
theorem find?_range_lowest (p : Nat → Bool) {n : Nat} (hk : k < n) (hp : p k = true) (hlow : ∀ j, j < k → p j = false) : (List.range n).find? p = some k := by
  rw [List.find?_range_eq_some]
  exact ⟨hp, List.mem_range.mpr hk, fun j hj => by rw [hlow j hj]; rfl⟩

theorem State.readdPhase_readds {x : Rat} (hm : s.mayShed = true) (hk : k < 6) (h1 : s.phSvc.testBit k = true) (h2 : (s.g F.DRV_PHSTAT_SHED).testBit k = true)
    (hlow : ∀ j, j < k → (s.phSvc.testBit j && (s.g F.DRV_PHSTAT_SHED).testBit j) = false) (hx : (ones6 s.phActive : Rat) * s.ished < x) :
    s.readdPhase x = { s with drv := { s.drv with shedNext := s.drv.shedNext - 2 ^ k } } := by
  have hfind := find?_range_lowest (fun k => s.phSvc.testBit k && (s.g F.DRV_PHSTAT_SHED).testBit k) hk (by rw [h1, h2]; rfl) hlow
  unfold State.readdPhase
  rw [hfind, hm, decide_eq_true hx]
  rfl

theorem State.readdPhase_stays {x : Rat} (hx : x ≤ (ones6 s.phActive : Rat) * s.ished) : s.readdPhase x = s := by
  refine if_neg ?_
  rw [decide_eq_false (not_lt.mpr hx), Bool.and_false]
  decide

theorem State.detectPhase_open {io : Nat} (hon : s.drvOn = true) (ha : inMask s.phActive k = true) (hd : ∀ d ∈ s.drv.det, d.phase ≠ k) (hc : s.retCause k = 0) :
    s.detectPhase k 1 0 io = ({ s with drv := { s.drv with det := s.drv.det ++ [⟨k, 1, 0, io⟩] } } : State).trimFollow := by
  have hnone : (s.drv.det.any fun d => d.phase = k) = false := List.any_eq_false.mpr fun d hm => by simpa using hd d hm
  unfold State.detectPhase
  rw [hon, ha, hnone, hc]
  rfl

theorem State.detectPhase_sense {test io : Nat} (hon : s.drvOn = true) (ha : inMask s.phActive k = true) (hd : s.drv.det = []) (hc : s.retCause k = 0) :
    s.detectPhase k 2 test io =
      ({ s with drv := { s.drv with det := [⟨k, if s.b F.DRV_PHCFG_MIRROR = true ∧ ones6 s.phSvc < s.minPhases + 1 then 3 else 2, test, io⟩] } } : State).trimFollow := by
  have hguard : (s.drvOn && (inMask s.phActive k || (inMask s.phSvc k && decide ((2 : Nat) = 2) && decide (test = 1))) && !(s.drv.det.any (fun d => d.phase = k)) && decide (s.retCause k = 0)) = true := by
    rw [hon, ha, hd, hc]
    rfl
  have hmirror : (decide ((2 : Nat) = 2) && s.b F.DRV_PHCFG_MIRROR && decide (ones6 s.phSvc < s.minPhases + (s.drv.det.filter (fun d => d.cause ≠ 3)).length + 1)) =
      decide (s.b F.DRV_PHCFG_MIRROR = true ∧ ones6 s.phSvc < s.minPhases + 1) := by
    rw [hd, List.filter_nil, List.length_nil, Nat.add_zero]
    simp
  have hcause : ∀ c : Prop, [Decidable c] → (if decide c = true then 3 else 2) = if c then 3 else 2 := fun c _ => by simp
  refine (if_pos hguard).trans ?_
  dsimp only
  rw [hmirror, hcause]
  show ({ s with drv := { s.drv with det := s.drv.det ++ [_] } } : State).trimFollow = _
  rw [hd]
  rfl

/-! ### The recorder's markers keep everything but the recorder -/

theorem State.marker_keeps {β : Type} (g : State → β) (hg : ∀ t r x, g { t with regs := r, stk := { t.stk with since := x } } = g t) (s : State) (code : Nat) : g (s.marker code) = g s := by
  have hregs : ∀ (t : State) r, g { t with regs := r } = g t := fun t r => hg t r t.stk.since
  have hp : ∀ (t : State) f v, g (t.p f v) = g t := fun t f v => hregs t _
  have hwn : ∀ (t : State) a v, g (t.wn a v) = g t := fun t a v => hregs t _
  have hput : ∀ (t : State) d tag v, g (t.recPut d tag v) = g t := fun t d tag v => by
    unfold State.recPut
    dsimp only
    split
    · split
      · rw [hp, hp, hp, hwn, hwn]
      · rw [hp, hwn, hwn]
    · rfl
  have hfold : ∀ (l : List Nat) (t : State), g (l.foldl (fun t _ => t.recPut 4095 15 0) t) = g t := by
    intro l
    induction l with
    | nil => exact fun _ => rfl
    | cons x xs ih => exact fun t => (ih _).trans (hput t _ _ _)
  unfold State.marker State.recAdd
  exact (hg _ _ _).trans ((hput _ _ _ _).trans (hfold _ s))

/-! ### Retirement (R310 to R312) -/

/-- From s to t shed phases have been written, and nothing else. -/
structure State.ShedOf (t s : State) : Prop where
  form : t = { s with regs := t.regs, drv := { s.drv with shedNext := t.drv.shedNext } }
  rd : ∀ a, a ≠ A.DRV_PHSTAT → t.rd a = s.rd a
  retired : t.g F.DRV_PHSTAT_RETIRED = s.g F.DRV_PHSTAT_RETIRED

theorem State.ShedOf.refl (s : State) : s.ShedOf s := ⟨rfl, fun _ _ => rfl, rfl⟩

theorem State.ShedOf.setShed (h : t.ShedOf s) (m : Nat) : (t.setShed m).ShedOf s :=
  ⟨congrArg (fun t : State => t.setShed m) h.form, fun a ha => (t.rd_p_ne m ha).trans (h.rd a ha), (t.g_p_beside (f := F.DRV_PHSTAT_SHED) (g := F.DRV_PHSTAT_RETIRED) m (by decide) (by decide)).trans h.retired⟩

theorem State.ShedOf.ite {u : State} {c : Prop} [Decidable c] (h : t.ShedOf s) (h' : u.ShedOf s) : (if c then t else u).ShedOf s := by
  split
  · exact h
  · exact h'

theorem State.keepMinAct_shedOf (s : State) : s.keepMinAct.ShedOf s := by
  have hstep : ∀ (l : List Nat) (t : State), t.ShedOf s →
      (l.foldl (fun s k => if s.phSvc.testBit k && (s.g F.DRV_PHSTAT_SHED).testBit k && decide (ones6 s.phActive < s.g F.DRV_SHED_MINACT) then s.setShed (s.g F.DRV_PHSTAT_SHED - 2 ^ k) else s) t).ShedOf s := by
    intro l
    induction l with
    | nil => exact fun _ h => h
    | cons x xs ih =>
      intro t h
      exact ih _ (.ite (h.setShed _) h)
  exact hstep _ s (.refl s)

/-- R310: the state as one open phase leaves service, before the shed phases are judged. -/
def State.retired1 (s : State) (k : Nat) : State :=
  ((s.p ⟨A.DRV_RETCAUSE, 2 * k - 2, 2⟩ 1).p F.DRV_PHSTAT_RETIRED ((s.g F.DRV_PHSTAT_RETIRED).lor (2 ^ (k - 1))))

theorem State.retireOne_open (s : State) (k io : Nat) : s.retireOne ⟨k, 1, 0, io⟩ = ((s.retired1 k).setShed ((s.g F.DRV_PHSTAT_SHED).land (63 - 2 ^ (k - 1)))).inc A.DRV_CNTRET := by
  have hne : A.DRV_PHSTAT ≠ A.DRV_RETCAUSE := by decide
  have h1 : (s.p ⟨A.DRV_RETCAUSE, 2 * k - 2, 2⟩ 1).g F.DRV_PHSTAT_RETIRED = s.g F.DRV_PHSTAT_RETIRED := State.g_p_ne _ _ hne
  have h2 : (s.p ⟨A.DRV_RETCAUSE, 2 * k - 2, 2⟩ 1).g F.DRV_PHSTAT_SHED = s.g F.DRV_PHSTAT_SHED := State.g_p_ne _ _ hne
  unfold State.retireOne State.retired1
  dsimp only
  rw [if_neg (by decide), h1, h2]

theorem State.retired1_shows (s : State) (h1 : 1 ≤ k) (h6 : k ≤ 6) :
    ((s.retired1 k).g F.DRV_PHSTAT_RETIRED).testBit (k - 1) = true ∧ (s.retired1 k).retCause k = 1 ∧ ∀ a, a ≠ A.DRV_RETCAUSE → a ≠ A.DRV_PHSTAT → (s.retired1 k).rd a = s.rd a := by
  unfold State.retired1
  refine ⟨?_, ?_, fun a ha hb => (State.rd_p_ne _ _ hb).trans (State.rd_p_ne _ _ ha)⟩
  · rw [State.g_p_same _ _ _ (by decide), Nat.testBit_mod_two_pow, decide_eq_true (show k - 1 < 6 by omega), Bool.true_and]
    show (s.g F.DRV_PHSTAT_RETIRED ||| 2 ^ (k - 1)).testBit (k - 1) = true
    rw [Nat.testBit_or, Nat.testBit_two_pow_self, Bool.or_true]
  · have hne : A.DRV_RETCAUSE ≠ A.DRV_PHSTAT := by decide
    unfold State.retCause
    rw [State.g_p_ne (f := F.DRV_PHSTAT_RETIRED) _ _ hne, State.g_p_same _ _ _ (show 2 * k - 2 + 2 ≤ 16 by omega)]
    rfl

/-- R296: the trims are reset. -/
theorem State.resetTrims_frame (s : State) :
    s.resetTrims = { s with regs := s.resetTrims.regs, drv := { s.drv with trims := [0, 0, 0, 0, 0, 0], bal := s.phBalanced } } ∧ ∀ a, (∀ j, j < 6 → a ≠ A.DRV_TRIM j) → s.resetTrims.rd a = s.rd a := by
  have hform : ∀ (l : List Nat) (t : State), l.foldl (fun s k => s.wn (A.DRV_TRIM k) 0) t = { t with regs := (l.foldl (fun s k => s.wn (A.DRV_TRIM k) 0) t).regs } := by
    intro l
    induction l with
    | nil => exact fun _ => rfl
    | cons x xs ih => exact fun t => ih (t.wn (A.DRV_TRIM x) 0)
  have hrd : ∀ (l : List Nat) (t : State) a, (∀ j ∈ l, a ≠ A.DRV_TRIM j) → (l.foldl (fun s k => s.wn (A.DRV_TRIM k) 0) t).rd a = t.rd a := by
    intro l
    induction l with
    | nil => exact fun _ _ _ => rfl
    | cons x xs ih => exact fun t a h => (ih _ a fun j hj => h j (List.mem_cons_of_mem x hj)).trans (State.rd_wr_ne t _ (h x List.mem_cons_self))
  exact ⟨hform (List.range 6) _, fun a h => hrd (List.range 6) _ a fun j hj => h j (List.mem_range.mp hj)⟩

/-- R310, R311: the state as the phase has left service and the shed phases have been judged. -/
def State.left1 (s : State) (k io : Nat) : State := (s.retireOne ⟨k, 1, 0, io⟩).keepMinAct

theorem State.left1_shows (s : State) (io : Nat) (h1 : 1 ≤ k) (h6 : k ≤ 6) :
    s.left1 k io = { s with regs := (s.left1 k io).regs, drv := { s.drv with shedNext := (s.left1 k io).drv.shedNext } } ∧ ((s.left1 k io).g F.DRV_PHSTAT_RETIRED).testBit (k - 1) = true ∧ (s.left1 k io).retCause k = 1 ∧
      (s.left1 k io).rn A.DRV_CNTRET = min 65535 (s.rn A.DRV_CNTRET + 1) ∧ ∀ a, a ≠ A.DRV_RETCAUSE → a ≠ A.DRV_PHSTAT → a ≠ A.DRV_CNTRET → (s.left1 k io).rd a = s.rd a := by
  obtain ⟨hbit, hcause, hrd⟩ := s.retired1_shows h1 h6
  have hshed := (State.ShedOf.refl (s.retired1 k)).setShed ((s.g F.DRV_PHSTAT_SHED).land (63 - 2 ^ (k - 1)))
  unfold State.left1
  rw [State.retireOne_open]
  have hform0 : s.retired1 k = { s with regs := (s.retired1 k).regs } := rfl
  generalize s.retired1 k = r at hbit hcause hrd hshed hform0 ⊢
  generalize r.setShed _ = u at hshed ⊢
  obtain ⟨huf, hur, hug⟩ := hshed
  have hinc : u.inc A.DRV_CNTRET = { u with regs := (u.inc A.DRV_CNTRET).regs } := State.inc_form _ _
  have hird : ∀ a, a ≠ A.DRV_CNTRET → (u.inc A.DRV_CNTRET).rd a = u.rd a := fun a h => State.rd_inc_ne _ h
  have hirn : (u.inc A.DRV_CNTRET).rn A.DRV_CNTRET = min 65535 (u.rn A.DRV_CNTRET + 1) := State.rn_inc _ _
  generalize u.inc A.DRV_CNTRET = v at hinc hird hirn ⊢
  obtain ⟨hkf, hkr, hkg⟩ := v.keepMinAct_shedOf
  generalize v.keepMinAct = w at hkf hkr hkg ⊢
  refine ⟨?_, ?_, ?_, ?_, fun a ha hb hc => (hkr a hb).trans ((hird a hc).trans ((hur a hb).trans (hrd a ha hb)))⟩
  · rw [hinc, huf, hform0] at hkf
    exact hkf
  · rw [hkg, State.g_congr (hird _ (by decide)), hug]
    exact hbit
  · exact (State.g_congr ((hkr A.DRV_RETCAUSE (by decide)).trans ((hird _ (by decide)).trans (hur _ (by decide))))).trans hcause
  · rw [State.rn_congr (hkr A.DRV_CNTRET (by decide)), hirn, State.rn_congr (hur A.DRV_CNTRET (by decide)), State.rn_congr (hrd A.DRV_CNTRET (by decide) (by decide))]

/-- R310: the state as one open phase has left service, with the angles recomputed and the trims reset. -/
def State.rearranged (s : State) (k io : Nat) : State := ((s.left1 k io).setDrv (fun x => { x with det := [], angles := (s.left1 k io).phActive })).resetTrims

/-- R310: its source raised and its packet posted. -/
def State.announced (s : State) (k io before : Nat) : State :=
  ((s.raise (31 + k)).post (.retirement k 1 0 (ones6 s.phSvc) io)).when (decide (((s.raise (31 + k)).post (.retirement k 1 0 (ones6 s.phSvc) io)).minPhases ≤ before) &&
    decide (ones6 s.phSvc < ((s.raise (31 + k)).post (.retirement k 1 0 (ones6 s.phSvc) io)).minPhases)) (·.raise 51)

theorem State.phases_congr (h : ∀ a, a = A.DRV_PHCFG ∨ a = A.DRV_PHEN ∨ a = A.DRV_PHSTAT → t.rd a = s.rd a) : t.phSvc = s.phSvc ∧ t.phActive = s.phActive := by
  have hc := State.g_congr (f := F.DRV_PHCFG_FITTED) (h A.DRV_PHCFG (.inl rfl))
  have he := State.g_congr (f := F.DRV_PHEN_EN) (h A.DRV_PHEN (.inr (.inl rfl)))
  have hr := State.g_congr (f := F.DRV_PHSTAT_RETIRED) (h A.DRV_PHSTAT (.inr (.inr rfl)))
  have hs := State.g_congr (f := F.DRV_PHSTAT_SHED) (h A.DRV_PHSTAT (.inr (.inr rfl)))
  unfold State.phActive State.phSvc State.phAvail
  rw [hc, he, hr, hs]
  exact ⟨rfl, rfl⟩

theorem State.retirePhases_one {io : Nat} (h1 : 1 ≤ k) (h6 : k ≤ 6) (hd : s.drv.det = [⟨k, 1, 0, io⟩]) : s.retirePhases [k] = (s.rearranged k io).announced k io (ones6 s.phSvc) := by
  obtain ⟨hform, -, -, -, -⟩ := s.left1_shows io h1 h6
  have hfil : s.drv.det.filter (fun d => [k].contains d.phase) = [⟨k, 1, 0, io⟩] := by
    rw [hd]
    simp
  have hdet : ((s.left1 k io).drv.det.filter fun d => !([k].contains d.phase)) = [] := by
    rw [hform]
    show s.drv.det.filter _ = []
    rw [hd]
    simp
  unfold State.retirePhases
  dsimp only
  rw [hfil]
  have hset : (s.left1 k io).setDrv (fun x => { x with det := x.det.filter (fun d => !([k].contains d.phase)), angles := (s.left1 k io).phActive }) =
      (s.left1 k io).setDrv (fun x => { x with det := [], angles := (s.left1 k io).phActive }) := by
    rw [← hdet]
    rfl
  have hleft : ((s.each [⟨k, 1, 0, io⟩] State.retireOne).keepMinAct) = s.left1 k io := rfl
  rw [hleft, hset]
  rfl

/-- R310: what one retirement leaves. -/
theorem State.rearranged_shows (s : State) (io : Nat) (h1 : 1 ≤ k) (h6 : k ≤ 6) :
    s.rearranged k io = { s with regs := (s.rearranged k io).regs, drv := (s.rearranged k io).drv } ∧ (s.rearranged k io).drv.det = [] ∧ (s.rearranged k io).drv.angles = (s.rearranged k io).phActive ∧
      (s.rearranged k io).drv.trims = [0, 0, 0, 0, 0, 0] ∧ ((s.rearranged k io).g F.DRV_PHSTAT_RETIRED).testBit (k - 1) = true ∧ (s.rearranged k io).retCause k = 1 ∧ (s.rearranged k io).rn A.DRV_CNTRET = min 65535 (s.rn A.DRV_CNTRET + 1) ∧
      ∀ a, a ≠ A.DRV_RETCAUSE → a ≠ A.DRV_PHSTAT → a ≠ A.DRV_CNTRET → (∀ j, j < 6 → a ≠ A.DRV_TRIM j) → (s.rearranged k io).rd a = s.rd a := by
  obtain ⟨hform, hbit, hcause, hcnt, hrd⟩ := s.left1_shows io h1 h6
  unfold State.rearranged
  generalize s.left1 k io = u at hform hbit hcause hcnt hrd ⊢
  obtain ⟨htf, htr⟩ := (u.setDrv (fun x => { x with det := [], angles := u.phActive })).resetTrims_frame
  have hur : ∀ a, (u.setDrv (fun x => { x with det := [], angles := u.phActive })).rd a = u.rd a := fun _ => rfl
  have hudrv : (u.setDrv (fun x => { x with det := [], angles := u.phActive })).drv = { u.drv with det := [], angles := u.phActive } := rfl
  have huf : u.setDrv (fun x => { x with det := [], angles := u.phActive }) = { u with drv := (u.setDrv (fun x => { x with det := [], angles := u.phActive })).drv } := rfl
  generalize u.setDrv (fun x => { x with det := [], angles := u.phActive }) = v at htf htr hur hudrv huf ⊢
  have htd := congrArg State.drv htf
  generalize v.resetTrims = w at htf htr htd ⊢
  have hwr : ∀ a, (∀ j, j < 6 → a ≠ A.DRV_TRIM j) → w.rd a = u.rd a := fun a h => (htr a h).trans (hur a)
  have hoff : ∀ a ∈ [A.DRV_PHCFG, A.DRV_PHEN, A.DRV_PHSTAT, A.DRV_RETCAUSE, A.DRV_CNTRET], ∀ j, j < 6 → a ≠ A.DRV_TRIM j := by decide
  have hph := State.phases_congr (s := u) (t := w) fun a ha => hwr a (hoff a (by rcases ha with rfl | rfl | rfl <;> decide))
  refine ⟨?_, ?_, ?_, ?_, ?_, ?_, ?_, fun a ha hb hc hj => (hwr a hj).trans (hrd a ha hb hc)⟩
  · have hall : w = { v with regs := w.regs, drv := w.drv } := htf.trans (congrArg (fun d : Drive => { v with regs := w.regs, drv := d }) htd.symm)
    rw [huf, hform] at hall
    exact hall
  · rw [htd, hudrv]
  · rw [htd, hudrv, hph.2]
  · rw [htd]
  · rw [State.g_congr (f := F.DRV_PHSTAT_RETIRED) (hwr _ (hoff _ (by decide)))]
    exact hbit
  · exact (State.g_congr (hwr A.DRV_RETCAUSE (hoff _ (by decide)))).trans hcause
  · exact (State.rn_congr (hwr A.DRV_CNTRET (hoff _ (by decide)))).trans hcnt

theorem State.announced_shows (s : State) (k io before : Nat) :
    s.announced k io before = { s with flt := (s.announced k io before).flt, mrq := (s.announced k io before).mrq } ∧ (⟨31 + k, .detector, s.power.code⟩ : Raise) ∈ (s.announced k io before).flt.raised ∧
      (.retirement k 1 0 (ones6 s.phSvc) io : PktBody) ∈ (s.announced k io before).mrq.outbox := by
  have hraised : (⟨31 + k, .detector, s.power.code⟩ : Raise) ∈ s.flt.raised ++ [⟨31 + k, .detector, s.power.code⟩] := List.mem_append_right _ (List.mem_singleton.mpr rfl)
  unfold State.announced
  generalize (decide (((s.raise (31 + k)).post (.retirement k 1 0 (ones6 s.phSvc) io)).minPhases ≤ before) && decide (ones6 s.phSvc < ((s.raise (31 + k)).post (.retirement k 1 0 (ones6 s.phSvc) io)).minPhases)) = c
  cases c
  · exact ⟨rfl, hraised, List.mem_append_right _ (List.mem_singleton.mpr rfl)⟩
  · exact ⟨rfl, List.mem_append_left _ hraised, List.mem_append_right _ (List.mem_singleton.mpr rfl)⟩

theorem State.retireAt_one {io : Nat} (h1 : 1 ≤ k) (h6 : k ≤ 6) (hon : s.drvOn = true) (hd : s.drv.det = [⟨k, 1, 0, io⟩]) :
    s.retireAt [k] = ((s.rearranged k io).announced k io (ones6 s.phSvc)).when ((s.rearranged k io).announced k io (ones6 s.phSvc)).strokeActive (fun s => (s.marker 8).setStk (fun x => { x with retire := true })) := by
  have hfil : s.drv.det.filter (fun d => [k].contains d.phase) = [⟨k, 1, 0, io⟩] := by
    rw [hd]
    simp
  rw [← State.retirePhases_one h1 h6 hd]
  unfold State.retireAt
  dsimp only
  rw [hfil, hon]
  rfl

/-- R313, R327: the key with DRIVE off. -/
theorem State.writePhCtl_key (hoff : s.drvOn = false) : s.writePhCtl 0x5E7A#16 = ({ (s.p F.DRV_PHSTAT_RETIRED 0).wr A.DRV_RETCAUSE 0 with drv := { s.drv with det := [] } } : State).trimFollow := by
  unfold State.writePhCtl
  rw [hoff]
  rfl

theorem State.writePhCtl_other {w : Word} (h : s.drvOn = true ∨ w ≠ 0x5E7A#16) : s.writePhCtl w = s := by
  refine if_neg ?_
  rcases h with h | h
  · rw [h, Bool.not_true, Bool.and_false]
    decide
  · rw [decide_eq_false h, Bool.false_and]
    decide

end

/-- Settles O48: shedding, detection, the retirement of a phase and the key that takes all back. -/
theorem drivePhases : Obligations.DrivePhases := by
  refine ⟨fun s dcs hm => ⟨fun h1 h2 h3 => congrArg done (State.shedPhase_sheds hm h1 h2 h3), fun h => congrArg done (State.shedPhase_stays h)⟩,
    fun s dcs k hm hk h1 h2 hlow => ⟨fun hx => congrArg done (State.readdPhase_readds hm hk h1 h2 hlow hx), fun hx => congrArg done (State.readdPhase_stays hx)⟩,
    fun s => ⟨fun h => ?_, fun h => ?_⟩, fun s k io hon ha hd hc hduty hio => ?_, fun s k io h => ?_, fun s k io t hon ha hd hc ht => ?_, fun s k io h => ?_, fun s k io h1 h6 hon hd => ?_, fun s ha hoff => ?_, fun s w h => ?_⟩
  · rw [(exec_drivePhases s 0 0 0 0 [] 0).2.2.1, h]
    rfl
  · rw [(exec_drivePhases s 0 0 0 0 [] 0).2.2.1, h]
    rfl
  · have hopen : s.mayBeOpen k io = true := by rw [State.mayBeOpen, decide_eq_true hduty, decide_eq_true hio, Bool.and_self]
    rw [(exec_drivePhases s k io 0 0 [] 0).2.2.2.1, hopen]
    exact congrArg done (State.detectPhase_open hon ha hd hc)
  · have hopen : s.mayBeOpen k io = false := by
      unfold State.mayBeOpen
      rcases h with h | h
      · rw [decide_eq_false (not_lt.mpr h), Bool.false_and]
      · rw [decide_eq_false (not_lt.mpr h), Bool.and_false]
    rw [(exec_drivePhases s k io 0 0 [] 0).2.2.2.1, hopen]
    rfl
  · have hfail : s.maySenseFail k t = true := by
      unfold State.maySenseFail
      by_cases h : t = 2
      · rw [ht h, Bool.or_true]
      · rw [decide_eq_true h, Bool.true_or]
    rw [(exec_drivePhases s k io t 0 [] 0).2.2.2.2.1, hfail]
    exact congrArg done (State.detectPhase_sense hon ha hd hc)
  · have hfail : s.maySenseFail k 2 = false := by
      rw [State.maySenseFail, h]
      rfl
    rw [(exec_drivePhases s k io 2 0 [] 0).2.2.2.2.1, hfail]
    rfl
  · obtain ⟨hform, hdet, hang, htrim, hbit, hcause, hcnt, hrd⟩ := s.rearranged_shows io h1 h6
    have hex := congrArg done (State.retireAt_one h1 h6 hon hd)
    generalize s.rearranged k io = u at hform hdet hang htrim hbit hcause hcnt hrd hex
    obtain ⟨haf, har, hap⟩ := u.announced_shows k io (ones6 s.phSvc)
    have hpow : u.power = s.power := (congrArg State.power hform).trans rfl
    rw [hpow] at har
    generalize u.announced k io (ones6 s.phSvc) = v at haf har hap hex
    have hvr : ∀ a, v.rd a = u.rd a := fun a => (congrArg (State.rd · a) haf).trans rfl
    have hvd : v.drv = u.drv := (congrArg State.drv haf).trans rfl
    obtain ⟨e, he, her, hed, hef, hem, hes⟩ : ∃ e : State, v.when v.strokeActive (fun s => (s.marker 8).setStk (fun x => { x with retire := true })) = e ∧ (∀ a, offLog a = true → e.rd a = v.rd a) ∧ e.drv = v.drv ∧ e.flt = v.flt ∧ e.mrq = v.mrq ∧
        (v.strokeActive = false → e = v) := by
      cases hact : v.strokeActive
      · exact ⟨v, rfl, fun _ _ => rfl, rfl, rfl, rfl, fun _ => rfl⟩
      · exact ⟨(v.marker 8).setStk (fun x => { x with retire := true }), rfl, (State.LogOf.refl v).marker.rd, State.marker_keeps State.drv (fun _ _ _ => rfl) v 8, State.marker_keeps State.flt (fun _ _ _ => rfl) v 8, State.marker_keeps State.mrq (fun _ _ _ => rfl) v 8,
          fun h => Bool.noConfusion h⟩
    have hur : ∀ a, offLog a = true → e.rd a = u.rd a := fun a h => (her a h).trans (hvr a)
    have hph := State.phases_congr (s := u) (t := e) fun a ha => hur a (by rcases ha with rfl | rfl | rfl <;> decide)
    rw [he] at hex
    refine ⟨e, hex, ?_, ?_, ?_, ?_, ?_, ?_, ?_, ?_, fun hact => ?_⟩
    · rw [hed, hvd, hdet]
    · rw [State.g_congr (f := F.DRV_PHSTAT_RETIRED) (hur _ (by decide))]
      exact hbit
    · exact (State.g_congr (hur A.DRV_RETCAUSE (by decide))).trans hcause
    · rw [hed, hvd, hang, hph.2]
    · rw [hed, hvd, htrim]
    · rw [State.rn_congr (hur A.DRV_CNTRET (by decide)), hcnt]
    · rw [hef]
      exact har
    · rw [hem, hph.1]
      exact hap
    · have hsv : v.strokeActive = s.strokeActive := by
        have hstat : v.rd A.STK_STAT = s.rd A.STK_STAT := (hvr _).trans (hrd _ (by decide) (by decide) (by decide) (by decide))
        unfold State.strokeActive State.preArmed State.strokeRuns
        rw [State.b_congr (f := F.STK_STAT_PREARM) hstat, State.b_congr (f := F.STK_STAT_RUNNING) hstat]
      have hev := hes (hsv.trans hact)
      rw [hev]
      refine ⟨?_, fun a ha hb hc hj => (hvr a).trans (hrd a ha hb hc hj)⟩
      rw [hform] at haf
      have hregs : v.regs = u.regs := (congrArg State.regs haf).trans rfl
      have hdrv : v.drv = u.drv := (congrArg State.drv haf).trans rfl
      rw [hregs, hdrv]
      exact haf
  · rw [(exec_drivePhases s 0 0 0 0 [] _).2.2.2.2.2.2, hostDone_of_hostAlive _ ha, State.writePhCtl_key (s := s.clocked) hoff]
    rfl
  · rw [(exec_drivePhases s 0 0 0 0 [] w).2.2.2.2.2.2]
    exact hostDone_of_unchanged_here (State.writePhCtl_other (s := s.clocked) h)

end Sys2Proof.Machine
end

section
/-! PROOFS. The converter's rounds, injected requests, keys and calibration (R522, R523, R530 to R537). -/
namespace Sys2Proof.Machine

/-! ### Rounds, injected requests and the keys (R522, R523, R532, R535 to R537) -/

section
variable {s : State}

theorem exec_adcKeys (s : State) (w : Word) :
    exec (.adcRoundStart w) s = hostDone s (·.writeAdcCmd w) ∧ exec (.adcInj w) s = hostDone s (·.injWrite w) ∧ exec (.injFlush w) s = hostDone s (·.writeAdcCmd w) ∧ exec (.calZero w) s = hostDone s (·.writeAdcCmd w) ∧
      exec (.calFull w) s = hostDone s (·.writeAdcCmd w) := ⟨rfl, rfl, rfl, rfl, rfl⟩

theorem exec_calibration (s : State) (a b : Nat) :
    exec .calStepStart s = done (s.when s.running State.calStart) ∧ exec (.calStepEnd a b) s = done (s.calEnd a b) ∧ exec .bgCalStart s = done s.bgStart ∧ exec (.bgCalDone a) s = done (s.bgEnd a) := ⟨rfl, rfl, rfl, rfl⟩

theorem State.writeAdcCmd_cases (s : State) :
    s.writeAdcCmd 0xAD01#16 = s.roundStart ∧ s.writeAdcCmd 0xAD02#16 = s.calKey false ∧ s.writeAdcCmd 0xAD03#16 = s.calKey true ∧ s.writeAdcCmd 0xAD04#16 = { s with adc := { s.adc with inj := [], held := [] } } :=
  ⟨rfl, rfl, rfl, rfl⟩

/-- R36: with VIOH the host interface lives in the states with engines. -/
theorem State.hostAlive_running (hr : s.running = true) (hv : s.sup.vioh = true) : s.hostAlive = true := by
  unfold State.hostAlive State.aoOn
  rw [hv, Bool.and_true]
  unfold State.running at hr
  cases hp : s.power <;> rw [hp] at hr <;> first | rfl | exact absurd hr (by decide)

theorem State.roundStart_during (hr : s.running = true) (h : s.adc.round.isSome = true) : s.roundStart = s.p F.ADC_STAT_RNDOVR 1 := by
  unfold State.roundStart
  rw [hr, h]
  rfl

theorem State.roundStart_starts {es : List Nat} (hr : s.running = true) (h : s.adc.round = none) (hn : s.g F.ADC_CFG_SEQLEN ≤ 32)
    (hes : es = (List.range (s.g F.ADC_CFG_SEQLEN)).filter (fun k => (s.power ≠ .watch || s.b (F.ADC_SEQ_WATCH k)) && s.adc.rounds % 4 ^ s.g (F.ADC_SEQ_DIV k) = 0)) (hne : es ≠ []) :
    s.roundStart = { s with adc := { s.adc with round := some es, conv := [] } } := by
  have hlen : s.seqLen = (s.g F.ADC_CFG_SEQLEN, s) := if_pos hn
  have hgo : ∀ t : State, t.adc.round ≠ some [] → t.roundEnd = t := fun t ht => if_neg (by rw [decide_eq_false ht]; simp)
  unfold State.roundStart
  rw [hr, h, hlen]
  dsimp only
  rw [← hes]
  exact hgo { s with adc := { s.adc with round := some es, conv := [] } } fun he => hne (Option.some.inj he)

theorem State.inject_cases (hr : s.running = true) (ch navg : Nat) :
    (s.injPend < 4 → s.calBusy = false → s.inject ch navg true = { s with adc := { s.adc with inj := s.adc.inj ++ [(ch, navg, true)] } }) ∧
    (s.injPend < 4 → s.calBusy = true → s.inject ch navg true = { s with adc := { s.adc with held := s.adc.held ++ [(ch, navg, true)] } }) ∧
    (4 ≤ s.injPend → s.inject ch navg true = s.p F.ADC_STAT_INJOVF 1) := by
  unfold State.inject
  rw [hr, if_neg (by decide)]
  refine ⟨fun h hb => ?_, fun h hb => ?_, fun h => if_pos h⟩
  · rw [if_neg (by omega), hb]
    rfl
  · rw [if_neg (by omega), hb]
    rfl

theorem State.injWrite_key {w : Word} (h : F.ADC_INJ_KEY.get w = 9) : s.injWrite w = s.inject (F.ADC_INJ_CH.get w) (F.ADC_INJ_NAVG.get w) true := if_pos h

theorem State.calKey_taken (full : Bool) (hr : s.running = true) (hb : s.calBusy = false) (hg : s.b F.ADC_CFG_BGCAL = false) : s.calKey full = { s.p F.ADC_CALSTAT_PEND 1 with adc := { s.adc with calFull := full } } := by
  unfold State.calKey
  rw [hr, hb, hg]
  rfl

theorem State.calKey_ignored (full : Bool) (hr : s.running = true) (h : s.calBusy = true ∨ s.b F.ADC_CFG_BGCAL = true) : s.calKey full = s.p F.ADC_CALSTAT_IGN 1 := by
  unfold State.calKey
  rw [hr, if_neg (by decide)]
  exact if_pos (by rw [Bool.or_eq_true]; exact h)

/-! ### Calibration (R530 to R533) -/

theorem State.calStart_starts (hp : s.b F.ADC_CALSTAT_PEND = true) (h0 : s.sliceFree 0 = true) (h1 : s.sliceFree 1 = true) (hi : s.adc.inj = []) (ha : (s.adc.avgs.any (fun v => decide (v.src ≠ .round))) = false) :
    s.calStart = (({ s with adc := { s.adc with slices := (s.adc.slices.set 0 (some .cal)).set 1 (some .cal) } } : State).p F.ADC_CALSTAT_PEND 0).p F.ADC_CALSTAT_RUN 1 := by
  unfold State.calStart
  rw [hp, h0, h1, hi, ha]
  rfl

theorem State.calStart_waits (h : s.sliceFree 0 = false ∨ s.sliceFree 1 = false ∨ s.adc.inj ≠ []) : s.calStart = s := by
  refine if_neg ?_
  rcases h with h | h | h
  · simp [h]
  · simp [h]
  · simp [h]

/-- R532: what ends with the step. -/
def State.calEnded (s : State) (last : Nat) : State :=
  ((((s.p F.ADC_CALSTAT_RUN 0).p F.ADC_CALSTAT_CALDONE 1).p F.ADC_CALSTAT_LAST last).setSlice 0 none).setSlice 1 none |>.setAdc (fun x => { x with inj := x.inj ++ x.held, held := [] })

theorem State.calEnded_shows (s : State) {last : Nat} (hl : last < 4) :
    s.calEnded last = { s with regs := (s.calEnded last).regs, adc := { s.adc with slices := (s.adc.slices.set 0 none).set 1 none, inj := s.adc.inj ++ s.adc.held, held := [] } } ∧ (∀ a, a ≠ A.ADC_CALSTAT → (s.calEnded last).rd a = s.rd a) ∧
      (s.calEnded last).b F.ADC_CALSTAT_RUN = false ∧ (s.calEnded last).b F.ADC_CALSTAT_CALDONE = true ∧ (s.calEnded last).b F.ADC_CALSTAT_ZDONE = s.b F.ADC_CALSTAT_ZDONE ∧ (s.calEnded last).g F.ADC_CALSTAT_LAST = last := by
  have hrd : ∀ a, (s.calEnded last).rd a = (((s.p F.ADC_CALSTAT_RUN 0).p F.ADC_CALSTAT_CALDONE 1).p F.ADC_CALSTAT_LAST last).rd a := fun _ => rfl
  refine ⟨rfl, fun a h => ?_, ?_, ?_, ?_, ?_⟩
  · rw [hrd, State.rd_p_ne _ _ h, State.rd_p_ne _ _ h, State.rd_p_ne _ _ h]
  · rw [State.b_congr (hrd _), State.b_p_beside _ _ (by decide) (by decide), State.b_p_beside _ _ (by decide) (by decide)]
    exact s.b_pb_same F.ADC_CALSTAT_RUN false (by decide) rfl
  · rw [State.b_congr (hrd _), State.b_p_beside _ _ (by decide) (by decide)]
    exact State.b_p_one _ _ (by decide) rfl
  · rw [State.b_congr (hrd _), State.b_p_beside _ _ (by decide) (by decide), State.b_p_beside _ _ (by decide) (by decide), State.b_p_beside _ _ (by decide) (by decide)]
  · rw [State.g_congr (hrd _), State.g_p_same _ _ _ (by decide)]
    exact Nat.mod_eq_of_lt hl

theorem State.calEnd_zero (a b : Nat) (hr : s.b F.ADC_CALSTAT_RUN = true) (hf : s.adc.calFull = false) :
    s.calEnd a b = (({ s with adc := { s.adc with zero := some ((a : Rat) / 4, (b : Rat) / 4) } } : State).p F.ADC_CALSTAT_ZDONE 1).calEnded 1 := by
  unfold State.calEnd
  rw [hr, hf]
  rfl

/-- R531: the coefficients that a step at full scale writes. -/
def State.coefWritten (s : State) (za zb : Rat) (ga gb : Nat) : State :=
  (((s.wi (A.ADC_COEF 0) (clamp (-32768) 32767 (nearR za))).wn (A.ADC_COEF 1) ga).wi (A.ADC_COEF 2) (clamp (-32768) 32767 (nearR zb))).wn (A.ADC_COEF 3) gb

theorem State.calEnd_full {a b : Nat} {za zb : Rat} (hr : s.b F.ADC_CALSTAT_RUN = true) (hf : s.adc.calFull = true) (hz : s.adc.zero = some (za, zb)) (ha : (a : Rat) / 4 ≠ za) (hb : (b : Rat) / 4 ≠ zb) :
    s.calEnd a b = (s.coefWritten za zb (clamp 0 65535 (nearR ((32768 * s.rn A.ADC_CALREF : Nat) / ((a : Rat) / 4 - za)))).toNat (clamp 0 65535 (nearR ((32768 * s.rn A.ADC_CALREF : Nat) / ((b : Rat) / 4 - zb)))).toNat).calEnded 2 := by
  have hga : s.calGain ((a : Rat) / 4) za = ((clamp 0 65535 (nearR ((32768 * s.rn A.ADC_CALREF : Nat) / ((a : Rat) / 4 - za)))).toNat, s) := if_neg ha
  have hgb : s.calGain ((b : Rat) / 4) zb = ((clamp 0 65535 (nearR ((32768 * s.rn A.ADC_CALREF : Nat) / ((b : Rat) / 4 - zb)))).toNat, s) := if_neg hb
  unfold State.calEnd
  rw [hr, hf, hz]
  simp only [Option.getD_some, hga, hgb, if_true]
  rfl

theorem clamp_bounds {lo hi : Int} (v : Int) (h : lo ≤ hi) : lo ≤ clamp lo hi v ∧ clamp lo hi v ≤ hi := by
  unfold clamp
  split
  · omega
  · split <;> omega

theorem State.ri_wi_clamp (s : State) (a : Nat) (v : Int) : (s.wi a (clamp (-32768) 32767 v)).ri a = clamp (-32768) 32767 v := by
  obtain ⟨hlo, hhi⟩ := clamp_bounds v (show (-32768 : Int) ≤ 32767 by decide)
  unfold State.ri State.wi
  rw [State.rd_wr_same, BitVec.toInt_ofInt]
  exact Int.bmod_eq_of_le (by omega) (by omega)

theorem State.rn_wn_clamp (s : State) (a : Nat) (v : Int) : ((s.wn a (clamp 0 65535 v).toNat).rn a : Int) = clamp 0 65535 v := by
  obtain ⟨hlo, hhi⟩ := clamp_bounds v (show (0 : Int) ≤ 65535 by decide)
  have hv := State.rn_wn_same s a (clamp 0 65535 v).toNat
  omega

theorem State.ri_congr {t : State} {a : Nat} (h : t.rd a = s.rd a) : t.ri a = s.ri a := congrArg BitVec.toInt h

theorem State.rd_wi_ne (s : State) {a b : Nat} (v : Int) (h : a ≠ b) : (s.wi b v).rd a = s.rd a := State.rd_wr_ne s _ h

theorem State.coefWritten_shows (s : State) (za zb : Rat) (x y : Int) :
    (∀ a, (∀ k, k < 4 → a ≠ A.ADC_COEF k) → (s.coefWritten za zb (clamp 0 65535 x).toNat (clamp 0 65535 y).toNat).rd a = s.rd a) ∧
      (s.coefWritten za zb (clamp 0 65535 x).toNat (clamp 0 65535 y).toNat).ri (A.ADC_COEF 0) = clamp (-32768) 32767 (nearR za) ∧
      (s.coefWritten za zb (clamp 0 65535 x).toNat (clamp 0 65535 y).toNat).ri (A.ADC_COEF 2) = clamp (-32768) 32767 (nearR zb) ∧
      ((s.coefWritten za zb (clamp 0 65535 x).toNat (clamp 0 65535 y).toNat).rn (A.ADC_COEF 1) : Int) = clamp 0 65535 x ∧
      ((s.coefWritten za zb (clamp 0 65535 x).toNat (clamp 0 65535 y).toNat).rn (A.ADC_COEF 3) : Int) = clamp 0 65535 y := by
  unfold State.coefWritten
  refine ⟨fun a h => ?_, ?_, ?_, ?_, State.rn_wn_clamp _ _ _⟩
  · rw [State.rd_wn_ne _ _ (h 3 (by decide)), State.rd_wi_ne _ _ (h 2 (by decide)), State.rd_wn_ne _ _ (h 1 (by decide)), State.rd_wi_ne _ _ (h 0 (by decide))]
  · rw [State.ri_congr (State.rd_wn_ne _ _ (by decide)), State.ri_congr (State.rd_wi_ne _ _ (by decide)), State.ri_congr (State.rd_wn_ne _ _ (by decide)), State.ri_wi_clamp]
  · rw [State.ri_congr (State.rd_wn_ne _ _ (by decide)), State.ri_wi_clamp]
  · rw [State.rn_congr (State.rd_wn_ne _ _ (by decide)), State.rn_congr (State.rd_wi_ne _ _ (by decide)), State.rn_wn_clamp]

theorem State.bgStart_starts (hr : s.running = true) (hb : s.b F.ADC_CFG_BGCAL = true) (hz : s.g F.ADC_STAT_BGSLICE = 0) (hf : s.sliceFree s.adc.bgNext = true) :
    s.bgStart = ({ s with adc := { s.adc with slices := s.adc.slices.set s.adc.bgNext (some .bg), bgNext := (s.adc.bgNext + 1) % 3 } } : State).p F.ADC_STAT_BGSLICE (s.adc.bgNext + 1) := by
  have hc : (s.running && s.b F.ADC_CFG_BGCAL && decide (s.g F.ADC_STAT_BGSLICE = 0) && s.sliceFree s.adc.bgNext) = true := by
    rw [hr, hb, hz, hf]
    rfl
  exact if_pos hc

theorem State.bgStart_busy (hf : s.sliceFree s.adc.bgNext = false) : s.bgStart = s := if_neg (by rw [hf, Bool.and_false]; decide)

/-- R533: the end of a background calibration. -/
theorem State.bgEnd_ends {k : Nat} (sum : Nat) (h : s.g F.ADC_STAT_BGSLICE = k + 1) :
    ∃ g, s.bgEnd sum = (((({ s with adc := { s.adc with slices := s.adc.slices.set k none }, freeCtr := s.freeCtr + 1 } : State).wi (A.ADC_COEF (2 * k)) (clamp (-32768) 32767 (nearR ((sum : Rat) / 4)))).wn (A.ADC_COEF (2 * k + 1)) g).p F.ADC_STAT_BGSLICE 0) := by
  unfold State.bgEnd
  rw [h]
  exact ⟨_, rfl⟩

end

/-- Settles O58: each key, each step and each request with its effect. -/
theorem adcRequestsAndCalibration : Obligations.AdcRequestsAndCalibration := by
  refine ⟨fun s hr hv h => ?_, fun s es hr hv h hn hes hne => ?_, fun s w hr hv hk => ⟨fun h hb => ?_, fun h hb => ?_, fun h => ?_⟩, fun s w hk => ?_, fun s ha => ?_, fun s hr hv => ⟨fun hb hg => ⟨?_, ?_⟩, fun h => ⟨?_, ?_⟩⟩,
    fun s hr hp h0 h1 hi ha => ?_, fun s h => ?_, fun s a b hr hf => ?_, fun s a b za zb hr hf hz ha hb => ?_, fun s hr hb hz hlt hf => ?_, fun s hf => congrArg done (State.bgStart_busy hf), fun s k sum h => ?_⟩
  · rw [(exec_adcKeys s _).1, hostDone_of_hostAlive _ (State.hostAlive_running hr hv), s.clocked.writeAdcCmd_cases.1, State.roundStart_during (s := s.clocked) hr h]
  · rw [(exec_adcKeys s _).1, hostDone_of_hostAlive _ (State.hostAlive_running hr hv), s.clocked.writeAdcCmd_cases.1, State.roundStart_starts (s := s.clocked) hr h hn hes hne]
    rfl
  · rw [(exec_adcKeys s w).2.1, hostDone_of_hostAlive _ (State.hostAlive_running hr hv), State.injWrite_key hk, (State.inject_cases (s := s.clocked) hr _ _).1 h hb]
    rfl
  · rw [(exec_adcKeys s w).2.1, hostDone_of_hostAlive _ (State.hostAlive_running hr hv), State.injWrite_key hk, (State.inject_cases (s := s.clocked) hr _ _).2.1 h hb]
    rfl
  · rw [(exec_adcKeys s w).2.1, hostDone_of_hostAlive _ (State.hostAlive_running hr hv), State.injWrite_key hk, (State.inject_cases (s := s.clocked) hr _ _).2.2 h]
  · rw [(exec_adcKeys s w).2.1]
    exact hostDone_of_unchanged s fun t => if_neg hk
  · rw [(exec_adcKeys s _).2.2.1, hostDone_of_hostAlive _ ha, s.clocked.writeAdcCmd_cases.2.2.2]
    rfl
  · rw [(exec_adcKeys s _).2.2.2.1, hostDone_of_hostAlive _ (State.hostAlive_running hr hv), s.clocked.writeAdcCmd_cases.2.1, State.calKey_taken (s := s.clocked) false hr hb hg]
    rfl
  · rw [(exec_adcKeys s _).2.2.2.2, hostDone_of_hostAlive _ (State.hostAlive_running hr hv), s.clocked.writeAdcCmd_cases.2.2.1, State.calKey_taken (s := s.clocked) true hr hb hg]
    rfl
  · rw [(exec_adcKeys s _).2.2.2.1, hostDone_of_hostAlive _ (State.hostAlive_running hr hv), s.clocked.writeAdcCmd_cases.2.1, State.calKey_ignored (s := s.clocked) false hr h]
  · rw [(exec_adcKeys s _).2.2.2.2, hostDone_of_hostAlive _ (State.hostAlive_running hr hv), s.clocked.writeAdcCmd_cases.2.2.1, State.calKey_ignored (s := s.clocked) true hr h]
  · have hex : exec .calStepStart s = done s.calStart := by
      rw [(exec_calibration s 0 0).1, hr]
      rfl
    refine ⟨_, hex.trans (congrArg done (State.calStart_starts hp h0 h1 hi ha)), rfl, fun a h => (State.rd_p_ne _ _ h).trans (State.rd_p_ne _ _ h), State.b_p_one _ F.ADC_CALSTAT_RUN (by decide) rfl, ?_⟩
    exact (State.b_p_beside _ _ (by decide) (by decide)).trans (State.b_pb_same _ F.ADC_CALSTAT_PEND false (by decide) rfl)
  · rw [(exec_calibration s 0 0).1, State.when, State.calStart_waits h, ite_self, done_eq]
  · have hex := congrArg done (State.calEnd_zero a b hr hf)
    generalize hu : ({ s with adc := { s.adc with zero := some ((a : Rat) / 4, (b : Rat) / 4) } } : State).p F.ADC_CALSTAT_ZDONE 1 = u at hex
    obtain ⟨hform, hrd, hrun, hdone, hz, hlast⟩ := u.calEnded_shows (last := 1) (by decide)
    have hur : ∀ x, x ≠ A.ADC_CALSTAT → u.rd x = s.rd x := fun x h => by
      rw [← hu]
      exact State.rd_p_ne _ 1 h
    have huz : u.b F.ADC_CALSTAT_ZDONE = true := by
      rw [← hu]
      exact State.b_p_one _ F.ADC_CALSTAT_ZDONE (by decide) rfl
    refine ⟨u.calEnded 1, hex, ?_, fun x h => (hrd x h).trans (hur x h), hrun, hdone, hz.trans huz, hlast⟩
    rw [hform, ← hu]
    rfl
  · have hex := congrArg done (State.calEnd_full hr hf hz ha hb)
    obtain ⟨hcr, h0, h2, h1, h3⟩ := s.coefWritten_shows za zb (nearR ((32768 * s.rn A.ADC_CALREF : Nat) / ((a : Rat) / 4 - za))) (nearR ((32768 * s.rn A.ADC_CALREF : Nat) / ((b : Rat) / 4 - zb)))
    generalize hu : s.coefWritten za zb _ _ = u at hex hcr h0 h1 h2 h3
    obtain ⟨hform, hrd, hrun, hdone, -, hlast⟩ := u.calEnded_shows (last := 2) (by decide)
    refine ⟨u.calEnded 2, hex, ?_, fun x h hk => (hrd x h).trans (hcr x hk), hrun, hdone, hlast, (State.ri_congr (hrd _ (by decide))).trans h0, (State.ri_congr (hrd _ (by decide))).trans h2, ?_, ?_⟩
    · rw [hform, ← hu]
      rfl
    · rw [State.rn_congr (hrd _ (by decide))]
      exact h1
    · rw [State.rn_congr (hrd _ (by decide))]
      exact h3
  · refine ⟨_, congrArg done (State.bgStart_starts hr hb hz hf), rfl, fun a h => State.rd_p_ne _ _ h, ?_⟩
    exact (State.g_p_same _ F.ADC_STAT_BGSLICE _ (by decide)).trans (Nat.mod_eq_of_lt (show s.adc.bgNext + 1 < 4 by omega))
  · obtain ⟨g, hg⟩ := State.bgEnd_ends sum h
    have hne : A.ADC_COEF (2 * k) ≠ A.ADC_STAT := by show 0x080A + 2 * k ≠ 0x0800; omega
    have hne' : A.ADC_COEF (2 * k) ≠ A.ADC_COEF (2 * k + 1) := by show 0x080A + 2 * k ≠ 0x080A + (2 * k + 1); omega
    refine ⟨_, congrArg done hg, rfl, fun a h1 h2 h3 => (State.rd_p_ne _ _ h1).trans ((State.rd_wn_ne _ _ h3).trans (State.rd_wi_ne _ _ h2)), State.g_p_same _ F.ADC_STAT_BGSLICE 0 (by decide), ?_⟩
    exact (State.ri_congr ((State.rd_p_ne _ _ hne).trans (State.rd_wn_ne _ _ hne'))).trans (State.ri_wi_clamp _ _ _)

end Sys2Proof.Machine
end

section
/-! PROOFS. The converter's conversions, its windows and its paired reads. -/
namespace Sys2Proof.Machine

/-! ### What the converter takes next (R521, R522, R533) -/

section
variable {s : State}

theorem exec_conversions (s : State) (recent : Bool) (st : Option Nat) (k code late c : Nat) :
    exec (.adcConversionStart recent st) s = done (s.when s.running (·.schedule recent st)) ∧ exec (.adcConversionDone k code late) s = done (s.when s.running (·.convDone k code late)) ∧
      exec (.adcResLoRead c) s = done (s.readOne (A.ADC_RES (2 * c))) ∧ exec (.adcResHiRead c) s = done (s.readOne (A.ADC_RES (2 * c + 1))) := ⟨rfl, rfl, rfl, rfl⟩

/-- R521: with a place free and neither a step running nor a burst due. -/
theorem State.schedule_free {k : Nat} (recent : Bool) (st : Option Nat) (hk : s.freePlace = some k) (hr : s.b F.ADC_CALSTAT_RUN = false) (hb : s.stk.burstLeft = 0) :
    s.schedule recent st = match s.adc.inj with
      | (ch, navg, host) :: r => (s.setAdc (fun a => { a with inj := r })).startAvg k (if host then .host else .engine) ch navg recent
      | [] =>
        match st.filter s.streamMay with
        | some i => s.setSlice k (some (.stream i (s.coefOfs k) (s.coefGain k) s.cbNow))
        | none => s.roundNext k recent := by
  unfold State.schedule
  rw [hk, hr, hb]
  simp only [Bool.false_eq_true, if_false, ne_eq, not_true_eq_false, decide_false, Bool.false_and] <;> rfl

theorem State.schedule_stays (recent : Bool) (st : Option Nat) (h : s.freePlace = none ∨ s.b F.ADC_CALSTAT_RUN = true) : s.schedule recent st = s := by
  unfold State.schedule
  rcases h with h | h
  · rw [h]
  · rw [h]
    cases s.freePlace <;> rfl

/-- R525, R531: a new average takes a slice, its key, and the coefficients of its start. -/
theorem State.startAvg_eq (s : State) (k : Nat) (src : AdcSrc) (ch navg : Nat) (recent : Bool) :
    s.startAvg k src ch navg recent = { s with adc := { s.adc with
      slices := s.adc.slices.set k (some (.conv s.adc.key (s.coefOfs k) (s.coefGain k) s.cbNow)), key := s.adc.key + 1,
      avgs := (s.adc.avgs ++ [(⟨s.adc.key, src, ch, navg, 2 ^ navg, [], recent⟩ : AdcAvg)]).map (fun v : AdcAvg => if v.key = s.adc.key then { v with left := v.left - 1 } else v) } } := rfl

theorem State.startAvg_first (s : State) (src : AdcSrc) (ch navg : Nat) (recent : Bool) (hs : s.adc.slices = [none, none, none]) (ha : s.adc.avgs = []) :
    s.startAvg 0 src ch navg recent = { s with adc := { s.adc with
      slices := [some (.conv s.adc.key (s.coefOfs 0) (s.coefGain 0) s.cbNow), none, none], key := s.adc.key + 1, avgs := [⟨s.adc.key, src, ch, navg, 2 ^ navg - 1, [], recent⟩] } } := by
  rw [State.startAvg_eq, hs, ha]
  simp

theorem State.startConv_only (s : State) (k : Nat) {v : AdcAvg} (ha : s.adc.avgs = [v]) :
    s.startConv k v.key = { s with adc := { s.adc with slices := s.adc.slices.set k (some (.conv v.key (s.coefOfs k) (s.coefGain k) s.cbNow)), avgs := [{ v with left := v.left - 1 }] } } := by
  show ({ s with adc := { s.adc with slices := _, avgs := s.adc.avgs.map _ } } : State) = _
  rw [ha]
  simp only [List.map_cons, List.map_nil, if_true]
  rfl

theorem State.standIn_free (hb : s.g F.ADC_STAT_BGSLICE = 0) (h2 : s.sliceFree 2 = true) : s.places = (0, 1) := by
  unfold State.places State.standIn
  rw [hb, h2]
  rfl

theorem State.freePlace_all (hs : s.adc.slices = [none, none, none]) (hb : s.g F.ADC_STAT_BGSLICE = 0) : s.freePlace = some 0 := by
  have hf : ∀ k, k < 3 → s.sliceFree k = true := fun k hk => by
    unfold State.sliceFree
    rw [hs]
    rcases (by omega : k = 0 ∨ k = 1 ∨ k = 2) with rfl | rfl | rfl <;> rfl
  unfold State.freePlace
  rw [State.standIn_free hb (hf 2 (by decide))]
  exact if_pos (hf 0 (by decide))

/-- R533: while A or B is under background calibration, S serves in its place. -/
theorem State.freePlace_standIn (h : (∃ a, s.adc.slices = [some .bg, a, none]) ∧ s.g F.ADC_STAT_BGSLICE = 1 ∨ (∃ j, s.adc.slices = [some j, some .bg, none]) ∧ s.g F.ADC_STAT_BGSLICE = 2) : s.freePlace = some 2 := by
  unfold State.freePlace State.places State.standIn State.sliceFree
  rcases h with ⟨⟨a, hs⟩, hb⟩ | ⟨⟨j, hs⟩, hb⟩
  · rw [hb, hs]
    rfl
  · rw [hb, hs]
    rfl

/-- R521: an injected request has precedence. -/
theorem State.schedule_injected {k ch n : Nat} {host : Bool} {r : List (Nat × Nat × Bool)} (recent : Bool) (st : Option Nat) (hk : s.freePlace = some k) (hr : s.b F.ADC_CALSTAT_RUN = false) (hb : s.stk.burstLeft = 0)
    (hi : s.adc.inj = (ch, n, host) :: r) :
    ∃ e, s.schedule recent st = e ∧ e = { s with adc := { s.adc with inj := r, slices := s.adc.slices.set k (some (.conv s.adc.key (s.coefOfs k) (s.coefGain k) s.cbNow)), key := s.adc.key + 1, avgs := e.adc.avgs } } ∧
      e.adc.avgs.length = s.adc.avgs.length + 1 := by
  refine ⟨_, State.schedule_free recent st hk hr hb, ?_⟩
  rw [hi]
  dsimp only
  rw [State.startAvg_eq]
  refine ⟨rfl, ?_⟩
  show ((s.adc.avgs ++ [_]).map _).length = _
  rw [List.length_map, List.length_append]
  rfl

/-! ### Results (R525, R526) -/

theorem State.sliceBelow {k : Nat} {j : SliceJob} (hl : s.adc.slices.length = 3) (h : s.adc.slices.getD k none = some j) : k < 3 := by
  by_contra hk
  rw [List.getD_eq_default _ _ (by omega)] at h
  cases h

/-- R525: a conversion of the only average in progress. -/
theorem State.convDone_conv {k key ch navg left : Nat} {o g cb : Int} {vals : List (Nat × Rat)} {fr : Bool} (code late : Nat) (hs : s.adc.slices.getD k none = some (.conv key o g cb))
    (ha : s.adc.avgs = [⟨key, .host, ch, navg, left, vals, fr⟩]) :
    s.convDone k code late =
      let t : State := { s with adc := { s.adc with slices := s.adc.slices.set k none, avgs := [⟨key, .host, ch, navg, left, vals ++ [(k, corrected code o g cb)], fr⟩] } }
      if vals.length + 1 = 2 ^ navg then t.avgDone ⟨key, .host, ch, navg, left, vals ++ [(k, corrected code o g cb)], fr⟩
      else if left ≠ 0 then t.startConv k key else t := by
  unfold State.convDone
  rw [hs]
  dsimp only
  have hmap : ((s.setSlice k none).setAdc (fun a => { a with avgs := a.avgs.map (fun v => if v.key = key then { v with vals := v.vals ++ [(k, corrected code o g cb)] } else v) })) =
      { s with adc := { s.adc with slices := s.adc.slices.set k none, avgs := [⟨key, .host, ch, navg, left, vals ++ [(k, corrected code o g cb)], fr⟩] } } := by
    show ({ s with adc := { s.adc with slices := s.adc.slices.set k none, avgs := s.adc.avgs.map _ } } : State) = _
    rw [ha]
    simp
  rw [hmap]
  dsimp only
  simp


/-! ### The windows (R529) -/

/-- R529: whether the result of window k's channel lies outside it. -/
def State.winOutside (s : State) (k : Nat) : Bool :=
  if chBipolar (s.g (F.ADC_WINCFG_CH k))
    then decide (s.ri (A.ADC_RES (2 * s.g (F.ADC_WINCFG_CH k))) < s.ri (A.ADC_WINLO k)) || decide (s.ri (A.ADC_WINHI k) < s.ri (A.ADC_RES (2 * s.g (F.ADC_WINCFG_CH k))))
    else decide (s.rn (A.ADC_RES (2 * s.g (F.ADC_WINCFG_CH k))) < s.rn (A.ADC_WINLO k)) || decide (s.rn (A.ADC_WINHI k) < s.rn (A.ADC_RES (2 * s.g (F.ADC_WINCFG_CH k))))

/-- R529: the results in a row that disagree with window k's state. -/
def State.winRun (s : State) (k : Nat) : Nat := if s.winOutside k = s.winOut k then 0 else s.adc.winCnt.getD k 0 + 1

/-- R529: whether these are enough to change it. -/
def State.winTurns (s : State) (k : Nat) : Bool := decide (s.g (F.ADC_WINCFG_CNT k) + 1 ≤ s.winRun k)

theorem State.winJudge_eq (s : State) (k : Nat) : s.winJudge k =
    if s.winTurns k then
      ((s.setAdc (fun a => { a with winCnt := a.winCnt.set k 0 })).pbit A.ADC_WINSTAT k (s.winOutside k)).when (s.winOutside k) (·.pbit A.ADC_WINSTAT (8 + k) true)
    else s.setAdc (fun a => { a with winCnt := a.winCnt.set k (s.winRun k) }) := rfl

theorem State.winJudge_form (s : State) (k : Nat) : s.winJudge k = { s with regs := (s.winJudge k).regs, adc := { s.adc with winCnt := (s.winJudge k).adc.winCnt } } := by
  rw [State.winJudge_eq]
  split
  · cases s.winOutside k <;> rfl
  · rfl

theorem State.winJudge_winCnt (s : State) (k : Nat) : (s.winJudge k).adc.winCnt = s.adc.winCnt.set k (if s.winTurns k then 0 else s.winRun k) := by
  rw [State.winJudge_eq]
  split
  · cases s.winOutside k <;> rfl
  · rfl

theorem State.rd_winJudge_ne (s : State) {a : Nat} (k : Nat) (h : a ≠ A.ADC_WINSTAT) : (s.winJudge k).rd a = s.rd a := by
  rw [State.winJudge_eq]
  split
  · cases s.winOutside k
    · exact State.rd_pbit_ne _ _ _ h
    · exact (State.rd_pbit_ne _ _ _ h).trans (State.rd_pbit_ne _ _ _ h)
  · rfl

/-- A judgement touches no bit of another window. -/
theorem State.bit_winJudge_ne (s : State) {j k : Nat} (hk : k < 8) (h1 : j ≠ k) (h2 : j ≠ 8 + k) : (s.winJudge k).bit A.ADC_WINSTAT j = s.bit A.ADC_WINSTAT j := by
  rw [State.winJudge_eq]
  split
  · cases s.winOutside k
    · exact State.bit_pbit_ne _ _ (by omega) (.inr h1)
    · exact (State.bit_pbit_ne _ _ (by omega) (.inr h2)).trans (State.bit_pbit_ne _ _ (by omega) (.inr h1))
  · rfl

/-- R529: the state of the window after its judgement, and its latch. -/
theorem State.bit_winJudge_same (s : State) {k : Nat} (hk : k < 8) :
    (s.winJudge k).winOut k = (if s.winTurns k then s.winOutside k else s.winOut k) ∧
      (s.winJudge k).bit A.ADC_WINSTAT (8 + k) = (s.bit A.ADC_WINSTAT (8 + k) || (s.winTurns k && s.winOutside k)) := by
  rw [State.winJudge_eq]
  cases s.winTurns k
  · exact ⟨rfl, (Bool.or_false _).symm⟩
  · cases s.winOutside k
    · exact ⟨State.bit_pbit_same _ _ _ (by omega), (State.bit_pbit_ne _ _ (by omega) (.inr (by omega))).trans (Bool.or_false _).symm⟩
    · exact ⟨(State.bit_pbit_ne _ _ (by omega) (.inr (by omega))).trans (State.bit_pbit_same _ _ _ (by omega)), (State.bit_pbit_same _ _ _ (by omega)).trans (Bool.or_true _).symm⟩

/-- Two states that agree in all that window w's judgement reads and writes. -/
structure State.SameWindow (w : Nat) (s t : State) : Prop where
  reads : ∀ a, a ≠ A.ADC_WINSTAT → t.rd a = s.rd a
  out : t.winOut w = s.winOut w
  latch : t.bit A.ADC_WINSTAT (8 + w) = s.bit A.ADC_WINSTAT (8 + w)
  count : t.adc.winCnt.getD w 0 = s.adc.winCnt.getD w 0
  counts : t.adc.winCnt.length = s.adc.winCnt.length

theorem State.SameWindow.other {w k : Nat} {t : State} (h : s.SameWindow w t) (hw : w < 8) (hk : k < 8) (hne : w ≠ k) : s.SameWindow w (t.winJudge k) where
  reads a ha := (t.rd_winJudge_ne k ha).trans (h.reads a ha)
  out := (t.bit_winJudge_ne hk hne (by omega)).trans h.out
  latch := (t.bit_winJudge_ne hk (by omega) (by omega)).trans h.latch
  count := by
    rw [State.winJudge_winCnt, List.getD_eq_getElem?_getD, List.getElem?_set_ne hne.symm, ← List.getD_eq_getElem?_getD]
    exact h.count
  counts := by
    rw [State.winJudge_winCnt, List.length_set]
    exact h.counts

theorem State.SameWindow.others {w : Nat} (hw : w < 8) : ∀ (l : List Nat) {t : State}, (∀ k ∈ l, k < 8 ∧ w ≠ k) → s.SameWindow w t → s.SameWindow w (t.each l State.winJudge)
  | [], _, _, h => h
  | k :: l, _, hl, h =>
    have hk := hl k (List.mem_cons_self ..)
    State.SameWindow.others hw l (fun j hj => hl j (List.mem_cons_of_mem _ hj)) (h.other hw hk.1 hk.2)

theorem winAddr_ne {w : Nat} (hw : w < 8) (c : Nat) : A.ADC_WINCFG w ≠ A.ADC_WINSTAT ∧ A.ADC_WINLO w ≠ A.ADC_WINSTAT ∧ A.ADC_WINHI w ≠ A.ADC_WINSTAT ∧ A.ADC_RES c ≠ A.ADC_WINSTAT := by
  refine ⟨?_, ?_, ?_, ?_⟩
  · show 0x0840 + 4 * w ≠ 0x0860
    omega
  · show 0x0841 + 4 * w ≠ 0x0860
    omega
  · show 0x0842 + 4 * w ≠ 0x0860
    omega
  · show 0x0880 + c ≠ 0x0860
    omega

theorem State.winOutside_congr {w : Nat} {t : State} (h : ∀ a, a ≠ A.ADC_WINSTAT → t.rd a = s.rd a) (hw : w < 8) : t.winOutside w = s.winOutside w := by
  obtain ⟨hcfg, hlo, hhi, -⟩ := winAddr_ne hw 0
  have hres := fun c => (winAddr_ne hw (2 * c)).2.2.2
  have hch : t.g (F.ADC_WINCFG_CH w) = s.g (F.ADC_WINCFG_CH w) := State.g_congr (h _ hcfg)
  unfold State.winOutside
  rw [hch, State.ri_congr (h _ (hres _)), State.ri_congr (h _ hlo), State.ri_congr (h _ hhi), State.rn_congr (h _ (hres _)), State.rn_congr (h _ hlo), State.rn_congr (h _ hhi)]

theorem State.SameWindow.judged {w : Nat} {t : State} (h : s.SameWindow w t) (hw : w < 8) : (s.winJudge w).SameWindow w (t.winJudge w) := by
  have hout : t.winOutside w = s.winOutside w := State.winOutside_congr h.reads hw
  have hrun : t.winRun w = s.winRun w := by
    unfold State.winRun
    rw [hout, h.out, h.count]
  have hturn : t.winTurns w = s.winTurns w := by
    unfold State.winTurns
    rw [hrun, State.g_congr (h.reads _ (winAddr_ne hw 0).1)]
  constructor
  case reads => exact fun a ha => (t.rd_winJudge_ne w ha).trans ((h.reads a ha).trans (s.rd_winJudge_ne w ha).symm)
  case out => rw [(t.bit_winJudge_same hw).1, (s.bit_winJudge_same hw).1, hout, hturn, h.out]
  case latch => rw [(t.bit_winJudge_same hw).2, (s.bit_winJudge_same hw).2, hout, hturn, h.latch]
  case count =>
    rw [State.winJudge_winCnt, State.winJudge_winCnt, hturn, hrun]
    simp only [List.getD_eq_getElem?_getD, List.getElem?_set_self', Option.map_eq_map]
    have hc := h.counts
    by_cases hl : w < s.adc.winCnt.length
    · rw [List.getElem?_eq_getElem hl, List.getElem?_eq_getElem (hc ▸ hl)]
      rfl
    · rw [List.getElem?_eq_none (by omega), List.getElem?_eq_none (by omega)]
  case counts =>
    rw [State.winJudge_winCnt, State.winJudge_winCnt, List.length_set, List.length_set]
    exact h.counts

/-- R529: each window of a list is judged as if it were alone. -/
theorem State.each_winJudge_mem {l : List Nat} {w : Nat} (hl : l.Nodup) (h8 : ∀ k ∈ l, k < 8) (hw : w ∈ l) : (s.winJudge w).SameWindow w (s.each l State.winJudge) := by
  have hself : ∀ t : State, t.SameWindow w t := fun _ => ⟨fun _ _ => rfl, rfl, rfl, rfl, rfl⟩
  obtain ⟨l1, l2, rfl⟩ := List.append_of_mem hw
  have hne : ∀ k ∈ l1 ++ l2, k < 8 ∧ w ≠ k := by
    have hmid := List.nodup_middle.mp hl
    intro k hk
    refine ⟨h8 k ?_, fun e => (List.nodup_cons.mp hmid).1 (e ▸ hk)⟩
    rcases List.mem_append.mp hk with hk | hk
    · exact List.mem_append_left _ hk
    · exact List.mem_append_right _ (List.mem_cons_of_mem _ hk)
  have heach : s.each (l1 ++ w :: l2) State.winJudge = ((s.each l1 State.winJudge).winJudge w).each l2 State.winJudge := by
    unfold State.each
    rw [List.foldl_append]
    rfl
  rw [heach]
  exact State.SameWindow.others (h8 w hw) l2 (fun k hk => hne k (List.mem_append_right _ hk)) ((State.SameWindow.others (h8 w hw) l1 (fun k hk => hne k (List.mem_append_left _ hk)) (hself s)).judged (h8 w hw))

theorem State.each_winJudge_form (l : List Nat) : ∀ s : State, s.each l State.winJudge = { s with regs := (s.each l State.winJudge).regs, adc := { s.adc with winCnt := (s.each l State.winJudge).adc.winCnt } } := by
  induction l with
  | nil => exact fun _ => rfl
  | cons k l ih =>
    intro s
    have h := ih (s.winJudge k)
    have hk := s.winJudge_form k
    rw [State.each_cons]
    generalize (s.winJudge k).each l State.winJudge = u at h ⊢
    rw [hk] at h
    exact h

theorem State.rd_each_winJudge (s : State) {a : Nat} (l : List Nat) (h : a ≠ A.ADC_WINSTAT) : (s.each l State.winJudge).rd a = s.rd a := State.each_keeps (fun t => t.rd a) (fun t k => t.rd_winJudge_ne k h) l s


/-! ### The end of an average (R525, R526) -/

/-- R525: the mean of an average, as its result word. -/
def AdcAvg.result (v : AdcAvg) : Int := resWord v.ch ((v.vals.foldl (fun a x => a + x.2) 0) / (v.vals.length : Rat))

/-- R526: the slice that an average names: its only one, or 3. -/
def AdcAvg.slice (v : AdcAvg) : Nat :=
  match v.vals with
  | [] => 3
  | x :: r => if r.all (·.1 = x.1) then x.1 else 3

/-- R526: the second word of a host's result, before its windows. -/
def State.resHi (s : State) (v : AdcAvg) : Nat := 4096 * ((s.rn (A.ADC_RES (2 * v.ch + 1)) / 4096 + 1) % 16) + 2048 + 512 * v.slice + 256 + v.navg

/-- R525, R526: the two words of a host's result. -/
def State.stored (s : State) (v : AdcAvg) : State := (s.wi (A.ADC_RES (2 * v.ch)) v.result).wn (A.ADC_RES (2 * v.ch + 1)) (s.resHi v)

/-- R529: the windows on the channel have judged the result. -/
def State.windowed (s : State) (v : AdcAvg) : State := (s.stored v).each (s.winsOn v.ch) State.winJudge

theorem State.winsOn_stored (s : State) (v : AdcAvg) : (s.stored v).winsOn v.ch = s.winsOn v.ch := by
  have hcfg : ∀ k, k < 8 → (s.stored v).rd (A.ADC_WINCFG k) = s.rd (A.ADC_WINCFG k) := fun k hk => by
    have hne : ∀ c, A.ADC_WINCFG k ≠ A.ADC_RES c := fun c => by
      show 0x0840 + 4 * k ≠ 0x0880 + c
      omega
    exact (State.rd_wn_ne _ _ (hne _)).trans (State.rd_wi_ne _ _ (hne _))
  exact List.filter_congr fun k hk => by
    have h := hcfg k (List.mem_range.mp hk)
    rw [State.b_congr (f := F.ADC_WINCFG_EN k) h, State.g_congr (f := F.ADC_WINCFG_CH k) h]

theorem State.avgDone_host {v : AdcAvg} (hsrc : v.src = .host) (hr : chReserved v.ch = false) (h46 : v.ch ≠ 46) :
    s.avgDone v = (((s.windowed v).pbit (A.ADC_RES (2 * v.ch + 1)) 7 ((s.winsOn v.ch).any (s.windowed v).winOut)).setAdc (fun x => { x with avgs := x.avgs.filter (·.key ≠ v.key) })).wn A.ADC_INJSTAT
      (32768 + 4096 * v.navg + 1024 + v.ch) := by
  unfold State.windowed
  rw [← s.winsOn_stored v]
  unfold State.avgDone
  rw [hr, hsrc]
  simp only [Bool.false_eq_true, if_false, State.when_false, decide_eq_false h46, reduceCtorEq, decide_false, Bool.false_and, if_true]
  rfl


theorem State.winTurns_eq (s : State) (k : Nat) : s.winTurns k = (decide (s.winOutside k ≠ s.winOut k) && decide (s.g (F.ADC_WINCFG_CNT k) ≤ s.adc.winCnt.getD k 0)) := by
  unfold State.winTurns State.winRun
  split
  case isTrue h => simp [h]
  case isFalse h => simp [h]

theorem State.winsOn_nodup (s : State) (c : Nat) : (s.winsOn c).Nodup := List.nodup_range.filter _

theorem State.mem_winsOn {w c : Nat} (h : w ∈ s.winsOn c) : w < 8 ∧ s.g (F.ADC_WINCFG_CH w) = c := by
  obtain ⟨h8, hp⟩ := List.mem_filter.mp h
  rw [Bool.and_eq_true] at hp
  exact ⟨List.mem_range.mp h8, of_decide_eq_true hp.2⟩

theorem State.rn_pbit7 (s : State) {a x y : Nat} (out : Bool) (h : s.rn a = 256 * x + y) (hy : y < 128) : (s.pbit a 7 out).rn a = 256 * x + y + 128 * out.toNat := by
  have hlt : s.rn a < 65536 := s.rn_lt a
  have heq : (s.pbit a 7 out).rn a = (s.rn a % 2 ^ 7 + 2 ^ 7 * (out.toNat % 2 ^ 1) + 2 ^ (7 + 1) * (s.rn a / 2 ^ (7 + 1))) % 65536 := by
    show ((s.wr a _).rd a).toNat = _
    rw [State.rd_wr_same]
    rfl
  rw [heq]
  cases out
  · show (s.rn a % 128 + 128 * 0 + 256 * (s.rn a / 256)) % 65536 = 256 * x + y + 128 * 0
    omega
  · show (s.rn a % 128 + 128 * 1 + 256 * (s.rn a / 256)) % 65536 = 256 * x + y + 128 * 1
    omega

theorem State.windowed_form (s : State) (v : AdcAvg) : s.windowed v = { s with regs := (s.windowed v).regs, adc := { s.adc with winCnt := (s.windowed v).adc.winCnt } } := by
  have h := State.each_winJudge_form (s.winsOn v.ch) (s.stored v)
  exact h

/-- R525, R526: the average has ended, its result's window bit shown. -/
def State.avgShown (u : State) (v : AdcAvg) (out : Bool) : State :=
  ((u.pbit (A.ADC_RES (2 * v.ch + 1)) 7 out).setAdc (fun x => { x with avgs := x.avgs.filter (·.key ≠ v.key) })).wn A.ADC_INJSTAT (32768 + 4096 * v.navg + 1024 + v.ch)

theorem resAddr_ne (c : Nat) : A.ADC_RES c ≠ A.ADC_WINSTAT ∧ A.ADC_RES c ≠ A.ADC_INJSTAT := by
  show 0x0880 + c ≠ 0x0860 ∧ 0x0880 + c ≠ 0x0804
  omega

theorem State.rd_avgShown_ne (u : State) {a : Nat} (v : AdcAvg) (out : Bool) (h1 : a ≠ A.ADC_INJSTAT) (h2 : a ≠ A.ADC_RES (2 * v.ch + 1)) : (u.avgShown v out).rd a = u.rd a :=
  (State.rd_wn_ne _ _ h1).trans (State.rd_pbit_ne u _ _ h2)

theorem State.winOut_avgShown (u : State) (v : AdcAvg) (out : Bool) : (u.avgShown v out).winOut = u.winOut :=
  funext fun k => State.bit_congr (u.rd_avgShown_ne v out (by decide) (resAddr_ne _).1.symm) k

theorem State.avgShown_form {u : State} (v : AdcAvg) (out : Bool) (hform : u = { s with regs := u.regs, adc := { s.adc with winCnt := u.adc.winCnt } }) :
    u.avgShown v out = { s with regs := (u.avgShown v out).regs, adc := { s.adc with avgs := s.adc.avgs.filter (·.key ≠ v.key), winCnt := u.adc.winCnt } } := by
  have hk : u.avgShown v out = { u with regs := (u.avgShown v out).regs, adc := { u.adc with avgs := u.adc.avgs.filter (·.key ≠ v.key) } } := rfl
  generalize (u.avgShown v out).regs = r at hk
  rw [hk, hform]

theorem State.resHi_eq (s : State) (v : AdcAvg) : s.resHi v = 256 * (16 * ((s.rn (A.ADC_RES (2 * v.ch + 1)) / 4096 + 1) % 16) + 8 + 2 * v.slice + 1) + v.navg := by
  unfold State.resHi
  omega

theorem State.rn_windowed_hi {v : AdcAvg} (hn : v.navg < 8) (hsl : v.slice ≤ 3) : (s.windowed v).rn (A.ADC_RES (2 * v.ch + 1)) = s.resHi v := by
  have hkeep : (s.windowed v).rn (A.ADC_RES (2 * v.ch + 1)) = (s.stored v).rn (A.ADC_RES (2 * v.ch + 1)) := State.rn_congr (State.rd_each_winJudge _ _ (resAddr_ne _).1)
  refine hkeep.trans ((State.rn_wn_same _ _ _).trans (Nat.mod_eq_of_lt ?_))
  rw [State.resHi_eq]
  omega

theorem State.rd_windowed_lo (s : State) (v : AdcAvg) : (s.windowed v).rd (A.ADC_RES (2 * v.ch)) = BitVec.ofInt 16 v.result :=
  (State.rd_each_winJudge _ _ (resAddr_ne _).1).trans ((State.rd_wn_ne _ _ (Nat.succ_ne_self _).symm).trans (State.rd_wr_same _ _ _))

theorem State.rd_windowed_ne (s : State) {a : Nat} (v : AdcAvg) (h1 : a ≠ A.ADC_RES (2 * v.ch)) (h2 : a ≠ A.ADC_RES (2 * v.ch + 1)) (h3 : a ≠ A.ADC_WINSTAT) : (s.windowed v).rd a = s.rd a :=
  (State.rd_each_winJudge _ _ h3).trans ((State.rd_wn_ne _ _ h2).trans (State.rd_wi_ne _ _ h1))

/-- R525, R526, R529: what the end of a host's average leaves. -/
theorem State.avgDone_host_shows {v : AdcAvg} (hsrc : v.src = .host) (hr : chReserved v.ch = false) (h46 : v.ch ≠ 46) (hch : v.ch < 64) (hn : v.navg < 8) (hsl : v.slice ≤ 3) :
    ∃ e, s.avgDone v = e ∧ e = { s with regs := e.regs, adc := { s.adc with avgs := s.adc.avgs.filter (·.key ≠ v.key), winCnt := (s.windowed v).adc.winCnt } } ∧
      e.rd (A.ADC_RES (2 * v.ch)) = BitVec.ofInt 16 v.result ∧ e.rn (A.ADC_RES (2 * v.ch + 1)) = s.resHi v + 128 * ((s.winsOn v.ch).any e.winOut).toNat ∧ e.rn A.ADC_INJSTAT = 32768 + 4096 * v.navg + 1024 + v.ch ∧
      (∀ a, a ≠ A.ADC_RES (2 * v.ch) → a ≠ A.ADC_RES (2 * v.ch + 1) → a ≠ A.ADC_INJSTAT → a ≠ A.ADC_WINSTAT → e.rd a = s.rd a) ∧ e.rd A.ADC_WINSTAT = (s.windowed v).rd A.ADC_WINSTAT := by
  refine ⟨(s.windowed v).avgShown v ((s.winsOn v.ch).any (s.windowed v).winOut), State.avgDone_host hsrc hr h46, State.avgShown_form v _ (s.windowed_form v), ?_, ?_, ?_, fun a h1 h2 h3 h4 => ?_, ?_⟩
  · exact (State.rd_avgShown_ne _ v _ (resAddr_ne _).2 (Nat.succ_ne_self _).symm).trans (s.rd_windowed_lo v)
  · rw [State.winOut_avgShown]
    have h7 := State.rn_pbit7 (s.windowed v) ((s.winsOn v.ch).any (s.windowed v).winOut) ((State.rn_windowed_hi hn hsl).trans (s.resHi_eq v)) (by omega)
    rw [s.resHi_eq]
    exact (State.rn_congr (State.rd_wn_ne _ _ (resAddr_ne _).2)).trans h7
  · exact (State.rn_wn_same _ _ _).trans (Nat.mod_eq_of_lt (by omega))
  · exact (State.rd_avgShown_ne _ v _ h3 h2).trans (s.rd_windowed_ne v h1 h2 h4)
  · exact State.rd_avgShown_ne _ v _ (by decide) (resAddr_ne _).1.symm


/-- R529: the window after a result whose windows have been judged. -/
theorem State.windowed_mem {v : AdcAvg} {w : Nat} (h8 : s.adc.winCnt.length = 8) (hw : w ∈ s.winsOn v.ch) :
    (s.windowed v).winOut w = (if (s.stored v).winTurns w then (s.stored v).winOutside w else s.winOut w) ∧
      (s.windowed v).bit A.ADC_WINSTAT (8 + w) = (s.bit A.ADC_WINSTAT (8 + w) || ((s.stored v).winTurns w && (s.stored v).winOutside w)) ∧
      (s.windowed v).adc.winCnt.getD w 0 = (if (s.stored v).winTurns w then 0 else (s.stored v).winRun w) := by
  obtain ⟨hw8, -⟩ := State.mem_winsOn hw
  have hstat : (s.stored v).rd A.ADC_WINSTAT = s.rd A.ADC_WINSTAT := (State.rd_wn_ne _ _ (resAddr_ne _).1.symm).trans (State.rd_wi_ne _ _ (resAddr_ne _).1.symm)
  have hsame := State.each_winJudge_mem (s := s.stored v) (s.winsOn_nodup v.ch) (fun k hk => (State.mem_winsOn hk).1) hw
  obtain ⟨hj, hl⟩ := (s.stored v).bit_winJudge_same hw8
  have hcnt : ((s.stored v).winJudge w).adc.winCnt.getD w 0 = (if (s.stored v).winTurns w then 0 else (s.stored v).winRun w) := by
    have hlen : w < (s.stored v).adc.winCnt.length := by
      show w < s.adc.winCnt.length
      omega
    rw [State.winJudge_winCnt, List.getD_eq_getElem?_getD, List.getElem?_set_self hlen]
    rfl
  refine ⟨hsame.out.trans (hj.trans ?_), hsame.latch.trans (hl.trans ?_), hsame.count.trans hcnt⟩
  · rw [show (s.stored v).winOut w = s.winOut w from State.bit_congr hstat w]
  · rw [State.bit_congr hstat (8 + w)]

/-- R529: a window on another channel stands. -/
theorem State.windowed_not_mem {v : AdcAvg} {w : Nat} (hw8 : w < 8) (hw : w ∉ s.winsOn v.ch) :
    (s.windowed v).winOut w = s.winOut w ∧ (s.windowed v).bit A.ADC_WINSTAT (8 + w) = s.bit A.ADC_WINSTAT (8 + w) ∧ (s.windowed v).adc.winCnt.getD w 0 = s.adc.winCnt.getD w 0 := by
  have hstat : (s.stored v).rd A.ADC_WINSTAT = s.rd A.ADC_WINSTAT := (State.rd_wn_ne _ _ (resAddr_ne _).1.symm).trans (State.rd_wi_ne _ _ (resAddr_ne _).1.symm)
  have hsame : (s.stored v).SameWindow w (s.windowed v) :=
    State.SameWindow.others hw8 _ (fun k hk => ⟨(State.mem_winsOn hk).1, fun e => hw (e ▸ hk)⟩) ⟨fun _ _ => rfl, rfl, rfl, rfl, rfl⟩
  exact ⟨hsame.out.trans (State.bit_congr hstat w), hsame.latch.trans (State.bit_congr hstat (8 + w)), hsame.count⟩

theorem State.windowed_none {v : AdcAvg} (h : s.winsOn v.ch = []) : s.windowed v = s.stored v := by
  unfold State.windowed
  rw [h]
  rfl

/-- R529: what the judged result says, as the window sees it. -/
theorem State.winOutside_stored {e : State} {v : AdcAvg} {w : Nat} (hw : w ∈ s.winsOn v.ch) (hres : e.rd (A.ADC_RES (2 * v.ch)) = BitVec.ofInt 16 v.result) :
    (s.stored v).winOutside w = if chBipolar v.ch then decide (e.ri (A.ADC_RES (2 * v.ch)) < s.ri (A.ADC_WINLO w)) || decide (s.ri (A.ADC_WINHI w) < e.ri (A.ADC_RES (2 * v.ch)))
      else decide (e.rn (A.ADC_RES (2 * v.ch)) < s.rn (A.ADC_WINLO w)) || decide (s.rn (A.ADC_WINHI w) < e.rn (A.ADC_RES (2 * v.ch))) := by
  obtain ⟨hw8, hch⟩ := State.mem_winsOn hw
  have hkeep : ∀ a, a < 0x0880 → (s.stored v).rd a = s.rd a := fun a ha => by
    have hne : ∀ c, a ≠ A.ADC_RES c := fun c => by
      show a ≠ 0x0880 + c
      omega
    exact (State.rd_wn_ne _ _ (hne _)).trans (State.rd_wi_ne _ _ (hne _))
  have hlo : A.ADC_WINLO w < 0x0880 := by
    show 0x0841 + 4 * w < _
    omega
  have hhi : A.ADC_WINHI w < 0x0880 := by
    show 0x0842 + 4 * w < _
    omega
  have hcfg : A.ADC_WINCFG w < 0x0880 := by
    show 0x0840 + 4 * w < _
    omega
  have hown : (s.stored v).rd (A.ADC_RES (2 * v.ch)) = e.rd (A.ADC_RES (2 * v.ch)) :=
    (State.rd_wn_ne _ _ (Nat.succ_ne_self _).symm).trans ((State.rd_wr_same _ _ _).trans hres.symm)
  have hg : (s.stored v).g (F.ADC_WINCFG_CH w) = v.ch := (State.g_congr (hkeep _ hcfg)).trans hch
  unfold State.winOutside
  rw [hg, State.ri_congr (hkeep _ hlo), State.ri_congr (hkeep _ hhi), State.rn_congr (hkeep _ hlo), State.rn_congr (hkeep _ hhi), State.ri_congr hown, State.rn_congr hown]

theorem State.winRun_stored {v : AdcAvg} {w : Nat} (hw8 : w < 8) :
    (s.stored v).winRun w = (if (s.stored v).winOutside w = s.winOut w then 0 else s.adc.winCnt.getD w 0 + 1) ∧
      (s.stored v).winTurns w = (decide ((s.stored v).winOutside w ≠ s.winOut w) && decide (s.g (F.ADC_WINCFG_CNT w) ≤ s.adc.winCnt.getD w 0)) := by
  have hne : ∀ a, a < 0x0880 → ∀ c, a ≠ A.ADC_RES c := fun a ha c => by
    show a ≠ 0x0880 + c
    omega
  have hkeep : ∀ a, a < 0x0880 → (s.stored v).rd a = s.rd a := fun a ha => (State.rd_wn_ne _ _ (hne a ha _)).trans (State.rd_wi_ne _ _ (hne a ha _))
  have hcfg : A.ADC_WINCFG w < 0x0880 := by
    show 0x0840 + 4 * w < _
    omega
  have hout : (s.stored v).winOut w = s.winOut w := State.bit_congr (hkeep _ (by decide)) w
  constructor
  · unfold State.winRun
    rw [hout]
    rfl
  · rw [State.winTurns_eq, hout, State.g_congr (hkeep _ hcfg)]
    rfl

/-- R525: the mean and the slice of an average whose last conversion came from slice k. -/
theorem AdcAvg.completed (key ch navg k : Nat) (vals : List (Nat × Rat)) (x : Rat) (hn : vals.length + 1 = 2 ^ navg) :
    (⟨key, .host, ch, navg, 0, vals ++ [(k, x)], false⟩ : AdcAvg).result = resWord ch (((vals.map (·.2)).foldl (· + ·) 0 + x) / ((2 ^ navg : Nat) : Rat)) ∧
      (⟨key, .host, ch, navg, 0, vals ++ [(k, x)], false⟩ : AdcAvg).slice = if vals.all (fun v => v.1 = k) then k else 3 := by
  constructor
  · unfold AdcAvg.result
    dsimp only
    rw [List.foldl_append, List.length_append, List.foldl_map]
    show resWord ch ((_ + x) / ((vals.length + 1 : Nat) : Rat)) = _
    rw [hn]
  · cases vals with
    | nil => rfl
    | cons y r =>
      show (if (r ++ [(k, x)]).all (fun z => z.1 = y.1) then y.1 else 3) = if (y :: r).all (fun v => v.1 = k) then k else 3
      by_cases hy : y.1 = k
      · subst hy
        simp only [List.all_append, List.all_cons, List.all_nil, decide_true, Bool.true_and, Bool.and_true]
      · simp [hy, Ne.symm hy]

/-! ### The paired reads of a result (R527) -/

theorem State.readWord_res (s : State) {k : Nat} (hk : k < 128) : s.readWord .host (A.ADC_RES k) = s.readRes .host (k / 2) (k % 2 = 1) := by
  have hlist : ∀ k, k < 128 → (decide (A.WAY_MCFG ≤ A.ADC_RES k) && decide (A.ADC_RES k ≤ A.WAY_W 123)) = false ∧ mapped (A.ADC_RES k) = true ∧ A.ADC_RES k ≠ A.HIF_ERR ∧ A.ADC_RES k ≠ A.GAU_ACC0 ∧
      (decide (A.RTC_SEC 0 ≤ A.ADC_RES k) && decide (A.ADC_RES k ≤ A.RTC_FRAC)) = false ∧ (decide (A.ADC_RES 0 ≤ A.ADC_RES k) && decide (A.ADC_RES k ≤ A.ADC_RES 127)) = true := by decide +kernel
  obtain ⟨h1, h2, h3, h4, h5, h6⟩ := hlist k hk
  have hsub : A.ADC_RES k - A.ADC_RES 0 = k := Nat.add_sub_cancel_left _ _
  unfold State.readWord
  rw [if_neg (by rw [Bool.and_assoc, h1, Bool.and_false]; decide), if_neg (by rw [h2]; decide), if_neg h3, if_neg h4, if_neg (by rw [h5]; decide), if_pos h6, hsub]

theorem State.readOne_host (ha : s.hostAlive = true) (a : Nat) :
    s.readOne a = (s.clocked.readWord .host a).2.accept.answer (goodReply (s.clocked.statusWord s.hif.perr) [(s.clocked.readWord .host a).1] (decide (2 ≤ s.version)))
      (goodReply (s.clocked.statusWord s.hif.perr) [(s.clocked.readWord .host a).1] (decide (2 ≤ s.version))).bytes := by
  unfold State.readOne
  rw [if_pos ha, State.demandFast_of_hostAlive ha]
  rfl

end

/-- Settles O59: what a slice takes, what a result leaves, its windows, and its paired reads. -/
theorem adcConversions : Obligations.AdcConversions := by
  refine ⟨fun s recent st hh hs hb hr hl => ⟨fun ch n host r hi => ?_, fun i hi hst hm => ?_, fun x r hi hst hc ha hro => ?_⟩, fun s recent st h => ?_, fun s k code late key ch o g cb hh hl hs ha hc h64 h46 => ?_,
    fun s k code late key ch navg left o g cb vals fr hh hl hs ha hn => ?_, fun s k code late key ch navg o g cb vals hh hl hs ha hn hc h64 h46 h8 hw => ?_, fun s recent st ch n host r hh hr hl hi => ⟨fun hs hb => ?_, fun j hs hb => ?_⟩,
    fun s k code late hh hs => ?_, fun s k code late i o g cb hh hs hc => ?_, fun s k code late hs => ?_, fun s c h64 ha => ⟨?_, fun w hw => ?_⟩⟩
  · obtain ⟨e, he, hform, hlen⟩ := State.schedule_injected recent st (State.freePlace_all hs hb) hr hl hi
    refine ⟨e, (congrArg done ((congrArg (s.when · _) hh).trans he)), hform.trans ?_, hlen⟩
    rw [hs]
    rfl
  · refine congrArg done ((congrArg (s.when · _) hh).trans ?_)
    refine (State.schedule_free recent st (State.freePlace_all hs hb) hr hl).trans ?_
    rw [hi, hst]
    dsimp only
    rw [Option.filter_some, if_pos hm]
    show ({ s with adc := { s.adc with slices := s.adc.slices.set 0 _ } } : State) = _
    rw [hs]
    rfl
  · have hnext : s.schedule recent st = (s.setAdc (fun a => { a with round := some r })).startAvg 0 .round (s.g (F.ADC_SEQ_CH x)) (s.g (F.ADC_SEQ_NAVG x)) recent := by
      refine (State.schedule_free recent st (State.freePlace_all hs hb) hr hl).trans ?_
      rw [hi, hst]
      show s.roundNext 0 recent = _
      unfold State.roundNext
      rw [hc, ha, hro]
      rfl
    refine ⟨_, congrArg done ((congrArg (s.when · _) hh).trans hnext), ?_⟩
    exact State.startAvg_first (s.setAdc (fun a => { a with round := some r })) _ _ _ _ hs ha
  · refine congrArg done ?_
    cases s.running
    · rfl
    · exact State.schedule_stays recent st h
  · have hk := State.sliceBelow hl hs
    have hdone := State.convDone_conv code late hs ha
    generalize hv : (⟨key, .host, ch, 0, 0, [] ++ [(k, corrected code o g cb)], false⟩ : AdcAvg) = v at hdone
    have hch : v.ch = ch := by rw [← hv]
    have hres : v.result = resWord ch (corrected code o g cb) := by
      rw [← hv, (AdcAvg.completed key ch 0 k [] _ rfl).1]
      simp
    have hsl : v.slice = k := by
      rw [← hv]
      rfl
    have hnav : v.navg = 0 := by rw [← hv]
    generalize ht : ({ s with adc := { s.adc with slices := s.adc.slices.set k none, avgs := [v] } } : State) = t at hdone
    have hrd : ∀ a, t.rd a = s.rd a := fun a => by
      rw [← ht]
      rfl
    have hcnt : t.adc.winCnt = s.adc.winCnt := by rw [← ht]
    have hwins : t.winsOn ch = s.winsOn ch := by
      rw [← ht]
      rfl
    have hwout : t.winOut = s.winOut := funext fun j => State.bit_congr (hrd _) j
    obtain ⟨e, he, hform, hlo, hhi, hinj, hrest, hstat⟩ := State.avgDone_host_shows (s := t) (v := v) (by rw [← hv]) (by rw [hch]; exact hc) (by rw [hch]; exact h46) (by rw [hch]; exact h64) (by rw [hnav]; decide) (by omega)
    rw [hch] at hlo hhi hrest
    have hout : e.winOut = (t.windowed v).winOut := funext fun j => State.bit_congr hstat j
    have hecnt : e.adc.winCnt = (t.windowed v).adc.winCnt := by rw [hform]
    refine ⟨e, congrArg done ((congrArg (s.when · _) hh).trans (hdone.trans he)), ?_, ?_, ?_, ?_, fun a h1 h2 h3 h4 => (hrest a h1 h2 h3 h4).trans (hrd a), fun w hw8 hw => ?_, fun h8 w out hw hdef => ?_⟩
    · rw [← hecnt] at hform
      generalize e.regs = er at hform ⊢
      generalize e.adc.winCnt = ec at hform ⊢
      rw [hform, ← ht, ← hv]
      simp
    · rw [← hres]
      exact congrArg BitVec.toInt hlo
    · rw [hhi, hwins]
      unfold State.resHi
      rw [hch, hsl, hnav, State.rn_congr (hrd _)]
    · rw [hinj, hch, hnav]
    · have hnot := State.windowed_not_mem (s := t) (v := v) hw8 (by rw [hch, hwins]; exact hw)
      rw [hout, hecnt, State.bit_congr hstat (8 + w), hnot.1, hnot.2.1, hnot.2.2, hwout, hcnt, State.bit_congr (hrd _) (8 + w)]
      exact ⟨rfl, rfl, rfl⟩
    · have hwm : w ∈ t.winsOn v.ch := by
        rw [hch, hwins]
        exact hw
      obtain ⟨hmo, hml, hmc⟩ := State.windowed_mem (by rw [hcnt]; exact h8) hwm
      obtain ⟨hrun, hturn⟩ := State.winRun_stored (s := t) (v := v) (State.mem_winsOn hwm).1
      have hside : (t.stored v).winOutside w = out := by
        rw [State.winOutside_stored (e := e) hwm (by rw [hch]; exact hlo), hdef, hch, State.ri_congr (hrd _), State.ri_congr (hrd _), State.rn_congr (hrd (A.ADC_WINLO w)), State.rn_congr (hrd (A.ADC_WINHI w))]
      have hg : t.g (F.ADC_WINCFG_CNT w) = s.g (F.ADC_WINCFG_CNT w) := State.g_congr (hrd _)
      rw [hside, hwout, hcnt] at hrun
      rw [hside, hwout, hcnt, hg] at hturn
      rw [hout, hecnt, State.bit_congr hstat (8 + w), hmo, hml, hmc, hside, hrun, hturn, hwout, State.bit_congr (hrd _) (8 + w)]
      refine ⟨fun heq => ?_, fun hne hlt => ?_, fun hne hle => ?_, ?_⟩
      · simp [heq]
      · rw [if_neg hne, decide_eq_true hne, decide_eq_false (Nat.not_le.mpr hlt)]
        exact ⟨rfl, rfl⟩
      · rw [decide_eq_true hne, decide_eq_true hle]
        exact ⟨rfl, rfl⟩
      · cases out <;> cases s.winOut w <;> simp
  · have hk := State.sliceBelow hl hs
    refine congrArg done ((congrArg (s.when · _) hh).trans ((State.convDone_conv code late hs ha).trans ?_))
    dsimp only
    rw [if_neg (Nat.ne_of_lt hn), if_pos (Nat.succ_ne_zero _)]
    refine (State.startConv_only _ k (v := ⟨key, .host, ch, navg, left + 1, vals ++ [(k, corrected code o g cb)], fr⟩) rfl).trans ?_
    rw [List.set_set]
    rfl
  · have hk := State.sliceBelow hl hs
    have hdone := (State.convDone_conv code late hs ha).trans (if_pos hn)
    obtain ⟨hres, hsl⟩ := AdcAvg.completed key ch navg k vals (corrected code o g cb) hn
    generalize hv : (⟨key, .host, ch, navg, 0, vals ++ [(k, corrected code o g cb)], false⟩ : AdcAvg) = v at hdone hres hsl
    have hch : v.ch = ch := by rw [← hv]
    have hnav : v.navg = navg := by rw [← hv]
    generalize ht : ({ s with adc := { s.adc with slices := s.adc.slices.set k none, avgs := [v] } } : State) = t at hdone
    have hrd : ∀ a, t.rd a = s.rd a := fun a => by
      rw [← ht]
      rfl
    have hwins : t.winsOn v.ch = [] := by
      rw [← ht, hch]
      exact hw
    obtain ⟨e, he, hform, hlo, hhi, hinj, hrest, hstat⟩ := State.avgDone_host_shows (s := t) (v := v) (by rw [← hv]) (by rw [hch]; exact hc) (by rw [hch]; exact h46) (by rw [hch]; exact h64) (by omega) (by rw [hsl]; split <;> omega)
    rw [State.windowed_none hwins] at hform hstat
    rw [hwins] at hhi
    rw [hch] at hlo hhi hrest
    refine ⟨e, congrArg done ((congrArg (s.when · _) hh).trans (hdone.trans he)), ?_, ?_, ?_, ?_, fun a h1 h2 h3 => ?_⟩
    · generalize e.regs = er at hform ⊢
      rw [hform, ← ht, ← hv]
      simp [State.stored, State.wn, State.wi, State.wr]
    · rw [← hres]
      exact congrArg BitVec.toInt hlo
    · rw [hhi]
      unfold State.resHi
      rw [hch, hsl, hnav, State.rn_congr (hrd _)]
      rfl
    · rw [hinj, hch, hnav]
    · by_cases h4 : a = A.ADC_WINSTAT
      · rw [h4, hstat]
        exact (State.rd_wn_ne _ _ (resAddr_ne _).1.symm).trans ((State.rd_wi_ne _ _ (resAddr_ne _).1.symm).trans (hrd _))
      · exact (hrest a h1 h2 h3 h4).trans (hrd a)
  · have hk := State.freePlace_standIn (s := s) (.inl ⟨⟨_, hs⟩, hb⟩)
    obtain ⟨e, he, hform, hlen⟩ := State.schedule_injected recent st hk hr hl hi
    refine ⟨e, congrArg done ((congrArg (s.when · _) hh).trans he), hform.trans ?_, hlen⟩
    rw [hs]
    rfl
  · have hk := State.freePlace_standIn (s := s) (.inr ⟨⟨j, hs⟩, hb⟩)
    obtain ⟨e, he, hform, hlen⟩ := State.schedule_injected recent st hk hr hl hi
    refine ⟨e, congrArg done ((congrArg (s.when · _) hh).trans he), hform.trans ?_, hlen⟩
    rw [hs]
    rfl
  · refine congrArg done ((congrArg (s.when · _) hh).trans ?_)
    show s.convDone k code late = _
    unfold State.convDone
    rw [hs]
    rfl
  · refine congrArg done ((congrArg (s.when · _) hh).trans ?_)
    show s.convDone k code late = _
    unfold State.convDone
    rw [hs]
    dsimp only
    unfold State.captured
    rw [hc]
    rfl
  · refine congrArg done ?_
    cases s.running
    · rfl
    · show s.convDone k code late = s
      unfold State.convDone
      rw [hs]
  · have hex := congrArg done (State.readOne_host ha (A.ADC_RES (2 * c)))
    rw [State.readWord_res _ (by omega), Nat.mul_div_cancel_left c (by decide), Nat.mul_mod_right] at hex
    exact ⟨_, hex, rfl, rfl⟩
  · have hex := congrArg done (State.readOne_host ha (A.ADC_RES (2 * c + 1)))
    have hhi : s.clocked.resHiRead .host c = (w, s.clocked.setAdcShadow .host none) := by
      unfold State.resHiRead
      rw [show s.clocked.adcShadow .host = some (c, w) from hw]
      exact if_pos rfl
    rw [State.readWord_res _ (by omega), show (2 * c + 1) / 2 = c by omega, show (2 * c + 1) % 2 = 1 by omega] at hex
    have hread : s.clocked.readRes .host c (decide (1 = 1)) = s.clocked.resHiRead .host c := rfl
    rw [hread, hhi] at hex
    exact ⟨_, hex, rfl, rfl⟩

end Sys2Proof.Machine
end

section
/-! PROOFS. A stroke's samples, its start by the current, and the recorder's entries. -/
namespace Sys2Proof.Machine

/-! ### A stroke's start (R352) -/

section
variable {s t : State}

theorem exec_samples (s : State) (b k late : Nat) :
    exec (.strokeSample b) s = done (s.when s.aoOn (fun s => (s.strokeSample b).chargerMeasured)) ∧ exec .strokeStartDetect s = done s.startDetect ∧ exec (.streamInterval k late) s = done (s.streamOut k late) ∧
      exec .recorderTimeExtension s = done s.extendTime := ⟨rfl, rfl, rfl, rfl⟩

/-- A stroke that started at ts, of direction d and kind k, runs. -/
structure State.StrokeRun (t : State) (ts d k : Nat) : Prop where
  runs : t.strokeRuns = true
  armed : t.preArmed = false
  start : t.stk.ts = ts
  dir : t.dir = d
  kind : t.stk.kind = k

variable {ts d k : Nat}

/-- It goes on where neither its word nor what the record tells of it changes. -/
theorem State.StrokeRun.stands (h : s.StrokeRun ts d k) (hrd : t.rd A.STK_STAT = s.rd A.STK_STAT) (ht : t.stk.ts = s.stk.ts) (hk : t.stk.kind = s.stk.kind) : t.StrokeRun ts d k :=
  ⟨(State.b_congr (f := F.STK_STAT_RUNNING) hrd).trans h.runs, (State.b_congr (f := F.STK_STAT_PREARM) hrd).trans h.armed, ht.trans h.start, (State.g_congr (f := F.STK_STAT_DIR) hrd).trans h.dir, hk.trans h.kind⟩

theorem State.StrokeRun.log (h : s.StrokeRun ts d k) (hl : t.LogOf s) : t.StrokeRun ts d k :=
  h.stands (hl.rd _ (by decide)) (by rw [hl.stk]) (by rw [hl.stk])

/-- A mark beside its own three in STK_STAT changes nothing of it. -/
theorem State.StrokeRun.mark (h : s.StrokeRun ts d k) {b : Nat} (v : Nat) (hb : b + 1 ≤ 16) (h1 : b ≠ 14) (h2 : b ≠ 15) (h3 : b ≠ 10) : (s.p ⟨A.STK_STAT, b, 1⟩ v).StrokeRun ts d k := by
  have hside : ∀ j, b ≠ j → j + 1 ≤ b ∨ b + 1 ≤ j := fun j hj => by omega
  exact ⟨(s.b_p_beside (g := F.STK_STAT_RUNNING) v hb (hside 14 h1)).trans h.runs, (s.b_p_beside (g := F.STK_STAT_PREARM) v hb (hside 15 h2)).trans h.armed, h.start,
    (s.g_p_beside (g := F.STK_STAT_DIR) v hb (hside 10 h3)).trans h.dir, h.kind⟩

theorem State.StrokeRun.judgeGuards (h : s.StrokeRun ts d k) : s.judgeGuards.StrokeRun ts d k := by
  unfold State.judgeGuards
  split
  · exact h.stands (State.rd_p_ne _ _ (by decide)) rfl rfl
  · exact h

theorem State.judgeGuards_firm (h : s.stk.cand = false) : s.judgeGuards = s := by
  unfold State.judgeGuards
  rw [h]
  rfl

theorem State.StrokeRun.beginBattPhase (h : s.StrokeRun ts d k) (pre : Option Sample) : (s.beginBattPhase pre).StrokeRun ts d k := by
  have hmark : (s.p F.STK_STAT_BATTPH 1).StrokeRun ts d k := h.mark (b := 12) 1 (by decide) (by decide) (by decide) (by decide)
  unfold State.beginBattPhase
  refine State.StrokeRun.log ?_ (State.LogOf.refl _).retarget.marker.burst
  exact hmark.stands rfl rfl rfl

/-- A sample taken leaves of a stroke's record its start and its kind. -/
theorem State.strokeTakes_frame (s : State) (x : Sample) (ph : Bool) :
    ∃ f, s.strokeTakes x ph = s.setStk f ∧ (f s.stk).ts = s.stk.ts ∧ (f s.stk).kind = s.stk.kind ∧ (f s.stk).ms = s.stk.ms ∧ (f s.stk).above = s.stk.above ∧ (f s.stk).since = s.stk.since ∧ (f s.stk).hist = s.stk.hist ∧
      (f s.stk).below = if s.istart ≤ x.cur then 0 else s.stk.below + 1 := by
  have hpt : ∀ k : Stroke, ∀ n c, (k.addPoint n c).ts = k.ts ∧ (k.addPoint n c).kind = k.kind ∧ (k.addPoint n c).ms = k.ms ∧ (k.addPoint n c).above = k.above ∧ (k.addPoint n c).since = k.since ∧ (k.addPoint n c).hist = k.hist ∧
      (k.addPoint n c).below = k.below := fun k n c => by
    unfold Stroke.addPoint
    dsimp only
    split <;> exact ⟨rfl, rfl, rfl, rfl, rfl, rfl, rfl⟩
  have hp := hpt s.stk s.ptimeMs x.cur
  unfold State.strokeTakes
  refine ⟨_, rfl, ?_⟩
  dsimp only
  generalize s.stk.addPoint s.ptimeMs x.cur = q at hp ⊢
  generalize hr : (if ph = true then _ else _ : Stroke) = r
  have hkept : r.ts = s.stk.ts ∧ r.kind = s.stk.kind ∧ r.ms = s.stk.ms ∧ r.above = s.stk.above ∧ r.since = s.stk.since ∧ r.hist = s.stk.hist ∧ r.below = s.stk.below := by
    rw [← hr]
    cases ph
    · exact hp
    · exact hp
  obtain ⟨hts, hkind, hms, habove, hsince, hhist, hbelow⟩ := hkept
  by_cases hi : s.istart ≤ x.cur
  · rw [if_pos hi, if_pos hi]
    exact ⟨hts, hkind, hms, habove, hsince, hhist, rfl⟩
  · rw [if_neg hi, if_neg hi]
    by_cases hb : r.below = 0
    · rw [if_pos hb]
      exact ⟨hts, hkind, hms, habove, hsince, hhist, by rw [← hbelow, hb]⟩
    · rw [if_neg hb]
      exact ⟨hts, hkind, hms, habove, hsince, hhist, by rw [← hbelow]⟩

theorem State.StrokeRun.strokeTakes (h : s.StrokeRun ts d k) (x : Sample) (ph : Bool) : (s.strokeTakes x ph).StrokeRun ts d k := by
  obtain ⟨f, hf, h1, h2, -⟩ := s.strokeTakes_frame x ph
  rw [hf]
  exact h.stands rfl h1 h2

theorem State.StrokeRun.blankEdge (h : s.StrokeRun ts d k) (hit : Nat → Nat → Bool) : (s.blankEdge hit).StrokeRun ts d k := by
  unfold State.blankEdge
  dsimp only
  split
  · exact h
  · exact h.stands rfl rfl rfl

theorem State.StrokeRun.seeded (h : s.StrokeRun ts d k) (l : List Sample) : (l.foldl (fun s y => (s.setStk (fun k => { k with ms := k.ms + 1 })).strokeTakes y false) s).StrokeRun ts d k := by
  induction l generalizing s with
  | nil => exact h
  | cons y l ih =>
    have hms : (s.setStk (fun k => { k with ms := k.ms + 1 })).StrokeRun ts d k := h.stands rfl rfl rfl
    exact ih (hms.strokeTakes y false)

/-- R352: a stroke started runs; without a proving candidate it keeps its kind. -/
theorem State.startStroke_runs (s : State) (ts : Nat) (seed : List Sample) (pre : Option Sample) :
    ∃ k, (s.startStroke ts seed pre).StrokeRun ts s.dir k ∧ (s.stk.cand = false → k = s.stk.kind) := by
  have hrun : (((s.p F.STK_STAT_PREARM 0).p F.STK_STAT_RUNNING 1).setStk (fun k => { k with ts := ts, above := 0 })).StrokeRun ts s.dir s.stk.kind :=
    ⟨(s.p F.STK_STAT_PREARM 0).b_p_one F.STK_STAT_RUNNING (by decide) rfl, ((s.p F.STK_STAT_PREARM 0).b_p_beside 1 (by decide) (by decide)).trans (s.b_pb_same F.STK_STAT_PREARM false (by decide) rfl), rfl,
      ((s.p F.STK_STAT_PREARM 0).g_p_beside 1 (by decide) (by decide)).trans (s.g_p_beside 0 (by decide) (by decide)), rfl⟩
  have hcand : (((s.p F.STK_STAT_PREARM 0).p F.STK_STAT_RUNNING 1).setStk (fun k => { k with ts := ts, above := 0 })).stk.cand = s.stk.cand := rfl
  unfold State.startStroke
  dsimp only
  generalize ((s.p F.STK_STAT_PREARM 0).p F.STK_STAT_RUNNING 1).setStk (fun k => { k with ts := ts, above := 0 }) = t at hrun hcand ⊢
  have hdrv : ∀ f, (t.setDrv f).StrokeRun ts s.dir s.stk.kind ∧ (t.setDrv f).stk.cand = s.stk.cand := fun f => ⟨hrun.stands rfl rfl rfl, hcand⟩
  generalize hu : t.setDrv _ = u
  have hu : u.StrokeRun ts s.dir s.stk.kind ∧ u.stk.cand = s.stk.cand := hu ▸ hdrv _
  obtain ⟨hurun, hucand⟩ := hu
  have hjudged : u.judgeGuards.StrokeRun ts s.dir s.stk.kind ∧ (s.stk.cand = false → u.judgeGuards.stk.cand = false) :=
    ⟨hurun.judgeGuards, fun hc => by rw [State.judgeGuards_firm (hucand.trans hc)]; exact hucand.trans hc⟩
  generalize u.judgeGuards = v at hjudged ⊢
  have hproved : ∃ k, (v.when v.stk.cand (fun s => ((s.p F.STK_STAT_PROVING 1).setStk (fun k => { k with kind := 2 })).beginBattPhase pre)).StrokeRun ts s.dir k ∧ (s.stk.cand = false → k = s.stk.kind) := by
    cases hc : v.stk.cand with
    | false => exact ⟨_, hjudged.1, fun _ => rfl⟩
    | true =>
      have hmark : (v.p F.STK_STAT_PROVING 1).StrokeRun ts s.dir s.stk.kind := hjudged.1.mark (b := 13) 1 (by decide) (by decide) (by decide) (by decide)
      have htwo : ((v.p F.STK_STAT_PROVING 1).setStk (fun k => { k with kind := 2 })).StrokeRun ts s.dir 2 := ⟨hmark.runs, hmark.armed, hmark.start, hmark.dir, rfl⟩
      exact ⟨2, htwo.beginBattPhase pre, fun h => absurd (hjudged.2 h) (by rw [hc]; decide)⟩
  obtain ⟨k, hk, hkind⟩ := hproved
  have hmarked := (hk.log (State.LogOf.refl _).marker.burst : StrokeRun (((_ : State).marker 2).burst 0) ts s.dir k).blankEdge fun b _ => b = 4
  refine ⟨k, ?_, hkind⟩
  cases seed with
  | nil => exact hmarked
  | cons x r => exact (hmarked.strokeTakes x false).seeded r


/-- R352: what a start by the current needs. -/
theorem State.startDetect_eq {x y : Sample} {r : List Sample} (hs : s.stk.hist = y :: x :: r) (hn : s.strokeRuns = false) (ha : 2 ≤ s.stk.above) (hr : s.running = true) :
    s.startDetect = if s.preArmed then s.startStroke x.rtc [x, y] r.head?
      else if s.b F.STK_DETCFG_AUTO then
        ((((s.setStk (fun k => k.fresh 3 false 0)).p F.STK_STAT_DIR 0).recOpen.openStroke.2).when (!(((s.setStk (fun k => k.fresh 3 false 0)).p F.STK_STAT_DIR 0).recOpen.openStroke.1)) (·.p F.STK_STAT_PKTLOST 1)).startStroke x.rtc [x, y] r.head?
      else s := by
  unfold State.startDetect
  rw [hs]
  dsimp only
  rw [hn, hr, decide_eq_false (by omega)]
  rfl

theorem State.startDetect_few (h : s.stk.above < 2) : s.startDetect = s := by
  unfold State.startDetect
  split
  · exact if_pos (by rw [decide_eq_true h, Bool.or_true, Bool.true_or])
  · rfl

theorem State.inc_stk (s : State) (a : Nat) : (s.inc a).stk = s.stk := (congrArg State.stk (s.inc_form a)).trans rfl

theorem State.queueReset_stk (s : State) : s.queueReset.stk = s.stk := by
  unfold State.queueReset State.when
  dsimp only
  rw [State.raise_stk]
  refine (State.inc_stk _ _).trans ?_
  split
  · rfl
  · rfl

theorem State.openStroke_stk (s : State) : s.openStroke.2.stk = s.stk := by
  have hq : ∀ c, (s.checkPtrs c).stk = s.stk := fun c => by
    unfold State.checkPtrs
    split
    · rfl
    · exact s.queueReset_stk
  unfold State.openStroke
  dsimp only
  split
  · exact hq _
  · exact (State.raise_stk _ 122).trans ((State.inc_stk _ _).trans (hq _))

theorem State.recOpen_kind (s : State) : s.recOpen.stk.kind = s.stk.kind ∧ s.recOpen.stk.cand = s.stk.cand := by
  unfold State.recOpen
  cases s.b F.STK_RECSTAT_LATVALID
  · exact ⟨rfl, rfl⟩
  · exact ⟨rfl, rfl⟩

/-! ### Samples and intervals (R353, R357, R358) -/

theorem State.strokeCurrent_frame (s : State) : ∃ k, s.strokeCurrent.2 = { s with freeCtr := k } := by
  unfold State.strokeCurrent
  obtain ⟨v, k, h⟩ := s.roundOpen_frame (if s.gau.last < 0 then -s.gau.last / 10 else 0)
  dsimp only
  rw [h]
  exact ⟨k, rfl⟩

theorem State.chargerMeasured_frame (s : State) : ∃ v k, s.chargerMeasured = State.wi { s with freeCtr := k } A.CHG_IMEAS v := by
  unfold State.chargerMeasured
  obtain ⟨v, k, h⟩ := s.roundOpen_frame (s.chg.ima / 10)
  rw [h]
  exact ⟨v, k, rfl⟩

/-- R425: the pack voltage is taken. -/
def State.voltTaken (s : State) (b : Nat) : State := ({ s with sup := { s.sup with battMv := b } } : State).wn A.CHG_VBAT (sat 65535 (b / 10))

/-- R343: the latest three samples are kept. -/
def State.sampleKept (s : State) (x : Sample) (b : Nat) : State := (s.voltTaken b).setStk (fun k => { k with hist := (x :: k.hist).take 3, since := k.since + ((s.voltTaken b).ticksPerMs : Int) })

/-- The sample that s takes with the pack voltage b. -/
def State.sampleNow (s : State) (b : Nat) : Sample := ⟨s.rtc, s.strokeCurrent.1, s.rn A.DRV_VOUT, s.gau.last, b, decide (s.g F.DRV_STAT_LIMBY = 1)⟩

theorem State.strokeSample_of {u : State} {c : Int} (b : Nat) (h : s.strokeCurrent = (c, u)) : s.strokeSample b =
    let x : Sample := ⟨u.rtc, c, u.rn A.DRV_VOUT, u.gau.last, b, decide (u.g F.DRV_STAT_LIMBY = 1)⟩
    let t := u.sampleKept x b
    if t.strokeRuns then (t.setStk (fun k => { k with ms := k.ms + 1 })).strokeTakes x (t.b F.STK_STAT_BATTPH) else t.setStk (fun k => { k with above := if t.istart ≤ c then k.above + 1 else 0 }) := by
  unfold State.strokeSample
  rw [h]
  rfl

theorem State.strokeSample_eq (s : State) (b : Nat) : ∃ k, s.strokeSample b =
    let t := State.sampleKept { s with freeCtr := k } (s.sampleNow b) b
    if s.strokeRuns then (t.setStk (fun k => { k with ms := k.ms + 1 })).strokeTakes (s.sampleNow b) (t.b F.STK_STAT_BATTPH)
    else t.setStk (fun k => { k with above := if s.istart ≤ s.strokeCurrent.1 then k.above + 1 else 0 }) := by
  obtain ⟨k, hk⟩ := s.strokeCurrent_frame
  refine ⟨k, ?_⟩
  have heq := State.strokeSample_of b (Prod.ext rfl hk : s.strokeCurrent = (s.strokeCurrent.1, { s with freeCtr := k }))
  have hx : (⟨s.rtc, s.strokeCurrent.1, State.rn { s with freeCtr := k } A.DRV_VOUT, s.gau.last, b, decide (State.g { s with freeCtr := k } F.DRV_STAT_LIMBY = 1)⟩ : Sample) = s.sampleNow b := rfl
  have hkeep : ∀ a, a ≠ A.CHG_VBAT → (State.sampleKept { s with freeCtr := k } (s.sampleNow b) b).rd a = s.rd a := fun a h => State.rd_wn_ne _ _ h
  have hrun : (State.sampleKept { s with freeCtr := k } (s.sampleNow b) b).strokeRuns = s.strokeRuns := State.b_congr (hkeep _ (by decide))
  have hist : (State.sampleKept { s with freeCtr := k } (s.sampleNow b) b).istart = s.istart := by
    unfold State.istart
    rw [State.g_congr (f := F.STK_DETCFG_ISTART) (hkeep _ (by decide))]
  dsimp only at heq
  rw [hx, hrun, hist] at heq
  exact heq

/-- R357, R358: the end of a stream's interval, by its statistic. -/
theorem State.streamOut_streams {k : Nat} {x : Int} {r : List Int} (late : Nat) (he : s.b (F.STK_CAP_EN k) = true) (hc : s.b F.STK_RECSTAT_CAPT = true) (hs : s.stk.smp.getD k [] = x :: r) :
    s.streamOut k late =
      let t : State := { s with stk := { s.stk with smp := s.stk.smp.set k [] } }
      let q := match s.g (F.STK_CAP_STAT k) with
        | 0 => t.roundOpen (((x :: r).foldl (· + ·) 0 : Int) / ((x :: r).length : Rat))
        | 1 => (r.foldl min x, t)
        | 2 => (r.foldl max x, t)
        | _ => let (f, s) := t.free 65536; ((f : Int), s)
      q.2.recAdd k (q.1 % 65536).toNat late := by
  unfold State.streamOut
  rw [hs]
  exact if_pos (by
    show (s.b (F.STK_CAP_EN k) && s.b F.STK_RECSTAT_CAPT) = true
    rw [he, hc]
    rfl)

/-- R356: an entry of bank 0. -/
theorem State.recPut_shows {delta tag value : Nat} (hc : s.b F.STK_RECSTAT_CAPT = true) (hb : s.g F.STK_RECSTAT_CAPBANK = 0) (hn : s.g (F.STK_RECCNT_COUNT 0) < 8191) (hv : value < 65536) (ht : 16 * delta + tag < 65536) :
    (s.recPut delta tag value).rn (A.STK_REC (2 * s.g (F.STK_RECCNT_COUNT 0))) = value ∧ (s.recPut delta tag value).rn (A.STK_REC (2 * s.g (F.STK_RECCNT_COUNT 0) + 1)) = 16 * delta + tag ∧
      (s.recPut delta tag value).g (F.STK_RECCNT_COUNT 0) = s.g (F.STK_RECCNT_COUNT 0) + 1 := by
  have hput : s.recPut delta tag value =
      ((s.wn (A.STK_REC (2 * s.g (F.STK_RECCNT_COUNT 0))) value).wn (A.STK_REC (2 * s.g (F.STK_RECCNT_COUNT 0) + 1)) (16 * delta + tag)).p (F.STK_RECCNT_COUNT 0) (s.g (F.STK_RECCNT_COUNT 0) + 1) := by
    unfold State.recPut
    rw [if_pos hc, hb]
    dsimp only
    rw [if_neg (Nat.ne_of_lt hn), Nat.mul_zero, Nat.zero_add]
    rfl
  have hcount : ∀ i, A.STK_REC i ≠ A.STK_RECCNT 0 := fun i => by
    show 0x4000 + i ≠ 0x0592 + 0
    omega
  rw [hput]
  generalize s.g (F.STK_RECCNT_COUNT 0) = n at hn
  refine ⟨?_, ?_, ?_⟩
  · refine (State.rn_congr ((State.rd_p_ne _ _ (hcount _)).trans (State.rd_wn_ne _ _ (Nat.succ_ne_self _).symm))).trans ?_
    exact (State.rn_wn_same _ _ _).trans (Nat.mod_eq_of_lt hv)
  · refine (State.rn_congr (State.rd_p_ne _ _ (hcount _))).trans ?_
    exact (State.rn_wn_same _ _ _).trans (Nat.mod_eq_of_lt ht)
  · exact (State.g_p_same _ _ _ (by decide)).trans (Nat.mod_eq_of_lt (by show n + 1 < 2 ^ 14; omega))

/-- R343, R353: what a sample leaves of the stroke's record. -/
theorem State.strokeSample_shows (s : State) (b : Nat) :
    ∃ e, s.strokeSample b = e ∧ e = { s with regs := e.regs, sup := { s.sup with battMv := b }, stk := e.stk, freeCtr := e.freeCtr } ∧ (∀ a, a ≠ A.CHG_VBAT → e.rd a = s.rd a) ∧ e.rn A.CHG_VBAT = min 65535 (b / 10) ∧
      e.stk.since = s.stk.since + (s.ticksPerMs : Int) ∧ e.stk.hist = (s.sampleNow b :: s.stk.hist).take 3 ∧
      (s.strokeRuns = false → e.stk.above = (if s.istart ≤ s.strokeCurrent.1 then s.stk.above + 1 else 0) ∧ e.stk.ms = s.stk.ms) ∧
      (s.strokeRuns = true → e.stk.ms = s.stk.ms + 1 ∧ e.stk.below = (if s.istart ≤ s.strokeCurrent.1 then 0 else s.stk.below + 1) ∧ e.stk.above = s.stk.above) := by
  obtain ⟨k, hk⟩ := s.strokeSample_eq b
  generalize ht : State.sampleKept { s with freeCtr := k } (s.sampleNow b) b = t at hk
  have hrd : ∀ a, a ≠ A.CHG_VBAT → t.rd a = s.rd a := fun a h => by
    rw [← ht]
    exact State.rd_wn_ne _ _ h
  have hv : t.rn A.CHG_VBAT = min 65535 (b / 10) := by
    rw [← ht]
    refine (State.rn_wn_same _ _ _).trans ?_
    unfold sat
    split <;> omega
  have hform : t = { s with regs := t.regs, sup := { s.sup with battMv := b }, stk := t.stk, freeCtr := t.freeCtr } := by rw [← ht]; rfl
  have hstk : t.stk = { s.stk with hist := (s.sampleNow b :: s.stk.hist).take 3, since := s.stk.since + (s.ticksPerMs : Int) } := by
    have htick : (State.voltTaken { s with freeCtr := k } b).ticksPerMs = s.ticksPerMs := by
      unfold State.ticksPerMs
      have hrd : ((State.voltTaken { s with freeCtr := k } b).rd A.STK_RECCFG) = s.rd A.STK_RECCFG := State.rd_wn_ne _ _ (by decide)
      rw [State.g_congr (f := F.STK_RECCFG_TICK) hrd]
    rw [← ht, ← htick]
    rfl
  have hsince : t.stk.since = s.stk.since + (s.ticksPerMs : Int) := by rw [hstk]
  have hhist : t.stk.hist = (s.sampleNow b :: s.stk.hist).take 3 := by rw [hstk]
  have hms : t.stk.ms = s.stk.ms := by rw [hstk]
  have habove : t.stk.above = s.stk.above := by rw [hstk]
  have hbelow : t.stk.below = s.stk.below := by rw [hstk]
  have hist : t.istart = s.istart := by
    unfold State.istart
    rw [State.g_congr (f := F.STK_DETCFG_ISTART) (hrd A.STK_DETCFG (by decide))]
  have hset : ∀ f, t.setStk f = { s with regs := (t.setStk f).regs, sup := { s.sup with battMv := b }, stk := (t.setStk f).stk, freeCtr := (t.setStk f).freeCtr } := fun f => by
    have h1 := congrArg (fun u : State => { u with stk := f t.stk }) hform
    exact h1
  refine ⟨_, hk, ?_⟩
  cases hr : s.strokeRuns with
  | false =>
    dsimp only
    rw [if_neg (by decide)]
    refine ⟨hset _, hrd, hv, hsince, hhist, fun _ => ⟨?_, hms⟩, fun h => Bool.noConfusion h⟩
    show (if s.istart ≤ s.strokeCurrent.1 then t.stk.above + 1 else 0) = _
    rw [habove]
  | true =>
    obtain ⟨f, hf, -, -, fms, fabove, fsince, fhist, fbelow⟩ := (t.setStk (fun k => { k with ms := k.ms + 1 })).strokeTakes_frame (s.sampleNow b) (t.b F.STK_STAT_BATTPH)
    dsimp only
    rw [if_pos rfl, hf]
    refine ⟨hset (fun k => f { k with ms := k.ms + 1 }), hrd, hv, fsince.trans hsince, fhist.trans hhist, fun h => Bool.noConfusion h, fun _ => ⟨?_, ?_, fabove.trans habove⟩⟩
    · refine fms.trans ?_
      show t.stk.ms + 1 = _
      rw [hms]
    · refine fbelow.trans ?_
      show (if t.istart ≤ s.strokeCurrent.1 then 0 else t.stk.below + 1) = _
      rw [hist, hbelow]

end

/-- Settles O51: a sample, a start by the current, an interval's entry and the recorder's words. -/
theorem strokeSamples : Obligations.StrokeSamples := by
  refine ⟨fun s b ha => ?_, fun s x y r hs hn h2 hp _ => ⟨fun harm => ?_, fun harm hauto => ?_⟩, fun s h => congrArg done (State.startDetect_few h), fun s k late x r he hc hs => ⟨fun ht => ?_, fun ht => ?_, fun ht hr => ?_⟩, fun s k late hs => ?_,
    fun s hc h => ?_, fun s h => ?_, fun s delta tag value hc hb hn hv ht => ?_⟩
  · obtain ⟨e, he, hform, hrd, hv, hsince, hhist, hidle, hrun⟩ := s.strokeSample_shows b
    obtain ⟨v, k, hm⟩ := e.chargerMeasured_frame
    have hex : exec (.strokeSample b) s = .next (e.chargerMeasured).settle := by
      rw [(exec_samples s b 0 0).1, ha]
      show done (s.strokeSample b).chargerMeasured = _
      rw [he]
      rfl
    rw [hm] at hex
    refine ⟨_, hex, ?_, fun a h1 h2 => (State.rd_wi_ne _ _ h2).trans (hrd a h1), (State.rn_congr (State.rd_wi_ne _ _ (by decide))).trans hv, hsince, hhist, hidle, hrun⟩
    have h1 := congrArg (fun u : State => State.wi { u with freeCtr := k } A.CHG_IMEAS v) hform
    exact h1
  · obtain ⟨k, hk, -⟩ := s.startStroke_runs x.rtc [x, y] r.head?
    exact ⟨_, congrArg done ((State.startDetect_eq hs hn h2 (by unfold State.running; rw [hp]; rfl)).trans (if_pos harm)), hk.runs, hk.armed, hk.start, hk.dir⟩
  · have heq := (State.startDetect_eq hs hn h2 (by unfold State.running; rw [hp]; rfl)).trans ((if_neg (by rw [harm]; decide)).trans (if_pos hauto))
    have hkc : ((s.setStk (fun k => k.fresh 3 false 0)).p F.STK_STAT_DIR 0).recOpen.openStroke.2.stk.kind = 3 ∧ ((s.setStk (fun k => k.fresh 3 false 0)).p F.STK_STAT_DIR 0).recOpen.openStroke.2.stk.cand = false := by
      rw [State.openStroke_stk]
      exact ((s.setStk (fun k => k.fresh 3 false 0)).p F.STK_STAT_DIR 0).recOpen_kind
    generalize ((s.setStk (fun k => k.fresh 3 false 0)).p F.STK_STAT_DIR 0).recOpen.openStroke = q at heq hkc
    obtain ⟨ok, u⟩ := q
    have hstk : (u.when (!ok) (·.p F.STK_STAT_PKTLOST 1)).stk = u.stk := by cases ok <;> rfl
    rw [← hstk] at hkc
    dsimp only at heq
    generalize u.when (!ok) (·.p F.STK_STAT_PKTLOST 1) = w at heq hkc
    obtain ⟨hkind3, hcand⟩ := hkc
    obtain ⟨k, hk, hkind⟩ := w.startStroke_runs x.rtc [x, y] r.head?
    exact ⟨w.startStroke x.rtc [x, y] r.head?, congrArg done heq, hk.runs, hk.armed, hk.start, hk.kind.trans ((hkind hcand).trans hkind3)⟩
  · refine congrArg done ((State.streamOut_streams late he hc hs).trans ?_)
    rw [ht]
    rfl
  · refine congrArg done ((State.streamOut_streams late he hc hs).trans ?_)
    rw [ht]
    rfl
  · refine congrArg done ((State.streamOut_streams late he hc hs).trans ?_)
    rw [ht, hr]
    show ((State.roundOpen _ (((0 + x : Int) : Rat) / ((1 : Nat) : Rat))).2).recAdd k (((State.roundOpen _ (((0 + x : Int) : Rat) / ((1 : Nat) : Rat))).1) % 65536).toNat late = _
    rw [zero_add, Nat.cast_one, div_one]
    rfl
  · refine congrArg done ?_
    unfold State.streamOut
    rw [hs]
    rfl
  · refine congrArg done (if_pos ?_)
    rw [hc, decide_eq_true h]
    rfl
  · refine congrArg done (if_neg ?_)
    rw [decide_eq_false (by omega), Bool.and_false]
    decide
  · exact State.recPut_shows hc hb hn hv ht

end Sys2Proof.Machine
end

section
/-! PROOFS. The regulators' lockouts, and setpoints with their slews. -/
namespace Sys2Proof.Machine

/-! ### Lockouts (R222, R230) -/

section
variable {s t : State}

theorem exec_regulators (s : State) (n mv : Nat) (w : Word) :
    exec (.inputLockoutChange n mv) s = done (s.inputLevel n mv) ∧ exec (.currentLimitActs n) s = done (s.when (n ≠ 1 && s.cmdOn n) (·.limitActs n)) ∧ exec (.dvsSetpointWrite n w) s = hostRan s (·.hostWrite (A.DOM_VSET n) w) ∧
      exec (.dvsTargetReached n) s = done (s.when (isDvs n && decide ((s.domAt n).slew = .slewing)) (fun s => (s.track n).setDom n (fun d => { d with slew := .settling }))) ∧
      exec (.dvsSlewDone n) s = done (s.when (isDvs n && decide ((s.domAt n).slew = .settling)) (·.dvsDone n)) ∧ exec (.driveSetpointWrite w) s = hostRan s (·.hostWrite A.DRV_VSET w) := ⟨rfl, rfl, rfl, rfl, rfl, rfl⟩

/-- R222: VDRV follows the level where it is the input. -/
def State.inputFed (s : State) (n mv : Nat) : State := s.when (n = 2 || n = 9 || n = 10) (·.setDrv (fun d => { d with vdrv := mv }))

theorem State.inputFed_eq (s : State) (n mv : Nat) : s.inputFed n mv = { s with drv := { s.drv with vdrv := if n = 2 ∨ n = 9 ∨ n = 10 then mv else s.drv.vdrv } } := by
  unfold State.inputFed State.when
  by_cases h : n = 2 ∨ n = 9 ∨ n = 10
  · rw [if_pos h, if_pos (by simpa [or_assoc] using h)]
    rfl
  · rw [if_neg h, if_neg (by simpa [or_assoc] using h)]

/-- VDRV follows the level of a domain but LOCK. -/
theorem State.inputFed_shows (s : State) {n : Nat} (mv : Nat) (h9 : n ≠ 9) : ∃ u, s.inputFed n mv = u ∧ u = { s with drv := { s.drv with vdrv := if n = 2 ∨ n = 10 then mv else s.drv.vdrv } } ∧ ∀ a, u.rd a = s.rd a := by
  refine ⟨_, s.inputFed_eq n mv, ?_, fun _ => rfl⟩
  simp only [h9, false_or]

theorem State.inputLevel_eq (s : State) (n mv : Nat) :
    s.inputLevel n mv = if s.running && n ≠ 1 && lockoutJudge n (s.lockedOut n) mv != s.lockedOut n then (s.inputFed n mv).lockoutChange offNow n (lockoutJudge n (s.lockedOut n) mv) else s.inputFed n mv := by
  have hkeep : (s.inputFed n mv).lockedOut n = s.lockedOut n ∧ (s.inputFed n mv).running = s.running := by
    rw [State.inputFed_eq]
    exact ⟨rfl, rfl⟩
  rw [← hkeep.1, ← hkeep.2]
  rfl

theorem lockoutJudge_eq (n : Nat) (under : Bool) (mv : Nat) :
    lockoutJudge n under mv = if under then decide (mv ≤ if n = 2 ∨ n = 9 ∨ n = 10 then 7000 else 4600) else decide (mv < if n = 2 ∨ n = 9 ∨ n = 10 then 6500 else 4300) := by
  unfold lockoutJudge lockoutLevels
  by_cases h : n = 2 ∨ n = 9 ∨ n = 10
  · rw [if_pos h, if_pos h, if_pos (by simpa [or_assoc] using h)]
  · rw [if_neg h, if_neg h, if_neg (by simpa [or_assoc] using h)]

theorem lockoutJudge_free {n : Nat} (under : Bool) (mv : Nat) (h9 : n ≠ 9) :
    lockoutJudge n under mv = if under then decide (mv ≤ if n = 2 ∨ n = 10 then 7000 else 4600) else decide (mv < if n = 2 ∨ n = 10 then 6500 else 4300) := by
  rw [lockoutJudge_eq]
  simp only [h9, false_or]

theorem lockoutJudge_lock (under : Bool) (mv : Nat) : lockoutJudge 9 under mv = if under then decide (mv ≤ 7000) else decide (mv < 6500) := rfl

/-- R222: a level on the same side of the lockout only feeds VDRV. -/
theorem State.inputLevel_same {n mv : Nat} (h : s.running = false ∨ lockoutJudge n (s.lockedOut n) mv = s.lockedOut n) : s.inputLevel n mv = s.inputFed n mv := by
  rw [State.inputLevel_eq]
  refine if_neg ?_
  rcases h with h | h
  · simp [h]
  · simp [h]

theorem State.inputLevel_other {n mv : Nat} (hr : s.running = true) (hn : n ≠ 1) (h : lockoutJudge n (s.lockedOut n) mv ≠ s.lockedOut n) :
    s.inputLevel n mv = (s.inputFed n mv).lockoutChange offNow n (lockoutJudge n (s.lockedOut n) mv) := by
  rw [State.inputLevel_eq]
  exact if_pos (by simp [hr, hn, h])

theorem State.setLockout_regs (s : State) {n : Nat} (v : Bool) : s.setLockout n v = { s with regs := (s.setLockout n v).regs } := by
  unfold State.setLockout
  split <;> rfl

theorem State.lockedOut_setLockout (s : State) (n : Nat) (v : Bool) : (s.setLockout n v).lockedOut n = v := by
  unfold State.setLockout State.lockedOut
  by_cases h : n = 9
  · rw [if_pos h, if_pos h]
    exact s.b_pb_same _ v (by decide) rfl
  · rw [if_neg h, if_neg h]
    exact s.b_pb_same _ v (by show 13 + 1 ≤ 16; decide) rfl

theorem State.rd_setLockout_ne (s : State) {a n : Nat} (v : Bool) (h : a ≠ A.DOM_RSTAT n) : (s.setLockout n v).rd a = s.rd a := by
  unfold State.setLockout
  split
  next hn =>
    subst hn
    exact State.rd_p_ne _ _ h
  · exact State.rd_p_ne _ _ h

theorem domStat_ne_rstat (n : Nat) : A.DOM_STAT n ≠ A.DOM_RSTAT n := by
  show domBase n + 1 ≠ domBase n + 0x14
  omega

theorem State.cmdOn_setLockout (s : State) (n : Nat) (v : Bool) : (s.setLockout n v).cmdOn n = s.cmdOn n ∧ (s.setLockout n v).maskedDom n = s.maskedDom n :=
  ⟨State.b_congr (s.rd_setLockout_ne v (domStat_ne_rstat n)), State.b_congr (s.rd_setLockout_ne v (domStat_ne_rstat n))⟩

theorem State.blankEdge_mon (s : State) (hit : Nat → Nat → Bool) : s.blankEdge hit = { s with mon := (s.blankEdge hit).mon } := by
  unfold State.blankEdge
  dsimp only
  split <;> rfl

/-- R236: the switch of LOCK stops: its phase, and the windows that its edge starts. -/
theorem State.lockHalt_eq (s : State) (phase : Nat) : ∃ m, s.lockHalt phase = { s.p F.DOM9_LSTAT_PHASE phase with mon := m } := by
  unfold State.lockHalt State.when
  dsimp only
  split
  · exact ⟨_, State.blankEdge_mon _ _⟩
  · exact ⟨_, rfl⟩

theorem State.rd_lockHalt_ne (s : State) {a : Nat} (phase : Nat) (h : a ≠ A.DOM_RSTAT 9) : (s.lockHalt phase).rd a = s.rd a := by
  obtain ⟨m, hm⟩ := s.lockHalt_eq phase
  rw [hm]
  exact s.rd_p_ne phase h

theorem State.lockHalt_stands (s : State) : (s.lockHalt 0).lockedOut 9 = s.lockedOut 9 ∧ (s.lockHalt 0).drv = s.drv ∧ (s.lockHalt 0).dom = s.dom := by
  obtain ⟨m, hm⟩ := s.lockHalt_eq 0
  rw [hm]
  exact ⟨s.b_p_beside (f := F.DOM9_LSTAT_PHASE) (g := F.DOM9_LSTAT_UVLO) 0 (by decide) (by decide), rfl, rfl⟩

theorem State.lockHolds_lockHalt (s : State) : (s.lockHalt 0).lockHolds = false := by
  obtain ⟨m, hm⟩ := s.lockHalt_eq 0
  have hg : (s.lockHalt 0).g F.DOM9_LSTAT_PHASE = 0 := by
    rw [hm]
    exact State.g_p_same s F.DOM9_LSTAT_PHASE 0 (by decide)
  unfold State.lockHolds
  rw [hg]
  rfl

theorem State.lockStart_eq (s : State) : ∃ m, s.lockStart = { s.p F.DOM9_LSTAT_PHASE (if s.g F.DOM9_LCFG_PULLIN = 0 then 2 else 1) with lock := { s.lock with idle := false }, mon := m } := by
  unfold State.lockStart State.turnOn
  exact ⟨_, State.blankEdge_mon _ _⟩

theorem State.lockHolds_lockStart (s : State) : s.lockStart.lockHolds = true := by
  obtain ⟨m, hm⟩ := s.lockStart_eq
  have hg : s.lockStart.g F.DOM9_LSTAT_PHASE = if s.g F.DOM9_LCFG_PULLIN = 0 then 2 else 1 := by
    rw [hm]
    refine (State.g_p_same s F.DOM9_LSTAT_PHASE _ (by decide)).trans ?_
    split <;> rfl
  unfold State.lockHolds
  rw [hg]
  split <;> rfl

theorem State.lockStart_stands (s : State) : s.lockStart.lockedOut 9 = s.lockedOut 9 ∧ s.lockStart.drv = s.drv ∧ s.lockStart.dom = s.dom := by
  obtain ⟨m, hm⟩ := s.lockStart_eq
  rw [hm]
  exact ⟨s.b_p_beside (f := F.DOM9_LSTAT_PHASE) (g := F.DOM9_LSTAT_UVLO) _ (by decide) (by decide), rfl, rfl⟩

/-- R222: a domain that is off only takes the comparator. -/
theorem State.lockoutChange_off {n : Nat} (off : State → Nat → State) (under : Bool) (h : s.cmdOn n = false) : s.lockoutChange off n under = s.setLockout n under := by
  unfold State.lockoutChange
  dsimp only
  rw [(s.cmdOn_setLockout n under).1, h]
  rfl

/-- R230: a domain that is locked out starts no more. -/
theorem State.lockoutChange_falls {n : Nat} (off : State → Nat → State) (h : s.cmdOn n = true) (hm : s.maskedDom n = false) :
    s.lockoutChange off n true = ((s.setLockout n true).setDom n (fun d => { d with ss := false, ssEnded := false })).when (n = 9 && (s.setLockout n true).lockHolds) (·.lockHalt 0) := by
  have hmask : ((((s.setLockout n true).setDom n (fun d => { d with ss := false, ssEnded := false })).when (n = 9 && (s.setLockout n true).lockHolds) (·.lockHalt 0))).maskedDom n = false := by
    refine (State.b_congr (f := F.DOM_STAT_MASKED n) ?_ : _ = (s.setLockout n true).maskedDom n).trans ((s.cmdOn_setLockout n true).2.trans hm)
    unfold State.when
    split
    · refine (State.rd_lockHalt_ne _ 0 ?_).trans rfl
      show 0x0200 + (n - 1) * 0x20 + 1 ≠ 0x0314
      omega
    · rfl
  unfold State.lockoutChange
  dsimp only
  rw [(s.cmdOn_setLockout n true).1, h, if_pos rfl, if_pos rfl]
  refine Eq.trans (congrArg (fun c => State.when _ c _) hmask) rfl

theorem State.lockoutChange_rises {n : Nat} (off : State → Nat → State) (h : s.cmdOn n = true) (hl : n ≠ 9 ∨ s.b F.DOM9_LSTAT_SCLATCH = false) :
    s.lockoutChange off n false = ((s.setLockout n false).setDom n (fun d => { d with ss := true })).when (n = 9) State.lockStart := by
  have hlatch : (decide (n = 9) && (s.setLockout n false).b F.DOM9_LSTAT_SCLATCH) = false := by
    rcases hl with hn | hl
    · rw [decide_eq_false hn, Bool.false_and]
    · by_cases hn : n = 9
      · subst hn
        have hb : (s.setLockout 9 false).b F.DOM9_LSTAT_SCLATCH = s.b F.DOM9_LSTAT_SCLATCH := s.b_p_beside (f := F.DOM9_LSTAT_UVLO) (g := F.DOM9_LSTAT_SCLATCH) 0 (by decide) (by decide)
        rw [hb, hl, Bool.and_false]
      · rw [decide_eq_false hn, Bool.false_and]
  unfold State.lockoutChange
  dsimp only
  rw [(s.cmdOn_setLockout n false).1, h, if_pos rfl, if_neg (by decide), if_neg (by rw [hlatch]; decide)]


/-! ### Setpoints (R84, R221, R232, R298) -/

/-- The setpoints with a slew: register, width and highest code. -/
def slewedSetpoints : List (Nat × Nat × Nat) := [(A.DOM_VSET 4, 9, 150), (A.DOM_VSET 5, 9, 150), (A.DRV_VSET, 12, 2400)]

/-- A write of RW bits from bit 0 on leaves them as written. -/
theorem storedWord_low {a k : Nat} (old w : Word) (hk : k ≤ 16) (hrw : ∀ i, i < k → (rwMask a).testBit i = true) : (⟨a, 0, k⟩ : Fld).get (storedWord a old w) = (⟨a, 0, k⟩ : Fld).get w := by
  have hbit : ∀ i, i < k → (storedWord a old w).toNat.testBit i = w.toNat.testBit i := fun i hi => by
    have h := storedWord_getLsbD a old w (show i < 16 by omega)
    rw [hrw i hi] at h
    refine h.trans ?_
    show _ = w.getLsbD i
    cases old.getLsbD i <;> cases w.getLsbD i <;> cases (w1sMask a).testBit i <;> simp
  show (storedWord a old w).toNat / 2 ^ 0 % 2 ^ k = w.toNat / 2 ^ 0 % 2 ^ k
  rw [pow_zero, Nat.div_one, Nat.div_one]
  refine Nat.eq_of_testBit_eq fun i => ?_
  rw [Nat.testBit_mod_two_pow, Nat.testBit_mod_two_pow]
  by_cases hi : i < k
  · rw [hbit i hi]
  · rw [decide_eq_false hi]
    rfl

theorem State.clampWord_one (s : State) {a : Nat} {f : Fld} (w : Word) (h : (clampedFields.map (·.1)).filter (·.addr = a) = [f]) : s.clampWord a w = s.clampField (w, false) f := by
  unfold State.clampWord
  rw [h]
  rfl

theorem State.clampField_unlimited (f : Fld) (w : Word) (h : s.nvm.windows = []) : s.clampField (w, false) f = (w, false) := by
  unfold State.clampField
  rw [h]
  rfl

/-- R84: the code that a window leaves. -/
theorem State.clampField_code (s : State) {f : Fld} (w : Word) {lo hi : Nat} (hf : f.lsb + f.width ≤ 16) (hle : lo ≤ hi) (hhi : hi < 2 ^ f.width)
    (h : s.nvm.windows.find? (fun x => x.1 = f.addr && x.2.1 = f.lsb && x.2.2.1 = f.width) = some (f.addr, f.lsb, f.width, false, lo, hi)) :
    f.get (s.clampField (w, false) f).1 = max lo (min hi (f.get w)) ∧ (s.clampField (w, false) f).2 = decide (f.get w < lo ∨ hi < f.get w) := by
  have hput : ∀ v, v ≤ hi → f.get (f.put w v) = v := fun v hv => (Fld.get_put f w v hf).trans (Nat.mod_eq_of_lt (by omega))
  rw [s.clampField_window f w h]
  by_cases h1 : f.get w < lo
  · rw [if_pos h1, decide_eq_true (.inl h1)]
    exact ⟨(hput lo hle).trans (by omega), rfl⟩
  · by_cases h2 : hi < f.get w
    · rw [if_neg h1, if_pos h2, decide_eq_true (.inr h2)]
      exact ⟨(hput hi le_rfl).trans (by omega), rfl⟩
    · rw [if_neg h1, if_neg h2, decide_eq_false (by omega)]
      refine ⟨?_, rfl⟩
      show f.get w = _
      omega

theorem slewedSetpoints_mapped : ∀ x ∈ slewedSetpoints, mapped x.1 = true ∧ chgHeld x.1 = false ∧ isRecord x.1 = false ∧ x.1 ≠ A.WAY_MBUDGET ∧ x.1 ≠ A.DRV_PHEN ∧ (∀ i, i < x.2.1 → (rwMask x.1).testBit i = true) ∧ x.2.1 ≤ 16 := by decide +kernel

theorem slewedSetpoints_fields : ∀ x ∈ slewedSetpoints, (clampedFields.map (·.1)).filter (·.addr = x.1) = [⟨x.1, 0, x.2.1⟩] ∧ reservedFields.filter (fun e => e.1.addr = x.1) = [(⟨x.1, 0, x.2.1⟩, [(0, x.2.2)])] := by decide +kernel

theorem State.writeKey_setpoint (s : State) (w : Word) {x : Nat × Nat × Nat} (hx : x ∈ slewedSetpoints) : s.writeKey x.1 w = none := by
  simp only [slewedSetpoints, List.mem_cons, List.not_mem_nil, or_false] at hx
  obtain rfl | rfl | rfl := hx
  · rfl
  · rfl
  · rfl

theorem wordOk_one {a : Nat} {f : Fld} {rs : List (Nat × Nat)} {w : Word} (h : reservedFields.filter (fun e => e.1.addr = a) = [(f, rs)]) (hw : inRanges rs (f.get w) = true) : wordOk a w = true := by
  unfold wordOk
  rw [List.all_eq_true]
  intro e he
  by_cases ha : e.1.addr = a
  · have hmem : e ∈ reservedFields.filter (fun e => e.1.addr = a) := List.mem_filter.mpr ⟨he, decide_eq_true ha⟩
    rw [h, List.mem_singleton] at hmem
    rw [hmem, hw, Bool.or_true]
  · rw [decide_eq_true (show e.1.addr ≠ a from ha)]
    rfl

/-- R84, R298: a host write of such a setpoint stores the code that its window leaves; what follows is the register's own. -/
theorem State.hostWrite_setpoint {a k top : Nat} {w v : Word} {hit : Bool} (hx : (a, k, top) ∈ slewedSetpoints) (hp : s.power ≠ .boot) (hc : s.clampField (w, false) ⟨a, 0, k⟩ = (v, hit)) (ht : (⟨a, 0, k⟩ : Fld).get v ≤ top) :
    ∃ new, s.hostWrite a w = .ok (((s.wr a new).afterStore a (s.rd a)).when hit (·.p F.SYS_IMGSTAT_CLAMP 1)) ∧ (⟨a, 0, k⟩ : Fld).get new = (⟨a, 0, k⟩ : Fld).get v := by
  obtain ⟨hm, hheld, hrec, h1, h2, hrw, hk⟩ := slewedSetpoints_mapped _ hx
  obtain ⟨hcl, hres⟩ := slewedSetpoints_fields _ hx
  have hcode : (⟨a, 0, k⟩ : Fld).get (storedWord a (s.rd a) v) = (⟨a, 0, k⟩ : Fld).get v := storedWord_low _ _ hk hrw
  have hok : wordOk a (storedWord a (s.rd a) v) = true := wordOk_one hres (by
    rw [hcode]
    show (decide (0 ≤ _) && decide (_ ≤ top) || false) = true
    rw [decide_eq_true (Nat.zero_le _), decide_eq_true ht]
    rfl)
  have hbar : s.writeBarred a w = none := by
    unfold State.writeBarred
    rw [hheld, decide_eq_false h1, decide_eq_false h2, Bool.and_false]
    rfl
  refine ⟨storedWord a (s.rd a) v, ?_, hcode⟩
  rw [State.hostWrite_stored hm (.inl hp) (s.writeKey_setpoint w hx)]
  unfold State.storeWord
  rw [hbar, s.clampWord_one w hcl, hc]
  dsimp only
  have hrec' : (decide (A.STK_REC 0 ≤ a) && decide (a ≤ A.STK_REC 32767)) = false := hrec
  rw [hok, hrec', Bool.not_true, Bool.and_false, if_neg Bool.false_ne_true, Bool.false_and, if_neg Bool.false_ne_true]


theorem State.afterStore_domVset (s : State) {n : Nat} (old : Word) (hn : n = 4 ∨ n = 5) : s.afterStore (A.DOM_VSET n) old = s.setVset n (s.g (F.DOM_VSET_CODE n)) := by
  obtain rfl | rfl := hn
  · rfl
  · rfl

/-- R232: with the domain off a setpoint only stands. -/
theorem State.setVset_off {n : Nat} (code : Nat) (h : s.cmdOn n = false) : s.setVset n code = s.p (F.DOM_VSET_CODE n) code := by
  have hon : (s.p (F.DOM_VSET_CODE n) code).cmdOn n = false := (State.b_congr (f := F.DOM_STAT_CMDON n) (s.rd_p_ne code (by show domBase n + 1 ≠ domBase n + 0x10; omega))).trans h
  unfold State.setVset
  dsimp only
  rw [hon, Bool.and_false]
  rfl

/-- R232: a new code of a domain that is on and settled starts a slew to it. -/
theorem State.setVset_slews {n c : Nat} (hn : n = 4 ∨ n = 5) (h : s.cmdOn n = true) (he : (s.domAt n).ssEnded = true) (hlt : c < 512) (hne : s.g (F.DOM_VACT_CODE n) ≠ c) :
    s.setVset n c = (((s.p (F.DOM_VSET_CODE n) c).p (F.DOM_VACT_CODE n) c).p (F.DOM_STAT_MASKED n) 1).setDom n (fun d => { d with slew := .slewing }) := by
  have hon : (s.p (F.DOM_VSET_CODE n) c).cmdOn n = true := (State.b_congr (f := F.DOM_STAT_CMDON n) (s.rd_p_ne c (by show domBase n + 1 ≠ domBase n + 0x10; omega))).trans h
  have hact : (s.p (F.DOM_VSET_CODE n) c).g (F.DOM_VACT_CODE n) = s.g (F.DOM_VACT_CODE n) := State.g_p_ne _ _ (by show domBase n + 0x15 ≠ domBase n + 0x10; omega)
  have hdvs : isDvs n = true := by
    obtain rfl | rfl := hn
    · rfl
    · rfl
  have hend : ((s.p (F.DOM_VSET_CODE n) c).domAt n).ssEnded = true := he
  unfold State.setVset
  dsimp only
  rw [hdvs, hon, hact, hend, Nat.mod_eq_of_lt hlt, if_neg hne]
  rfl

/-- R233: the thresholds that track the setpoint. -/
theorem State.track_frame (s : State) (n : Nat) :
    s.track n = { s with regs := (s.track n).regs } ∧ (∀ a, a ≠ A.CMP_LO (n - 1) → a ≠ A.CMP_HI (n - 1) → (s.track n).rd a = s.rd a) ∧ (s.b (F.DOM_SLEW_TRACK n) = false → s.track n = s) := by
  unfold State.track
  split
  next h =>
    rw [Bool.and_eq_true] at h
    exact ⟨rfl, fun a h1 h2 => (State.rd_wn_ne _ _ h2).trans (State.rd_wn_ne _ _ h1), fun hf => by rw [hf] at h; exact Bool.noConfusion h.2⟩
  · exact ⟨rfl, fun _ _ _ => rfl, fun _ => rfl⟩

/-- R190, R232: the end of a settle time with no report due. -/
theorem State.dvsDone_shows (s : State) {n : Nat} (h1 : 1 ≤ n) (h10 : n ≤ 10) (hd : s.dom.length = 10) (hov : s.over (n - 1) = false) (hsam : s.sampled (n - 1) = false) :
    ∃ q, s.dvsDone n = q ∧ q = { s with regs := q.regs, dom := q.dom, mrq := q.mrq } ∧ (∀ a, a ≠ A.DOM_STAT n → a ≠ A.DOM_RSTAT n → q.rd a = s.rd a) ∧ q.maskedDom n = false ∧ q.g (F.DOM_RSTAT_SLEWDONE n) = 1 ∧ (q.domAt n).slew = .none := by
  generalize hu : ((s.p (F.DOM_STAT_MASKED n) 0).setDom n (fun d => { d with slew := .none, uvRep := false, ovRep := false })).p (F.DOM_RSTAT_SLEWDONE n) 1 = u
  have hdone : s.dvsDone n = u.when (u.b (F.DOM_SLEW_PKT n)) (·.post (.slewDone n (u.g (F.DOM_VACT_CODE n)))) := by
    rw [← hu]
    unfold State.dvsDone
    rw [State.unmask_quiet s offNow h1 h10 hov hsam]
  have hform : u = { s with regs := u.regs, dom := u.dom, mrq := u.mrq } := by
    rw [← hu]
    rfl
  have hrd : ∀ a, a ≠ A.DOM_STAT n → a ≠ A.DOM_RSTAT n → u.rd a = s.rd a := fun a ha hb => by
    have hset : ((s.p (F.DOM_STAT_MASKED n) 0).setDom n (fun d => { d with slew := .none, uvRep := false, ovRep := false })).rd a = s.rd a := s.rd_p_ne (f := F.DOM_STAT_MASKED n) 0 ha
    rw [← hu]
    exact (State.rd_p_ne _ (f := F.DOM_RSTAT_SLEWDONE n) 1 hb).trans hset
  have hm : u.maskedDom n = false := by
    rw [← hu]
    exact (State.b_congr (f := F.DOM_STAT_MASKED n) (State.rd_p_ne _ (f := F.DOM_RSTAT_SLEWDONE n) 1 (domStat_ne_rstat n))).trans (s.b_pb_same (F.DOM_STAT_MASKED n) false (by show 11 + 1 ≤ 16; decide) rfl)
  have hs : u.g (F.DOM_RSTAT_SLEWDONE n) = 1 := by
    rw [← hu]
    exact State.g_p_same _ (F.DOM_RSTAT_SLEWDONE n) 1 (by show 15 + 1 ≤ 16; decide)
  have hslew : (u.domAt n).slew = .none := by
    have hdom := (s.p (F.DOM_STAT_MASKED n) 0).domAt_setDom_same (n := n) (fun d => { d with slew := .none, uvRep := false, ovRep := false }) (by show n - 1 < s.dom.length; omega)
    rw [← hu]
    exact congrArg Domain.slew hdom
  rw [hdone]
  generalize PktBody.slewDone n (u.g (F.DOM_VACT_CODE n)) = b
  clear hu hdone
  cases u.b (F.DOM_SLEW_PKT n) with
  | false => exact ⟨u, rfl, hform, hrd, hm, hs, hslew⟩
  | true =>
    refine ⟨u.post b, rfl, ?_, hrd, hm, hs, hslew⟩
    have hp := congrArg (fun t : State => { t with mrq := (u.post b).mrq }) hform
    exact hp

/-- What the storing of a setpoint leaves where nothing follows. -/
structure State.StoredAt (t s : State) (f : Fld) (c : Nat) : Prop where
  form : t = { s with regs := t.regs }
  code : t.g f = c
  rd : ∀ b, b ≠ f.addr → t.rd b = s.rd b

theorem State.storedAt_dom {n : Nat} (new old : Word) (hn : n = 4 ∨ n = 5) (h : s.cmdOn n = false) : ((s.wr (A.DOM_VSET n) new).afterStore (A.DOM_VSET n) old).StoredAt s (F.DOM_VSET_CODE n) ((F.DOM_VSET_CODE n).get new) := by
  have hon : (s.wr (A.DOM_VSET n) new).cmdOn n = false := (State.b_congr (f := F.DOM_STAT_CMDON n) (s.rd_wr_ne new (by show domBase n + 1 ≠ domBase n + 0x10; omega))).trans h
  have hg : (s.wr (A.DOM_VSET n) new).g (F.DOM_VSET_CODE n) = (F.DOM_VSET_CODE n).get new := by
    unfold State.g
    rw [State.rd_wr_same]
  rw [State.afterStore_domVset _ old hn, State.setVset_off _ hon, hg]
  refine ⟨rfl, (State.g_p_same _ _ _ (by show 0 + 9 ≤ 16; decide)).trans (Nat.mod_eq_of_lt (Nat.mod_lt _ (Nat.two_pow_pos _))), fun b hb => (State.rd_p_ne _ _ hb).trans (State.rd_wr_ne _ _ hb)⟩

theorem State.storedAt_drive (new old : Word) (h : s.drvOn = false) : ((s.wr A.DRV_VSET new).afterStore A.DRV_VSET old).StoredAt s F.DRV_VSET_CODE (F.DRV_VSET_CODE.get new) := by
  have hon : (s.wr A.DRV_VSET new).drvOn = false := (State.b_congr (f := F.DOM_STAT_CMDON 1) (s.rd_wr_ne new (by decide))).trans h
  have hstay : (s.wr A.DRV_VSET new).afterStore A.DRV_VSET old = s.wr A.DRV_VSET new := by
    show (s.wr A.DRV_VSET new).retarget false = _
    unfold State.retarget
    rw [hon]
    rfl
  rw [hstay]
  refine ⟨rfl, ?_, fun b hb => State.rd_wr_ne _ _ hb⟩
  unfold State.g
  rw [State.rd_wr_same]

/-- R84: the mark of a limited field stands beside it. -/
theorem State.StoredAt.marked {f : Fld} {c : Nat} (h : t.StoredAt s f c) (hf : f.addr ≠ A.SYS_IMGSTAT) (hit : Bool) :
    (t.when hit (·.p F.SYS_IMGSTAT_CLAMP 1)) = { s with regs := (t.when hit (·.p F.SYS_IMGSTAT_CLAMP 1)).regs } ∧ (t.when hit (·.p F.SYS_IMGSTAT_CLAMP 1)).g f = c ∧
      (t.when hit (·.p F.SYS_IMGSTAT_CLAMP 1)).b F.SYS_IMGSTAT_CLAMP = (s.b F.SYS_IMGSTAT_CLAMP || hit) ∧ (∀ b, b ≠ f.addr → b ≠ A.SYS_IMGSTAT → (t.when hit (·.p F.SYS_IMGSTAT_CLAMP 1)).rd b = s.rd b) := by
  cases hit with
  | false => exact ⟨h.form, h.code, (State.b_congr (h.rd _ hf.symm)).trans (Bool.or_false _).symm, fun b hb _ => h.rd b hb⟩
  | true =>
    refine ⟨?_, (State.g_p_ne _ _ hf).trans h.code, (t.b_p_one F.SYS_IMGSTAT_CLAMP (by decide) rfl).trans (Bool.or_true _).symm, fun b hb hc => (State.rd_p_ne _ _ hc).trans (h.rd b hb)⟩
    have h1 := congrArg (fun u : State => u.p F.SYS_IMGSTAT_CLAMP 1) h.form
    exact h1

end

/-- Settles O42: lockouts, the current limit, and setpoints with their slews. -/
theorem regulatorEvents : Obligations.RegulatorEvents := by
  refine ⟨fun s n mv hr hn h1 h9 => ⟨fun hl hc hm hv => ?_, fun hl hc hv => ?_, fun hc => ?_, fun h => ?_⟩, fun s mv hr hc => ⟨fun hl hm hv => ?_, fun hl hs hv => ?_, fun h => ?_⟩, fun s n h1 h9 hc => ?_, fun s n c hn hc he hd hlt hne => ?_,
    fun s n hn hsl hd => ?_, fun s n hn hsl hd hov hsam => ?_, fun s n w hn ha hp hc hw ht => ?_, fun s w ha hp hc hw ht => ?_, fun s n lo hi w hn ha hp hc hw hle hhi => ?_, fun s lo hi w ha hp hc hw hle hhi => ?_, fun s n mv hr => ⟨fun hn => ?_, fun h2 h9 h10 => ?_⟩⟩
  · have hside : lockoutJudge n (s.lockedOut n) mv = true := by rw [lockoutJudge_free _ _ h9, hl, if_neg Bool.false_ne_true, decide_eq_true hv]
    have hlevel := State.inputLevel_other hr h1 (by rw [hside, hl]; decide)
    obtain ⟨u, hu, hform, hrd⟩ := s.inputFed_shows (n := n) mv h9
    rw [hside, hu, State.lockoutChange_falls offNow ((State.b_congr (hrd _)).trans hc) ((State.b_congr (hrd _)).trans hm), decide_eq_false h9, Bool.false_and] at hlevel
    refine ⟨(u.setLockout n true).setDom n (fun d => { d with ss := false, ssEnded := false }), congrArg done hlevel, ?_, fun a ha => (u.rd_setLockout_ne true ha).trans (hrd a), u.lockedOut_setLockout n true⟩
    have hlock := congrArg (fun t : State => t.setDom n (fun d => { d with ss := false, ssEnded := false })) (u.setLockout_regs (n := n) true)
    generalize (u.setLockout n true).regs = r at hlock
    rw [hlock, hform]
    rfl
  · have hside : lockoutJudge n (s.lockedOut n) mv = false := by rw [lockoutJudge_free _ _ h9, hl, if_pos rfl, decide_eq_false (Nat.not_le.mpr hv)]
    have hlevel := State.inputLevel_other hr h1 (by rw [hside, hl]; decide)
    obtain ⟨u, hu, hform, hrd⟩ := s.inputFed_shows (n := n) mv h9
    rw [hside, hu, State.lockoutChange_rises offNow ((State.b_congr (hrd _)).trans hc) (.inl h9), decide_eq_false h9] at hlevel
    refine ⟨(u.setLockout n false).setDom n (fun d => { d with ss := true }), congrArg done hlevel, ?_, fun a ha => (u.rd_setLockout_ne false ha).trans (hrd a), u.lockedOut_setLockout n false⟩
    have hlock := congrArg (fun t : State => t.setDom n (fun d => { d with ss := true })) (u.setLockout_regs (n := n) false)
    generalize (u.setLockout n false).regs = r at hlock
    rw [hlock, hform]
    rfl
  · obtain ⟨u, hu, hform, hrd⟩ := s.inputFed_shows (n := n) mv h9
    have hjudge := lockoutJudge_free (s.lockedOut n) mv h9
    have hlow : mv < (if n = 2 ∨ n = 10 then 6500 else 4300) → lockoutJudge n (s.lockedOut n) mv = true := fun hv => by
      rw [hjudge]
      split
      · refine decide_eq_true (Nat.le_of_lt (Nat.lt_of_lt_of_le hv ?_))
        split <;> omega
      · exact decide_eq_true hv
    have hhigh : (if n = 2 ∨ n = 10 then 7000 else 4600) < mv → lockoutJudge n (s.lockedOut n) mv = false := fun hv => by
      rw [hjudge]
      split
      · exact decide_eq_false (Nat.not_le.mpr hv)
      · refine decide_eq_false (Nat.not_lt.mpr (Nat.le_of_lt (Nat.lt_of_le_of_lt ?_ hv)))
        split <;> omega
    by_cases hsame : lockoutJudge n (s.lockedOut n) mv = s.lockedOut n
    · refine ⟨u, congrArg done ((State.inputLevel_same (.inr hsame)).trans hu), ?_, fun a _ => hrd a, fun hv => ?_, fun hv => ?_⟩
      · rw [hform]
      · exact (congrArg (fun t : State => t.lockedOut n) hform).trans (hsame.symm.trans (hlow hv))
      · exact (congrArg (fun t : State => t.lockedOut n) hform).trans (hsame.symm.trans (hhigh hv))
    · have hlevel := State.inputLevel_other hr h1 hsame
      generalize lockoutJudge n (s.lockedOut n) mv = v at hlow hhigh hlevel
      rw [hu, State.lockoutChange_off offNow v ((State.b_congr (hrd _)).trans hc)] at hlevel
      refine ⟨u.setLockout n v, congrArg done hlevel, ?_, fun a ha => (u.rd_setLockout_ne v ha).trans (hrd a), fun hv => (u.lockedOut_setLockout n v).trans (hlow hv), fun hv => (u.lockedOut_setLockout n v).trans (hhigh hv)⟩
      have hlock := u.setLockout_regs (n := n) v
      generalize (u.setLockout n v).regs = r at hlock
      rw [hlock, hform]
  · obtain ⟨u, hu, hform, -⟩ := s.inputFed_shows (n := n) mv h9
    have hsame : lockoutJudge n (s.lockedOut n) mv = s.lockedOut n := by
      rw [lockoutJudge_free _ _ h9]
      rcases h with ⟨hl, hv⟩ | ⟨hl, hv⟩
      · rw [hl, if_neg Bool.false_ne_true, decide_eq_false (Nat.not_lt.mpr hv)]
      · rw [hl, if_pos rfl, decide_eq_true hv]
    exact congrArg done ((State.inputLevel_same (.inr hsame)).trans (hu.trans hform))
  · have hside : lockoutJudge 9 (s.lockedOut 9) mv = true := by rw [lockoutJudge_lock, hl, if_neg Bool.false_ne_true, decide_eq_true hv]
    have hlevel := State.inputLevel_other (n := 9) hr (by decide) (by rw [hside, hl]; decide)
    rw [hside] at hlevel
    generalize hu : s.inputFed 9 mv = u at hlevel
    rw [State.inputFed_eq] at hu
    have hrd : ∀ a, u.rd a = s.rd a := fun a => by rw [← hu]; rfl
    have hvd : u.drv.vdrv = mv := by rw [← hu]; rfl
    have hdom : u.dom = s.dom := by rw [← hu]
    rw [State.lockoutChange_falls offNow ((State.b_congr (hrd _)).trans hc) ((State.b_congr (hrd _)).trans hm)] at hlevel
    generalize hx : (u.setLockout 9 true).setDom 9 (fun d => { d with ss := false, ssEnded := false }) = x at hlevel
    have hxl : x.lockedOut 9 = true := by
      rw [← hx]
      exact u.lockedOut_setLockout 9 true
    have hxd : x.drv = u.drv ∧ x.dom = u.dom.modify 8 (fun d => { d with ss := false, ssEnded := false }) := by
      rw [← hx]
      exact ⟨rfl, rfl⟩
    have hxh : x.lockHolds = (u.setLockout 9 true).lockHolds := by
      rw [← hx]
      rfl
    rw [← hxh] at hlevel
    cases hh : x.lockHolds with
    | false =>
      rw [hh, Bool.and_false] at hlevel
      exact ⟨x, congrArg done hlevel, hxl, hh, (congrArg Drive.vdrv hxd.1).trans hvd, hxd.2.trans (by rw [hdom])⟩
    | true =>
      rw [hh] at hlevel
      obtain ⟨hl', hd', hm'⟩ := x.lockHalt_stands
      exact ⟨x.lockHalt 0, congrArg done hlevel, hl'.trans hxl, x.lockHolds_lockHalt, (congrArg Drive.vdrv (hd'.trans hxd.1)).trans hvd, hm'.trans (hxd.2.trans (by rw [hdom]))⟩
  · have hside : lockoutJudge 9 (s.lockedOut 9) mv = false := by rw [lockoutJudge_lock, hl, if_pos rfl, decide_eq_false (Nat.not_le.mpr hv)]
    have hlevel := State.inputLevel_other (n := 9) hr (by decide) (by rw [hside, hl]; decide)
    rw [hside] at hlevel
    generalize hu : s.inputFed 9 mv = u at hlevel
    rw [State.inputFed_eq] at hu
    have hrd : ∀ a, u.rd a = s.rd a := fun a => by rw [← hu]; rfl
    have hvd : u.drv.vdrv = mv := by rw [← hu]; rfl
    have hdom : u.dom = s.dom := by rw [← hu]
    rw [State.lockoutChange_rises offNow ((State.b_congr (hrd _)).trans hc) (.inr ((State.b_congr (hrd _)).trans hs))] at hlevel
    generalize hx : (u.setLockout 9 false).setDom 9 (fun d => { d with ss := true }) = x at hlevel
    have hxl : x.lockedOut 9 = false := by
      rw [← hx]
      exact u.lockedOut_setLockout 9 false
    have hxd : x.drv = u.drv ∧ x.dom = u.dom.modify 8 (fun d => { d with ss := true }) := by
      rw [← hx]
      exact ⟨rfl, rfl⟩
    obtain ⟨hl', hd', hm'⟩ := x.lockStart_stands
    exact ⟨x.lockStart, congrArg done hlevel, hl'.trans hxl, x.lockHolds_lockStart, (congrArg Drive.vdrv (hd'.trans hxd.1)).trans hvd, hm'.trans (hxd.2.trans (by rw [hdom]))⟩
  · have hsame : lockoutJudge 9 (s.lockedOut 9) mv = s.lockedOut 9 := by
      rw [lockoutJudge_lock]
      rcases h with ⟨hl, hv⟩ | ⟨hl, hv⟩
      · rw [hl, if_neg Bool.false_ne_true, decide_eq_false (Nat.not_lt.mpr hv)]
      · rw [hl, if_pos rfl, decide_eq_true hv]
    exact congrArg done ((State.inputLevel_same (.inr hsame)).trans (s.inputFed_eq 9 mv))
  · refine congrArg done ?_
    have hgo : (decide (n ≠ 1) && s.cmdOn n) = true := by rw [hc, decide_eq_true h1]; rfl
    rw [hgo]
    show (s.setDom n _).when (decide (n = 9) && _) _ = _
    rw [decide_eq_false h9]
    rfl
  · rw [State.setVset_slews hn hc he hlt hne]
    have hn8 : n - 1 < 10 := by omega
    have hfar : ∀ x y, x ≠ y → domBase n + x ≠ domBase n + y := fun x y h => by omega
    refine ⟨?_, ?_, ?_, ?_⟩
    · have hcode : (((s.p (F.DOM_VSET_CODE n) c).p (F.DOM_VACT_CODE n) c).p (F.DOM_STAT_MASKED n) 1).g (F.DOM_VSET_CODE n) = c :=
        (State.g_p_ne _ _ (hfar 0x10 0x01 (by decide))).trans ((State.g_p_ne _ _ (hfar 0x10 0x15 (by decide))).trans ((State.g_p_same s _ _ (by show 0 + 9 ≤ 16; decide)).trans (Nat.mod_eq_of_lt hlt)))
      exact hcode
    · have hcode : (((s.p (F.DOM_VSET_CODE n) c).p (F.DOM_VACT_CODE n) c).p (F.DOM_STAT_MASKED n) 1).g (F.DOM_VACT_CODE n) = c :=
        (State.g_p_ne _ _ (hfar 0x15 0x01 (by decide))).trans ((State.g_p_same _ (F.DOM_VACT_CODE n) c (by show 0 + 9 ≤ 16; decide)).trans (Nat.mod_eq_of_lt hlt))
      exact hcode
    · generalize (s.p (F.DOM_VSET_CODE n) c).p (F.DOM_VACT_CODE n) c = u
      exact State.b_p_one u (F.DOM_STAT_MASKED n) (by show 11 + 1 ≤ 16; decide) rfl
    · exact congrArg Domain.slew (State.domAt_setDom_same _ _ (hd ▸ hn8))
  · obtain ⟨hform, hrd, htrack⟩ := s.track_frame n
    have hgo : (isDvs n && decide ((s.domAt n).slew = .slewing)) = true := by
      rw [hsl]
      obtain rfl | rfl := hn
      · rfl
      · rfl
    have hex : exec (.dvsTargetReached n) s = .next ((s.track n).setDom n (fun d => { d with slew := .settling })).settle := by
      rw [(exec_regulators s n 0 0).2.2.2.1, hgo]
      rfl
    have hlen : (s.track n).dom = s.dom := by rw [hform]
    refine ⟨_, hex, ?_, hrd, ?_, fun h => by rw [htrack h]; rfl⟩
    · generalize (s.track n).regs = r at hform
      rw [hform]
      rfl
    · exact congrArg Domain.slew (State.domAt_setDom_same _ _ (by rw [hlen, hd]; omega))
  · have hn1 : 1 ≤ n ∧ n ≤ 10 := by omega
    have hgo : (isDvs n && decide ((s.domAt n).slew = .settling)) = true := by
      rw [hsl]
      obtain rfl | rfl := hn
      · rfl
      · rfl
    obtain ⟨q, hdone, hform, hrd, hm, hsd, hdn⟩ := s.dvsDone_shows hn1.1 hn1.2 hd hov hsam
    refine ⟨q, ?_, hform, hrd, hm, hsd, hdn⟩
    rw [(exec_regulators s n 0 0).2.2.2.2.1, hgo, ← hdone]
    rfl
  · obtain ⟨new, hw', hg⟩ := State.hostWrite_setpoint (s := s.clocked) (w := w) (a := A.DOM_VSET n) (k := 9) (top := 150) (by obtain rfl | rfl := hn <;> decide) hp (State.clampField_unlimited _ w hw) ht
    have hst := s.clocked.storedAt_dom new (s.clocked.rd (A.DOM_VSET n)) hn hc
    rw [(exec_regulators s n 0 w).2.2.1, hostRan_of_hostAlive ha, hw']
    generalize State.afterStore _ _ _ = t at hst
    exact ⟨t, rfl, hst.form, hst.code.trans hg, hst.rd⟩
  · obtain ⟨new, hw', hg⟩ := State.hostWrite_setpoint (s := s.clocked) (w := w) (a := A.DRV_VSET) (k := 12) (top := 2400) (by decide) hp (State.clampField_unlimited _ w hw) ht
    have hst := s.clocked.storedAt_drive new (s.clocked.rd A.DRV_VSET) hc
    rw [(exec_regulators s 0 0 w).2.2.2.2.2, hostRan_of_hostAlive ha, hw']
    generalize State.afterStore _ _ _ = t at hst
    exact ⟨t, rfl, hst.form, hst.code.trans hg, hst.rd⟩
  · obtain ⟨hcode, hhit⟩ := s.clocked.clampField_code (f := F.DOM_VSET_CODE n) w (by show 0 + 9 ≤ 16; decide) hle (by show hi < 2 ^ 9; omega) hw
    generalize hcl : s.clocked.clampField (w, false) (F.DOM_VSET_CODE n) = q at hcode hhit
    obtain ⟨v, hit⟩ := q
    obtain ⟨new, hw', hg⟩ := State.hostWrite_setpoint (s := s.clocked) (w := w) (a := A.DOM_VSET n) (k := 9) (top := 150) (by obtain rfl | rfl := hn <;> decide) hp hcl (by show (F.DOM_VSET_CODE n).get v ≤ 150; dsimp only at hcode; omega)
    have hst := s.clocked.storedAt_dom new (s.clocked.rd (A.DOM_VSET n)) hn hc
    obtain ⟨h1, h2, h3, h4⟩ := hst.marked (by obtain rfl | rfl := hn <;> decide) hit
    rw [(exec_regulators s n 0 w).2.2.1, hostRan_of_hostAlive ha, hw']
    generalize State.when _ hit _ = t at h1 h2 h3 h4
    exact ⟨t, rfl, h1, h2.trans (hg.trans hcode), by rw [h3, ← hhit]; rfl, h4⟩
  · obtain ⟨hcode, hhit⟩ := s.clocked.clampField_code (f := F.DRV_VSET_CODE) w (by decide) hle (by show hi < 2 ^ 12; omega) hw
    generalize hcl : s.clocked.clampField (w, false) F.DRV_VSET_CODE = q at hcode hhit
    obtain ⟨v, hit⟩ := q
    obtain ⟨new, hw', hg⟩ := State.hostWrite_setpoint (s := s.clocked) (w := w) (a := A.DRV_VSET) (k := 12) (top := 2400) (by decide) hp hcl (by show F.DRV_VSET_CODE.get v ≤ 2400; dsimp only at hcode; omega)
    have hst := s.clocked.storedAt_drive new (s.clocked.rd A.DRV_VSET) hc
    obtain ⟨h1, h2, h3, h4⟩ := hst.marked (by decide) hit
    rw [(exec_regulators s 0 0 w).2.2.2.2.2, hostRan_of_hostAlive ha, hw']
    generalize State.when _ hit _ = t at h1 h2 h3 h4
    exact ⟨t, rfl, h1, h2.trans (hg.trans hcode), by rw [h3, ← hhit]; rfl, h4⟩
  · refine congrArg done ((State.inputLevel_same (.inl hr)).trans ((s.inputFed_eq n mv).trans ?_))
    rw [if_pos (by omega)]
  · refine congrArg done ((State.inputLevel_same (.inl hr)).trans ((s.inputFed_eq n mv).trans ?_))
    rw [if_neg (by omega)]

end Sys2Proof.Machine
end

section
/-! PROOFS. A waiting entry to SHIP clears the sticky bit of a report. -/
namespace Sys2Proof.Machine

/-! ### A waiting entry to SHIP clears the sticky bit of a report -/

/-- POWER-DOWN with its entry to SHIP about to take place and domain 2 still on, under its threshold. -/
def shippingWithReport : State :=
  let s := State.reset
  let s : State := { s with power := .powerDown, ctl := { s.ctl with entryWaits := some .ship, shipping := true, onReq := none, latched := none }, nvm := { s.nvm with waiting := [], cur := none, wbStage := .none },
                            flt := { s.flt with incident := none, raised := [] } }
  ((((s.p (F.DOM_STAT_CMDON 2) 1).p (F.DOM_STAT_MASKED 2) 0).p (F.DOM_CFG_USED 2) 1).pbit A.CMP_UNDER 1 true).setDom 2 (fun d => { d with wasGood := true, uvRep := false })

/-- Whether a step leaves the sticky bit of source 11 set. -/
def reportedSticky : Result → Bool
  | .next t => t.sticky 11
  | _ => true

theorem shippingWithReport_due : shippingWithReport.power = .powerDown ∧ shippingWithReport.uvDue 2 = true ∧ shippingWithReport.sampled (2 - 1) = false ∧ shippingWithReport.dom.length = 10 ∧ shippingWithReport.srcEn (9 + 2) = true := by
  decide +kernel

/-- The entry that has waited takes place at the end of the report's step, and SHIP keeps no volatile register. -/
theorem shippingWithReport_cleared : reportedSticky (exec (.underVoltageReport 2) shippingWithReport) = false := by decide +kernel

/-- Refutes O40: an under-voltage report in POWER-DOWN is said to leave its sticky bit set, also where an entry to SHIP that waited for a write-back takes place at the end of that step: AO's registers are then gone. -/
theorem not_domainReports : ¬ Obligations.DomainReports := by
  rintro ⟨-, -, -, -, -, -, -, hreport, -⟩
  obtain ⟨hp, hdue, hsam, hlen, hen⟩ := shippingWithReport_due
  obtain ⟨e, hex, -, -, -, -, -, -, -, -, -, hsticky⟩ := hreport shippingWithReport 2 (by decide) hp hdue hsam hlen
  have hcleared := shippingWithReport_cleared
  rw [hex] at hcleared
  exact Bool.false_ne_true (hcleared.symm.trans (hsticky hen))

end Sys2Proof.Machine
end

section
/-! PROOFS. Who gets the NVM's bus, and what its accesses leave (R89, R99, R105). -/
namespace Sys2Proof.Machine

/-! ### WBBUSY, and words in a row (R105, R109) -/

section
variable {s t : State}

theorem exec_nvm (s : State) (bs : List Byte) :
    exec .ldPeriodExpiry s = done (s.when s.aoOn State.tryWriteBack) ∧ exec .writeBackRetry s = done (s.when (s.aoOn && s.nvm.wbWanted) State.tryWriteBack) ∧ exec .nvmAccessStart s = done (s.when s.aoOn State.nvmGrant) ∧
      exec .vnvmReady s = done (s.when (s.aoOn && s.nvm.vnvm) (·.setNvm (fun n => { n with ready := true }))) ∧ exec .vnvmOff s = done s.vnvmOff ∧ exec .pageProgramDone s = done s.pageDone ∧ exec .nvmPollTimeout s = done s.pollTimeout ∧
      exec (.verifyReadDone bs) s = done (s.verifyDone bs) ∧ exec (.copyBChunkDone bs) s = done (s.copyBChunk bs) := ⟨rfl, rfl, rfl, rfl, rfl, rfl, rfl, rfl, rfl⟩

/-- R105: a write-back or an erase is in progress. -/
def State.nvmBusy (s : State) : Bool := s.nvm.wbStage ≠ .none || s.nvm.cur = some .writeBack || s.nvm.logLeft ≠ 0 || s.nvm.ldLeft ≠ 0

theorem State.wbBusy_shows (s : State) : s.wbBusy = { s with regs := s.wbBusy.regs } ∧ (∀ a, a ≠ A.SYS_LDSTAT → s.wbBusy.rd a = s.rd a) ∧ s.wbBusy.b F.SYS_LDSTAT_WBBUSY = s.nvmBusy ∧ s.wbBusy.b F.SYS_LDSTAT_WFAIL = s.b F.SYS_LDSTAT_WFAIL ∧
    s.wbBusy.b F.SYS_LDSTAT_DIRTY = s.b F.SYS_LDSTAT_DIRTY :=
  ⟨rfl, fun _ h => State.rd_p_ne _ _ h, s.b_pb_same F.SYS_LDSTAT_WBBUSY _ (by decide) rfl, s.b_p_beside (f := F.SYS_LDSTAT_WBBUSY) (g := F.SYS_LDSTAT_WFAIL) _ (by decide) (by decide),
    s.b_p_beside (f := F.SYS_LDSTAT_WBBUSY) (g := F.SYS_LDSTAT_DIRTY) _ (by decide) (by decide)⟩

theorem State.wbBusy_of (h : s.nvmBusy = true) : s.wbBusy = s.p F.SYS_LDSTAT_WBBUSY 1 := by
  show s.pb F.SYS_LDSTAT_WBBUSY s.nvmBusy = _
  rw [h]
  rfl

/-- Words in a row: each address of the row reads its word, and every other address what it read. -/
theorem State.rn_putWords (s : State) (l : List Nat) (a : Nat) : (∀ i, i < l.length → (s.putWords a l).rn (a + i) = l.getD i 0 % 65536) ∧ ∀ b, (∀ i, i < l.length → b ≠ a + i) → (s.putWords a l).rd b = s.rd b := by
  induction l generalizing s a with
  | nil => exact ⟨fun i hi => absurd hi (Nat.not_lt_zero i), fun _ _ => rfl⟩
  | cons x r ih =>
    obtain ⟨hin, hout⟩ := ih (s.wn a x) (a + 1)
    have hcons : s.putWords a (x :: r) = (s.wn a x).putWords (a + 1) r := rfl
    rw [hcons]
    refine ⟨fun i hi => ?_, fun b hb => ?_⟩
    · cases i with
      | zero =>
        refine (State.rn_congr (hout a fun i _ => by omega)).trans ?_
        exact State.rn_wn_same s a x
      | succ i =>
        have h := hin i (by simpa using hi)
        rw [Nat.add_assoc, Nat.add_comm 1 i] at h
        exact h
    · refine (hout b fun i hi => ?_).trans (State.rd_wn_ne _ _ (hb 0 (Nat.zero_lt_succ _)))
      have h := hb (i + 1) (by simpa using hi)
      omega

theorem State.wrs_form (s : State) (l : List Word) (a : Nat) : s.wrs a l = { s with regs := (s.wrs a l).regs } := by
  induction l generalizing s a with
  | nil => rfl
  | cons x r ih =>
    have h := ih (s.wr a x) (a + 1)
    have hcons : s.wrs a (x :: r) = (s.wr a x).wrs (a + 1) r := rfl
    rw [hcons]
    generalize (s.wr a x).wrs (a + 1) r = u at h ⊢
    exact h

theorem leWords_length : ∀ {n : Nat} {l : List Byte}, l.length = 2 * n → (leWords l).length = n
  | 0, [], _ => rfl
  | n + 1, a :: b :: r, h => congrArg Nat.succ (leWords_length (l := r) (by simp only [List.length_cons] at h; omega))

theorem leBytes_length (n v : Nat) : (leBytes n v).length = n := by
  induction n generalizing v with
  | zero => rfl
  | succ n ih => exact congrArg Nat.succ (ih _)

/-! ### Who gets the bus (R99) -/

/-- R99: of two accesses the earlier, unless the later has precedence. -/
def nvmPick (b : Option NvmUse) (u : NvmUse) : Option NvmUse :=
  match b with
  | none => some u
  | some v => if u.rank < v.rank then some u else some v

theorem nvmNext_eq (l : List NvmUse) : nvmNext l = l.foldl nvmPick none := rfl

theorem nvmPick_some (v u : NvmUse) : nvmPick (some v) u = if u.rank < v.rank then some u else some v := rfl

theorem nvmNext_first {u : NvmUse} {l1 l2 : List NvmUse} (h1 : ∀ v ∈ l1, u.rank < v.rank) (h2 : ∀ v ∈ l2, u.rank ≤ v.rank) : nvmNext (l1 ++ u :: l2) = some u := by
  have hlate : ∀ l : List NvmUse, (∀ v ∈ l, u.rank ≤ v.rank) → l.foldl nvmPick (some u) = some u := fun l hl => by
    induction l with
    | nil => rfl
    | cons v r ih =>
      rw [List.foldl_cons, nvmPick_some, if_neg (Nat.not_lt.mpr (hl v (List.mem_cons_self ..)))]
      exact ih fun w hw => hl w (List.mem_cons_of_mem _ hw)
  have hearly : ∀ (l : List NvmUse) (b : Option NvmUse), (∀ v ∈ l, u.rank < v.rank) → (∀ v, b = some v → u.rank < v.rank) →
      ∀ v, l.foldl nvmPick b = some v → u.rank < v.rank := fun l => by
    induction l with
    | nil => exact fun b _ hb v hv => hb v hv
    | cons w r ih =>
      intro b hl hb v hv
      refine ih _ (fun x hx => hl x (List.mem_cons_of_mem _ hx)) (fun x hx => ?_) v hv
      have hw := hl w (List.mem_cons_self ..)
      cases b with
      | none => exact Option.some.inj hx ▸ hw
      | some y =>
        rw [nvmPick_some] at hx
        split at hx
        · exact Option.some.inj hx ▸ hw
        · exact Option.some.inj hx ▸ hb y rfl
  rw [nvmNext_eq, List.foldl_append, List.foldl_cons]
  have hbefore := hearly l1 none h1 fun v hv => by cases hv
  generalize List.foldl _ none l1 = b at hbefore ⊢
  cases b with
  | none => exact hlate l2 h2
  | some v =>
    rw [nvmPick_some, if_pos (hbefore v rfl)]
    exact hlate l2 h2


/-- R99: the bus is given to an access. -/
def State.busTo (s : State) (u : NvmUse) : State := s.setNvm (fun n => { n with cur := some u, waiting := n.waiting.filter (· ≠ u) })

/-- R89, R90, R94, R98: the access starts, or resumes where it stopped. -/
def State.granted (s : State) (u : NvmUse) : State :=
  let t := s.busTo u
  match u with
  | .writeBack =>
    match t.nvm.wbStage with
    | .none => if t.mayWrite then t.beginWriteBack else t.setNvm (fun n => { n with cur := none, wbWanted := true })
    | .data _ => if t.mayWrite && !t.nvm.wbCut then t else t.endWriteBack true
    | .commit => if t.mayWrite && !t.nvm.wbCut then t else t.endWriteBack true
    | .verify => t
  | .eraseLog => if t.nvm.logLeft = 0 then t.setNvm (fun n => { n with logLeft := t.logPages }) else t
  | .eraseLearned => if t.nvm.ldLeft = 0 then t.setNvm (fun n => { n with ldLeft := t.learnedPages }) else t
  | .record => t
  | .copyB => t

theorem State.nvmGrant_eq {u : NvmUse} {l1 l2 : List NvmUse} (hp : s.power ≠ .boot) (hv : s.nvm.vnvm = true) (hr : s.nvm.ready = true) (hc : s.nvm.cur = none) (hw : s.nvm.waiting.filter s.nvmEligible = l1 ++ u :: l2)
    (h1 : ∀ v ∈ l1, u.rank < v.rank) (h2 : ∀ v ∈ l2, u.rank ≤ v.rank) : s.nvmGrant = (s.granted u).wbBusy := by
  unfold State.nvmGrant
  rw [hw, nvmNext_first h1 h2, hv, hr, hc, decide_eq_true hp]
  cases u <;> rfl

/-- R94, R98: an access that is no write-back. -/
theorem State.granted_other {u : NvmUse} (hu : u ≠ .writeBack) : s.granted u = { s with nvm := { s.nvm with cur := some u, waiting := s.nvm.waiting.filter (· ≠ u), logLeft := (if u = .eraseLog ∧ s.nvm.logLeft = 0 then s.logPages else s.nvm.logLeft), ldLeft := (if u = .eraseLearned ∧ s.nvm.ldLeft = 0 then s.learnedPages else s.nvm.ldLeft) } } := by
  cases u with
  | record => rfl
  | copyB => rfl
  | writeBack => exact absurd rfl hu
  | eraseLog =>
    show (if s.nvm.logLeft = 0 then (s.busTo .eraseLog).setNvm _ else s.busTo .eraseLog) = _
    by_cases h : s.nvm.logLeft = 0
    · rw [if_pos h, if_pos ⟨rfl, h⟩]
      rfl
    · rw [if_neg h, if_neg fun hh => h hh.2]
      rfl
  | eraseLearned =>
    simp only [reduceCtorEq, false_and, if_false, true_and]
    show (if s.nvm.ldLeft = 0 then (s.busTo .eraseLearned).setNvm _ else s.busTo .eraseLearned) = _
    by_cases h : s.nvm.ldLeft = 0
    · rw [if_pos h, if_pos h]
      rfl
    · rw [if_neg h, if_neg h]
      rfl

theorem State.granted_begins (hst : s.nvm.wbStage = .none) (hm : s.mayWrite = true) : s.granted .writeBack = (s.busTo .writeBack).beginWriteBack := by
  have hb : (s.busTo .writeBack).nvm.wbStage = .none := hst
  unfold State.granted
  dsimp only
  rw [hb]
  exact if_pos hm

/-- R89: a write-back whose conditions hold resumes where it stopped. -/
theorem State.granted_goesOn (hst : s.nvm.wbStage ≠ .none) (h : s.nvm.wbStage = .verify ∨ (s.mayWrite = true ∧ s.nvm.wbCut = false)) : s.granted .writeBack = s.busTo .writeBack := by
  have hgo : s.nvm.wbStage ≠ .verify → ((s.busTo .writeBack).mayWrite && !(s.busTo .writeBack).nvm.wbCut) = true := fun hv => by
    obtain ⟨hm, hc⟩ := h.resolve_left hv
    show (s.mayWrite && !s.nvm.wbCut) = true
    rw [hm, hc]
    rfl
  unfold State.granted
  dsimp only
  have hb : (s.busTo .writeBack).nvm.wbStage = s.nvm.wbStage := rfl
  rw [hb]
  generalize s.nvm.wbStage = x at hst hgo
  cases x with
  | none => exact absurd rfl hst
  | data k => exact if_pos (hgo (by simp))
  | commit => exact if_pos (hgo (by simp))
  | verify => rfl

/-- R88, R90: one whose conditions have failed ends, and is wanted again. -/
theorem State.granted_ends (hst : s.nvm.wbStage ≠ .verify) (h : s.mayWrite = false ∨ (s.nvm.wbStage ≠ .none ∧ s.nvm.wbCut = true)) :
    (s.nvm.wbStage = .none ∧ s.granted .writeBack = (s.busTo .writeBack).setNvm (fun n => { n with cur := none, wbWanted := true })) ∨ s.granted .writeBack = (s.busTo .writeBack).endWriteBack true := by
  have hb : (s.busTo .writeBack).nvm.wbStage = s.nvm.wbStage := rfl
  have hno : s.nvm.wbStage ≠ .none → ¬ ((s.busTo .writeBack).mayWrite && !(s.busTo .writeBack).nvm.wbCut) = true := fun hn => by
    show ¬ (s.mayWrite && !s.nvm.wbCut) = true
    rcases h with h | ⟨-, h⟩
    · rw [h, Bool.false_and]
      decide
    · rw [h, Bool.not_true, Bool.and_false]
      decide
  unfold State.granted
  dsimp only
  rw [hb]
  generalize s.nvm.wbStage = x at hst h hno
  cases x with
  | none =>
    refine .inl ⟨rfl, if_neg ?_⟩
    show ¬ s.mayWrite = true
    rw [h.resolve_right fun hh => hh.1 rfl]
    decide
  | data k => exact .inr (if_neg (hno (by simp)))
  | commit => exact .inr (if_neg (hno (by simp)))
  | verify => exact absurd rfl hst

/-- What an access to the bus leaves beside the NVM's record and SYS_LDSTAT. -/
structure State.NvmOnly (t s : State) : Prop where
  form : t = { s with regs := t.regs, nvm := t.nvm }
  rd : ∀ a, a ≠ A.SYS_LDSTAT → t.rd a = s.rd a

theorem State.NvmOnly.wbBusy (h : t.NvmOnly s) : t.wbBusy.NvmOnly s :=
  ⟨congrArg (fun u : State => u.wbBusy) h.form, fun a ha => (t.wbBusy_shows.2.1 a ha).trans (h.rd a ha)⟩

theorem State.granted_nvmOnly (s : State) (u : NvmUse) : (s.granted u).NvmOnly s ∧ (s.granted u).nvm.waiting = s.nvm.waiting.filter (· ≠ u) := by
  have hbus : (s.busTo u).NvmOnly s := ⟨rfl, fun _ _ => rfl⟩
  by_cases hu : u = .writeBack
  · subst hu
    have hend : ((s.busTo .writeBack).endWriteBack true).NvmOnly s ∧ ((s.busTo .writeBack).endWriteBack true).nvm.waiting = s.nvm.waiting.filter (· ≠ .writeBack) := by
      refine ⟨⟨rfl, fun a ha => (s.busTo .writeBack).rd_p_ne (f := F.SYS_LDSTAT_WFAIL) _ ha⟩, ?_⟩
      show (s.nvm.waiting.filter _).filter _ = _
      rw [List.filter_filter]
      simp only [Bool.and_self]
    by_cases hn : s.nvm.wbStage = .none ∧ s.mayWrite = true
    · rw [State.granted_begins hn.1 hn.2]
      exact ⟨⟨rfl, fun _ _ => rfl⟩, rfl⟩
    by_cases hgo : s.nvm.wbStage ≠ .none ∧ (s.nvm.wbStage = .verify ∨ (s.mayWrite = true ∧ s.nvm.wbCut = false))
    · rw [State.granted_goesOn hgo.1 hgo.2]
      exact ⟨hbus, rfl⟩
    have hv : s.nvm.wbStage ≠ .verify := fun h => hgo ⟨by rw [h]; simp, .inl h⟩
    have hfail : s.mayWrite = false ∨ (s.nvm.wbStage ≠ .none ∧ s.nvm.wbCut = true) := by
      cases hm : s.mayWrite with
      | false => exact .inl rfl
      | true =>
        have hs : s.nvm.wbStage ≠ .none := fun h => hn ⟨h, hm⟩
        refine .inr ⟨hs, ?_⟩
        cases hc : s.nvm.wbCut with
        | true => rfl
        | false => exact absurd ⟨hs, .inr ⟨hm, hc⟩⟩ hgo
    rcases State.granted_ends hv hfail with ⟨-, h⟩ | h
    · rw [h]
      exact ⟨⟨rfl, fun _ _ => rfl⟩, rfl⟩
    · rw [h]
      exact hend
  · rw [State.granted_other hu]
    exact ⟨⟨rfl, fun _ _ => rfl⟩, rfl⟩

end
end Sys2Proof.Machine
end

section
/-! PROOFS. The NVM's page programs, erases and checks (R67, R72, R89, R94, R96, R98). -/
namespace Sys2Proof.Machine

/-! ### What a page programmed leaves (R89, R94, R96, R98) -/

section
variable {s t : State}

theorem State.pageDone_of {u : NvmUse} (h : s.nvm.cur = some u) : s.pageDone = s.pageStep.wbBusy := by
  unfold State.pageDone
  rw [h]
  rfl

theorem State.pageStep_writeBack (h : s.nvm.cur = some .writeBack) : s.pageStep = s.wbPageDone := by
  unfold State.pageStep
  rw [h]

theorem State.nvmYield_of {u : NvmUse} (h : s.nvm.cur = some u) :
    s.nvmYield = { s with nvm := { s.nvm with cur := (if s.nvm.waiting.any (fun v => v.rank < u.rank) then none else s.nvm.cur), waiting := (if s.nvm.waiting.any (fun v => v.rank < u.rank) then u :: s.nvm.waiting else s.nvm.waiting) } } := by
  unfold State.nvmYield
  rw [h]
  dsimp only
  split
  · rfl
  · rw [← h]

theorem State.nvmYield_keeps {u : NvmUse} (h : s.nvm.cur = some u) (hn : s.nvm.waiting.any (fun v => v.rank < u.rank) = false) : s.nvmYield = { s with nvm := { s.nvm with cur := some u } } := by
  rw [State.nvmYield_of h, hn, h]
  rfl

/-- R87, R88: a write-back that may start asks for the bus. -/
theorem State.tryWriteBack_asks (hd : s.b F.SYS_LDSTAT_DIRTY = true) (hn : s.isNor = false) (hact : s.wbActive = false) (hm : s.mayWrite = true) :
    s.tryWriteBack = { s with nvm := { s.nvm with wbWanted := false, waiting := s.nvm.waiting ++ [.writeBack], vnvm := true } } := by
  have hfree : (s.nvm.waiting.contains .writeBack || decide (s.nvm.cur = some .writeBack)) = false := by
    have h : (decide (s.nvm.wbStage ≠ .none) || decide (s.nvm.cur = some .writeBack) || s.nvm.waiting.contains .writeBack) = false := hact
    rw [Bool.or_eq_false_iff, Bool.or_eq_false_iff] at h
    rw [h.2, h.1.2]
    rfl
  unfold State.tryWriteBack
  rw [hd, hn, hact, hm]
  show ({ s with nvm := { s.nvm with wbWanted := false, waiting := if (s.nvm.waiting.contains .writeBack || decide (s.nvm.cur = some .writeBack)) = true then _ else _, vnvm := true } } : State) = _
  rw [hfree]
  rfl

/-! ### Records (R96, R97) -/

theorem State.ffNext_congr (h : t.nvm.ring = s.nvm.ring) : t.ffNext = s.ffNext := by
  unfold State.ffNext State.ffNewest State.ffValid State.ffBytes State.ffWords State.ffSeq
  rw [h]

theorem State.ffFull_congr (h : t.nvm.ring = s.nvm.ring) (hn : t.isNor = s.isNor) : t.ffFull = s.ffFull := by
  unfold State.ffFull
  rw [hn, State.ffNext_congr h]
  unfold State.ffSeq
  rw [h]

theorem State.ffNext_lt (s : State) : s.ffNext.1 < 16 := by
  unfold State.ffNext
  split
  · exact Nat.mod_lt _ (by decide)
  · decide

/-- R97: eight words of the ring replaced. -/
theorem getD_replaced {ring ws : List Nat} {k : Nat} (hr : ring.length = 128) (hw : ws.length = 8) (hk : k < 16) (i : Nat) :
    (ring.take (8 * k) ++ ws ++ ring.drop (8 * k + 8)).getD i 0 = if k * 8 ≤ i ∧ i < k * 8 + 8 then ws.getD (i - 8 * k) 0 else ring.getD i 0 := by
  have htake : (ring.take (8 * k)).length = 8 * k := by
    rw [List.length_take]
    omega
  have hfront : (ring.take (8 * k) ++ ws).length = 8 * k + 8 := by
    rw [List.length_append]
    omega
  simp only [List.getD_eq_getElem?_getD]
  by_cases h1 : i < 8 * k
  · rw [if_neg (by omega), List.getElem?_append_left (by omega), List.getElem?_append_left (by omega), List.getElem?_take_of_lt h1]
  · by_cases h2 : i < 8 * k + 8
    · rw [if_pos (by omega), List.getElem?_append_left (by omega), List.getElem?_append_right (by omega), htake]
    · rw [if_neg (by omega), List.getElem?_append_right (by omega), hfront, List.getElem?_drop]
      congr 2
      omega

/-- The words of the record that is programmed next. -/
def State.recordWords (s : State) (bs : List Byte) : List Nat := leWords (leBytes 2 s.ffNext.2 ++ bs ++ [crc8 (leBytes 2 s.ffNext.2 ++ bs)])

/-- R96, R97: the record has entered the ring and SYS_FFLOG. -/
def State.recorded (s : State) (bs : List Byte) : State :=
  ((s.setNvm (fun n => { n with ring := n.ring.take (8 * s.ffNext.1) ++ s.recordWords bs ++ n.ring.drop (8 * s.ffNext.1 + 8) })).putWords (A.SYS_FFLOG (8 * s.ffNext.1)) (s.recordWords bs)).ffStatus

theorem State.pageStep_record {bs : List Byte} {rest : List (List Byte)} (hc : s.nvm.cur = some .record) (hr : s.nvm.records = bs :: rest) :
    s.pageStep = let t := (s.recorded bs).nvmFree.setNvm (fun n => { n with records := if (s.recorded bs).ffFull then [] else rest })
      if t.nvm.records.isEmpty then t else t.nvmRequest .record := by
  unfold State.pageStep
  rw [hc]
  dsimp only
  unfold State.recordDone
  rw [hr]
  rfl

theorem State.recorded_shows {bs : List Byte} (hring : s.nvm.ring.length = 128) (hb : bs.length = 13) :
    (s.recorded bs) = { s with regs := (s.recorded bs).regs, nvm := { s.nvm with ring := s.nvm.ring.take (8 * s.ffNext.1) ++ s.recordWords bs ++ s.nvm.ring.drop (8 * s.ffNext.1 + 8) } } ∧
      (∀ i, (s.recorded bs).nvm.ring.getD i 0 = if s.ffNext.1 * 8 ≤ i ∧ i < s.ffNext.1 * 8 + 8 then (s.recordWords bs).getD (i - 8 * s.ffNext.1) 0 else s.nvm.ring.getD i 0) ∧
      (∀ i, i < 8 → (s.recorded bs).rn (A.SYS_FFLOG (8 * s.ffNext.1 + i)) = (s.recordWords bs).getD i 0 % 65536) ∧
      (∀ a, a ≠ A.SYS_FFSTAT → (∀ i, i < 8 → a ≠ A.SYS_FFLOG (8 * s.ffNext.1 + i)) → (s.recorded bs).rd a = s.rd a) := by
  have hlen : (s.recordWords bs).length = 8 := leWords_length (by simp only [List.length_append, leBytes_length, List.length_singleton]; omega)
  have hk := s.ffNext_lt
  unfold State.recorded
  generalize s.recordWords bs = ws at hlen
  generalize s.ffNext.1 = k at hk
  generalize hu : s.setNvm (fun n => { n with ring := n.ring.take (8 * k) ++ ws ++ n.ring.drop (8 * k + 8) }) = u
  have huform : u = { s with nvm := { s.nvm with ring := s.nvm.ring.take (8 * k) ++ ws ++ s.nvm.ring.drop (8 * k + 8) } } := hu.symm
  have hurd : ∀ a, u.rd a = s.rd a := fun a => by rw [huform]; rfl
  obtain ⟨hin, hout⟩ := u.rn_putWords ws (A.SYS_FFLOG (8 * k))
  have hpform : u.putWords (A.SYS_FFLOG (8 * k)) ws = { u with regs := (u.putWords (A.SYS_FFLOG (8 * k)) ws).regs } := u.wrs_form _ _
  generalize u.putWords (A.SYS_FFLOG (8 * k)) ws = p at hin hout hpform
  have hstat : ∀ a, a ≠ A.SYS_FFSTAT → p.ffStatus.rd a = p.rd a := fun a ha => State.rd_wn_ne _ _ ha
  have hform : p.ffStatus = { s with regs := p.ffStatus.regs, nvm := { s.nvm with ring := s.nvm.ring.take (8 * k) ++ ws ++ s.nvm.ring.drop (8 * k + 8) } } := by
    have h1 : p.ffStatus = { p with regs := p.ffStatus.regs } := rfl
    generalize p.ffStatus.regs = r at h1
    rw [h1, hpform, huform]
  have hadr : ∀ i, A.SYS_FFLOG (8 * k) + i = A.SYS_FFLOG (8 * k + i) := Nat.add_assoc _ _
  refine ⟨hform, fun i => ?_, fun i hi => ?_, fun a ha hb' => ?_⟩
  · have hring' : p.ffStatus.nvm.ring = s.nvm.ring.take (8 * k) ++ ws ++ s.nvm.ring.drop (8 * k + 8) := by rw [hform]
    rw [hring']
    exact getD_replaced hring hlen hk i
  · have hne : A.SYS_FFLOG (8 * k + i) ≠ A.SYS_FFSTAT := by
      show 0x0180 + (8 * k + i) ≠ 0x013A
      omega
    rw [State.rn_congr (hstat _ hne), ← hin i (by omega), hadr]
  · refine (hstat a ha).trans ((hout a fun i hi => ?_).trans (hurd a))
    rw [hadr]
    exact hb' i (by omega)

/-! ### Erases (R94, R98) -/

/-- R98: a page of the log is blank. -/
theorem State.blankLog_shows (s : State) (k n : Nat) :
    s.blankLog k n = { s with regs := (s.blankLog k n).regs, nvm := { s.nvm with ring := (s.blankLog k n).nvm.ring } } ∧
      ∀ i, i < 128 → (s.blankLog k n).rn (A.SYS_FFLOG i) = (if k ≤ i ∧ i < k + n then 0xFFFF else s.nvm.ring.getD i 0xFFFF) % 65536 := by
  generalize hw : (List.range 128).map (fun i => if k ≤ i && decide (i < k + n) then 0xFFFF else s.nvm.ring.getD i 0xFFFF) = ws
  have hlen : ws.length = 128 := by rw [← hw, List.length_map, List.length_range]
  have hget : ∀ i, i < 128 → ws.getD i 0 = if k ≤ i ∧ i < k + n then 0xFFFF else s.nvm.ring.getD i 0xFFFF := fun i hi => by
    rw [← hw, List.getD_eq_getElem?_getD, List.getElem?_map, List.getElem?_range hi]
    simp
  have hb : s.blankLog k n = ((s.setNvm (fun n => { n with ring := ws })).putWords (A.SYS_FFLOG 0) ws).ffStatus := by
    rw [← hw]
    rfl
  generalize hu : s.setNvm (fun n => { n with ring := ws }) = u at hb
  have huform : u = { s with nvm := { s.nvm with ring := ws } } := hu.symm
  obtain ⟨hin, -⟩ := u.rn_putWords ws (A.SYS_FFLOG 0)
  have hpform : u.putWords (A.SYS_FFLOG 0) ws = { u with regs := (u.putWords (A.SYS_FFLOG 0) ws).regs } := u.wrs_form _ _
  generalize u.putWords (A.SYS_FFLOG 0) ws = p at hin hpform hb
  rw [hb]
  refine ⟨?_, fun i hi => ?_⟩
  · have h1 : p.ffStatus = { p with regs := p.ffStatus.regs } := rfl
    generalize p.ffStatus.regs = r at h1
    rw [h1, hpform, huform]
  · have hne : A.SYS_FFLOG i ≠ A.SYS_FFSTAT := by
      show 0x0180 + i ≠ 0x013A
      omega
    have hadr : A.SYS_FFLOG 0 + i = A.SYS_FFLOG i := by
      show 0x0180 + 0 + i = 0x0180 + i
      omega
    have hstat : p.ffStatus.rd (A.SYS_FFLOG i) = p.rd (A.SYS_FFLOG i) := State.rd_wn_ne _ _ hne
    rw [State.rn_congr hstat, ← hget i hi, ← hin i (by omega), hadr]

/-- R98: a page of the log is blank: the next one, unless a record waits. -/
theorem State.pageStep_eraseLog {k : Nat} {u : State} (hc : s.nvm.cur = some .eraseLog) (hl : s.nvm.logLeft = k + 1) (hu : s.blankLog (128 / s.logPages * (s.logPages - (k + 1))) (128 / s.logPages) = u)
    (hform : u = { s with regs := u.regs, nvm := { s.nvm with ring := u.nvm.ring } }) :
    ∃ c w, s.pageStep = { u with nvm := { u.nvm with logLeft := k, cur := c, waiting := w } } ∧ (k = 0 → c = none ∧ w = s.nvm.waiting) ∧
      (k ≠ 0 → c = (if s.nvm.waiting.any (fun v => v.rank < 1) then none else some .eraseLog) ∧ w = if s.nvm.waiting.any (fun v => v.rank < 1) then .eraseLog :: s.nvm.waiting else s.nvm.waiting) := by
  have hleft : u.nvm.logLeft = k + 1 := by
    rw [hform]
    exact hl
  have hucur : u.nvm.cur = some .eraseLog := by
    rw [hform]
    exact hc
  have huwait : u.nvm.waiting = s.nvm.waiting := by rw [hform]
  have hset : u.setNvm (fun n => { n with logLeft := n.logLeft - 1 }) = { u with nvm := { u.nvm with logLeft := k } } := by
    unfold State.setNvm
    dsimp only
    rw [hleft, Nat.add_sub_cancel]
  unfold State.pageStep
  rw [hc]
  dsimp only
  rw [hl, hu, hset]
  by_cases hk : k = 0
  · rw [if_pos hk]
    exact ⟨none, u.nvm.waiting, rfl, fun _ => ⟨rfl, huwait⟩, fun h => absurd hk h⟩
  · rw [if_neg hk, State.nvmYield_of (s := { u with nvm := { u.nvm with logLeft := k } }) hucur]
    refine ⟨_, _, rfl, fun h => absurd h hk, fun _ => ?_⟩
    rw [← huwait, ← hucur]
    exact ⟨rfl, rfl⟩

/-- R94: a page of the learned data is blank. -/
theorem State.pageStep_eraseLearned {k : Nat} (hc : s.nvm.cur = some .eraseLearned) (hl : s.nvm.ldLeft = k + 1) (hw : ∀ v ∈ s.nvm.waiting, v ≠ .record) :
    s.pageStep = ({ s with nvm := { s.nvm with ldLeft := k, cur := (if k = 0 then none else some .eraseLearned), slotAok := s.nvm.slotAok && !s.isNor && decide (k ≠ 3), slotBok := s.nvm.slotBok && !s.isNor && decide (k ≠ 1) } } : State) := by
  have hnone : s.nvm.waiting.any (fun v => v.rank < 1) = false := by
    rw [List.any_eq_false]
    intro v hv hr
    cases v with
    | record => exact hw _ hv rfl
    | eraseLog => exact absurd hr (by decide)
    | eraseLearned => exact absurd hr (by decide)
    | writeBack => exact absurd hr (by decide)
    | copyB => exact absurd hr (by decide)
  have h4 : decide (k + 1 ≠ 4) = decide (k ≠ 3) := decide_eq_decide.mpr (by omega)
  have h2 : decide (k + 1 ≠ 2) = decide (k ≠ 1) := decide_eq_decide.mpr (by omega)
  have hslots : s.slotsErased.setNvm (fun n => { n with ldLeft := n.ldLeft - 1 }) = { s with nvm := { s.nvm with ldLeft := k, slotAok := s.nvm.slotAok && !s.isNor && decide (k ≠ 3), slotBok := s.nvm.slotBok && !s.isNor && decide (k ≠ 1) } } := by
    unfold State.slotsErased State.setNvm
    dsimp only
    rw [hl, h4, h2, Nat.add_sub_cancel]
  unfold State.pageStep
  rw [hc]
  dsimp only
  rw [hslots]
  by_cases hk : k = 0
  · rw [if_pos hk, if_pos hk]
    rfl
  · rw [if_neg hk, if_neg hk]
    exact State.nvmYield_keeps (u := .eraseLearned) hc hnone

theorem State.wbBusy_shown {b : Bool} (h : s.nvmBusy = b) : s.wbBusy = s.pb F.SYS_LDSTAT_WBBUSY b := by
  rw [← h]
  rfl

/-- R72: an image shorter than its header has no length. -/
theorem imgLength_short {bs : List Byte} (h : bs.length < 8) : (match imgLength bs with | some n => decide (n ≤ bs.length) | none => decide (12 ≤ bs.length)) = false := by
  unfold imgLength
  dsimp only
  split_ifs with hc
  · simp only [Bool.and_eq_true, decide_eq_true_eq] at hc
    exact decide_eq_false (by omega)
  · exact decide_eq_false (by omega)

end

/-- Settles O30: the bus's accesses, its page programs, its erases and its checks. -/
theorem nvmBus : Obligations.NvmBus := by
  refine ⟨fun s ha hd hn hact hm => ⟨?_, fun hw => ?_⟩, fun s u l1 l2 ha hp hv hr hc hw h1 h2 => ?_, fun s ha hv => ?_, fun s hp hc hw hg => ?_, fun s hc hst => ?_, fun s k hc hst hm hcut => ?_, fun s k hc hst h => ?_,
    fun s bs rest hc hr hring hb => ?_, fun s k hc hl hlt hring => ?_, fun s k hc hl hw => ?_, fun s hc => ?_, fun s hc hst hseq => ?_, fun s bs hc hlen => ?_⟩
  · have htry := State.tryWriteBack_asks hd hn hact hm
    rw [(exec_nvm s []).1, ha]
    exact congrArg done htry
  · have htry := State.tryWriteBack_asks hd hn hact hm
    rw [(exec_nvm s []).2.1, ha, hw]
    exact congrArg done htry
  · obtain ⟨hfront, hwait⟩ := s.granted_nvmOnly u
    have hbusy := (s.granted u).wbBusy_shows
    have hex : exec .nvmAccessStart s = .next (s.granted u).wbBusy.settle := by
      rw [(exec_nvm s []).2.2.1, ha]
      exact congrArg done (State.nvmGrant_eq hp hv hr hc hw h1 h2)
    refine ⟨(s.granted u).wbBusy, hex, hfront.wbBusy.form, hfront.wbBusy.rd, hwait, fun hu => ?_, fun hu hst hm => ?_, fun hu hst hgo => ?_, fun hu hst hend => ?_⟩
    · have hg := State.granted_other (s := s) hu
      have hcur : (s.granted u).nvm.cur = some u := by rw [hg]
      have hstage : (s.granted u).nvm.wbStage = s.nvm.wbStage := by rw [hg]
      refine ⟨?_, ?_⟩
      · show (s.granted u).nvm = _
        rw [hg]
      · refine hbusy.2.2.1.trans ?_
        show ((decide ((s.granted u).nvm.wbStage ≠ .none) || decide ((s.granted u).nvm.cur = some .writeBack)) || _ || _) = (_ || decide ((s.granted u).nvm.logLeft ≠ 0) || decide ((s.granted u).nvm.ldLeft ≠ 0))
        rw [hcur, hstage, decide_eq_false (fun h => hu (Option.some.inj h) : ¬ some u = some .writeBack), Bool.or_false]
    · subst hu
      have hg := State.granted_begins hst hm
      refine ⟨?_, ?_, ?_, ?_, hbusy.2.2.1.trans ?_⟩
      · show (s.granted .writeBack).nvm.cur = _
        rw [hg]
        rfl
      · show (s.granted .writeBack).nvm.wbStage = _
        rw [hg]
        rfl
      · show (s.granted .writeBack).nvm.wbData = s.slotBytes (s.granted .writeBack).nvm.wbSeq
        rw [hg]
        rfl
      · show (s.granted .writeBack).nvm.wbStale = _
        rw [hg]
        rfl
      · rw [hg]
        rfl
    · subst hu
      have hg := State.granted_goesOn hst hgo
      refine ⟨?_, hbusy.2.2.1.trans ?_⟩
      · show (s.granted .writeBack).nvm = _
        rw [hg]
        rfl
      · rw [hg]
        show (decide (s.nvm.wbStage ≠ .none) || _ || _ || _) = true
        rw [decide_eq_true hst]
        rfl
    · subst hu
      have hshown : (s.granted .writeBack).nvm.cur = none ∧ (s.granted .writeBack).nvm.wbStage = .none ∧ (s.granted .writeBack).nvm.wbWanted = true ∧ (s.granted .writeBack).nvm.logLeft = s.nvm.logLeft ∧ (s.granted .writeBack).nvm.ldLeft = s.nvm.ldLeft := by
        rcases State.granted_ends hst hend with ⟨hn, hg⟩ | hg
        · rw [hg]
          exact ⟨rfl, hn, rfl, rfl, rfl⟩
        · rw [hg]
          exact ⟨rfl, rfl, rfl, rfl, rfl⟩
      obtain ⟨g1, g2, g3, g4, g5⟩ := hshown
      refine ⟨g1, g2, g3, hbusy.2.2.1.trans ?_⟩
      unfold State.nvmBusy
      rw [g1, g2, g4, g5]
      rfl
  · rw [(exec_nvm s []).2.2.2.1, ha, hv]
    rfl
  · rw [(exec_nvm s []).2.2.2.2.1]
    refine congrArg done (if_pos ?_)
    rw [hc, hw, decide_eq_true hg, decide_eq_true hp]
    rfl
  · have hstep : s.pageStep = ({ s with nvm := { s.nvm with wbStage := .verify, cur := (if s.nvm.waiting.any (fun v => v.rank < 2) then none else s.nvm.cur), waiting := (if s.nvm.waiting.any (fun v => v.rank < 2) then .writeBack :: s.nvm.waiting else s.nvm.waiting) } } : State) := by
      rw [State.pageStep_writeBack hc]
      unfold State.wbPageDone
      rw [hst]
      exact State.nvmYield_of (s := s.setNvm (fun n => { n with wbStage := .verify })) hc
    rw [(exec_nvm s []).2.2.2.2.2.1, State.pageDone_of hc, hstep]
    exact congrArg done (State.wbBusy_of rfl)
  · have hstep : s.pageStep = ({ s with nvm := { s.nvm with wbStage := (if 2048 / s.pageSize ≤ k then .commit else .data (k + 1)), cur := (if s.nvm.waiting.any (fun v => v.rank < 2) then none else s.nvm.cur), waiting := (if s.nvm.waiting.any (fun v => v.rank < 2) then .writeBack :: s.nvm.waiting else s.nvm.waiting) } } : State) := by
      rw [State.pageStep_writeBack hc]
      unfold State.wbPageDone
      rw [hst]
      dsimp only
      rw [if_neg (by rw [hm, hcut]; decide)]
      exact State.nvmYield_of (s := s.setNvm (fun n => { n with wbStage := if 2048 / s.pageSize ≤ k then .commit else .data (k + 1) })) hc
    rw [(exec_nvm s []).2.2.2.2.2.1, State.pageDone_of hc, hstep]
    refine congrArg done (State.wbBusy_of ?_)
    show (decide ((if 2048 / s.pageSize ≤ k then WbStage.commit else .data (k + 1)) ≠ .none) || _ || _ || _) = true
    split <;> rfl
  · have hno : (!s.mayWrite || s.nvm.wbCut) = true := by
      rcases h with h | h
      · rw [h]
        rfl
      · rw [h, Bool.or_true]
    have hstep : s.pageStep = s.endWriteBack true := by
      rw [State.pageStep_writeBack hc]
      unfold State.wbPageDone
      rw [hst]
      exact if_pos hno
    have hcur : (s.endWriteBack true).nvm.cur = none := if_pos hc
    obtain ⟨bform, brd, bbusy, bfail, -⟩ := (s.endWriteBack true).wbBusy_shows
    rw [(exec_nvm s []).2.2.2.2.2.1, State.pageDone_of hc, hstep]
    refine ⟨_, rfl, ?_, fun a ha => (brd a ha).trans (s.rd_p_ne (f := F.SYS_LDSTAT_WFAIL) _ ha), bfail.trans (s.b_pb_same F.SYS_LDSTAT_WFAIL false (by decide) rfl), bbusy.trans ?_⟩
    · show ({ s with regs := _, nvm := { s.nvm with wbStage := .none, wbCut := false, wbWanted := true, waiting := _, cur := if s.nvm.cur = some .writeBack then none else s.nvm.cur } } : State) = _
      rw [if_pos hc]
      rfl
    · unfold State.nvmBusy
      rw [hcur]
      rfl
  · rw [(exec_nvm s []).2.2.2.2.2.1, State.pageDone_of hc, State.pageStep_record hc hr]
    obtain ⟨hform, hring', hwords, hrd⟩ := State.recorded_shows hring hb
    generalize s.recorded bs = u at hform hring' hwords hrd
    have hufull : ∀ v : State, v.nvm.ring = u.nvm.ring → (∀ a, a ≠ A.SYS_LDSTAT → v.rd a = u.rd a) → v.ffFull = u.ffFull := fun v h1 h2 => State.ffFull_congr h1 (by
      unfold State.isNor
      rw [State.g_congr (h2 A.SYS_NVMCFG (by decide))])
    generalize hq : (if u.ffFull then [] else rest) = q
    generalize hv : u.nvmFree.setNvm (fun n => { n with records := q }) = v
    have hvform : v = { u with nvm := { u.nvm with cur := none, records := q } } := hv.symm
    have hw : ∃ l, (if v.nvm.records.isEmpty then v else v.nvmRequest .record) = { u with nvm := l } ∧ l.cur = none ∧ l.ring = u.nvm.ring ∧ l.records = q ∧ (q ≠ [] → .record ∈ l.waiting) := by
      rw [hvform]
      cases q with
      | nil => exact ⟨_, rfl, rfl, rfl, rfl, fun h => absurd rfl h⟩
      | cons x r =>
        refine ⟨_, rfl, rfl, rfl, rfl, fun _ => ?_⟩
        show NvmUse.record ∈ if (u.nvm.waiting.contains .record || decide (none = some NvmUse.record)) then u.nvm.waiting else u.nvm.waiting ++ [.record]
        by_cases hin : u.nvm.waiting.contains .record = true
        · rw [if_pos (by rw [hin]; rfl)]
          exact List.contains_iff_mem.mp hin
        · rw [if_neg (by simpa using hin)]
          exact List.mem_append_right _ (List.mem_singleton.mpr rfl)
    obtain ⟨l, hl, hcur, hlring, hrec, hwait⟩ := hw
    dsimp only
    rw [hl]
    obtain ⟨bform, brd, -, -, -⟩ := ({ u with nvm := l } : State).wbBusy_shows
    generalize hz : ({ u with nvm := l } : State).wbBusy = z at bform brd
    have hznvm : z.nvm = l := by rw [bform]
    refine ⟨z, rfl, ?_, ?_, fun i hi => ?_, fun i hi => ?_, ?_, fun h => ?_, fun a h1 h2 h3 => ?_⟩
    · rw [bform, hform]
    · rw [hznvm, hcur]
    · rw [hznvm, hlring]
      exact hring' i
    · refine (State.rn_congr (brd _ ?_)).trans (hwords i hi)
      show 0x0180 + (8 * s.ffNext.1 + i) ≠ 0x0136
      omega
    · rw [hznvm, hrec, ← hq, hufull z (by rw [hznvm, hlring]) brd]
    · rw [hznvm] at h ⊢
      exact hwait (hrec ▸ h)
    · exact (brd a h1).trans (hrd a h2 h3)
  · have hpage : 128 / s.logPages * (s.logPages - (k + 1)) + 128 / s.logPages = 128 / s.logPages * (s.logPages - k) := by
      rw [← Nat.mul_succ]
      congr 1
      omega
    obtain ⟨hform, hwords⟩ := s.blankLog_shows (128 / s.logPages * (s.logPages - (k + 1))) (128 / s.logPages)
    rw [hpage] at hwords
    generalize hu : s.blankLog (128 / s.logPages * (s.logPages - (k + 1))) (128 / s.logPages) = u at hform hwords
    obtain ⟨c, w, hpage, hzero, hmore⟩ := State.pageStep_eraseLog hc hl hu hform
    obtain ⟨bform, brd, -, -, -⟩ := ({ u with nvm := { u.nvm with logLeft := k, cur := c, waiting := w } } : State).wbBusy_shows
    rw [(exec_nvm s []).2.2.2.2.2.1, State.pageDone_of hc, hpage]
    have hany : (s.nvm.waiting.any (fun v => v.rank < 1) = true) ↔ .record ∈ s.nvm.waiting := by
      rw [List.any_eq_true]
      constructor
      · rintro ⟨v, hv, hr⟩
        cases v with
        | record => exact hv
        | eraseLog => exact absurd hr (by decide)
        | eraseLearned => exact absurd hr (by decide)
        | writeBack => exact absurd hr (by decide)
        | copyB => exact absurd hr (by decide)
      · exact fun h => ⟨_, h, rfl⟩
    refine ⟨_, rfl, ?_, rfl, fun h => hzero h, fun h hn => ?_, fun h hm => ?_, fun i hi => ?_⟩
    · rw [bform, hform]
    · obtain ⟨h1, h2⟩ := hmore h
      rw [if_neg fun hh => hn _ (hany.mp hh) rfl] at h1 h2
      exact ⟨h1, h2⟩
    · obtain ⟨h1, h2⟩ := hmore h
      rw [if_pos (hany.mpr hm)] at h1 h2
      exact ⟨h1, h2⟩
    · have hne : A.SYS_FFLOG i ≠ A.SYS_LDSTAT := by
        show 0x0180 + i ≠ 0x0136
        omega
      refine (State.rn_congr (brd _ hne)).trans ((hwords i hi).trans ?_)
      have hdef : s.nvm.ring.getD i 0xFFFF = s.nvm.ring.getD i 0 := by
        rw [List.getD_eq_getElem _ _ (by omega), List.getD_eq_getElem _ _ (by omega)]
      split
      · rfl
      · rw [hdef]
  · have hcur : decide ((if k = 0 then none else some NvmUse.eraseLearned) = some .writeBack) = false := by
      split <;> rfl
    rw [(exec_nvm s []).2.2.2.2.2.1, State.pageDone_of hc, State.pageStep_eraseLearned hc hl hw]
    refine congrArg done (State.wbBusy_shown ?_)
    unfold State.nvmBusy
    dsimp only
    rw [hcur, Bool.or_false]
  · have hstep : s.pollTimeout = ((s.nvmFree.setNvm (fun n => { n with logLeft := 0 })).wbBusy.raise 113) := by
      unfold State.pollTimeout
      rw [hc]
    rw [(exec_nvm s []).2.2.2.2.2.2.1, hstep]
    refine congrArg (fun b => done (State.raise (State.pb _ F.SYS_LDSTAT_WBBUSY b) 113)) ?_
    show (decide (s.nvm.wbStage ≠ .none) || false || false || decide (s.nvm.ldLeft ≠ 0)) = _
    rw [Bool.or_false, Bool.or_false]
  · have hcond : (decide (s.nvm.cur = some .writeBack) && decide (s.nvm.wbStage = .verify)) = true := by
      rw [hc, hst]
      rfl
    generalize hu : ((s.p F.SYS_LDSTAT_WFAIL 0).pb F.SYS_LDSTAT_DIRTY s.nvm.wbStale).w32 (A.SYS_LDSEQ 0) s.nvm.wbSeq = u
    have hdone : s.verifyDone s.nvm.wbData = (u.setNvm (fun n => { n with cur := none, wbStage := .none, wbCut := false, slotAok := n.slotAok || !n.wbSlotB, slotBok := n.slotBok || n.wbSlotB, seqA := if n.wbSlotB then n.seqA else n.wbSeq, seqB := if n.wbSlotB then n.wbSeq else n.seqB })).wbBusy := by
      unfold State.verifyDone
      rw [if_pos hcond, if_pos rfl, ← hu]
    have huform : u = { s with regs := u.regs } := by
      rw [← hu]
      rfl
    have hurd : ∀ a, a ≠ A.SYS_LDSTAT → a ≠ A.SYS_LDSEQ 0 → a ≠ A.SYS_LDSEQ 1 → u.rd a = s.rd a := fun a h1 h2 h3 => by
      rw [← hu]
      exact (State.rd_w32_ne _ _ h2 h3).trans ((State.rd_p_ne _ _ h1).trans (State.rd_p_ne _ _ h1))
    have hstat : u.rd A.SYS_LDSTAT = ((s.p F.SYS_LDSTAT_WFAIL 0).pb F.SYS_LDSTAT_DIRTY s.nvm.wbStale).rd A.SYS_LDSTAT := by
      rw [← hu]
      exact State.rd_w32_ne _ _ (by decide) (by decide)
    have hdirty : u.b F.SYS_LDSTAT_DIRTY = s.nvm.wbStale := (State.b_congr (f := F.SYS_LDSTAT_DIRTY) hstat).trans (State.b_pb_same _ F.SYS_LDSTAT_DIRTY _ (by decide) rfl)
    have hfail : u.b F.SYS_LDSTAT_WFAIL = false :=
      (State.b_congr (f := F.SYS_LDSTAT_WFAIL) hstat).trans ((State.b_p_beside (s.p F.SYS_LDSTAT_WFAIL 0) (f := F.SYS_LDSTAT_DIRTY) (g := F.SYS_LDSTAT_WFAIL) _ (by decide) (by decide)).trans (s.b_pb_same F.SYS_LDSTAT_WFAIL false (by decide) rfl))
    have hq : u.r32 (A.SYS_LDSEQ 0) = s.nvm.wbSeq := by
      rw [← hu]
      exact State.r32_w32 _ _ hseq
    clear hu
    generalize hv : u.setNvm _ = v at hdone
    have hvform : v = { s with regs := u.regs, nvm := v.nvm } := by
      rw [← hv, huform]
      rfl
    have hvrd : ∀ a, v.rd a = u.rd a := fun a => by
      rw [← hv]
      rfl
    have hvn : v.nvm.cur = none ∧ v.nvm.wbStage = .none ∧ v.nvm.logLeft = s.nvm.logLeft ∧ v.nvm.ldLeft = s.nvm.ldLeft := by
      rw [← hv, huform]
      exact ⟨rfl, rfl, rfl, rfl⟩
    obtain ⟨v1, v2, v3, v4⟩ := hvn
    obtain ⟨bform, brd, bbusy, bfail, bdirty⟩ := v.wbBusy_shows
    rw [(exec_nvm s _).2.2.2.2.2.2.2.1, hdone]
    refine ⟨v.wbBusy, rfl, ?_, fun a h1 h2 h3 => (brd a h1).trans ((hvrd a).trans (hurd a h1 h2 h3)), v1, v2, ?_, ?_, ?_, bbusy.trans ?_⟩
    · generalize v.wbBusy.regs = r at bform
      rw [bform, hvform]
    · exact (State.r32_congr ((brd _ (by decide)).trans (hvrd _)) ((brd _ (by decide)).trans (hvrd _))).trans hq
    · exact bdirty.trans ((State.b_congr (hvrd _)).trans hdirty)
    · exact bfail.trans ((State.b_congr (hvrd _)).trans hfail)
    · unfold State.nvmBusy
      rw [v1, v2, v3, v4]
      rfl
  · have hstep : s.copyBChunk bs = s.nvmFree.setNvm (fun n => { n with cbBytes := s.nvm.cbBytes ++ bs.take 256 }) := by
      unfold State.copyBChunk
      rw [if_pos hc]
      exact if_neg fun h => Bool.false_ne_true ((imgLength_short hlen).symm.trans h)
    rw [(exec_nvm s bs).2.2.2.2.2.2.2.2, hstep]
    rfl

end Sys2Proof.Machine
end

section
/-! PROOFS. How a stroke ends and is cancelled (R353, R354). -/
namespace Sys2Proof.Machine

/-! ### The end and the cancel of a stroke (R353, R354) -/

section
variable {s t s₀ : State}

theorem exec_strokeEvents (s : State) (width : Nat) :
    exec (.strokePinHint width) s = done (s.pinHint width) ∧ exec .strokeEndDetect s = done s.endDetect ∧ exec .prearmTimeout s = done (s.when s.preArmed (·.cancelStroke false false)) := ⟨rfl, rfl, rfl⟩

theorem exec_strokeKeys (s : State) (w : Word) :
    exec (.stkHint w) s = hostDone s (·.strokeCommand w) ∧ exec (.stkGo w) s = hostDone s (·.strokeCommand w) ∧ exec (.stkEnd w) s = hostDone s (·.strokeCommand w) ∧
      exec (.stkCancel w) s = hostDone s (·.strokeCommand w) := ⟨rfl, rfl, rfl, rfl⟩

/-- From s to t the recorder's status, the boost and the open packet stand: what follows the end of a capture keeps them. -/
structure State.ClosingOf (t s : State) : Prop where
  rd : t.rd A.STK_RECSTAT = s.rd A.STK_RECSTAT
  boost : t.stk.boost = s.stk.boost
  openCls : t.mrq.openCls = s.mrq.openCls

theorem State.ClosingOf.refl (s : State) : s.ClosingOf s := ⟨rfl, rfl, rfl⟩

theorem State.ClosingOf.trans (h : t.ClosingOf s) (h' : s.ClosingOf s₀) : t.ClosingOf s₀ := ⟨h.rd.trans h'.rd, h.boost.trans h'.boost, h.openCls.trans h'.openCls⟩

theorem State.ClosingOf.wr (h : s.ClosingOf s₀) {a : Nat} {w : Word} (ha : A.STK_RECSTAT ≠ a := by decide) : (s.wr a w).ClosingOf s₀ := ⟨(s.rd_wr_ne w ha).trans h.rd, h.boost, h.openCls⟩

theorem State.ClosingOf.p (h : s.ClosingOf s₀) {f : Fld} {v : Nat} (ha : A.STK_RECSTAT ≠ f.addr := by decide) : (s.p f v).ClosingOf s₀ := h.wr ha

theorem State.ClosingOf.ite {c : Prop} [Decidable c] (hs : s.ClosingOf s₀) (ht : t.ClosingOf s₀) : (if c then s else t).ClosingOf s₀ := by
  split
  · exact hs
  · exact ht

theorem State.ClosingOf.when (h : s.ClosingOf s₀) {c : Bool} {f : State → State} (hf : ∀ t : State, t.ClosingOf s₀ → (f t).ClosingOf s₀) : (s.when c f).ClosingOf s₀ := .ite (hf s h) h

theorem State.ClosingOf.beside (h : s.ClosingOf s₀) {p : Power} {l : Line} {v : Drive} {d : List Domain} {e : List Engine} :
    State.ClosingOf { s with power := p, line := l, drv := v, dom := d, eng := e } s₀ := ⟨h.rd, h.boost, h.openCls⟩

theorem State.ClosingOf.setDrv (h : s.ClosingOf s₀) {f : Drive → Drive} : (s.setDrv f).ClosingOf s₀ := h.beside

theorem State.ClosingOf.setDom (h : s.ClosingOf s₀) {n : Nat} {f : Domain → Domain} : (s.setDom n f).ClosingOf s₀ := h.beside

theorem State.ClosingOf.setLine (h : s.ClosingOf s₀) {f : Line → Line} : (s.setLine f).ClosingOf s₀ := h.beside

theorem State.ClosingOf.trig (h : s.ClosingOf s₀) {k c : Nat} : (s.trig k c).ClosingOf s₀ := h.beside

theorem State.ClosingOf.goWatch (h : s.ClosingOf s₀) : s.goWatch.ClosingOf s₀ := h.beside

theorem State.ClosingOf.setStk (h : s.ClosingOf s₀) {f : Stroke → Stroke} (hf : (f s.stk).boost = s.stk.boost) : (s.setStk f).ClosingOf s₀ := ⟨h.rd, hf.trans h.boost, h.openCls⟩

theorem State.ClosingOf.retarget (h : s.ClosingOf s₀) {fast : Bool} : (s.retarget fast).ClosingOf s₀ := by
  unfold State.retarget
  exact .ite h (.ite h.p.p (.ite h.p.p.p.setDom.setDrv h.p.p.setDrv))

theorem State.ClosingOf.weirOff (h : s.ClosingOf s₀) : s.weirOff.ClosingOf s₀ := h.p.p

theorem State.ClosingOf.handOff (h : s.ClosingOf s₀) : s.handOff.ClosingOf s₀ := by
  unfold State.handOff
  exact .ite h (.ite h.weirOff.setDrv h)

theorem State.ClosingOf.endEmergency (h : s.ClosingOf s₀) : s.endEmergency.ClosingOf s₀ := by
  unfold State.endEmergency
  exact h.p.when fun _ ht => ht.handOff

theorem State.ClosingOf.releaseToll (h : s.ClosingOf s₀) : s.releaseToll.ClosingOf s₀ := by
  unfold State.releaseToll
  exact .ite (h.setStk rfl) h

theorem State.ClosingOf.handBack (h : s.ClosingOf s₀) : s.handBack.ClosingOf s₀ := by
  unfold State.handBack
  exact .ite h.setLine.weirOff.p h.setLine

theorem State.ClosingOf.strokeIdle (h : s.ClosingOf s₀) : s.strokeIdle.ClosingOf s₀ := by
  unfold State.strokeIdle
  have h1 := ((h.p (f := F.STK_STAT_PREARM) (v := 0)).p (f := F.STK_STAT_RUNNING) (v := 0)).p (f := F.STK_STAT_PROVING) (v := 0) |>.setStk (f := fun k => { k with above := 0, cand := false }) rfl
  dsimp only
  generalize (((s.p F.STK_STAT_PREARM 0).p F.STK_STAT_RUNNING 0).p F.STK_STAT_PROVING 0).setStk _ = u at h1 ⊢
  have h2 : (u.when u.line.hbWait State.handBack).ClosingOf s₀ := h1.when fun _ ht => ht.handBack
  generalize u.when u.line.hbWait State.handBack = v at h2 ⊢
  have h3 : (v.setStk (fun k => { k with heldWatch := false })).ClosingOf s₀ := h2.setStk rfl
  exact .ite (.ite h3.goWatch h3) h2

/-- The bits of the stroke's status that t shows: no pre-arm, no run, no emergency. -/
theorem State.strokeIdle_stat (s : State) : s.strokeIdle.preArmed = false ∧ s.strokeIdle.strokeRuns = false ∧ s.strokeIdle.b F.STK_STAT_EMERG = s.b F.STK_STAT_EMERG := by
  have hrd : s.strokeIdle.rd A.STK_STAT = (((s.p F.STK_STAT_PREARM 0).p F.STK_STAT_RUNNING 0).p F.STK_STAT_PROVING 0).rd A.STK_STAT := by
    unfold State.strokeIdle
    have hback : ∀ t : State, t.handBack.rd A.STK_STAT = t.rd A.STK_STAT := fun t => by
      unfold State.handBack State.weirOff
      dsimp only
      split
      · exact (State.rd_p_ne _ _ (by decide)).trans ((State.rd_p_ne _ _ (by decide)).trans (State.rd_p_ne _ _ (by decide)))
      · rfl
    generalize ((s.p F.STK_STAT_PREARM 0).p F.STK_STAT_RUNNING 0).p F.STK_STAT_PROVING 0 = u
    have hwhen : ∀ (t : State) (c : Bool), (t.when c State.handBack).rd A.STK_STAT = t.rd A.STK_STAT := fun t c => by
      cases c
      · rfl
      · exact hback t
    dsimp only
    split
    · split
      · exact hwhen _ _
      · exact hwhen _ _
    · exact hwhen _ _
  have h1 : (s.p F.STK_STAT_PREARM 0).b F.STK_STAT_PREARM = false := s.b_pb_same F.STK_STAT_PREARM false (by decide) rfl
  have h2 : ((s.p F.STK_STAT_PREARM 0).p F.STK_STAT_RUNNING 0).b F.STK_STAT_RUNNING = false := (s.p F.STK_STAT_PREARM 0).b_pb_same F.STK_STAT_RUNNING false (by decide) rfl
  have hpair : s.strokeIdle.preArmed = false ∧ s.strokeIdle.strokeRuns = false := ⟨
    (State.b_congr (f := F.STK_STAT_PREARM) hrd).trans ((State.b_p_beside _ 0 (by decide) (by decide)).trans ((State.b_p_beside _ 0 (by decide) (by decide)).trans h1)),
    (State.b_congr (f := F.STK_STAT_RUNNING) hrd).trans ((State.b_p_beside _ 0 (by decide) (by decide)).trans h2)⟩
  exact ⟨hpair.1, hpair.2, (State.b_congr (f := F.STK_STAT_EMERG) hrd).trans
    ((State.b_p_beside _ 0 (by decide) (by decide)).trans ((State.b_p_beside _ 0 (by decide) (by decide)).trans (s.b_p_beside 0 (by decide) (by decide))))⟩

theorem State.endEmergency_stat (s : State) : s.endEmergency.b F.STK_STAT_EMERG = false := by
  have hlog : s.endEmergency.LogOf (s.p F.STK_STAT_EMERG 0) := by
    unfold State.endEmergency State.when
    exact .ite (State.LogOf.refl _).handOff (.refl _)
  exact hlog.b.trans (s.b_pb_same F.STK_STAT_EMERG false (by decide) rfl)

/-- What ends every stroke and cancel: the emergency, the toll, DRIVE's trigger 5, and IDLE. -/
def State.strokeOver (s : State) : State := ((s.endEmergency.releaseToll).trig 1 5).strokeIdle

theorem State.strokeOver_shows (s : State) : s.strokeOver.preArmed = false ∧ s.strokeOver.strokeRuns = false ∧ s.strokeOver.b F.STK_STAT_EMERG = false ∧ s.strokeOver.ClosingOf s := by
  obtain ⟨hpre, hrun, hem⟩ := ((s.endEmergency.releaseToll).trig 1 5).strokeIdle_stat
  have hrel : s.endEmergency.releaseToll.rd A.STK_STAT = s.endEmergency.rd A.STK_STAT := by
    unfold State.releaseToll
    split
    · rfl
    · rfl
  exact ⟨hpre, hrun, hem.trans ((State.b_congr (f := F.STK_STAT_EMERG) hrel).trans s.endEmergency_stat), (State.ClosingOf.refl s).endEmergency.releaseToll.trig.strokeIdle⟩

/-! ### What the queue's reset leaves (R658) -/

/-- R658: of the registers a reset of the queue writes its own, and PKTLOST of an open packet that it loses. -/
theorem State.queueReset_shows (s : State) :
    s.queueReset.rtc = s.rtc ∧ s.queueReset.power = s.power ∧ s.queueReset.drv = s.drv ∧ (∀ a, a ≠ A.STK_STAT → a ≠ A.MRQ_CNTRST → a ≠ A.MRQ_STAT → s.queueReset.rd a = s.rd a) ∧
      ∃ c : Bool, s.queueReset.rd A.STK_STAT = (s.when c (·.p F.STK_STAT_PKTLOST 1)).rd A.STK_STAT := by
  obtain ⟨c, u, hu, hrtc, hpow, hdrv, hregs⟩ : ∃ (c : Bool) (u : State), u = s.when c (·.p F.STK_STAT_PKTLOST 1) ∧ s.queueReset.rtc = ((u.inc A.MRQ_CNTRST).p F.MRQ_STAT_RST 1).rtc ∧
      s.queueReset.power = ((u.inc A.MRQ_CNTRST).p F.MRQ_STAT_RST 1).power ∧ s.queueReset.drv = ((u.inc A.MRQ_CNTRST).p F.MRQ_STAT_RST 1).drv ∧
      ∀ a, s.queueReset.rd a = ((u.inc A.MRQ_CNTRST).p F.MRQ_STAT_RST 1).rd a := ⟨_, _, rfl, rfl, rfl, rfl, fun _ => rfl⟩
  have hform := u.inc_form A.MRQ_CNTRST
  have hwhen : u.rtc = s.rtc ∧ u.power = s.power ∧ u.drv = s.drv ∧ ∀ a, a ≠ A.STK_STAT → u.rd a = s.rd a := by
    rw [hu]
    cases c
    · exact ⟨rfl, rfl, rfl, fun _ _ => rfl⟩
    · exact ⟨rfl, rfl, rfl, fun a ha => s.rd_p_ne (f := F.STK_STAT_PKTLOST) _ ha⟩
  obtain ⟨hrtcU, hpowU, hdrvU, hrdU⟩ := hwhen
  refine ⟨hrtc.trans ((congrArg State.rtc hform).trans hrtcU), hpow.trans ((congrArg State.power hform).trans hpowU), hdrv.trans ((congrArg State.drv hform).trans hdrvU), fun a h1 h2 h3 => ?_, c, ?_⟩
  · exact (hregs a).trans ((State.rd_p_ne _ _ h3).trans ((u.rd_inc_ne h2).trans (hrdU a h1)))
  · exact (hregs _).trans ((State.rd_p_ne _ _ (by decide)).trans ((u.rd_inc_ne (by decide)).trans (congrArg (fun v : State => v.rd A.STK_STAT) hu)))

theorem State.checkPtrs_rd (s : State) (c : Nat) : (s.checkPtrs c).rd A.STK_RECSTAT = s.rd A.STK_RECSTAT := by
  unfold State.checkPtrs
  split
  · rfl
  · obtain ⟨-, -, -, hrd, -⟩ := s.queueReset_shows
    exact hrd _ (by decide) (by decide) (by decide)

/-- R354: a cancelled stroke: idle, its capture dropped, the boost gone and no packet open. -/
theorem State.rewindStroke_openCls (s : State) : s.rewindStroke.mrq.openCls = none := by
  unfold State.rewindStroke
  split
  next h => exact h
  next cls h =>
    dsimp only
    split
    next h' => exact h'
    next => rfl

theorem State.rewindStroke_rd (s : State) : s.rewindStroke.rd A.STK_RECSTAT = s.rd A.STK_RECSTAT := by
  unfold State.rewindStroke
  split
  · rfl
  · dsimp only
    split
    · exact s.checkPtrs_rd _
    · exact s.checkPtrs_rd _

theorem State.cancelStroke_shows (s : State) (fast : Bool) :
    (s.cancelStroke false fast).preArmed = false ∧ (s.cancelStroke false fast).strokeRuns = false ∧ (s.cancelStroke false fast).b F.STK_RECSTAT_CAPT = false ∧
      (s.cancelStroke false fast).stk.boost = 0 ∧ (s.cancelStroke false fast).mrq.openCls = none := by
  have hu : ∃ u : State, s.cancelStroke false fast = ((u.setStk (fun k => { k with boost := 0 })).retarget fast).strokeOver ∧ u.b F.STK_RECSTAT_CAPT = false ∧ u.mrq.openCls = none :=
    ⟨((s.p F.STK_RECSTAT_CAPT 0).pb F.STK_RECSTAT_ABAND false).burstStop.rewindStroke, rfl,
      (State.b_congr (f := F.STK_RECSTAT_CAPT) (State.rewindStroke_rd _)).trans (((s.p F.STK_RECSTAT_CAPT 0).b_p_beside 0 (by decide) (by decide)).trans (s.b_pb_same F.STK_RECSTAT_CAPT false (by decide) rfl)),
      State.rewindStroke_openCls _⟩
  obtain ⟨u, he, hcapt, hcls⟩ := hu
  rw [he]
  obtain ⟨hpre, hrun, -, hclose⟩ := ((u.setStk (fun k => { k with boost := 0 })).retarget fast).strokeOver_shows
  have hall := hclose.trans (State.ClosingOf.refl (u.setStk (fun k => { k with boost := 0 }))).retarget
  exact ⟨hpre, hrun, (State.b_congr (f := F.STK_RECSTAT_CAPT) hall.rd).trans hcapt, hall.boost, hall.openCls.trans hcls⟩

/-! ### The end of a running stroke (R353) -/

/-- The recorder's status in t is w. -/
structure State.Recorded (t : State) (w : Word) : Prop where
  rd : t.rd A.STK_RECSTAT = w

theorem State.Recorded.stands {w : Word} (h : s.Recorded w) (hr : t.regs = s.regs) : t.Recorded w := ⟨(congrArg (fun m => m.get A.STK_RECSTAT) hr).trans h.rd⟩

section
variable {w : Word}

theorem State.Recorded.wr (h : s.Recorded w) {a : Nat} {v : Word} (ha : A.STK_RECSTAT ≠ a := by decide) : (s.wr a v).Recorded w := ⟨(s.rd_wr_ne v ha).trans h.rd⟩

theorem State.Recorded.wn (h : s.Recorded w) {a v : Nat} (ha : A.STK_RECSTAT ≠ a := by decide) : (s.wn a v).Recorded w := h.wr ha

theorem State.Recorded.wi (h : s.Recorded w) {a : Nat} {v : Int} (ha : A.STK_RECSTAT ≠ a := by decide) : (s.wi a v).Recorded w := h.wr ha

theorem State.Recorded.p (h : s.Recorded w) {f : Fld} {v : Nat} (ha : A.STK_RECSTAT ≠ f.addr := by decide) : (s.p f v).Recorded w := h.wr ha

theorem State.Recorded.inc (h : s.Recorded w) {a : Nat} (ha : A.STK_RECSTAT ≠ a := by decide) : (s.inc a).Recorded w := ⟨(s.rd_inc_ne ha).trans h.rd⟩

theorem State.Recorded.when (h : s.Recorded w) {c : Bool} {f : State → State} (hf : ∀ t : State, t.Recorded w → (f t).Recorded w) : (s.when c f).Recorded w := by
  cases c
  · exact h
  · exact hf s h

theorem State.Recorded.ite {c : Prop} [Decidable c] (hs : s.Recorded w) (ht : t.Recorded w) : (if c then s else t).Recorded w := by
  split
  · exact hs
  · exact ht

theorem State.Recorded.ite_snd {α : Type} {c : Prop} [Decidable c] {x y : α × State} (hx : x.2.Recorded w) (hy : y.2.Recorded w) : (if c then x else y).2.Recorded w := by
  split
  · exact hx
  · exact hy

theorem State.Recorded.foldl {α : Type} (h : s.Recorded w) {l : List α} {f : State → α → State} (hf : ∀ (t : State) (x : α), t.Recorded w → (f t x).Recorded w) : (l.foldl f s).Recorded w := by
  induction l generalizing s with
  | nil => exact h
  | cons x xs ih => exact ih (hf s x h)

theorem State.Recorded.roundOpen (h : s.Recorded w) {x : Rat} : (s.roundOpen x).2.Recorded w := .ite_snd h (h.stands rfl)

theorem State.Recorded.inc32 (h : s.Recorded w) {dir : Nat} : (s.inc32 (A.STK_CNT (2 * dir))).Recorded w := by
  have hne : ∀ k, A.STK_RECSTAT ≠ A.STK_CNT k := fun k => by show 0x0591 ≠ 0x05B0 + k; omega
  unfold State.inc32
  exact .ite ⟨(State.rd_w32_ne _ _ (hne _) (hne (2 * dir + 1))).trans h.rd⟩ h

theorem State.Recorded.learn (h : s.Recorded w) {dir : Nat} (hd : dir < 2) {xs : List Rat} {den : Nat} : (s.learn dir xs den).Recorded w := by
  have hcode : ∀ i, A.STK_RECSTAT ≠ if dir = 0 then A.STK_REFO i else A.STK_REFC i := fun i => by
    show 0x0591 ≠ if dir = 0 then 0xC200 + i else 0xC300 + i
    split <;> omega
  have hcnt : A.STK_RECSTAT ≠ A.STK_REFCNT dir := by show 0x0591 ≠ 0x058B + dir; omega
  unfold State.learn
  dsimp only
  have hfold : ((List.range 256).foldl (fun s i =>
      (s.roundOpen ((s.ref dir i : Rat) + (xs.getD i 0 - (s.ref dir i : Rat)) / (den : Rat))).2.wi (if dir = 0 then A.STK_REFO i else A.STK_REFC i)
        (s.roundOpen ((s.ref dir i : Rat) + (xs.getD i 0 - (s.ref dir i : Rat)) / (den : Rat))).1) s).Recorded w := h.foldl fun _ _ ht => ht.roundOpen.wi (hcode _)
  generalize (List.range 256).foldl _ s = u at hfold ⊢
  have hdirty : (u.inc (A.STK_REFCNT dir)).dirty.Recorded w := State.Recorded.stands ((hfold.inc hcnt).p (f := F.SYS_LDSTAT_DIRTY) (v := 1)) rfl
  exact hdirty.when fun _ ht => ht.stands rfl

theorem State.Recorded.compareRef (h : s.Recorded w) {dir : Nat} {xs : List Rat} {m : Nat} : (s.compareRef dir xs m).2.Recorded w :=
by
  have hfree : ∀ {r : State} {n : Nat}, r.Recorded w → (r.free n).2.Recorded w := fun hr => hr.stands rfl
  unfold State.compareRef
  refine .ite_snd (hfree (n := 6553) ?_) ?_
  all_goals exact .ite_snd (hfree (n := 256) h) h

theorem State.Recorded.commitStroke (h : s.Recorded w) {payload : List (BitVec 32)} : (s.commitStroke payload).Recorded w := by
  unfold State.commitStroke
  split
  · exact h
  · exact h.stands rfl

theorem State.Recorded.raise (h : s.Recorded w) {n : Nat} : (s.raise n).Recorded w := h.stands rfl

theorem State.Recorded.setStk (h : s.Recorded w) {f : Stroke → Stroke} : (s.setStk f).Recorded w := h.stands rfl

theorem State.Recorded.emergencySummary (h : s.Recorded w) {pk chg : Int} : (s.emergencySummary pk chg).Recorded w := h.stands rfl

theorem State.recComplete_shows (s : State) : s.recComplete.b F.STK_RECSTAT_CAPT = false ∧ s.recComplete.b F.STK_RECSTAT_LATVALID = true := by
  have hcapt : (s.p F.STK_RECSTAT_CAPT 0).b F.STK_RECSTAT_CAPT = false := s.b_pb_same F.STK_RECSTAT_CAPT false (by decide) rfl
  unfold State.recComplete
  generalize s.p F.STK_RECSTAT_CAPT 0 = t at hcapt ⊢
  dsimp only
  have hprev : (t.pb F.STK_RECSTAT_PREVVALID (t.b F.STK_RECSTAT_LATVALID)).b F.STK_RECSTAT_CAPT = false := (State.b_p_beside _ _ (by decide) (by decide)).trans hcapt
  generalize t.pb F.STK_RECSTAT_PREVVALID (t.b F.STK_RECSTAT_LATVALID) = u at hprev ⊢
  have hbank : (u.p F.STK_RECSTAT_LATEST (u.g F.STK_RECSTAT_CAPBANK)).b F.STK_RECSTAT_CAPT = false := (State.b_p_beside _ _ (by decide) (by decide)).trans hprev
  generalize u.p F.STK_RECSTAT_LATEST (u.g F.STK_RECSTAT_CAPBANK) = v at hbank ⊢
  have hlat : (v.p F.STK_RECSTAT_LATVALID 1).b F.STK_RECSTAT_CAPT = false := (v.b_p_beside 1 (by decide) (by decide)).trans hbank
  exact ⟨hlat, v.b_p_one F.STK_RECSTAT_LATVALID (by decide) rfl⟩

/-- R353: a stroke that ends closes its capture, and it is the latest. -/
theorem State.finishStroke_recorded (s : State) (superseded : Bool) : ∃ u : State, (s.finishStroke superseded).Recorded (u.recComplete.rd A.STK_RECSTAT) := by
  unfold State.finishStroke
  have hdir : ∀ t : State, t.dir < 2 := fun t => t.g_lt F.STK_STAT_DIR
  refine ⟨((((s.endBattPhase none).setGau (fun g => { g with resDue := true })).when superseded (·.marker 9)).marker 10), ?_⟩
  generalize hw : State.rd _ A.STK_RECSTAT = w
  have hu : ((((s.endBattPhase none).setGau (fun g => { g with resDue := true })).when superseded (·.marker 9)).marker 10).recComplete.Recorded w := ⟨hw⟩
  clear hw
  have hpk : ∀ r : State, r.Recorded w → ∀ o : Option Int, (match o with | some p => (p, r) | none => let (f, r) := r.free 65536; ((f : Int) - 32768, r)).2.Recorded w := by
    intro r hr o
    cases o with
    | none => exact hr.stands rfl
    | some p => exact hr
  have hsum : ∀ k, A.STK_RECSTAT ≠ A.STK_SUM k := fun k => by show 0x0591 ≠ 0x05A1 + k; omega
  have hcnt : ∀ k, A.STK_RECSTAT ≠ A.STK_CNT k := fun k => by show 0x0591 ≠ 0x05B0 + k; omega
  refine State.Recorded.when (State.Recorded.when (State.Recorded.when (State.Recorded.when (State.Recorded.when (State.Recorded.commitStroke ?_) fun _ hr => hr.learn (hdir _)) fun _ hr => hr.learn (hdir _)) fun _ hr => hr.setStk) fun _ hr => hr.inc (hcnt _)) fun _ hr => hr.raise
  refine State.Recorded.when (State.Recorded.when (State.Recorded.when ?_ fun _ hr => hr.inc32) fun _ hr => (hr.inc (hcnt _)).emergencySummary) fun _ hr => hr.p (f := F.STK_PRVSTAT_PCNT)
  exact (hpk _ (State.Recorded.ite_snd hu.compareRef hu) _).roundOpen.roundOpen.roundOpen.wn.wn (hsum 0) |>.wn (hsum 1) |>.wn (hsum 2) |>.wn (hsum 3) |>.wn (hsum 4) |>.wi (hsum 5) |>.wn (hsum 6)

/-- R353: what the end of a stroke shows. -/
theorem State.endStroke_shows (s : State) :
    s.endStroke.strokeRuns = false ∧ s.endStroke.preArmed = false ∧ s.endStroke.b F.STK_RECSTAT_LATVALID = true ∧ s.endStroke.b F.STK_RECSTAT_CAPT = false ∧
      s.endStroke.b F.STK_STAT_EMERG = false ∧ s.endStroke.stk.boost = 0 := by
  obtain ⟨u, hu⟩ := s.finishStroke_recorded false
  obtain ⟨hcapt, hlat⟩ := u.recComplete_shows
  have he : s.endStroke = (((s.finishStroke false).setStk (fun k => { k with boost := 0 })).retarget false).strokeOver := rfl
  rw [he]
  generalize s.finishStroke false = v at hu ⊢
  obtain ⟨hpre, hrun, hem, hclose⟩ := ((v.setStk (fun k => { k with boost := 0 })).retarget false).strokeOver_shows
  have hall := hclose.trans (State.ClosingOf.refl (v.setStk (fun k => { k with boost := 0 }))).retarget
  have hrd : (((v.setStk (fun k => { k with boost := 0 })).retarget false).strokeOver).rd A.STK_RECSTAT = u.recComplete.rd A.STK_RECSTAT := hall.rd.trans hu.rd
  exact ⟨hrun, hpre, (State.b_congr (f := F.STK_RECSTAT_LATVALID) hrd).trans hlat, (State.b_congr (f := F.STK_RECSTAT_CAPT) hrd).trans hcapt, hem, hall.boost⟩

end

end
end Sys2Proof.Machine
end

section
/-! PROOFS. How a stroke is pre-armed (R348, R349). -/
namespace Sys2Proof.Machine

/-! ### The pre-arm of a stroke (R348, R349) -/

section
variable {s t s₀ : State}

/-- The stroke of t is pre-armed, in the direction d and of the kind k, not a candidate where it is an emergency's, with boost x; outside it t is s. -/
structure State.ArmedOf (t s : State) (d k x : Nat) : Prop where
  armed : t.preArmed = true
  runs : t.strokeRuns = s.strokeRuns
  dir : t.dir = d
  emerg : k = 1 → t.b F.STK_STAT_EMERG = true ∧ t.stk.cand = false
  kind : t.stk.kind = k
  boost : t.stk.boost = x
  held : t.drv.shedHold = true
  power : t.power = s.power
  rtc : t.rtc = s.rtc

variable {d k x : Nat}

theorem State.ArmedOf.stands (h : t.ArmedOf s d k x) {u : State} (hrd : u.rd A.STK_STAT = t.rd A.STK_STAT) (hs : u.stk.kind = t.stk.kind ∧ u.stk.cand = t.stk.cand ∧ u.stk.boost = t.stk.boost)
    (hv : u.drv.shedHold = t.drv.shedHold) (hp : u.power = t.power) (hr : u.rtc = t.rtc) : u.ArmedOf s d k x where
  armed := (State.b_congr (f := F.STK_STAT_PREARM) hrd).trans h.armed
  runs := (State.b_congr (f := F.STK_STAT_RUNNING) hrd).trans h.runs
  dir := (State.g_congr (f := F.STK_STAT_DIR) hrd).trans h.dir
  emerg hk := ⟨(State.b_congr (f := F.STK_STAT_EMERG) hrd).trans (h.emerg hk).1, hs.2.1.trans (h.emerg hk).2⟩
  kind := hs.1.trans h.kind
  boost := hs.2.2.trans h.boost
  held := hv.trans h.held
  power := hp.trans h.power
  rtc := hr.trans h.rtc

theorem State.ArmedOf.pktLost (h : t.ArmedOf s d k x) (c : Bool) : (t.when c (·.p F.STK_STAT_PKTLOST 1)).ArmedOf s d k x := by
  cases c
  · exact h
  · exact ⟨(t.b_p_beside 1 (by decide) (by decide)).trans h.armed, (t.b_p_beside 1 (by decide) (by decide)).trans h.runs, (t.g_p_beside 1 (by decide) (by decide)).trans h.dir,
      fun hk => ⟨(t.b_p_beside 1 (by decide) (by decide)).trans (h.emerg hk).1, (h.emerg hk).2⟩, h.kind, h.boost, h.held, h.power, h.rtc⟩

theorem State.recOpen_shows (s : State) :
    s.recOpen.b F.STK_RECSTAT_CAPT = true ∧ s.recOpen.stk.since = 0 ∧ s.recOpen.g (F.STK_RECCNT_COUNT (s.recOpen.g F.STK_RECSTAT_CAPBANK)) = 0 ∧
      s.recOpen = { s with regs := s.recOpen.regs, stk := s.recOpen.stk, adc := s.recOpen.adc, freeCtr := s.recOpen.freeCtr } ∧ s.recOpen.rd A.STK_STAT = s.rd A.STK_STAT ∧ s.recOpen.stk.boost = s.stk.boost := by
  have hopen : ∃ (c n : Nat), c < 2 ∧ s.recOpen =
      ((((((({ s with freeCtr := n } : State).p F.STK_RECSTAT_CAPT 1).p F.STK_RECSTAT_CAPBANK c).p F.STK_RECSTAT_FULL 0).p F.STK_RECSTAT_ABAND 0).p F.STK_RECSTAT_PREVVALID 0).wn (A.STK_RECCNT c) 0).burstStop.setStk
        (fun k => { k with since := 0, smp := List.replicate 8 [] }) := by
    unfold State.recOpen
    have hlat : s.g F.STK_RECSTAT_LATEST < 2 := s.g_lt F.STK_RECSTAT_LATEST
    cases s.b F.STK_RECSTAT_LATVALID
    · exact ⟨s.choice.1.toNat, s.freeCtr + 1, Bool.toNat_lt _, rfl⟩
    · exact ⟨1 - s.g F.STK_RECSTAT_LATEST, s.freeCtr, by omega, rfl⟩
  obtain ⟨c, n, hc, he⟩ := hopen
  have h1 := ({ s with freeCtr := n } : State).b_p_one F.STK_RECSTAT_CAPT (by decide) rfl
  have hf1 : ({ s with freeCtr := n } : State).p F.STK_RECSTAT_CAPT 1 = { s with regs := (({ s with freeCtr := n } : State).p F.STK_RECSTAT_CAPT 1).regs, freeCtr := n } := rfl
  have hs1 : (({ s with freeCtr := n } : State).p F.STK_RECSTAT_CAPT 1).rd A.STK_STAT = s.rd A.STK_STAT := State.rd_p_ne _ _ (by decide)
  generalize ({ s with freeCtr := n } : State).p F.STK_RECSTAT_CAPT 1 = a at he h1 hf1 hs1
  have h2 : (a.p F.STK_RECSTAT_CAPBANK c).b F.STK_RECSTAT_CAPT = true := (a.b_p_beside c (by decide) (by decide)).trans h1
  have hb2 : (a.p F.STK_RECSTAT_CAPBANK c).g F.STK_RECSTAT_CAPBANK = c := (a.g_p_same F.STK_RECSTAT_CAPBANK c (by decide)).trans (Nat.mod_eq_of_lt hc)
  have hs2 : (a.p F.STK_RECSTAT_CAPBANK c).rd A.STK_STAT = s.rd A.STK_STAT := (a.rd_p_ne (f := F.STK_RECSTAT_CAPBANK) c (by decide)).trans hs1
  have hf2 : a.p F.STK_RECSTAT_CAPBANK c = { s with regs := (a.p F.STK_RECSTAT_CAPBANK c).regs, freeCtr := n } := by
    rw [hf1]
    rfl
  generalize a.p F.STK_RECSTAT_CAPBANK c = u at he h2 hb2 hs2 hf2
  have hrest : ∀ f : Fld, f.addr = A.STK_RECSTAT → f.lsb + f.width ≤ 16 → (∀ w : Nat × Nat, w ∈ [(F.STK_RECSTAT_FULL.lsb, 1), (F.STK_RECSTAT_ABAND.lsb, 1), (F.STK_RECSTAT_PREVVALID.lsb, 1)] → f.lsb + f.width ≤ w.1 ∨ w.1 + w.2 ≤ f.lsb) →
      ((((u.p F.STK_RECSTAT_FULL 0).p F.STK_RECSTAT_ABAND 0).p F.STK_RECSTAT_PREVVALID 0).wn (A.STK_RECCNT c) 0).g f = u.g f := fun f ha hw hd => by
    have hne : f.addr ≠ A.STK_RECCNT c := by
      rw [ha]
      show 0x0591 ≠ 0x0592 + c
      omega
    exact (State.g_congr (State.rd_wn_ne _ _ hne)).trans ((State.g_p_beside _ 0 (by decide) (hd (F.STK_RECSTAT_PREVVALID.lsb, 1) (by decide))).trans ((State.g_p_beside _ 0 (by decide) (hd (F.STK_RECSTAT_ABAND.lsb, 1) (by decide))).trans
      (State.g_p_beside _ 0 (by decide) (hd (F.STK_RECSTAT_FULL.lsb, 1) (by decide)))))
  have hstat : ((((u.p F.STK_RECSTAT_FULL 0).p F.STK_RECSTAT_ABAND 0).p F.STK_RECSTAT_PREVVALID 0).wn (A.STK_RECCNT c) 0).rd A.STK_STAT = s.rd A.STK_STAT :=
    (State.rd_wn_ne _ _ (by show 0x0580 ≠ 0x0592 + c; omega)).trans ((State.rd_p_ne _ _ (by decide)).trans ((State.rd_p_ne _ _ (by decide)).trans ((State.rd_p_ne _ _ (by decide)).trans hs2)))
  have hcapt := congrArg (· != 0) (hrest F.STK_RECSTAT_CAPT rfl (by decide) (by decide))
  have hbank := hrest F.STK_RECSTAT_CAPBANK rfl (by decide) (by decide)
  have hcount : ((((u.p F.STK_RECSTAT_FULL 0).p F.STK_RECSTAT_ABAND 0).p F.STK_RECSTAT_PREVVALID 0).wn (A.STK_RECCNT c) 0).g (F.STK_RECCNT_COUNT c) = 0 := by
    unfold State.g
    exact (congrArg (F.STK_RECCNT_COUNT c).get (State.rd_wr_same _ _ _)).trans (by simp [Fld.get])
  have hform : (((u.p F.STK_RECSTAT_FULL 0).p F.STK_RECSTAT_ABAND 0).p F.STK_RECSTAT_PREVVALID 0).wn (A.STK_RECCNT c) 0 =
      { s with regs := ((((u.p F.STK_RECSTAT_FULL 0).p F.STK_RECSTAT_ABAND 0).p F.STK_RECSTAT_PREVVALID 0).wn (A.STK_RECCNT c) 0).regs, freeCtr := n } := by
    rw [hf2]
    rfl
  generalize (((u.p F.STK_RECSTAT_FULL 0).p F.STK_RECSTAT_ABAND 0).p F.STK_RECSTAT_PREVVALID 0).wn (A.STK_RECCNT c) 0 = v at he hstat hcapt hbank hcount hform
  rw [he]
  refine ⟨hcapt.trans h2, rfl, ?_, ?_, hstat, ?_⟩
  · exact (congrArg (fun i => v.g (F.STK_RECCNT_COUNT i)) (hbank.trans hb2)).trans hcount
  · rw [hform]
    rfl
  · rw [hform]
    rfl

theorem State.marker_first (s : State) (code : Nat) (hc : s.b F.STK_RECSTAT_CAPT = true) (hn : s.g (F.STK_RECCNT_COUNT (s.g F.STK_RECSTAT_CAPBANK)) = 0) :
    (s.marker code).b F.STK_RECSTAT_CAPT = true := by
  have hput : (s.recPut 0 14 code).b F.STK_RECSTAT_CAPT = true := by
    have hbank : s.g F.STK_RECSTAT_CAPBANK < 2 := s.g_lt F.STK_RECSTAT_CAPBANK
    unfold State.recPut
    rw [if_pos hc]
    dsimp only
    rw [hn, if_neg (by decide)]
    generalize s.g F.STK_RECSTAT_CAPBANK = b at hbank ⊢
    have hrec : ∀ i, A.STK_RECSTAT ≠ A.STK_REC i := fun i => by show 0x0591 ≠ 0x4000 + i; omega
    have hcnt : A.STK_RECSTAT ≠ (F.STK_RECCNT_COUNT b).addr := by show 0x0591 ≠ 0x0592 + b; omega
    have hrec' : ∀ i, A.STK_RECSTAT ≠ A.STK_REC i + 1 := fun i => by show 0x0591 ≠ 0x4000 + i + 1; omega
    have hrd : ∀ i x y z, (((s.wn (A.STK_REC i) x).wn (A.STK_REC i + 1) y).p (F.STK_RECCNT_COUNT b) z).rd A.STK_RECSTAT = s.rd A.STK_RECSTAT := fun i x y z =>
      (State.rd_p_ne _ _ hcnt).trans ((State.rd_wn_ne _ _ (hrec' i)).trans (State.rd_wn_ne _ _ (hrec i)))
    exact (State.b_congr (f := F.STK_RECSTAT_CAPT) (hrd _ _ _ _)).trans hc
  have hadd : ∃ i : Int, s.marker code = (s.recPut 0 14 code).setStk (fun k => { k with since := i }) := by
    unfold State.marker State.recAdd
    dsimp only
    rw [if_pos hn, Nat.zero_div, Nat.zero_min, List.range_zero, List.foldl_nil, Nat.zero_mod]
    exact ⟨_, rfl⟩
  obtain ⟨i, hadd⟩ := hadd
  rw [hadd]
  exact hput

theorem State.openStroke_shows (s : State) :
    s.openStroke.2.rtc = s.rtc ∧ s.openStroke.2.power = s.power ∧ s.openStroke.2.drv = s.drv ∧ s.openStroke.2.rd A.STK_RECSTAT = s.rd A.STK_RECSTAT ∧
      ∃ c : Bool, s.openStroke.2.rd A.STK_STAT = (s.when c (·.p F.STK_STAT_PKTLOST 1)).rd A.STK_STAT := by
  have hptrs : ∀ i, (s.checkPtrs i).rtc = s.rtc ∧ (s.checkPtrs i).power = s.power ∧ (s.checkPtrs i).drv = s.drv ∧
      ∃ c : Bool, (s.checkPtrs i).rd A.STK_STAT = (s.when c (·.p F.STK_STAT_PKTLOST 1)).rd A.STK_STAT := fun i => by
    unfold State.checkPtrs
    split
    · exact ⟨rfl, rfl, rfl, false, rfl⟩
    · obtain ⟨hr, hp, hd, -, hc⟩ := s.queueReset_shows
      exact ⟨hr, hp, hd, hc⟩
  obtain ⟨hr, hp, hd, c, hc⟩ := hptrs (s.g F.STK_CFG_PKTCLS)
  have hrec := s.checkPtrs_rd (s.g F.STK_CFG_PKTCLS)
  have hcls : s.g F.STK_CFG_PKTCLS < 4 := s.g_lt F.STK_CFG_PKTCLS
  unfold State.openStroke
  dsimp only
  generalize s.checkPtrs (s.g F.STK_CFG_PKTCLS) = u at hr hp hd hc hrec ⊢
  generalize s.g F.STK_CFG_PKTCLS = i at hcls ⊢
  have hform := u.inc_form (A.MRQ_DROP i)
  split
  · exact ⟨hr, hp, hd, hrec, c, hc⟩
  · have hstat : A.STK_STAT ≠ A.MRQ_DROP i := by show 0x0580 ≠ 0x0D0A + i; omega
    have hrecstat : A.STK_RECSTAT ≠ A.MRQ_DROP i := by show 0x0591 ≠ 0x0D0A + i; omega
    have hr' : (u.inc (A.MRQ_DROP i)).rtc = u.rtc := (congrArg State.rtc hform).trans rfl
    have hp' : (u.inc (A.MRQ_DROP i)).power = u.power := (congrArg State.power hform).trans rfl
    have hd' : (u.inc (A.MRQ_DROP i)).drv = u.drv := (congrArg State.drv hform).trans rfl
    have hrec' : (u.inc (A.MRQ_DROP i)).rd A.STK_RECSTAT = s.rd A.STK_RECSTAT := (u.rd_inc_ne hrecstat).trans hrec
    have hc' : (u.inc (A.MRQ_DROP i)).rd A.STK_STAT = (s.when c (·.p F.STK_STAT_PKTLOST 1)).rd A.STK_STAT := (u.rd_inc_ne hstat).trans hc
    generalize u.inc (A.MRQ_DROP i) = v at hr' hp' hd' hrec' hc' ⊢
    have hrd : ∀ a, a ≠ A.MRQ_STAT → ((v.p F.MRQ_STAT_DROP 1).raise 122).rd a = v.rd a := fun a ha => v.rd_p_ne (f := F.MRQ_STAT_DROP) 1 ha
    exact ⟨hr'.trans hr, hp'.trans hp, hd'.trans hd, (hrd _ (by decide)).trans hrec', c, (hrd _ (by decide)).trans hc'⟩

theorem State.requestToll_form (s : State) : s.requestToll = { s with stk := s.requestToll.stk, freeCtr := s.requestToll.freeCtr } ∧ s.requestToll.stk.kind = s.stk.kind ∧
    s.requestToll.stk.cand = s.stk.cand ∧ s.requestToll.stk.boost = s.stk.boost := by
  unfold State.requestToll State.tollFor
  dsimp only
  split
  · split
    · exact ⟨rfl, rfl, rfl, rfl⟩
    · split
      · exact ⟨rfl, rfl, rfl, rfl⟩
      · exact ⟨rfl, rfl, rfl, rfl⟩
  · exact ⟨rfl, rfl, rfl, rfl⟩

theorem State.judgeGuards_frame (s : State) :
    s.judgeGuards.rd A.STK_STAT = s.rd A.STK_STAT ∧ s.judgeGuards.stk.kind = s.stk.kind ∧ s.judgeGuards.stk.boost = s.stk.boost ∧ s.judgeGuards.drv = s.drv ∧ s.judgeGuards.power = s.power ∧
      s.judgeGuards.rtc = s.rtc ∧ (s.stk.kind = 1 → s.judgeGuards.stk.cand = false) := by
  have hfails : s.stk.kind = 1 → s.guardsHold = false := fun hk => by
    unfold State.guardsHold
    rw [hk]
    rfl
  unfold State.judgeGuards
  split
  next => exact ⟨s.rd_p_ne (f := F.STK_PRVSTAT_GUARD) 1 (by decide), rfl, rfl, rfl, rfl, rfl, fun _ => rfl⟩
  next h =>
    refine ⟨rfl, rfl, rfl, rfl, rfl, rfl, fun hk => ?_⟩
    rw [hfails hk, Bool.not_false, Bool.and_true] at h
    exact Bool.eq_false_iff.mpr h

theorem State.recPut_drv (s : State) (delta tag value : Nat) : (s.recPut delta tag value).drv = s.drv := by
  unfold State.recPut
  dsimp only
  split
  · split
    · rfl
    · rfl
  · rfl

theorem State.marker_drv (s : State) (code : Nat) : (s.marker code).drv = s.drv := by
  have hfold : ∀ (l : List Nat) (t : State), (l.foldl (fun s _ => s.recPut 4095 15 0) t).drv = t.drv := fun l => by
    induction l with
    | nil => exact fun _ => rfl
    | cons x xs ih => exact fun t => (ih _).trans (t.recPut_drv _ _ _)
  unfold State.marker State.recAdd
  exact (State.recPut_drv _ _ _ _).trans (hfold _ s)

/-- What a pre-arm has made before its guards are judged: the stroke's record, its direction, shedding held, and EMERG. -/
def State.prearmed (s : State) (emerg : Bool) (dir : Nat) (cand : Bool) : State :=
  ((((((s.setStk (fun k => { k.fresh (if emerg then 1 else 0) cand (5 * s.g F.STK_PRECFG_BOOST) with above := 0 })).p F.STK_STAT_PREARM 1).p F.STK_STAT_DIR dir).retarget false).setDrv
    (fun d => { d with shedHold := true })).trig 1 4).when emerg (·.p F.STK_STAT_EMERG 1)

theorem State.prearm_eq (s : State) (emerg : Bool) (dir : Nat) (proving : Bool) : ∃ cand, s.prearm emerg dir proving =
    ((((s.prearmed emerg dir cand).judgeGuards.recOpen.marker 1).openStroke.2).when (!((s.prearmed emerg dir cand).judgeGuards.recOpen.marker 1).openStroke.1) (·.p F.STK_STAT_PKTLOST 1)).requestToll :=
  ⟨_, rfl⟩

theorem State.prearmed_armed (s : State) (emerg cand : Bool) (hd : d < 2) :
    (s.prearmed emerg d cand).judgeGuards.ArmedOf s d (if emerg then 1 else 0) (5 * s.g F.STK_PRECFG_BOOST) := by
  unfold State.prearmed
  generalize hx : 5 * s.g F.STK_PRECFG_BOOST = x
  generalize hk : (if emerg then 1 else 0) = k
  have hku : (s.setStk (fun j => { j.fresh k cand x with above := 0 })).stk.kind = k ∧ (s.setStk (fun j => { j.fresh k cand x with above := 0 })).stk.boost = x := ⟨rfl, rfl⟩
  have hsu : (s.setStk (fun j => { j.fresh k cand x with above := 0 })).power = s.power ∧ (s.setStk (fun j => { j.fresh k cand x with above := 0 })).rtc = s.rtc ∧
      (s.setStk (fun j => { j.fresh k cand x with above := 0 })).strokeRuns = s.strokeRuns := ⟨rfl, rfl, rfl⟩
  generalize s.setStk (fun j => { j.fresh k cand x with above := 0 }) = u at hku hsu ⊢
  have hpre : ((u.p F.STK_STAT_PREARM 1).p F.STK_STAT_DIR d).b F.STK_STAT_PREARM = true := (State.b_p_beside _ d (by decide) (by decide)).trans (u.b_p_one F.STK_STAT_PREARM (by decide) rfl)
  have hrun : ((u.p F.STK_STAT_PREARM 1).p F.STK_STAT_DIR d).b F.STK_STAT_RUNNING = s.strokeRuns :=
    (State.b_p_beside _ d (by decide) (by decide)).trans ((u.b_p_beside 1 (by decide) (by decide)).trans hsu.2.2)
  have hdir : ((u.p F.STK_STAT_PREARM 1).p F.STK_STAT_DIR d).g F.STK_STAT_DIR = d := (State.g_p_same _ F.STK_STAT_DIR d (by decide)).trans (Nat.mod_eq_of_lt hd)
  have hlog : ((((u.p F.STK_STAT_PREARM 1).p F.STK_STAT_DIR d).retarget false).setDrv (fun d => { d with shedHold := true })).LogOf ((u.p F.STK_STAT_PREARM 1).p F.STK_STAT_DIR d) :=
    (State.LogOf.refl _).retarget.setDrv
  have hheld : ((((u.p F.STK_STAT_PREARM 1).p F.STK_STAT_DIR d).retarget false).setDrv (fun d => { d with shedHold := true })).drv.shedHold = true := rfl
  have hp0 : ((u.p F.STK_STAT_PREARM 1).p F.STK_STAT_DIR d).power = s.power ∧ ((u.p F.STK_STAT_PREARM 1).p F.STK_STAT_DIR d).rtc = s.rtc ∧
      ((u.p F.STK_STAT_PREARM 1).p F.STK_STAT_DIR d).stk.kind = k ∧ ((u.p F.STK_STAT_PREARM 1).p F.STK_STAT_DIR d).stk.boost = x := ⟨hsu.1, hsu.2.1, hku.1, hku.2⟩
  generalize (((u.p F.STK_STAT_PREARM 1).p F.STK_STAT_DIR d).retarget false).setDrv (fun d => { d with shedHold := true }) = v at hlog hheld ⊢
  generalize (u.p F.STK_STAT_PREARM 1).p F.STK_STAT_DIR d = w at hpre hrun hdir hlog hp0
  have hvpow : v.power = s.power := (hlog.keeps State.power fun _ _ _ _ _ => rfl).trans hp0.1
  have hvrtc : v.rtc = s.rtc := (hlog.keeps State.rtc fun _ _ _ _ _ => rfl).trans hp0.2.1
  have hvkind : v.stk.kind = k := (congrArg Stroke.kind hlog.stk).trans hp0.2.2.1
  have hvboost : v.stk.boost = x := (congrArg Stroke.boost hlog.stk).trans hp0.2.2.2
  have hvstat : v.rd A.STK_STAT = w.rd A.STK_STAT := hlog.rd _ (by decide)
  have hpre : v.b F.STK_STAT_PREARM = true := (State.b_congr (f := F.STK_STAT_PREARM) hvstat).trans hpre
  have hrun : v.b F.STK_STAT_RUNNING = s.strokeRuns := (State.b_congr (f := F.STK_STAT_RUNNING) hvstat).trans hrun
  have hdir : v.g F.STK_STAT_DIR = d := (State.g_congr (f := F.STK_STAT_DIR) hvstat).trans hdir
  have htrig : (v.trig 1 4).b F.STK_STAT_PREARM = true ∧ (v.trig 1 4).b F.STK_STAT_RUNNING = s.strokeRuns ∧ (v.trig 1 4).g F.STK_STAT_DIR = d := ⟨hpre, hrun, hdir⟩
  have htrig' : (v.trig 1 4).power = s.power ∧ (v.trig 1 4).rtc = s.rtc ∧ (v.trig 1 4).stk.kind = k ∧ (v.trig 1 4).stk.boost = x ∧ (v.trig 1 4).drv.shedHold = true := ⟨hvpow, hvrtc, hvkind, hvboost, hheld⟩
  generalize v.trig 1 4 = y at htrig htrig' ⊢
  obtain ⟨hpre, hrun, hdir⟩ := htrig
  obtain ⟨hpow, hrtc, hkind, hboost, hheld⟩ := htrig'
  have hjudged : ∀ z : State, z.b F.STK_STAT_PREARM = true → z.b F.STK_STAT_RUNNING = s.strokeRuns → z.g F.STK_STAT_DIR = d → z.power = s.power → z.rtc = s.rtc → z.stk.kind = k → z.stk.boost = x →
      z.drv.shedHold = true → (k = 1 → z.b F.STK_STAT_EMERG = true) → z.judgeGuards.ArmedOf s d k x := fun z h1 h2 h3 h4 h5 h6 h7 h8 h9 => by
    obtain ⟨hrd, hk', hb', hv', hp', hr', hc'⟩ := z.judgeGuards_frame
    exact ⟨(State.b_congr (f := F.STK_STAT_PREARM) hrd).trans h1, (State.b_congr (f := F.STK_STAT_RUNNING) hrd).trans h2, (State.g_congr (f := F.STK_STAT_DIR) hrd).trans h3,
      fun hone => ⟨(State.b_congr (f := F.STK_STAT_EMERG) hrd).trans (h9 hone), hc' (h6.trans hone)⟩, hk'.trans h6, hb'.trans h7, (congrArg Drive.shedHold hv').trans h8, hp'.trans h4, hr'.trans h5⟩
  cases emerg with
  | false => exact hjudged y hpre hrun hdir hpow hrtc hkind hboost hheld fun hone => absurd (hk.trans hone) (by decide)
  | true =>
    exact hjudged (y.p F.STK_STAT_EMERG 1) ((y.b_p_beside 1 (by decide) (by decide)).trans hpre) ((y.b_p_beside 1 (by decide) (by decide)).trans hrun) ((y.g_p_beside 1 (by decide) (by decide)).trans hdir)
      hpow hrtc hkind hboost hheld fun _ => y.b_p_one F.STK_STAT_EMERG (by decide) rfl

/-- R348, R349: what a pre-arm makes. -/
theorem State.prearm_shows (s : State) (emerg : Bool) (proving : Bool) (hd : d < 2) :
    (s.prearm emerg d proving).ArmedOf s d (if emerg then 1 else 0) (5 * s.g F.STK_PRECFG_BOOST) ∧ (s.prearm emerg d proving).b F.STK_RECSTAT_CAPT = true := by
  obtain ⟨cand, he⟩ := s.prearm_eq emerg d proving
  rw [he]
  have harm := s.prearmed_armed emerg cand hd
  generalize (if emerg then 1 else 0) = k at harm ⊢
  generalize (s.prearmed emerg d cand).judgeGuards = u at harm ⊢
  obtain ⟨hcapt, -, hcount, hform, hstat, hboost⟩ := u.recOpen_shows
  obtain ⟨hkind, hcand⟩ := u.recOpen_kind
  have harm2 : u.recOpen.ArmedOf s d k (5 * s.g F.STK_PRECFG_BOOST) :=
    harm.stands hstat ⟨hkind, hcand, hboost⟩ ((congrArg (fun t : State => t.drv.shedHold) hform).trans rfl) ((congrArg State.power hform).trans rfl) ((congrArg State.rtc hform).trans rfl)
  have hmark := u.recOpen.marker_first 1 hcapt hcount
  have hlog : (u.recOpen.marker 1).LogOf u.recOpen := (State.LogOf.refl _).marker
  generalize u.recOpen = v at harm2 hlog hmark ⊢
  generalize hw : v.marker 1 = w at hlog hmark ⊢
  have harm3 : w.ArmedOf s d k (5 * s.g F.STK_PRECFG_BOOST) :=
    harm2.stands (hlog.rd _ (by decide)) ⟨(congrArg Stroke.kind hlog.stk).trans rfl, (congrArg Stroke.cand hlog.stk).trans rfl, (congrArg Stroke.boost hlog.stk).trans rfl⟩ (congrArg Drive.shedHold (hw ▸ v.marker_drv 1))
      (hlog.keeps State.power fun _ _ _ _ _ => rfl) (hlog.keeps State.rtc fun _ _ _ _ _ => rfl)
  obtain ⟨hr, hp, hv, hrec, c, hc⟩ := w.openStroke_shows
  have hstk := w.openStroke_stk
  generalize w.openStroke.2 = y at hr hp hv hrec hc hstk ⊢
  have harm4 : y.ArmedOf s d k (5 * s.g F.STK_PRECFG_BOOST) := by
    cases c
    · exact harm3.stands hc ⟨congrArg Stroke.kind hstk, congrArg Stroke.cand hstk, congrArg Stroke.boost hstk⟩ (congrArg Drive.shedHold hv) hp hr
    · exact (harm3.pktLost true).stands hc ⟨congrArg Stroke.kind hstk, congrArg Stroke.cand hstk, congrArg Stroke.boost hstk⟩ (congrArg Drive.shedHold hv) hp hr
  have hy : y.b F.STK_RECSTAT_CAPT = true := (State.b_congr (f := F.STK_RECSTAT_CAPT) hrec).trans hmark
  have harm5 := harm4.pktLost (!w.openStroke.1)
  have hz : (y.when (!w.openStroke.1) (·.p F.STK_STAT_PKTLOST 1)).b F.STK_RECSTAT_CAPT = true := by
    cases !w.openStroke.1
    · exact hy
    · exact (State.b_congr (f := F.STK_RECSTAT_CAPT) (y.rd_p_ne (f := F.STK_STAT_PKTLOST) 1 (by decide))).trans hy
  generalize y.when (!w.openStroke.1) (·.p F.STK_STAT_PKTLOST 1) = z at harm5 hz ⊢
  obtain ⟨hform, hkind, hcand, hboost⟩ := z.requestToll_form
  have hrd : ∀ a, z.requestToll.rd a = z.rd a := fun a => (congrArg (fun t : State => t.rd a) hform).trans rfl
  exact ⟨harm5.stands (hrd _) ⟨hkind, hcand, hboost⟩ ((congrArg (fun t : State => t.drv.shedHold) hform).trans rfl) ((congrArg State.power hform).trans rfl) ((congrArg State.rtc hform).trans rfl),
    (State.b_congr (f := F.STK_RECSTAT_CAPT) (hrd _)).trans hz⟩

end
end Sys2Proof.Machine
end

section
/-! PROOFS. Hints, GO, END, CANCEL and the pulses of the STROKE ball (R345 to R354, R374). -/
namespace Sys2Proof.Machine

/-! ### Hints and their pulses (R345 to R348) -/

section
variable {s : State}

/-- R352: the start of an emergency stroke, which proves nothing, leaves EMERG. -/
theorem State.startStroke_emerg (s : State) (ts : Nat) (pre : Option Sample) (hc : s.stk.cand = false) : (s.startStroke ts [] pre).b F.STK_STAT_EMERG = s.b F.STK_STAT_EMERG := by
  have hmark : (((s.p F.STK_STAT_PREARM 0).p F.STK_STAT_RUNNING 1).setStk (fun k => { k with ts := ts, above := 0 })).b F.STK_STAT_EMERG = s.b F.STK_STAT_EMERG :=
    ((s.p F.STK_STAT_PREARM 0).b_p_beside (g := F.STK_STAT_EMERG) 1 (by decide) (by decide)).trans (s.b_p_beside 0 (by decide) (by decide))
  have hcand : (((s.p F.STK_STAT_PREARM 0).p F.STK_STAT_RUNNING 1).setStk (fun k => { k with ts := ts, above := 0 })).stk.cand = false := hc
  unfold State.startStroke
  dsimp only
  generalize ((s.p F.STK_STAT_PREARM 0).p F.STK_STAT_RUNNING 1).setStk (fun k => { k with ts := ts, above := 0 }) = t at hmark hcand ⊢
  generalize hu : t.setDrv _ = u
  have huc : u.stk.cand = false := by rw [← hu]; exact hcand
  have hub : u.b F.STK_STAT_EMERG = s.b F.STK_STAT_EMERG := by rw [← hu]; exact hmark
  rw [State.judgeGuards_firm huc, huc]
  have hlog : ((u.marker 2).burst 0).LogOf u := (State.LogOf.refl _).marker.burst
  have hmon : ∀ v : State, ∀ hit, (v.blankEdge hit).b F.STK_STAT_EMERG = v.b F.STK_STAT_EMERG := fun v hit => by
    rw [v.blankEdge_mon hit]
    rfl
  exact (hmon _ _).trans (hlog.b.trans hub)

/-- R346, R347: a hint that the logic takes while idle in RUN pre-arms. -/
theorem State.takeHint_idle (hp : s.power = .run) (hon : s.cmdOn 1 = true) (ha : s.preArmed = false) (hr : s.strokeRuns = false) (em : Bool) (d : Nat) (pr : Bool) :
    s.takeHint false em d pr = s.prearm em d pr ∧ s.takeHint true em d pr = (s.prearm em d pr).startStroke (s.prearm em d pr).rtc [] (s.prearm em d pr).stk.hist.head? := by
  have hacc : s.strokeAccepts = true := by
    unfold State.strokeAccepts
    rw [hon, hp]
    rfl
  have hrun : ¬ s.power = .watch := by rw [hp]; decide
  unfold State.takeHint
  rw [hacc, hr, if_neg hrun]
  dsimp only
  rw [hr, ha]
  exact ⟨rfl, rfl⟩

theorem State.takeHint_off (hon : s.cmdOn 1 = false) (go em : Bool) (d : Nat) (pr : Bool) : s.takeHint go em d pr = s.p F.STK_STAT_IGN 1 ∧ s.cmdEnd = s.p F.STK_STAT_IGN 1 ∧ s.cmdCancel = s.p F.STK_STAT_IGN 1 := by
  have hacc : s.strokeAccepts = false := by
    unfold State.strokeAccepts
    rw [hon]
    rfl
  unfold State.takeHint State.cmdEnd State.cmdCancel
  rw [hacc]
  exact ⟨rfl, rfl, rfl⟩

theorem State.strokeAccepts_run (hp : s.power = .run) (hon : s.cmdOn 1 = true) : s.strokeAccepts = true := by
  unfold State.strokeAccepts
  rw [hon, hp]
  rfl

theorem State.cmdEnd_runs (hp : s.power = .run) (hon : s.cmdOn 1 = true) (hr : s.strokeRuns = true) : s.cmdEnd = s.endStroke := by
  unfold State.cmdEnd
  rw [s.strokeAccepts_run hp hon, hr]
  rfl

theorem State.cmdEnd_armed (hp : s.power = .run) (hon : s.cmdOn 1 = true) (ha : s.preArmed = true) (hr : s.strokeRuns = false) : s.cmdEnd = s.cancelStroke false false := by
  unfold State.cmdEnd
  rw [s.strokeAccepts_run hp hon, hr, ha]
  rfl

theorem State.cmdCancel_armed (hp : s.power = .run) (hon : s.cmdOn 1 = true) (ha : s.preArmed = true) : s.cmdCancel = s.cancelStroke false false := by
  unfold State.cmdCancel
  rw [s.strokeAccepts_run hp hon, ha]
  rfl

theorem State.strokeCommand_keyed {w : Word} (s : State) (hk : F.STK_CMD_KEY.get w = 5) (hn : F.STK_CMD_KIND.get w ≠ 3) :
    (F.STK_CMD_OP.get w = 1 → s.strokeCommand w = s.takeHint false (F.STK_CMD_KIND.get w = 1) (F.STK_CMD_DIR.get w) (F.STK_CMD_KIND.get w = 2)) ∧
      (F.STK_CMD_OP.get w = 2 → s.strokeCommand w = s.takeHint true (F.STK_CMD_KIND.get w = 1) (F.STK_CMD_DIR.get w) (F.STK_CMD_KIND.get w = 2)) ∧
      (F.STK_CMD_OP.get w = 3 → s.strokeCommand w = s.cmdEnd) ∧ (F.STK_CMD_OP.get w = 4 → s.strokeCommand w = s.cmdCancel) := by
  have hkey : ¬ (F.STK_CMD_KEY.get w ≠ 5 || F.STK_CMD_KIND.get w = 3) = true := by
    rw [hk, decide_eq_false hn]
    decide
  unfold State.strokeCommand
  dsimp only
  rw [if_neg hkey]
  refine ⟨fun h => ?_, fun h => ?_, fun h => ?_, fun h => ?_⟩
  all_goals simp only [h]

theorem State.strokeCommand_ignored {w : Word} (h : F.STK_CMD_KEY.get w ≠ 5 ∨ F.STK_CMD_KIND.get w = 3) (s : State) : s.strokeCommand w = s := by
  refine if_pos ?_
  rcases h with h | h
  · rw [decide_eq_true h, Bool.true_or]
  · rw [decide_eq_true h, Bool.or_true]

/-- R345: the four bands of a pulse, in 0.1 µs, with their class and direction. -/
def pulseBands : List (Nat × Nat × Bool × Nat) := [(100, 1000, false, 0), (2000, 5000, false, 1), (10000, 20000, true, 0), (30000, 50000, true, 1)]

/-- A pulse stands within 2 µs of an edge of the band. -/
def nearEdge (w : Nat) (b : Nat × Nat × Bool × Nat) : Bool := (decide (b.1 ≤ w + 20) && decide (w ≤ b.1 + 20)) || (decide (b.2.1 ≤ w + 20) && decide (w ≤ b.2.1 + 20))

/-- A pulse stands within the band. -/
def inBand (w : Nat) (b : Nat × Nat × Bool × Nat) : Bool := decide (b.1 ≤ w) && decide (w ≤ b.2.1)

theorem pulseBand_clear {w : Nat} (edge : Bool) (h : pulseBands.find? (nearEdge w) = none) : pulseBand w edge = (pulseBands.find? (inBand w)).map (·.2.2) := by
  have hd : pulseBand w edge = match pulseBands.find? (nearEdge w) with
      | some b => if edge then some b.2.2 else none
      | none => (pulseBands.find? (inBand w)).map (·.2.2) := rfl
  rw [hd, h]

theorem pulseBand_near {w : Nat} {b : Nat × Nat × Bool × Nat} (edge : Bool) (h : pulseBands.find? (nearEdge w) = some b) : pulseBand w edge = if edge then some b.2.2 else none := by
  have hd : pulseBand w edge = match pulseBands.find? (nearEdge w) with
      | some b => if edge then some b.2.2 else none
      | none => (pulseBands.find? (inBand w)).map (·.2.2) := rfl
  rw [hd, h]

theorem pulseBand_inside {w d : Nat} {em : Bool} (edge : Bool)
    (h : 120 < w ∧ w < 980 ∧ em = false ∧ d = 0 ∨ 2020 < w ∧ w < 4980 ∧ em = false ∧ d = 1 ∨ 10020 < w ∧ w < 19980 ∧ em = true ∧ d = 0 ∨ 30020 < w ∧ w < 49980 ∧ em = true ∧ d = 1) :
    pulseBand w edge = some (em, d) := by
  have hnear : pulseBands.find? (nearEdge w) = none := by
    simp only [pulseBands, nearEdge, List.find?_eq_none, List.mem_cons, List.not_mem_nil, or_false, forall_eq_or_imp, forall_eq, Bool.or_eq_true, Bool.and_eq_true, decide_eq_true_eq]
    omega
  rw [pulseBand_clear edge hnear]
  rcases h with ⟨h1, h2, rfl, rfl⟩ | ⟨h1, h2, rfl, rfl⟩ | ⟨h1, h2, rfl, rfl⟩ | ⟨h1, h2, rfl, rfl⟩
  all_goals
    simp only [pulseBands, inBand, List.find?_cons]
    simp (disch := omega) only [decide_eq_true, decide_eq_false, Bool.and_true, Bool.and_false]
    rfl

theorem pulseBand_outside {w : Nat} (edge : Bool) (h : w < 80 ∨ 1020 < w ∧ w < 1980 ∨ 5020 < w ∧ w < 9980 ∨ 20020 < w ∧ w < 29980 ∨ 50020 < w) : pulseBand w edge = none := by
  have hnear : pulseBands.find? (nearEdge w) = none := by
    simp only [pulseBands, nearEdge, List.find?_eq_none, List.mem_cons, List.not_mem_nil, or_false, forall_eq_or_imp, forall_eq, Bool.or_eq_true, Bool.and_eq_true, decide_eq_true_eq]
    omega
  have hin : pulseBands.find? (inBand w) = none := by
    simp only [pulseBands, inBand, List.find?_eq_none, List.mem_cons, List.not_mem_nil, or_false, forall_eq_or_imp, forall_eq, Bool.and_eq_true, decide_eq_true_eq]
    omega
  rw [pulseBand_clear edge hnear, hin]
  rfl

theorem pulseBand_edge {w d : Nat} {em : Bool} (edge : Bool)
    (h : (80 ≤ w ∧ w ≤ 120 ∨ 980 ≤ w ∧ w ≤ 1020) ∧ em = false ∧ d = 0 ∨ (1980 ≤ w ∧ w ≤ 2020 ∨ 4980 ≤ w ∧ w ≤ 5020) ∧ em = false ∧ d = 1 ∨
      (9980 ≤ w ∧ w ≤ 10020 ∨ 19980 ≤ w ∧ w ≤ 20020) ∧ em = true ∧ d = 0 ∨ (29980 ≤ w ∧ w ≤ 30020 ∨ 49980 ≤ w ∧ w ≤ 50020) ∧ em = true ∧ d = 1) :
    pulseBand w edge = if edge then some (em, d) else none := by
  have hband : ∀ {b : Nat × Nat × Bool × Nat}, b.2.2 = (em, d) → pulseBands.find? (nearEdge w) = some b → pulseBand w edge = if edge then some (em, d) else none := fun hb hf => by
    rw [pulseBand_near edge hf, hb]
  have hnear : ∀ b : Nat × Nat × Bool × Nat, nearEdge w b = true ↔ (b.1 ≤ w + 20 ∧ w ≤ b.1 + 20) ∨ (b.2.1 ≤ w + 20 ∧ w ≤ b.2.1 + 20) := fun b => by
    simp only [nearEdge, Bool.or_eq_true, Bool.and_eq_true, decide_eq_true_eq]
  have hfar : ∀ b : Nat × Nat × Bool × Nat, ¬ ((b.1 ≤ w + 20 ∧ w ≤ b.1 + 20) ∨ (b.2.1 ≤ w + 20 ∧ w ≤ b.2.1 + 20)) → nearEdge w b = false := fun b hb => Bool.eq_false_iff.mpr (mt (hnear b).mp hb)
  rcases h with ⟨h, rfl, rfl⟩ | ⟨h, rfl, rfl⟩ | ⟨h, rfl, rfl⟩ | ⟨h, rfl, rfl⟩
  · refine hband (b := (100, 1000, false, 0)) rfl ?_
    rw [pulseBands, List.find?_cons_of_pos ((hnear _).mpr (by dsimp only; omega))]
  · refine hband (b := (2000, 5000, false, 1)) rfl ?_
    rw [pulseBands, List.find?_cons_of_neg (Bool.eq_false_iff.mp (hfar _ (by dsimp only; omega))), List.find?_cons_of_pos ((hnear _).mpr (by dsimp only; omega))]
  · refine hband (b := (10000, 20000, true, 0)) rfl ?_
    rw [pulseBands, List.find?_cons_of_neg (Bool.eq_false_iff.mp (hfar _ (by dsimp only; omega))), List.find?_cons_of_neg (Bool.eq_false_iff.mp (hfar _ (by dsimp only; omega))),
      List.find?_cons_of_pos ((hnear _).mpr (by dsimp only; omega))]
  · refine hband (b := (30000, 50000, true, 1)) rfl ?_
    rw [pulseBands, List.find?_cons_of_neg (Bool.eq_false_iff.mp (hfar _ (by dsimp only; omega))), List.find?_cons_of_neg (Bool.eq_false_iff.mp (hfar _ (by dsimp only; omega))),
      List.find?_cons_of_neg (Bool.eq_false_iff.mp (hfar _ (by dsimp only; omega))), List.find?_cons_of_pos ((hnear _).mpr (by dsimp only; omega))]

/-- R345: a pulse that the ball takes draws the side of the band's edge. -/
theorem State.pinHint_taken (hr : s.running = true) (he : s.b F.STK_CFG_PINEN = true) (hv : s.sup.vioh = true) {width : Nat} (hw : 10 < width) :
    (∀ em d, pulseBand width (Config.freeBit s.freeCtr) = some (em, d) → s.pinHint width = ({ s with freeCtr := s.freeCtr + 1 } : State).takeHint false em d false) ∧
      (pulseBand width (Config.freeBit s.freeCtr) = none → s.pinHint width = ({ s with freeCtr := s.freeCtr + 1 } : State).p F.STK_STAT_PINBAD 1) := by
  have hpin : (s.running && s.b F.STK_CFG_PINEN && s.sup.vioh && decide (10 < width)) = true := by
    rw [hr, he, hv, decide_eq_true hw]
    rfl
  have hdraw : s.choice = (Config.freeBit s.freeCtr, { s with freeCtr := s.freeCtr + 1 }) := rfl
  unfold State.pinHint
  rw [if_pos hpin, hdraw]
  dsimp only
  refine ⟨fun em d hb => ?_, fun hb => ?_⟩
  all_goals rw [hb]

/-- R345, R683: a pulse that the ball does not take does nothing. -/
theorem State.pinHint_untaken {width : Nat} (h : s.running = false ∨ s.b F.STK_CFG_PINEN = false ∨ s.sup.vioh = false ∨ width ≤ 10) : s.pinHint width = s := by
  rcases h with h | h | h | h
  · exact State.pinHint_ignored width h
  · exact if_neg (by rw [h]; simp)
  · exact if_neg (by rw [h]; simp)
  · exact if_neg (by rw [decide_eq_false (Nat.not_lt.mpr h), Bool.and_false]; decide)

/-- R346 to R348: what a hint, and what a GO, makes in RUN with no stroke active. -/
theorem State.hint_shows (hp : s.power = .run) (hon : s.cmdOn 1 = true) (ha : s.preArmed = false) (hr : s.strokeRuns = false) (em : Bool) {d : Nat} (hd : d < 2) (pr : Bool) :
    ((s.takeHint false em d pr).preArmed = true ∧ (s.takeHint false em d pr).strokeRuns = false ∧ (s.takeHint false em d pr).dir = d ∧ (s.takeHint false em d pr).drv.shedHold = true ∧
      (s.takeHint false em d pr).stk.boost = 5 * s.g F.STK_PRECFG_BOOST ∧ (s.takeHint false em d pr).b F.STK_RECSTAT_CAPT = true ∧ (s.takeHint false em d pr).power = .run ∧
      (em = true → (s.takeHint false em d pr).b F.STK_STAT_EMERG = true)) ∧
    (s.takeHint true em d pr).strokeRuns = true ∧ (s.takeHint true em d pr).preArmed = false ∧ (s.takeHint true em d pr).dir = d ∧ (s.takeHint true em d pr).stk.ts = s.rtc ∧
      (em = true → (s.takeHint true em d pr).b F.STK_STAT_EMERG = true) := by
  obtain ⟨hhint, hgo⟩ := s.takeHint_idle hp hon ha hr em d pr
  obtain ⟨harm, hcapt⟩ := s.prearm_shows em pr hd
  rw [hhint, hgo]
  generalize s.prearm em d pr = u at harm hcapt ⊢
  have hkind : em = true → (if em then 1 else 0) = 1 := fun he => if_pos he
  obtain ⟨k, hrun, -⟩ := u.startStroke_runs u.rtc [] u.stk.hist.head?
  exact ⟨⟨harm.armed, harm.runs.trans hr, harm.dir, harm.held, harm.boost, hcapt, harm.power.trans hp, fun he => (harm.emerg (hkind he)).1⟩, hrun.runs, hrun.armed, hrun.dir.trans harm.dir,
    hrun.start.trans harm.rtc, fun he => (u.startStroke_emerg u.rtc u.stk.hist.head? (harm.emerg (hkind he)).2).trans (harm.emerg (hkind he)).1⟩

/-- A write of STK_CMD with the host interface alive is the stroke command's. -/
theorem exec_strokeKeys_next {w : Word} {t : State} (ha : s.hostAlive = true) (ht : s.clocked.strokeCommand w = t) :
    exec (.stkHint w) s = .next t.settle ∧ exec (.stkGo w) s = .next t.settle ∧ exec (.stkEnd w) s = .next t.settle ∧ exec (.stkCancel w) s = .next t.settle := by
  have hn : hostDone s (·.strokeCommand w) = .next t.settle := by
    rw [hostDone_of_hostAlive _ ha, ← ht]
  exact ⟨hn, hn, hn, hn⟩

end

/-- Settles O50: a hint pre-arms, a GO starts, a pulse is a hint by its band, and an end, a cancel and the timeout leave the logic idle. -/
theorem strokeHintsAndEnds : Obligations.StrokeHintsAndEnds := by
  unfold Obligations.StrokeHintsAndEnds
  refine ⟨fun s w ha hp hon hpre hrun hk hn => ?_, fun s w ha hon hk hn => ?_, fun s w h => ?_, fun s width d em he hv hp hon hpre hrun h => ?_, fun s width hr he hv h => ?_, fun s width d em hr he hv h => ?_,
    fun s width h => ?_, fun s w ha hp hon hrun hk hn hop => ?_, fun s hrun => ⟨fun h => ?_, fun h => ?_⟩, fun s w ha hp hon hpre hk hn => ⟨fun hop => ?_, fun hop hrun => ?_⟩, fun s => ⟨fun h => ?_, fun h => ?_⟩⟩
  · obtain ⟨hhint, hgo, -, -⟩ := s.clocked.strokeCommand_keyed hk hn
    have hd : F.STK_CMD_DIR.get w < 2 := Nat.mod_lt _ (by decide)
    obtain ⟨⟨h1, h2, h3, h4, h5, h6, h7, h8⟩, h9, h10, h11, h12, h13⟩ := s.clocked.hint_shows hp hon hpre hrun (F.STK_CMD_KIND.get w = 1) hd (F.STK_CMD_KIND.get w = 2)
    exact ⟨fun hop => ⟨_, (exec_strokeKeys_next ha (hhint hop)).1, h1, h2, h3, h4, h5, h6, h7, fun h => h8 (decide_eq_true h)⟩,
      fun hop => ⟨_, (exec_strokeKeys_next ha (hgo hop)).2.1, h9, h10, h11, h12, fun h => h13 (decide_eq_true h)⟩⟩
  · obtain ⟨hhint, hgo, hend, hcancel⟩ := s.clocked.strokeCommand_keyed hk hn
    have hoff := s.clocked.takeHint_off hon
    exact ⟨fun hop => (exec_strokeKeys_next ha ((hhint hop).trans (hoff _ _ _ _).1)).1, fun hop => (exec_strokeKeys_next ha ((hgo hop).trans (hoff _ _ _ _).1)).2.1,
      fun hop => (exec_strokeKeys_next ha ((hend hop).trans (hoff true true 0 true).2.1)).2.2.1, fun hop => (exec_strokeKeys_next ha ((hcancel hop).trans (hoff true true 0 true).2.2)).2.2.2⟩
  · have hsame := hostDone_of_unchanged s (State.strokeCommand_ignored h)
    exact ⟨hsame, hsame, hsame, hsame⟩
  · have hband := pulseBand_inside (Config.freeBit s.freeCtr) h
    have hw : 10 < width := by omega
    have hd : d < 2 := by omega
    have hr : s.running = true := by unfold State.running; rw [hp]; rfl
    obtain ⟨⟨h1, h2, h3, -, -, -, -, h8⟩, -⟩ := ({ s with freeCtr := s.freeCtr + 1 } : State).hint_shows hp hon hpre hrun em hd false
    exact ⟨_, congrArg done ((State.pinHint_taken hr he hv hw).1 em d hband), h1, h2, h3, h8⟩
  · exact congrArg done ((State.pinHint_taken hr he hv (by omega)).2 (pulseBand_outside _ (by omega)))
  · have hband := pulseBand_edge (Config.freeBit s.freeCtr) h
    obtain ⟨hhint, hbad⟩ := State.pinHint_taken hr he hv (show 10 < width by omega)
    cases hc : Config.freeBit s.freeCtr with
    | true =>
      rw [hc] at hband
      exact .inl (congrArg done (hhint em d (hc ▸ hband)))
    | false =>
      rw [hc] at hband
      exact .inr (congrArg done (hbad (hc ▸ hband)))
  · exact congrArg done (State.pinHint_untaken h)
  · obtain ⟨-, -, hend, -⟩ := s.clocked.strokeCommand_keyed hk hn
    exact ⟨_, (exec_strokeKeys_next ha ((hend hop).trans (s.clocked.cmdEnd_runs hp hon hrun))).2.2.1, s.clocked.endStroke_shows⟩
  · exact ⟨_, congrArg done (if_pos (by rw [hrun, decide_eq_true h]; rfl)), s.endStroke_shows⟩
  · exact congrArg done (if_neg (by rw [hrun, decide_eq_false (Nat.not_le.mpr h)]; decide))
  · obtain ⟨-, -, -, hcancel⟩ := s.clocked.strokeCommand_keyed hk hn
    exact ⟨_, (exec_strokeKeys_next ha ((hcancel hop).trans (s.clocked.cmdCancel_armed hp hon hpre))).2.2.2, s.clocked.cancelStroke_shows false⟩
  · obtain ⟨-, -, hend, -⟩ := s.clocked.strokeCommand_keyed hk hn
    exact ⟨_, (exec_strokeKeys_next ha ((hend hop).trans (s.clocked.cmdEnd_armed hp hon hpre hrun))).2.2.1, s.clocked.cancelStroke_shows false⟩
  · exact ⟨_, congrArg done (if_pos h), s.cancelStroke_shows false⟩
  · exact congrArg done (if_neg (by rw [h]; decide))

end Sys2Proof.Machine
end

section
/-! PROOFS. What the gauge's operations keep of its status. -/
namespace Sys2Proof.Machine

/-! ### What the gauge's operations keep of its status (R431 to R453) -/

section
variable {s t s₀ : State}

theorem exec_gaugeEvents (s : State) (raw : Int) (b k : Nat) (ib : Int) (r : List Byte) (x : Bool) :
    exec (.coulombResult raw) s = done (s.when s.aoOn (·.coulombResult raw)) ∧
      exec .ccRange s = done (s.when (s.aoOn && s.gau.full && !s.gau.ranged) (fun s => (s.setGau (fun g => { g with ranged := true })).spoilPair.raise 87)) ∧ exec .gauAccRead s = done (s.readOne A.GAU_ACC0) ∧
      exec (.gaugeSecond b) s = done (s.when s.aoOn (fun s => (s.gaugeSecond b).chgSecond)) ∧ exec .voltageSaysEmpty s = done s.voltageEmpty ∧ exec (.restPoint b) s = done (s.restPoint b) ∧
      exec (.chargerStepSample k b ib) s = done (s.chargerStep k b ib) ∧ exec .authPeriodic s = done (s.when (s.gaugeRuns && s.gau.authAt.isSome) State.authStart) ∧
      exec (.authResponseRead r) s = done (s.when s.gaugeRuns (·.authResponse r)) ∧ exec (.authReadRetry x) s = done (s.when x (·.attemptEnds 1)) ∧ exec .authBusHeld s = done (s.attemptEnds 3) ∧
      exec .authAttemptRetry s = done s.authRetry := ⟨rfl, rfl, rfl, rfl, rfl, rfl, rfl, rfl, rfl, rfl, rfl, rfl⟩

/-- The part of the gauge's record that only the second, an attempt and its result change. -/
def Gauge.core (g : Gauge) : Nat × Rat × Rat × AuthStage × Option Nat := (g.secN, g.secSum, g.accSec, g.stage, g.passAt)

/-- A bit of GAU_STAT beside FLOW, REST and AUTH. -/
def besideFlow (f : Fld) : Bool := 13 ≤ f.lsb || (f.lsb + f.width ≤ 10 && 7 ≤ f.lsb) || f.lsb + f.width ≤ 5

/-- From s to t the gauge has worked: the supplies, the clock, the core of its record, FLOW, REST and AUTH stand, and what was raised is raised. -/
structure State.GaugedOf (t s : State) : Prop where
  sup : t.sup = s.sup
  power : t.power = s.power
  core : t.gau.core = s.gau.core
  flow : t.g F.GAU_STAT_FLOW = s.g F.GAU_STAT_FLOW
  rest : t.b F.GAU_STAT_REST = s.b F.GAU_STAT_REST
  auth : t.g F.GAU_STAT_AUTH = s.g F.GAU_STAT_AUTH
  raised : ∀ r, r ∈ s.flt.raised → r ∈ t.flt.raised

theorem State.GaugedOf.refl (s : State) : s.GaugedOf s := ⟨rfl, rfl, rfl, rfl, rfl, rfl, fun _ h => h⟩

theorem State.GaugedOf.trans (h : t.GaugedOf s) (h' : s.GaugedOf s₀) : t.GaugedOf s₀ :=
  ⟨h.sup.trans h'.sup, h.power.trans h'.power, h.core.trans h'.core, h.flow.trans h'.flow, h.rest.trans h'.rest, h.auth.trans h'.auth, fun r hr => h.raised r (h'.raised r hr)⟩

theorem State.GaugedOf.wr (h : s.GaugedOf s₀) {a : Nat} {w : Word} (ha : A.GAU_STAT ≠ a := by decide) : (s.wr a w).GaugedOf s₀ :=
  ⟨h.sup, h.power, h.core, (State.g_congr (f := F.GAU_STAT_FLOW) (s.rd_wr_ne w ha)).trans h.flow, (State.b_congr (f := F.GAU_STAT_REST) (s.rd_wr_ne w ha)).trans h.rest,
    (State.g_congr (f := F.GAU_STAT_AUTH) (s.rd_wr_ne w ha)).trans h.auth, h.raised⟩

theorem State.GaugedOf.wn (h : s.GaugedOf s₀) {a v : Nat} (ha : A.GAU_STAT ≠ a := by decide) : (s.wn a v).GaugedOf s₀ := h.wr ha

theorem State.GaugedOf.wi (h : s.GaugedOf s₀) {a : Nat} {v : Int} (ha : A.GAU_STAT ≠ a := by decide) : (s.wi a v).GaugedOf s₀ := h.wr ha

theorem State.GaugedOf.p (h : s.GaugedOf s₀) {f : Fld} {v : Nat} (ha : A.GAU_STAT ≠ f.addr := by decide) : (s.p f v).GaugedOf s₀ := h.wr ha

theorem State.GaugedOf.pbit (h : s.GaugedOf s₀) {a k : Nat} {v : Bool} (ha : A.GAU_STAT ≠ a := by decide) : (s.pbit a k v).GaugedOf s₀ := h.wr ha

theorem State.GaugedOf.w32 (h : s.GaugedOf s₀) {a v : Nat} (ha : A.GAU_STAT ≠ a := by decide) (ha' : A.GAU_STAT ≠ a + 1 := by decide) : (s.w32 a v).GaugedOf s₀ := (h.wn ha).wn ha'

/-- A bit of the gauge's status beside FLOW, REST and AUTH. -/
theorem State.GaugedOf.mark (h : s.GaugedOf s₀) {f : Fld} {v : Nat} (hw : f.lsb + f.width ≤ 16 := by decide) (hb : besideFlow f = true := by decide) : (s.p f v).GaugedOf s₀ := by
  have hside : f.lsb ≥ 13 ∨ f.lsb + f.width ≤ 10 ∧ 7 ≤ f.lsb ∨ f.lsb + f.width ≤ 5 := by
    simpa only [besideFlow, Bool.or_eq_true, Bool.and_eq_true, decide_eq_true_eq, or_assoc] using hb
  have hbeside : ∀ b w, b = 11 ∧ w = 2 ∨ b = 10 ∧ w = 1 ∨ b = 5 ∧ w = 2 → b + w ≤ f.lsb ∨ f.lsb + f.width ≤ b := fun b w hbw => by omega
  exact ⟨h.sup, h.power, h.core, (s.g_p_beside (g := F.GAU_STAT_FLOW) v hw (hbeside 11 2 (by decide))).trans h.flow, (s.b_p_beside (g := F.GAU_STAT_REST) v hw (hbeside 10 1 (by decide))).trans h.rest,
    (s.g_p_beside (g := F.GAU_STAT_AUTH) v hw (hbeside 5 2 (by decide))).trans h.auth, h.raised⟩

theorem State.GaugedOf.setGau (h : s.GaugedOf s₀) {f : Gauge → Gauge} (hf : (f s.gau).core = s.gau.core) : (s.setGau f).GaugedOf s₀ := ⟨h.sup, h.power, hf.trans h.core, h.flow, h.rest, h.auth, h.raised⟩

theorem State.GaugedOf.raise (h : s.GaugedOf s₀) {n : Nat} : (s.raise n).GaugedOf s₀ := ⟨h.sup, h.power, h.core, h.flow, h.rest, h.auth, fun r hr => List.mem_append_left _ (h.raised r hr)⟩

theorem State.GaugedOf.beside (h : s.GaugedOf s₀) {n : Nvm} {k : Nat} {c : Charger} {i : Hif} {m : Mrq} : State.GaugedOf { s with nvm := n, freeCtr := k, chg := c, hif := i, mrq := m } s₀ :=
  ⟨h.sup, h.power, h.core, h.flow, h.rest, h.auth, h.raised⟩

theorem State.GaugedOf.gaugeEvent (h : s.GaugedOf s₀) {ev detail cls : Nat} : (s.gaugeEvent ev detail cls).GaugedOf s₀ := h.beside

theorem State.GaugedOf.wantWriteBack (h : s.GaugedOf s₀) : s.wantWriteBack.GaugedOf s₀ := h.beside

theorem State.GaugedOf.dirty (h : s.GaugedOf s₀) : s.dirty.GaugedOf s₀ := State.GaugedOf.beside (h.p (f := F.SYS_LDSTAT_DIRTY) (v := 1))

theorem State.GaugedOf.ite {c : Prop} [Decidable c] (hs : s.GaugedOf s₀) (ht : t.GaugedOf s₀) : (if c then s else t).GaugedOf s₀ := by
  split
  · exact hs
  · exact ht

theorem State.GaugedOf.when (h : s.GaugedOf s₀) {c : Bool} {f : State → State} (hf : ∀ t : State, t.GaugedOf s₀ → (f t).GaugedOf s₀) : (s.when c f).GaugedOf s₀ := .ite (hf s h) h

theorem State.GaugedOf.dirtySince (h : s.GaugedOf s₀) {u : State} {l : List Nat} : (s.dirtySince u l).GaugedOf s₀ := h.when fun _ ht => ht.dirty

theorem State.GaugedOf.roundOpen (h : s.GaugedOf s₀) {x : Rat} : (s.roundOpen x).2.GaugedOf s₀ := by
  obtain ⟨v, k, hr⟩ := s.roundOpen_frame x
  rw [hr]
  exact h.beside

theorem State.GaugedOf.putR (h : s.GaugedOf s₀) {a : Nat} {x : Rat} (ha : A.GAU_STAT ≠ a := by decide) : (s.putR a x).GaugedOf s₀ := h.roundOpen.wn ha

theorem State.GaugedOf.foldl {α : Type} (h : s.GaugedOf s₀) {l : List α} {f : State → α → State} (hf : ∀ (t : State) (x : α), x ∈ l → t.GaugedOf s₀ → (f t x).GaugedOf s₀) : (l.foldl f s).GaugedOf s₀ := by
  induction l generalizing s with
  | nil => exact h
  | cons x xs ih => exact ih (hf s x (List.mem_cons_self ..) h) fun t y hy => hf t y (List.mem_cons_of_mem _ hy)

theorem State.GaugedOf.setDis (h : s.GaugedOf s₀) {d : Nat} : (s.setDis d).GaugedOf s₀ := .ite h h.mark.gaugeEvent

theorem State.GaugedOf.spoilPair (h : s.GaugedOf s₀) : s.spoilPair.GaugedOf s₀ := h.setGau rfl

theorem State.GaugedOf.thawGauge (h : s.GaugedOf s₀) : s.thawGauge.GaugedOf s₀ := .ite h.mark.gaugeEvent h

theorem State.GaugedOf.judgeReserve (h : s.GaugedOf s₀) : s.judgeReserve.GaugedOf s₀ := by
  have hlow : (s.pb F.GAU_STAT_LOW (!s.reserveOk)).GaugedOf s₀ := h.mark
  unfold State.judgeReserve
  dsimp only
  generalize s.pb F.GAU_STAT_LOW (!s.reserveOk) = u at hlow ⊢
  have hset : ∀ x, (u.setGau (fun g => { g with ok85 := x })).GaugedOf s₀ := fun x => hlow.setGau rfl
  exact .ite hlow ((hset _).gaugeEvent.when fun _ ht => ht.raise)

theorem State.GaugedOf.reserveLost (h : s.GaugedOf s₀) : s.reserveLost.GaugedOf s₀ := .ite h h.p.judgeReserve

theorem State.GaugedOf.updateReserve (h : s.GaugedOf s₀) : s.updateReserve.GaugedOf s₀ := by
  unfold State.updateReserve
  exact (h.putR.putR.p.p).judgeReserve

theorem State.GaugedOf.countCycles (h : s.GaugedOf s₀) {x : Rat} : (s.countCycles x).GaugedOf s₀ := by
  have hset : ∀ y, (s.setGau (fun g => { g with partSum := y })).GaugedOf s₀ := fun y => h.setGau rfl
  unfold State.countCycles
  exact .ite h (.ite (hset _).w32.dirtySince (hset _))

theorem State.GaugedOf.estimate (h : s.GaugedOf s₀) {x : Rat} : (s.estimate x).GaugedOf s₀ := by
  have hset : ∀ q : Rat, (s.setGau (fun g => { g with estDue := false, qrem := q, soc := x, anchor := none })).GaugedOf s₀ := fun q => h.setGau rfl
  unfold State.estimate
  exact (hset _).mark

theorem State.GaugedOf.acceptCapacity (h : s.GaugedOf s₀) {x : Rat} : (s.acceptCapacity x).GaugedOf s₀ := by
  unfold State.acceptCapacity
  exact (((h.putR.pbit.mark).dirtySince).wantWriteBack.gaugeEvent).when fun _ ht => ht.raise

theorem State.GaugedOf.anchorLearns (h : s.GaugedOf s₀) {x : Rat} : (s.anchorLearns x).GaugedOf s₀ := by
  unfold State.anchorLearns
  split
  · exact .ite (.ite h.acceptCapacity h) h
  · exact h

theorem State.GaugedOf.anchorTaken (h : s.GaugedOf s₀) {x : Rat} {good : Bool} : (s.anchorTaken x good).GaugedOf s₀ := by
  have hest : (s.p F.GAU_STAT_ESTIM 0).GaugedOf s₀ := h.mark
  unfold State.anchorTaken
  generalize s.p F.GAU_STAT_ESTIM 0 = u at hest ⊢
  have hset : ∀ q : Rat, (u.setGau (fun g => { g with qrem := q, anchor := some ⟨x, g.acc, good⟩ })).GaugedOf s₀ := fun q => hest.setGau rfl
  exact (hset _).putR.putR

theorem State.GaugedOf.takeAnchor (h : s.GaugedOf s₀) {x : Rat} : (s.takeAnchor x).GaugedOf s₀ := by
  rw [State.takeAnchor_eq]
  exact h.anchorLearns.anchorTaken

end
end Sys2Proof.Machine
end

section
/-! PROOFS. The gauge's second, its anchors, and the pass and the failure of a pack (R431 to R453). -/
namespace Sys2Proof.Machine

/-! ### The second, a rest, and the passes and failures of a pack (R431 to R453) -/

section
variable {s t s₀ : State}

theorem State.GaugedOf.putWords (h : s.GaugedOf s₀) {a : Nat} {l : List Nat} (ha : A.GAU_STAT < a) : (s.putWords a l).GaugedOf s₀ := by
  unfold State.putWords
  generalize l.map (BitVec.ofNat 16) = ws
  induction ws generalizing s a with
  | nil => exact h
  | cons w ws ih => exact ih (h.wr (Nat.ne_of_lt ha)) (Nat.lt_succ_of_lt ha)

theorem State.GaugedOf.swapRecords (h : s.GaugedOf s₀) : s.swapRecords.GaugedOf s₀ := by
  have hgau : ∀ x : Nat, ∀ u : State, u.GaugedOf s₀ → (u.setGau (fun g => { g with prevCyc := x })).GaugedOf s₀ := fun x u hu => hu.setGau rfl
  unfold State.swapRecords
  exact hgau _ _ (((((((h.putWords (by decide)).putWords (by decide)).putWords (by decide)).putWords (by decide)).wn).wn).w32.wn)

theorem State.GaugedOf.packDefaults (h : s.GaugedOf s₀) : s.packDefaults.GaugedOf s₀ := by
  have hcur : ∀ w, A.GAU_STAT ≠ A.GAU_ZCUR w := fun w => by show 0x0700 ≠ 0xC000 + w; omega
  unfold State.packDefaults State.each
  exact (h.wn.w32).foldl fun _ w _ ht => ht.wn (hcur w)

theorem State.GaugedOf.restartRef (h : s.GaugedOf s₀) {dir : Nat} (hd : dir < 2) : (s.restartRef dir).GaugedOf s₀ := by
  have haddr : ∀ a ∈ refAddrs dir, A.GAU_STAT ≠ a := fun a ha => by
    unfold refAddrs at ha
    rcases List.mem_cons.mp ha with rfl | ha
    · show 0x0700 ≠ 0x058B + dir
      omega
    · obtain ⟨i, -, rfl⟩ := List.mem_map.mp ha
      show 0x0700 ≠ if dir = 0 then 0xC200 + i else 0xC300 + i
      split <;> omega
  unfold State.restartRef State.each
  exact (h.foldl fun _ a ha ht => ht.wn (haddr a ha)).dirty

theorem State.GaugedOf.newRecord (h : s.GaugedOf s₀) {sn : List Nat} : (s.newRecord sn).GaugedOf s₀ := by
  unfold State.newRecord
  exact (((((h.when fun _ ht => ht.swapRecords).putWords (by decide)).packDefaults).restartRef (by decide)).restartRef (by decide)).wn

theorem State.GaugedOf.askEstimate (h : s.GaugedOf s₀) : s.askEstimate.GaugedOf s₀ := h.setGau rfl

/-- R431: the second's sum is closed, with BATT. -/
def State.secondClosed (s : State) (b : Nat) : State := State.setGau { s with sup := { s.sup with battMv := b } } (fun g => { g with secSum := 0, secN := 0, accSec := g.acc })

/-- R431, R434, R460: a running gauge's measures of the second: the mean current, the cell voltage, FLOW and AGE. -/
def State.secondMeasured (s : State) (ma vcell : Rat) : State :=
  let s := s.setGau (fun g => { g with col := s.column })
  let (ib, s) := s.roundOpen (ma / 10)
  let s := ((s.wi A.GAU_IBAT ib).putR A.GAU_VCELL vcell).p F.GAU_STAT_FLOW (s.flowOf ma)
  s.p F.GAU_AUTHSTAT_AGE s.authAge

/-- R435 to R440: the charge that the second counts, where a battery is present and the gauge is not frozen. -/
def State.secondCounted (s : State) (ma vcell dq : Rat) : State :=
  if s.present && !s.frozen then
    let (sv, _) := s.socOf (s.vcomp vcell ma)
    let s := s.setGau (fun g => { g with socv := sv, ran := true })
    let s := s.when (decide (dq < 0)) (·.countCycles (-dq))
    let s := if s.gau.estDue then s.estimate sv
      else
        let cc0 := s.socCc
        let fcc : Rat := s.fcc
        let s := s.setGau (fun g => { g with qrem := clampR 0 fcc (g.qrem + dq) })
        let cc := s.socCc
        let s := s.setGau (fun g => { g with soc := nextSoc g.soc (cc - cc0) cc (s.g F.GAU_STAT_FLOW) (s.g F.GAU_STAT_DIS) })
        if cc = 0 && decide (5 ≤ sv) && s.g F.GAU_STAT_DIS = 0 then ((s.setDis 1).raise 84).spoilPair else s
    (((s.putR A.GAU_SOC (10 * s.gau.soc)).putR A.GAU_SOCCC (10 * s.socCc)).putR A.GAU_SOCV (10 * s.gau.socv)).putR A.GAU_QREM s.gau.qrem
  else s

theorem State.gaugeSecond_eq (s : State) (b : Nat) (hr : s.gaugeRuns = true) : ∃ vcell dq,
    s.gaugeSecond b = (((s.secondClosed b).secondMeasured (if s.gau.secN = 0 then 0 else s.gau.secSum / (s.gau.secN : Rat)) vcell).secondCounted
      (if s.gau.secN = 0 then 0 else s.gau.secSum / (s.gau.secN : Rat)) vcell dq).updateReserve := by
  unfold State.gaugeSecond
  exact ⟨_, _, if_pos hr⟩

theorem State.GaugedOf.secondCounted (h : s.GaugedOf s₀) {ma vcell dq : Rat} : (s.secondCounted ma vcell dq).GaugedOf s₀ := by
  unfold State.secondCounted
  refine .ite ?_ h
  have hsoc : ∀ x : Rat, (s.setGau (fun g => { g with socv := x, ran := true })).GaugedOf s₀ := fun x => h.setGau rfl
  refine State.GaugedOf.putR (State.GaugedOf.putR (State.GaugedOf.putR (State.GaugedOf.putR (.ite ((hsoc _).when fun _ ht => ht.countCycles).estimate ?_))))
  have hcount := fun c => (hsoc (s.socOf (s.vcomp vcell ma)).1).when (c := c) (f := (·.countCycles (-dq))) fun _ ht => ht.countCycles
  have hq : ∀ (u : State) (x : Rat), u.GaugedOf s₀ → (u.setGau (fun g => { g with qrem := clampR 0 x (g.qrem + dq) })).GaugedOf s₀ := fun u x hu => hu.setGau rfl
  have hs : ∀ (u : State) (x y : Rat), u.GaugedOf s₀ → (u.setGau (fun g => { g with soc := nextSoc g.soc x y (u.g F.GAU_STAT_FLOW) (u.g F.GAU_STAT_DIS) })).GaugedOf s₀ := fun u x y hu => hu.setGau rfl
  exact .ite (hs _ _ _ (hq _ _ (hcount _))).setDis.raise.spoilPair (hs _ _ _ (hq _ _ (hcount _)))

theorem State.secondMeasured_shows (s : State) (ma vcell : Rat) :
    (s.secondMeasured ma vcell).sup = s.sup ∧ (s.secondMeasured ma vcell).gau.core = s.gau.core ∧ (s.secondMeasured ma vcell).g F.GAU_STAT_FLOW = s.flowOf ma := by
  have hlt : ∀ t : State, t.flowOf ma < 2 ^ 2 := fun t => by
    unfold State.flowOf
    dsimp only
    split
    · decide
    · split <;> decide
  unfold State.secondMeasured
  obtain ⟨v, k, hr⟩ := (s.setGau (fun g => { g with col := s.column })).roundOpen_frame (ma / 10)
  dsimp only
  rw [hr]
  have hu : ({ s.setGau (fun g => { g with col := s.column }) with freeCtr := k } : State).sup = s.sup ∧ ({ s.setGau (fun g => { g with col := s.column }) with freeCtr := k } : State).gau.core = s.gau.core ∧
      ({ s.setGau (fun g => { g with col := s.column }) with freeCtr := k } : State).flowOf ma = s.flowOf ma := ⟨rfl, rfl, rfl⟩
  dsimp only
  generalize ({ s.setGau (fun g => { g with col := s.column }) with freeCtr := k } : State) = u at hu ⊢
  obtain ⟨hsup, hcore, hflow⟩ := hu
  obtain ⟨x, j, hput⟩ := (u.wi A.GAU_IBAT v).putR_frame A.GAU_VCELL vcell
  rw [hput, hflow]
  refine ⟨hsup, hcore, ?_⟩
  exact (State.g_congr (State.rd_p_ne _ _ (by decide))).trans ((State.g_p_same _ F.GAU_STAT_FLOW _ (by decide)).trans (Nat.mod_eq_of_lt (hlt s)))

/-- R431: the second closes its sum, and tells the direction of the mean current. -/
theorem State.gaugeSecond_shows (s : State) (b : Nat) :
    (s.gaugeSecond b).sup = { s.sup with battMv := b } ∧ (s.gaugeSecond b).gau.secN = 0 ∧ (s.gaugeSecond b).gau.secSum = 0 ∧ (s.gaugeSecond b).gau.accSec = s.gau.acc ∧
      (s.gaugeRuns = true → (s.gaugeSecond b).g F.GAU_STAT_FLOW = s.flowOf (if s.gau.secN = 0 then 0 else s.gau.secSum / (s.gau.secN : Rat))) := by
  cases hruns : s.gaugeRuns with
  | false =>
    have he : s.gaugeSecond b = s.secondClosed b := if_neg (by show ¬ s.gaugeRuns = true; rw [hruns]; decide)
    rw [he]
    exact ⟨rfl, rfl, rfl, rfl, fun h => Bool.noConfusion h⟩
  | true =>
    obtain ⟨vcell, dq, he⟩ := s.gaugeSecond_eq b hruns
    rw [he]
    generalize (if s.gau.secN = 0 then 0 else s.gau.secSum / (s.gau.secN : Rat)) = ma
    obtain ⟨hsup, hcore, hflow⟩ := (s.secondClosed b).secondMeasured_shows ma vcell
    generalize (s.secondClosed b).secondMeasured ma vcell = v at hsup hcore hflow ⊢
    have hgau := ((State.GaugedOf.refl v).secondCounted (ma := ma) (vcell := vcell) (dq := dq)).updateReserve
    generalize ((v.secondCounted ma vcell dq).updateReserve) = w at hgau ⊢
    have hall : w.gau.core = (s.secondClosed b).gau.core := hgau.core.trans hcore
    have h1 : w.gau.secN = (s.secondClosed b).gau.secN := congrArg Prod.fst hall
    have h2 : w.gau.secSum = (s.secondClosed b).gau.secSum := congrArg (fun c => c.2.1) hall
    have h3 : w.gau.accSec = (s.secondClosed b).gau.accSec := congrArg (fun c => c.2.2.1) hall
    exact ⟨hgau.sup.trans hsup, h1, h2, h3, fun _ => hgau.flow.trans hflow⟩

/-- R453: a pass, whatever record it finds. -/
theorem State.packPassed_shows (s : State) (sn : List Nat) : (s.packPassed sn).gau.stage = .idle ∧ (s.packPassed sn).g F.GAU_STAT_AUTH = 2 ∧ (s.packPassed sn).gau.passAt = some s.rtcSec := by
  unfold State.packPassed
  dsimp only
  generalize hu : (((s.p F.GAU_STAT_AUTH 2).p F.GAU_AUTHSTAT_BUSY 0).p F.GAU_AUTHSTAT_AGE 0).setGau _ = u
  have hgau : u.gau.stage = .idle ∧ u.gau.passAt = some s.rtcSec := by rw [← hu]; exact ⟨rfl, rfl⟩
  have hauth : u.g F.GAU_STAT_AUTH = 2 := by
    rw [← hu]
    show (((s.p F.GAU_STAT_AUTH 2).p F.GAU_AUTHSTAT_BUSY 0).p F.GAU_AUTHSTAT_AGE 0).g F.GAU_STAT_AUTH = 2
    rw [State.g_p_ne _ (f := F.GAU_AUTHSTAT_AGE) 0 (by decide), State.g_p_ne _ (f := F.GAU_AUTHSTAT_BUSY) 0 (by decide)]
    exact s.g_p_same F.GAU_STAT_AUTH 2 (by decide)
  have hself := (State.GaugedOf.refl u).gaugeEvent (ev := 1) (detail := 0) (cls := 2)
  have hend : ∀ t : State, t.GaugedOf u → t.gau.stage = .idle ∧ t.g F.GAU_STAT_AUTH = 2 ∧ t.gau.passAt = some s.rtcSec := fun t ht => by
    have h1 : t.gau.stage = u.gau.stage := congrArg (fun c => c.2.2.2.1) ht.core
    have h2 : t.gau.passAt = u.gau.passAt := congrArg (fun c => c.2.2.2.2) ht.core
    exact ⟨h1.trans hgau.1, ht.auth.trans hauth, h2.trans hgau.2⟩
  refine hend _ ?_
  generalize u.gaugeEvent 1 0 2 = v at hself ⊢
  have hvalid : (if v.bit A.GAU_PFLG 1 then v else (v.pbit A.GAU_PFLG 1 true).dirty).GaugedOf u := .ite hself hself.pbit.dirty
  refine .ite (hvalid.when fun _ ht => ht.gaugeEvent).thawGauge (.ite ?_ ?_)
  · exact hself.swapRecords.pbit.askEstimate.dirty.wantWriteBack.gaugeEvent.thawGauge
  · exact (hself.newRecord.mark (f := F.GAU_STAT_RELEARN) (v := 1)).askEstimate.dirty.wantWriteBack.gaugeEvent.thawGauge.raise

/-- R451: a failed authentication. -/
theorem State.packFailed_shows (s : State) : s.packFailed.g F.GAU_STAT_AUTH = 3 ∧ s.packFailed.gau.stage = .idle ∧ (⟨92, .detector, s.power.code⟩ : Raise) ∈ s.packFailed.flt.raised := by
  unfold State.packFailed
  dsimp only
  generalize hu : ((s.p F.GAU_STAT_AUTH 3).p F.GAU_AUTHSTAT_BUSY 0).setGau _ = u
  have hstage : u.gau.stage = .idle := by rw [← hu]; rfl
  have hpow : u.power = s.power := by rw [← hu]; rfl
  have hauth : u.g F.GAU_STAT_AUTH = 3 := by
    rw [← hu]
    show ((s.p F.GAU_STAT_AUTH 3).p F.GAU_AUTHSTAT_BUSY 0).g F.GAU_STAT_AUTH = 3
    rw [State.g_p_ne _ (f := F.GAU_AUTHSTAT_BUSY) 0 (by decide)]
    exact s.g_p_same F.GAU_STAT_AUTH 3 (by decide)
  have hvalid : (if u.bit A.GAU_PFLG 1 then (u.pbit A.GAU_PFLG 1 false).dirty else u).GaugedOf u := .ite (State.GaugedOf.refl u).pbit.dirty (.refl u)
  generalize (if u.bit A.GAU_PFLG 1 then (u.pbit A.GAU_PFLG 1 false).dirty else u) = v at hvalid ⊢
  have hlate : ∀ c : Bool, (((v.gaugeEvent 1 (v.g F.GAU_AUTHSTAT_CAUSE) 1).when c (·.gaugeEvent 6 4 2)).askEstimate.thawGauge).GaugedOf u := fun c => (hvalid.gaugeEvent.when fun _ ht => ht.gaugeEvent).askEstimate.thawGauge
  have hfinal : ∀ w : State, w.GaugedOf u → (w.raise 92).reserveLost.g F.GAU_STAT_AUTH = 3 ∧ (w.raise 92).reserveLost.gau.stage = .idle ∧ (⟨92, .detector, s.power.code⟩ : Raise) ∈ (w.raise 92).reserveLost.flt.raised := fun w hw => by
    have hlost := hw.raise (n := 92) |>.reserveLost
    have h1 : (w.raise 92).reserveLost.gau.stage = u.gau.stage := congrArg (fun c => c.2.2.2.1) hlost.core
    have hmem : (⟨92, .detector, w.power.code⟩ : Raise) ∈ (w.raise 92).flt.raised := List.mem_append_right _ (List.mem_singleton.mpr rfl)
    rw [hw.power, hpow] at hmem
    exact ⟨hlost.auth.trans hauth, h1.trans hstage, ((State.GaugedOf.refl (w.raise 92)).reserveLost).raised _ hmem⟩
  exact hfinal _ (hlate _)

/-- R451: a failed attempt that is not the third. -/
theorem State.attemptFailed_again (cause : Nat) (ht : s.g F.GAU_AUTHSTAT_TRY < 3) :
    s.attemptFailed cause = (s.p F.GAU_AUTHSTAT_CAUSE (if Config.packKeyFuse then cause else 4)).setGau (fun g => { g with stage := .failed }) := by
  have htry : (s.p F.GAU_AUTHSTAT_CAUSE (if Config.packKeyFuse then cause else 4)).g F.GAU_AUTHSTAT_TRY = s.g F.GAU_AUTHSTAT_TRY := s.g_p_beside _ (by decide) (by decide)
  exact if_neg (by show ¬ 3 ≤ (s.p F.GAU_AUTHSTAT_CAUSE (if Config.packKeyFuse then cause else 4)).g F.GAU_AUTHSTAT_TRY; omega)

theorem State.attemptFailed_third (cause : Nat) (ht : s.g F.GAU_AUTHSTAT_TRY = 3) :
    (s.attemptFailed cause).g F.GAU_STAT_AUTH = 3 ∧ (s.attemptFailed cause).gau.stage = .idle ∧ (⟨92, .detector, s.power.code⟩ : Raise) ∈ (s.attemptFailed cause).flt.raised := by
  have he : s.attemptFailed cause = ((s.p F.GAU_AUTHSTAT_CAUSE (if Config.packKeyFuse then cause else 4)).setGau (fun g => { g with stage := .failed })).packFailed := by
    have htry : (s.p F.GAU_AUTHSTAT_CAUSE (if Config.packKeyFuse then cause else 4)).g F.GAU_AUTHSTAT_TRY = s.g F.GAU_AUTHSTAT_TRY := s.g_p_beside _ (by decide) (by decide)
    exact if_pos (by show 3 ≤ (s.p F.GAU_AUTHSTAT_CAUSE (if Config.packKeyFuse then cause else 4)).g F.GAU_AUTHSTAT_TRY; omega)
  rw [he]
  exact State.packFailed_shows _

theorem State.attemptFailed_cause (cause : Nat) (hc : (if Config.packKeyFuse then cause else 4) < 8) (ht : s.g F.GAU_AUTHSTAT_TRY < 3) :
    s.attemptFailed cause = { s with regs := (s.attemptFailed cause).regs, gau := { s.gau with stage := .failed } } ∧ (∀ a, a ≠ A.GAU_AUTHSTAT → (s.attemptFailed cause).rd a = s.rd a) ∧
      (s.attemptFailed cause).g F.GAU_AUTHSTAT_CAUSE = if Config.packKeyFuse then cause else 4 := by
  rw [State.attemptFailed_again cause ht]
  exact ⟨rfl, fun a ha => s.rd_p_ne (f := F.GAU_AUTHSTAT_CAUSE) _ ha, (s.g_p_same F.GAU_AUTHSTAT_CAUSE _ (by decide)).trans (Nat.mod_eq_of_lt hc)⟩

theorem State.attemptEnds_challenged (hr : s.gaugeRuns = true) (hc : s.gau.stage = .challenged) (cause : Nat) : s.attemptEnds cause = s.attemptFailed cause := by
  unfold State.attemptEnds State.when
  rw [hr, hc]
  rfl

/-- R450: an attempt's challenge has 16 bytes, and VNVM is on for it. -/
theorem State.authAttempt_shows (s : State) :
    s.authAttempt.gau.stage = .challenged ∧ s.authAttempt.g F.GAU_AUTHSTAT_TRY = (s.g F.GAU_AUTHSTAT_TRY + 1) % 8 ∧ s.authAttempt.b F.GAU_AUTHSTAT_BUSY = true ∧ s.authAttempt.gau.chal.length = 16 ∧ s.authAttempt.nvm.vnvm = true := by
  have hlen : ∀ (l : List Nat) (x : List Byte) (t : State), (l.foldl (fun (x : List Byte × State) _ => (x.1 ++ [BitVec.ofNat 8 (x.2.free 256).1], (x.2.free 256).2)) (x, t)).1.length = x.length + l.length := fun l => by
    induction l with
    | nil => exact fun _ _ => rfl
    | cons y ys ih =>
      intro x t
      refine (ih _ _).trans ?_
      rw [List.length_append, List.length_cons]
      show x.length + 1 + ys.length = x.length + (ys.length + 1)
      omega
  have hchal : s.authAttempt.gau.chal = (s.freeBytes 16).1 := rfl
  obtain ⟨c, k, he⟩ := s.authAttempt_frame
  refine ⟨?_, ?_, ?_, ?_, ?_⟩
  · rw [he]; rfl
  · rw [he]
    exact State.g_p_same _ F.GAU_AUTHSTAT_TRY _ (by decide)
  · rw [he]
    exact (State.b_p_beside _ (f := F.GAU_AUTHSTAT_TRY) (g := F.GAU_AUTHSTAT_BUSY) _ (by decide) (by decide)).trans (State.b_p_one _ F.GAU_AUTHSTAT_BUSY (by decide) rfl)
  · rw [hchal]
    exact (hlen (List.range 16) [] s).trans (by rw [List.length_range]; rfl)
  · rw [he]; rfl

end
end Sys2Proof.Machine
end

section
/-! PROOFS. The gauge and the authentication of the pack (R429 to R459). -/
namespace Sys2Proof.Machine

/-! ### The counter, the rest point and the charger's step (R429 to R443) -/

section
variable {s : State}

theorem State.coulombResult_eq {raw : Int} {q d : Nat} (hq : shuntQ (s.g F.GAU_CFG_RSH) = some q) (hd : deadband (s.g F.GAU_CFG_DEADBAND) = some d) :
    ∃ full ranged step, s.coulombResult raw = { s with gau := { s.gau with
      acc := if (raw.natAbs : Rat) * 3052 / 1000 < (d : Rat) then s.gau.acc else clampR (-140737488355328) 140737488355327 (s.gau.acc + (raw : Rat) * 3052 / 1000 * 4 / (q : Rat) / 1000)
      secSum := s.gau.secSum + (raw : Rat) * 3052 / 1000 * 4 / (q : Rat), secN := s.gau.secN + 1, last := (raw : Rat) * 3052 / 1000 * 4 / (q : Rat), full := full, ranged := ranged, chgStep := step } } := by
  have hma : s.coulombMa raw = ((raw : Rat) * 3052 / 1000 * 4 / (q : Rat), s) := by
    unfold State.coulombMa
    rw [hq]
  have hdead : s.inDeadband raw = (decide ((raw.natAbs : Rat) * 3052 / 1000 < (d : Rat)), s) := by
    unfold State.inDeadband
    rw [hd]
  unfold State.coulombResult
  rw [hma]
  dsimp only
  rw [hdead]
  generalize (raw : Rat) * 3052 / 1000 * 4 / (q : Rat) = ma
  by_cases hb : (raw.natAbs : Rat) * 3052 / 1000 < (d : Rat)
  · rw [if_pos hb, decide_eq_true hb]
    exact ⟨_, _, _, rfl⟩
  · rw [if_neg hb, decide_eq_false hb]
    exact ⟨_, _, _, rfl⟩

theorem State.voltageEmpty_due (hr : s.gaugeRuns = true) (hp : s.present = true) (hf : s.frozen = false) (hw : s.g F.GAU_STAT_FLOW = 2) (hc : 5 < s.socCc) : s.voltageEmpty = ((s.setDis 2).raise 84).spoilPair := by
  refine if_pos ?_
  rw [hr, hp, hf, hw, decide_eq_true hc]
  decide

theorem State.voltageEmpty_not (h : s.gaugeRuns = false ∨ s.present = false ∨ s.frozen = true ∨ s.g F.GAU_STAT_FLOW ≠ 2 ∨ s.socCc ≤ 5) : s.voltageEmpty = s := by
  refine if_neg ?_
  rcases h with h | h | h | h | h
  · rw [h]; simp
  · rw [h]; simp
  · rw [h]; simp
  · rw [decide_eq_false h]; simp
  · rw [decide_eq_false (not_lt.mpr h)]; simp

/-- R455: DIS as it is set. -/
theorem State.setDis_shows (s : State) {d : Nat} (hd : d < 4) :
    s.setDis d = { s with regs := (s.setDis d).regs, hif := (s.setDis d).hif, mrq := (s.setDis d).mrq } ∧ (∀ a, a ≠ A.GAU_STAT → (s.setDis d).rd a = s.rd a) ∧ (s.setDis d).g F.GAU_STAT_DIS = d := by
  unfold State.setDis
  split
  next h => exact ⟨rfl, fun _ _ => rfl, h⟩
  next => exact ⟨rfl, fun a ha => s.rd_p_ne (f := F.GAU_STAT_DIS) d ha, (s.g_p_same F.GAU_STAT_DIS d (by decide)).trans (Nat.mod_eq_of_lt hd)⟩

/-- R432: the anchor that is taken. -/
theorem State.anchorTaken_shows (s : State) (soc : Rat) (good : Bool) : (s.anchorTaken soc good).gau.anchor = some ⟨soc, s.gau.acc, good⟩ ∧ (s.anchorTaken soc good).g F.GAU_STAT_ESTIM = 0 := by
  unfold State.anchorTaken
  dsimp only
  generalize hw : (s.p F.GAU_STAT_ESTIM 0).setGau _ = w
  have hgau : w.gau.anchor = some ⟨soc, s.gau.acc, good⟩ := by rw [← hw]; rfl
  have hest : w.g F.GAU_STAT_ESTIM = 0 := by
    rw [← hw]
    exact s.g_p_same F.GAU_STAT_ESTIM 0 (by decide)
  refine ⟨?_, ?_⟩
  · exact (congrArg Gauge.anchor ((State.putR_gau _ _ _).trans (State.putR_gau _ _ _))).trans hgau
  · exact (State.g_congr (f := F.GAU_STAT_ESTIM) ((State.rd_putR_ne _ _ (by decide)).trans (State.rd_putR_ne _ _ (by decide)))).trans hest

theorem State.takeAnchor_shows (s : State) (soc : Rat) : (s.takeAnchor soc).gau.anchor = some ⟨soc, s.gau.acc, !s.b F.GAU_STAT_ESTIM⟩ ∧ (s.takeAnchor soc).g F.GAU_STAT_ESTIM = 0 := by
  rw [State.takeAnchor_eq]
  have h := (s.anchorLearns soc).anchorTaken_shows soc (!s.b F.GAU_STAT_ESTIM)
  rw [(s.anchorLearns_frame soc).gau] at h
  exact h

/-- R433: a rest point marks the rest, and anchors the gauge where the curve is steep enough. -/
theorem State.restPoint_rests {b : Nat} (hr : s.gaugeRuns = true) (hp : s.present = true) (hf : s.frozen = false) (ha : s.atRest = true) (hn : s.b F.GAU_STAT_REST = false) :
    (s.restPoint b).b F.GAU_STAT_REST = true ∧ ((s.socOf ((b : Rat) / (s.cells : Rat))).2 = true →
      (s.restPoint b).g F.GAU_STAT_ESTIM = 0 ∧ (s.restPoint b).gau.anchor = some ⟨(s.socOf ((b : Rat) / (s.cells : Rat))).1, s.gau.acc, !s.b F.GAU_STAT_ESTIM⟩) := by
  have hcond : (s.gaugeRuns && s.present && !s.frozen && s.atRest && !s.b F.GAU_STAT_REST) = true := by
    rw [hr, hp, hf, ha, hn]
    rfl
  unfold State.restPoint
  rw [if_pos hcond]
  generalize s.socOf ((b : Rat) / (s.cells : Rat)) = x
  obtain ⟨soc, usable⟩ := x
  dsimp only
  generalize hdis : (decide (s.g F.GAU_STAT_DIS ≠ 0)) = dis
  have hrest : (s.p F.GAU_STAT_REST 1).b F.GAU_STAT_REST = true := s.b_p_one F.GAU_STAT_REST (by decide) rfl
  have hest : (s.p F.GAU_STAT_REST 1).b F.GAU_STAT_ESTIM = s.b F.GAU_STAT_ESTIM := s.b_p_beside 1 (by decide) (by decide)
  have hacc : (s.p F.GAU_STAT_REST 1).gau.acc = s.gau.acc := rfl
  generalize s.p F.GAU_STAT_REST 1 = u at hrest hest hacc ⊢
  have hall : ((u.when (usable || dis) (·.takeAnchor soc)).when dis (fun s => (s.setDis 0).p F.GAU_STAT_RELEARN 1)).GaugedOf u :=
    ((State.GaugedOf.refl u).when fun _ ht => ht.takeAnchor).when fun _ ht => ht.setDis.mark
  refine ⟨hall.rest.trans hrest, fun hu => ?_⟩
  obtain ⟨hanchor, hzero⟩ := u.takeAnchor_shows soc
  rw [hest, hacc] at hanchor
  have hwhen : u.when (usable || dis) (·.takeAnchor soc) = u.takeAnchor soc := if_pos (by rw [hu, Bool.true_or])
  rw [hwhen]
  generalize u.takeAnchor soc = v at hanchor hzero ⊢
  cases dis with
  | false => exact ⟨hzero, hanchor⟩
  | true =>
    have hset : (v.setDis 0).g F.GAU_STAT_ESTIM = v.g F.GAU_STAT_ESTIM ∧ (v.setDis 0).gau = v.gau := by
      unfold State.setDis
      split
      · exact ⟨rfl, rfl⟩
      · exact ⟨v.g_p_beside (f := F.GAU_STAT_DIS) 0 (by decide) (by decide), rfl⟩
    exact ⟨((State.g_p_beside _ (f := F.GAU_STAT_RELEARN) 1 (by decide) (by decide)).trans hset.1).trans hzero, (congrArg Gauge.anchor hset.2).trans hanchor⟩

theorem State.zLearn_gau (s : State) (col pt k origin : Nat) (x : Rat) : (s.zLearn col pt k origin x).gau = s.gau := by
  have hset : ∀ (u : State) (v : Nat) (c : Bool), ((u.setZEntry col pt k v).when c State.dirty).gau = u.gau := fun u v c => by
    cases c
    · rfl
    · rfl
  obtain ⟨v, j, hr⟩ := s.roundOpen_frame (4 * x / (s.zlsb4 : Rat))
  unfold State.zLearn
  rw [hr]
  exact hset { s with freeCtr := j } _ _

/-- R443: the sample 1 s after the charger's stop ends the step. -/
theorem State.chargerStep_ends {b : Nat} {ib : Int} {c : ChgStep} (h : s.gau.chgStep = some c) :
    (s.chargerStep 3 b ib).gau = { s.gau with chgStep := none } ∧ (s.gaugeLearns = false → s.chargerStep 3 b ib = { s with gau := (s.chargerStep 3 b ib).gau }) := by
  unfold State.chargerStep
  rw [h]
  dsimp only
  rw [if_neg (by decide), if_pos rfl]
  have hl : (s.setGau (fun g => { g with chgStep := none })).gaugeLearns = s.gaugeLearns := rfl
  rw [hl]
  have hset : (s.setGau (fun g => { g with chgStep := none })).gau = { s.gau with chgStep := none } ∧ s.setGau (fun g => { g with chgStep := none }) = { s with gau := (s.setGau (fun g => { g with chgStep := none })).gau } := ⟨rfl, rfl⟩
  generalize s.setGau (fun g => { g with chgStep := none }) = u at hset ⊢
  split
  next hlearn =>
    refine ⟨?_, fun h => absurd (h.symm.trans hlearn) (by decide)⟩
    have hlast : ∀ v : State, v.gau = { s.gau with chgStep := none } → ∀ o : Option Rat, (match o with | some z => v.zLearn c.col c.pt 3 2 z | none => v).gau = { s.gau with chgStep := none } := fun v hv o => by
      cases o
      · exact hv
      · exact (State.zLearn_gau _ _ _ _ _ _).trans hv
    cases c.z100 with
    | none => exact hlast _ hset.1 _
    | some z => exact hlast _ ((u.zLearn_gau _ _ _ _ _).trans hset.1) _
  next => exact ⟨hset.1, fun _ => hset.2⟩

/-- R430: a read of GAU_ACC0 latches the three words of the accumulator. -/
theorem State.latchAcc_shows (s : State) :
    s.latchAcc = { s with regs := s.latchAcc.regs, freeCtr := s.latchAcc.freeCtr } ∧ (∀ a, a ≠ A.GAU_ACC0 → a ≠ A.GAU_ACC1 → a ≠ A.GAU_ACC2 → s.latchAcc.rd a = s.rd a) ∧
      (s.gau.acc.den = 1 → ((s.latchAcc.rn A.GAU_ACC0 + 65536 * s.latchAcc.rn A.GAU_ACC1 + 4294967296 * s.latchAcc.rn A.GAU_ACC2 : Nat) : Int) = s.gau.acc.num % 281474976710656) := by
  have hwords : ∃ v k, s.accWords = (v, { s with freeCtr := k }) ∧ v < 281474976710656 ∧ (s.gau.acc.den = 1 → (v : Int) = s.gau.acc.num % 281474976710656) := by
    obtain ⟨v, k, hr⟩ := s.roundOpen_frame s.gau.acc
    unfold State.accWords
    have hint : s.gau.acc.den = 1 → v = s.gau.acc.num := fun hd => by
      unfold State.roundOpen at hr
      rw [if_pos hd] at hr
      exact (congrArg Prod.fst hr).symm
    rw [hr]
    refine ⟨_, k, rfl, ?_, fun hd => ?_⟩
    · omega
    · rw [← hint hd]
      omega
  obtain ⟨v, k, hw, hlt, hden⟩ := hwords
  unfold State.latchAcc
  rw [hw]
  dsimp only
  refine ⟨rfl, fun a h0 h1 h2 => (State.rd_wn_ne _ _ h2).trans ((State.rd_wn_ne _ _ h1).trans (State.rd_wn_ne _ _ h0)), fun hd => ?_⟩
  generalize ({ s with freeCtr := k } : State) = u
  have h0 : (((u.wn A.GAU_ACC0 (v % 65536)).wn A.GAU_ACC1 (v / 65536 % 65536)).wn A.GAU_ACC2 (v / 4294967296)).rn A.GAU_ACC0 = v % 65536 % 65536 :=
    (State.rn_congr ((State.rd_wn_ne _ _ (by decide)).trans (State.rd_wn_ne _ _ (by decide)))).trans (State.rn_wn_same _ _ _)
  have h1 : (((u.wn A.GAU_ACC0 (v % 65536)).wn A.GAU_ACC1 (v / 65536 % 65536)).wn A.GAU_ACC2 (v / 4294967296)).rn A.GAU_ACC1 = v / 65536 % 65536 % 65536 :=
    (State.rn_congr (State.rd_wn_ne _ _ (by decide))).trans (State.rn_wn_same _ _ _)
  have h2 : (((u.wn A.GAU_ACC0 (v % 65536)).wn A.GAU_ACC1 (v / 65536 % 65536)).wn A.GAU_ACC2 (v / 4294967296)).rn A.GAU_ACC2 = v / 4294967296 % 65536 := State.rn_wn_same _ _ _
  rw [h0, h1, h2, ← hden hd]
  omega

theorem State.readWord_acc (s : State) : s.readWord .host A.GAU_ACC0 = (s.latchAcc.rd A.GAU_ACC0, s.latchAcc) := by
  unfold State.readWord
  rw [if_neg (by rw [Bool.and_assoc, show (decide (A.WAY_MCFG ≤ A.GAU_ACC0) && decide (A.GAU_ACC0 ≤ A.WAY_W 123)) = false from rfl, Bool.and_false]; decide), if_neg (by decide), if_neg (by decide), if_pos rfl]
  rfl

theorem State.writeGauCtrl_auth (hp : s.power ≠ .boot) : s.writeGauCtrl 0x6A01#16 = s.authStart ∧ s.writeGauCtrl 0x6A02#16 = s.p F.GAU_STAT_RELEARN 1 := by
  unfold State.writeGauCtrl
  rw [if_neg hp, if_neg hp]
  exact ⟨rfl, rfl⟩

theorem State.attemptFailed_stage (s : State) (cause : Nat) (ht : s.g F.GAU_AUTHSTAT_TRY < 3) : (s.attemptFailed cause).gau.stage = .failed := by
  rw [State.attemptFailed_again cause ht]
  rfl

/-- R451, R453: what the response brings. -/
theorem State.authResponse_shows (s : State) (r : List Byte) (hc : s.gau.stage = .challenged) (ht : s.g F.GAU_AUTHSTAT_TRY < 3) :
    if !Config.packKeyFuse then (s.authResponse r).gau.stage = .failed ∧ (s.authResponse r).g F.GAU_AUTHSTAT_CAUSE = 4
    else if hmacSha256 packKey (s.gau.chal ++ (r.drop 32).take 8) = r.take 32 then (s.authResponse r).gau.stage = .idle ∧ (s.authResponse r).g F.GAU_STAT_AUTH = 2 ∧ (s.authResponse r).gau.passAt = some s.rtcSec
    else (s.authResponse r).gau.stage = .failed ∧ (s.authResponse r).g F.GAU_AUTHSTAT_CAUSE = 2 := by
  have hfail : ∀ c, (if Config.packKeyFuse then c else 4) < 8 → (s.attemptFailed c).gau.stage = .failed ∧ (s.attemptFailed c).g F.GAU_AUTHSTAT_CAUSE = if Config.packKeyFuse then c else 4 := fun c hlt => by
    obtain ⟨-, -, hcause⟩ := s.attemptFailed_cause c hlt ht
    exact ⟨s.attemptFailed_stage c ht, hcause⟩
  unfold State.authResponse
  rw [if_pos hc]
  dsimp only
  cases hfuse : Config.packKeyFuse with
  | false =>
    rw [hfuse] at hfail
    rw [if_pos (by decide), if_pos (by decide)]
    exact hfail 4 (by decide)
  | true =>
    rw [hfuse] at hfail
    have hno : ¬ (!true) = true := by decide
    rw [if_neg hno, if_neg hno]
    by_cases hmac : hmacSha256 packKey (s.gau.chal ++ (r.drop 32).take 8) = r.take 32
    · rw [if_pos hmac, if_pos hmac]
      exact s.packPassed_shows _
    · rw [if_neg hmac, if_neg hmac]
      exact hfail 2 (by decide)

/-- A keyed write of GAU_CTRL outside BOOT, with the host interface alive. -/
theorem exec_gauKeys (ha : s.hostAlive = true) (hp : s.power ≠ .boot) :
    exec (.authRequest 0x6A01#16) s = .next s.clocked.authStart.settle ∧ exec (.relearnSet 0x6A02#16) s = .next (s.clocked.p F.GAU_STAT_RELEARN 1).settle := by
  obtain ⟨h1, h2⟩ := State.writeGauCtrl_auth (s := s.clocked) hp
  have hauth : exec (.authRequest 0x6A01#16) s = hostDone s (·.writeGauCtrl 0x6A01#16) := rfl
  have hset : exec (.relearnSet 0x6A02#16) s = hostDone s (·.writeGauCtrl 0x6A02#16) := rfl
  rw [hauth, hset, hostDone_of_hostAlive _ ha, hostDone_of_hostAlive _ ha, h1, h2]
  exact ⟨rfl, rfl⟩

/-- R449, R450: an authentication that starts. -/
theorem State.authStart_shows (hr : s.gaugeRuns = true) (hp : s.present = true) (hi : s.gau.stage = .idle) (ha : s.b F.GAU_CFG_AUTHEN = true) :
    s.authStart.gau.stage = .challenged ∧ s.authStart.g F.GAU_AUTHSTAT_TRY = 1 ∧ s.authStart.b F.GAU_AUTHSTAT_BUSY = true ∧ s.authStart.gau.chal.length = 16 ∧ s.authStart.nvm.vnvm = true := by
  have heq : ∃ u : State, s.authStart = (u.p F.GAU_AUTHSTAT_TRY 0).authAttempt := by
    unfold State.authStart
    rw [hr, hp, hi]
    exact ⟨_, if_neg (by show ¬ (!s.b F.GAU_CFG_AUTHEN) = true; rw [ha]; decide)⟩
  obtain ⟨u, heq⟩ := heq
  obtain ⟨h1, h2, h3, h4, h5⟩ := (u.p F.GAU_AUTHSTAT_TRY 0).authAttempt_shows
  rw [heq]
  exact ⟨h1, h2.trans (by rw [u.g_p_same F.GAU_AUTHSTAT_TRY 0 (by decide)]; rfl), h3, h4, h5⟩

theorem State.chgSecond_frame (s : State) : s.chgSecond.sup = s.sup ∧ s.chgSecond.gau = s.gau ∧ s.chgSecond.g F.GAU_STAT_FLOW = s.g F.GAU_STAT_FLOW := by
  have htimer : ∀ u : State, u.chgTimer.sup = u.sup ∧ u.chgTimer.gau = u.gau ∧ u.chgTimer.g F.GAU_STAT_FLOW = u.g F.GAU_STAT_FLOW := fun u => ⟨rfl, rfl, State.g_congr (State.rd_wn_ne u _ (by decide))⟩
  unfold State.chgSecond
  dsimp only
  split
  · exact htimer _
  · split
    · exact htimer _
    · exact htimer _

end

/-- Settles O55: the counter, the second, the anchors, the charger's step and the authentication of the pack. -/
theorem gaugeAndAuthentication : Obligations.GaugeAndAuthentication := by
  unfold Obligations.GaugeAndAuthentication
  refine ⟨fun s raw q d ha hq hd => ?_, fun s ha hf => ?_, fun s ha => ?_, fun s b ha => ?_, fun s hr hp hf hw hc => ?_, fun s h => ?_, fun s b hr hp hf ha hn => ?_, fun s b h => ?_, fun s b ib c hc => ⟨?_, ?_⟩,
    fun s k b ib hc => ?_, fun s hr hp hi ha => ⟨fun hv => ?_, fun hat => ?_⟩, fun s r hr hc ht => ?_, fun s hr hc ht => ⟨?_, ?_⟩, fun s hr hc ht => ⟨?_, ?_⟩, fun s => rfl, fun s hr hst hp ht => ?_, fun s ha hp => ?_⟩
  · obtain ⟨full, ranged, step, he⟩ := s.coulombResult_eq (raw := raw) hq hd
    exact ⟨_, congrArg done ((if_pos ha).trans he), rfl, rfl, rfl, rfl, rfl, rfl, rfl⟩
  · cases hr : s.gau.ranged with
    | true => exact congrArg done (if_neg (by rw [hr]; simp))
    | false => exact congrArg done (if_pos (by rw [ha, hf, hr]; rfl))
  · have hex := congrArg done (State.readOne_host ha A.GAU_ACC0)
    obtain ⟨hform, hrd, hden⟩ := s.clocked.latchAcc_shows
    rw [s.clocked.readWord_acc] at hex
    refine ⟨_, hex, ?_, hrd, rfl, hden⟩
    generalize s.clocked.latchAcc = u at hform
    rw [hform]
    rfl
  · obtain ⟨h1, h2, h3, h4, h5⟩ := s.gaugeSecond_shows b
    obtain ⟨hsup, hgau, hflow⟩ := (s.gaugeSecond b).chgSecond_frame
    exact ⟨_, congrArg done (if_pos ha), hsup.trans h1, (congrArg Gauge.secN hgau).trans h2, (congrArg Gauge.secSum hgau).trans h3, (congrArg Gauge.accSec hgau).trans h4, fun hr => hflow.trans (h5 hr)⟩
  · obtain ⟨hform, hrd, hdis⟩ := s.setDis_shows (d := 2) (by decide)
    refine ⟨_, congrArg done (s.voltageEmpty_due hr hp hf hw hc), ?_, hrd, hdis⟩
    generalize s.setDis 2 = u at hform
    rw [hform]
    rfl
  · exact congrArg done (s.voltageEmpty_not h)
  · exact ⟨_, rfl, s.restPoint_rests hr hp hf ha hn⟩
  · exact congrArg done (if_neg (by rw [h]; simp))
  · have he : s.chargerStep 2 b ib = { s with gau := { s.gau with chgStep := some { c with z100 := zMeasured c.batt b c.cur (-(ib : Rat)) } } } := by
      unfold State.chargerStep
      rw [hc]
      rfl
    exact congrArg done he
  · exact ⟨_, rfl, s.chargerStep_ends hc⟩
  · have he : s.chargerStep k b ib = s := by
      unfold State.chargerStep
      rw [hc]
    exact congrArg done he
  · have hb : s.power ≠ .boot := fun h => by
      unfold State.running at hr
      rw [h] at hr
      exact Bool.noConfusion hr
    exact ⟨_, (exec_gauKeys (State.hostAlive_running hr hv) hb).1, State.authStart_shows (s := s.clocked) hr hp hi ha⟩
  · exact ⟨_, congrArg done (if_pos (by rw [show s.gaugeRuns = true from hr, hat]; rfl)), State.authStart_shows hr hp hi ha⟩
  · have hex : exec (.authResponseRead r) s = done (s.authResponse r) := congrArg done (if_pos hr)
    exact ⟨_, hex, s.authResponse_shows r hc ht⟩
  · exact ⟨_, congrArg done (State.attemptEnds_challenged hr hc 1), s.attemptFailed_cause 1 (by split <;> decide) ht⟩
  · exact ⟨_, congrArg done (State.attemptEnds_challenged hr hc 3), s.attemptFailed_cause 3 (by split <;> decide) ht⟩
  · exact ⟨_, congrArg done (State.attemptEnds_challenged hr hc 1), s.attemptFailed_third 1 ht⟩
  · exact ⟨_, congrArg done (State.attemptEnds_challenged hr hc 3), s.attemptFailed_third 3 ht⟩
  · obtain ⟨h1, h2, -, h4, h5⟩ := s.authAttempt_shows
    have he : s.authRetry = s.authAttempt := if_pos (by rw [hst, hr, hp]; rfl)
    exact ⟨_, congrArg done he, h1, h2.trans (Nat.mod_eq_of_lt (by omega)), h4, h5⟩
  · exact (exec_gauKeys ha hp).2

end Sys2Proof.Machine
end

section
/-! PROOFS. A worker's lease after a line loss (R268, R488, R489). -/
namespace Sys2Proof.Machine

/-! ### A lease that is about to end after a line loss (R268, R488, R489) -/

section
variable {s : State}

/-- R33, R36: without AO the end of a step time leaves the stroke's record. -/
theorem State.settle_stk_of_off (hao : s.aoOn = false) (hr : s.flt.raised = []) : s.settle.stk = s.stk := by
  have hset : s.settled = true := by
    unfold State.settled
    rw [hr, hao]
    simp
  have hwhen : ∀ (b : Bool) (f : State → State), s.when (s.aoOn && b) f = s := fun b f => by
    rw [hao, Bool.false_and]
    rfl
  have hoff : ∀ f : State → State, s.when s.aoOn f = s := fun f => by
    rw [hao]
    rfl
  have hfollow : s.followUp = s := hoff _
  have hgather : s.gather State.followUp 8 [] = (s, []) := by
    have hcol : s.collect = (s, []) := by
      unfold State.collect
      rw [hr]
      rfl
    unfold State.gather
    rw [hcol]
    dsimp only
    rw [hfollow, hwhen, hset]
    rfl
  have hpass : s.judgePass = s := by
    unfold State.judgePass
    rw [hgather]
    exact hoff _
  have hall : s.judgeAll 16 = s := by
    unfold State.judgeAll
    rw [hpass]
    exact if_pos hset
  unfold State.settle
  rw [hall]
  have hcommit : s.commitAll.stk = s.stk := by
    unfold State.commitAll
    rw [hao]
    split <;> rfl
  have hstatus : s.commitAll.statusFollow.stk = s.commitAll.stk := by
    unfold State.statusFollow
    split <;> rfl
  exact hstatus.trans hcommit

/-- A worker that has lost its line, with a stroke active and a lease in force. -/
def lostLine : State :=
  (((({ State.reset with power := .dead, line := { State.reset.line with noToll := true } } : State).p F.SYS_STRAP_ROLE 2).p F.WAY_GRANT_TOLLS 1).p F.STK_STAT_RUNNING 1)

/-- Refutes O57: a worker that has lost its line asks for no toll until its sluice is fully on (R268, R489), so its lease is not asked for again, although a stroke is active. -/
theorem not_workerTurns : ¬ Obligations.WorkerTurns := by
  unfold Obligations.WorkerTurns
  rintro ⟨-, -, -, -, -, -, -, -, hrenew, -⟩
  have hw : lostLine.isWorker = true ∧ lostLine.grantTolls ≠ 0 ∧ lostLine.strokeActive = true ∧ lostLine.aoOn = false ∧ lostLine.flt.raised = [] ∧ lostLine.stk.tollReq = none := by decide +kernel
  obtain ⟨hwork, htolls, hact, hao, hraised, hnone⟩ := hw
  obtain ⟨e, hex, hform, hsome⟩ := (hrenew lostLine hwork htolls).1 hact
  have hmay : lostLine.leaseRenewal = lostLine := if_neg (by decide +kernel)
  have hsettle : lostLine.settle = e.settle := by
    have hran : exec .leaseRenewalDue lostLine = .next lostLine.leaseRenewal.settle := rfl
    rw [hmay] at hran
    injection hran.symm.trans hex
  have heao : e.aoOn = false := by rw [hform]; exact hao
  have heraised : e.flt.raised = [] := by rw [hform]; exact hraised
  have hreq : e.stk.tollReq = none := by
    rw [← State.settle_stk_of_off heao heraised, ← hsettle, State.settle_stk_of_off hao hraised]
    exact hnone
  rw [hreq] at hsome
  exact Bool.noConfusion hsome

end
end Sys2Proof.Machine
end

section
/-! PROOFS. The manager's records, and the frames of its workers (R479 to R493). -/
namespace Sys2Proof.Machine

/-! ### The manager's records and frames (R479, R481, R486, R492, R493) -/

section
variable {s t : State} {a : Nat}

theorem exec_wayFrames (s : State) (a p : Nat) (id : Option Nat) (ws : List Word) :
    exec (.statusFrameReceived a p) s = done (s.statusFrame a p).wayFrame ∧ exec (.requestFrameReceived a p) s = done (s.requestFrame a p).wayFrame ∧
      exec (.releaseFrameReceived a p) s = done (s.releaseFrame a p).wayFrame ∧ exec (.leaveFrameReceived a) s = done (s.leaveFrame a).wayFrame ∧
      exec (.joinFrameReceived a p id) s = done (s.joinFrame a p id).wayFrame ∧ exec (.workerAbsent a) s = done (s.workerAbsent a) ∧ exec .turnOrigin s = done s.turnOrigin.wayFrame ∧
      exec .foreignMilestone s = done s.foreignMilestone.wayFrame ∧ exec .managerSilenceEnd s = done s.silenceEnd ∧ exec .relayWindow s = done s.relayWindow.wayFrame ∧
      exec (.relayReplyReceived a ws) s = done (s.relayReply a ws).wayFrame := ⟨rfl, rfl, rfl, rfl, rfl, rfl, rfl, rfl, rfl, rfl, rfl⟩

theorem State.wayFrame_on (h : s.wayOn = true) : s.wayFrame = { s with sup := { s.sup with fastOn := true } } := by
  have hao : s.aoOn = true := by
    unfold State.wayOn State.running at h
    unfold State.aoOn
    generalize s.power = p at h ⊢
    revert h
    cases p <;> decide
  unfold State.wayFrame State.when State.demandFast State.when
  rw [h, hao]
  rfl

theorem State.wayFrame_off (h : s.wayOn = false) : s.wayFrame = s := by
  unfold State.wayFrame
  rw [h]
  rfl

theorem State.wayOn_congr (h : t.power = s.power) : t.wayOn = s.wayOn := by
  unfold State.wayOn State.running
  rw [h]

theorem State.wayOn_of_running (h : s.running = true) : s.wayOn = true := by
  unfold State.wayOn
  rw [h]
  rfl

theorem State.managerHears_wayOn (h : s.managerHears = true) : s.wayOn = true := (Bool.and_eq_true_iff.mp h).2

theorem State.managerHears_manager (h : s.managerHears = true) : s.isManager = true := (Bool.and_eq_true_iff.mp h).1

/-- A record as its list holds it. -/
theorem State.wrec_of (h1 : 1 ≤ a) (s : State) : s.wrec a = s.way.recs.getD (a - 1) ⟨0, false, 0, 0, 0, false⟩ := if_neg (Nat.one_le_iff_ne_zero.mp h1)

theorem State.wrec_congr (h : t.way.recs = s.way.recs) (a : Nat) : t.wrec a = s.wrec a := by
  unfold State.wrec
  rw [h]

theorem State.setRec_eq (h1 : 1 ≤ a) (s : State) (f : WRec → WRec) : s.setRec a f = { s with way := { s.way with recs := s.way.recs.modify (a - 1) f } } := if_neg (Nat.one_le_iff_ne_zero.mp h1)

/-- A record that is set reads as it is set. -/
theorem State.wrec_setRec_same (h1 : 1 ≤ a) (h31 : a ≤ 31) (hl : s.way.recs.length = 31) (f : WRec → WRec) : (s.setRec a f).wrec a = f (s.wrec a) := by
  have hlt : a - 1 < s.way.recs.length := by omega
  rw [State.wrec_of h1, State.wrec_of h1, State.setRec_eq h1]
  show (s.way.recs.modify (a - 1) f).getD (a - 1) _ = _
  rw [List.getD_eq_getElem?_getD, List.getElem?_modify_eq, List.getD_eq_getElem?_getD, List.getElem?_eq_getElem hlt]
  rfl

theorem State.setRec_length (s : State) (a : Nat) (f : WRec → WRec) : (s.setRec a f).way.recs.length = s.way.recs.length := by
  unfold State.setRec
  split
  · rfl
  · exact List.length_modify ..

/-- R479: a frame in the slot of a worker whose record is present. -/
theorem State.workerFrame_present (hm : s.managerHears = true) (h1 : 1 ≤ a) (h31 : a ≤ 31) (hst : (s.wrec a).st = 1) (f : State → State) : s.workerFrame a f = f (s.setRec a (fun r => { r with heard := true })) := by
  unfold State.workerFrame
  rw [hm, decide_eq_true h1, decide_eq_true h31]
  exact if_pos hst

theorem State.workerFrame_deaf (hm : s.managerHears = false) (f : State → State) : s.workerFrame a f = s := by
  unfold State.workerFrame
  rw [hm]
  rfl

theorem State.managerHears_off (h : s.isManager = false) : s.managerHears = false := by
  unfold State.managerHears
  rw [h]
  rfl

/-! ### The end of a relay (R493) -/

theorem State.relayEnd_shows (s : State) {r : Nat} (hr : r < 8) :
    s.relayEnd r = { s with regs := (s.relayEnd r).regs, hif := { s.hif with link := true, attn := true }, way := { s.way with relay := none } } ∧ (∀ x, x ≠ A.HIF_RLYSTAT → (s.relayEnd r).rd x = s.rd x) ∧
      (s.relayEnd r).b F.HIF_RLYSTAT_BUSY = false ∧ (s.relayEnd r).g F.HIF_RLYSTAT_RESULT = r := by
  have he : s.relayEnd r = ((((s.setWay (fun w => { w with relay := none })).p F.HIF_RLYSTAT_BUSY 0).p F.HIF_RLYSTAT_RESULT r).setLink) := rfl
  have hrd : ∀ x, (s.setWay (fun w => { w with relay := none })).rd x = s.rd x := fun _ => rfl
  have hform : s.relayEnd r = { s with regs := (s.relayEnd r).regs, hif := { s.hif with link := true, attn := true }, way := { s.way with relay := none } } := rfl
  refine ⟨hform, ?_⟩
  rw [he]
  generalize s.setWay (fun w => { w with relay := none }) = u at hrd
  refine ⟨fun x hx => ?_, ?_, ?_⟩
  · exact ((u.p F.HIF_RLYSTAT_BUSY 0).rd_p_ne (f := F.HIF_RLYSTAT_RESULT) r hx).trans ((u.rd_p_ne (f := F.HIF_RLYSTAT_BUSY) 0 hx).trans (hrd x))
  · exact ((u.p F.HIF_RLYSTAT_BUSY 0).b_p_beside (g := F.HIF_RLYSTAT_BUSY) (f := F.HIF_RLYSTAT_RESULT) r (by decide) (by decide)).trans (u.b_pb_same F.HIF_RLYSTAT_BUSY false (by decide) rfl)
  · exact ((u.p F.HIF_RLYSTAT_BUSY 0).g_p_same F.HIF_RLYSTAT_RESULT r (by decide)).trans (Nat.mod_eq_of_lt hr)

theorem State.relayFollow_shows (s : State) :
    s.relayFollow = { s with regs := s.relayFollow.regs, hif := s.relayFollow.hif, way := { s.way with relay := s.relayFollow.way.relay } } ∧ (∀ x, x ≠ A.HIF_RLYSTAT → s.relayFollow.rd x = s.rd x) ∧
      (s.hif.link = true → s.relayFollow.hif.link = true) := by
  unfold State.relayFollow
  split
  next r hr =>
    split
    · obtain ⟨hform, hrd, -, -⟩ := s.relayEnd_shows (r := 3) (by decide)
      refine ⟨?_, hrd, fun _ => (congrArg (fun t : State => t.hif.link) hform).trans rfl⟩
      generalize s.relayEnd 3 = u at hform
      rw [hform]
    · exact ⟨rfl, fun _ _ => rfl, id⟩
  next => exact ⟨rfl, fun _ _ => rfl, id⟩

/-! ### Frames of the workers (R475, R481, R486, R492) -/

theorem State.workerSummary_eq (s : State) (ev a cls : Nat) : s.workerSummary ev a cls = { s with regs := (s.pbit (A.WAY_MCHG (a / 16)) (a % 16) true).regs, hif := { s.hif with link := true, attn := true }, mrq := { s.mrq with outbox := s.mrq.outbox ++ [.worker ev a cls (BitVec.ofNat 32 (s.wrec a).status)] } } := rfl

/-- R492: a STATUS frame of a present worker. -/
theorem State.statusFrame_present {p : Nat} (hm : s.managerHears = true) (h1 : 1 ≤ a) (h31 : a ≤ 31) (hl : s.way.recs.length = 31) (hst : (s.wrec a).st = 1) :
    ∃ u : State, u = { s with way := { s.way with recs := u.way.recs } } ∧ u.wrec a = { s.wrec a with heard := true, status := p } ∧
      s.statusFrame a p = if (s.wrec a).status.land statusBits = p.land statusBits then u else u.workerSummary 6 a (if p.testBit 26 && !(s.wrec a).status.testBit 26 then 1 else 2) := by
  have hheard := State.wrec_setRec_same h1 h31 hl (fun r => { r with heard := true })
  have hl1 := (s.setRec_length a (fun r => { r with heard := true })).trans hl
  have hset := State.wrec_setRec_same (s := s.setRec a (fun r => { r with heard := true })) h1 h31 hl1 (fun r => { r with status := p })
  refine ⟨(s.setRec a (fun r => { r with heard := true })).setRec a (fun r => { r with status := p }), ?_, ?_, ?_⟩
  · rw [State.setRec_eq h1, State.setRec_eq h1]
  · rw [hset, hheard]
  · unfold State.statusFrame
    rw [State.workerFrame_present hm h1 h31 hst]
    dsimp only
    rw [hheard]

/-- R475, R486: a REQUEST frame of a present worker. -/
theorem State.requestFrame_present {p : Nat} (hm : s.managerHears = true) (h1 : 1 ≤ a) (h31 : a ≤ 31) (hl : s.way.recs.length = 31) (hst : (s.wrec a).st = 1) :
    ∃ pend, s.requestFrame a p = { s with way := { s.way with recs := s.way.recs.modify (a - 1) (fun r => { r with heard := true }), pend := pend } } ∧
      (s.pendOf a = none → pend = s.way.pend ++ [⟨a, p / 256 % 16, p / 4096 % 4096, p / 16777216 % 128, p.testBit 31 && (s.wrec a).w2, s.way.turns⟩]) ∧
      ((s.pendOf a).map (·.rseq) = some (p / 256 % 16) → pend = s.way.pend) := by
  have hheard := State.wrec_setRec_same h1 h31 hl (fun r => { r with heard := true })
  unfold State.requestFrame
  rw [State.workerFrame_present hm h1 h31 hst]
  dsimp only
  rw [hheard, State.setRec_eq h1]
  generalize (p.testBit 31 && (s.wrec a).w2) = em
  have hpend : State.pendOf { s with way := { s.way with recs := s.way.recs.modify (a - 1) (fun r => { r with heard := true }) } } a = s.pendOf a := rfl
  unfold State.putPend
  dsimp only
  rw [hpend]
  cases hq : s.pendOf a with
  | none => exact ⟨_, rfl, fun _ => rfl, fun h => absurd h (by simp)⟩
  | some q =>
    dsimp only
    by_cases hs : q.rseq = p / 256 % 16
    · rw [if_pos hs]
      exact ⟨_, rfl, fun h => absurd h (by simp), fun _ => rfl⟩
    · rw [if_neg hs]
      exact ⟨_, rfl, fun h => absurd h (by simp), fun h => absurd (Option.some.inj h) hs⟩

/-- What a worker that leaves or is deemed absent loses first: its request, and in the first case its grant. -/
theorem State.grantOf_reclaim (s : State) (h1 : 1 ≤ a) : s.reclaim a = { s with way := { s.way with grants := s.way.grants.filter (·.addr ≠ a), answers := s.way.answers.filter (fun x => !(x.kind = 1 && x.addr = a)) } } :=
  if_neg (Nat.one_le_iff_ne_zero.mp h1)

theorem find?_filter_ne {α : Type} (l : List α) (f : α → Nat) (a : Nat) : (l.filter (fun x => decide (f x ≠ a))).find? (fun x => decide (f x = a)) = none := by
  rw [List.find?_eq_none]
  intro x hx
  have hne := of_decide_eq_true (List.mem_filter.mp hx).2
  rw [decide_eq_false hne]
  exact Bool.false_ne_true

/-- R481: a LEAVE frame of a present worker. -/
theorem State.leaveFrame_present (hm : s.managerHears = true) (h1 : 1 ≤ a) (h31 : a ≤ 31) (hl : s.way.recs.length = 31) (hst : (s.wrec a).st = 1) :
    s.leaveFrame a = { s with regs := (s.leaveFrame a).regs, hif := (s.leaveFrame a).hif, mrq := (s.leaveFrame a).mrq, way := (s.leaveFrame a).way } ∧ ((s.leaveFrame a).wrec a).st = 3 ∧
      (s.leaveFrame a).grantOf a = none ∧ (s.leaveFrame a).pendOf a = none ∧ (s.leaveFrame a).hif.link = true := by
  have hl1 := (s.setRec_length a (fun r => { r with heard := true })).trans hl
  have hset := State.wrec_setRec_same (s := s.setRec a (fun r => { r with heard := true })) h1 h31 hl1 (fun r => { r with st := 3 })
  have he : s.leaveFrame a = (((((s.setRec a (fun r => { r with heard := true })).setRec a (fun r => { r with st := 3 })).reclaim a).dropPend a).workerSummary 3 a 2).relayFollow := State.workerFrame_present hm h1 h31 hst _
  have hform : (s.setRec a (fun r => { r with heard := true })).setRec a (fun r => { r with st := 3 }) =
      { s with way := ((s.setRec a (fun r => { r with heard := true })).setRec a (fun r => { r with st := 3 })).way } := by
    rw [State.setRec_eq h1, State.setRec_eq h1]
  rw [he]
  generalize (s.setRec a (fun r => { r with heard := true })).setRec a (fun r => { r with st := 3 }) = u at hset hform
  rw [State.grantOf_reclaim _ h1]
  have hst : (u.wrec a).st = 3 := congrArg WRec.st hset
  generalize hv : State.dropPend _ a = v
  have hvst : (v.wrec a).st = 3 := by rw [← hv]; exact (congrArg WRec.st (State.wrec_congr rfl a)).trans hst
  have hvg : v.way.grants = u.way.grants.filter (fun g => decide (g.addr ≠ a)) := by rw [← hv]; rfl
  have hvp : v.way.pend = u.way.pend.filter (fun g => decide (g.addr ≠ a)) := by rw [← hv]; rfl
  have hvf : v = { s with way := v.way } := by rw [← hv, hform]; rfl
  obtain ⟨hrf, -, hlink⟩ := (v.workerSummary 3 a 2).relayFollow_shows
  have hlinked := hlink (congrArg (fun t : State => t.hif.link) (v.workerSummary_eq 3 a 2))
  have hway : (v.workerSummary 3 a 2).way = v.way := rfl
  generalize (v.workerSummary 3 a 2).relayFollow = w at hrf hlinked
  have hrecs : w.way.recs = v.way.recs := (congrArg (fun t : State => t.way.recs) hrf).trans rfl
  have hgrants : w.way.grants = v.way.grants := (congrArg (fun t : State => t.way.grants) hrf).trans rfl
  have hpend : w.way.pend = v.way.pend := (congrArg (fun t : State => t.way.pend) hrf).trans rfl
  refine ⟨?_, (congrArg WRec.st (State.wrec_congr hrecs a)).trans hvst, ?_, ?_, hlinked⟩
  · rw [hrf, State.workerSummary_eq, hvf]
  · unfold State.grantOf
    rw [hgrants, hvg]
    exact find?_filter_ne _ (fun g : WGrant => g.addr) a
  · unfold State.pendOf
    rw [hpend, hvp]
    exact find?_filter_ne _ (fun g : WPend => g.addr) a

/-- R479: a worker that is deemed absent. -/
theorem State.deemAbsent_shows (h1 : 1 ≤ a) (h31 : a ≤ 31) (hl : s.way.recs.length = 31) :
    s.deemAbsent a = { s with regs := (s.deemAbsent a).regs, hif := (s.deemAbsent a).hif, flt := { s.flt with raised := s.flt.raised ++ [⟨116, .detector, s.power.code⟩] }, mrq := (s.deemAbsent a).mrq, way := (s.deemAbsent a).way } ∧
      (∀ x, x ≠ A.WAY_MCHG (a / 16) → x ≠ A.HIF_RLYSTAT → (s.deemAbsent a).rd x = s.rd x) ∧ ((s.deemAbsent a).wrec a).st = 2 ∧ (s.deemAbsent a).pendOf a = none ∧ (s.deemAbsent a).way.grants = s.way.grants := by
  have hset := State.wrec_setRec_same h1 h31 hl (fun r => { r with st := 2 })
  have he : s.deemAbsent a = ((((s.setRec a (fun r => { r with st := 2 })).dropPend a).raise 116).workerSummary 2 a 1).relayFollow := rfl
  have hform := State.setRec_eq h1 s (fun r => { r with st := 2 })
  rw [he]
  generalize s.setRec a (fun r => { r with st := 2 }) = u at hset hform
  generalize hv : (u.dropPend a).raise 116 = v
  have hvst : (v.wrec a).st = 2 := by rw [← hv]; exact congrArg WRec.st hset
  have hvp : v.way.pend = u.way.pend.filter (fun g => decide (g.addr ≠ a)) := by rw [← hv]; rfl
  have hvg : v.way.grants = s.way.grants := by rw [← hv, hform]; rfl
  have hvf : v = { s with flt := { s.flt with raised := s.flt.raised ++ [⟨116, .detector, s.power.code⟩] }, way := v.way } := by rw [← hv, hform]; rfl
  have hvr : ∀ x, v.rd x = s.rd x := fun x => by rw [hvf]; rfl
  obtain ⟨hrf, hrd, -⟩ := (v.workerSummary 2 a 1).relayFollow_shows
  have hsum : ∀ x, x ≠ A.WAY_MCHG (a / 16) → (v.workerSummary 2 a 1).rd x = v.rd x := fun x hx => v.rd_pbit_ne _ _ hx
  generalize (v.workerSummary 2 a 1).relayFollow = w at hrf hrd
  have hrecs : w.way.recs = v.way.recs := (congrArg (fun t : State => t.way.recs) hrf).trans rfl
  have hpend : w.way.pend = v.way.pend := (congrArg (fun t : State => t.way.pend) hrf).trans rfl
  have hgrants : w.way.grants = v.way.grants := (congrArg (fun t : State => t.way.grants) hrf).trans rfl
  refine ⟨?_, fun x h h' => (hrd x h').trans ((hsum x h).trans (hvr x)), (congrArg WRec.st (State.wrec_congr hrecs a)).trans hvst, ?_, hgrants.trans hvg⟩
  · rw [hrf, State.workerSummary_eq, hvf]
  · unfold State.pendOf
    rw [hpend, hvp]
    exact find?_filter_ne _ (fun g : WPend => g.addr) a

end
end Sys2Proof.Machine
end

section
/-! PROOFS. The manager's turn (R473, R474, R477, R486). -/
namespace Sys2Proof.Machine

/-! ### The manager's turn (R473, R474, R477, R486) -/

section
variable {s t s₀ : State} {a : Nat}

/-- From s to t the ledger has been worked on: the count of turns, the frames that wait for the next origin, and the configuration stand. -/
structure State.RoundOf (t s : State) : Prop where
  turns : t.way.turns = s.way.turns
  rels : t.way.rels = s.way.rels
  joins : t.way.joins = s.way.joins
  mcfg : t.rd A.WAY_MCFG = s.rd A.WAY_MCFG

/-- So do the records. -/
structure State.LedgerOf (t s : State) : Prop extends State.RoundOf t s where
  recs : t.way.recs = s.way.recs

theorem State.RoundOf.refl (s : State) : s.RoundOf s := ⟨rfl, rfl, rfl, rfl⟩

theorem State.LedgerOf.refl (s : State) : s.LedgerOf s := ⟨.refl s, rfl⟩

theorem State.RoundOf.trans (h : t.RoundOf s) (h' : s.RoundOf s₀) : t.RoundOf s₀ := ⟨h.turns.trans h'.turns, h.rels.trans h'.rels, h.joins.trans h'.joins, h.mcfg.trans h'.mcfg⟩

theorem State.LedgerOf.trans (h : t.LedgerOf s) (h' : s.LedgerOf s₀) : t.LedgerOf s₀ := ⟨h.toRoundOf.trans h'.toRoundOf, h.recs.trans h'.recs⟩

theorem State.LedgerOf.wn (h : s.LedgerOf s₀) {x v : Nat} (hx : A.WAY_MCFG ≠ x := by decide) : (s.wn x v).LedgerOf s₀ := ⟨⟨h.turns, h.rels, h.joins, (State.rd_wn_ne s v hx).trans h.mcfg⟩, h.recs⟩

theorem State.LedgerOf.setStk (h : s.LedgerOf s₀) {f : Stroke → Stroke} : (s.setStk f).LedgerOf s₀ := ⟨⟨h.turns, h.rels, h.joins, h.mcfg⟩, h.recs⟩

theorem State.LedgerOf.ite {c : Prop} [Decidable c] (hs : s.LedgerOf s₀) (ht : t.LedgerOf s₀) : (if c then s else t).LedgerOf s₀ := by
  split
  · exact hs
  · exact ht

theorem State.RoundOf.ite {c : Prop} [Decidable c] (hs : s.RoundOf s₀) (ht : t.RoundOf s₀) : (if c then s else t).RoundOf s₀ := by
  split
  · exact hs
  · exact ht

theorem State.LedgerOf.each {α : Type} (h : s.LedgerOf s₀) {l : List α} {f : State → α → State} (hf : ∀ (t : State) (x : α), t.LedgerOf s₀ → (f t x).LedgerOf s₀) : (s.each l f).LedgerOf s₀ := by
  unfold State.each
  induction l generalizing s with
  | nil => exact h
  | cons x xs ih => exact ih (hf s x h)

theorem State.RoundOf.each {α : Type} (h : s.RoundOf s₀) {l : List α} {f : State → α → State} (hf : ∀ (t : State) (x : α), t.RoundOf s₀ → (f t x).RoundOf s₀) : (s.each l f).RoundOf s₀ := by
  unfold State.each
  induction l generalizing s with
  | nil => exact h
  | cons x xs ih => exact ih (hf s x h)

/-- An update of the Wayline's record that leaves the count of turns, the frames that wait, and the records. -/
theorem State.LedgerOf.setWay (h : s.LedgerOf s₀) {f : Way → Way} (h1 : (f s.way).turns = s.way.turns) (h2 : (f s.way).rels = s.way.rels) (h3 : (f s.way).joins = s.way.joins) (h4 : (f s.way).recs = s.way.recs) :
    (s.setWay f).LedgerOf s₀ := ⟨⟨h1.trans h.turns, h2.trans h.rels, h3.trans h.joins, h.mcfg⟩, h4.trans h.recs⟩

theorem State.LedgerOf.dropPend (h : s.LedgerOf s₀) : (s.dropPend a).LedgerOf s₀ := h.setWay rfl rfl rfl rfl

theorem State.LedgerOf.reclaim (h : s.LedgerOf s₀) : (s.reclaim a).LedgerOf s₀ := by
  have hset : (s.setWay (fun w => { w with grants := w.grants.filter (·.addr ≠ a), answers := w.answers.filter (fun x => !(x.kind = 1 && x.addr = a)) })).LedgerOf s₀ := h.setWay rfl rfl rfl rfl
  unfold State.reclaim
  exact .ite hset.wn hset

theorem State.LedgerOf.grantNow (h : s.LedgerOf s₀) {p : WPend} : (s.grantNow p).LedgerOf s₀ := by
  have hset : ∀ g : WGrant, ((s.dropPend p.addr).setWay (fun w => { w with grants := w.grants.filter (·.addr ≠ p.addr) ++ [g] })).LedgerOf s₀ := fun g => h.dropPend.setWay rfl rfl rfl rfl
  have hown : ∀ (u : State) (v x y : Nat) (o : Way → Option TollReq), u.LedgerOf s₀ → ((u.wn A.WAY_GRANT v).setWay (fun w => { w with leaseMs := x, leaseAt := y, out := o w })).LedgerOf s₀ := fun u v x y o hu =>
    hu.wn.setWay rfl rfl rfl rfl
  have hanswer : ∀ (u : State) (f : List Answer → List Answer), u.LedgerOf s₀ → (u.setWay (fun w => { w with answers := f w.answers })).LedgerOf s₀ := fun u f hu => hu.setWay rfl rfl rfl rfl
  unfold State.grantNow
  exact .ite (hown _ _ _ _ (fun w => if p.rseq = w.rseq then none else w.out) (hset _)) (hanswer _ (fun l => l.filter (fun x => !(x.kind = 1 && x.addr = p.addr)) ++ [⟨1, p.addr, 4096 * p.rseq + p.tolls⟩]) (hset _))

theorem State.LedgerOf.walk (h : s.LedgerOf s₀) {l : List WPend} : (s.walk l).LedgerOf s₀ := by
  induction l generalizing s with
  | nil => exact h
  | cons p r ih =>
    unfold State.walk
    exact .ite (ih h.grantNow) h

theorem State.LedgerOf.clearLedger (s : State) : ∃ u : State, u.LedgerOf s ∧ s.clearLedger = u.setWay (fun w => { w with rels := [] }) := by
  unfold State.clearLedger
  refine ⟨_, ?_, rfl⟩
  have hout : ∀ t : State, t.LedgerOf s → ((t.setStk (fun k => { k with tollRel := false })).setWay (fun w => { w with out := none })).LedgerOf s := fun t ht => ht.setStk.setWay rfl rfl rfl rfl
  unfold State.when
  exact .ite (hout _ (((State.LedgerOf.refl s).each fun _ _ ht => ht.reclaim).each fun _ _ ht => .ite ht.dropPend ht)) (((State.LedgerOf.refl s).each fun _ _ ht => ht.reclaim).each fun _ _ ht => .ite ht.dropPend ht)

theorem State.LedgerOf.takeAnswers (h : s.LedgerOf s₀) : s.takeAnswers.2.LedgerOf s₀ := by
  unfold State.takeAnswers
  dsimp only
  exact h.setWay rfl rfl rfl rfl

theorem State.LedgerOf.putPend (h : s.LedgerOf s₀) {p : WPend} : (s.putPend p).LedgerOf s₀ := by
  unfold State.putPend
  split
  · exact .ite h (h.setWay rfl rfl rfl rfl)
  · exact h.setWay rfl rfl rfl rfl

theorem State.LedgerOf.ownRequest (h : s.LedgerOf s₀) : s.ownRequest.LedgerOf s₀ := by
  unfold State.ownRequest
  split
  · exact h
  · exact (h.setStk.setWay rfl rfl rfl rfl).putPend

theorem State.RoundOf.relayFollow (h : s.RoundOf s₀) : s.relayFollow.RoundOf s₀ := by
  obtain ⟨hform, hrd, -⟩ := s.relayFollow_shows
  have hself : s.relayFollow.RoundOf s := ⟨(congrArg (fun t : State => t.way.turns) hform).trans rfl, (congrArg (fun t : State => t.way.rels) hform).trans rfl, (congrArg (fun t : State => t.way.joins) hform).trans rfl, hrd _ (by decide)⟩
  exact hself.trans h

theorem State.RoundOf.workerSummary (h : s.RoundOf s₀) {ev cls : Nat} : (s.workerSummary ev a cls).RoundOf s₀ :=
  ⟨h.turns, h.rels, h.joins, (s.rd_pbit_ne (b := A.WAY_MCHG (a / 16)) _ _ (by show 0x0E10 ≠ 0x0E16 + a / 16; omega)).trans h.mcfg⟩

theorem State.RoundOf.setRec (h : s.RoundOf s₀) {f : WRec → WRec} : (s.setRec a f).RoundOf s₀ := by
  unfold State.setRec
  split
  · exact h
  · exact ⟨h.turns, h.rels, h.joins, h.mcfg⟩

theorem State.RoundOf.raise (h : s.RoundOf s₀) {n : Nat} : (s.raise n).RoundOf s₀ := ⟨h.turns, h.rels, h.joins, h.mcfg⟩

theorem State.RoundOf.workerAbsent (h : s.RoundOf s₀) : (s.workerAbsent a).RoundOf s₀ := by
  have hdrop : ((s.setRec a (fun r => { r with st := 2 })).dropPend a).RoundOf s₀ := (State.LedgerOf.refl _).dropPend.toRoundOf.trans h.setRec
  unfold State.workerAbsent
  split
  · exact hdrop.raise.workerSummary.relayFollow
  · exact h

theorem State.RoundOf.countTurn (h : s.RoundOf s₀) : s.countTurn.RoundOf s₀ := by
  have hall := h.each (l := (List.range 31).map (· + 1)) (f := State.workerAbsent) fun _ _ ht => ht.workerAbsent
  unfold State.countTurn
  generalize s.each ((List.range 31).map (· + 1)) State.workerAbsent = u at hall ⊢
  exact ⟨hall.turns, hall.rels, hall.joins, hall.mcfg⟩

theorem State.RoundOf.decideJoin (h : s.RoundOf s₀) {n : Nat} {id : Option Nat} : (s.decideJoin a n id).RoundOf s₀ := by
  have hanswer : ∀ (u : State) (x : Answer), u.RoundOf s₀ → (u.setWay (fun w => { w with answers := w.answers ++ [x] })).RoundOf s₀ := fun u x hu => ⟨hu.turns, hu.rels, hu.joins, hu.mcfg⟩
  have hreclaim : ∀ c : Bool, (s.when c (·.reclaim a)).RoundOf s₀ := fun c => by
    cases c
    · exact h
    · exact (State.LedgerOf.refl s).reclaim.toRoundOf.trans h
  unfold State.decideJoin
  exact .ite (.ite (hanswer _ _ h).raise.workerSummary (hanswer _ _ (hreclaim _).setRec).workerSummary) h

theorem State.RoundOf.decideJoins (s : State) : s.decideJoins.RoundOf (s.setWay (fun w => { w with joins := [] })) := by
  unfold State.decideJoins
  exact (State.RoundOf.refl _).each fun _ _ ht => ht.decideJoin

/-- The record of worker a is that of no worker. -/
structure State.Vacant (s : State) (a : Nat) : Prop where
  len : s.way.recs.length = 31
  free : (s.wrec a).st = 0

theorem State.wrec_setRec_ne {b : Nat} (h1 : 1 ≤ a) (hb : b ≠ a) (s : State) (f : WRec → WRec) : (s.setRec b f).wrec a = s.wrec a := by
  by_cases h0 : b = 0
  · unfold State.setRec
    rw [if_pos h0]
  · rw [State.wrec_of h1, State.wrec_of h1, State.setRec_eq (Nat.one_le_iff_ne_zero.mpr h0)]
    show (s.way.recs.modify (b - 1) f).getD (a - 1) _ = _
    have hne : b - 1 ≠ a - 1 := by omega
    rw [List.getD_eq_getElem?_getD, List.getElem?_modify_ne _ _ hne, List.getD_eq_getElem?_getD]

theorem State.Vacant.workerAbsent (h1 : 1 ≤ a) (h : s.Vacant a) {b : Nat} : (s.workerAbsent b).Vacant a := by
  unfold State.workerAbsent
  split
  next hc =>
    have hst : (s.wrec b).st = 1 := by
      simp only [Bool.and_eq_true, decide_eq_true_eq] at hc
      exact hc.1.1.2
    have hb : b ≠ a := by
      rintro rfl
      rw [h.free] at hst
      exact absurd hst (by decide)
    have hset : (((((s.setRec b (fun r => { r with st := 2 })).dropPend b).raise 116).workerSummary 2 b 1)).way.recs = (s.setRec b (fun r => { r with st := 2 })).way.recs := rfl
    obtain ⟨hform, -, -⟩ := ((((s.setRec b (fun r => { r with st := 2 })).dropPend b).raise 116).workerSummary 2 b 1).relayFollow_shows
    have hrecs : (s.deemAbsent b).way.recs = (s.setRec b (fun r => { r with st := 2 })).way.recs := ((congrArg (fun t : State => t.way.recs) hform).trans rfl).trans hset
    exact ⟨(congrArg List.length hrecs).trans ((s.setRec_length b _).trans h.len), ((congrArg WRec.st (State.wrec_congr hrecs a)).trans (congrArg WRec.st (State.wrec_setRec_ne h1 hb s _))).trans h.free⟩
  next => exact h

theorem State.Vacant.countTurn (h1 : 1 ≤ a) (h31 : a ≤ 31) (h : s.Vacant a) : s.countTurn.Vacant a := by
  have hall : ∀ l : List Nat, (s.each l State.workerAbsent).Vacant a := fun l => by
    unfold State.each
    induction l generalizing s with
    | nil => exact h
    | cons x xs ih => exact ih (h.workerAbsent h1)
  have hu := hall ((List.range 31).map (· + 1))
  unfold State.countTurn
  generalize s.each ((List.range 31).map (· + 1)) State.workerAbsent = u at hu ⊢
  obtain ⟨hlen, hfree⟩ := hu
  have hlt : a - 1 < u.way.recs.length := by omega
  refine ⟨(List.length_map ..).trans hlen, ?_⟩
  rw [State.wrec_of h1, List.getD_eq_getElem?_getD, List.getElem?_eq_getElem hlt] at hfree
  rw [State.wrec_of h1]
  show ((u.way.recs.map (fun r : WRec => if r.st = 1 then { r with missed := if r.heard then 0 else r.missed + 1, heard := false } else r)).getD (a - 1) ⟨0, false, 0, 0, 0, false⟩).st = 0
  rw [List.getD_eq_getElem?_getD, List.getElem?_map, List.getElem?_eq_getElem hlt]
  show (if u.way.recs[a - 1].st = 1 then _ else u.way.recs[a - 1]).st = 0
  rw [if_neg (by rw [show u.way.recs[a - 1].st = 0 from hfree]; decide)]
  exact hfree

/-- R477: a JOIN without an identity, of an address that is free, makes its record present. -/
theorem State.decideJoin_free (h1 : 1 ≤ a) (h31 : a ≤ 31) (h : s.Vacant a) (hj : s.b F.WAY_MCFG_JOINEN = true) (n : Nat) :
    ((s.decideJoin a n none).wrec a).st = 1 ∧ ((s.decideJoin a n none).wrec a).w2 = false := by
  have hset := State.wrec_setRec_same h1 h31 h.len (fun _ => (⟨1, false, 0, 0, 0, false⟩ : WRec))
  have he : ∃ x : Answer, s.decideJoin a n none = ((s.setRec a (fun _ => ⟨1, false, 0, 0, 0, false⟩)).setWay (fun w => { w with answers := w.answers ++ [x] })).workerSummary 1 a 2 := by
    unfold State.decideJoin
    rw [if_pos hj]
    dsimp only
    rw [if_neg (by rw [h.free]; decide)]
    exact ⟨_, rfl⟩
  obtain ⟨x, he⟩ := he
  rw [he]
  have hrec : (((s.setRec a (fun _ => ⟨1, false, 0, 0, 0, false⟩)).setWay (fun w => { w with answers := w.answers ++ [x] })).workerSummary 1 a 2).wrec a = ⟨1, false, 0, 0, 0, false⟩ := hset
  rw [hrec]
  exact ⟨rfl, rfl⟩

theorem milestone_length (turn frac sech : Nat) (w2 : Bool) (as : List Answer) : (milestone turn frac sech w2 as).length = 12 := rfl

/-- R473: an origin sends its milestone after the ledger's work and the decisions on the JOINs. -/
theorem State.turnOrigin_eq (hm : s.isManager = true) (hr : s.running = true) (hq : s.way.silent = false) :
    ∃ (v : State) (x : Nat) (f : List Byte), v.LedgerOf s.countTurn.clearLedger.decideJoins ∧ f.length = 12 ∧
      s.turnOrigin = ((v.setWay (fun w => { w with turns := v.way.turns + 1, prevSec := x, sent := f })).p F.WAY_MSTAT_TURN ((v.way.turns + 1) % 32)).ownRequest := by
  unfold State.turnOrigin
  rw [hm, hr, hq]
  generalize s.countTurn.clearLedger.decideJoins = d
  have hwalk : ∀ l, (d.walk l).LedgerOf d := fun l => (State.LedgerOf.refl d).walk
  exact ⟨(d.walk _).takeAnswers.2, _, _, (hwalk _).takeAnswers, milestone_length _ _ _ _ _, rfl⟩

/-- R473, R474, R477, R486: an origin. -/
theorem State.turnOrigin_shows (hm : s.isManager = true) (hr : s.running = true) (hq : s.way.silent = false) :
    s.turnOrigin.way.turns = s.way.turns + 1 ∧ s.turnOrigin.g F.WAY_MSTAT_TURN = (s.way.turns + 1) % 32 ∧ s.turnOrigin.way.rels = [] ∧ s.turnOrigin.way.joins = [] ∧ s.turnOrigin.way.sent.length = 12 ∧
      (∀ a n, s.way.joins = [(a, n, none)] → s.b F.WAY_MCFG_JOINEN = true → 1 ≤ a → a ≤ 31 → s.way.recs.length = 31 → (s.wrec a).st = 0 → (s.turnOrigin.wrec a).st = 1 ∧ (s.turnOrigin.wrec a).w2 = false) := by
  have hvac : ∀ a, 1 ≤ a → a ≤ 31 → s.way.recs.length = 31 → (s.wrec a).st = 0 → s.countTurn.Vacant a := fun a h1 h31 hl hst => State.Vacant.countTurn h1 h31 ⟨hl, hst⟩
  have hcount : s.countTurn.RoundOf s := (State.RoundOf.refl s).countTurn
  obtain ⟨v, x, f, hv, hf, he⟩ := s.turnOrigin_eq hm hr hq
  generalize s.countTurn = b at hcount hv hvac
  obtain ⟨u, hu, hclear⟩ := State.LedgerOf.clearLedger b
  have hc : b.clearLedger.way = { u.way with rels := [] } ∧ b.clearLedger.regs = u.regs := by
    rw [hclear]
    exact ⟨rfl, rfl⟩
  generalize b.clearLedger = c at hv hc
  obtain ⟨hcway, hcregs⟩ := hc
  have hdecide := State.RoundOf.decideJoins c
  have hone : ∀ a n, c.way.joins = [(a, n, none)] → c.decideJoins = (c.setWay (fun w => { w with joins := [] })).decideJoin a n none := fun a n hw => by
    unfold State.decideJoins
    rw [hw]
    rfl
  generalize hd : c.decideJoins = d at hv hdecide hone
  have hopen : (c.setWay (fun w => { w with joins := [] })).way = { c.way with joins := [] } ∧ (c.setWay (fun w => { w with joins := [] })).regs = c.regs := ⟨rfl, rfl⟩
  generalize c.setWay (fun w => { w with joins := [] }) = o at hdecide hopen hone
  obtain ⟨howay, horegs⟩ := hopen
  have hturns : v.way.turns = s.way.turns := (hv.turns.trans hdecide.turns).trans ((congrArg Way.turns howay).trans ((congrArg Way.turns hcway).trans (hu.turns.trans hcount.turns)))
  have hrels : v.way.rels = [] := (hv.rels.trans hdecide.rels).trans ((congrArg Way.rels howay).trans (congrArg Way.rels hcway))
  have hjoins : v.way.joins = [] := (hv.joins.trans hdecide.joins).trans (congrArg Way.joins howay)
  rw [he, hturns]
  have hgot : ∀ w : State, w.ownRequest.LedgerOf w ∧ w.ownRequest.way.sent = w.way.sent ∧ ∀ g : Fld, w.ownRequest.g g = w.g g := fun w => by
    refine ⟨(State.LedgerOf.refl w).ownRequest, ?_⟩
    unfold State.ownRequest
    split
    · exact ⟨rfl, fun _ => rfl⟩
    · unfold State.putPend
      dsimp only
      split
      · split
        · exact ⟨rfl, fun _ => rfl⟩
        · exact ⟨rfl, fun _ => rfl⟩
      · exact ⟨rfl, fun _ => rfl⟩
  have hsent : (v.setWay (fun w => { w with turns := s.way.turns + 1, prevSec := x, sent := f })).way = { v.way with turns := s.way.turns + 1, prevSec := x, sent := f } := rfl
  generalize v.setWay (fun w => { w with turns := s.way.turns + 1, prevSec := x, sent := f }) = y at hsent ⊢
  have hy : (y.p F.WAY_MSTAT_TURN ((s.way.turns + 1) % 32)).way = y.way := rfl
  have hturn : (y.p F.WAY_MSTAT_TURN ((s.way.turns + 1) % 32)).g F.WAY_MSTAT_TURN = (s.way.turns + 1) % 32 := (y.g_p_same F.WAY_MSTAT_TURN _ (by decide)).trans (Nat.mod_mod _ _)
  generalize y.p F.WAY_MSTAT_TURN ((s.way.turns + 1) % 32) = z at hy hturn ⊢
  obtain ⟨hz, hzs, hzg⟩ := hgot z
  have hway : z.way = { v.way with turns := s.way.turns + 1, prevSec := x, sent := f } := hy.trans hsent
  refine ⟨hz.turns.trans (congrArg Way.turns hway), (hzg _).trans hturn, hz.rels.trans ((congrArg Way.rels hway).trans hrels), hz.joins.trans ((congrArg Way.joins hway).trans hjoins),
    (congrArg List.length (hzs.trans (congrArg Way.sent hway))).trans hf, fun a n hj hen h1 h31 hl hst => ?_⟩
  have hvacant := hvac a h1 h31 hl hst
  have hrecs : o.way.recs = b.way.recs := (congrArg Way.recs howay).trans ((congrArg Way.recs hcway).trans hu.recs)
  have hmcfg : o.rd A.WAY_MCFG = s.rd A.WAY_MCFG := (congrArg (fun r : RegFile => r.get A.WAY_MCFG) (horegs.trans hcregs)).trans (hu.mcfg.trans hcount.mcfg)
  have hwait : c.way.joins = [(a, n, none)] := (congrArg Way.joins hcway).trans ((hu.joins.trans hcount.joins).trans hj)
  have hrec : z.ownRequest.wrec a = (o.decideJoin a n none).wrec a :=
    State.wrec_congr (hz.recs.trans ((congrArg Way.recs hway).trans (hv.recs.trans (congrArg (fun t : State => t.way.recs) (hone a n hwait))))) a
  rw [hrec]
  exact State.decideJoin_free h1 h31 ⟨(congrArg List.length hrecs).trans hvacant.len, (congrArg WRec.st (State.wrec_congr hrecs a)).trans hvacant.free⟩ ((State.b_congr (f := F.WAY_MCFG_JOINEN) hmcfg).trans hen) n

end
end Sys2Proof.Machine
end

section
/-! PROOFS. A Wayline manager (R473 to R494). -/
namespace Sys2Proof.Machine

/-! ### The relay and the reset commands (R493, R494) -/

section
variable {s : State} {a : Nat}

theorem State.rd_wrs_out (s : State) (l : List Word) {b x : Nat} (h : x < b ∨ b + l.length ≤ x) : (s.wrs b l).rd x = s.rd x := by
  induction l generalizing s b with
  | nil => rfl
  | cons w ws ih =>
    rw [List.length_cons] at h
    exact (ih _ (by omega)).trans (s.rd_wr_ne w (by omega))

theorem State.rd_wrs_at (s : State) (l : List Word) (b : Nat) {i : Nat} (h : i < l.length) : (s.wrs b l).rd (b + i) = l.getD i 0 := by
  induction l generalizing s b i with
  | nil => exact absurd h (Nat.not_lt_zero i)
  | cons w ws ih =>
    cases i with
    | zero => exact (State.rd_wrs_out _ ws (.inl (Nat.lt_succ_self b))).trans (s.rd_wr_same b w)
    | succ j =>
      have hj := ih (s.wr b w) (b + 1) (Nat.lt_of_succ_lt_succ h)
      rw [show b + (j + 1) = b + 1 + j by omega]
      exact hj

/-- R493: the window of a relay in progress. -/
theorem State.relayWindow_cases {r : WRelay} (hm : s.isManager = true) (hr : s.running = true) (hq : s.way.silent = false) (hrel : s.way.relay = some r) :
    ((s.wrec r.addr).st = 1 → r.used < 3 → ∃ b : List Byte, b.length = 6 ∧ s.relayWindow = { s with way := { s.way with relay := some { r with used := r.used + 1 }, sent := b } }) ∧
      ((s.wrec r.addr).st = 1 → 3 ≤ r.used → s.relayWindow = s.relayEnd 2) ∧ ((s.wrec r.addr).st ≠ 1 → s.relayWindow = s.relayEnd 3) := by
  have hsends : ¬ (!(s.isManager && s.running && !s.way.silent)) = true := by
    rw [hm, hr, hq]
    decide
  unfold State.relayWindow
  rw [hrel]
  dsimp only
  rw [if_neg hsends]
  refine ⟨fun hst hu => ?_, fun hst hu => ?_, fun hst => if_pos hst⟩
  · rw [if_neg (not_not.mpr hst), if_neg (Nat.not_le.mpr hu)]
    exact ⟨_, rfl, rfl⟩
  · rw [if_neg (not_not.mpr hst), if_pos hu]

theorem State.relayReply_ends {r : WRelay} {ws : List Word} (hm : s.managerHears = true) (hrel : s.way.relay = some r) (hu : r.used ≠ 0) (hl : ws.length = r.count) :
    s.relayReply r.addr ws = (s.wrs (A.HIF_RLYBUF 0) ws).relayEnd 1 := by
  unfold State.relayReply
  rw [hrel]
  dsimp only
  exact if_pos (by rw [hm, decide_eq_true hu, decide_eq_true rfl, decide_eq_true hl]; rfl)

theorem State.relayReply_dropped {r : WRelay} {ws : List Word} (hrel : s.way.relay = some r) (h : a ≠ r.addr ∨ ws.length ≠ r.count) : s.relayReply a ws = s := by
  unfold State.relayReply
  rw [hrel]
  dsimp only
  refine if_neg ?_
  rcases h with h | h
  · rw [decide_eq_false (Ne.symm h)]
    simp
  · rw [decide_eq_false h]
    simp

/-- What a relay's end leaves, in the state whose fast oscillator its frame starts. -/
theorem State.relayEnd_framed (s : State) {r : Nat} (hr : r < 8) : ∃ e : State, e = { s.relayEnd r with sup := { s.sup with fastOn := true } } ∧
    e = { s with regs := e.regs, sup := { s.sup with fastOn := true }, hif := e.hif, way := { s.way with relay := none } } ∧ (∀ x, x ≠ A.HIF_RLYSTAT → e.rd x = s.rd x) ∧
      e.b F.HIF_RLYSTAT_BUSY = false ∧ e.g F.HIF_RLYSTAT_RESULT = r ∧ e.hif.link = true := by
  obtain ⟨hform, hrd, hbusy, hres⟩ := s.relayEnd_shows hr
  refine ⟨_, rfl, ?_, hrd, hbusy, hres, (congrArg (fun t : State => t.hif.link) hform).trans rfl⟩
  generalize s.relayEnd r = u at hform
  rw [hform]

theorem State.wayFrame_frame (s : State) : s.wayFrame = { s with sup := s.wayFrame.sup } := by
  have hfast : s.demandFast = { s with sup := s.demandFast.sup } := by
    unfold State.demandFast State.when
    split <;> rfl
  unfold State.wayFrame State.when
  split
  · exact hfast
  · rfl

theorem State.resetCommand_cases {w : Word} (hk : F.WAY_RSTCMD_KEY.get w = 0xD2) (hn : F.WAY_RSTCMD_ADDR.get w ≠ 0) :
    s.resetCommand w = if (s.wrec (F.WAY_RSTCMD_ADDR.get w)).st = 0 then s.p F.WAY_MSTAT_RSTREF 1 else { s with way := { s.way with resets := s.way.resets.filter (·.1 ≠ F.WAY_RSTCMD_ADDR.get w) ++
      [(F.WAY_RSTCMD_ADDR.get w, if (s.wrec (F.WAY_RSTCMD_ADDR.get w)).w2 then (s.wrec (F.WAY_RSTCMD_ADDR.get w)).ident % 256 else 0, 3)] } } := by
  unfold State.resetCommand
  dsimp only
  rw [if_neg (by rw [hk, decide_eq_false hn]; decide)]
  rfl

theorem State.writeRstCmd_manager {w : Word} (hm : s.isManager = true) : s.writeRstCmd w = .ok (s.resetCommand w) := if_pos hm

theorem done_wayFrame {u : State} (hp : u.power = s.power) (h : s.wayOn = true) : done u.wayFrame = .next ({ u with sup := { u.sup with fastOn := true } } : State).settle :=
  congrArg done (State.wayFrame_on ((State.wayOn_congr hp).trans h))

end

/-- Settles O56: workers' frames, absence, the origin, the foreign milestone, the relay and the reset commands of a manager. -/
theorem managerRules : Obligations.ManagerRules := by
  unfold Obligations.ManagerRules
  have hkeys : ∀ (s : State) (w : Word), exec (.wayRstcmd w) s = hostRan s (·.writeRstCmd w) := fun _ _ => rfl
  refine ⟨fun s a p hm h1 h31 hl hst => ?_, fun s a p hm h1 h31 hl hst => ?_, fun s a p hm h1 h31 hst => ?_, fun s a hm h1 h31 hl hst => ?_, fun s a n id hm h1 h31 => ?_, fun s a p id hm => ?_,
    fun s a hm h1 h31 hl hst hh hmi => ?_, fun s hm hr hq => ?_, fun s hm => ?_, fun s => ?_, fun s r hm hr hq hrel => ?_, fun s r ws hm hrel hu hl hc => ?_, fun s r a ws hm hrel h => ?_,
    fun s w ha hm hk hn => ⟨fun hst => ?_, fun hst => ?_⟩, fun s w ha hm hk => ?_, fun s w ha hm => ?_⟩
  · obtain ⟨u, huf, hurec, he⟩ := State.statusFrame_present (p := p) hm h1 h31 hl hst
    have hon := State.managerHears_wayOn hm
    by_cases hsame : (s.wrec a).status.land statusBits = p.land statusBits
    · rw [if_pos hsame] at he
      refine ⟨{ u with sup := { u.sup with fastOn := true } }, ?_, ?_, ?_, ?_, ?_, ?_, fun _ => ?_, fun h => absurd hsame h⟩
      · rw [(exec_wayFrames s a p none []).1, he]
        exact done_wayFrame (congrArg State.power huf) hon
      · rw [huf]
      · intro x _
        rw [huf]
        rfl
      · exact congrArg WRec.status hurec
      · exact congrArg WRec.heard hurec
      · exact (congrArg WRec.st hurec).trans hst
      · rw [huf]
        exact ⟨rfl, rfl, rfl⟩
    · rw [if_neg hsame] at he
      have hsum := u.workerSummary_eq 6 a (if p.testBit 26 && !(s.wrec a).status.testBit 26 then 1 else 2)
      have hmap : ∀ x, x ≠ A.WAY_MCHG (a / 16) → (u.pbit (A.WAY_MCHG (a / 16)) (a % 16) true).rd x = u.rd x := fun x hx => u.rd_pbit_ne _ _ hx
      rw [hsum] at he
      have hcls : (if (p.testBit 26 && !(s.wrec a).status.testBit 26) = true then 1 else 2) = if p.testBit 26 = true ∧ (s.wrec a).status.testBit 26 = false then 1 else 2 := by
        simp only [Bool.and_eq_true, Bool.not_eq_true']
      refine ⟨_, ((exec_wayFrames s a p none []).1.trans (congrArg (fun t : State => done t.wayFrame) he)).trans (done_wayFrame (s := s) ((congrArg State.power huf).trans rfl) hon), ?_, ?_, ?_, ?_, ?_, fun h => absurd h hsame, fun _ => ⟨rfl, ?_⟩⟩
      · rw [huf]
      · intro x hx
        refine (hmap x hx).trans ?_
        rw [huf]
        rfl
      · exact congrArg WRec.status hurec
      · exact congrArg WRec.heard hurec
      · exact (congrArg WRec.st hurec).trans hst
      · rw [← hcls]
        show u.mrq.outbox ++ [PktBody.worker 6 a _ (BitVec.ofNat 32 (u.wrec a).status)] = _
        rw [hurec, show u.mrq = s.mrq from (congrArg State.mrq huf).trans rfl]
  · obtain ⟨pend, he, hnone, hsame⟩ := State.requestFrame_present (p := p) hm h1 h31 hl hst
    have hheard := State.wrec_setRec_same h1 h31 hl (fun r => { r with heard := true })
    rw [State.setRec_eq h1] at hheard
    exact ⟨_, ((exec_wayFrames s a p none []).2.1.trans (congrArg (fun t : State => done t.wayFrame) he)).trans (done_wayFrame (s := s) rfl (State.managerHears_wayOn hm)), rfl, congrArg WRec.heard hheard, hnone, hsame⟩
  · have he : s.releaseFrame a p = { s with way := { s.way with recs := s.way.recs.modify (a - 1) (fun r => { r with heard := true }), rels := s.way.rels ++ [(a, p / 256 % 16)] } } := by
      unfold State.releaseFrame
      rw [State.workerFrame_present hm h1 h31 hst, State.setRec_eq h1]
      rfl
    exact ⟨_, ((exec_wayFrames s a p none []).2.2.1.trans (congrArg (fun t : State => done t.wayFrame) he)).trans (done_wayFrame (s := s) rfl (State.managerHears_wayOn hm)), rfl⟩
  · obtain ⟨hform, hst3, hg, hp, hlink⟩ := State.leaveFrame_present hm h1 h31 hl hst
    have hex := (exec_wayFrames s a 0 none []).2.2.2.1
    generalize s.leaveFrame a = u at hform hst3 hg hp hlink hex
    refine ⟨_, hex.trans (done_wayFrame (s := s) ((congrArg State.power hform).trans rfl) (State.managerHears_wayOn hm)), ?_, hst3, hg, hp, hlink⟩
    rw [hform]
  · have he : s.joinFrame a n id = { s with way := { s.way with joins := s.way.joins ++ [(a, n, id)] } } := if_pos (by rw [hm, decide_eq_true h1, decide_eq_true h31]; rfl)
    exact ((exec_wayFrames s a n id []).2.2.2.2.1.trans (congrArg (fun t : State => done t.wayFrame) he)).trans (done_wayFrame (s := s) rfl (State.managerHears_wayOn hm))
  · have hoff := State.managerHears_off hm
    have hframe : ∀ f, s.workerFrame a f = s := fun f => State.workerFrame_deaf hoff f
    have hjoin : s.joinFrame a p id = s := if_neg (by rw [hoff]; simp)
    have habsent : s.workerAbsent a = s := if_neg (by rw [hoff]; simp)
    have hway : s.wayFrame = if s.wayOn then { s with sup := { s.sup with fastOn := true } } else s := by
      cases hon : s.wayOn with
      | true => exact State.wayFrame_on hon
      | false => exact State.wayFrame_off hon
    obtain ⟨h1, h2, h3, h4, h5, h6, -⟩ := exec_wayFrames s a p id []
    have hdone : done s.wayFrame = .next (if s.wayOn then { s with sup := { s.sup with fastOn := true } } else s : State).settle := congrArg done hway
    exact ⟨(h1.trans (congrArg (fun t : State => done t.wayFrame) (hframe _))).trans hdone, (h2.trans (congrArg (fun t : State => done t.wayFrame) (hframe _))).trans hdone,
      (h3.trans (congrArg (fun t : State => done t.wayFrame) (hframe _))).trans hdone, (h4.trans (congrArg (fun t : State => done t.wayFrame) (hframe _))).trans hdone,
      (h5.trans (congrArg (fun t : State => done t.wayFrame) hjoin)).trans hdone, h6.trans (congrArg done habsent)⟩
  · obtain ⟨hform, hrd, hst2, hp, hg⟩ := State.deemAbsent_shows h1 h31 hl
    have he : s.workerAbsent a = s.deemAbsent a := if_pos (by rw [hm, decide_eq_true hst, hh, decide_eq_true hmi]; rfl)
    exact ⟨_, (exec_wayFrames s a 0 none []).2.2.2.2.2.1.trans (congrArg done he), hform, hrd, hst2, hp, hg⟩
  · obtain ⟨h1, h2, h3, h4, h5, h6⟩ := s.turnOrigin_shows hm hr hq
    have hex := (exec_wayFrames s 0 0 none []).2.2.2.2.2.2.1
    generalize s.turnOrigin = u at h1 h2 h3 h4 h5 h6 hex
    have hframe := u.wayFrame_frame
    have hway : u.wayFrame.way = u.way := (congrArg State.way hframe).trans rfl
    have hrd : u.wayFrame.rd A.WAY_MSTAT = u.rd A.WAY_MSTAT := (congrArg (fun t : State => t.rd A.WAY_MSTAT) hframe).trans rfl
    refine ⟨_, hex, (congrArg Way.turns hway).trans h1, (State.g_congr (f := F.WAY_MSTAT_TURN) hrd).trans h2, (congrArg Way.rels hway).trans h3, (congrArg Way.joins hway).trans h4, (congrArg (fun w : Way => w.sent.length) hway).trans h5, ?_⟩
    intro a n hj hen g1 g31 hl hst
    rw [State.wrec_congr (congrArg Way.recs hway) a]
    exact h6 a n hj hen g1 g31 hl hst
  · have he : s.foreignMilestone = { (s.raise 118).p F.WAY_STAT_MGRCONF 1 with way := { s.way with silent := true } } := if_pos hm
    exact ((exec_wayFrames s 0 0 none []).2.2.2.2.2.2.2.1.trans (congrArg (fun t : State => done t.wayFrame) he)).trans (done_wayFrame (s := s) rfl (State.managerHears_wayOn hm))
  · rfl
  · obtain ⟨h1, h2, h3⟩ := State.relayWindow_cases hm hr hq hrel
    have hex := (exec_wayFrames s 0 0 none []).2.2.2.2.2.2.2.2.2.1
    have hon := State.wayOn_of_running hr
    by_cases hst : (s.wrec r.addr).st = 1
    · by_cases hu : r.used < 3
      · obtain ⟨b, hb, he⟩ := h1 hst hu
        exact ⟨_, (hex.trans (congrArg (fun t : State => done t.wayFrame) he)).trans (done_wayFrame (s := s) rfl hon), rfl, fun _ _ => rfl, fun _ _ => ⟨rfl, hb, rfl, rfl⟩, fun _ h => absurd hu (Nat.not_lt.mpr h), fun h => absurd hst h⟩
      · obtain ⟨e, he, hform, hrd, hbusy, hres, hlink⟩ := s.relayEnd_framed (r := 2) (by decide)
        have hp : (s.relayEnd 2).power = s.power := rfl
        rw [h2 hst (Nat.not_lt.mp hu)] at hex
        refine ⟨e, he ▸ hex.trans (done_wayFrame hp hon), ?_, hrd, fun _ h => absurd h hu, fun _ _ => ⟨?_, hbusy, hres, hlink⟩, fun h => absurd hst h⟩
        · rw [hform]
        · rw [hform]
    · obtain ⟨e, he, hform, hrd, hbusy, hres, hlink⟩ := s.relayEnd_framed (r := 3) (by decide)
      have hp : (s.relayEnd 3).power = s.power := rfl
      rw [h3 hst] at hex
      refine ⟨e, he ▸ hex.trans (done_wayFrame hp hon), ?_, hrd, fun h => absurd h hst, fun h => absurd h hst, fun _ => ⟨?_, hbusy, hres, hlink⟩⟩
      · rw [hform]
      · rw [hform]
  · have he := State.relayReply_ends hm hrel hu hl
    have hex := (exec_wayFrames s r.addr 0 none ws).2.2.2.2.2.2.2.2.2.2
    rw [he] at hex
    have hwform := s.wrs_form ws (A.HIF_RLYBUF 0)
    have hout : ∀ x, x < A.HIF_RLYBUF 0 ∨ A.HIF_RLYBUF 0 + ws.length ≤ x → (s.wrs (A.HIF_RLYBUF 0) ws).rd x = s.rd x := fun x hx => s.rd_wrs_out ws hx
    have hat : ∀ i, i < ws.length → (s.wrs (A.HIF_RLYBUF 0) ws).rd (A.HIF_RLYBUF 0 + i) = ws.getD i 0 := fun i hi => s.rd_wrs_at ws _ hi
    generalize s.wrs (A.HIF_RLYBUF 0) ws = u at hex hwform hout hat
    obtain ⟨e, hee, hform, hrd, hbusy, hres, hlink⟩ := u.relayEnd_framed (r := 1) (by decide)
    have hp : (u.relayEnd 1).power = s.power := (show (u.relayEnd 1).power = u.power from rfl).trans ((congrArg State.power hwform).trans rfl)
    have hbuf : ∀ i, A.HIF_RLYBUF i = A.HIF_RLYBUF 0 + i := fun i => rfl
    refine ⟨e, hee ▸ hex.trans (done_wayFrame hp (State.managerHears_wayOn hm)), ?_, fun x hx hb => (hrd x hx).trans (hout x ?_), fun i hi => ?_, hbusy, hres, hlink⟩
    · rw [hform, hwform]
    · by_contra hin
      push Not at hin
      exact hb (x - A.HIF_RLYBUF 0) (by omega) (by rw [hbuf]; omega)
    · rw [hbuf]
      exact (hrd _ (by show 0x0020 + 0 + i ≠ 0x0014; omega)).trans (hat i hi)
  · exact ((exec_wayFrames s a 0 none ws).2.2.2.2.2.2.2.2.2.2.trans (congrArg (fun t : State => done t.wayFrame) (State.relayReply_dropped hrel h))).trans (done_wayFrame (s := s) rfl (State.managerHears_wayOn hm))
  · rw [hkeys s w, hostRan_of_hostAlive ha, State.writeRstCmd_manager (s := s.clocked) hm, State.resetCommand_cases hk hn, if_neg (show ¬ (s.clocked.wrec (F.WAY_RSTCMD_ADDR.get w)).st = 0 from hst)]
    rfl
  · rw [hkeys s w, hostRan_of_hostAlive ha, State.writeRstCmd_manager (s := s.clocked) hm, State.resetCommand_cases hk hn, if_pos (show (s.clocked.wrec (F.WAY_RSTCMD_ADDR.get w)).st = 0 from hst)]
    rfl
  · have hsame : s.clocked.resetCommand w = s.clocked := if_pos (by rw [decide_eq_true hk]; rfl)
    rw [hkeys s w, hostRan_of_hostAlive ha, State.writeRstCmd_manager (s := s.clocked) hm, hsame]
    unfold State.framed
    rw [if_pos ha]
    rfl
  · have hbad : s.clocked.writeRstCmd w = .error (.undefinedWrite A.WAY_RSTCMD) := if_neg (by rw [show s.clocked.isManager = false from hm]; decide)
    rw [hkeys s w, hostRan_of_hostAlive ha, hbad]
    rfl

end Sys2Proof.Machine
end

section
/-! PROOFS. DRIVE's synchronisation and limits (R287, R288, R302 to R305): what each event leaves. -/
namespace Sys2Proof.Machine

/-! ### DRIVE's synchronisation and limits (R287, R288, R302 to R305) -/

section
variable {s : State}

theorem exec_driveLimits (s : State) (err cs dcs ls : Int) (period v vl k : Nat) (ag sm : Bool) (l : List Int) :
    exec (.driveFrame v dcs ls vl ag sm) s = done (s.driveFrame v dcs ls vl ag sm) ∧ exec (.balanceUpdate l dcs) s = done (s.when s.drvOn (·.balance (l.map s.iphOf) (s.ioutOf dcs))) ∧
    exec (.syncInEdge err period) s = done (s.syncEdge err period) ∧ exec .syncLoss s = done s.syncLost ∧
    exec (.driveFastLimit k cs) s = done (s.when (s.switches k && s.fastLimited k cs) (fun s => s.setDom 1 (fun d => { d with limTick := some s.ticks }))) ∧
    exec (.hiccupEntry k) s = done (s.hiccup k) ∧ exec .hiccupEnd s = done (s.when (s.drvOn && s.g F.DRV_STAT_MODE = 5) State.hiccupOver) ∧
    exec .driveOverload s = done (s.when (s.regulates && s.g F.DRV_STAT_LIMBY = 1 && !s.drv.ovlRaised) (fun s => (s.setDrv (fun d => { d with ovlRaised := true })).raise 53)) :=
  ⟨rfl, rfl, rfl, rfl, rfl, rfl, rfl, rfl⟩

/-- A quotient of two whole numbers is rounded to its floor or to the number above it. -/
theorem State.roundOpen_near (s : State) (n d : Nat) : ∃ v k, s.roundOpen ((n : Rat) / d) = (v, { s with freeCtr := k }) ∧ (v.toNat = n / d ∨ v.toNat = n / d + 1) := by
  have hfloor : ((n : Rat) / d).floor = ((n / d : Nat) : Int) := Rat.floor_natCast_div_natCast n d
  generalize n / d = q at hfloor ⊢
  unfold State.roundOpen
  split
  case isTrue h =>
    have hnum : ((n : Rat) / d).floor = ((n : Rat) / d).num := if_pos h
    exact ⟨_, s.freeCtr, rfl, .inl (by omega)⟩
  case isFalse =>
    refine ⟨_, s.freeCtr + 1, rfl, ?_⟩
    split
    · exact .inr (by omega)
    · exact .inl (by omega)

/-- R322: the period shown, and that the rest of SYNCSTAT stays. -/
theorem State.putPeriod_shows (s : State) (period : Nat) :
    s.putPeriod period = { s with regs := (s.putPeriod period).regs, freeCtr := (s.putPeriod period).freeCtr } ∧ (∀ a, a ≠ A.DRV_SYNCSTAT → (s.putPeriod period).rd a = s.rd a) ∧
      (s.putPeriod period).b F.DRV_SYNCSTAT_LOCK = s.b F.DRV_SYNCSTAT_LOCK ∧
      (period * 96 / 1000 < 1023 → (s.putPeriod period).g F.DRV_SYNCSTAT_PERIOD = period * 96 / 1000 ∨ (s.putPeriod period).g F.DRV_SYNCSTAT_PERIOD = period * 96 / 1000 + 1) := by
  obtain ⟨v, k, hr, hv⟩ := s.roundOpen_near (period * 96) 1000
  have hput : ∀ (t : State) (x : Nat), t.p F.DRV_SYNCSTAT_PERIOD x = { t with regs := (t.p F.DRV_SYNCSTAT_PERIOD x).regs } ∧ (∀ a, a ≠ A.DRV_SYNCSTAT → (t.p F.DRV_SYNCSTAT_PERIOD x).rd a = t.rd a) ∧
      (t.p F.DRV_SYNCSTAT_PERIOD x).b F.DRV_SYNCSTAT_LOCK = t.b F.DRV_SYNCSTAT_LOCK ∧ (x < 1024 → (t.p F.DRV_SYNCSTAT_PERIOD x).g F.DRV_SYNCSTAT_PERIOD = x) := fun t x =>
    ⟨rfl, fun _ ha => t.rd_p_ne x ha, t.b_p_beside x (by decide) (by decide), fun hx => (t.g_p_same F.DRV_SYNCSTAT_PERIOD x (by decide)).trans (Nat.mod_eq_of_lt hx)⟩
  have hx : (period : Rat) * 96 / 1000 = ((period * 96 : Nat) : Rat) / (1000 : Nat) := by push_cast; rfl
  unfold State.putPeriod
  rw [hx, hr]
  dsimp only
  split
  case isTrue h =>
    obtain ⟨hform, hrd, hlock, hper⟩ := hput { s with freeCtr := k } v.toNat
    rw [hper h]
    exact ⟨hform, hrd, hlock, fun _ => hv⟩
  case isFalse h =>
    obtain ⟨hform, hrd, hlock, -⟩ := hput { s with freeCtr := k + 1 } ((State.free { s with freeCtr := k } 1024).1)
    exact ⟨hform, hrd, hlock, fun hlt => absurd hv (by omega)⟩

theorem State.syncEdge_inRange {err : Int} {period : Nat} (hon : s.drvOn = true) (hm : s.g F.DRV_SYNC_MODE = 1) (hp : s.inPullRange period = true) :
    ∃ e : State, s.syncEdge err period = e ∧ e = { s with regs := e.regs, drv := e.drv, freeCtr := e.freeCtr } ∧ (∀ a, a ≠ A.DRV_SYNCSTAT → e.rd a = s.rd a) ∧
      e.drv = { s.drv with pull := clamp (-100) 100 err, syncGone := false, lockCnt := if err.natAbs < 200 then min 64 (s.drv.lockCnt + 1) else 0 } ∧
      (500 < err.natAbs → e.b F.DRV_SYNCSTAT_LOCK = false) ∧ (err.natAbs < 200 → 63 ≤ s.drv.lockCnt → e.b F.DRV_SYNCSTAT_LOCK = true) ∧
      (period * 96 / 1000 < 1023 → e.g F.DRV_SYNCSTAT_PERIOD = period * 96 / 1000 ∨ e.g F.DRV_SYNCSTAT_PERIOD = period * 96 / 1000 + 1) := by
  generalize hn : (if err.natAbs < 200 then min 64 (s.drv.lockCnt + 1) else 0) = n
  generalize hu : (s.setDrv fun d => { d with lockCnt := n, pull := clamp (-100) 100 err, syncGone := false }) = u
  have huf : u = { s with drv := { s.drv with pull := clamp (-100) 100 err, syncGone := false, lockCnt := n } } := hu.symm
  have heq : s.syncEdge err period = (if 500 < err.natAbs then u.p F.DRV_SYNCSTAT_LOCK 0 else if n = 64 then u.p F.DRV_SYNCSTAT_LOCK 1 else u).putPeriod period := by
    unfold State.syncEdge
    rw [hon, hm, hp]
    dsimp only [Bool.true_and, decide_true, if_true]
    rw [hn, hu]
    rfl
  have hlock : ∃ w : State, (if 500 < err.natAbs then u.p F.DRV_SYNCSTAT_LOCK 0 else if n = 64 then u.p F.DRV_SYNCSTAT_LOCK 1 else u) = w ∧ w = { u with regs := w.regs } ∧ (∀ a, a ≠ A.DRV_SYNCSTAT → w.rd a = u.rd a) ∧
      (500 < err.natAbs → w.b F.DRV_SYNCSTAT_LOCK = false) ∧ (err.natAbs < 200 → 63 ≤ s.drv.lockCnt → w.b F.DRV_SYNCSTAT_LOCK = true) := by
    refine ⟨_, rfl, ?_⟩
    split
    case isTrue h => exact ⟨rfl, fun _ ha => u.rd_p_ne 0 ha, fun _ => u.b_pb_same F.DRV_SYNCSTAT_LOCK false (by decide) rfl, fun _ _ => absurd h (by omega)⟩
    case isFalse h =>
      split
      case isTrue => exact ⟨rfl, fun _ ha => u.rd_p_ne 1 ha, fun h' => absurd h' h, fun _ _ => u.b_p_one F.DRV_SYNCSTAT_LOCK (by decide) rfl⟩
      case isFalse h64 =>
        refine ⟨rfl, fun _ _ => rfl, fun h' => absurd h' h, fun hlt hge => absurd ?_ h64⟩
        rw [← hn, if_pos hlt]
        omega
  obtain ⟨w, hw, hwf, hwr, hoff, hon'⟩ := hlock
  obtain ⟨hpf, hpr, hpl, hpp⟩ := w.putPeriod_shows period
  rw [heq, hw]
  refine ⟨_, rfl, ?_, fun a ha => (hpr a ha).trans ((hwr a ha).trans ?_), ?_, fun h => hpl.trans (hoff h), fun h h' => hpl.trans (hon' h h'), hpp⟩
  · rw [hpf, hwf, huf]
  · rw [huf]
    rfl
  · rw [hpf, hwf, huf]

theorem State.syncLost_once (hon : s.drvOn = true) (hm : s.g F.DRV_SYNC_MODE = 1) (hg : s.drv.syncGone = false) :
    ∃ e : State, s.syncLost = e ∧ e = { s with regs := e.regs, drv := { s.drv with syncGone := true, lockCnt := 0, pull := 0 }, flt := { s.flt with raised := s.flt.raised ++ [⟨54, .detector, s.power.code⟩] } } ∧
      (∀ a, a ≠ A.DRV_SYNCSTAT → a ≠ A.DRV_CNTSYNC → e.rd a = s.rd a) ∧ e.b F.DRV_SYNCSTAT_LOST = true ∧ e.b F.DRV_SYNCSTAT_LOCK = false ∧ e.rn A.DRV_CNTSYNC = min 65535 (s.rn A.DRV_CNTSYNC + 1) := by
  generalize hu : (((s.setDrv fun d => { d with syncGone := true, lockCnt := 0, pull := 0 }).p F.DRV_SYNCSTAT_LOCK 0).p F.DRV_SYNCSTAT_LOST 1).p F.DRV_SYNCSTAT_PERIOD 0 = u
  have heq : s.syncLost = (u.inc A.DRV_CNTSYNC).raise 54 := by
    unfold State.syncLost
    rw [hon, hm, hg]
    dsimp only
    rw [hu]
    exact if_pos rfl
  have huf : u = { s with regs := u.regs, drv := { s.drv with syncGone := true, lockCnt := 0, pull := 0 } } := by
    rw [← hu]
    rfl
  have hur : ∀ a, a ≠ A.DRV_SYNCSTAT → u.rd a = s.rd a := fun a ha => by
    rw [← hu]
    exact (State.rd_p_ne _ (f := F.DRV_SYNCSTAT_PERIOD) 0 ha).trans ((State.rd_p_ne _ (f := F.DRV_SYNCSTAT_LOST) 1 ha).trans (State.rd_p_ne _ (f := F.DRV_SYNCSTAT_LOCK) 0 ha))
  have hlost : u.b F.DRV_SYNCSTAT_LOST = true := by
    rw [← hu]
    exact (State.b_p_beside _ 0 (by decide) (by decide)).trans (State.b_p_one _ F.DRV_SYNCSTAT_LOST (by decide) rfl)
  have hlock : u.b F.DRV_SYNCSTAT_LOCK = false := by
    rw [← hu]
    exact (State.b_p_beside _ 0 (by decide) (by decide)).trans ((State.b_p_beside _ 1 (by decide) (by decide)).trans (State.b_pb_same _ F.DRV_SYNCSTAT_LOCK false (by decide) rfl))
  have hif : u.inc A.DRV_CNTSYNC = { u with regs := (u.inc A.DRV_CNTSYNC).regs } := State.inc_form _ _
  have hxf : u.inc A.DRV_CNTSYNC = { s with regs := (u.inc A.DRV_CNTSYNC).regs, drv := { s.drv with syncGone := true, lockCnt := 0, pull := 0 } } := by
    refine hif.trans ?_
    generalize (u.inc A.DRV_CNTSYNC).regs = r
    rw [huf]
  have hir : ∀ a, a ≠ A.DRV_CNTSYNC → (u.inc A.DRV_CNTSYNC).rd a = u.rd a := fun a ha => State.rd_inc_ne _ ha
  have hrd : ∀ a, ((u.inc A.DRV_CNTSYNC).raise 54).rd a = (u.inc A.DRV_CNTSYNC).rd a := fun _ => rfl
  rw [heq]
  refine ⟨_, rfl, ?_, fun a ha hb => (hrd a).trans ((hir a hb).trans (hur a ha)), ?_, ?_, ?_⟩
  · exact congrArg (·.raise 54) hxf
  · exact (State.b_congr ((hrd _).trans (hir A.DRV_SYNCSTAT (by decide)))).trans hlost
  · exact (State.b_congr ((hrd _).trans (hir A.DRV_SYNCSTAT (by decide)))).trans hlock
  · exact (State.rn_congr (hrd _)).trans ((u.rn_inc A.DRV_CNTSYNC).trans (by rw [State.rn_congr (hur A.DRV_CNTSYNC (by decide))]))

theorem State.fastLimited_off {k : Nat} {cs : Int} (hr : s.retCause k ≠ 3) (hd : s.detCause k ≠ 3) : s.fastLimited k cs = decide ((s.g F.DRV_IPHSC_ILIM : Rat) / 10 < s.iphOf cs) := by
  have hm : s.mirrored k = false := by
    unfold State.mirrored
    rw [decide_eq_false hr, decide_eq_false hd]
    rfl
  unfold State.fastLimited
  rw [hm]
  rfl

theorem State.hiccup_enters {k : Nat} (hr : s.regulates = true) (hk : inMask s.phActive k = true) (ho : s.g F.DRV_OCCFG_OCMODE = 1 ∨ s.g F.DRV_OCCFG_OCMODE = 2) :
    ∃ e : State, s.hiccup k = e ∧ e = { s with regs := e.regs, drv := s.drv.clear, flt := { s.flt with raised := s.flt.raised ++ [⟨52, .detector, s.power.code⟩] } } ∧
      (∀ a, a ≠ A.DRV_STAT → a ≠ A.DRV_DUTY → a ≠ A.DRV_CNTHIC → e.rd a = s.rd a) ∧ e.g F.DRV_STAT_MODE = 5 ∧ e.rn A.DRV_DUTY = 0 ∧ (∀ j, e.switches j = false) ∧ e.rn A.DRV_CNTHIC = min 65535 (s.rn A.DRV_CNTHIC + 1) := by
  generalize hu : ((((s.p F.DRV_STAT_MODE 5).p F.DRV_STAT_LIMBY 0).p F.DRV_STAT_NEG 0).wn A.DRV_DUTY 0).setDrv Drive.clear = u
  have heq : s.hiccup k = (u.inc A.DRV_CNTHIC).raise 52 := by
    have hc : (decide (s.g F.DRV_OCCFG_OCMODE = 1) || decide (s.g F.DRV_OCCFG_OCMODE = 2)) = true := by
      rcases ho with h | h <;> rw [h] <;> rfl
    unfold State.hiccup
    rw [hr, hk, hc]
    dsimp only [Bool.true_and, if_true]
    rw [hu]
    rfl
  have huf : u = { s with regs := u.regs, drv := s.drv.clear } := by
    rw [← hu]
    rfl
  have hur : ∀ a, a ≠ A.DRV_STAT → a ≠ A.DRV_DUTY → u.rd a = s.rd a := fun a ha hb => by
    rw [← hu]
    exact (State.rd_wn_ne _ 0 hb).trans ((State.rd_p_ne _ (f := F.DRV_STAT_NEG) 0 ha).trans ((State.rd_p_ne _ (f := F.DRV_STAT_LIMBY) 0 ha).trans (s.rd_p_ne (f := F.DRV_STAT_MODE) 5 ha)))
  have hmode : u.g F.DRV_STAT_MODE = 5 := by
    rw [← hu]
    refine (State.g_congr (f := F.DRV_STAT_MODE) (State.rd_wn_ne _ (b := A.DRV_DUTY) 0 (by decide))).trans ?_
    refine (State.g_p_beside _ (f := F.DRV_STAT_NEG) 0 (by decide) (by decide)).trans ((State.g_p_beside _ (f := F.DRV_STAT_LIMBY) 0 (by decide) (by decide)).trans ?_)
    exact s.g_p_same F.DRV_STAT_MODE 5 (by decide)
  have hduty : u.rn A.DRV_DUTY = 0 := by
    rw [← hu]
    exact State.rn_wn_same _ A.DRV_DUTY 0
  have hif : u.inc A.DRV_CNTHIC = { u with regs := (u.inc A.DRV_CNTHIC).regs } := State.inc_form _ _
  have hxf : u.inc A.DRV_CNTHIC = { s with regs := (u.inc A.DRV_CNTHIC).regs, drv := s.drv.clear } := by
    refine hif.trans ?_
    generalize (u.inc A.DRV_CNTHIC).regs = r
    rw [huf]
  have hir : ∀ a, a ≠ A.DRV_CNTHIC → (u.inc A.DRV_CNTHIC).rd a = u.rd a := fun a ha => State.rd_inc_ne _ ha
  have hrd : ∀ a, ((u.inc A.DRV_CNTHIC).raise 52).rd a = (u.inc A.DRV_CNTHIC).rd a := fun _ => rfl
  have hmode' : ((u.inc A.DRV_CNTHIC).raise 52).g F.DRV_STAT_MODE = 5 := (State.g_congr ((hrd _).trans (hir A.DRV_STAT (by decide)))).trans hmode
  rw [heq]
  refine ⟨_, rfl, ?_, fun a ha hb hc => (hrd a).trans ((hir a hc).trans (hur a ha hb)), hmode', ?_, fun j => ?_, ?_⟩
  · exact congrArg (·.raise 52) hxf
  · exact (State.rn_congr ((hrd _).trans (hir A.DRV_DUTY (by decide)))).trans hduty
  · unfold State.switches State.regulates
    rw [hmode']
    simp
  · exact (State.rn_congr (hrd _)).trans ((u.rn_inc A.DRV_CNTHIC).trans (by rw [State.rn_congr (hur A.DRV_CNTHIC (by decide) (by decide))]))

theorem State.hiccup_none {k : Nat} (h : s.g F.DRV_OCCFG_OCMODE = 0) : s.hiccup k = s := by
  unfold State.hiccup
  rw [h]
  simp

theorem State.drvDecide_shows (s : State) :
    s.drvDecide = { s with regs := s.drvDecide.regs, dom := s.drvDecide.dom, drv := s.drvDecide.drv } ∧ (∀ a, a ≠ A.DRV_STAT → s.drvDecide.rd a = s.rd a) ∧
      s.drvDecide.g F.DRV_STAT_MODE = (if s.line.fullOn then 2 else if s.weirOn then 4 else 1) ∧ (s.line.fullOn = true → s.drvDecide.drv.vref = (s.drv.vdrv : Rat) / 1000) := by
  have hput : ∀ v, v < 8 → (∀ a, a ≠ A.DRV_STAT → (s.p F.DRV_STAT_MODE v).rd a = s.rd a) ∧ (s.p F.DRV_STAT_MODE v).g F.DRV_STAT_MODE = v := fun v hv =>
    ⟨fun _ ha => s.rd_p_ne (f := F.DRV_STAT_MODE) v ha, (s.g_p_same F.DRV_STAT_MODE v (by decide)).trans (Nat.mod_eq_of_lt hv)⟩
  unfold State.drvDecide
  split
  · exact ⟨rfl, (hput 2 (by decide)).1, (hput 2 (by decide)).2, fun _ => rfl⟩
  · split
    · exact ⟨rfl, (hput 4 (by decide)).1, (hput 4 (by decide)).2, fun h => absurd h ‹_›⟩
    · exact ⟨rfl, (hput 1 (by decide)).1, (hput 1 (by decide)).2, fun h => absurd h ‹_›⟩

/-- R190: the supervision that a hiccup masked is back. -/
theorem State.unmasked_shows (hov : s.over 0 = false) (hsam : s.sampled 0 = false) :
    ∃ e : State, s.when (s.maskedDom 1) (fun s => s.unmask offNow 1) = e ∧ e = { s with regs := e.regs, dom := e.dom } ∧ (∀ a, a ≠ A.DOM_STAT 1 → e.rd a = s.rd a) ∧ e.drvOn = s.drvOn ∧ e.maskedDom 1 = false := by
  refine ⟨_, rfl, ?_⟩
  unfold State.when
  split
  case isTrue =>
    dsimp only
    rw [s.unmask_quiet offNow (n := 1) (by decide) (by decide) hov hsam]
    exact ⟨rfl, fun a ha => s.rd_p_ne (f := F.DOM_STAT_MASKED 1) 0 ha, s.b_p_beside (f := F.DOM_STAT_MASKED 1) (g := F.DOM_STAT_CMDON 1) 0 (by decide) (by decide), s.b_pb_same (F.DOM_STAT_MASKED 1) false (by decide) rfl⟩
  case isFalse h => exact ⟨rfl, fun _ _ => rfl, rfl, Bool.eq_false_iff.mpr h⟩

theorem State.hiccupOver_shows (hon : s.drvOn = true) (hov : s.over 0 = false) (hsam : s.sampled 0 = false) :
    ∃ e : State, s.hiccupOver = e ∧ e = { s with regs := e.regs, dom := e.dom, drv := e.drv } ∧ (∀ a, a ≠ A.DRV_STAT → a ≠ A.DOM_STAT 1 → e.rd a = s.rd a) ∧
      e.g F.DRV_STAT_MODE = (if s.line.fullOn then 2 else if s.weirOn then 4 else 1) ∧ (s.line.fullOn = true → e.drv.vref = (s.drv.vdrv : Rat) / 1000) ∧ e.maskedDom 1 = false := by
  obtain ⟨u, hu, huf, hur, huon', hum⟩ := State.unmasked_shows hov hsam
  have huon : u.drvOn = true := huon'.trans hon
  have heq : s.hiccupOver = u.drvDecide := by
    unfold State.hiccupOver
    rw [hu]
    exact if_pos huon
  have hweir : u.weirOn = s.weirOn := State.b_congr (hur _ (by decide))
  obtain ⟨hdf, hdr, hdm, hdv⟩ := u.drvDecide_shows
  have hline : u.line = s.line := (congrArg State.line huf).trans rfl
  have hvdrv : u.drv = s.drv := (congrArg State.drv huf).trans rfl
  rw [hweir, hline] at hdm
  rw [hline, hvdrv] at hdv
  refine ⟨_, heq, ?_, fun a ha hb => (hdr a ha).trans (hur a hb), hdm, hdv, ?_⟩
  · rw [hdf, huf]
  · exact (State.b_congr (hdr (A.DOM_STAT 1) (by decide))).trans hum

end
end Sys2Proof.Machine
end

section
/-! PROOFS. DRIVE's balance update (R296, R337). -/
namespace Sys2Proof.Machine

/-! ### DRIVE's balance (R296, R337) -/

section
variable {s t : State}

/-- What writing one word to the register of each entry of a list leaves, where the word may come of open choices. -/
theorem State.each_wi {f : State → Nat → State} {reg : Nat → Nat} {P : Nat → Int → Prop} (hinj : ∀ i j, reg i = reg j → i = j)
    (hf : ∀ (t : State) (k : Nat), ∃ c v, f t k = State.wi { t with freeCtr := c } (reg k) v ∧ P k v) (l : List Nat) (s : State) :
    s.each l f = { s with regs := (s.each l f).regs, freeCtr := (s.each l f).freeCtr } ∧ (∀ a, (∀ k ∈ l, a ≠ reg k) → (s.each l f).rd a = s.rd a) ∧
      ∀ k ∈ l, ∃ v, P k v ∧ (s.each l f).rd (reg k) = BitVec.ofInt 16 v := by
  induction l generalizing s with
  | nil => exact ⟨rfl, fun _ _ => rfl, fun _ h => nomatch h⟩
  | cons x xs ih =>
    obtain ⟨c, v, hx, hP⟩ := hf s x
    obtain ⟨hform, hrd, hat⟩ := ih (f s x)
    have hsame : (f s x).rd (reg x) = BitVec.ofInt 16 v := by
      rw [hx]
      exact State.rd_wr_same _ _ _
    refine ⟨?_, fun a ha => (hrd a fun k hk => ha k (List.mem_cons_of_mem x hk)).trans ?_, fun k hk => ?_⟩
    · refine hform.trans ?_
      change _ = ({ s with regs := ((f s x).each xs f).regs, freeCtr := ((f s x).each xs f).freeCtr } : State)
      generalize (f s x).each xs f = u
      rw [hx]
      rfl
    · rw [hx]
      exact State.rd_wi_ne _ v (ha x List.mem_cons_self)
    · by_cases hmem : k ∈ xs
      · exact hat k hmem
      · obtain rfl : k = x := (List.mem_cons.mp hk).resolve_right hmem
        refine ⟨v, hP, (hrd _ fun j hj he => hmem ?_).trans hsame⟩
        rw [hinj _ _ he]
        exact hj

/-- An exact value as a word: the value itself where it is whole and fits, and no field but the count of open choices changes. -/
theorem State.wordOpen_frame (s : State) (lo hi : Int) (x : Rat) : ∃ v c, s.wordOpen lo hi x = (v, { s with freeCtr := c }) ∧ (x = 0 → lo ≤ 0 → 0 ≤ hi → v = 0) := by
  unfold State.wordOpen
  by_cases hx : x = 0
  · have hr : s.roundOpen x = (0, s) := by
      rw [hx]
      rfl
    rw [hr]
    dsimp only
    split
    case isTrue => exact ⟨0, s.freeCtr, rfl, fun _ _ _ => rfl⟩
    case isFalse h => exact ⟨_, s.freeCtr + 1, rfl, fun _ h1 h2 => absurd (by rw [decide_eq_true h1, decide_eq_true h2]; rfl) h⟩
  · obtain ⟨v, c, h⟩ := s.roundOpen_frame x
    rw [h]
    dsimp only
    split
    · exact ⟨v, c, rfl, fun h0 => absurd h0 hx⟩
    · exact ⟨_, c + 1, rfl, fun h0 => absurd h0 hx⟩

theorem clampR_bounds {lo hi v : Rat} (h : lo ≤ hi) : lo ≤ clampR lo hi v ∧ clampR lo hi v ≤ hi := by
  unfold clampR
  split
  · exact ⟨le_refl _, h⟩
  · split
    · exact ⟨h, le_refl _⟩
    · exact ⟨not_lt.mp ‹_›, not_lt.mp ‹_›⟩

theorem trims_bounded (p : Nat → Prop) [DecidablePred p] (g : Nat → Rat) : ∀ x ∈ (List.range 6).map (fun k => if p k then clampR (-1 / 20) (1 / 20) (g k) else 0), (-1 / 20 : Rat) ≤ x ∧ x ≤ 1 / 20 := by
  intro x hx
  obtain ⟨k, -, rfl⟩ := List.mem_map.mp hx
  split
  · exact clampR_bounds (by norm_num)
  · norm_num

/-- R296, R337: new trims are taken and shown. -/
theorem State.newTrims_shows (s : State) (l : List Rat) :
    ∃ e : State, ((s.setDrv fun d => { d with trims := l }).each (List.range 6) fun t k => (t.roundOpen (65536 * l.getD k 0)).2.wi (A.DRV_TRIM k) (t.roundOpen (65536 * l.getD k 0)).1) = e ∧
      e = { s with regs := e.regs, drv := { s.drv with trims := l }, freeCtr := e.freeCtr } ∧ (∀ a, (∀ k, k < 6 → a ≠ A.DRV_TRIM k) → e.rd a = s.rd a) := by
  obtain ⟨hform, hrd, -⟩ := State.each_wi (f := fun t k => (t.roundOpen (65536 * l.getD k 0)).2.wi (A.DRV_TRIM k) (t.roundOpen (65536 * l.getD k 0)).1) (reg := A.DRV_TRIM) (P := fun _ _ => True)
    (fun _ _ h => Nat.add_left_cancel h) (fun t k => by
      obtain ⟨v, c, h⟩ := t.roundOpen_frame (65536 * l.getD k 0)
      refine ⟨c, v, ?_, trivial⟩
      rw [h]) (List.range 6) (s.setDrv fun d => { d with trims := l })
  exact ⟨_, rfl, hform, fun a ha => hrd a fun k hk => ha k (List.mem_range.mp hk)⟩

/-- R296: what the balance leaves: the phases' currents, and trims within 5 %. -/
theorem State.balance_shows (s : State) (l : List Rat) (io : Rat) (htrim : ∀ x ∈ s.drv.trims, (-1 / 20 : Rat) ≤ x ∧ x ≤ 1 / 20) :
    ∃ e : State, s.balance l io = e ∧ e = { s with regs := e.regs, drv := { s.drv with trims := e.drv.trims }, freeCtr := e.freeCtr } ∧ (∀ x ∈ e.drv.trims, (-1 / 20 : Rat) ≤ x ∧ x ≤ 1 / 20) ∧
      (∀ k, k < 6 → s.phActive.testBit k = false → e.rd (A.DRV_IPH k) = 0) ∧ (∀ a, (∀ k, k < 6 → a ≠ A.DRV_IPH k ∧ a ≠ A.DRV_TRIM k) → e.rd a = s.rd a) := by
  have hcur := State.each_wi (reg := A.DRV_IPH) (P := fun k v => s.phActive.testBit k = false → v = 0) (fun _ _ h => Nat.add_left_cancel h) (fun t k => by
    obtain ⟨v, c, h, h0⟩ := t.wordOpen_frame (-32768) 32767 (if s.phActive.testBit k then 100 * l.getD k 0 else 0)
    refine ⟨c, v, ?_, fun hk => h0 (by rw [hk]; rfl) (by decide) (by decide)⟩
    show State.wi (t.wordOpen (-32768) 32767 (if s.phActive.testBit k then 100 * l.getD k 0 else 0)).2 (A.DRV_IPH k) (t.wordOpen (-32768) 32767 (if s.phActive.testBit k then 100 * l.getD k 0 else 0)).1 = _
    rw [h]) (List.range 6) s
  unfold State.balance
  dsimp only
  generalize s.each (List.range 6) _ = u at hcur ⊢
  obtain ⟨huf, hur, hu0⟩ := hcur
  have hzero : ∀ k, k < 6 → s.phActive.testBit k = false → u.rd (A.DRV_IPH k) = 0 := fun k hk hb => by
    obtain ⟨v, hv, hrd⟩ := hu0 k (List.mem_range.mpr hk)
    rw [hrd, hv hb]
    rfl
  have houter : ∀ a, (∀ k, k < 6 → a ≠ A.DRV_IPH k ∧ a ≠ A.DRV_TRIM k) → u.rd a = s.rd a := fun a ha => hur a fun k hk => (ha k (List.mem_range.mp hk)).1
  have hdrv : u.drv = s.drv := (congrArg State.drv huf).trans rfl
  split
  case isTrue =>
    refine ⟨u, rfl, ?_, ?_, hzero, houter⟩
    · rw [hdrv]
      exact huf
    · rw [hdrv]
      exact htrim
  case isFalse =>
    have hnew : ∀ l : List Rat, (∀ x ∈ l, (-1 / 20 : Rat) ≤ x ∧ x ≤ 1 / 20) →
        ∃ e : State, ((u.setDrv fun d => { d with trims := l }).each (List.range 6) fun t k => (t.roundOpen (65536 * l.getD k 0)).2.wi (A.DRV_TRIM k) (t.roundOpen (65536 * l.getD k 0)).1) = e ∧
        e = { s with regs := e.regs, drv := { s.drv with trims := e.drv.trims }, freeCtr := e.freeCtr } ∧ (∀ x ∈ e.drv.trims, (-1 / 20 : Rat) ≤ x ∧ x ≤ 1 / 20) ∧
        (∀ k, k < 6 → s.phActive.testBit k = false → e.rd (A.DRV_IPH k) = 0) ∧ (∀ a, (∀ k, k < 6 → a ≠ A.DRV_IPH k ∧ a ≠ A.DRV_TRIM k) → e.rd a = s.rd a) := fun l hl => by
      obtain ⟨e, he, hform, hrd⟩ := u.newTrims_shows l
      have htr : e.drv = { s.drv with trims := l } := by
        rw [hform, hdrv]
      refine ⟨e, he, ?_, ?_, fun k hk hb => (hrd _ fun j hj => ?_).trans (hzero k hk hb), fun a ha => (hrd a fun k hk => (ha k hk).2).trans (houter a ha)⟩
      · rw [htr, hform, huf]
      · rw [htr]
        exact hl
      · show 0x0424 + k ≠ 0x042A + j
        omega
    exact hnew _ (trims_bounded _ _)

end
end Sys2Proof.Machine
end

section
/-! PROOFS. One frame of DRIVE (R284 to R294), and O47. -/
namespace Sys2Proof.Machine

/-! ### One frame of DRIVE (R284 to R294) -/

section
variable {s t : State}

/-- The registers in which the control law and the measurements of a frame are shown. -/
def lawRegs : List Nat := [A.DRV_STAT, A.DRV_ICEIL, A.DRV_DUTY, A.DRV_VOUT, A.DRV_IOUT, A.DRV_IIN]

/-- From s to t the law of one frame, its measurements and its streams have come, and nothing else. -/
structure State.LawOf (t s : State) : Prop where
  form : t = { s with regs := t.regs, drv := t.drv, mon := t.mon, stk := t.stk, freeCtr := t.freeCtr }
  rd : ∀ a, a ∉ lawRegs → t.rd a = s.rd a
  stk : t.stk = { s.stk with smp := t.stk.smp }
  drv : t.drv = { s.drv with i := t.drv.i, d := t.drv.d, dc := t.drv.dc, cin := t.drv.cin, ePrev := t.drv.ePrev, heldPrev := t.drv.heldPrev, duty := t.drv.duty, ovlRaised := t.drv.ovlRaised }

theorem State.LawOf.refl (s : State) : s.LawOf s := ⟨rfl, fun _ _ => rfl, rfl, rfl⟩

theorem State.LawOf.trans {u : State} (h : u.LawOf t) (h' : t.LawOf s) : u.LawOf s := by
  obtain ⟨hf, hr, hs, hd⟩ := h
  obtain ⟨hf', hr', hs', hd'⟩ := h'
  refine ⟨?_, fun a ha => (hr a ha).trans (hr' a ha), ?_, ?_⟩
  · rw [hf']  at hf
    exact hf
  · rw [hs'] at hs
    exact hs
  · rw [hd'] at hd
    exact hd

theorem State.LawOf.wr (h : t.LawOf s) {a : Nat} {w : Word} (ha : a ∈ lawRegs := by decide) : (t.wr a w).LawOf s :=
  State.LawOf.trans ⟨rfl, fun _ hb => State.rd_wr_ne _ _ (fun he => hb (he ▸ ha)), rfl, rfl⟩ h

theorem State.LawOf.p (h : t.LawOf s) {f : Fld} {v : Nat} (ha : f.addr ∈ lawRegs := by decide) : (t.p f v).LawOf s := h.wr ha

theorem State.LawOf.chosen (h : t.LawOf s) {c : Nat} : ({ t with freeCtr := c } : State).LawOf s := State.LawOf.trans ⟨rfl, fun _ _ => rfl, rfl, rfl⟩ h

theorem State.LawOf.roundOpen (h : t.LawOf s) {x : Rat} : (t.roundOpen x).2.LawOf s := by
  obtain ⟨v, c, hr⟩ := t.roundOpen_frame x
  rw [hr]
  exact h.chosen

theorem State.LawOf.wordOpen (h : t.LawOf s) {lo hi : Int} {x : Rat} : (t.wordOpen lo hi x).2.LawOf s := by
  obtain ⟨v, c, hr, -⟩ := t.wordOpen_frame lo hi x
  rw [hr]
  exact h.chosen

theorem State.LawOf.when (h : t.LawOf s) {c : Bool} {f : State → State} (hf : ∀ u : State, u.LawOf s → (f u).LawOf s) : (t.when c f).LawOf s := by
  unfold State.when
  split
  · exact hf t h
  · exact h

theorem State.LawOf.controlLaw (h : t.LawOf s) {io ii : Rat} : (t.controlLaw io ii).LawOf s := by
  unfold State.controlLaw
  extract_lets
  refine State.LawOf.wr ?_
  refine State.LawOf.wordOpen ?_
  refine State.LawOf.p ?_
  refine State.LawOf.roundOpen ?_
  refine State.LawOf.p (State.LawOf.p (State.LawOf.p ?_))
  exact State.LawOf.trans ⟨rfl, fun _ _ => rfl, rfl, rfl⟩ h

theorem State.LawOf.holdMeasures (h : t.LawOf s) {mv : Nat} {io ii : Rat} : (t.holdMeasures mv io ii).LawOf s :=
  State.LawOf.wr (State.LawOf.wr (State.LawOf.wr h.wordOpen.wordOpen.wordOpen))

theorem State.LawOf.streamTake (h : t.LawOf s) {k : Nat} {v : Int} : (t.streamTake k v).LawOf s :=
  h.when fun _ hu => State.LawOf.trans ⟨rfl, fun _ _ => rfl, rfl, rfl⟩ hu

theorem State.LawOf.streamFrame (h : t.LawOf s) : t.streamFrame.LawOf s := by
  have heach : ∀ (l : List Nat) (u : State) (cur v : Int), u.LawOf s → (u.each l fun s k => match s.g (F.STK_CAP_SRC k) with | 64 => s.streamTake k cur | 65 => s.streamTake k v | _ => s).LawOf s := by
    intro l
    induction l with
    | nil => exact fun _ _ _ hu => hu
    | cons x xs ih =>
      intro u cur v hu
      refine ih _ cur v ?_
      dsimp only
      split
      · exact hu.streamTake
      · exact hu.streamTake
      · exact hu
  unfold State.streamFrame
  split
  · have hcur : t.strokeCurrent.2.LawOf s := by
      obtain ⟨c, hc⟩ := t.strokeCurrent_frame
      rw [hc]
      exact h.chosen
    exact heach _ _ _ _ hcur.roundOpen
  · exact h

theorem State.LawOf.frameBlank (h : t.LawOf s) : t.frameBlank.LawOf s :=
  h.when fun u hu => by
    unfold State.turnOn State.blankEdge
    dsimp only
    split
    · exact hu
    · exact State.LawOf.trans ⟨rfl, fun _ _ => rfl, rfl, rfl⟩ hu

/-- R283, R285, R287, R309: the frame edge up to the control law. -/
def State.frameEdge (s : State) (v vl : Nat) (ag : Bool) : State := ((((s.setDrv fun d => { d with vdrv := v, vlsrc := vl }).takeDeadTimes.frameAngles).sumFrame ag).syncFree).moveVref

theorem State.driveFrame_on {v vl : Nat} {dcs ls : Int} {ag sm : Bool} (hon : s.drvOn = true) :
    ∃ io ii, s.driveFrame v dcs ls vl ag sm = (((s.frameEdge v vl ag).when (s.frameEdge v vl ag).regulates (·.controlLaw io ii)).when sm (·.holdMeasures v io ii)).streamFrame.frameBlank := ⟨_, _, if_pos hon⟩

theorem State.driveFrame_law {v vl : Nat} {dcs ls : Int} {ag sm : Bool} (hon : s.drvOn = true) : (s.driveFrame v dcs ls vl ag sm).LawOf (s.frameEdge v vl ag) := by
  obtain ⟨io, ii, h⟩ := State.driveFrame_on (v := v) (vl := vl) (dcs := dcs) (ls := ls) (ag := ag) (sm := sm) hon
  rw [h]
  exact (((State.LawOf.refl _).when fun _ hu => hu.controlLaw).when fun _ hu => hu.holdMeasures).streamFrame.frameBlank

/-- The registers that a frame edge writes before its control law, but for the trims. -/
def edgeRegs : List Nat := [A.DRV_DTACT, A.DRV_PHSTAT, A.DRV_SYNCSTAT]

/-- From s to t registers of a frame edge have been written, with DRIVE's record, and nothing else. -/
structure State.EdgeOf (t s : State) : Prop where
  form : t = { s with regs := t.regs, drv := t.drv }
  rd : ∀ a, a ∉ edgeRegs → (∀ k, k < 6 → a ≠ A.DRV_TRIM k) → t.rd a = s.rd a

theorem State.EdgeOf.trans {u : State} (h : u.EdgeOf t) (h' : t.EdgeOf s) : u.EdgeOf s := by
  obtain ⟨hf, hr⟩ := h
  obtain ⟨hf', hr'⟩ := h'
  refine ⟨?_, fun a ha hb => (hr a ha hb).trans (hr' a ha hb)⟩
  rw [hf'] at hf
  exact hf

theorem State.EdgeOf.of_drv {d : Drive} (h : t = { s with drv := d }) : t.EdgeOf s := by
  subst h
  exact ⟨rfl, fun _ _ _ => rfl⟩

theorem State.trimFollow_shows (s : State) :
    s.trimFollow = { s with regs := s.trimFollow.regs, drv := { s.drv with trims := s.trimFollow.drv.trims, bal := s.trimFollow.drv.bal } } ∧ ∀ a, (∀ k, k < 6 → a ≠ A.DRV_TRIM k) → s.trimFollow.rd a = s.rd a := by
  obtain ⟨hform, hrd⟩ := s.resetTrims_frame
  unfold State.trimFollow State.when
  split
  · refine ⟨?_, hrd⟩
    generalize s.resetTrims = u at hform ⊢
    have hd : u.drv = _ := (congrArg State.drv hform).trans rfl
    rw [hd]
    exact hform
  · exact ⟨rfl, fun _ _ => rfl⟩

theorem State.drvOffset_congr (h : ∀ a, a ∉ edgeRegs → (∀ k, k < 6 → a ≠ A.DRV_TRIM k) → t.rd a = s.rd a) : t.drvOffset = s.drvOffset := by
  have hnear : ∀ a, a = A.DRV_SYNC ∨ a = A.SYS_STRAP ∨ a = A.WAY_CFG → t.rd a = s.rd a := fun a ha => h a (by rcases ha with rfl | rfl | rfl <;> decide) (by rcases ha with rfl | rfl | rfl <;> decide)
  have hsync := hnear A.DRV_SYNC (.inl rfl)
  have hstrap := hnear A.SYS_STRAP (.inr (.inl rfl))
  have hway := hnear A.WAY_CFG (.inr (.inr rfl))
  unfold State.drvOffset State.wayAddr State.isWorker State.strapAddr
  rw [State.b_congr (f := F.DRV_SYNC_AUTOOFS) hsync, State.g_congr (f := F.DRV_SYNC_OFS) hsync, State.g_congr (f := F.SYS_STRAP_ROLE) hstrap, State.g_congr (f := F.SYS_STRAP_ADDRH) hstrap,
    State.g_congr (f := F.SYS_STRAP_ADDRL) hstrap, State.g_congr (f := F.WAY_CFG_ADDR) hway]

theorem State.setShed_edge (s : State) (m : Nat) : (s.setShed m).EdgeOf s ∧ (s.setShed m).g F.DRV_PHSTAT_SHED = m % 64 ∧ (s.setShed m).drv = { s.drv with shedNext := m } :=
  ⟨⟨rfl, fun _ ha _ => s.rd_p_ne (f := F.DRV_PHSTAT_SHED) m fun he => ha (he ▸ by decide)⟩, s.g_p_same F.DRV_PHSTAT_SHED m (by decide), rfl⟩

/-- What the edge of a frame takes over of DRIVE's record beside its angles. -/
def Drive.frameShown (d : Drive) : Nat × Nat × Rat × Bool × Nat := (d.vdrv, d.vlsrc, d.vref, d.fast, d.sumOk)

/-- R285, R306, R307: the shed phases, the angles and the offset at a frame edge. -/
theorem State.frameAngles_shows (s : State) :
    s.frameAngles.EdgeOf s ∧ s.frameAngles.g F.DRV_PHSTAT_SHED = (if s.drv.shedHold then 0 else s.drv.shedNext % 64) ∧ s.frameAngles.drv.angles = s.frameAngles.phActive ∧ s.frameAngles.drv.ofs = s.drvOffset ∧
      s.frameAngles.drv.frameShown = s.drv.frameShown := by
  generalize hm : (if s.drv.shedHold then 0 else s.drv.shedNext) = m
  have hmod : (if s.drv.shedHold then 0 else s.drv.shedNext % 64) = m % 64 := by
    rw [← hm]
    split <;> rfl
  have heq : s.frameAngles = (s.setShed m).trimFollow.setDrv fun d => { d with angles := (s.setShed m).trimFollow.phActive, ofs := (s.setShed m).trimFollow.drvOffset } := by
    unfold State.frameAngles
    rw [hm]
  obtain ⟨hform, hrd⟩ := (s.setShed m).trimFollow_shows
  obtain ⟨hset, hshed, hdrv⟩ := s.setShed_edge m
  rw [heq, hmod]
  generalize s.setShed m = w at hform hrd hset hshed hdrv ⊢
  generalize w.trimFollow = u at hform hrd ⊢
  have hudrv : u.drv = _ := (congrArg State.drv hform).trans rfl
  have huw : u.EdgeOf w := ⟨by rw [hudrv]; exact hform, fun a _ hb => hrd a hb⟩
  have hus := huw.trans hset
  refine ⟨State.EdgeOf.trans ⟨rfl, fun _ _ _ => rfl⟩ hus, ?_, rfl, State.drvOffset_congr hus.rd, ?_⟩
  · exact (State.g_congr (f := F.DRV_PHSTAT_SHED) (hrd A.DRV_PHSTAT (by decide))).trans hshed
  · refine (congrArg Drive.frameShown hudrv).trans ?_
    exact (congrArg Drive.frameShown hdrv).trans rfl

theorem State.sumFrame_shows (s : State) (ag : Bool) :
    s.sumFrame ag = { s with drv := { s.drv with sumOk := if ag then s.drv.sumOk + 1 else 0, sumRaised := (s.sumFrame ag).drv.sumRaised } } := by
  cases ag <;> rfl

theorem State.syncFree_shows (s : State) :
    s.syncFree = { s with regs := s.syncFree.regs, drv := { s.drv with lockCnt := s.syncFree.drv.lockCnt, syncGone := s.syncFree.drv.syncGone, pull := s.syncFree.drv.pull } } ∧ ∀ a, a ≠ A.DRV_SYNCSTAT → s.syncFree.rd a = s.rd a := by
  unfold State.syncFree
  split
  · exact ⟨rfl, fun _ _ => rfl⟩
  · exact ⟨rfl, fun _ ha => (State.rd_p_ne _ (f := F.DRV_SYNCSTAT_PERIOD) 0 ha).trans (s.rd_p_ne (f := F.DRV_SYNCSTAT_LOCK) 0 ha)⟩

theorem State.moveVref_shows (hon : s.drvOn = true) :
    s.moveVref = { s with drv := { s.drv with vref := if (s.domAt 1).slew = .slewing ∨ s.g F.DRV_STAT_MODE = 2 then toward s.drv.vref s.vTarget s.vrefStep else s.drv.vref } } := by
  unfold State.moveVref
  rw [hon, Bool.true_and]
  by_cases hs : (s.domAt 1).slew = .slewing ∨ s.g F.DRV_STAT_MODE = 2
  · rw [if_pos hs, if_pos (by simpa using hs)]
    rfl
  · rw [if_neg hs, if_neg (by simpa using hs)]

/-- What the reference moves by and towards depends on registers that the frame edge leaves. -/
theorem State.EdgeOf.target (h : t.EdgeOf s) (hfast : t.drv.fast = s.drv.fast) :
    t.drvOn = s.drvOn ∧ (t.domAt 1).slew = (s.domAt 1).slew ∧ t.g F.DRV_STAT_MODE = s.g F.DRV_STAT_MODE ∧ t.vTarget = s.vTarget ∧ t.vrefStep = s.vrefStep := by
  obtain ⟨hform, hrd⟩ := h
  have hnear : ∀ a, a = A.DRV_STAT ∨ a = A.DRV_VACT ∨ a = A.DRV_SLEW ∨ a = A.DRV_FSW ∨ a = A.DOM_STAT 1 → t.rd a = s.rd a := fun a ha =>
    hrd a (by rcases ha with rfl | rfl | rfl | rfl | rfl <;> decide) (by rcases ha with rfl | rfl | rfl | rfl | rfl <;> decide)
  have hdom : t.dom = s.dom := (congrArg State.dom hform).trans rfl
  have hslew := hnear A.DRV_SLEW (.inr (.inr (.inl rfl)))
  have hat : t.domAt 1 = s.domAt 1 := by
    unfold State.domAt
    rw [hdom]
  refine ⟨State.b_congr (hnear (A.DOM_STAT 1) ?_), by rw [hat], State.g_congr (hnear A.DRV_STAT (.inl rfl)), congrArg codeV (State.g_congr (hnear A.DRV_VACT (.inr (.inl rfl)))), ?_⟩
  · exact .inr (.inr (.inr (.inr rfl)))
  · unfold State.vrefStep
    rw [hfast, hat, State.g_congr (f := F.DRV_SLEW_SSSLOPE) hslew, State.g_congr (f := F.DRV_SLEW_SLOPE) hslew, State.g_congr (f := F.DRV_FSW_DIV) (hnear A.DRV_FSW (.inr (.inr (.inr (.inl rfl)))))]

/-- R283, R285, R298, R309: the state at a frame edge before the control law. -/
theorem State.frameEdge_shows (v vl : Nat) (ag : Bool) (hon : s.drvOn = true) :
    ∃ e : State, s.frameEdge v vl ag = e ∧ e.EdgeOf s ∧ e.g F.DRV_PHSTAT_SHED = (if s.drv.shedHold then 0 else s.drv.shedNext % 64) ∧ e.drv.angles = e.phActive ∧ e.drv.ofs = s.drvOffset ∧ e.drv.vdrv = v ∧ e.drv.vlsrc = vl ∧
      e.drv.sumOk = (if ag then s.drv.sumOk + 1 else 0) ∧ e.drv.vref = (if (s.domAt 1).slew = .slewing ∨ s.g F.DRV_STAT_MODE = 2 then toward s.drv.vref s.vTarget s.vrefStep else s.drv.vref) := by
  have h1 : ((s.setDrv fun d => { d with vdrv := v, vlsrc := vl }).takeDeadTimes).EdgeOf s :=
    State.EdgeOf.trans ⟨rfl, fun _ ha _ => State.rd_wn_ne _ _ fun he => ha (he ▸ by decide)⟩ (⟨rfl, fun _ _ _ => rfl⟩ : (s.setDrv fun d => { d with vdrv := v, vlsrc := vl }).EdgeOf s)
  have hd1 : ((s.setDrv fun d => { d with vdrv := v, vlsrc := vl }).takeDeadTimes).drv = { s.drv with vdrv := v, vlsrc := vl } := rfl
  unfold State.frameEdge
  generalize (s.setDrv fun d => { d with vdrv := v, vlsrc := vl }).takeDeadTimes = s1 at h1 hd1 ⊢
  obtain ⟨h2, hshed, hang, hofs, hsh⟩ := s1.frameAngles_shows
  rw [hd1] at hshed hsh
  have hofs' := hofs.trans (State.drvOffset_congr h1.rd)
  generalize s1.frameAngles = s2 at h2 hshed hang hofs' hsh ⊢
  simp only [Drive.frameShown, Prod.mk.injEq] at hsh
  obtain ⟨hv, hvl, hvref, hfast, hsum⟩ := hsh
  have hs3 := s2.sumFrame_shows ag
  generalize s2.sumFrame ag = s3 at hs3 ⊢
  obtain ⟨hs4, hr4⟩ := s3.syncFree_shows
  generalize s3.syncFree = s4 at hs4 hr4 ⊢
  have hd3 : s3.drv = _ := (congrArg State.drv hs3).trans rfl
  have hd4 : s4.drv = _ := (congrArg State.drv hs4).trans rfl
  have hr3 : ∀ a, s3.rd a = s2.rd a := fun a => by
    rw [hs3]
    rfl
  have h3 : s3.EdgeOf s2 := .of_drv hs3
  have h4 : s4.EdgeOf s3 := ⟨by rw [hd4]; exact hs4, fun a ha _ => hr4 a fun he => ha (he ▸ by decide)⟩
  have h4s := ((h4.trans h3).trans h2).trans h1
  have hfast4 : s4.drv.fast = s.drv.fast := by
    rw [hd4, hd3]
    exact hfast
  have hvref4 : s4.drv.vref = s.drv.vref := by
    rw [hd4, hd3]
    exact hvref
  obtain ⟨hon4, hslew4, hmode4, htar4, hstep4⟩ := h4s.target hfast4
  have hs5 := s4.moveVref_shows (hon4.trans hon)
  rw [hslew4, hmode4, htar4, hstep4, hvref4] at hs5
  generalize s4.moveVref = s5 at hs5 ⊢
  have hd5 : s5.drv = _ := (congrArg State.drv hs5).trans rfl
  have hr5 : ∀ a, s5.rd a = s4.rd a := fun a => by
    rw [hs5]
    rfl
  have hstat : s5.rd A.DRV_PHSTAT = s2.rd A.DRV_PHSTAT := (hr5 _).trans ((hr4 _ (by decide)).trans (hr3 _))
  have hact : s5.phActive = s2.phActive := (State.phases_congr fun a ha => (hr5 a).trans ((hr4 a (by rcases ha with rfl | rfl | rfl <;> decide)).trans (hr3 a))).2
  refine ⟨s5, rfl, (State.EdgeOf.of_drv hs5).trans h4s, (State.g_congr hstat).trans hshed, ?_, ?_, ?_, ?_, ?_, ?_⟩
  · rw [hact, hd5, hd4, hd3]
    exact hang
  · rw [hd5, hd4, hd3]
    exact hofs'
  · rw [hd5, hd4, hd3]
    exact hv
  · rw [hd5, hd4, hd3]
    exact hvl
  · rw [hd5, hd4, hd3]
    exact congrArg (fun n => if ag then n + 1 else 0) hsum
  · rw [hd5]

/-- What one frame of the converter that is on brings. -/
theorem State.driveFrame_shows {v vl : Nat} {dcs ls : Int} {ag sm : Bool} (hon : s.drvOn = true) :
    ∃ e : State, s.driveFrame v dcs ls vl ag sm = e ∧ e = { s with regs := e.regs, drv := e.drv, mon := e.mon, stk := e.stk, freeCtr := e.freeCtr } ∧
      (∀ a, a ≠ A.DRV_DTACT → a ≠ A.DRV_PHSTAT → (∀ k, k < 6 → a ≠ A.DRV_TRIM k) → a ≠ A.DRV_SYNCSTAT → a ≠ A.DRV_STAT → a ≠ A.DRV_ICEIL → a ≠ A.DRV_DUTY → a ≠ A.DRV_VOUT → a ≠ A.DRV_IOUT → a ≠ A.DRV_IIN → e.rd a = s.rd a) ∧
      e.stk = { s.stk with smp := e.stk.smp } ∧ e.drv.vdrv = v ∧ e.drv.vlsrc = vl ∧ e.g F.DRV_PHSTAT_SHED = (if s.drv.shedHold then 0 else s.drv.shedNext % 64) ∧ e.drv.angles = e.phActive ∧ e.drv.ofs = s.drvOffset ∧
      e.drv.sumOk = (if ag then s.drv.sumOk + 1 else 0) ∧ e.drv.vref = (if (s.domAt 1).slew = .slewing ∨ s.g F.DRV_STAT_MODE = 2 then toward s.drv.vref s.vTarget s.vrefStep else s.drv.vref) := by
  have hlaw := State.driveFrame_law (v := v) (vl := vl) (dcs := dcs) (ls := ls) (ag := ag) (sm := sm) hon
  obtain ⟨u, hu, ⟨huf, hur⟩, hshed, hang, hofs, hv, hvl, hsum, hvref⟩ := State.frameEdge_shows v vl ag hon
  rw [hu] at hlaw
  obtain ⟨hef, her, hes, hed⟩ := hlaw
  generalize s.driveFrame v dcs ls vl ag sm = e at hef her hes hed ⊢
  have hstk : u.stk = s.stk := (congrArg State.stk huf).trans rfl
  have hact : e.phActive = u.phActive := (State.phases_congr fun a ha => her a (by rcases ha with rfl | rfl | rfl <;> decide)).2
  refine ⟨e, rfl, ?_, fun a h1 h2 h3 h4 h5 h6 h7 h8 h9 h10 => (her a ?_).trans (hur a ?_ h3), ?_, ?_, ?_, (State.g_congr (her A.DRV_PHSTAT (by decide))).trans hshed, ?_, ?_, ?_, ?_⟩
  · rw [huf] at hef
    exact hef
  · simp [lawRegs, h5, h6, h7, h8, h9, h10]
  · simp [edgeRegs, h1, h2, h4]
  · rw [hstk] at hes
    exact hes
  · rw [hed]
    exact hv
  · rw [hed]
    exact hvl
  · rw [hact, hed]
    exact hang
  · rw [hed]
    exact hofs
  · rw [hed]
    exact hsum
  · rw [hed]
    exact hvref

theorem State.driveFrame_off {v vl : Nat} {dcs ls : Int} {ag sm : Bool} (h : s.drvOn = false) : s.driveFrame v dcs ls vl ag sm = s := if_neg (by rw [h]; decide)

/-- Settles O47: each of DRIVE's events by what its definition leaves, the frame by its edge (`frameEdge_shows`) and its law (`driveFrame_law`). -/
theorem driveFramesAndLimits : Obligations.DriveFramesAndLimits := by
  unfold Obligations.DriveFramesAndLimits
  have hx := fun (s : State) => exec_driveLimits s
  refine ⟨fun s v vl dcs ls ag sm hon => ?_, fun s v vl dcs ls ag sm hoff => congrArg done (State.driveFrame_off hoff), fun s l dcs hon htrim => ?_, fun s err period hon hm hp => ?_, fun s hon hm hg => ?_,
    fun s hg => ?_, fun s k cs hr hd => ⟨fun hs hl => ?_, fun h => ?_⟩, fun s k hr hk ho => ?_, fun s hon hm hov hsam => ?_, fun s hr hl => ⟨fun ho => ?_, fun ho => ?_⟩, fun s hon => ⟨fun hr => ?_, fun hr => ?_⟩,
    fun s k h => congrArg done (State.hiccup_none h)⟩
  · obtain ⟨e, he, h⟩ := State.driveFrame_shows (v := v) (vl := vl) (dcs := dcs) (ls := ls) (ag := ag) (sm := sm) hon
    exact ⟨e, congrArg done he, h⟩
  · obtain ⟨e, he, h⟩ := s.balance_shows (l.map s.iphOf) (s.ioutOf dcs) htrim
    refine ⟨e, ?_, h⟩
    rw [(hx s 0 0 dcs 0 0 0 0 0 false false l).2.1, hon, State.when_true, he]
    rfl
  · obtain ⟨e, he, h⟩ := State.syncEdge_inRange (err := err) hon hm hp
    exact ⟨e, congrArg done he, h⟩
  · obtain ⟨e, he, h⟩ := State.syncLost_once hon hm hg
    exact ⟨e, congrArg done he, h⟩
  · refine congrArg done (if_neg ?_)
    rw [hg]
    simp
  · rw [(hx s 0 cs 0 0 0 0 0 k false false []).2.2.2.2.1, State.fastLimited_off hr hd, hs, decide_eq_true hl]
    rfl
  · refine congrArg done (if_neg ?_)
    rw [State.fastLimited_off hr hd]
    rcases h with h | h
    · rw [h, Bool.false_and]
      decide
    · rw [decide_eq_false (not_lt.mpr h), Bool.and_false]
      decide
  · obtain ⟨e, he, h⟩ := State.hiccup_enters hr hk ho
    exact ⟨e, congrArg done he, h⟩
  · obtain ⟨e, he, h⟩ := State.hiccupOver_shows hon hov hsam
    refine ⟨e, ?_, h⟩
    rw [(hx s 0 0 0 0 0 0 0 0 false false []).2.2.2.2.2.2.1, hon, hm]
    exact congrArg done he
  · rw [(hx s 0 0 0 0 0 0 0 0 false false []).2.2.2.2.2.2.2, hr, hl, ho]
    rfl
  · rw [(hx s 0 0 0 0 0 0 0 0 false false []).2.2.2.2.2.2.2, ho, Bool.not_true, Bool.and_false]
    rfl
  · refine congrArg done (if_pos ?_)
    rw [hon, hr]
    rfl
  · refine congrArg done (if_neg ?_)
    rw [hr, Bool.not_true, Bool.and_false]
    decide

end
end Sys2Proof.Machine
end

section
/-! PROOFS. What a property of the state has to stand for the end of a step time to keep it. -/
namespace Sys2Proof.Machine

/-! ### What a property of the state has to stand for the end of a step time to keep it -/

section
variable {s t : State} {P : State → Prop}

/-- The registers whose writes a property may speak of, beside the sticky bits. -/
def guarded : List Nat := [A.WEIR_STAT, A.STK_STAT, A.STK_CFG, A.FLT_SNAP 0]

/-- The property stands writes of other registers, sticky bits, and changes of the records that raises, packets, the gauge, the charger and the recorder work on. -/
structure State.Stable (P : State → Prop) : Prop where
  wr : ∀ {s : State} {a : Nat} {w : Word}, a ∉ guarded → P s → P (s.wr a w)
  sticky : ∀ {s : State} {n : Nat}, P s → P (s.setSticky n)
  beside : ∀ {s : State} {hif : Hif} {dom : List Domain} {flt : Flt} {mrq : Mrq} {nvm : Nvm} {drv : Drive} {stk : Stroke} {chg : Charger} {gau : Gauge} {ctl : Control} {freeCtr : Nat}, P s →
    P { s with hif := hif, dom := dom, flt := flt, mrq := mrq, nvm := nvm, drv := drv, stk := stk, chg := chg, gau := gau, ctl := ctl, freeCtr := freeCtr }

theorem State.Stable.p (hP : State.Stable P) (h : P s) {f : Fld} {v : Nat} (ha : f.addr ∉ guarded := by decide) : P (s.p f v) := hP.wr ha h

theorem State.Stable.inc (hP : State.Stable P) (h : P s) {a : Nat} (ha : a ∉ guarded := by decide) : P (s.inc a) := by
  unfold State.inc
  split
  · exact hP.wr ha h
  · exact h

theorem State.keeps_ite {c : Prop} [Decidable c] (hs : P s) (ht : P t) : P (if c then s else t) := by
  split
  · exact hs
  · exact ht

theorem State.keeps_when (h : P s) {c : Bool} {f : State → State} (hf : ∀ t : State, P t → P (f t)) : P (s.when c f) := by
  cases c
  · exact h
  · exact hf s h

theorem State.keeps_each (h : P s) {α : Type} {l : List α} {f : State → α → State} (hf : ∀ (t : State) (a : α), P t → P (f t a)) : P (s.each l f) := State.each_induct P hf l s h

theorem not_guarded_of_lt {a : Nat} (h : a < A.WEIR_STAT) : a ∉ guarded := by
  have hne : ∀ b ∈ guarded, A.WEIR_STAT ≤ b := by decide
  exact fun hm => absurd (hne a hm) (Nat.not_le.mpr h)

theorem not_guarded_of_gt {a : Nat} (h : A.FLT_SNAP 0 < a) : a ∉ guarded := by
  have hne : ∀ b ∈ guarded, b ≤ A.FLT_SNAP 0 := by decide
  exact fun hm => absurd (hne a hm) (Nat.not_le.mpr h)

/-! ### Raises taken, and the reserve -/

section
variable (hP : State.Stable P)
include hP

theorem State.Stable.queueRecord (h : P s) {k : FailKind} {i : Incident} : P (s.queueRecord k i) := State.keeps_ite h (hP.beside (s := s) h)

theorem State.Stable.countNoStart (h : P s) {r : Raise} : P (s.countNoStart r) := by
  unfold State.countNoStart State.when
  split
  next hr =>
    have hlt : r.source < 10 := of_decide_eq_true (Bool.and_eq_true_iff.mp hr).1
    exact hP.inc h (not_guarded_of_lt (show 0x0200 + (r.source + 1 - 1) * 0x20 + 2 + 2 < 0x0561 by omega))
  next => exact h

theorem State.Stable.takeRaise {x : State × List Taken} (h : P x.1) {r : Raise} : P (State.takeRaise x r).1 := by
  have hc := hP.countNoStart h (r := r)
  have hi := hP.inc (hP.sticky hc (n := r.source)) (a := A.FLT_CNT r.source) (not_guarded_of_gt (show 0x0C30 < 0x0C80 + r.source by omega))
  have hp := fun c => State.keeps_when hi (c := c) (f := (·.p F.FLT_TEST_DRYHIT 1)) fun _ ht => hP.p ht
  unfold State.takeRaise
  dsimp only
  split
  · refine State.keeps_ite (hP.queueRecord ?_) ?_ <;> exact State.keeps_ite (hP.beside (hP.beside (hp _))) (hp _)
  · exact hc

theorem State.Stable.takeRaises {x : State × List Taken} (h : P x.1) (rs : List Raise) : P (rs.foldl State.takeRaise x).1 := by
  induction rs generalizing x with
  | nil => exact h
  | cons r rs ih => exact ih (hP.takeRaise h)

theorem State.Stable.collect (h : P s) : P s.collect.1 := by
  unfold State.collect
  split
  · exact h
  · split
    · exact hP.beside h
    · split
      · exact hP.beside h
      · exact hP.takeRaises (x := (s.setFlt fun f => { f with raised := [] }, [])) (hP.beside h) _

theorem State.Stable.roundOpen (h : P s) {x : Rat} : P (s.roundOpen x).2 := by
  obtain ⟨v, k, hr⟩ := s.roundOpen_frame x
  rw [hr]
  exact hP.beside h

theorem State.Stable.putR (h : P s) {a : Nat} {x : Rat} (ha : a ∉ guarded := by decide) : P (s.putR a x) := hP.wr ha (hP.roundOpen h)

theorem State.Stable.judgeReserve (h : P s) : P s.judgeReserve := by
  have hl := hP.p h (f := F.GAU_STAT_LOW) (v := (!s.reserveOk).toNat)
  exact State.keeps_ite hl (State.keeps_when (hP.beside hl) fun _ ht => hP.beside ht)

theorem State.Stable.updateReserve (h : P s) : P s.updateReserve := by
  unfold State.updateReserve
  extract_lets shown n
  have hshown : P shown := hP.putR (hP.putR h)
  exact hP.judgeReserve (hP.p (hP.p hshown (f := F.GAU_RESERVE_FLOOR)))

theorem State.Stable.reserveFollow (h : P s) : P s.reserveFollow :=
  State.keeps_ite (State.keeps_when (hP.beside h) fun _ ht => hP.updateReserve ht) h

end

/-! ### The rest of what follows, and the packets -/

/-- The property also stands what the recorder, the strokes and the weir write, and the fast oscillator. -/
structure State.Free (P : State → Prop) : Prop extends State.Stable P where
  stroke : ∀ {s : State} {w : Word}, P s → P (s.wr A.STK_STAT w)
  weir : ∀ {s : State} {w : Word}, P s → P (s.wr A.WEIR_STAT w)
  line : ∀ {s : State} {l : Line}, P s → P { s with line := l }
  log : ∀ {s t : State}, t.LogOf s → P s → P t
  fast : ∀ {s : State}, P s → P (s.setSup fun u => { u with fastOn := true })

section
variable (hP : State.Free P)
include hP

theorem State.Free.queueReset (h : P s) : P s.queueReset := by
  have hw := fun c => State.keeps_when h (c := c) (f := (·.p F.STK_STAT_PKTLOST 1)) fun _ ht => hP.stroke ht
  exact hP.beside (hP.beside (hP.beside (hP.p (hP.inc (hw _) (a := A.MRQ_CNTRST)) (f := F.MRQ_STAT_RST) (v := 1))))

theorem State.Free.checkPtrs (h : P s) {c : Nat} : P (s.checkPtrs c) := State.keeps_ite h (hP.queueReset h)

theorem State.Free.dropPacket (h : P s) {c : Nat} {b : PktBody} : P (s.dropPacket c b) := by
  have hd := hP.p (hP.inc h (a := A.MRQ_DROP c) (not_guarded_of_gt (show 0x0C30 < 0x0D0A + c by omega))) (f := F.MRQ_STAT_DROP) (v := 1)
  unfold State.dropPacket
  extract_lets dropped lost
  have hlost : P lost := by
    show P (match b with | .engReport _ _ _ _ => dropped.p F.ENG_STAT_PKTLOST 1 | _ => dropped)
    split
    · exact hP.p hd
    · exact hd
  split
  · exact hlost
  · exact hP.beside hlost

theorem State.Free.openPacket (h : P s) {b : PktBody} : P (s.openPacket b) := by
  unfold State.openPacket
  split
  · exact State.keeps_ite (hP.beside (hP.beside (hP.checkPtrs h))) (hP.checkPtrs h)
  · exact State.keeps_ite (hP.beside (hP.beside (hP.checkPtrs h))) (hP.dropPacket (hP.checkPtrs h))

theorem State.Free.openPosted (h : P s) : P s.openPosted :=
  State.keeps_each (State.keeps_each (hP.beside h) fun _ _ ht => hP.checkPtrs ht) fun _ _ ht => hP.openPacket ht

theorem State.Free.commitPosted (h : P s) : P s.commitPosted :=
  State.keeps_each (hP.beside (hP.openPosted h)) fun _ _ ht => hP.beside ht

theorem State.Free.handBack (h : P s) : P s.handBack := State.keeps_ite (hP.weir (hP.weir (hP.weir (hP.line h)))) (hP.line h)

theorem State.Free.drvWeirChange (h : P s) : P s.drvWeirChange := State.keeps_ite (hP.beside (hP.p h (f := F.DRV_STAT_MODE))) h

theorem State.Free.endBattPhase (h : P s) {c : Nat} : P (s.endBattPhase (some c)) := by
  unfold State.endBattPhase
  split
  · have hb : P ((s.p F.STK_STAT_BATTPH 0).setStk fun k => { k with proveTarget := none, pre := none }) := hP.beside (hP.stroke h)
    dsimp only
    generalize (s.p F.STK_STAT_BATTPH 0).setStk (fun k => { k with proveTarget := none, pre := none }) = u at hb ⊢
    have hp : P ((u.p F.STK_PRVSTAT_LASTRES c).setStk fun k => { k with prv := c }) := hP.beside (hP.p hb)
    generalize (u.p F.STK_PRVSTAT_LASTRES c).setStk (fun k => { k with prv := c }) = v at hp ⊢
    exact hP.log ((State.LogOf.refl v).retarget.marker.marker.burst.handOff) hp
  · exact h

theorem State.Free.phaseGuard (h : P s) : P s.phaseGuard := State.keeps_ite (State.keeps_ite (hP.endBattPhase h) (State.keeps_ite (hP.endBattPhase h) h)) h

theorem State.Free.judgeCharger (h : P s) : P s.judgeCharger := by
  unfold State.judgeCharger
  extract_lets zoned prev want boot cycled started phased st shown marked shared staged
  have h1 : P zoned := State.keeps_when h fun _ ht => hP.p ht
  have h2 : P cycled := State.keeps_when h1 fun _ ht => hP.beside ht
  have h3 : P started := State.keeps_when h2 fun _ ht => hP.inc (hP.beside ht)
  have h4 : P phased := State.keeps_when h3 fun _ ht => hP.beside ht
  have h5 : P shown := hP.p (hP.p h4 (f := F.CHG_STAT_STATE))
  have h6 : P marked := hP.p (hP.p h5 (f := F.CHG_STAT_PRES))
  have h7 : P shared := State.keeps_when h6 fun _ ht => hP.beside (hP.wr (a := A.CHG_ALLOW) (by decide) (hP.p (hP.p (hP.p ht (f := F.CHG_STAT_PREC)) (f := F.CHG_STAT_YIELD)) (f := F.CHG_STAT_HALF)))
  have hstop := fun c => State.keeps_when h7 (c := c) (f := State.chargerStopped) fun _ ht => State.keeps_ite (hP.beside ht) ht
  have h8 : P staged := hP.wr (by decide) (hP.beside (hstop _))
  exact State.keeps_ite h8 (hP.beside (hP.beside h8))

theorem State.Free.reserveLost (h : P s) : P s.reserveLost := State.keeps_ite h (hP.judgeReserve (hP.p h))

theorem State.Free.precFollow (h : P s) : P s.precFollow :=
  State.keeps_ite h (hP.beside (hP.p (hP.p (hP.p (hP.roundOpen h) (f := F.CHG_STAT_PREC)) (f := F.CHG_ALLOW_PREC)) (f := F.CHG_ALLOW_ILINE)))

theorem State.Free.restFollow (h : P s) : P s.restFollow :=
  hP.beside (State.keeps_when h fun _ ht => hP.p ht)

theorem State.Free.supplyFollow (h : P s) : P s.supplyFollow :=
  State.keeps_ite (State.keeps_ite (hP.beside h) (State.keeps_ite (hP.beside h) (State.keeps_ite (hP.beside h) h))) h

theorem State.Free.fieldFollow (h : P s) {v : Nat} : P (s.fieldFollow v) := State.keeps_ite (hP.p h) (hP.p h)

theorem State.Free.tryWriteBack (h : P s) : P s.tryWriteBack := State.keeps_ite (State.keeps_ite h (State.keeps_ite (hP.beside (hP.beside h)) (hP.beside h))) (hP.beside h)

theorem State.Free.wbWatch (h : P s) : P s.wbWatch := by
  unfold State.wbWatch
  split
  · exact State.keeps_when h fun _ ht => hP.beside ht
  · exact State.keeps_when h fun _ ht => hP.beside ht
  · exact h
  · exact h

theorem State.Free.wantCopyB (h : P s) : P s.wantCopyB := State.keeps_ite (hP.beside h) h

theorem State.Free.fastFollow (h : P s) : P s.fastFollow := State.keeps_when h fun _ ht => hP.fast ht

end

/-! ### The end of a step time -/

/-- The property also stands the weir's mode, what a raise brings, and an entry that has waited. -/
structure State.Kept (P : State → Prop) : Prop extends State.Free P where
  weirFollow : ∀ {s : State}, P s → P s.weirFollow
  react : ∀ {s : State} {l : List Taken}, P s → P (s.react l)
  finishEntry : ∀ {s : State}, P s → P s.finishEntry

section
variable (hP : State.Kept P)
include hP

theorem State.Kept.followUp (h : P s) : P s.followUp := by
  refine State.keeps_when h fun t ht => ?_
  have hw := hP.weirFollow (hP.reserveFollow ht)
  generalize t.reserveFollow.weirFollow = u at hw ⊢
  exact hP.fieldFollow (hP.supplyFollow (hP.restFollow (hP.precFollow (hP.reserveLost (hP.judgeCharger (hP.phaseGuard (hP.drvWeirChange hw)))))))

theorem State.Kept.followOn (h : P s) : P s.followOn := by
  refine State.keeps_when h fun t ht => ?_
  have hdue : P (t.when t.nvm.wbDue fun s => (s.setNvm fun n => { n with wbDue := false }).tryWriteBack) := State.keeps_when ht fun u hu => hP.tryWriteBack (hP.beside (s := u) hu)
  exact hP.fastFollow (hP.finishEntry (hP.wantCopyB (hP.wbWatch hdue)))

theorem State.Kept.gather (h : P s) {fuel : Nat} {l : List Taken} : P (s.gather State.followUp fuel l).1 := by
  induction fuel generalizing s l with
  | zero => exact h
  | succ n ih =>
    have hs := State.keeps_when (hP.followUp (hP.collect h)) (c := s.collect.1.followUp.aoOn && s.collect.1.followUp.power ≠ .boot) fun _ ht => hP.openPosted ht
    unfold State.gather
    dsimp only
    split
    · exact hs
    · exact ih hs

theorem State.Kept.judgePass (h : P s) : P s.judgePass := by
  have hg := hP.gather h (fuel := 8) (l := [])
  unfold State.judgePass
  generalize s.gather State.followUp 8 [] = g at hg ⊢
  exact hP.followOn (State.keeps_when (hP.react hg) fun _ ht => hP.followUp ht)

theorem State.Kept.judgeAll (h : P s) (fuel : Nat) : P (s.judgeAll fuel) := by
  induction fuel generalizing s with
  | zero => exact h
  | succ n ih =>
    unfold State.judgeAll
    dsimp only
    split
    · exact hP.judgePass h
    · exact ih (hP.judgePass h)

/-- The end of a step time keeps the property. -/
theorem State.Kept.settle (h : P s) : P s.settle := by
  have hall := hP.judgeAll h 16
  unfold State.settle
  generalize s.judgeAll 16 = t at hall ⊢
  have hcommit : P t.commitAll := State.keeps_ite hall (State.keeps_ite (hP.commitPosted hall) (hP.beside hall))
  generalize t.commitAll = u at hcommit ⊢
  have hseen : P u.statusFollow := State.keeps_ite hcommit (hP.beside hcommit)
  generalize u.statusFollow = v at hseen ⊢
  exact hP.beside hseen

end
end
end Sys2Proof.Machine
end

section
/-! PROOFS. The end of a step time enters WATCH only by way of the weir (R43, R266, R268). -/
namespace Sys2Proof.Machine

/-! ### The end of a step time enters WATCH only by way of the weir (R43, R266, R268) -/

section
variable {s t s₀ : State}

/-- Without a pack the state is not WATCH. -/
def State.NoWatch (s : State) : Prop := s.sup.pack = false → s.power ≠ .watch

theorem State.NoWatch.of (h : s.NoWatch) (hp : t.power = s.power) (hs : t.sup.pack = s.sup.pack) : t.NoWatch := fun hpack hw => h (hs.symm.trans hpack) (hp.symm.trans hw)

theorem State.NoWatch.to {p : Power} (h : s.power = p) (hp : p ≠ .watch) : s.NoWatch := fun _ hw => hp (h.symm.trans hw)

theorem State.ControlOf.shedOff (h : s.ControlOf s₀) : s.shedOff.ControlOf s₀ :=
  h.each fun _ n ht => (ht.domOff (n := n)).pDom

theorem State.ControlOf.drvWeirChange (h : s.ControlOf s₀) : s.drvWeirChange.ControlOf s₀ := .ite h.p.setDom h

theorem State.ControlOf.weirStart (h : s.ControlOf s₀) : s.weirStart.ControlOf s₀ := by
  have hon := fun c => ((h.setLine (f := fun l => { l with weirBlocked := false })).p (f := F.WEIR_STAT_COND) (v := 1)).p (f := F.WEIR_STAT_TKLIM) (v := c)
  have hcnt := fun c b => (hon c).when (c := b) (f := (·.inc A.WEIR_CNTTK)) fun _ ht => ht.inc
  unfold State.weirStart
  extract_lets auto line0 on cnt
  have h1 : cnt.ControlOf s₀ := hcnt _ _
  exact State.ControlOf.drvWeirChange (.ite (h1.p (f := F.WEIR_STAT_ASSIST)) (.ite h1.setLine.shedOff.trig h1))

theorem State.noWatch_free : State.Free State.NoWatch where
  wr _ h := h
  sticky h := h
  beside h := h
  stroke h := h
  weir h := h
  line h := h
  log hl h := h.of (by rw [hl.form]) (by rw [hl.form])
  fast h := h

/-- R266: without a pack the weir is forced off, and no takeover comes that could end a stroke. -/
theorem State.NoWatch.weirFollow (h : s.NoWatch) : s.weirFollow.NoWatch := by
  unfold State.weirFollow
  split
  case h_1 => exact h
  case h_2 hm =>
    split
    · exact h
    · intro hp
      have hpack : s.sup.pack = false := (congrArg Supply.pack (State.ControlOf.refl s).weirStart.sup).symm.trans hp
      have hoff : s.weirMode = .forcedOff := by
        unfold State.weirMode State.weirOffCause
        rw [hpack]
        rfl
      exact absurd (hoff.symm.trans hm) (by decide)
  case h_3 => exact State.keeps_when (State.noWatch_free.line h) fun _ ht => State.noWatch_free.handBack ht

theorem State.NoWatch.finishEntry (h : s.NoWatch) : s.finishEntry.NoWatch := by
  refine State.keeps_ite ?_ h
  by_cases hl : s.flt.incident.isSome = true ∨ s.ctl.latched.isSome = true
  · exact .to (State.leavePowerDown_latched _ hl) (by decide)
  · obtain ⟨hi, hl⟩ := not_or.mp hl
    rw [State.leavePowerDown_clear _ (Option.not_isSome_iff_eq_none.mp hi) (Option.not_isSome_iff_eq_none.mp hl)]
    refine .to s.enterTarget_frame.1 ?_
    split <;> decide

theorem State.NoWatch.react (h : s.NoWatch) {l : List Taken} : (s.react l).NoWatch := by
  have hbegin : ∀ x : Taken, (s.beginIncident x).NoWatch := fun x => by
    unfold State.beginIncident
    split <;> exact h
  have hfault : ∀ (u : State) i now, (u.enterFault i now).NoWatch := fun u i now => .to (u.enterFault_power i now) (by decide)
  unfold State.react
  split
  · exact h
  · dsimp only
    split
    case h_1 | h_2 | h_3 | h_4 => exact State.keeps_ite (hfault _ _ _) (hbegin _)
    case h_5 | h_6 => exact hfault _ _ _
    all_goals exact h

/-- Without a pack no step time's end enters WATCH. -/
theorem State.noWatch_kept : State.Kept State.NoWatch :=
  { State.noWatch_free with weirFollow := State.NoWatch.weirFollow, react := fun h => h.react, finishEntry := State.NoWatch.finishEntry }

end
end Sys2Proof.Machine
end

section
/-! PROOFS. A line loss that ends a stroke (R43, R252, R268, R347). -/
namespace Sys2Proof.Machine

/-! ### A line loss that ends a stroke (R43, R252, R268, R347) -/

/-- RUN on a line, fully on, and on the weir, with a stroke at whose end WATCH is to be entered, and DRIVE among the domains that a line loss sheds. The battery has just gone, so that the end of the step time
turns the weir off and cannot itself enter WATCH (`State.NoWatch.settle`). -/
def sheddingLine : State :=
  (((((({ State.reset with
          power := .run
          sup := { State.reset.sup with pack := false }
          stk := { State.reset.stk with heldWatch := true }
          line := { State.reset.line with present := true, qual := true, fullOn := true, inrush := .none } } : State).p F.WEIR_STAT_COND 1).p F.SYS_SHEDMASK_SHED 1).p (F.DOM_STAT_CMDON 1) 1).p F.STK_STAT_RUNNING 1).p F.LIN_CFG1_VINR 3)

/-- A next state without a pack in WATCH. -/
def entersWatch : Result → Bool
  | .next t => decide (t.power = .watch) && !t.sup.pack
  | _ => false

/-- No state of RUN settles to it. -/
theorem entersWatch_settle {e : State} (h : e.power = .run) : entersWatch (.next e.settle) = false := by
  have hw : e.settle.NoWatch := State.noWatch_kept.settle (.to h (by decide))
  cases hp : e.settle.sup.pack with
  | true => simp [entersWatch, hp]
  | false => simp [entersWatch, hw hp]

theorem sheddingLine_stands : sheddingLine.aoOn = true ∧ sheddingLine.line.present = true ∧ sheddingLine.line.qual = true ∧ sheddingLine.sluiceBusy = true ∧ sheddingLine.power = .run := by decide +kernel

/-- The loss sheds DRIVE, which ends the stroke, and the request for WATCH that waited for it is served. -/
theorem sheddingLine_watches : entersWatch (exec (.lineNotPresent 0) sheddingLine) = true ∧ entersWatch (exec .lineShortCircuit sheddingLine) = true := by decide +kernel

/-- Refutes O44: the loss of a line that fed DRIVE together with the weir sheds the domains of SYS_SHEDMASK (R268); with DRIVE among them the stroke ends, and a request for WATCH that waited for its end is served (R347), so that
the power state does not stand. -/
theorem not_lineQualifiesAndIsLost : ¬ Obligations.LineQualifiesAndIsLost := by
  unfold Obligations.LineQualifiesAndIsLost
  rintro ⟨-, -, -, -, -, -, -, -, hlost, -⟩
  obtain ⟨hao, hpresent, hqual, -, hrun⟩ := sheddingLine_stands
  obtain ⟨e, he, -, -, -, -, -, -, -, -, hpower, -⟩ := hlost sheddingLine 0 hao hpresent hqual
  have hwatch := sheddingLine_watches.1
  rw [he, entersWatch_settle (hpower.trans hrun)] at hwatch
  exact absurd hwatch (by decide)

/-- Refutes O45: a short circuit of a sluice that is fully on, with the weir on, loses the line likewise, and the request for WATCH is served. -/
theorem not_sluiceTrips : ¬ Obligations.SluiceTrips := by
  unfold Obligations.SluiceTrips
  rintro ⟨-, htrip, -⟩
  obtain ⟨-, -, -, hbusy, hrun⟩ := sheddingLine_stands
  obtain ⟨e, he, -, -, -, -, -, -, -, -, -, -, hpower, -⟩ := htrip sheddingLine .lineShortCircuit 46 5 (.inl ⟨rfl, rfl, rfl, hbusy⟩)
  have hwatch := sheddingLine_watches.2
  rw [he, entersWatch_settle (hpower.trans hrun)] at hwatch
  exact absurd hwatch (by decide)

end Sys2Proof.Machine
end

section
/-! PROOFS. In FAULT the end of a step time does not touch the snapshot (R649). -/
namespace Sys2Proof.Machine

/-! ### In FAULT the end of a step time does not touch the snapshot (R649) -/

section
variable {s t : State}

/-- FAULT, with the lowest bit of the snapshot's first word set. -/
structure State.Marked (s : State) : Prop where
  power : s.power = .fault
  mark : s.bit (A.FLT_SNAP 0) 0 = true

theorem State.Marked.wr (h : s.Marked) {a : Nat} {w : Word} (ha : A.FLT_SNAP 0 ≠ a := by decide) : (s.wr a w).Marked := ⟨h.power, (State.bit_congr (s.rd_wr_ne w ha) 0).trans h.mark⟩

/-- A raise of any source, of which the spec knows 128, sets a bit and clears none. -/
theorem State.Marked.setSticky (h : s.Marked) {n : Nat} : (s.setSticky n).Marked := by
  have hn : n % 16 < 16 := Nat.mod_lt _ (by decide)
  refine ⟨h.power, ?_⟩
  by_cases he : A.FLT_STK (n / 16) = A.FLT_SNAP 0 ∧ n % 16 = 0
  · unfold State.setSticky
    rw [he.1, he.2]
    exact s.bit_pbit_same _ true (by decide)
  · refine (s.bit_pbit_ne true hn ?_).trans h.mark
    rcases not_and_or.mp he with h | h
    · exact .inl fun e => h e.symm
    · exact .inr fun e => h e.symm

theorem State.marked_free : State.Free State.Marked where
  wr ha h := h.wr fun he => ha (he ▸ by decide)
  sticky h := h.setSticky
  beside h := ⟨h.power, h.mark⟩
  stroke h := h.wr
  weir h := h.wr
  line h := ⟨h.power, h.mark⟩
  log hl h := ⟨(show _ from by rw [hl.form]; exact h.power), (State.bit_congr (hl.rd _ (by decide)) 0).trans h.mark⟩
  fast h := ⟨h.power, h.mark⟩

/-- R266: in FAULT the weir is forced off. -/
theorem State.Marked.weirFollow (h : s.Marked) : s.weirFollow.Marked := by
  have hcause : s.weirOffCause ≠ 0 := by
    unfold State.weirOffCause State.running
    rw [h.power]
    cases s.sup.pack <;> simp
  have hoff : s.weirMode = .forcedOff := if_pos hcause
  unfold State.weirFollow
  rw [hoff]
  exact State.marked_free.line (s := s.weirOff) (h.wr.wr (a := A.WEIR_STAT))

theorem State.marked_kept : State.Kept State.Marked :=
  { State.marked_free with
    weirFollow := State.Marked.weirFollow
    react := fun {s l} h => by
      unfold State.react
      rw [h.power]
      split <;> exact h
    finishEntry := fun {s} h => by
      unfold State.finishEntry
      rw [h.power]
      simpa using h }

end
end Sys2Proof.Machine
end

section
/-! PROOFS. BOOT's end with a raise beyond the 128 sources (R43, R649). -/
namespace Sys2Proof.Machine

/-! ### BOOT's end with a raise beyond the 128 sources (R649) -/

/-- BOOT before the first-fail log is read, with a raise held whose source no register is meant for: its sticky bit falls on the snapshot's first word, its enable bit and its class on words that are set here; another sticky bit is set. -/
def bootWithBeyond : State :=
  ((({ State.reset with
       nvm := { State.reset.nvm with bootStep := 2 }
       flt := { State.reset.flt with held := [⟨512, .detector, 1⟩], raised := [] } } : State).pbit (A.FLT_EN 32) 0 true).p ⟨A.FLT_CLS 64, 0, 2⟩ 3).pbit (A.FLT_STK 1) 0 true

/-- The premises of the last clause. -/
theorem bootWithBeyond_holds : bootWithBeyond.power = .boot ∧ bootWithBeyond.ctl.resetting = none ∧ bootWithBeyond.nvm.bootStep = 2 ∧ bootWithBeyond.srcEn 512 = true ∧ 2 ≤ bootWithBeyond.appliedClass ⟨512, .detector, 1⟩ := by
  decide +kernel

/-- The sticky bit of source 512 in a next state. -/
def showsBeyond : Result → Bool
  | .next t => t.sticky 512
  | _ => true

/-- The entry to FAULT snapshots the sticky words, and writes over that bit. -/
theorem bootWithBeyond_overwritten : showsBeyond (exec (.fflogReadDone []) bootWithBeyond) = false := by decide +kernel

/-- Refutes O9: its last clause says of a raise of any source that its sticky bit stands in FAULT. That of source 512, of which the spec knows nothing, lies in the snapshot's first word (R649), which the entry to FAULT writes after it. -/
theorem not_bootReads : ¬ Obligations.BootReads := by
  unfold Obligations.BootReads
  rintro ⟨-, -, -, -, -, -, hheld⟩
  obtain ⟨hboot, hreset, hstep, hen, hcls⟩ := bootWithBeyond_holds
  obtain ⟨e, he, hpower, hsticky⟩ := hheld bootWithBeyond [] ⟨512, .detector, 1⟩ hboot hreset hstep rfl rfl hen hcls
  have hmark : e.Marked := ⟨hpower, hsticky⟩
  have hshown : showsBeyond (.next e.settle) = true := (State.marked_kept.settle hmark).mark
  rw [← he, bootWithBeyond_overwritten] at hshown
  exact absurd hshown (by decide)

end Sys2Proof.Machine
end

section
/-! PROOFS. A register file in which one word is another. -/
namespace Sys2Proof.Machine

/-! ### A register file in which one word is another -/

section
variable {a b : Nat} {v w x : Word} {m : RegFile}

/-- The register file with another word in the first place that lists `a`. -/
def RegFile.amend (a : Nat) (v : Word) : RegFile → RegFile
  | [] => []
  | (b, w) :: r => if b = a then (b, v) :: r else (b, w) :: RegFile.amend a v r

theorem RegFile.get_amend_ne (h : b ≠ a) : (m.amend a v).get b = m.get b := by
  induction m with
  | nil => rfl
  | cons e r ih =>
    obtain ⟨c, u⟩ := e
    unfold RegFile.amend
    split
    next hc => simp [RegFile.get, hc, h]
    next => simp [RegFile.get, ih]

theorem RegFile.erase_amend (h : b ≠ a) : (m.amend a v).erase b = (m.erase b).amend a v := by
  induction m with
  | nil => rfl
  | cons e r ih =>
    obtain ⟨c, u⟩ := e
    by_cases hc : c = a
    · subst hc
      simp [RegFile.erase, RegFile.amend, h.symm]
    · have ih' : List.filter (fun e => e.1 != b) (RegFile.amend a v r) = RegFile.amend a v (List.filter (fun e => e.1 != b) r) := ih
      by_cases hcb : c = b
      · simp [RegFile.erase, RegFile.amend, hcb, ih', h]
      · simp [RegFile.erase, RegFile.amend, hc, hcb, ih']

theorem RegFile.insert_amend_ne (h : b ≠ a) : (m.amend a v).insert b x = (m.insert b x).amend a v := by
  induction m with
  | nil => simp [RegFile.insert, RegFile.amend, h]
  | cons e r ih =>
    obtain ⟨c, u⟩ := e
    by_cases hc : c = a
    · subst hc
      by_cases hlt : b < c
      · simp [RegFile.insert, RegFile.amend, h, hlt]
      · simp [RegFile.insert, RegFile.amend, h, hlt]
    · by_cases hbc : b = c
      · simp [RegFile.insert, RegFile.amend, hc, hbc]
      · by_cases hlt : b < c
        · simp [RegFile.insert, RegFile.amend, hc, hbc, hlt, h]
        · simp [RegFile.insert, RegFile.amend, hc, hbc, hlt, ih]

theorem RegFile.set_amend_ne (h : b ≠ a) : (m.amend a v).set b x = (m.set b x).amend a v := by
  unfold RegFile.set
  split
  · exact RegFile.erase_amend h
  · exact RegFile.insert_amend_ne h

/-- The word `w` stands at `a`, before every greater address. -/
def RegFile.Lists (m : RegFile) (a : Nat) (w : Word) : Prop := ∃ p q, m = p ++ (a, w) :: q ∧ ∀ e ∈ p, e.1 < a

theorem RegFile.lists_insert (m : RegFile) (a : Nat) (w : Word) : (m.insert a w).Lists a w := by
  induction m with
  | nil => exact ⟨[], [], rfl, fun _ h => nomatch h⟩
  | cons e r ih =>
    obtain ⟨c, u⟩ := e
    unfold RegFile.insert
    split
    · exact ⟨[], r, rfl, fun _ h => nomatch h⟩
    · split
      · exact ⟨[], _, rfl, fun _ h => nomatch h⟩
      · obtain ⟨p, q, hm, hp⟩ := ih
        refine ⟨(c, u) :: p, q, by rw [hm]; rfl, fun e he => ?_⟩
        rcases List.mem_cons.mp he with rfl | he
        · show c < a
          omega
        · exact hp e he

theorem RegFile.Lists.set_ne (h : m.Lists a w) (hb : b ≠ a) : (m.set b x).Lists a w := by
  obtain ⟨p, q, rfl, hp⟩ := h
  unfold RegFile.set
  split
  · exact ⟨p.filter (fun e => e.1 != b), q.filter (fun e => e.1 != b), by simp [RegFile.erase, hb.symm], fun e he => hp e (List.mem_filter.mp he).1⟩
  · induction p with
    | nil =>
      by_cases hlt : b < a
      · exact ⟨[(b, x)], q, by simp [RegFile.insert, hb, hlt], by simpa using hlt⟩
      · exact ⟨[], RegFile.insert q b x, by simp [RegFile.insert, hb, hlt], fun _ h => nomatch h⟩
    | cons e p ih =>
      obtain ⟨c, u⟩ := e
      have hc : c < a := hp (c, u) List.mem_cons_self
      have hp' : ∀ e ∈ p, e.1 < a := fun e he => hp e (List.mem_cons_of_mem _ he)
      by_cases hbc : b = c
      · refine ⟨(b, x) :: p, q, by simp [RegFile.insert, hbc], fun e he => ?_⟩
        rcases List.mem_cons.mp he with rfl | he
        · exact hbc ▸ hc
        · exact hp' e he
      · by_cases hlt : b < c
        · refine ⟨(b, x) :: (c, u) :: p, q, by simp [RegFile.insert, hbc, hlt], fun e he => ?_⟩
          rcases List.mem_cons.mp he with rfl | he
          · exact hlt.trans hc
          · exact hp e he
        · obtain ⟨p', q', hm, hp''⟩ := ih hp'
          refine ⟨(c, u) :: p', q', by simp [RegFile.insert, hbc, hlt, hm], fun e he => ?_⟩
          rcases List.mem_cons.mp he with rfl | he
          · exact hc
          · exact hp'' e he

theorem RegFile.Lists.get (h : m.Lists a w) : m.get a = w := by
  obtain ⟨p, q, rfl, hp⟩ := h
  induction p with
  | nil => simp [RegFile.get]
  | cons e p ih =>
    have hne : a ≠ e.1 := Nat.ne_of_gt (hp e List.mem_cons_self)
    simp [RegFile.get, hne, ih fun e he => hp e (List.mem_cons_of_mem _ he)]

theorem RegFile.Lists.amend (h : m.Lists a w) : (m.amend a v).Lists a v := by
  obtain ⟨p, q, rfl, hp⟩ := h
  refine ⟨p, q, ?_, hp⟩
  induction p with
  | nil => simp [RegFile.amend]
  | cons e p ih =>
    have hne : e.1 ≠ a := Nat.ne_of_lt (hp e List.mem_cons_self)
    simp [RegFile.amend, hne, ih fun e he => hp e (List.mem_cons_of_mem _ he)]

/-- What is written at that place is what stands there. -/
theorem RegFile.Lists.set_amend (h : m.Lists a w) (hv : v ≠ resetWord a) : (m.amend a x).set a v = m.amend a v := by
  obtain ⟨p, q, rfl, hp⟩ := h
  unfold RegFile.set
  rw [if_neg hv]
  induction p with
  | nil => simp [RegFile.amend, RegFile.insert]
  | cons e p ih =>
    obtain ⟨c, u⟩ := e
    have hlt : c < a := hp (c, u) List.mem_cons_self
    simp [RegFile.amend, RegFile.insert, hlt.ne, hlt.ne', hlt.not_gt, ih fun e he => hp e (List.mem_cons_of_mem _ he)]

theorem RegFile.Lists.amend_same (h : m.Lists a w) : m.amend a w = m := by
  obtain ⟨p, q, rfl, hp⟩ := h
  induction p with
  | nil => simp [RegFile.amend]
  | cons e p ih =>
    have hne : e.1 ≠ a := Nat.ne_of_lt (hp e List.mem_cons_self)
    simp [RegFile.amend, hne, ih fun e he => hp e (List.mem_cons_of_mem _ he)]

end
end Sys2Proof.Machine
end

section
/-! PROOFS. A state whose hand-back is still to come: what a raise and the reserve make of it (R269). -/
namespace Sys2Proof.Machine

/-! ### A state whose hand-back is still to come (R269) -/

section
variable {s : State} {w x : Word} {a : Nat}

/-- The state with `w` as the weir's word and a hand-back that waits. -/
def State.heldBack (s : State) (w : Word) : State := { s with regs := s.regs.amend A.WEIR_STAT w, line := { s.line with hbWait := true } }

theorem State.rd_heldBack (h : a ≠ A.WEIR_STAT := by decide) : (s.heldBack w).rd a = s.rd a := RegFile.get_amend_ne h

theorem State.rn_heldBack (h : a ≠ A.WEIR_STAT := by decide) : (s.heldBack w).rn a = s.rn a := congrArg BitVec.toNat (State.rd_heldBack h)

theorem State.ri_heldBack (h : a ≠ A.WEIR_STAT := by decide) : (s.heldBack w).ri a = s.ri a := congrArg BitVec.toInt (State.rd_heldBack h)

theorem State.g_heldBack {f : Fld} (h : f.addr ≠ A.WEIR_STAT := by decide) : (s.heldBack w).g f = s.g f := congrArg f.get (State.rd_heldBack h)

theorem State.b_heldBack {f : Fld} (h : f.addr ≠ A.WEIR_STAT := by decide) : (s.heldBack w).b f = s.b f := congrArg (· != 0) (State.g_heldBack h)

theorem State.wr_heldBack (h : a ≠ A.WEIR_STAT := by decide) : (s.heldBack w).wr a x = (s.wr a x).heldBack w := by
  unfold State.wr State.heldBack
  rw [RegFile.set_amend_ne h]

theorem State.p_heldBack {f : Fld} {v : Nat} (h : f.addr ≠ A.WEIR_STAT := by decide) : (s.heldBack w).p f v = (s.p f v).heldBack w := by
  unfold State.p
  rw [State.rd_heldBack h, State.wr_heldBack h]

theorem State.inc_heldBack (h : a ≠ A.WEIR_STAT := by decide) : (s.heldBack w).inc a = (s.inc a).heldBack w := by
  unfold State.inc State.wn
  rw [State.rn_heldBack h, State.wr_heldBack h]
  split <;> rfl

theorem State.ite_heldBack {c : Prop} [Decidable c] {s t : State} : (if c then s.heldBack w else t.heldBack w) = (if c then s else t).heldBack w := (apply_ite (State.heldBack · w) c s t).symm

theorem State.when_heldBack {c : Bool} {f : State → State} (h : (f (s.heldBack w)) = (f s).heldBack w) : (s.heldBack w).when c f = (s.when c f).heldBack w := by
  unfold State.when
  rw [h]
  exact State.ite_heldBack

end

/-! ### What a raise brings does not look at the weir -/

section
variable {s : State} {w : Word}

theorem ne_weirStat_of_lt {a : Nat} (h : a < A.WEIR_STAT) : a ≠ A.WEIR_STAT := h.ne

theorem ne_weirStat_of_gt {a : Nat} (h : A.WEIR_STAT < a) : a ≠ A.WEIR_STAT := h.ne'

theorem State.bit_heldBack {a k : Nat} (h : a ≠ A.WEIR_STAT) : (s.heldBack w).bit a k = s.bit a k := State.bit_congr (State.rd_heldBack h) k

theorem State.srcEn_heldBack {n : Nat} : (s.heldBack w).srcEn n = s.srcEn n := State.bit_heldBack (ne_weirStat_of_gt (show 0x0561 < 0x0C08 + n / 16 by omega))

theorem State.srcCls_heldBack {n : Nat} : (s.heldBack w).srcCls n = s.srcCls n := State.g_heldBack (ne_weirStat_of_gt (show 0x0561 < 0x0C20 + n / 8 by omega))

theorem State.sticky_heldBack {n : Nat} : (s.heldBack w).sticky n = s.sticky n := State.bit_heldBack (ne_weirStat_of_gt (show 0x0561 < 0x0C10 + n / 16 by omega))

theorem State.setSticky_heldBack {n : Nat} : (s.heldBack w).setSticky n = (s.setSticky n).heldBack w := State.p_heldBack (ne_weirStat_of_gt (show 0x0561 < 0x0C10 + n / 16 by omega))

theorem State.appliedClass_heldBack {r : Raise} : (s.heldBack w).appliedClass r = s.appliedClass r := by
  unfold State.appliedClass
  rw [State.srcCls_heldBack, State.b_heldBack]
  rfl

theorem domains_stat_ne : ∀ n ∈ domains, (F.DOM_STAT_PG n).addr ≠ A.WEIR_STAT := by decide

theorem State.pgSum_heldBack : (s.heldBack w).pgSum = s.pgSum := by
  have hpg : ∀ n ∈ domains, (s.heldBack w).pg n = s.pg n := fun n hn => State.b_heldBack (domains_stat_ne n hn)
  exact List.foldl_ext _ _ _ fun acc n hn => by rw [hpg n hn]

theorem State.incidentOf_heldBack {n c k : Nat} : (s.heldBack w).incidentOf n c k = s.incidentOf n c k := by
  unfold State.incidentOf
  rw [State.g_heldBack, State.ri_heldBack, State.pgSum_heldBack]

theorem State.queueRecord_heldBack {k : FailKind} {i : Incident} : (s.heldBack w).queueRecord k i = (s.queueRecord k i).heldBack w := by
  have hfull : (s.heldBack w).ffFull = s.ffFull := congrArg (fun k : Nat => decide (k = 2) && decide (s.ffSeq s.ffNext.1 ≠ 0xFFFF)) (State.g_heldBack (s := s) (w := w) (f := F.SYS_NVMCFG_KIND))
  unfold State.queueRecord
  rw [hfull]
  split <;> rfl

theorem State.countNoStart_heldBack {r : Raise} : (s.heldBack w).countNoStart r = (s.countNoStart r).heldBack w := by
  unfold State.countNoStart State.when
  split
  next hr =>
    have hlt : r.source < 10 := of_decide_eq_true (Bool.and_eq_true_iff.mp hr).1
    exact State.inc_heldBack (ne_weirStat_of_lt (show 0x0200 + (r.source + 1 - 1) * 0x20 + 2 + 2 < 0x0561 by omega))
  next => rfl

theorem State.markRaise_heldBack {r : Raise} : (s.heldBack w).markRaise r = (s.markRaise r).heldBack w := by
  unfold State.markRaise
  rw [State.setSticky_heldBack, State.inc_heldBack (ne_weirStat_of_gt (show 0x0561 < 0x0C80 + r.source by omega))]

theorem State.markDry_heldBack {r : Raise} {conf : Nat} : (s.heldBack w).markDry r conf = (s.markDry r conf).heldBack w := by
  unfold State.markDry
  rw [State.b_heldBack]
  exact State.when_heldBack State.p_heldBack

theorem State.reportRaise_heldBack {r : Raise} {c conf : Nat} {old : Bool} : (s.heldBack w).reportRaise r c conf old = (s.reportRaise r c conf old).heldBack w := by
  have hcnt : (s.heldBack w).rn (A.FLT_CNT r.source) = s.rn (A.FLT_CNT r.source) := State.rn_heldBack (ne_weirStat_of_gt (show 0x0561 < 0x0C80 + r.source by omega))
  have hband : (s.heldBack w).g F.THM_STAT_BAND = s.g F.THM_STAT_BAND := State.g_heldBack
  unfold State.reportRaise
  split
  · exact congrArg₂ (fun k b => State.heldBack (({ s with hif := { s.hif with attn := true } } : State).post (.fault c conf r.origin r.state r.source k b)) w) hcnt hband
  · rfl

theorem State.recordNoStart_heldBack {r : Raise} {c conf : Nat} : (s.heldBack w).recordNoStart r c conf = (s.recordNoStart r c conf).heldBack w := by
  unfold State.recordNoStart
  rw [State.incidentOf_heldBack, State.queueRecord_heldBack]
  exact State.ite_heldBack

theorem State.takeRaise_heldBack {l : List Taken} {r : Raise} : State.takeRaise (s.heldBack w, l) r = ((State.takeRaise (s, l) r).1.heldBack w, (State.takeRaise (s, l) r).2) := by
  have hen : ((s.heldBack w).countNoStart r).srcEn r.source = (s.countNoStart r).srcEn r.source := by rw [State.countNoStart_heldBack, State.srcEn_heldBack]
  cases h : (s.countNoStart r).srcEn r.source with
  | true =>
    refine Prod.ext ?_ ?_
    · rw [State.takeRaise_enabled l (hen.trans h), State.takeRaise_enabled l h, State.countNoStart_heldBack, State.markRaise_heldBack, State.srcCls_heldBack, State.markDry_heldBack,
        State.appliedClass_heldBack, State.sticky_heldBack, State.reportRaise_heldBack, State.recordNoStart_heldBack]
    · rw [State.takeRaise_taken l (hen.trans h), State.takeRaise_taken l h, State.countNoStart_heldBack, State.appliedClass_heldBack]
  | false =>
    unfold State.takeRaise
    dsimp only
    rw [if_neg (by rw [hen, h]; decide), if_neg (by rw [h]; decide), State.countNoStart_heldBack]

theorem State.takeRaises_heldBack {l : List Taken} (rs : List Raise) : rs.foldl State.takeRaise (s.heldBack w, l) = ((rs.foldl State.takeRaise (s, l)).1.heldBack w, (rs.foldl State.takeRaise (s, l)).2) := by
  induction rs generalizing s l with
  | nil => rfl
  | cons r rs ih =>
    rw [List.foldl_cons, State.takeRaise_heldBack, ih]
    rfl

theorem State.collect_heldBack : (s.heldBack w).collect = (s.collect.1.heldBack w, s.collect.2) := by
  unfold State.collect
  split
  next h => rw [if_pos (show s.flt.raised.isEmpty = true from h)]
  next h =>
    rw [if_neg (show ¬ s.flt.raised.isEmpty = true from h)]
    split
    next ha => rw [if_pos (show (!s.aoOn) = true from ha)]; rfl
    next ha =>
      rw [if_neg (show ¬ (!s.aoOn) = true from ha)]
      split
      next hp => rw [if_pos (show s.power = .boot from hp)]; rfl
      next hp =>
        rw [if_neg (show ¬ s.power = .boot from hp)]
        exact State.takeRaises_heldBack (s := s.setFlt fun f => { f with raised := [] }) s.flt.raised

end
/-! ### The reserve does not look at the weir -/

section
variable {s : State} {w : Word}

theorem State.modelWord_heldBack {k : Nat} : (s.heldBack w).modelWord k = s.modelWord k := State.rn_heldBack (ne_weirStat_of_gt (show 0x0561 < 0x0740 + k / 2 by omega))

theorem State.modelByte_heldBack {k : Nat} : (s.heldBack w).modelByte k = s.modelByte k := by
  unfold State.modelByte
  rw [State.rn_heldBack (ne_weirStat_of_gt (show 0x0561 < 0x0740 + k / 2 by omega))]

theorem State.onDefaults_heldBack : (s.heldBack w).onDefaults = s.onDefaults := by
  unfold State.onDefaults
  rw [State.b_heldBack, State.g_heldBack]
  rfl

theorem State.refKnown_heldBack {d : Nat} : (s.heldBack w).refKnown d = s.refKnown d := by
  unfold State.refKnown State.learned
  rw [State.onDefaults_heldBack, State.g_heldBack, State.rn_heldBack (ne_weirStat_of_gt (show 0x0561 < 0x058B + d by omega))]

theorem State.refs_heldBack {d : Nat} : (s.heldBack w).refs d = s.refs d := by
  have hi : ∀ i, (s.heldBack w).ref d i = s.ref d i := fun i => State.ri_heldBack (ne_weirStat_of_gt (by
    split
    · exact show 0x0561 < 0xC200 + i by omega
    · exact show 0x0561 < 0xC300 + i by omega))
  exact List.map_congr_left fun i _ => hi i

theorem State.refCharge_heldBack {d : Nat} : (s.heldBack w).refCharge d = s.refCharge d := by
  unfold State.refCharge State.ptimeMs
  rw [State.refs_heldBack, State.g_heldBack]

theorem State.iem_heldBack : (s.heldBack w).iem = s.iem := by
  unfold State.iem
  simp only [State.modelWord_heldBack, State.refKnown_heldBack, State.refs_heldBack]
  rfl

theorem State.qem_heldBack : (s.heldBack w).qem = s.qem := by
  have hk : (s.heldBack w).refKnown = s.refKnown := funext fun _ => State.refKnown_heldBack
  have hc : (s.heldBack w).refCharge = s.refCharge := funext fun _ => State.refCharge_heldBack
  unfold State.qem
  rw [hk, hc, State.modelWord_heldBack, State.modelByte_heldBack]
  rfl

theorem State.authOk_heldBack : (s.heldBack w).authOk = s.authOk := by
  unfold State.authOk
  rw [State.g_heldBack, State.b_heldBack]

theorem State.frozen_heldBack : (s.heldBack w).frozen = s.frozen := State.b_heldBack

theorem State.reserveAvailable_heldBack : (s.heldBack w).reserveAvailable = s.reserveAvailable := by
  unfold State.reserveAvailable
  rw [State.frozen_heldBack, State.authOk_heldBack]
  rfl

theorem State.fcc_heldBack : (s.heldBack w).fcc = s.fcc := by
  unfold State.fcc
  rw [State.onDefaults_heldBack, State.modelWord_heldBack, State.rn_heldBack]

theorem State.socCc_heldBack : (s.heldBack w).socCc = s.socCc := by
  unfold State.socCc
  rw [State.fcc_heldBack]
  rfl

theorem State.bandByte_heldBack {i : Nat} : (s.heldBack w).bandByte i = s.bandByte i := by
  unfold State.bandByte
  rw [State.g_heldBack, State.rn_heldBack (ne_weirStat_of_gt (show 0x0561 < 0x0A40 + (16 * s.g F.THM_STAT_BAND + i / 2) by omega))]

theorem State.column_heldBack : (s.heldBack w).column = s.column := by
  unfold State.column
  rw [State.b_heldBack, State.ri_heldBack, State.bandByte_heldBack]
  rfl

theorem State.zEntry_heldBack {c p k : Nat} : (s.heldBack w).zEntry c p k = s.zEntry c p k := by
  unfold State.zEntry
  dsimp only
  rw [State.rn_heldBack (ne_weirStat_of_gt (show 0x0561 < 0xC000 + (48 * c + 4 * p + k) / 2 by omega))]

theorem State.zCode_heldBack {c p k : Nat} : (s.heldBack w).zCode c p k = s.zCode c p k := by
  unfold State.zCode State.zDefault
  rw [State.zEntry_heldBack, State.onDefaults_heldBack, State.modelByte_heldBack, State.modelByte_heldBack]

theorem State.zMohm_heldBack {c : Nat} : (s.heldBack w).zMohm c = s.zMohm c := by
  unfold State.zMohm State.zlsb4
  rw [State.modelByte_heldBack]

theorem State.ocvAt_heldBack {x : Rat} : (s.heldBack w).ocvAt x = s.ocvAt x := by
  unfold State.ocvAt State.ocvPt
  simp only [State.modelWord_heldBack]

theorem State.strokePossible_heldBack {x : Rat} {k : Nat} : (s.heldBack w).strokePossible x k = s.strokePossible x k := by
  have hq : (s.heldBack w).rn A.GAU_QEM = s.rn A.GAU_QEM := State.rn_heldBack
  have hi : (s.heldBack w).rn A.GAU_IEM = s.rn A.GAU_IEM := State.rn_heldBack
  have hc : (s.heldBack w).cells = s.cells := congrArg (· + 1) State.g_heldBack
  unfold State.strokePossible
  simp only [State.fcc_heldBack, State.column_heldBack, State.zCode_heldBack, State.zMohm_heldBack, State.ocvAt_heldBack, State.modelWord_heldBack, hq, hi, hc]

theorem State.countStrokes_heldBack {x : Rat} {n fuel : Nat} : (s.heldBack w).countStrokes x n fuel = s.countStrokes x n fuel := by
  induction fuel generalizing n with
  | zero => rfl
  | succ f ih =>
    unfold State.countStrokes
    rw [State.strokePossible_heldBack, ih]

theorem State.putR_heldBack {a : Nat} {x : Rat} (h : a ≠ A.WEIR_STAT := by decide) : (s.heldBack w).putR a x = (s.putR a x).heldBack w := by
  unfold State.putR State.roundOpen State.wn
  by_cases hx : x.den = 1
  · rw [if_pos hx, if_pos hx]
    exact State.wr_heldBack h
  · rw [if_neg hx, if_neg hx]
    exact State.wr_heldBack (s := s.choice.2) h

theorem State.judgeReserve_heldBack : (s.heldBack w).judgeReserve = s.judgeReserve.heldBack w := by
  have hok : (s.heldBack w).reserveOk = s.reserveOk := by
    unfold State.reserveOk
    rw [State.g_heldBack, State.g_heldBack]
  have hlow : (s.heldBack w).pb F.GAU_STAT_LOW (!s.reserveOk) = (s.pb F.GAU_STAT_LOW (!s.reserveOk)).heldBack w := State.p_heldBack
  unfold State.judgeReserve
  dsimp only
  rw [hok, hlow, ← State.ite_heldBack]
  refine if_congr Iff.rfl rfl ?_
  exact State.when_heldBack (s := ((s.pb F.GAU_STAT_LOW (!s.reserveOk)).setGau fun g => { g with ok85 := s.reserveOk }).gaugeEvent 4 0 (if s.reserveOk then 2 else 1)) (f := (·.raise 86)) rfl

theorem State.updateReserve_heldBack : (s.heldBack w).updateReserve = s.updateReserve.heldBack w := by
  unfold State.updateReserve
  dsimp only
  rw [State.iem_heldBack, State.putR_heldBack, State.qem_heldBack, State.putR_heldBack, State.reserveAvailable_heldBack, State.countStrokes_heldBack, State.socCc_heldBack, State.modelByte_heldBack,
    State.p_heldBack, State.p_heldBack, State.judgeReserve_heldBack]
  rfl

theorem State.reserveFollow_heldBack : (s.heldBack w).reserveFollow = s.reserveFollow.heldBack w := by
  unfold State.reserveFollow
  rw [← State.ite_heldBack]
  refine if_congr Iff.rfl ?_ rfl
  dsimp only
  rw [State.frozen_heldBack]
  exact State.when_heldBack (s := s.setGau fun g => { g with resDue := false, ran := g.ran || (s.gaugeRuns && s.present && !s.frozen) }) State.updateReserve_heldBack

end
end Sys2Proof.Machine
end

section
/-! PROOFS. What a takeover of the weir speaks of (R264, R269). -/
namespace Sys2Proof.Machine

/-! ### The weir once it has turned on: on, or handed back at the end of a stroke (R269) -/

section
variable {n v : Nat} {w : Word} {s t : State}

/-- The registers that a takeover speaks of. -/
def ofTakeover (a : Nat) : Bool := a = A.WEIR_STAT || a = A.WEIR_CNTTK || a = A.STK_STAT || a = A.STK_CFG

/-- The weir was turned off by the hand-back, in its automatic mode with no stroke running. -/
structure State.HandedBack (s : State) : Prop where
  cond : s.g F.WEIR_STAT_COND = 0
  tklim : s.g F.WEIR_STAT_TKLIM = 0
  hback : s.g F.WEIR_STAT_HBACK = 1
  fullOn : s.line.fullOn = true
  hbWait : s.line.hbWait = false
  handback : s.line.handback = false
  idle : s.strokeRuns = false

/-- After a takeover of the automatic weir: `n` takeovers counted, VDRV at `v`, and `w` in WEIR_STAT unless the weir has been handed back. -/
structure State.Over (n v : Nat) (w : Word) (s : State) : Prop where
  lists : s.regs.Lists A.WEIR_STAT (s.rd A.WEIR_STAT)
  pack : s.sup.pack = true
  running : s.running = true
  held : s.line.weirHeld = false
  batt : s.b F.STK_STAT_BATTPH = false
  emerg : (s.b F.STK_STAT_EMERG && s.b F.STK_CFG_EMWEIR) = false
  count : s.rn A.WEIR_CNTTK = n
  vdrv : s.drv.vdrv = v
  weir : s.rd A.WEIR_STAT = w ∨ s.HandedBack

theorem State.Over.forced (h : s.Over n v w) : s.weirForcedOn = false := by
  unfold State.weirForcedOn
  rw [h.batt, h.emerg]
  rfl

theorem State.Over.auto (h : s.Over n v w) : s.weirMode = .auto := by
  unfold State.weirMode State.weirOffCause
  rw [h.pack, h.running, h.held, h.forced]
  rfl

/-- What leaves the registers, the supplies, the power state, the line and VDRV. -/
theorem State.Over.beside (h : s.Over n v w) (hr : t.regs = s.regs) (hs : t.sup = s.sup) (hp : t.power = s.power) (hl : t.line = s.line) (hv : t.drv.vdrv = s.drv.vdrv) : t.Over n v w := by
  have hrd : ∀ a, t.rd a = s.rd a := fun a => congrArg (·.get a) hr
  have hg : ∀ f : Fld, t.g f = s.g f := fun f => congrArg f.get (hrd _)
  have hb : ∀ f : Fld, t.b f = s.b f := fun f => congrArg (· != 0) (hg f)
  refine ⟨?_, hs ▸ h.pack, ?_, hl ▸ h.held, (hb _).trans h.batt, ?_, (congrArg BitVec.toNat (hrd _)).trans h.count, hv.trans h.vdrv, ?_⟩
  · rw [hr, hrd]
    exact h.lists
  · unfold State.running
    rw [hp]
    exact h.running
  · rw [hb, hb]
    exact h.emerg
  · refine h.weir.imp (hrd _).trans fun b => ⟨(hg _).trans b.cond, (hg _).trans b.tklim, (hg _).trans b.hback, hl ▸ b.fullOn, hl ▸ b.hbWait, hl ▸ b.handback, (hb _).trans b.idle⟩

theorem State.Over.aside (h : s.Over n v w) {pending : List Instr} {pins : PinSample} {ctl : Control} {hif : Hif} {eng : List Engine} {tim : List EngTimer} {dom : List Domain} {mon : Mon} {flt : Flt} {mrq : Mrq} {nvm : Nvm} {lock : Lock}
    {drv : Drive} {stk : Stroke} {chg : Charger} {gau : Gauge} {rtc : Nat} {rtcx : RtcX} {adc : Adc} {thm : Thm} {way : Way} {ticks freeCtr : Nat} (hv : drv.vdrv = s.drv.vdrv := by rfl) :
    ({ pending := pending, pins := pins, regs := s.regs, power := s.power, sup := s.sup, ctl := ctl, hif := hif, eng := eng, tim := tim, dom := dom, mon := mon, flt := flt, mrq := mrq, nvm := nvm, line := s.line,
       lock := lock, drv := drv, stk := stk, chg := chg, gau := gau, rtc := rtc, rtcx := rtcx, adc := adc, thm := thm, way := way, ticks := ticks, freeCtr := freeCtr } : State).Over n v w := h.beside rfl rfl rfl rfl hv

/-- Writes of other registers. -/
theorem State.Over.wr (h : s.Over n v w) {a : Nat} {x : Word} (ha : ofTakeover a = false := by decide) : (s.wr a x).Over n v w := by
  unfold ofTakeover at ha
  simp only [Bool.or_eq_false_iff, decide_eq_false_iff_not] at ha
  obtain ⟨⟨⟨hw, hc⟩, hs⟩, hk⟩ := ha
  have hrw := s.rd_wr_ne x (Ne.symm hw)
  have hrs := s.rd_wr_ne x (Ne.symm hs)
  have hg : ∀ f : Fld, f.addr = A.STK_STAT → (s.wr a x).g f = s.g f := fun f hf => congrArg f.get (by rw [hf]; exact hrs)
  have hb : ∀ f : Fld, f.addr = A.STK_STAT → (s.wr a x).b f = s.b f := fun f hf => congrArg (· != 0) (hg f hf)
  have hgw : ∀ f : Fld, f.addr = A.WEIR_STAT → (s.wr a x).g f = s.g f := fun f hf => congrArg f.get (by rw [hf]; exact hrw)
  have hem : (s.wr a x).b F.STK_CFG_EMWEIR = s.b F.STK_CFG_EMWEIR := congrArg (fun y => F.STK_CFG_EMWEIR.get y != 0) (s.rd_wr_ne x (Ne.symm hk))
  refine ⟨?_, h.pack, h.running, h.held, (hb _ rfl).trans h.batt, ?_, (congrArg BitVec.toNat (s.rd_wr_ne x (Ne.symm hc))).trans h.count, h.vdrv, ?_⟩
  · rw [hrw]
    exact h.lists.set_ne hw
  · rw [hb _ rfl, hem]
    exact h.emerg
  · exact h.weir.imp hrw.trans fun b => ⟨(hgw _ rfl).trans b.cond, (hgw _ rfl).trans b.tklim, (hgw _ rfl).trans b.hback, b.fullOn, b.hbWait, b.handback, (hb _ rfl).trans b.idle⟩

theorem State.Over.p (h : s.Over n v w) {f : Fld} {x : Nat} (ha : ofTakeover f.addr = false := by decide) : (s.p f x).Over n v w := h.wr ha

theorem State.Over.inc (h : s.Over n v w) {a : Nat} (ha : ofTakeover a = false := by decide) : (s.inc a).Over n v w := by
  unfold State.inc State.wn
  split
  · exact h.wr ha
  · exact h

/-- A write of a field of STK_STAT that sets none of the bits that force the weir on or tell of a running stroke: a field beside the bit, or the bit itself to 0. -/
def clearsOnly (f : Fld) (x : Nat) : Bool :=
  [F.STK_STAT_BATTPH, F.STK_STAT_EMERG, F.STK_STAT_RUNNING].all fun g => g.lsb + g.width ≤ f.lsb || f.lsb + f.width ≤ g.lsb || (f = g && x = 0)

theorem State.b_clearsOnly {f g : Fld} {x : Nat} (hf : f.lsb + f.width ≤ 16) (hc : clearsOnly f x = true) (hg : g ∈ [F.STK_STAT_BATTPH, F.STK_STAT_EMERG, F.STK_STAT_RUNNING]) (h : s.b g = false) :
    (s.p f x).b g = false := by
  have hg := List.all_eq_true.mp hc g hg
  simp only [Bool.or_eq_true, Bool.and_eq_true, decide_eq_true_eq] at hg
  rcases hg with hd | ⟨rfl, rfl⟩
  · rw [s.b_p_beside x hf hd, h]
  · unfold State.b
    rw [s.g_p_same f 0 hf, Nat.zero_mod]
    rfl

theorem State.Over.stat (h : s.Over n v w) {f : Fld} {x : Nat} (hf : f.addr = A.STK_STAT := by rfl) (hlt : f.lsb + f.width ≤ 16 := by decide) (hc : clearsOnly f x = true := by decide) :
    (s.p f x).Over n v w := by
  have hrw : (s.p f x).rd A.WEIR_STAT = s.rd A.WEIR_STAT := s.rd_p_ne x (by rw [hf]; decide)
  have hgw : ∀ g : Fld, g.addr = A.WEIR_STAT → (s.p f x).g g = s.g g := fun g hg => congrArg g.get (by rw [hg]; exact hrw)
  have hem : (s.p f x).b F.STK_CFG_EMWEIR = s.b F.STK_CFG_EMWEIR := s.b_p_ne x (by rw [hf]; decide)
  refine ⟨?_, h.pack, h.running, h.held, State.b_clearsOnly hlt hc (by decide) h.batt, ?_, (congrArg BitVec.toNat (s.rd_p_ne x (by rw [hf]; decide))).trans h.count, h.vdrv, ?_⟩
  · rw [hrw]
    exact h.lists.set_ne (by rw [hf]; decide)
  · rw [hem]
    refine Bool.and_eq_false_iff.mpr ((Bool.and_eq_false_iff.mp h.emerg).imp (State.b_clearsOnly hlt hc (by decide)) id)
  · exact h.weir.imp hrw.trans fun b => ⟨(hgw _ rfl).trans b.cond, (hgw _ rfl).trans b.tklim, (hgw _ rfl).trans b.hback, b.fullOn, b.hbWait, b.handback, State.b_clearsOnly hlt hc (by decide) b.idle⟩

/-- A change of the line that leaves what a takeover speaks of. -/
theorem State.Over.line (h : s.Over n v w) {l : Line} (hh : l.weirHeld = s.line.weirHeld) (hf : l.fullOn = s.line.fullOn) (hw : l.hbWait = s.line.hbWait) (hb : l.handback = s.line.handback) :
    ({ s with line := l } : State).Over n v w :=
  ⟨h.lists, h.pack, h.running, hh.trans h.held, h.batt, h.emerg, h.count, h.vdrv, h.weir.imp id fun b => ⟨b.cond, b.tklim, b.hback, hf.trans b.fullOn, hw.trans b.hbWait, hb.trans b.handback, b.idle⟩⟩

theorem State.Over.ite (hs : s.Over n v w) (ht : t.Over n v w) {c : Prop} [Decidable c] : (if c then s else t).Over n v w := State.keeps_ite hs ht

theorem State.Over.when (h : s.Over n v w) {c : Bool} {f : State → State} (hf : ∀ t : State, t.Over n v w → (f t).Over n v w) : (s.when c f).Over n v w := State.keeps_when h hf

theorem State.Over.each (h : s.Over n v w) {α : Type} {l : List α} {f : State → α → State} (hf : ∀ (t : State), ∀ a ∈ l, t.Over n v w → (f t a).Over n v w) : (s.each l f).Over n v w := by
  unfold State.each
  induction l generalizing s with
  | nil => exact h
  | cons a l ih => exact ih (hf s a List.mem_cons_self h) fun t b hb => hf t b (List.mem_cons_of_mem a hb)

end
end Sys2Proof.Machine
end

section
/-! PROOFS. A stroke that a takeover ends, and the domains that it sheds (R268, R269). -/
namespace Sys2Proof.Machine

/-! ### A stroke that a takeover ends, and the domains that it sheds -/

section
variable {n v : Nat} {w : Word} {s t : State}

theorem resetWord_weir : resetWord A.WEIR_STAT = 0 := by decide +kernel

/-- A word that is written with a field set stands where it is written. -/
theorem State.lists_p (s : State) {f : Fld} {x : Nat} (hlt : f.lsb + f.width ≤ 16) (h0 : resetWord f.addr = 0) (hx : x % 2 ^ f.width ≠ 0) :
    (s.p f x).regs.Lists f.addr ((s.p f x).rd f.addr) := by
  have hrd : (s.p f x).rd f.addr = f.put (s.rd f.addr) x := s.rd_wr_same _ _
  have hne : f.put (s.rd f.addr) x ≠ resetWord f.addr := fun he => hx (by
    rw [← Fld.get_put f (s.rd f.addr) x hlt, he, h0]
    show 0 / 2 ^ f.lsb % 2 ^ f.width = 0
    rw [Nat.zero_div, Nat.zero_mod])
  have hset : (s.p f x).regs = s.regs.insert f.addr (f.put (s.rd f.addr) x) := if_neg hne
  rw [hrd, hset]
  exact RegFile.lists_insert _ _ _

/-- The hand-back's three writes. -/
theorem State.weirOff_hback (s : State) :
    (s.weirOff.p F.WEIR_STAT_HBACK 1).g F.WEIR_STAT_COND = 0 ∧ (s.weirOff.p F.WEIR_STAT_HBACK 1).g F.WEIR_STAT_TKLIM = 0 ∧ (s.weirOff.p F.WEIR_STAT_HBACK 1).g F.WEIR_STAT_HBACK = 1 := by
  refine ⟨?_, ?_, State.g_p_same _ _ _ (by decide)⟩
  · rw [State.g_p_beside _ _ (by decide) (by decide)]
    unfold State.weirOff
    rw [State.g_p_beside _ _ (by decide) (by decide), State.g_p_same _ _ _ (by decide), Nat.zero_mod]
  · rw [State.g_p_beside _ _ (by decide) (by decide)]
    exact State.g_p_same _ _ _ (by decide)

theorem State.Over.handBack (h : s.Over n v w) (hi : s.strokeRuns = false) : s.handBack.Over n v w := by
  unfold State.handBack
  rw [h.auto]
  by_cases hf : s.line.fullOn = true
  · have hrd : ∀ {u : State} {a : Nat}, a ≠ A.WEIR_STAT → (u.weirOff.p F.WEIR_STAT_HBACK 1).rd a = u.rd a := fun {u a} ha => by
      unfold State.weirOff
      rw [State.rd_p_ne _ _ ha, State.rd_p_ne _ _ ha, State.rd_p_ne _ _ ha]
    obtain ⟨hc, ht, hb⟩ := State.weirOff_hback (s.setLine fun l => { l with handback := false, hbWait := s.line.fullOn && !decide (WeirMode.auto = .auto) })
    rw [if_pos (by simp [hf])]
    refine ⟨State.lists_p _ (by decide) resetWord_weir (by decide), h.pack, h.running, h.held, ?_, ?_, ?_, h.vdrv, .inr ⟨hc, ht, hb, hf, by simp [State.weirOff, State.p, State.wr, State.setLine], rfl, ?_⟩⟩
    · exact (congrArg (fun y => F.STK_STAT_BATTPH.get y != 0) (hrd (by decide))).trans h.batt
    · exact (congrArg₂ (fun y z => F.STK_STAT_EMERG.get y != 0 && F.STK_CFG_EMWEIR.get z != 0) (hrd (by decide)) (hrd (by decide))).trans h.emerg
    · exact (congrArg BitVec.toNat (hrd (by decide))).trans h.count
    · exact (congrArg (fun y => F.STK_STAT_RUNNING.get y != 0) (hrd (by decide))).trans hi
  · rw [if_neg (by simp [hf])]
    exact ⟨h.lists, h.pack, h.running, h.held, h.batt, h.emerg, h.count, h.vdrv, .inl (h.weir.resolve_right fun b => hf b.fullOn)⟩

theorem State.Over.goWatch (h : s.Over n v w) : s.goWatch.Over n v w :=
  ⟨h.lists, h.pack, rfl, h.held, h.batt, h.emerg, h.count, h.vdrv, h.weir.imp id fun b => ⟨b.cond, b.tklim, b.hback, b.fullOn, b.hbWait, b.handback, b.idle⟩⟩

theorem State.Over.strokeIdle (h : s.Over n v w) : s.strokeIdle.Over n v w := by
  have hrun : ((s.p F.STK_STAT_PREARM 0).p F.STK_STAT_RUNNING 0).Over n v w := (h.stat (f := F.STK_STAT_PREARM)).stat
  have hclear : (((s.p F.STK_STAT_PREARM 0).p F.STK_STAT_RUNNING 0).p F.STK_STAT_PROVING 0).strokeRuns = false :=
    State.b_clearsOnly (by decide) (by decide) (by decide) (by
      unfold State.b
      rw [State.g_p_same _ _ _ (by decide)]
      rfl)
  have hidle := hrun.stat (f := F.STK_STAT_PROVING) (x := 0)
  unfold State.strokeIdle
  extract_lets u k hb k'
  have hk : k.Over n v w := hidle.aside
  have hhb : hb.Over n v w := State.keeps_ite (hk.handBack hclear) hk
  have hk' : k'.Over n v w := hhb.aside
  exact .ite (.ite hk'.goWatch hk') hhb

theorem State.Over.queueReset (h : s.Over n v w) : s.queueReset.Over n v w := by
  have hw := fun c => h.when (c := c) (f := (·.p F.STK_STAT_PKTLOST 1)) fun _ ht => ht.stat
  unfold State.queueReset
  dsimp only
  exact State.Over.aside (((hw _).inc (a := A.MRQ_CNTRST)).p (f := F.MRQ_STAT_RST) (x := 1))

theorem State.Over.checkPtrs (h : s.Over n v w) {c : Nat} : (s.checkPtrs c).Over n v w := .ite h h.queueReset

theorem State.Over.rewindStroke (h : s.Over n v w) : s.rewindStroke.Over n v w := by
  unfold State.rewindStroke
  split
  · exact h
  · dsimp only
    split
    · exact h.checkPtrs
    · exact h.checkPtrs.aside

theorem State.Over.setDom (h : s.Over n v w) {k : Nat} {f : Domain → Domain} : (s.setDom k f).Over n v w := h.aside

theorem State.Over.setDrv (h : s.Over n v w) {f : Drive → Drive} (hf : (f s.drv).vdrv = s.drv.vdrv) : (s.setDrv f).Over n v w := h.aside hf

theorem State.Over.retarget (h : s.Over n v w) {fast : Bool} : (s.retarget fast).Over n v w := by
  have hc := fun x y => (h.p (f := F.DRV_VACT_CODE) (x := x)).p (f := F.DRV_VACT_OVR) (x := y)
  unfold State.retarget
  refine .ite h (.ite (hc _ _) (.ite ?_ (hc _ _).aside))
  have hdom := ((hc s.drvTarget.1 s.drvTarget.2).p (f := F.DOM_STAT_MASKED 1) (x := 1)).setDom (k := 1) (f := fun d => { d with slew := .slewing })
  exact hdom.setDrv rfl

theorem State.Over.endEmergency (h : s.Over n v w) : s.endEmergency.Over n v w := by
  unfold State.endEmergency
  rw [h.forced]
  exact h.stat (f := F.STK_STAT_EMERG)

theorem State.Over.releaseToll (h : s.Over n v w) : s.releaseToll.Over n v w := .ite (h.aside) h

theorem State.Over.cancelStroke (h : s.Over n v w) {aband fast : Bool} : (s.cancelStroke aband fast).Over n v w := by
  have hcapt : ((s.p F.STK_RECSTAT_CAPT 0).pb F.STK_RECSTAT_ABAND aband).burstStop.Over n v w := (h.p.p (f := F.STK_RECSTAT_ABAND) (x := aband.toNat)).aside
  have hboost : (((s.p F.STK_RECSTAT_CAPT 0).pb F.STK_RECSTAT_ABAND aband).burstStop.rewindStroke.setStk fun k => { k with boost := 0 }).Over n v w := hcapt.rewindStroke.aside
  have htoll := (hboost.retarget (fast := fast)).endEmergency.releaseToll
  unfold State.cancelStroke
  dsimp only
  exact State.Over.strokeIdle (htoll.aside)

theorem State.Over.abandonStroke (h : s.Over n v w) : s.abandonStroke.Over n v w := by
  have hph : s.endBattPhase (some 7) = s := if_neg (by rw [h.batt]; decide)
  unfold State.abandonStroke
  rw [hph]
  exact .ite h.cancelStroke h

theorem ofTakeover_dom {m k : Nat} (hm : m ∈ domains) (hk : k < 32) : ofTakeover (domBase m + k) = false := by
  have hlt : domBase m + k < 0x0561 := by
    have hb : ∀ m ∈ domains, domBase m ≤ 0x0520 := by decide
    have := hb m hm
    omega
  unfold ofTakeover
  simp only [Bool.or_eq_false_iff, decide_eq_false_iff_not]
  exact ⟨⟨⟨hlt.ne, (show domBase m + k < 0x0562 by omega).ne⟩, (show domBase m + k < 0x0580 by omega).ne⟩, (show domBase m + k < 0x0582 by omega).ne⟩

theorem State.Over.pDom (h : s.Over n v w) {m k l b x : Nat} (hm : m ∈ domains) (hk : k < 32 := by decide) : (s.p ⟨domBase m + k, l, b⟩ x).Over n v w := h.wr (ofTakeover_dom hm hk)

theorem State.Over.dropRank (h : s.Over n v w) {m : Nat} (hm : m ∈ domains) : (s.dropRank m).Over n v w := by
  unfold State.dropRank
  exact .ite (h.pDom hm) ((h.pDom hm).each fun _ k hk ht => .ite (ht.pDom hk) ht)

theorem State.Over.drvStop (h : s.Over n v w) {disch : Bool} : (s.drvStop disch).Over n v w := by
  have hset : (s.setDom 1 fun d => { d with ss := false, ssEnded := false, wasGood := false, uvRep := false, ovRep := false, slew := .none, fresh := false }).Over n v w := h.aside
  unfold State.drvStop
  dsimp only
  exact State.Over.aside (State.Over.p (f := F.DRV_SYNCSTAT_LOCK) (x := 0) (State.Over.wr (a := A.DRV_DUTY) (((hset.p (f := F.DOM_STAT_MASKED 1)).p (f := F.DRV_STAT_MODE)).p (f := F.DRV_STAT_LIMBY).p (f := F.DRV_STAT_NEG))))

theorem State.Over.lockDemag (h : s.Over n v w) {clamp : Bool} : (s.lockDemag clamp).Over n v w := by
  have hedge : ∀ t : State, t.Over n v w → t.lockEdge.Over n v w := fun t ht => .ite ht (ht.aside)
  unfold State.lockDemag State.lockHalt
  dsimp only
  exact State.Over.when (State.Over.p (f := F.DOM9_LSTAT_PHASE) (h.aside)) hedge

theorem State.Over.regStop (h : s.Over n v w) {m : Nat} (hm : m ∈ domains) {disch : Bool} : (s.regStop m disch).Over n v w := by
  have hset : (s.setDom m fun d => { d with ss := false, ssEnded := false, wasGood := false, uvRep := false, ovRep := false, slew := .none, fresh := false }).Over n v w := h.aside
  unfold State.regStop
  dsimp only
  exact .ite (.ite (hset.pDom hm).lockDemag (hset.pDom hm)) (State.Over.when ((hset.pDom hm).pDom hm) fun _ ht => ht.p)

theorem State.Over.domOff (h : s.Over n v w) {m : Nat} (hm : m ∈ domains) {disch : Bool} : (s.domOff m disch).Over n v w := by
  have hfall : (s.pgFall m).Over n v w := State.Over.aside (h.pDom hm (k := 0x0001) (l := 14) (b := 1) (x := 0))
  have hrank := State.Over.dropRank (hfall.pDom hm (k := 0x0001) (l := 15) (b := 1) (x := 0)) hm
  unfold State.domOff
  refine .ite (State.Over.when (.ite hrank.abandonStroke.drvStop (hrank.regStop hm)) fun t ht => ?_) h
  have hmon : ({ t with mon := ⟨t.mon.blank.land (65535 - 2 ^ (m - 1) % 65536), t.mon.due.land (65535 - 2 ^ (m - 1) % 65536)⟩ } : State).Over n v w := ht.aside
  exact (hmon.wr (a := A.CMP_UNDER)).wr (a := A.CMP_OVER)

theorem State.Over.shedOff (h : s.Over n v w) : s.shedOff.Over n v w := by
  unfold State.shedOff
  refine h.each fun t k hk ht => ?_
  have hd : k ∈ domains := (List.mem_filter.mp (List.mem_filter.mp hk).1).1
  exact (ht.domOff hd).pDom hd

theorem State.Over.drvWeirChange (h : s.Over n v w) : s.drvWeirChange.Over n v w :=
  .ite (State.Over.aside (h.p (f := F.DRV_STAT_MODE))) h

end
end Sys2Proof.Machine
end

section
/-! PROOFS. A hand-back still to come ends the step time as one that has come (R269). -/
namespace Sys2Proof.Machine

/-! ### Two ways to write a field -/

section
variable {f : Fld} {w : Word}

theorem Fld.put_get (hlt : f.lsb + f.width ≤ 16) : f.put w (f.get w) = w := by
  apply BitVec.eq_of_toNat_eq
  have hput := f.put_lt w (f.get w) hlt
  unfold Fld.put
  rw [BitVec.toNat_ofNat, Nat.mod_eq_of_lt hput]
  unfold Fld.get
  rw [Nat.mod_mod, pow_add, ← Nat.div_div_eq_div_mul, Nat.mul_assoc, Nat.add_assoc, ← Nat.mul_add, Nat.mod_add_div, Nat.mod_add_div]

theorem Fld.put_put {x y : Nat} (hlt : f.lsb + f.width ≤ 16) : f.put (f.put w x) y = f.put w y := by
  have hput := f.put_lt w x hlt
  have hA : 0 < 2 ^ f.lsb := by positivity
  have hlow : (f.put w x).toNat % 2 ^ f.lsb = w.toNat % 2 ^ f.lsb := by
    unfold Fld.put
    rw [BitVec.toNat_ofNat, Nat.mod_eq_of_lt hput, pow_add, Nat.add_assoc, Nat.mul_assoc, ← Nat.mul_add, Nat.add_mul_mod_self_left, Nat.mod_mod]
  have hhigh : (f.put w x).toNat / 2 ^ (f.lsb + f.width) = w.toNat / 2 ^ (f.lsb + f.width) := by
    unfold Fld.put
    rw [BitVec.toNat_ofNat, Nat.mod_eq_of_lt hput, Nat.add_mul_div_left _ _ (by positivity), pow_add, ← Nat.div_div_eq_div_mul, Nat.add_mul_div_left _ _ hA, Nat.div_eq_of_lt (Nat.mod_lt _ hA), Nat.zero_add,
      Nat.div_eq_of_lt (Nat.mod_lt _ (by positivity)), Nat.zero_add]
  unfold Fld.put at hlow hhigh ⊢
  rw [hlow, hhigh]

end

/-! ### A hand-back that is still to come ends as one that has come -/

/-- The word of WEIR_STAT with the weir on, and TKLIM as given. -/
def onWord (v : Word) (x : Nat) : Word := F.WEIR_STAT_COND.put (F.WEIR_STAT_TKLIM.put v x) 1

/-- WEIR_STAT as a hand-back leaves it. -/
structure BackWord (v : Word) : Prop where
  cond : F.WEIR_STAT_COND.get v = 0
  tklim : F.WEIR_STAT_TKLIM.get v = 0
  hback : F.WEIR_STAT_HBACK.get v = 1

/-- The weir is in its automatic mode, the sluice fully on, no stroke running, and no hand-back waits; WEIR_STAT stands in its place. -/
structure State.Back (v : Word) (s : State) : Prop where
  lists : s.regs.Lists A.WEIR_STAT v
  auto : s.weirMode = .auto
  fullOn : s.line.fullOn = true
  hbWait : s.line.hbWait = false
  handback : s.line.handback = false
  idle : s.strokeRuns = false

/-- The state with no hand-back to come and no block on the weir. -/
def State.noHandback (s : State) : State := s.setLine fun l => { l with weirBlocked := false, handback := false, hbWait := false }

section
variable {v w : Word} {s t : State} {x : Nat}

theorem State.weirMode_congr (hs : t.sup = s.sup) (hp : t.power = s.power) (hl : t.line.weirHeld = s.line.weirHeld) (h : t.rd A.STK_STAT = s.rd A.STK_STAT) (hc : t.rd A.STK_CFG = s.rd A.STK_CFG) : t.weirMode = s.weirMode := by
  have hf : t.weirForcedOn = s.weirForcedOn := congrArg₂ (fun y z => F.STK_STAT_BATTPH.get y != 0 || (F.STK_STAT_EMERG.get y != 0 && F.STK_CFG_EMWEIR.get z != 0)) h hc
  unfold State.weirMode State.weirOffCause State.running
  rw [hf, hs, hp, hl]

/-- The end of a step time keeps it, until the weir's mode is looked at. -/
theorem State.back_stable : State.Stable (State.Back v) where
  wr {s a x} ha h := by
    have hne : ∀ k, k ∈ guarded → k ≠ a := fun k hk he => ha (he ▸ hk)
    have hstat := s.rd_wr_ne x (hne A.STK_STAT (by decide))
    have hmode : (s.wr a x).weirMode = s.weirMode := State.weirMode_congr rfl rfl rfl hstat (s.rd_wr_ne x (hne A.STK_CFG (by decide)))
    exact ⟨h.lists.set_ne (hne A.WEIR_STAT (by decide)).symm, hmode.trans h.auto, h.fullOn, h.hbWait, h.handback,
      (congrArg (fun y => F.STK_STAT_RUNNING.get y != 0) hstat).trans h.idle⟩
  sticky {s n} h := by
    have hgt : 0x0582 < A.FLT_STK (n / 16) := show 0x0582 < 0x0C10 + n / 16 by omega
    have hstat : (s.setSticky n).rd A.STK_STAT = s.rd A.STK_STAT := s.rd_wr_ne _ (show 0x0580 ≠ 0x0C10 + n / 16 by omega)
    have hmode : (s.setSticky n).weirMode = s.weirMode := State.weirMode_congr rfl rfl rfl hstat (s.rd_wr_ne _ hgt.ne)
    exact ⟨h.lists.set_ne (show 0x0C10 + n / 16 ≠ 0x0561 by omega), hmode.trans h.auto, h.fullOn, h.hbWait, h.handback,
      (congrArg (fun y => F.STK_STAT_RUNNING.get y != 0) hstat).trans h.idle⟩
  beside h := ⟨h.lists, h.auto, h.fullOn, h.hbWait, h.handback, h.idle⟩

theorem State.weirMode_heldBack : (s.heldBack w).weirMode = s.weirMode := State.weirMode_congr rfl rfl rfl State.rd_heldBack State.rd_heldBack

theorem State.weirFollow_auto (h : s.weirMode = .auto) : s.weirFollow = (s.setLine fun l => { l with weirBlocked := false }).when (s.line.hbWait && !s.strokeRuns) State.handBack := by
  unfold State.weirFollow
  rw [h]

theorem State.handBack_auto (h : s.weirMode = .auto) (hf : s.line.fullOn = true) : s.handBack = (s.setLine fun l => { l with handback := false, hbWait := false }).weirOff.p F.WEIR_STAT_HBACK 1 := by
  unfold State.handBack
  rw [h, hf]
  rfl

/-- A field of WEIR_STAT written where that register's word is another. -/
theorem State.p_amended (hl : s.regs.Lists A.WEIR_STAT v) {f : Fld} (hf : f.addr = A.WEIR_STAT := by rfl) (hne : F.WEIR_STAT_HBACK.get (f.put w x) ≠ 0) :
    ({ s with regs := s.regs.amend A.WEIR_STAT w } : State).p f x = { s with regs := s.regs.amend A.WEIR_STAT (f.put w x) } := by
  have hz : f.put w x ≠ resetWord A.WEIR_STAT := fun he => hne (by rw [he, resetWord_weir]; rfl)
  unfold State.p State.rd State.wr
  dsimp only
  rw [hf, (hl.amend (v := w)).get, hl.set_amend hz]

theorem weirOff_onWord (h : BackWord v) : F.WEIR_STAT_HBACK.put (F.WEIR_STAT_TKLIM.put (F.WEIR_STAT_COND.put (onWord v x) 0) 0) 1 = v := by
  have hc : F.WEIR_STAT_COND.put (onWord v x) 0 = F.WEIR_STAT_TKLIM.put v x := by
    have h0 : F.WEIR_STAT_COND.get (F.WEIR_STAT_TKLIM.put v x) = 0 := (Fld.get_put_beside _ _ _ _ (by decide) (by decide)).trans h.cond
    unfold onWord
    rw [Fld.put_put (by decide), ← h0, Fld.put_get (by decide)]
  have ht : F.WEIR_STAT_TKLIM.put v 0 = v := by rw [← h.tklim, Fld.put_get (by decide)]
  have hb : F.WEIR_STAT_HBACK.put v 1 = v := by rw [← h.hback, Fld.put_get (by decide)]
  rw [hc, Fld.put_put (by decide), ht, hb]

theorem onWord_hback (h : BackWord v) : F.WEIR_STAT_HBACK.get (onWord v x) = 1 := by
  unfold onWord
  rw [Fld.get_put_beside _ _ _ _ (by decide) (by decide), Fld.get_put_beside _ _ _ _ (by decide) (by decide), h.hback]

theorem State.weirFollow_heldBack (h : s.Back v) (hv : BackWord v) : (s.heldBack (onWord v x)).weirFollow = s.weirFollow := by
  have hm : (s.heldBack (onWord v x)).weirMode = .auto := State.weirMode_heldBack.trans h.auto
  have hi : (s.heldBack (onWord v x)).strokeRuns = s.strokeRuns := State.b_heldBack
  have hn : s.weirFollow = s.noHandback := by
    rw [State.weirFollow_auto h.auto, h.hbWait]
    exact congrArg₂ (fun a b => ({ s with line := { s.line with weirBlocked := false, handback := a, hbWait := b } } : State)) h.handback h.hbWait
  have ho : (s.heldBack (onWord v x)).weirFollow = ((s.heldBack (onWord v x)).setLine fun l => { l with weirBlocked := false }).handBack := by
    rw [State.weirFollow_auto hm, hi, h.idle]
    rfl
  have hb : ((s.heldBack (onWord v x)).setLine fun l => { l with weirBlocked := false }).handBack =
      ({ s.noHandback with regs := s.noHandback.regs.amend A.WEIR_STAT (onWord v x) } : State).weirOff.p F.WEIR_STAT_HBACK 1 :=
    State.handBack_auto hm h.fullOn
  have h0 : F.WEIR_STAT_HBACK.get (F.WEIR_STAT_COND.put (onWord v x) 0) ≠ 0 := by
    rw [Fld.get_put_beside _ _ _ _ (by decide) (by decide), onWord_hback hv]
    decide
  have h1 : F.WEIR_STAT_HBACK.get (F.WEIR_STAT_TKLIM.put (F.WEIR_STAT_COND.put (onWord v x) 0) 0) ≠ 0 := by rwa [Fld.get_put_beside _ _ _ _ (by decide) (by decide)]
  have h2 : F.WEIR_STAT_HBACK.get (F.WEIR_STAT_HBACK.put (F.WEIR_STAT_TKLIM.put (F.WEIR_STAT_COND.put (onWord v x) 0) 0) 1) ≠ 0 := by
    rw [weirOff_onWord hv, hv.hback]
    decide
  have hl : s.noHandback.regs.Lists A.WEIR_STAT v := h.lists
  rw [ho, hb, hn, State.weirOff]
  change State.p (State.p (State.p { s.noHandback with regs := s.noHandback.regs.amend A.WEIR_STAT (onWord v x) } F.WEIR_STAT_COND 0) F.WEIR_STAT_TKLIM 0) F.WEIR_STAT_HBACK 1 = _
  rw [State.p_amended hl rfl h0, State.p_amended hl rfl h1, State.p_amended hl rfl h2, weirOff_onWord hv, hl.amend_same]

/-- R266: the automatic mode is one of a running device. -/
theorem State.aoOn_of_auto (h : s.weirMode = .auto) : s.aoOn = true := by
  have hrun : s.running = true := by
    by_contra hr
    have hcause : s.weirOffCause ≠ 0 := by
      unfold State.weirOffCause
      rw [Bool.eq_false_iff.mpr hr]
      cases s.sup.pack <;> simp
    unfold State.weirMode at h
    rw [if_pos hcause] at h
    exact WeirMode.noConfusion h
  unfold State.running at hrun
  unfold State.aoOn
  cases hp : s.power <;> simp [hp] at hrun ⊢

theorem State.followUp_heldBack (h : s.Back v) (hv : BackWord v) : (s.heldBack (onWord v x)).followUp = s.followUp := by
  have hon : s.aoOn = true := State.aoOn_of_auto h.auto
  have hon' : (s.heldBack (onWord v x)).aoOn = true := hon
  unfold State.followUp State.when
  dsimp only
  rw [if_pos hon, if_pos hon', State.reserveFollow_heldBack, State.weirFollow_heldBack (State.back_stable.reserveFollow h) hv]
  rfl

theorem State.gather_heldBack (h : s.Back v) (hv : BackWord v) {n : Nat} {l : List Taken} : (s.heldBack (onWord v x)).gather State.followUp (n + 1) l = s.gather State.followUp (n + 1) l := by
  unfold State.gather
  rw [State.collect_heldBack]
  dsimp only
  rw [State.followUp_heldBack (State.back_stable.collect h) hv]

theorem State.settle_heldBack (h : s.Back v) (hv : BackWord v) : (s.heldBack (onWord v x)).settle = s.settle := by
  have hpass : (s.heldBack (onWord v x)).judgePass = s.judgePass := by
    unfold State.judgePass
    rw [State.gather_heldBack h hv]
  unfold State.settle State.judgeAll
  rw [hpass]

end
end Sys2Proof.Machine
end

section
/-! PROOFS. The weir turns on (R264 to R268). -/
namespace Sys2Proof.Machine

/-! ### The weir turns on (R264 to R268) -/

section
variable {s t : State} {n v b : Nat} {w : Word}

theorem State.drvWeirChange_cases (s : State) : (∃ k, s.drvWeirChange = s.drvWait k) ∨ s.drvWeirChange = s := (ite_eq_or_eq _ _ _).imp (fun h => ⟨_, h⟩) id

theorem State.drvWeirChange_rd (s : State) {a : Nat} (h : a ≠ A.DRV_STAT) : s.drvWeirChange.rd a = s.rd a := by
  rcases s.drvWeirChange_cases with ⟨k, hk⟩ | hk <;> rw [hk]
  exact State.rd_p_ne s (f := F.DRV_STAT_MODE) k h

theorem State.drvWeirChange_frame (s : State) : s.drvWeirChange = { s with regs := s.drvWeirChange.regs, dom := s.drvWeirChange.dom } := by
  rcases s.drvWeirChange_cases with ⟨k, hk⟩ | hk <;> rw [hk]
  rfl

/-- The weir on, by its automatic mode, the takeover counted. -/
def State.tookOver (s : State) : State :=
  ((((s.setLine fun l => { l with weirBlocked := false }).p F.WEIR_STAT_COND 1).pb F.WEIR_STAT_TKLIM (decide (s.drv.vdrv + 1000 < s.sup.battMv))).inc A.WEIR_CNTTK)

/-- The trigger that a forced start of the sluice is due, and the shedding it brings. -/
def State.tookOverDue (s : State) : State := (s.tookOver.setLine fun l => { l with t4Due := false }).trigger4

theorem State.tookOver_frame (s : State) : s.tookOver = { s with regs := s.tookOver.regs, line := { s.line with weirBlocked := false } } := by
  unfold State.tookOver State.inc
  split <;> rfl

theorem State.tookOver_rd (s : State) {a : Nat} (hw : a ≠ A.WEIR_STAT) (hc : a ≠ A.WEIR_CNTTK) : s.tookOver.rd a = s.rd a := by
  unfold State.tookOver State.pb
  rw [State.rd_inc_ne _ hc, State.rd_p_ne _ (f := F.WEIR_STAT_TKLIM) _ hw, State.rd_p_ne _ (f := F.WEIR_STAT_COND) _ hw]
  rfl

theorem State.tookOver_stat (s : State) : s.tookOver.g F.WEIR_STAT_COND = 1 ∧ s.tookOver.g F.WEIR_STAT_TKLIM = (decide (s.drv.vdrv + 1000 < s.sup.battMv)).toNat := by
  have hrd := ((s.setLine fun l => { l with weirBlocked := false }).p F.WEIR_STAT_COND 1).pb F.WEIR_STAT_TKLIM (decide (s.drv.vdrv + 1000 < s.sup.battMv)) |>.rd_inc_ne (a := A.WEIR_STAT) (b := A.WEIR_CNTTK) (by decide)
  have hg : ∀ f : Fld, f.addr = A.WEIR_STAT → s.tookOver.g f = (((s.setLine fun l => { l with weirBlocked := false }).p F.WEIR_STAT_COND 1).pb F.WEIR_STAT_TKLIM (decide (s.drv.vdrv + 1000 < s.sup.battMv))).g f :=
    fun f hf => congrArg f.get (by rw [hf]; exact hrd)
  refine ⟨?_, ?_⟩
  · rw [hg _ rfl, State.pb, State.g_p_beside _ _ (by decide) (by decide)]
    exact State.g_p_same _ _ _ (by decide)
  · rw [hg _ rfl, State.pb, State.g_p_same _ _ _ (by decide)]
    exact Nat.mod_eq_of_lt (Bool.toNat_lt _)

theorem State.tookOver_count (s : State) : s.tookOver.rn A.WEIR_CNTTK = min 65535 (s.rn A.WEIR_CNTTK + 1) := by
  unfold State.tookOver State.pb
  rw [State.rn_inc]
  congr 2
  exact congrArg BitVec.toNat ((State.rd_p_ne _ (f := F.WEIR_STAT_TKLIM) _ (by decide)).trans (State.rd_p_ne _ (f := F.WEIR_STAT_COND) _ (by decide)))

/-- The word of WEIR_STAT stands where it is written, since the weir is on. -/
theorem State.tookOver_lists (s : State) : s.tookOver.regs.Lists A.WEIR_STAT (s.tookOver.rd A.WEIR_STAT) := by
  have hset : ∀ (u : State) (x : Word), x ≠ 0 → (u.wr A.WEIR_STAT x).regs.Lists A.WEIR_STAT ((u.wr A.WEIR_STAT x).rd A.WEIR_STAT) := fun u x hx => by
    have hr : (u.wr A.WEIR_STAT x).regs = u.regs.insert A.WEIR_STAT x := if_neg (by rw [resetWord_weir]; exact hx)
    rw [State.rd_wr_same, hr]
    exact RegFile.lists_insert _ _ _
  have hrd := s.tookOver_stat.1
  have hinc : ∀ u : State, u.regs.Lists A.WEIR_STAT (u.rd A.WEIR_STAT) → (u.inc A.WEIR_CNTTK).regs.Lists A.WEIR_STAT ((u.inc A.WEIR_CNTTK).rd A.WEIR_STAT) := fun u hu => by
    rw [u.rd_inc_ne (by decide)]
    unfold State.inc
    split
    · exact hu.set_ne (by decide)
    · exact hu
  refine hinc _ (hset _ _ fun h0 => ?_)
  have hcond := congrArg F.WEIR_STAT_COND.get h0
  rw [Fld.get_put_beside _ _ _ _ (by decide) (by decide)] at hcond
  exact absurd ((State.g_p_same (s.setLine fun l => { l with weirBlocked := false }) F.WEIR_STAT_COND 1 (by decide)).symm.trans hcond) (by decide)

theorem State.tookOver_over (hpack : s.sup.pack = true) (hrun : s.running = true) (hheld : s.line.weirHeld = false) (hb : s.weirForcedOn = false) :
    s.tookOver.Over (min 65535 (s.rn A.WEIR_CNTTK + 1)) s.drv.vdrv (s.tookOver.rd A.WEIR_STAT) := by
  have hstat := s.tookOver_rd (a := A.STK_STAT) (by decide) (by decide)
  have hforced : s.tookOver.weirForcedOn = false := by
    rw [← hb]
    exact congrArg₂ (fun y z => F.STK_STAT_BATTPH.get y != 0 || (F.STK_STAT_EMERG.get y != 0 && F.STK_CFG_EMWEIR.get z != 0)) hstat (s.tookOver_rd (by decide) (by decide))
  obtain ⟨hbatt, hem⟩ := Bool.or_eq_false_iff.mp hforced
  have hf := s.tookOver_frame
  refine ⟨s.tookOver_lists, ?_, ?_, ?_, hbatt, hem, s.tookOver_count, ?_, .inl rfl⟩
  · rw [hf]
    exact hpack
  · rw [hf]
    exact hrun
  · rw [hf]
    exact hheld
  · rw [hf]

theorem State.weirStart_auto (h : s.weirMode = .auto) :
    s.weirStart = (if s.line.qual && s.line.fullOn then s.tookOver.p F.WEIR_STAT_ASSIST 1 else if s.line.t4Due then s.tookOverDue else s.tookOver).drvWeirChange := by
  have hl : s.tookOver.line = { s.line with weirBlocked := false } := by
    unfold State.tookOver State.inc
    split <;> rfl
  unfold State.weirStart
  rw [h]
  change (if s.tookOver.line.qual && s.tookOver.line.fullOn then _ else if s.tookOver.line.t4Due then _ else _ : State).drvWeirChange = _
  rw [hl]
  rfl

/-- Where the sluice's forced start had a trigger due, the end of the step time is that of a state with the weir on: the start's own, or, after a hand-back, the one whose hand-back is still to come. -/
theorem State.Over.shows (h : s.Over n v w) (hw : F.WEIR_STAT_COND.get w = 1) {x : Bool} (hx : F.WEIR_STAT_TKLIM.get w = x.toNat) :
    ∃ e : State, e.settle = s.settle ∧ e.weirOn = true ∧ e.b F.WEIR_STAT_TKLIM = x ∧ e.rn A.WEIR_CNTTK = n ∧ e.drv.vdrv = v ∧ e.sup = s.sup := by
  have hbool : ∀ y : Bool, (y.toNat != 0) = y := by decide
  rcases h.weir with he | hb
  · refine ⟨s, rfl, ?_, ?_, h.count, h.vdrv, rfl⟩
    · exact congrArg (· != 0) ((congrArg F.WEIR_STAT_COND.get he).trans hw)
    · exact (congrArg (· != 0) ((congrArg F.WEIR_STAT_TKLIM.get he).trans hx)).trans (hbool x)
  · have hv : BackWord (s.rd A.WEIR_STAT) := ⟨hb.cond, hb.tklim, hb.hback⟩
    have hback : s.Back (s.rd A.WEIR_STAT) := ⟨h.lists, h.auto, hb.fullOn, hb.hbWait, hb.handback, hb.idle⟩
    have hrd : (s.heldBack (onWord (s.rd A.WEIR_STAT) x.toNat)).rd A.WEIR_STAT = onWord (s.rd A.WEIR_STAT) x.toNat := (h.lists.amend).get
    refine ⟨s.heldBack (onWord (s.rd A.WEIR_STAT) x.toNat), State.settle_heldBack hback hv, ?_, ?_, (State.rn_heldBack (a := A.WEIR_CNTTK)).trans h.count, h.vdrv, rfl⟩
    · have hon : F.WEIR_STAT_COND.get (onWord (s.rd A.WEIR_STAT) x.toNat) = 1 := Fld.get_put _ _ _ (by decide)
      exact congrArg (· != 0) ((congrArg F.WEIR_STAT_COND.get hrd).trans hon)
    · refine (congrArg (· != 0) ((congrArg F.WEIR_STAT_TKLIM.get hrd).trans ?_)).trans (hbool x)
      unfold onWord
      rw [Fld.get_put_beside _ _ _ _ (by decide) (by decide), Fld.get_put _ _ _ (by decide)]
      exact Nat.mod_eq_of_lt (Bool.toNat_lt _)

theorem State.tookOverDue_over (h : s.tookOver.Over n v w) : s.tookOverDue.Over n v w := by
  unfold State.tookOverDue State.trigger4
  have hshed := State.Over.shedOff (h.line (l := { s.tookOver.line with t4Due := false }) rfl rfl rfl rfl)
  exact hshed.aside

theorem State.weirStart_over (h : s.tookOver.Over n v w) (hm : s.weirMode = .auto) : s.weirStart.Over n v w ∨ (s.line.qual = true ∧ s.line.fullOn = true) := by
  rw [State.weirStart_auto hm]
  by_cases hq : (s.line.qual && s.line.fullOn) = true
  · exact .inr (Bool.and_eq_true_iff.mp hq)
  · rw [if_neg hq]
    exact .inl (State.Over.ite (State.tookOverDue_over h) h).drvWeirChange

end
end Sys2Proof.Machine
end

section
/-! PROOFS. The weir's events (R264 to R269). -/
namespace Sys2Proof.Machine

/-! ### The weir's events (R264 to R269) -/

section
variable {s u : State} {v b : Nat}

/-- The weir has just turned on by itself in the state `s`: nothing else but the takeover's registers and the weir's block follow. -/
structure State.TookOver (s u : State) : Prop where
  frame : u = { s with regs := u.regs, dom := u.dom, line := { s.line with weirBlocked := false } }
  rd : ∀ a, a ≠ A.WEIR_STAT → a ≠ A.WEIR_CNTTK → a ≠ A.DRV_STAT → u.rd a = s.rd a
  cond : u.g F.WEIR_STAT_COND = 1
  tklim : u.g F.WEIR_STAT_TKLIM = (decide (s.drv.vdrv + 1000 < s.sup.battMv)).toNat
  count : u.rn A.WEIR_CNTTK = min 65535 (s.rn A.WEIR_CNTTK + 1)

theorem State.tookOver_shown (s : State) : s.TookOver s.tookOver where
  frame := by
    have h := s.tookOver_frame
    rw [h]
  rd a hw hc _ := s.tookOver_rd hw hc
  cond := s.tookOver_stat.1
  tklim := s.tookOver_stat.2
  count := s.tookOver_count

theorem State.TookOver.assist (h : s.TookOver u) : s.TookOver (u.p F.WEIR_STAT_ASSIST 1) where
  frame := by
    rw [h.frame]
    rfl
  rd a hw hc hd := (u.rd_p_ne (f := F.WEIR_STAT_ASSIST) 1 hw).trans (h.rd a hw hc hd)
  cond := (u.g_p_beside 1 (by decide) (by decide)).trans h.cond
  tklim := (u.g_p_beside 1 (by decide) (by decide)).trans h.tklim
  count := (congrArg BitVec.toNat (u.rd_p_ne (f := F.WEIR_STAT_ASSIST) 1 (by decide))).trans h.count

theorem State.TookOver.drvWeirChange (h : s.TookOver u) : s.TookOver u.drvWeirChange where
  frame := by
    have hf := u.drvWeirChange_frame
    rw [hf, h.frame]
  rd a hw hc hd := (u.drvWeirChange_rd hd).trans (h.rd a hw hc hd)
  cond := (congrArg F.WEIR_STAT_COND.get (u.drvWeirChange_rd (by decide))).trans h.cond
  tklim := (congrArg F.WEIR_STAT_TKLIM.get (u.drvWeirChange_rd (by decide))).trans h.tklim
  count := (congrArg BitVec.toNat (u.drvWeirChange_rd (by decide))).trans h.count

/-- What the takeover leaves where no trigger of a forced start of the sluice is due. -/
theorem State.weirStart_tookOver (hm : s.weirMode = .auto) (h4 : (s.line.qual && s.line.fullOn) = true ∨ s.line.t4Due = false) : s.TookOver s.weirStart := by
  rw [State.weirStart_auto hm]
  by_cases hq : (s.line.qual && s.line.fullOn) = true
  · rw [if_pos hq]
    exact s.tookOver_shown.assist.drvWeirChange
  · rw [if_neg hq, h4.resolve_left hq]
    exact s.tookOver_shown.drvWeirChange

theorem State.weirStart_assist (hm : s.weirMode = .auto) (hq : s.line.qual = true) (hf : s.line.fullOn = true) : s.weirStart.b F.WEIR_STAT_ASSIST = true := by
  rw [State.weirStart_auto hm, hq, hf]
  have hone := s.tookOver.b_p_one F.WEIR_STAT_ASSIST (by decide) rfl
  exact (congrArg (fun x => F.WEIR_STAT_ASSIST.get x != 0) ((s.tookOver.p F.WEIR_STAT_ASSIST 1).drvWeirChange_rd (by decide))).trans hone

/-- R264 to R266: the automatic weir turns on. -/
theorem exec_weirTurnOn (hon : s.weirOn = false) (hm : s.weirMode = .auto) (hv : v + 20 ≤ b) (ht : s.g F.WEIR_CFG_TKO = 255 ∨ v < 12000 + 200 * s.g F.WEIR_CFG_TKO) :
    exec (.weirTurnOn v b) s = .next (s.busLevels v b).weirStart.settle := by
  have hturn : (!(s.busLevels v b).weirOn && (s.busLevels v b).weirTurnsOn v b) = true := by
    have hon' : (s.busLevels v b).weirOn = false := hon
    have hm' : (s.busLevels v b).weirMode = .auto := hm
    have htko : (s.busLevels v b).tkoMv = s.tkoMv := rfl
    unfold State.weirTurnsOn
    rw [hon', hm', htko]
    unfold State.tkoMv
    by_cases h255 : s.g F.WEIR_CFG_TKO = 255
    · rw [if_pos h255]
      simp [hv]
    · rw [if_neg h255]
      simp [hv, ht.resolve_left h255]
  show done (s.weirTurnOn v b) = _
  unfold State.weirTurnOn
  rw [done_eq]
  dsimp only
  rw [if_pos hturn]

/-- R266: a running device with a pack, whose weir neither a trip nor a stroke holds. -/
theorem State.auto_of (hpack : s.sup.pack = true) (hrun : s.running = true) (hheld : s.line.weirHeld = false) (hf : s.weirForcedOn = false) : s.weirMode = .auto := by
  unfold State.weirMode State.weirOffCause
  rw [hpack, hrun, hheld, hf]
  rfl

theorem weirTurnOn_law (hon : s.weirOn = false) (hrun : s.running = true) (hpack : s.sup.pack = true) (hheld : s.line.weirHeld = false) (hforced : s.weirForcedOn = false) (hv : v + 20 ≤ b)
    (ht : s.g F.WEIR_CFG_TKO = 255 ∨ v < 12000 + 200 * s.g F.WEIR_CFG_TKO) :
    ∃ e : State, exec (.weirTurnOn v b) s = .next e.settle ∧ e.weirOn = true ∧ e.b F.WEIR_STAT_TKLIM = decide (v + 1000 < b) ∧ (s.line.qual = true → s.line.fullOn = true → e.b F.WEIR_STAT_ASSIST = true) ∧
      e.rn A.WEIR_CNTTK = min 65535 (s.rn A.WEIR_CNTTK + 1) ∧ e.drv.vdrv = v ∧ e.sup.battMv = b ∧
      (s.line.t4Due = false → e = { s with regs := e.regs, sup := { s.sup with battMv := b }, drv := { s.drv with vdrv := v }, dom := e.dom, line := { s.line with weirBlocked := false } } ∧ (∀ a, a ≠ A.WEIR_STAT → a ≠ A.WEIR_CNTTK → a ≠ A.DRV_STAT → e.rd a = s.rd a)) := by
  have hm : s.weirMode = .auto := State.auto_of hpack hrun hheld hforced
  have hm' : (s.busLevels v b).weirMode = .auto := hm
  rw [exec_weirTurnOn hon hm hv ht]
  have hbool : ∀ y : Bool, (y.toNat != 0) = y := by decide
  by_cases h4 : (s.line.qual && s.line.fullOn) = true ∨ s.line.t4Due = false
  · have h := State.weirStart_tookOver hm' h4
    refine ⟨_, rfl, congrArg (· != 0) h.cond, (congrArg (· != 0) h.tklim).trans (hbool _), fun hq hf => State.weirStart_assist hm' hq hf, h.count, ?_, ?_, fun _ => ⟨h.frame, h.rd⟩⟩
    · rw [h.frame]
      rfl
    · rw [h.frame]
      rfl
  · obtain ⟨hnot, hdue⟩ := not_or.mp h4
    have hover : (s.busLevels v b).tookOver.Over _ _ _ := State.tookOver_over hpack hrun hheld hforced
    have hshown := (State.weirStart_over hover hm').resolve_right fun hq => hnot (Bool.and_eq_true_iff.mpr hq)
    obtain ⟨e, he, hweir, hlim, hcnt, hvd, hsup⟩ := hshown.shows (s.busLevels v b).tookOver_stat.1 (s.busLevels v b).tookOver_stat.2
    refine ⟨e, congrArg _ he.symm, hweir, hlim, fun hq hf => absurd (Bool.and_eq_true_iff.mpr ⟨hq, hf⟩) hnot, hcnt, hvd, ?_, fun h => absurd h hdue⟩
    rw [hsup, (State.ControlOf.refl (s.busLevels v b)).weirStart.sup]
    rfl

theorem State.weirOff_rd (s : State) {a : Nat} (h : a ≠ A.WEIR_STAT) : s.weirOff.rd a = s.rd a :=
  (State.rd_p_ne _ (f := F.WEIR_STAT_TKLIM) 0 h).trans (State.rd_p_ne _ (f := F.WEIR_STAT_COND) 0 h)

theorem State.weirOff_cond (s : State) : s.weirOff.g F.WEIR_STAT_COND = 0 := (State.g_p_beside _ 0 (by decide) (by decide)).trans (State.g_p_same _ _ _ (by decide))

theorem State.weirOff_tklim (s : State) : s.weirOff.g F.WEIR_STAT_TKLIM = 0 := State.g_p_same _ _ _ (by decide)

/-- What stands in WEIR_STAT stands there still when DRIVE has followed the weir. -/
theorem State.drvWeirChange_stat (s : State) {f : Fld} (h : f.addr = A.WEIR_STAT := by rfl) : s.drvWeirChange.g f = s.g f := congrArg f.get (s.drvWeirChange_rd (by rw [h]; decide))

/-- The weir off, blocked where it was forced on. -/
def State.weirReversed (s : State) : State := s.weirOff.when (s.weirMode = .forcedOn) fun s => (s.p F.WEIR_STAT_REVBLK 1).setLine fun l => { l with weirBlocked := true }

theorem State.weirReversed_rd (s : State) {a : Nat} (h : a ≠ A.WEIR_STAT) : s.weirReversed.rd a = s.rd a := by
  unfold State.weirReversed State.when
  split
  · exact (State.rd_p_ne _ (f := F.WEIR_STAT_REVBLK) 1 h).trans (s.weirOff_rd h)
  · exact s.weirOff_rd h

theorem State.weirReversed_frame (s : State) : s.weirReversed = { s with regs := s.weirReversed.regs, line := s.weirReversed.line } := by
  unfold State.weirReversed State.when
  split <;> rfl

theorem State.weirReversed_off (s : State) : s.weirReversed.g F.WEIR_STAT_COND = 0 ∧ s.weirReversed.g F.WEIR_STAT_TKLIM = 0 := by
  unfold State.weirReversed State.when
  split
  · exact ⟨(State.g_p_beside s.weirOff 1 (by decide) (by decide)).trans s.weirOff_cond, (State.g_p_beside s.weirOff 1 (by decide) (by decide)).trans s.weirOff_tklim⟩
  · exact ⟨s.weirOff_cond, s.weirOff_tklim⟩

theorem State.weirReversed_forced (h : s.weirMode = .forcedOn) : s.weirReversed.b F.WEIR_STAT_REVBLK = true ∧ s.weirReversed.line.weirBlocked = true := by
  unfold State.weirReversed State.when
  rw [if_pos (decide_eq_true h)]
  exact ⟨State.b_p_one s.weirOff F.WEIR_STAT_REVBLK (by decide) rfl, rfl⟩

theorem State.weirReversed_line (h : s.weirMode ≠ .forcedOn) : s.weirReversed.line = s.line := by
  unfold State.weirReversed State.when
  rw [if_neg (by simpa using h)]
  rfl

theorem weirReverse_law (hon : s.weirOn = true) : ∃ e : State, exec (.weirReverseBlock v b) s = .next e.settle ∧ e = { s with regs := e.regs, sup := { s.sup with battMv := b }, drv := { s.drv with vdrv := v }, dom := e.dom, line := e.line } ∧
    (∀ a, a ≠ A.WEIR_STAT → a ≠ A.DRV_STAT → e.rd a = s.rd a) ∧ e.weirOn = false ∧ e.b F.WEIR_STAT_TKLIM = false ∧ (s.weirMode = .forcedOn → e.b F.WEIR_STAT_REVBLK = true ∧ e.line.weirBlocked = true) ∧ (s.weirMode ≠ .forcedOn → e.line = s.line) := by
  have hexec : exec (.weirReverseBlock v b) s = .next (s.busLevels v b).weirReversed.drvWeirChange.settle := by
    show done (s.weirReverse v b) = _
    unfold State.weirReverse
    rw [done_eq]
    exact congrArg _ (congrArg State.settle (if_pos hon))
  obtain ⟨hcond, hlim⟩ := (s.busLevels v b).weirReversed_off
  have hdrv := (s.busLevels v b).weirReversed.drvWeirChange_frame
  have hrev := (s.busLevels v b).weirReversed_frame
  have hline : (s.busLevels v b).weirReversed.drvWeirChange.line = (s.busLevels v b).weirReversed.line := by rw [hdrv]
  refine ⟨_, hexec, ?_, fun a hw hd => ?_, ?_, ?_, fun hm => ?_, fun hm => ?_⟩
  · rw [hline, hdrv, hrev]
    rfl
  · rw [State.drvWeirChange_rd _ hd, State.weirReversed_rd _ hw]
    rfl
  · exact congrArg (· != 0) ((State.drvWeirChange_stat _).trans hcond)
  · exact congrArg (· != 0) ((State.drvWeirChange_stat _).trans hlim)
  · obtain ⟨hb, hl⟩ := State.weirReversed_forced (s := s.busLevels v b) hm
    exact ⟨(congrArg (· != 0) (State.drvWeirChange_stat _)).trans hb, hline ▸ hl⟩
  · rw [hline, State.weirReversed_line (s := s.busLevels v b) hm]
    rfl

/-- The weir off and held off, its cause marked. -/
def State.weirTripped (s : State) (f : Fld) : State := (((s.p f 1).setLine fun l => { l with weirHeld := true }).weirOff).drvWeirChange

theorem State.weirTripped_shown (s : State) {f : Fld} (hf : f = F.WEIR_STAT_TKFAIL ∨ f = F.WEIR_STAT_SCEVT) :
    s.weirTripped f = { s with regs := (s.weirTripped f).regs, dom := (s.weirTripped f).dom, line := { s.line with weirHeld := true } } ∧ (∀ a, a ≠ A.WEIR_STAT → a ≠ A.DRV_STAT → (s.weirTripped f).rd a = s.rd a) ∧
      (s.weirTripped f).weirOn = false ∧ (s.weirTripped f).b f = true := by
  have haddr : f.addr = A.WEIR_STAT := by rcases hf with rfl | rfl <;> rfl
  have hflag : (s.p f 1).b f = true := by rcases hf with rfl | rfl <;> exact s.b_p_one _ (by decide) rfl
  have hkeep : ∀ u : State, u.weirOff.b f = u.b f := fun u => by
    rcases hf with rfl | rfl <;> exact (State.b_p_beside _ 0 (by decide) (by decide)).trans (State.b_p_beside _ 0 (by decide) (by decide))
  refine ⟨?_, fun a hw hd => ?_, congrArg (· != 0) ((State.drvWeirChange_stat _).trans (State.weirOff_cond _)), ?_⟩
  · have hdrv := ((s.p f 1).setLine fun l => { l with weirHeld := true }).weirOff.drvWeirChange_frame
    unfold State.weirTripped
    rw [hdrv]
    rfl
  · exact (State.drvWeirChange_rd _ hd).trans ((State.weirOff_rd _ hw).trans (s.rd_p_ne 1 (by rw [haddr]; exact hw)))
  · exact (congrArg (· != 0) (State.drvWeirChange_stat _ haddr)).trans ((hkeep _).trans hflag)

theorem weirTrip_law {c : Instr} {src : Nat} (hon : s.weirOn = true) (hc : c = .weirTakeoverFail ∧ src = 49 ∧ s.b F.WEIR_STAT_TKLIM = true ∨ c = .weirShortCircuit ∧ src = 50) :
    ∃ e : State, exec c s = .next e.settle ∧ e = { s with regs := e.regs, dom := e.dom, line := { s.line with weirHeld := true }, flt := { s.flt with raised := s.flt.raised ++ [⟨src, .detector, s.power.code⟩] } } ∧
      (∀ a, a ≠ A.WEIR_STAT → a ≠ A.DRV_STAT → e.rd a = s.rd a) ∧ e.weirOn = false ∧ e.b (if src = 49 then F.WEIR_STAT_TKFAIL else F.WEIR_STAT_SCEVT) = true := by
  have hf : (if src = 49 then F.WEIR_STAT_TKFAIL else F.WEIR_STAT_SCEVT) = F.WEIR_STAT_TKFAIL ∨ (if src = 49 then F.WEIR_STAT_TKFAIL else F.WEIR_STAT_SCEVT) = F.WEIR_STAT_SCEVT := ite_eq_or_eq _ _ _
  have hexec : exec c s = .next ((s.weirTripped (if src = 49 then F.WEIR_STAT_TKFAIL else F.WEIR_STAT_SCEVT)).raise src).settle := by
    rcases hc with ⟨rfl, rfl, hlim⟩ | ⟨rfl, rfl⟩
    · show done s.takeoverFail = _
      unfold State.takeoverFail
      rw [if_pos (Bool.and_eq_true_iff.mpr ⟨hon, hlim⟩)]
      rfl
    · show done s.weirShort = _
      unfold State.weirShort
      rw [if_pos hon]
      rfl
  generalize (if src = 49 then F.WEIR_STAT_TKFAIL else F.WEIR_STAT_SCEVT) = f at hf hexec ⊢
  obtain ⟨hframe, hrd, hoff, hflag⟩ := s.weirTripped_shown hf
  refine ⟨_, hexec, ?_, hrd, hoff, hflag⟩
  unfold State.raise State.raiseBy
  generalize s.weirTripped f = u at hframe ⊢
  rw [hframe]

end

section
variable {s : State}

theorem State.drvWeirChange_fullOn (h : s.line.fullOn = true) : s.drvWeirChange = s := if_neg (by rw [h]; simp)

theorem State.handBack_waits (hm : s.weirMode ≠ .auto) (hf : s.line.fullOn = true) : s.handBack = s.setLine fun l => { l with handback := false, hbWait := true } := by
  unfold State.handBack
  dsimp only
  rw [if_neg (by simp [hm]), hf, decide_eq_false hm]
  rfl

theorem handback_law (hh : s.line.handback = true) (hf : s.line.fullOn = true) :
    (s.strokeRuns = true ∨ s.weirMode ≠ .auto → exec .weirHandback s = .next ({ s with line := { s.line with handback := false, hbWait := true } } : State).settle) ∧
    (s.strokeRuns = false → s.weirMode = .auto → exec .weirHandback s =
      .next ((((({ s with line := { s.line with handback := false, hbWait := false } } : State).p F.WEIR_STAT_COND 0).p F.WEIR_STAT_TKLIM 0).p F.WEIR_STAT_HBACK 1)).settle) := by
  have hexec : exec .weirHandback s = .next (if s.strokeRuns then s.setLine (fun l => { l with handback := false, hbWait := true }) else s.handBack.drvWeirChange).settle :=
    congrArg (fun u : State => done u) (if_pos (Bool.and_eq_true_iff.mpr ⟨hh, hf⟩))
  refine ⟨fun h => ?_, fun hr hm => ?_⟩
  · rw [hexec]
    by_cases hr : s.strokeRuns = true
    · rw [if_pos hr]
      rfl
    · rw [if_neg hr, State.handBack_waits (h.resolve_left hr) hf]
      exact congrArg (fun u : State => done u) (State.drvWeirChange_fullOn hf)
  · rw [hexec, hr, State.handBack_auto hm hf]
    exact congrArg (fun u : State => done u) (State.drvWeirChange_fullOn hf)

theorem weirFollow_handback (hw : s.line.hbWait = true) (hf : s.line.fullOn = true) (hr : s.strokeRuns = false) (hm : s.weirMode = .auto) : s.weirFollow =
    (((({ s with line := { s.line with weirBlocked := false, handback := false, hbWait := false } } : State).p F.WEIR_STAT_COND 0).p F.WEIR_STAT_TKLIM 0).p F.WEIR_STAT_HBACK 1) := by
  rw [State.weirFollow_auto hm, hw, hr]
  exact State.handBack_auto (s := s.setLine fun l => { l with weirBlocked := false }) hm hf

theorem weirFollow_forcedOff (hm : s.weirMode = .forcedOff) : s.weirFollow.line.weirBlocked = false ∧ s.weirFollow.weirOn = false := by
  have h : s.weirFollow = s.weirOff.setLine fun l => { l with weirBlocked := false } := by
    unfold State.weirFollow
    rw [hm]
  rw [h]
  exact ⟨rfl, congrArg (· != 0) s.weirOff_cond⟩

end

/-- Settles O46: each event by its own law; where the sluice's forced start has a trigger due and the stroke that it abandons hands the weir back within the step time, the state asked for is the one whose hand-back is still to come, whose step time ends alike. -/
theorem weirEvents : Obligations.WeirEvents := by
  unfold Obligations.WeirEvents
  exact ⟨fun _ _ _ hon hrun hpack hheld hforced hv ht => weirTurnOn_law hon hrun hpack hheld hforced hv ht, fun _ _ _ hon => weirReverse_law hon, fun _ _ _ => rfl,
    fun _ _ _ hon hc => weirTrip_law hon hc, fun _ hh hf => handback_law hh hf, fun _ hw hf hr hm => weirFollow_handback hw hf hr hm, fun _ hm => weirFollow_forcedOff hm⟩

end Sys2Proof.Machine
end

section
/-! PROOFS. What a part of a step time's end leaves in FAULT. -/
namespace Sys2Proof.Machine

/-! ### What the end of a step time leaves in FAULT (R622, R630) -/

/-- The registers that decide whether a raise of source 31 acts and how often it has come: AUTHEN, DRY, the enable bits that sources beyond the 128 would have, the class of source 31 and its count. -/
def tracked : List Nat := [A.GAU_CFG, A.FLT_TEST, 0x0C1B, A.FLT_CLS 3, A.FLT_CNT 31]

/-- `t` is `s` after a part of a step time's end that takes no raise: the power state, AUTH and those registers stand; a battery phase does not begin, and a reserve that is not enough stays so. -/
structure State.Past (t s : State) : Prop where
  power : t.power = s.power
  auth : t.g F.GAU_STAT_AUTH = s.g F.GAU_STAT_AUTH
  rd : ∀ a ∈ tracked, t.rd a = s.rd a
  batt : s.b F.STK_STAT_BATTPH = false → t.b F.STK_STAT_BATTPH = false
  reserve : s.reserveOk = false → t.reserveOk = false

section
variable {s t s₀ : State}

theorem State.reserveOk_congr (h : t.rd A.GAU_RESERVE = s.rd A.GAU_RESERVE) : t.reserveOk = s.reserveOk :=
  congrArg (fun w => decide (F.GAU_RESERVE_STROKES.get w ≤ 254) && decide (F.GAU_RESERVE_FLOOR.get w ≤ F.GAU_RESERVE_STROKES.get w)) h

theorem State.Past.refl (s : State) : s.Past s := ⟨rfl, rfl, fun _ _ => rfl, id, id⟩

theorem State.Past.trans {u : State} (h : u.Past t) (h' : t.Past s) : u.Past s :=
  ⟨h.power.trans h'.power, h.auth.trans h'.auth, fun a ha => (h.rd a ha).trans (h'.rd a ha), h.batt ∘ h'.batt, h.reserve ∘ h'.reserve⟩

theorem State.Past.beside (h : s.Past s₀) {pending : List Instr} {pins : PinSample} {sup : Supply} {ctl : Control} {hif : Hif} {eng : List Engine} {tim : List EngTimer} {dom : List Domain} {mon : Mon} {flt : Flt} {mrq : Mrq} {nvm : Nvm}
    {line : Line} {lock : Lock} {drv : Drive} {stk : Stroke} {chg : Charger} {gau : Gauge} {rtc : Nat} {rtcx : RtcX} {adc : Adc} {thm : Thm} {way : Way} {ticks freeCtr : Nat} :
    ({ pending := pending, pins := pins, regs := s.regs, power := s.power, sup := sup, ctl := ctl, hif := hif, eng := eng, tim := tim, dom := dom, mon := mon, flt := flt, mrq := mrq, nvm := nvm, line := line,
       lock := lock, drv := drv, stk := stk, chg := chg, gau := gau, rtc := rtc, rtcx := rtcx, adc := adc, thm := thm, way := way, ticks := ticks, freeCtr := freeCtr } : State).Past s₀ :=
  ⟨h.power, h.auth, h.rd, h.batt, h.reserve⟩

/-- Writes of registers that this does not speak of. -/
theorem State.Past.wr (h : s.Past s₀) {a : Nat} {w : Word} (ha : a ∉ A.STK_STAT :: A.GAU_STAT :: A.GAU_RESERVE :: tracked := by decide) : (s.wr a w).Past s₀ := by
  have hne : ∀ b ∈ A.STK_STAT :: A.GAU_STAT :: A.GAU_RESERVE :: tracked, (s.wr a w).rd b = s.rd b := fun b hb => s.rd_wr_ne w fun he => ha (he ▸ hb)
  refine ⟨h.power, (State.g_congr (hne A.GAU_STAT (by decide))).trans h.auth, fun b hb => (hne b (by simp [hb])).trans (h.rd b hb), fun hs => (State.b_congr (hne A.STK_STAT (by decide))).trans (h.batt hs), fun hs => ?_⟩
  have hr := hne A.GAU_RESERVE (by decide)
  exact (State.reserveOk_congr hr).trans (h.reserve hs)

theorem State.Past.p (h : s.Past s₀) {f : Fld} {v : Nat} (ha : f.addr ∉ A.STK_STAT :: A.GAU_STAT :: A.GAU_RESERVE :: tracked := by decide) : (s.p f v).Past s₀ := h.wr ha

theorem State.Past.inc (h : s.Past s₀) {a : Nat} (ha : a ∉ A.STK_STAT :: A.GAU_STAT :: A.GAU_RESERVE :: tracked := by decide) : (s.inc a).Past s₀ := by
  unfold State.inc State.wn
  split
  · exact h.wr ha
  · exact h

/-- A field of STK_STAT beside BATTPH, or BATTPH cleared. -/
theorem State.Past.stat (h : s.Past s₀) {f : Fld} {v : Nat} (hf : f.addr = A.STK_STAT := by rfl) (hlt : f.lsb + f.width ≤ 16 := by decide) (hc : clearsOnly f v = true := by decide) : (s.p f v).Past s₀ where
  power := h.power
  auth := (s.g_p_ne v (by rw [hf]; decide)).trans h.auth
  rd a ha := (s.rd_p_ne v (by rw [hf]; revert a; decide)).trans (h.rd a ha)
  batt hs := State.b_clearsOnly hlt hc (by decide) (h.batt hs)
  reserve hs := by
    have hr : (s.p f v).rd A.GAU_RESERVE = s.rd A.GAU_RESERVE := s.rd_p_ne v (by rw [hf]; decide)
    exact (State.reserveOk_congr hr).trans (h.reserve hs)

/-- A field of GAU_STAT beside AUTH. -/
theorem State.Past.gau (h : s.Past s₀) {f : Fld} {v : Nat} (hf : f.addr = A.GAU_STAT := by rfl) (hlt : f.lsb + f.width ≤ 16 := by decide)
    (hd : F.GAU_STAT_AUTH.lsb + F.GAU_STAT_AUTH.width ≤ f.lsb ∨ f.lsb + f.width ≤ F.GAU_STAT_AUTH.lsb := by decide) : (s.p f v).Past s₀ where
  power := h.power
  auth := (s.g_p_beside v hlt hd).trans h.auth
  rd a ha := (s.rd_p_ne v (by rw [hf]; revert a; decide)).trans (h.rd a ha)
  batt hs := (s.b_p_ne v (by rw [hf]; decide)).trans (h.batt hs)
  reserve hs := by
    have hr : (s.p f v).rd A.GAU_RESERVE = s.rd A.GAU_RESERVE := s.rd_p_ne v (by rw [hf]; decide)
    exact (State.reserveOk_congr hr).trans (h.reserve hs)

theorem State.noReserve (s : State) : (s.p F.GAU_RESERVE_STROKES 255).reserveOk = false := by
  unfold State.reserveOk
  rw [s.g_p_same F.GAU_RESERVE_STROKES 255 (by decide)]
  rfl

/-- No reserve shown. -/
theorem State.Past.unknown (h : s.Past s₀) : (s.p F.GAU_RESERVE_STROKES 255).Past s₀ where
  power := h.power
  auth := (s.g_p_ne 255 (by decide)).trans h.auth
  rd a ha := (s.rd_p_ne 255 (by revert a; decide)).trans (h.rd a ha)
  batt hs := (s.b_p_ne 255 (by decide)).trans (h.batt hs)
  reserve _ := s.noReserve

theorem State.Past.ite (hs : s.Past s₀) (ht : t.Past s₀) {c : Prop} [Decidable c] : (if c then s else t).Past s₀ := State.keeps_ite (P := (State.Past · s₀)) hs ht

theorem State.Past.when (h : s.Past s₀) {c : Bool} {f : State → State} (hf : ∀ t : State, t.Past s₀ → (f t).Past s₀) : (s.when c f).Past s₀ := State.keeps_when (P := (State.Past · s₀)) h hf

theorem State.Past.log (hl : t.LogOf s) (h : s.Past s₀) : t.Past s₀ := by
  have hp : t.power = s.power := by rw [hl.form]
  refine ⟨hp.trans h.power, hl.g.trans h.auth, fun a ha => (hl.rd a (by revert a; decide)).trans (h.rd a ha), fun hs => hl.b.trans (h.batt hs), fun hs => (State.reserveOk_congr (hl.rd _ (by decide))).trans (h.reserve hs)⟩

theorem State.Past.weirOff (h : s.Past s₀) : s.weirOff.Past s₀ := h.p.p (f := F.WEIR_STAT_TKLIM)

theorem State.Past.drvWeirChange (h : s.Past s₀) : s.drvWeirChange.Past s₀ := .ite (h.p (f := F.DRV_STAT_MODE)).beside h

theorem State.Past.endBattPhase (h : s.Past s₀) {c : Nat} : (s.endBattPhase (some c)).Past s₀ := by
  unfold State.endBattPhase
  split
  · have hb : ((s.p F.STK_STAT_BATTPH 0).setStk fun k => { k with proveTarget := none, pre := none }).Past s₀ := (h.stat (f := F.STK_STAT_BATTPH)).beside
    dsimp only
    generalize (s.p F.STK_STAT_BATTPH 0).setStk (fun k => { k with proveTarget := none, pre := none }) = u at hb ⊢
    have hp : ((u.p F.STK_PRVSTAT_LASTRES c).setStk fun k => { k with prv := c }).Past s₀ := hb.p.beside
    generalize (u.p F.STK_PRVSTAT_LASTRES c).setStk (fun k => { k with prv := c }) = v at hp ⊢
    exact State.Past.log ((State.LogOf.refl v).retarget.marker.marker.burst.handOff) hp
  · exact h

theorem State.Past.phaseGuard (h : s.Past s₀) : s.phaseGuard.Past s₀ := .ite (.ite h.endBattPhase (.ite h.endBattPhase h)) h

theorem State.Past.judgeCharger (h : s.Past s₀) : s.judgeCharger.Past s₀ := by
  unfold State.judgeCharger
  extract_lets zoned prev want boot cycled started phased st shown marked shared staged
  have h1 : zoned.Past s₀ := h.when fun _ ht => ht.p
  have h2 : cycled.Past s₀ := h1.when fun _ ht => ht.beside
  have h3 : started.Past s₀ := h2.when fun t ht => State.Past.inc (s := t.setChgR _) ht.beside
  have h4 : phased.Past s₀ := h3.when fun _ ht => ht.beside
  have h5 : shown.Past s₀ := (h4.p (f := F.CHG_STAT_STATE)).p (f := F.CHG_STAT_WCAUSE)
  have h6 : marked.Past s₀ := (h5.p (f := F.CHG_STAT_PRES)).p (f := F.CHG_STAT_UNAUTH)
  have h7 : shared.Past s₀ := h6.when fun _ ht => ((((ht.p (f := F.CHG_STAT_PREC)).p (f := F.CHG_STAT_YIELD)).p (f := F.CHG_STAT_HALF)).wr (a := A.CHG_ALLOW)).beside
  have hstop := fun c => h7.when (c := c) (f := State.chargerStopped) fun _ ht => .ite ht.beside ht
  have h8 : staged.Past s₀ := State.Past.wr (hstop _).beside
  exact .ite h8 h8.beside

theorem State.Past.judgeReserve (h : s.Past s₀) : s.judgeReserve.Past s₀ := by
  have hl : (s.pb F.GAU_STAT_LOW (!s.reserveOk)).Past s₀ := h.gau (f := F.GAU_STAT_LOW)
  exact .ite hl (State.Past.when hl.beside fun _ ht => ht.beside)

theorem State.Past.reserveLost (h : s.Past s₀) : s.reserveLost.Past s₀ := .ite h h.unknown.judgeReserve

theorem State.Past.roundOpen (h : s.Past s₀) {x : Rat} : (s.roundOpen x).2.Past s₀ := by
  obtain ⟨v, k, hr⟩ := s.roundOpen_frame x
  rw [hr]
  exact h.beside

theorem State.Past.precFollow (h : s.Past s₀) : s.precFollow.Past s₀ :=
  .ite h (((h.roundOpen.p (f := F.CHG_STAT_PREC)).p (f := F.CHG_ALLOW_PREC)).p (f := F.CHG_ALLOW_ILINE)).beside

theorem State.Past.restFollow (h : s.Past s₀) : s.restFollow.Past s₀ := State.Past.beside (h.when fun _ ht => ht.gau)

theorem State.Past.supplyFollow (h : s.Past s₀) : s.supplyFollow.Past s₀ := .ite (.ite h.beside (.ite h.beside (.ite h.beside h))) h

theorem State.Past.fieldFollow (h : s.Past s₀) {v : Nat} : (s.fieldFollow v).Past s₀ := .ite h.p h.p

theorem State.Past.queueReset (h : s.Past s₀) : s.queueReset.Past s₀ := by
  have hw := fun c => h.when (c := c) (f := (·.p F.STK_STAT_PKTLOST 1)) fun _ ht => ht.stat
  exact (((hw _).inc (a := A.MRQ_CNTRST)).p (f := F.MRQ_STAT_RST) (v := 1)).beside

theorem State.Past.checkPtrs (h : s.Past s₀) {c : Nat} : (s.checkPtrs c).Past s₀ := .ite h h.queueReset

theorem State.Past.dropPacket (h : s.Past s₀) {c : Nat} {b : PktBody} : (s.dropPacket c b).Past s₀ := by
  have hne : A.MRQ_DROP c ∉ A.STK_STAT :: A.GAU_STAT :: A.GAU_RESERVE :: tracked := fun hm => by
    have hle : ∀ a ∈ A.STK_STAT :: A.GAU_STAT :: A.GAU_RESERVE :: tracked, a < 0x0D0A := by decide
    exact absurd (hle _ hm) (Nat.not_lt.mpr (Nat.le_add_right _ _))
  have hd := (h.inc hne).p (f := F.MRQ_STAT_DROP) (v := 1)
  unfold State.dropPacket
  extract_lets dropped lost
  have hlost : lost.Past s₀ := by
    show State.Past (match b with | .engReport _ _ _ _ => dropped.p F.ENG_STAT_PKTLOST 1 | _ => dropped) s₀
    split
    · exact hd.p
    · exact hd
  split
  · exact hlost
  · exact hlost.beside

theorem State.Past.openPacket (h : s.Past s₀) {b : PktBody} : (s.openPacket b).Past s₀ := by
  unfold State.openPacket
  split
  · exact .ite h.checkPtrs.beside h.checkPtrs
  · exact .ite h.checkPtrs.beside h.checkPtrs.dropPacket

theorem State.Past.openPosted (h : s.Past s₀) : s.openPosted.Past s₀ :=
  State.keeps_each (P := (State.Past · s₀)) (State.keeps_each (P := (State.Past · s₀)) h.beside fun _ _ ht => ht.checkPtrs) fun _ _ ht => ht.openPacket

theorem State.Past.tryWriteBack (h : s.Past s₀) : s.tryWriteBack.Past s₀ := .ite (.ite h (.ite h.beside h.beside)) h.beside

theorem State.Past.wbWatch (h : s.Past s₀) : s.wbWatch.Past s₀ := by
  unfold State.wbWatch
  split
  · exact h.when fun _ ht => ht.beside
  · exact h.when fun _ ht => ht.beside
  · exact h
  · exact h

theorem State.Past.wantCopyB (h : s.Past s₀) : s.wantCopyB.Past s₀ := .ite h.beside h

theorem State.Past.fastFollow (h : s.Past s₀) : s.fastFollow.Past s₀ := h.when fun _ ht => ht.beside

end
end Sys2Proof.Machine
end

section
/-! PROOFS. A raise taken in FAULT (R622, R630). -/
namespace Sys2Proof.Machine

/-! ### A raise taken in FAULT -/

section
variable {s t : State} {l : List Taken} {r : Raise} {a k : Nat}

theorem State.rd_countNoStart_beyond (s : State) (r : Raise) (ha : 0x0340 ≤ a) : (s.countNoStart r).rd a = s.rd a := by
  unfold State.countNoStart State.when
  split
  next hr =>
    have hlt : r.source < 10 := of_decide_eq_true (Bool.and_eq_true_iff.mp hr).1
    exact s.rd_inc_ne (show a ≠ 0x0200 + (r.source + 1 - 1) * 0x20 + 2 + 2 by omega)
  next => rfl

theorem State.takeRaise_unenabled (h : (s.countNoStart r).srcEn r.source ≠ true) : State.takeRaise (s, l) r = (s.countNoStart r, l) := by
  unfold State.takeRaise
  exact if_neg h

/-- A register beyond the domains' that is neither the sticky word of an enabled source nor its count stands. -/
theorem State.rd_takeRaise (ha : 0x0340 ≤ a) (hs : s.srcEn r.source = true → a ≠ A.FLT_STK (r.source / 16)) (hc : a ≠ A.FLT_CNT r.source) (ht : a ≠ A.FLT_TEST) : (State.takeRaise (s, l) r).1.rd a = s.rd a := by
  by_cases hen : (s.countNoStart r).srcEn r.source = true
  · rw [State.rd_takeRaise_enabled l hen ht]
    unfold State.markRaise
    rw [State.rd_inc_ne _ hc, State.rd_setSticky_ne _ (hs (s.srcEn_countNoStart r r.source ▸ hen)), s.rd_countNoStart_beyond r ha]
  · rw [State.takeRaise_unenabled hen]
    exact s.rd_countNoStart_beyond r ha

/-- A raise sets bits, outside the counts, and clears none. -/
theorem State.bit_takeRaise (ha : 0x0340 ≤ a) (hc : a ≠ A.FLT_CNT r.source) (ht : a ≠ A.FLT_TEST) (h : s.bit a k = true) : (State.takeRaise (s, l) r).1.bit a k = true := by
  by_cases hen : (s.countNoStart r).srcEn r.source = true
  · rw [State.bit_congr ((State.rd_takeRaise_enabled l hen ht).trans (State.rd_inc_ne _ hc))]
    by_cases hk : a = A.FLT_STK (r.source / 16) ∧ k = r.source % 16
    · obtain ⟨rfl, rfl⟩ := hk
      exact State.sticky_setSticky_same _ _
    · unfold State.setSticky
      rw [State.bit_pbit_ne _ _ (Nat.mod_lt _ (by decide)) (by tauto), State.bit_congr (s.rd_countNoStart_beyond r ha), h]
  · rw [State.takeRaise_unenabled hen, State.bit_congr (s.rd_countNoStart_beyond r ha), h]

theorem State.dry_takeRaise : (State.takeRaise (s, l) r).1.b F.FLT_TEST_DRY = s.b F.FLT_TEST_DRY := by
  by_cases hen : (s.countNoStart r).srcEn r.source = true
  · have hregs : (State.takeRaise (s, l) r).1.regs = (((s.countNoStart r).markRaise r).markDry r ((s.countNoStart r).srcCls r.source)).regs := by
      rw [State.takeRaise_enabled l hen, State.recordNoStart_eq]
      exact State.reportRaise_regs _ _ _ _ _
    have hdry : ∀ (u : State) (c : Nat), (u.markDry r c).b F.FLT_TEST_DRY = u.b F.FLT_TEST_DRY := fun u c => by
      unfold State.markDry State.when
      split
      · exact u.b_p_beside 1 (by decide) (by decide)
      · rfl
    have hmark : ((s.countNoStart r).markRaise r).rd A.FLT_TEST = s.rd A.FLT_TEST := by
      unfold State.markRaise
      rw [State.rd_inc_ne _ (show 0x0C02 ≠ 0x0C80 + r.source by omega), State.rd_setSticky_ne _ (show 0x0C02 ≠ 0x0C10 + r.source / 16 by omega), s.rd_countNoStart_beyond r (by decide)]
    exact (congrArg (fun m : RegFile => F.FLT_TEST_DRY.get (m.get A.FLT_TEST) != 0) hregs).trans ((hdry _ _).trans (State.b_congr hmark))
  · rw [State.takeRaise_unenabled hen]
    exact State.b_congr (s.rd_countNoStart_beyond r (by decide))

/-! ### The second of two raises of source 31 -/

/-- Where source 31 need not act: the pack may stand authenticated, DRY may stand, a source beyond the 128 may have changed its class, or its class is not HALT. -/
def State.Escapes (s : State) : Prop := s.authOk = true ∨ s.b F.FLT_TEST_DRY = true ∨ (∃ k, s.bit 0x0C1B k = true) ∨ s.srcCls 31 ≠ 3

theorem State.authOk_congr (ha : t.g F.GAU_STAT_AUTH = s.g F.GAU_STAT_AUTH) (hc : t.rd A.GAU_CFG = s.rd A.GAU_CFG) : t.authOk = s.authOk := by
  unfold State.authOk
  rw [ha, State.b_congr (f := F.GAU_CFG_AUTHEN) hc]

theorem State.Past.escapes (h : t.Past s) (he : s.Escapes) : t.Escapes := by
  refine he.imp (fun hs => (State.authOk_congr h.auth (h.rd _ (by decide))).trans hs) (Or.imp (fun hs => (State.b_congr (f := F.FLT_TEST_DRY) (h.rd _ (by decide))).trans hs) (Or.imp ?_ ?_))
  · exact fun ⟨k, hk⟩ => ⟨k, (State.bit_congr (h.rd _ (by decide)) k).trans hk⟩
  · exact fun hs he => hs ((State.g_congr (f := ⟨A.FLT_CLS 3, 14, 2⟩) (h.rd _ (by decide))).symm.trans he)

theorem State.escapes_takeRaise (he : s.Escapes) : (State.takeRaise (s, l) r).1.Escapes := by
  have hlow : ∀ {a : Nat}, 0x0340 ≤ a → a < 0x0C00 → (State.takeRaise (s, l) r).1.rd a = s.rd a := fun {a} ha hb =>
    State.rd_takeRaise ha (fun _ => show a ≠ 0x0C10 + r.source / 16 by omega) (show a ≠ 0x0C80 + r.source by omega) (show a ≠ 0x0C02 by omega)
  by_cases hbit : ∃ k, s.bit 0x0C1B k = true
  · obtain ⟨k, hk⟩ := hbit
    exact .inr (.inr (.inl ⟨k, State.bit_takeRaise (by decide) (show 0x0C1B ≠ 0x0C80 + r.source by omega) (by decide) hk⟩))
  · refine he.imp (fun hs => (State.authOk_congr (State.g_congr (hlow (by decide) (by decide))) (hlow (by decide) (by decide))).trans hs) (Or.imp State.dry_takeRaise.trans (Or.imp (fun h => absurd h hbit) fun hs hc => hs ?_))
    refine (State.g_congr (f := ⟨A.FLT_CLS 3, 14, 2⟩) (State.rd_takeRaise (by decide) (fun hen hstk => ?_) (show 0x0C23 ≠ 0x0C80 + r.source by omega) (by decide))).symm.trans hc
    have hn : r.source / 16 = 19 := by
      have : 0x0C23 = 0x0C10 + r.source / 16 := hstk
      omega
    refine hbit ⟨r.source % 16, ?_⟩
    unfold State.srcEn at hen
    rw [hn] at hen
    exact hen

/-- A raise leaves the count of source 31 odd, or a class that acts is among those taken. -/
theorem State.count_takeRaise (hp : s.power = .fault) (he : ¬ s.Escapes) (h : s.bit (A.FLT_CNT 31) 0 = true) : (State.takeRaise (s, l) r).1.bit (A.FLT_CNT 31) 0 = true ∨ ∃ t ∈ (State.takeRaise (s, l) r).2, 2 ≤ t.cls := by
  by_cases hn : r.source = 31
  · by_cases hen : (s.countNoStart r).srcEn r.source = true
    · refine .inr ⟨_, by rw [State.takeRaise_taken l hen]; exact List.mem_append_right _ (List.mem_singleton_self _), ?_⟩
      obtain ⟨-, hdry, -, hcls⟩ : s.authOk ≠ true ∧ s.b F.FLT_TEST_DRY ≠ true ∧ (¬ ∃ k, s.bit 0x0C1B k = true) ∧ s.srcCls 31 = 3 := by
        unfold State.Escapes at he
        tauto
      show 2 ≤ (s.countNoStart r).appliedClass r
      rw [s.appliedClass_countNoStart]
      unfold State.appliedClass
      rw [hp, hn, hcls, Bool.eq_false_iff.mpr hdry]
      simp
    · rw [State.takeRaise_unenabled hen]
      exact .inl ((State.bit_congr (s.rd_countNoStart_beyond r (by decide)) 0).trans h)
  · exact .inl (State.bit_takeRaise (by decide) (show 0x0C80 + 31 ≠ 0x0C80 + r.source by omega) (by decide) h)

end
end Sys2Proof.Machine
end

section
/-! PROOFS. The end of a step time in FAULT. -/
namespace Sys2Proof.Machine

/-! ### The end of a step time in FAULT -/

section
variable {s t : State} {l : List Taken}

/-- Some class taken acts. -/
def acts (l : List Taken) : Prop := ∃ t ∈ l, 2 ≤ t.cls

theorem acts_of_strongest (h : acts l) : (strongest l).isSome = true := by
  obtain ⟨t, ht, h2⟩ := h
  have hs := strongest_spec l
  cases hl : strongest l with
  | none =>
    rw [hl] at hs
    exact absurd (hs t ht) (by omega)
  | some u => rfl

/-- In FAULT: source 31 need not act, its count is odd, no battery phase runs, or a raise taken acts. -/
def State.Odd (s : State) (l : List Taken) : Prop := s.power = .fault ∧ (s.Escapes ∨ s.bit (A.FLT_CNT 31) 0 = true ∨ s.b F.STK_STAT_BATTPH = false ∨ acts l)

/-- The same, the reserve shown as not enough where a raise taken acts. -/
def State.OddLow (s : State) (l : List Taken) : Prop :=
  s.power = .fault ∧ (s.Escapes ∨ s.bit (A.FLT_CNT 31) 0 = true ∨ s.b F.STK_STAT_BATTPH = false ∨ (acts l ∧ s.reserveOk = false))

theorem State.OddLow.odd (h : s.OddLow l) : s.Odd l := ⟨h.1, h.2.imp id (Or.imp id (Or.imp id And.left))⟩

theorem State.Odd.past (h : s.Odd l) (ht : t.Past s) : t.Odd l :=
  ⟨ht.power.trans h.1, h.2.imp ht.escapes (Or.imp ((State.bit_congr (ht.rd _ (by decide)) 0).trans ·) (Or.imp ht.batt id))⟩

theorem State.OddLow.past (h : s.OddLow l) (ht : t.Past s) : t.OddLow l :=
  ⟨ht.power.trans h.1, h.2.imp ht.escapes (Or.imp ((State.bit_congr (ht.rd _ (by decide)) 0).trans ·) (Or.imp ht.batt fun ⟨ha, hr⟩ => ⟨ha, ht.reserve hr⟩))⟩

/-! #### Raises -/

theorem State.power_takeRaise {r : Raise} (h : s.power = .fault) : (State.takeRaise (s, l) r).1.power = .fault :=
  (State.ControlOf.takeRaise (x := (s, l)) (State.ControlOf.refl s)).power.elim (·.trans h) fun hr => absurd (h.symm.trans hr.1) (by decide)

theorem State.Odd.takeRaise {r : Raise} (h : s.Odd l) : (State.takeRaise (s, l) r).1.Odd (State.takeRaise (s, l) r).2 := by
  obtain ⟨hp, h⟩ := h
  have hacts : acts l → acts (State.takeRaise (s, l) r).2 := fun ⟨t, ht, h2⟩ => by
    refine ⟨t, ?_, h2⟩
    by_cases hen : (s.countNoStart r).srcEn r.source = true
    · rw [State.takeRaise_taken l hen]
      exact List.mem_append_left _ ht
    · rw [State.takeRaise_unenabled hen]
      exact ht
  have hbatt : (State.takeRaise (s, l) r).1.b F.STK_STAT_BATTPH = s.b F.STK_STAT_BATTPH :=
    State.b_congr (State.rd_takeRaise (by decide) (fun _ => show 0x0580 ≠ 0x0C10 + r.source / 16 by omega) (show 0x0580 ≠ 0x0C80 + r.source by omega) (by decide))
  refine ⟨State.power_takeRaise hp, ?_⟩
  by_cases he : s.Escapes
  · exact .inl (State.escapes_takeRaise he)
  · rcases h with h | h | h | h
    · exact absurd h he
    · exact .inr ((State.count_takeRaise hp he h).imp id .inr)
    · exact .inr (.inr (.inl (hbatt.trans h)))
    · exact .inr (.inr (.inr (hacts h)))

theorem State.Odd.takeRaises (h : s.Odd l) (rs : List Raise) : (rs.foldl State.takeRaise (s, l)).1.Odd (rs.foldl State.takeRaise (s, l)).2 := by
  induction rs generalizing s l with
  | nil => exact h
  | cons r rs ih => exact ih h.takeRaise

theorem acts_append {m : List Taken} : acts (l ++ m) ↔ acts l ∨ acts m :=
  ⟨fun ⟨t, ht, h2⟩ => (List.mem_append.mp ht).imp (⟨t, ·, h2⟩) (⟨t, ·, h2⟩), fun h => h.elim (fun ⟨t, ht, h2⟩ => ⟨t, List.mem_append_left _ ht, h2⟩) fun ⟨t, ht, h2⟩ => ⟨t, List.mem_append_right _ ht, h2⟩⟩

theorem State.Odd.collect (h : s.Odd l) : s.collect.1.Odd (l ++ s.collect.2) := by
  have hon : s.aoOn = true := State.aoOn_of_power h.1 (by decide)
  have hp : s.collect.1.power = .fault := (State.ControlOf.refl s).collect.power.elim (·.trans h.1) fun hr => absurd (h.1.symm.trans hr.1) (by decide)
  by_cases hl : acts l
  · exact ⟨hp, .inr (.inr (.inr (acts_append.mpr (.inl hl))))⟩
  · have hnil : s.Odd [] := ⟨h.1, h.2.imp id (Or.imp id (Or.imp id fun ha => absurd ha hl))⟩
    have hc : s.collect.1.Odd s.collect.2 := by
      unfold State.collect
      rw [hon, h.1]
      split
      · exact hnil
      · have hclear : (s.setFlt fun f => { f with raised := [] }).Odd [] := hnil.past (State.Past.refl s).beside
        exact hclear.takeRaises s.flt.raised
    exact ⟨hp, hc.2.imp id (Or.imp id (Or.imp id fun ha => acts_append.mpr (.inr ha)))⟩

/-! #### What follows -/

theorem State.running_fault (h : s.power = .fault) : s.running = false := by
  unfold State.running
  rw [h]
  rfl

theorem State.past_reserveFollow (h : s.power = .fault) : s.reserveFollow.Past s := by
  have hidle : ∀ u : State, u.power = s.power → u.gaugeRuns = false := fun u hu => State.running_fault (hu.trans h)
  unfold State.reserveFollow State.when
  split
  · dsimp only
    split
    next hg => exact absurd hg (ne_true_of_eq_false (hidle _ rfl))
    next => exact (State.Past.refl s).beside
  · exact State.Past.refl s

/-- R266: in FAULT the weir is forced off. -/
theorem State.past_weirFollow (h : s.power = .fault) : s.weirFollow.Past s := by
  have hm : s.weirMode = .forcedOff := by
    have hc : s.weirOffCause ≠ 0 := by
      unfold State.weirOffCause
      rw [State.running_fault h]
      cases s.sup.pack <;> simp
    exact if_pos hc
  unfold State.weirFollow
  rw [hm]
  exact (State.Past.refl s).weirOff.beside

/-- What follows in FAULT, up to the battery phase. -/
theorem State.past_drvWeirChange (h : s.power = .fault) : s.reserveFollow.weirFollow.drvWeirChange.Past s := by
  have hr := State.past_reserveFollow h
  exact ((State.past_weirFollow (hr.power.trans h)).trans hr).drvWeirChange

theorem State.followUp_fault (h : s.power = .fault) :
    s.followUp = ((s.reserveFollow.weirFollow.drvWeirChange.phaseGuard.judgeCharger.reserveLost.precFollow.restFollow.supplyFollow).fieldFollow s.drv.vdrv) :=
  if_pos (State.aoOn_of_power h (by decide))

theorem State.past_followUp (h : s.power = .fault) : s.followUp.Past s := by
  rw [State.followUp_fault h]
  exact (State.past_drvWeirChange h).phaseGuard.judgeCharger.reserveLost.precFollow.restFollow.supplyFollow.fieldFollow

/-- Where the pack is not authenticated the reserve is shown as unknown. -/
theorem State.reserveOk_followUp (h : s.power = .fault) (ha : s.authOk = false) : s.followUp.reserveOk = false := by
  have hu := (State.past_drvWeirChange h).phaseGuard.judgeCharger
  rw [State.followUp_fault h]
  generalize s.reserveFollow.weirFollow.drvWeirChange.phaseGuard.judgeCharger = u at hu ⊢
  have hauth : u.authOk = false := (State.authOk_congr hu.auth (hu.rd _ (by decide))).trans ha
  have hav : u.reserveAvailable = false := by
    unfold State.reserveAvailable
    rw [hauth]
    simp
  have hlost : u.reserveLost.reserveOk = false := by
    unfold State.reserveLost
    rw [hav]
    exact (State.Past.refl (u.p F.GAU_RESERVE_STROKES 255)).judgeReserve.reserve u.noReserve
  exact (State.Past.refl u.reserveLost).precFollow.restFollow.supplyFollow.fieldFollow.reserve hlost

theorem State.batt_endBattPhase {c : Nat} (s : State) : (s.endBattPhase (some c)).b F.STK_STAT_BATTPH = false := by
  cases hb : s.b F.STK_STAT_BATTPH with
  | false => exact (State.Past.refl s).endBattPhase.batt hb
  | true =>
    unfold State.endBattPhase
    rw [if_pos hb]
    dsimp only
    have h0 : (s.p F.STK_STAT_BATTPH 0).b F.STK_STAT_BATTPH = false := by
      unfold State.b
      rw [State.g_p_same _ _ _ (by decide)]
      rfl
    have hp : (((s.p F.STK_STAT_BATTPH 0).setStk fun k => { k with proveTarget := none, pre := none }).p F.STK_PRVSTAT_LASTRES c).b F.STK_STAT_BATTPH = false := (State.b_p_ne _ _ (by decide)).trans h0
    exact (State.LogOf.b ((State.LogOf.refl _).retarget.marker.marker.burst.handOff)).trans hp

/-- R368: a reserve that is not enough ends the battery phase. -/
theorem State.batt_followUp (h : s.power = .fault) (hr : s.reserveOk = false) : s.followUp.b F.STK_STAT_BATTPH = false := by
  have hu := State.past_drvWeirChange h
  rw [State.followUp_fault h]
  generalize s.reserveFollow.weirFollow.drvWeirChange = u at hu ⊢
  have hend : u.phaseGuard.b F.STK_STAT_BATTPH = false := by
    unfold State.phaseGuard
    rw [hu.reserve hr]
    split
    · split
      · exact State.batt_endBattPhase u
      · exact State.batt_endBattPhase u
    next hb => exact Bool.eq_false_iff.mpr hb
  exact (State.Past.refl u.phaseGuard).judgeCharger.reserveLost.precFollow.restFollow.supplyFollow.fieldFollow.batt hend

/-! #### The passes -/

theorem State.Odd.followUp (h : s.Odd l) : s.followUp.OddLow l := by
  have hp := State.past_followUp h.1
  obtain ⟨hf, hs⟩ := h.past hp
  refine ⟨hf, ?_⟩
  by_cases ha : s.authOk = true
  · exact .inl (hp.escapes (.inl ha))
  · exact hs.imp id (Or.imp id (Or.imp id (⟨·, State.reserveOk_followUp h.1 (Bool.eq_false_iff.mpr ha)⟩)))

theorem State.Odd.round (h : s.Odd l) :
    (s.collect.1.followUp.when (s.collect.1.followUp.aoOn && s.collect.1.followUp.power ≠ .boot) State.openPosted).OddLow (l ++ s.collect.2) :=
  h.collect.followUp.past ((State.Past.refl _).when fun _ ht => ht.openPosted)

theorem State.Odd.gather {n : Nat} (h : s.Odd l) : (s.gather State.followUp (n + 1) l).1.OddLow (s.gather State.followUp (n + 1) l).2 := by
  induction n generalizing s l with
  | zero =>
    unfold State.gather
    dsimp only
    split <;> exact h.round
  | succ n ih =>
    unfold State.gather
    dsimp only
    split
    · exact h.round
    · exact ih h.round.odd

theorem State.OddLow.judged (h : s.OddLow l) : ((s.react l).when (strongest l).isSome State.followUp).Odd [] := by
  have hreact : s.react l = s := by
    unfold State.react
    split
    · rfl
    · rw [h.1]
  rw [hreact]
  have hp := State.past_followUp h.1
  have hnil : ¬ acts l → s.Odd [] := fun hl => ⟨h.1, h.2.imp id (Or.imp id (Or.imp id fun ha => absurd ha.1 hl))⟩
  by_cases hl : acts l
  · unfold State.when
    rw [if_pos (acts_of_strongest hl)]
    refine ⟨hp.power.trans h.1, ?_⟩
    rcases h.2 with he | ho | hb | ⟨-, hr⟩
    · exact .inl (hp.escapes he)
    · exact .inr (.inl ((State.bit_congr (hp.rd _ (by decide)) 0).trans ho))
    · exact .inr (.inr (.inl (hp.batt hb)))
    · exact .inr (.inr (.inl (State.batt_followUp h.1 hr)))
  · unfold State.when
    split
    · exact (hnil hl).past hp
    · exact hnil hl

theorem State.past_followOn (h : s.power = .fault) : s.followOn.Past s := by
  refine State.Past.when (State.Past.refl s) fun t ht => ?_
  have hdue : (t.when t.nvm.wbDue fun s => (s.setNvm fun n => { n with wbDue := false }).tryWriteBack).wbWatch.wantCopyB.Past s := (ht.when fun u hu => State.Past.tryWriteBack (s := u.setNvm _) hu.beside).wbWatch.wantCopyB
  have hfin : ∀ u : State, u.Past s → u.finishEntry = u := fun u hu => by
    unfold State.finishEntry
    rw [hu.power, h]
    simp
  dsimp only
  rw [hfin _ hdue]
  exact hdue.fastFollow

theorem State.Odd.judgePass (h : s.Odd []) : s.judgePass.Odd [] := by
  have hg := (h.gather (n := 7)).judged
  unfold State.judgePass
  generalize s.gather State.followUp 8 [] = g at hg ⊢
  exact hg.past (State.past_followOn hg.1)

theorem State.Odd.judgeAll (h : s.Odd []) (fuel : Nat) : (s.judgeAll fuel).Odd [] := by
  induction fuel generalizing s with
  | zero => exact h
  | succ n ih =>
    unfold State.judgeAll
    dsimp only
    split
    · exact h.judgePass
    · exact ih h.judgePass

/-- The end of a step time in FAULT. -/
theorem State.Odd.settle (h : s.Odd []) : s.settle.Odd [] := by
  have hall := h.judgeAll 16
  unfold State.settle
  generalize s.judgeAll 16 = t at hall ⊢
  have hposted : t.commitPosted.Past t := State.keeps_each (P := (State.Past · t)) (State.Past.openPosted (.refl t)).beside fun _ _ hu => hu.beside
  have hcommit : t.commitAll.Past t := .ite (.refl t) (.ite hposted (State.Past.refl t).beside)
  have hseen : t.commitAll.statusFollow.Past t := .ite hcommit hcommit.beside
  exact hall.past hseen.beside

end
end Sys2Proof.Machine
end

section
/-! PROOFS. A power-down that lasts too long where source 31 is already raised (R195). -/
namespace Sys2Proof.Machine

/-! ### A power-down that lasts too long where source 31 is already raised (R195) -/

/-- POWER-DOWN with a raise of source 31 waiting, a battery phase with no stroke, a pack that is not authenticated, and a reserve still shown. -/
def lateProving : State :=
  ((((({ State.reset with
       power := .powerDown
       sup := { State.reset.sup with pack := true }
       gau := { State.reset.gau with ok85 := false }
       flt := { State.reset.flt with held := [], raised := [⟨31, .detector, 6⟩] } } : State).p F.DOM_SEQCFG_PDMAX 1).p F.STK_STAT_BATTPH 1).p F.GAU_CFG_AUTHEN 1).wr A.GAU_RESERVE 5).p ⟨A.FLT_CLS 3, 14, 2⟩ 3

theorem lateProving_holds : lateProving.power = .powerDown ∧ lateProving.ctl.entryWaits = none ∧ lateProving.g F.DOM_SEQCFG_PDMAX ≠ 0 ∧ lateProving.srcEn 31 = true ∧ lateProving.rn (A.FLT_CNT 31) = 0 := by decide +kernel

/-- Both raises of source 31 counted, as HALT, and the battery phase still there. -/
def countsTwice : Result → Bool
  | .next t => !t.authOk && !t.b F.FLT_TEST_DRY && t.rn 0x0C1B = 0 && t.srcCls 31 = 3 && !t.bit (A.FLT_CNT 31) 0 && t.b F.STK_STAT_BATTPH
  | _ => false

theorem lateProving_countsTwice : countsTwice (exec .pdmaxExpiry lateProving) = true := by decide +kernel

/-- A state in FAULT that has counted one of them ends no step time so: it takes the other, which acts, and what follows once more ends the battery phase. -/
theorem countsTwice_settle {e : State} (hp : e.power = .fault) (hc : e.rn (A.FLT_CNT 31) = 1) : countsTwice (.next e.settle) = false := by
  have hbit : e.bit (A.FLT_CNT 31) 0 = true := by
    unfold State.bit
    rw [hc]
    rfl
  obtain ⟨-, h⟩ := State.Odd.settle (s := e) ⟨hp, .inr (.inl hbit)⟩
  generalize e.settle = t at h ⊢
  by_contra hne
  have hall := Bool.not_eq_false _ ▸ hne
  simp only [countsTwice, Bool.and_eq_true, Bool.not_eq_true', decide_eq_true_eq] at hall
  obtain ⟨⟨⟨⟨⟨hauth, hdry⟩, hbeyond⟩, hcls⟩, hodd⟩, hbatt⟩ := hall
  rcases h with (he | he | ⟨k, he⟩ | he) | he | he | ⟨t, ht, -⟩
  · exact Bool.noConfusion (hauth.symm.trans he)
  · exact Bool.noConfusion (hdry.symm.trans he)
  · unfold State.bit at he
    rw [hbeyond, Nat.zero_testBit] at he
    exact Bool.noConfusion he
  · exact he hcls
  · exact Bool.noConfusion (hodd.symm.trans he)
  · exact Bool.noConfusion (hbatt.symm.trans he)
  · exact absurd ht List.not_mem_nil

/-- Refutes O43: where a raise of source 31 already waits as PDMAX expires, both are counted before FAULT is entered, and no raise is left to act in it; a state in FAULT whose count shows one more than before would have to take the other there, and what follows a raise that acts ends a battery phase that the expiry leaves. -/
theorem not_lockAndProgramLimits : ¬ Obligations.LockAndProgramLimits := by
  unfold Obligations.LockAndProgramLimits
  intro h
  obtain ⟨-, -, -, -, -, hexpiry, -⟩ := h
  obtain ⟨hpow, hwait, hmax, hen, hcnt⟩ := lateProving_holds
  obtain ⟨e, he, hp, hsrc, -, -⟩ := hexpiry lateProving hpow hwait hmax
  have hone : e.rn (A.FLT_CNT 31) = 1 := (hsrc hen).2.trans (by rw [hcnt]; rfl)
  have htwice := lateProving_countsTwice
  rw [he, countsTwice_settle hp hone] at htwice
  exact Bool.noConfusion htwice

end Sys2Proof.Machine
end
